-- ==== Sys2Proof/Word.lean ====
section
/-! DEFINITION. The words of the device: registers are 32 bits wide (R10), memory is a sequence of bytes. -/

namespace Sys2Proof

/-- A 32-bit register word (R10). -/
abbrev Word := BitVec 32

/-- One byte. -/
abbrev Byte := BitVec 8

end Sys2Proof
end

