-- ==== Sys2Proof/Syntax.lean ====
section
/-! DEFINITION. The commands and their operands: one constructor of `Instr` per row of spec/opcode_table.json. What the
device measures or receives from outside (an analogue value, a frame's bytes, an image, a duration) is an operand. -/

namespace Sys2Proof

/-- The bus masters of R420: M0 and M1 housekeeping processors, M2 DMA, M3 PCIe inbound (the host), M4 sideband bridge,
M5 Formula loader, M6 Sillage writer, M7 debug port. -/
inductive Master where
  | m0 | m1 | m2 | m3 | m4 | m5 | m6 | m7
  deriving DecidableEq, Repr

/-- What a hold or freeze write addresses: one loop's LOOP_CTRL or a course's COURSE_CTRL (R141, R151). -/
inductive LoopScope where
  | loop (l : Fin 4864)
  | course (c : Fin 19)
  deriving DecidableEq, Repr

/-- The common Kowin header as received (R225): the FLAGS by name, and whether PAYLOAD_CRC is right. -/
structure KHeader where
  type : Nat
  length : Nat
  seq : Nat
  sys : Bool
  fromDevice : Bool
  retry : Bool
  unit : Nat
  claim : Nat
  credit : Nat
  crcOk : Bool
  deriving DecidableEq, Repr

/-- HELLO from an endpoint (R232), with the frame's source addresses (R224). -/
structure EpHello where
  version : Nat
  peerSeen : Bool
  nextSeq : Nat
  epId : Nat
  mac : Nat
  ip : List Word
  deriving DecidableEq, Repr

/-- One entry of a DEMAND (R198, R233); colour 0 GREEN, 1 YELLOW, 2 RED, 3 invalid. -/
structure DemandEntry where
  dest : Nat
  cls : Nat
  colour : Nat
  reset : Bool
  count : Nat
  deriving DecidableEq, Repr

/-- DEMAND (R233): `number` is the ENTRIES field. -/
structure DemandMsg where
  frame : Nat
  active : Nat
  number : Nat
  entries : List DemandEntry
  deriving DecidableEq, Repr

/-- SETUP (R235). -/
structure SetupMsg where
  id : Nat
  bidir : Bool
  peer : Nat
  inPort : Nat
  outPort : Nat
  revIn : Nat
  revOut : Nat
  sec : Nat
  ns : Nat
  deriving DecidableEq, Repr

/-- RELEASE (R235). -/
structure ReleaseMsg where
  id : Nat
  owner : Nat
  sec : Nat
  ns : Nat
  deriving DecidableEq, Repr

/-- STATUS (R238): CODE and bytes 4 to 7. -/
structure StatusMsg where
  code : Nat
  word : Nat
  deriving DecidableEq, Repr

/-- A time of ECHO or RELAY: seconds and nanoseconds. -/
structure Stamp where
  sec : Nat
  ns : Nat
  deriving DecidableEq, Repr

/-- ECHO (R239); `op` 0 request, 1 reply. -/
structure EchoMsg where
  op : Nat
  token : Nat
  t1 : Stamp
  t2 : Stamp
  t3 : Stamp
  deriving DecidableEq, Repr

/-- RELAY (R240): `inner` is a complete Kowin message. -/
structure RelayMsg where
  unit : Nat
  lane : Nat
  dir : Nat
  rx : Stamp
  inner : List Byte
  deriving DecidableEq, Repr

/-- TIER_HELLO (R297), with the frame's source addresses (R224). -/
structure TierHello where
  version : Nat
  peerSeen : Bool
  twinLane : Bool
  role : Nat
  unit : Nat
  sysTag : Nat
  composeTag : Nat
  claim : Nat
  twinState : Nat
  mode : Nat
  matchRun : Nat
  nextSeq : Nat
  mac : Nat
  ip : List Word
  deriving DecidableEq, Repr

/-- ACCORD (R297): bytes 0 to 799 of the record of a slot. -/
structure AccordMsg where
  frame : Nat
  slot : Nat
  record : List Byte
  deriving DecidableEq, Repr

/-- FRAME_END (R297). -/
structure FrameEndMsg where
  frame : Nat
  records : Nat
  recordsCrc : Nat
  digest : Nat
  stateCrc : Nat
  standSeq : Nat
  deriving DecidableEq, Repr

/-- STANDING (R297): `kind` 0 UPDATE, 1 ARM, 2 DISARM. -/
structure StandingMsg where
  kind : Nat
  index : Nat
  frame : Nat
  slot : Nat
  record : List Byte
  deriving DecidableEq, Repr

/-- SWITCH (R297): `op` 0 APPLY, 1 REQUEST. -/
structure SwitchMsg where
  op : Nat
  index : Nat
  inserted : Bool
  frame : Nat
  slot : Nat
  offset : Nat
  deriving DecidableEq, Repr

/-- RESYNC (R297): `op` 0 REQUEST, 1 ACCEPT, 2 DONE, 3 FAIL. -/
structure ResyncMsg where
  op : Nat
  cause : Nat
  frame : Nat
  deriving DecidableEq, Repr

/-- CHECKPOINT (R297). -/
structure CheckpointMsg where
  offset : Nat
  total : Nat
  crc : Nat
  bytes : List Byte
  deriving DecidableEq, Repr

/-- A ring of blocks or entries: of Sillage (R114), of the parser (R271), or the PTP transmit ring (R292). -/
inductive RingId where
  | sillage (n : Fin 8)
  | parser (n : Fin 2)
  | ptx
  deriving DecidableEq, Repr

/-- A word of a ring whose write a ring rule judges: BASE, SIZE or CFG (R108, R267). -/
inductive RingWord where
  | base | size | cfg
  deriving DecidableEq, Repr

/-- What completes a capture block (R105, R107): the ADC pair's samples (`b` used in DUAL mode), or the focus samples that have
come from a tile. -/
inductive SilStream where
  | adc (a b : List (BitVec 12))
  | focus (t : Fin 76)
  deriving DecidableEq, Repr

/-- How the bus takes a block (R109, R113). -/
inductive SilBus where
  /-- It is written. -/
  | written
  /-- A stall has filled the staging memory: the block is lost. -/
  | stalled
  /-- The write ends in a bus error. -/
  | error
  deriving DecidableEq, Repr

/-- One calibration's measurement of a tile (R349, R352, R355): whether it departed too far from the reference, and the
computed trim codes before their limits: the eight of REF_TRIM and CONV_TRIM, then the 512 of the coefficient array, in
address order. -/
structure CalMeasure where
  failed : Bool
  trims : List Int
  deriving DecidableEq, Repr

/-- What a re-plan window saw of a loop (R362, R363): the loop was fit to be evaluated throughout; the sums over the 64 reads
of I_s (2^-16 codes) and of the tile temperature (0.01 °C); FED0 and FED1 both seen set; the mean of q (units of 2^-32; none
while PROBE_EST is 0); the mean of den; the heater voltage (µV). -/
structure LoopObs where
  fit : Bool
  i0 : Int
  i1 : Int
  temp : Int
  fed : Bool
  q : Option Nat
  den : Nat
  heaterUv : Nat
  deriving DecidableEq, Repr

/-- What step 7 measures of a loop (R337): the probe nulls of states 0 and 1 where DITHER locked; a trim loop's y at the 64
steps of its sweep; under full characterisation VPI_P, PPI_H and RATIO in the units of R368. -/
structure CharLoop where
  lock : Option (Nat × Nat)
  sweep : List Nat
  vpi : Nat
  ppi : Nat
  ratio : Nat
  deriving DecidableEq, Repr

/-- A characterisation (R337–R339): the loops in index order, and whether it is complete when an ABORT is sampled. -/
structure Characterisation where
  loops : List CharLoop
  complete : Bool
  deriving DecidableEq, Repr

/-- A read of the flash (R330): the attempts that failed before it, and its bytes from offset 0 and from 0x00C0_0000. -/
structure FlashRead where
  errors : Nat
  low : List Byte
  high : List Byte
  deriving DecidableEq, Repr

/-- The image that BOOT_SRC selects. -/
def FlashRead.image (r : FlashRead) (bootSrc : Bool) : List Byte := if bootSrc then r.high else r.low

/-- A burst in flight of a master that is reset (R427): the target and the beats left. -/
structure Orphan where
  master : Master
  target : Fin 8
  beats : Nat
  deriving DecidableEq, Repr

/-- What a cold start meets outside the registers (R324–R337): whether the sideband is alive; the straps; the two reads of the
flash; the first memory whose BIST fails; every tile's calibration; the Sillage coefficients; the passport, which the first
start shows for good; the characterisation, and whether the start stands at it; the microseconds each step takes; bursts in
flight. -/
structure StartEnv where
  sideband : Bool
  role : Bool
  unit : Fin 32
  bootSrc : Bool
  first : FlashRead
  second : FlashRead
  bist : Option (Fin 65536)
  cal : List CalMeasure
  silCoef : Word
  passport : List Byte
  char : Characterisation
  stand : Bool
  stepUs : List Nat
  orphans : List Orphan
  deriving DecidableEq, Repr

/-- What a warm start meets outside the registers (R341, R342): the re-read header; the first failing word and the count of
failures of a parity, of the repetitive memories and of the kept registers; damage that the CRCs of the Composer, of the
parser's banks and of the circuit contexts find, as the failing index and the count; the first tile whose trims read back
differ, with their count; the first tile whose drive rail failed since the trigger, with their count; tiles whose link does
not come up; the microseconds each step takes; bursts in flight. -/
structure WarmEnv where
  header : FlashRead
  repParity : Option (Nat × Nat)
  regParity : Option (Nat × Nat)
  composer : Option (Nat × Nat)
  parser : Option (Nat × Nat)
  contexts : Option (Nat × Nat)
  trims : Option (Nat × Nat)
  rails : Option (Nat × Nat)
  links : List (Fin 76)
  stepUs : List Nat
  orphans : List Orphan
  deriving DecidableEq, Repr

/-- The PEC of an SMBus transaction as received (R410). -/
inductive Pec where
  | none | good | bad
  deriving DecidableEq, Repr

/-- What the host has set in the function's configuration space (R396, R398, R402, R404): the command and MSI-X bits; Max_Payload_Size
and Max_Read_Request_Size as 128 bytes doubled so many times; Relaxed Ordering, No Snoop and ASPM L1 enabled; bits 63 to 26 of
the two BARs; the AER status bits it has written 1 to since its last request. -/
structure PcieCfg where
  memSpace : Bool
  busMaster : Bool
  msixEnable : Bool
  funcMask : Bool
  maxPayload : Fin 3
  maxRead : Fin 6
  relaxed : Bool
  noSnoop : Bool
  aspmL1 : Bool
  bar0 : BitVec 38
  bar2 : BitVec 38
  aerClear : BitVec 32
  deriving DecidableEq, Repr

/-- A memory request of the host to a BAR (R399, R400): the byte offset of its first DW, and its DWs with their byte enables;
of a read the words are not used. -/
structure HostReq where
  offset : Nat
  write : Bool
  dws : List (Word × BitVec 4)
  deriving DecidableEq, Repr

/-- A burst that stands at a target port (R419–R423): its master, the active requestors behind that input, the internal
address, its length, and its bytes: those written, or those that boot ROM, flash or host memory returns. `fails`: the target
answers with an error. -/
structure BusReq where
  master : Master
  active : Nat
  write : Bool
  addr : Nat
  len : Nat
  bytes : List Byte
  fails : Bool
  deriving DecidableEq, Repr

/-- A response that reaches a DMA channel (R432, R433): write responses for so many bytes, the flushing read's return, or an
error on the beat at this offset of the descriptor, on its source read or on its write. -/
inductive DmaAnswer where
  | written (bytes : Nat)
  | flushed
  | error (offset : Nat) (source : Bool)
  deriving DecidableEq, Repr

/-- `issued` bytes of the descriptor have issued when the answer comes; `bytes` are those of the newly issued ones that host
memory or flash returned. -/
structure DmaResp where
  issued : Nat
  bytes : List Byte
  answer : DmaAnswer
  deriving DecidableEq, Repr

/-- A Mortar configuration word (R442): CH_CFG of a channel, or TI_CFG of a task input. -/
inductive MortarWord where
  | channel (n : Fin 256)
  | input (t : Fin 160)
  deriving DecidableEq, Repr

/-- The commands the device takes: one constructor per row of spec/opcode_table.json. -/
inductive Instr where
  /-- R323: VIN rising through its UVLO releases the always-on domain, reads the brown-out latch, scans the trip ring, completes half-programmed fuses and samples the SMBus address strap. -/
  | alwaysOnPowerUp (unit : Fin 32)
  /-- R454: VIN falling below the falling UVLO turns every domain off and clears every SEAL latch. -/
  | vinLoss
  /-- R321: EN asserted with VIN in range, or VIN entering its range with EN asserted, powers the main and drive rails in state OFF. -/
  | enAssert
  /-- R325: EN deassertion puts the main side into reset at once, drops PGOOD, turns the rails off and makes STATE OFF; a low period of 500 ms or more clears SEAL. -/
  | enDeassert
  /-- R487: A low pulse on EN shorter than 1 µs is filtered and ignored. -/
  | enGlitch
  /-- R375: PGOOD asserts once every main and drive rail has been within its window for 1 ms. -/
  | pgoodAssert
  /-- R375: PGOOD deasserts within 10 µs of any main or drive rail leaving its window. -/
  | pgoodDeassert
  /-- R323: Main-side reset release, by COLD_RST# release or internally 1 ms after PGOOD, samples the straps, makes STATE COLD and runs the cold start from step 3. -/
  | mainResetRelease (env : StartEnv)
  /-- R321: COLD_RST# held low for at least 10 µs and released starts a cold start at the rising edge, or restarts one in progress at step 3. -/
  | coldRstRelease (lowNs : Nat) (env : StartEnv)
  /-- R321: WARM_RST# low for at least 1 µs in GATED or SERVING starts a warm start at the falling edge; in PARKED it is ignored with PIN_IGNORED. -/
  | warmRstAssert (lowNs : Nat)
  /-- R321: START_CMD.COLD from the host or sideband host starts a cold start in WARM, GATED, SERVING or PARKED, otherwise is refused with START_REFUSED. -/
  | startCmdCold (m : Master) (env : StartEnv)
  /-- R345: START_CMD.WARM starts a warm start from GATED or SERVING, or from PARKED only when RETAIN_OK = 1 and WARM_FAILS < 3. -/
  | startCmdWarm (m : Master)
  /-- R327: START_CMD.SERVE in GATED runs cold-start step 9; outside GATED it is refused. -/
  | startCmdServe (m : Master)
  /-- R339: START_CMD.ABORT during step 7 either is ignored because characterisation completed or parks the device with CHAR_ABORTED. -/
  | startCmdAbort (m : Master)
  /-- R341: A warm start sets H_WARM, takes lanes down, idles both banks, discards pending standing updates and switches, issues one last strobe and stops plane strobes. -/
  | warmStart (env : WarmEnv)
  /-- R341: At the first frame boundary at or after the end of W4 plus 10 µs, plane strobes resume on S and REST, STATE becomes SERVING and lanes are released. -/
  | warmResume
  /-- R328: Cold-start step 10 takes effect at the first slot boundary at or after the commit plus 2 µs, strobing S merged with REST and making STATE SERVING. -/
  | serviceStart
  /-- R376: A main rail outside its window for 10 µs or more resets the main side as EN deassertion does and raises RAIL_FAULT. -/
  | mainRailFault
  /-- R71: A drive rail becoming good resets the analogue latches to clamped outputs, zero heater current and closed shutters, and starts tile link training and scanning. -/
  | driveRailGood (d : Fin 4)
  /-- R73: A drive rail failing leaves the tile die's outputs undriven, opens its shutters and raises DRV_RAIL. -/
  | driveRailFail (d : Fin 4)
  /-- R276: Loss of REFCLK_CORE puts the time PLL into holdover and raises REFCLK_LOST. -/
  | refclkCoreLoss
  /-- R273: Each 250 MHz tick adds TIME_INC and any slew share to the counter, carrying nanoseconds into seconds. -/
  | timeTick
  /-- R274: A write to TIME_INC_LO is held until the HI write. -/
  | timeIncLoWrite (m : Master) (w : Word)
  /-- R274: A write to TIME_INC_HI commits both words from the next tick, or is refused with TIME_REFUSED outside 4.0 ns ±500 ppm. -/
  | timeIncHiWrite (m : Master) (w : Word)
  /-- R277: A write of ADJ_NS starts or replaces a slew of the counter at SLEW_PPM. -/
  | adjNsWrite (m : Master) (w : Word)
  /-- R278: STEP_CMD requests an absolute or relative step at the next frame boundary, or is refused with TIME_REFUSED. -/
  | stepCmd (m : Master) (rel : Bool)
  /-- R275: A read of TIME_NS takes a coherent per-master snapshot of seconds and fraction. -/
  | timeNsRead (m : Master)
  /-- R287: A rising PPS_IN edge is timestamped and emits PPS_IN_EDGE, or is ignored and counted within 0.5 s of the previous edge. -/
  | ppsInEdge
  /-- R287: A read of PPS_IN_NS snapshots the PPS_IN seconds for the reading master. -/
  | ppsInNsRead (m : Master)
  /-- R287: 1.1 s without a PPS_IN edge while IN_EN = 1 raises PPS_MISS. -/
  | ppsMiss
  /-- R288: PPS_OUT rises when the nanoseconds pass OUT_OFFSET while OUT_EN = 1. -/
  | ppsOutRise
  /-- R288: PPS_OUT falls OUT_WIDTH after it rose. -/
  | ppsOutFall
  /-- R290: TP_CTRL.ARM arms a TPULSE output or is refused with TPULSE_REFUSED. -/
  | tpulseArm (m : Master) (n : Fin 16)
  /-- R290: TP_CTRL.DISARM disarms the output at once, completing a pulse already high. -/
  | tpulseDisarm (m : Master) (n : Fin 16)
  /-- R289: An armed TPULSE output fires at its due time, raising TPULSE_n. -/
  | tpulseFire (n : Fin 16)
  /-- R289: A TPULSE output returns inactive after WIDTH. -/
  | tpulseEnd (n : Fin 16)
  /-- R285: An entry of the PTP transmit ring is sent on its lane with optional one-step insertion or correction, or dropped with TX_DROP. -/
  | ptpTxEntry
  /-- R286: A read of TXTS_POP pops the oldest TX timestamp entry into TXTS_LANE, TXTS_SEC and TXTS_NS. -/
  | txtsPop (m : Master)
  /-- R174: At T(F) the committed bank becomes ACTIVE, the other bank begins composing for F+1 and due frame-timed acts take place. -/
  | frameBoundary
  /-- R176: 400 ns before each plane strobe the loader merges S, the slot's dynamic accord and the pin set and issues SELECT and SHUTTER transactions to every tile. -/
  | loaderIssue
  /-- R169: At each slot boundary in SLOT and HYBRID modes, or an apply boundary in CIRCUIT mode, the plane strobe fires and SLOT strobe groups follow at their offsets. -/
  | slotBoundary
  /-- R60: A plane strobe edge at a tile transfers sealed select sets and ladder sets, reports missed sets and applies Pockels range changes. -/
  | planeStrobe (t : Fin 76) (cyc : Nat)
  /-- R66: A strobe group edge transfers sealed heater and shutter sets of its channels, applies heater range changes and sets HGRP_FIRED. -/
  | groupStrobe (g : Fin 8) (t : Fin 76)
  /-- R69: The buffer hold of a range change releases within 1 µs of its strobe and STALE clears. -/
  | rangeHoldRelease (t : Fin 76) (ch : Fin 64) (heater : Bool)
  /-- R192: An inserted protection strobe at activation plus 8.0 µs applies a taken switch when no scheduled strobe serves. -/
  | protectionStrobe
  /-- R177: At T(F+1) − COMMIT_MARGIN an uncommitted bank becomes DISCARDED and FRAME_DISCARDED is raised. -/
  | commitDeadline (written : Fin 65)
  /-- R208: When the last slot record is written the Composer replaces live state with the working copy, sets the bank COMMITTED, computes FRAME_DIGEST and queues GRANTs. -/
  | compositionCommit
  /-- R210: COMP_CTRL.ABORT stops the composition in progress, discarding the bank, or is ignored if commit had completed. -/
  | compCtrlAbort (m : Master) (written : Fin 65)
  /-- R185: The routed standing update is committed to a free standing record with its apply boundary, and NOTICE MOVE is sent for a rearrangement. -/
  | standingCommit
  /-- R190: ALT_CMD.ARM checks a standing record, records its difference from S and arms it, or raises ALT_REFUSED. -/
  | altCmdArm (m : Master) (n : Fin 16)
  /-- R190: ALT_CMD.DISARM disarms an alternate at once. -/
  | altCmdDisarm (m : Master) (n : Fin 16)
  /-- R192: SWITCH_CMD.GO requests a switch to an armed, eligible alternate, or is refused with ALT_REFUSED. -/
  | switchCmd (m : Master) (n : Fin 16)
  /-- R192: The Router takes a switch request within 2 µs and chooses the strobe at which it applies. -/
  | switchTake
  /-- R189: A host or sideband write to an accord record is accepted for free standing records and CIRCUIT-mode dynamic records, or refused with WRITE_REFUSED. -/
  | accordRecordWrite (m : Master) (r : Fin 144) (w : Fin 200) (v : Word)
  /-- R72: Clearing POCK_EN or HTR_EN clamps or zeroes the tile's outputs within 100 ns; setting them releases at the next strobe. -/
  | drvEnableWrite (m : Master) (t : Fin 76) (w : Word)
  /-- R59: SEAL_CMD.SEL_ALL seals every OPEN select set of the tile. -/
  | sealSelAll (m : Master) (t : Fin 76)
  /-- R59: SEAL_CMD.LADDER_ALL seals every OPEN ladder set, transferring unselected ones at once. -/
  | sealLadderAll (m : Master) (t : Fin 76)
  /-- R59: SEAL_CMD.HTR_ALL seals every OPEN heater set. -/
  | sealHtrAll (m : Master) (t : Fin 76)
  /-- R59: SEAL_CMD.SHUT_ALL seals every OPEN shutter set. -/
  | sealShutAll (m : Master) (t : Fin 76)
  /-- R61: POCK_SEAL.L0 seals ladder set 0, transferring it at once if ladder 0 is unselected. -/
  | pockSealL0 (m : Master) (t : Fin 76) (ch : Fin 64)
  /-- R61: POCK_SEAL.L1 seals ladder set 1, transferring it at once if ladder 1 is unselected. -/
  | pockSealL1 (m : Master) (t : Fin 76) (ch : Fin 64)
  /-- R59: POCK_SEAL.SEL seals the channel's select set. -/
  | pockSealSel (m : Master) (t : Fin 76) (ch : Fin 64)
  /-- R59: HTR_SEAL seals the channel's heater set. -/
  | htrSeal (m : Master) (t : Fin 76) (ch : Fin 64)
  /-- R59: SHUT_SEAL seals every OPEN shutter set of the trim tile. -/
  | shutSeal (m : Master) (t : Fin 76)
  /-- R63: A host write of a Pockels ladder code is accepted only in MANUAL or HELD, otherwise refused with WRITE_REFUSED. -/
  | pockShadowWrite (m : Master) (t : Fin 76) (ch : Fin 64) (k : Fin 2) (w : Word)
  /-- R63: A write to POCK_SEL_SHD refuses a changed SEL and handles its RANGE under the range-change rules. -/
  | pockSelShdWrite (m : Master) (t : Fin 76) (ch : Fin 64) (w : Word)
  /-- R63: A host write of the heater code and range is accepted only in MANUAL or HELD. -/
  | htrShdWrite (m : Master) (t : Fin 76) (ch : Fin 64) (w : Word)
  /-- R83: A write to SHUT_SHD acts per channel, opening the set for changed bits of MANUAL channels and refusing the rest. -/
  | shutShdWrite (m : Master) (t : Fin 76) (h : Fin 2) (w : Word)
  /-- R64: STRB_CMD.PLANE fires a command plane strobe in CIRCUIT mode with no commit pending, or is refused and counted. -/
  | strbCmdPlane (m : Master)
  /-- R66: STRB_CMD.GRP fires a COMMAND-mode strobe group within 100 ns, or is refused and counted. -/
  | strbCmdGrp (m : Master) (g : Fin 8)
  /-- R88: Each tile starts a scan every 1,600 tile cycles with its tile load strobe, applying range and mode changes pending for the scan. -/
  | tileScanStart (t : Fin 76)
  /-- R88: In each conversion slot ADC A and B sample a photodiode pair, or serve calibration, focus, read-back or diagnosis, and tag the record. -/
  | tileConversion (t : Fin 76) (k : Fin 64) (a b : Fin 65536)
  /-- R100: At the end of each scan the tile sends its upstream frame with 64 records and CRC. -/
  | tileFrameTx (t : Fin 76)
  /-- R76: Delivered current below 50 % of programmed for DWELL raises HTR_OPEN. -/
  | htrOpen (t : Fin 76) (ch : Fin 64) (on : Bool)
  /-- R76: Heater output voltage at or above 2.90 V for DWELL raises HTR_COMPLIANCE unless OPEN is asserted. -/
  | htrCompliance (t : Fin 76) (ch : Fin 64) (on : Bool)
  /-- R77: A shutter current outside its window for 1 µs or more raises SHUT_CURRENT. -/
  | shutCurrent (t : Fin 76) (ch : Fin 64) (microamps ns : Nat)
  /-- R86: A write of TIA_RANGEn accepts changed fields of MANUAL or HELD channels for the next scan and refuses the rest. -/
  | tiaRangeWrite (m : Master) (t : Fin 76) (n : Fin 8) (w : Word)
  /-- R93: A write of SCAN_CFG.MODE is held to the next scan start, or refused for values 2 and 3. -/
  | scanCfgWrite (m : Master) (t : Fin 76) (w : Word)
  /-- R95: FOCUS_CFG.START begins focus at the next scan start for LEN scans, or is refused with SENSE_REFUSED. -/
  | focusStart (m : Master) (t : Fin 76) (w : Word)
  /-- R94: Focus ends after LEN scans and the tile's loops receive samples again. -/
  | focusEnd (t : Fin 76)
  /-- R97: DIAG_CMD.GO starts a diagnosis of one photodiode, or is refused while BUSY. -/
  | diagCmdGo (m : Master) (t : Fin 76) (w : Word)
  /-- R104: A FAST_CFG write taps photodiodes onto the capture buses, or is refused with FAST_CONFLICT for a second bus driver. -/
  | fastCfgWrite (m : Master) (t : Fin 76) (w : Word)
  /-- R99: A tile link completes training within 50 µs and LINK_STATUS.UP sets. -/
  | tileLinkTrained (t : Fin 76)
  /-- R103: Loss of lock on a tile link raises LINK_DOWN while outputs hold and sealed sets still transfer. -/
  | tileLinkLoss (t : Fin 76)
  /-- R102: A CODE transaction landing at a tile writes and seals one ladder or heater set, or is discarded on CRC failure. -/
  | tileCodeTransaction (t : Fin 76) (crcOk : Bool)
  /-- R102: A SELECT transaction writes SLOT and 64 SEL bits and seals every select set of the tile. -/
  | tileSelectTransaction (t : Fin 76) (crcOk : Bool)
  /-- R102: A SHUTTER transaction writes 64 shutter bits and seals them in a trim tile. -/
  | tileShutterTransaction (t : Fin 76) (crcOk : Bool)
  /-- R102: A REG transaction carries a host or sideband tile register access with its response upstream. -/
  | tileRegTransaction (m : Master) (a : BitVec 26) (write : Option Word) (crcOk : Bool)
  /-- R120: A record of a loop reaching its engine runs the law, supervision or nothing according to the loop state and KIND, or is dropped as LATE. -/
  | loopRecord (t : Fin 76) (k : Fin 64) (late : Bool) (depth : Nat)
  /-- R123: When the CRC of a scan's frame checks, the engine issues that scan's updates in conversion-slot order, or discards them all with LINK_CRC. -/
  | tileFrameChecked (t : Fin 76) (crcOk : Bool)
  /-- R131: Every 409.6 µs firmware forms PROBE_EST as the median input-referred probe power and writes it to every course. -/
  | probeEstUpdate
  /-- R140: A write of LOOP_CTRL.TARGET starts a transfer between loop states, or is refused with TRANSFER_REFUSED. -/
  | loopTargetWrite (m : Master) (l : Fin 4864) (target : Fin 4)
  /-- R141: A write of LOOP_CTRL.HOLD or COURSE_CTRL.HOLD_ALL sets or clears H_HOST and so holds or releases loops. -/
  | loopHoldWrite (m : Master) (scope : LoopScope) (on : Bool)
  /-- R141: A host write of 1 to LOOP_STAT.H_EVT clears that hold cause. -/
  | hEvtClear (m : Master) (l : Fin 4864)
  /-- R142: Leaving AUTO discards unissued codes, lets issued codes land and then updates POCK_STAT.LOOP within 1 µs. -/
  | transferOutOfAuto (l : Fin 4864)
  /-- R145: Entering AUTO waits for the tile's next load strobe, reads the active codes and arms the presets. -/
  | transferIntoAuto (l : Fin 4864)
  /-- R152: LOOP_CTRL.REP_RESET clears a state's repetitive entries at the next update, or within 1 µs outside AUTO. -/
  | repReset (m : Master) (l : Fin 4864) (bits : Fin 4)
  /-- R151: Writing REP_FREEZE or REP_FREEZE_ALL freezes or releases learning at the loop's next update. -/
  | repFreezeWrite (m : Master) (scope : LoopScope) (on : Bool)
  /-- R134: A write of a loop record configuration word is held to the next update, applied with bumpless OP compensation, or refused. -/
  | loopParamWrite (m : Master) (l : Fin 4864) (n : Fin 11) (w : Word)
  /-- R135: A write of I0, I1 or HCODE is accepted only in MANUAL or HELD, otherwise refused and counted. -/
  | loopStateWrite (m : Master) (l : Fin 4864) (k : Fin 3) (w : Word)
  /-- R153: A write to the REPETITIVE block is accepted outside AUTO or while frozen, otherwise refused. -/
  | repetitiveWrite (m : Master) (l : Fin 4864) (st : Fin 2) (n : Fin 32) (w : Word)
  /-- R250: A frame received on a K-lane is timestamped and parsed on pass 0 into a key, classified by the rule bank of its epoch and delivered, recirculated or dropped. -/
  | laneFrameRx (n : Fin 64) (ago : Nat) (bad : Bool) (bytes : List Byte)
  /-- R261: A recirculated frame leaves the queue and INNER is parsed on pass 1 under the same bank. -/
  | recircPass
  /-- R265: Firmware takes a frame from the internal ring and answers ARP, ND or echo, or copies it to the host slow ring. -/
  | slowPathFrame
  /-- R270: RULE_CMD.READ loads RULE_DATA and RULE_HIT from the selected rule. -/
  | ruleCmdRead (m : Master)
  /-- R263: RULE_CMD.WRITE writes RULE_DATA to the selected rule of the inactive bank, or is refused. -/
  | ruleCmdWrite (m : Master)
  /-- R262: SWAP_CMD makes the inactive bank active and increments EPOCH, at once or at T(SWAP_FRAME), or is refused. -/
  | swapCmd (m : Master) (atFrame : Bool)
  /-- R263: OLD_BUSY clears when no frame of the previous epoch remains in the parser. -/
  | oldBusyClear
  /-- R221: A lane's PCS locked for 1 ms moves it from PCS_DOWN to HELLO_WAIT. -/
  | pcsLock (n : Fin 64)
  /-- R221: Loss of block lock, sync or FEC lock takes a lane to PCS_DOWN and raises LANE_DOWN. -/
  | pcsLoss (n : Fin 64)
  /-- R221: A KEEPALIVE with nothing sent makes the device send HELLO on the lane. -/
  | keepaliveExpiry (n : Fin 64)
  /-- R221: 4 × KEEPALIVE without an accepted frame takes an UP lane back to HELLO_WAIT and raises LANE_DOWN. -/
  | peerSilenceExpiry (n : Fin 64)
  /-- R221: An endpoint HELLO is accepted or discarded for version, and moves the lane to UP when both sides have PEER_SEEN. -/
  | hello (n : Fin 64) (h : KHeader) (p : EpHello)
  /-- R199: A DEMAND message is held for the cut of its target frame or discarded as late, refused or invalid. -/
  | demand (n : Fin 64) (h : KHeader) (p : DemandMsg)
  /-- R241: A SETUP goes to its circuit agent, which applies the Agent checks and passes it to the next standing cut or answers NAK. -/
  | setup (n : Fin 64) (h : KHeader) (p : SetupMsg)
  /-- R241: A RELEASE goes to the agent of its circuit and joins the next standing cut. -/
  | release (n : Fin 64) (h : KHeader) (p : ReleaseMsg)
  /-- R238: A STATUS from an endpoint records HEALTH or counts a DIVERGENCE or SEQ_GAP report. -/
  | status (n : Fin 64) (h : KHeader) (p : StatusMsg)
  /-- R239: An ECHO request is answered with T2 and T3 within 100 µs, and a reply completes ECHO_RESULT. -/
  | echo (n : Fin 64) (h : KHeader) (p : EchoMsg)
  /-- R240: A RELAY on a tier lane is parsed once more and its inner message served at the manager or forwarded on the card lane at a worker. -/
  | relay (n : Fin 64) (h : KHeader) (p : RelayMsg)
  /-- R234: A queued device message leaves on its lane, or a GRANT part that cannot leave before its frame begins is dropped. -/
  | messageTransmit (n : Fin 64) (ns : Nat)
  /-- R239: ECHO_CMD.GO sends an ECHO request on an UP lane, or is refused. -/
  | echoCmd (m : Master) (n : Fin 64)
  /-- R239: A reply not received within 1 ms raises ECHO_TIMEOUT. -/
  | echoTimeout (n : Fin 64)
  /-- R248: A write to CTX_SEL takes a coherent snapshot of one context into CTX_DATA. -/
  | ctxSelWrite (m : Master) (n : Fin 8192)
  /-- R296: Once a second an UP tier lane sends an ECHO and records TIME_OFFSET and RTT, raising TIME_SKEW or LEAD_SHORT. -/
  | tierEchoTimer (n : Fin 64)
  /-- R296: A TIER_HELLO brings a tier lane up only if tags match and the peer UNIT_ID is as expected, else raises SYSTAG_MISMATCH or UNIT_CONFLICT. -/
  | tierHello (n : Fin 64) (h : KHeader) (p : TierHello)
  /-- R303: A worker stores an ACCORD message into the receive buffer of its manager lane. -/
  | accord (n : Fin 64) (h : KHeader) (p : AccordMsg)
  /-- R311: A FRAME_END completes a worker's copy, or at a twin is compared for digest, state CRC and STANDING_SEQ. -/
  | frameEnd (n : Fin 64) (h : KHeader) (p : FrameEndMsg)
  /-- R304: A STANDING message is kept for its apply boundary, or arms or disarms an alternate on receipt of the first copy. -/
  | standing (n : Fin 64) (h : KHeader) (p : StandingMsg)
  /-- R304: A SWITCH APPLY is applied at its strobe by a worker or standby, or a SWITCH REQUEST is taken by the lead as an activation. -/
  | switch (n : Fin 64) (h : KHeader) (p : SwitchMsg)
  /-- R314: A RESYNC message requests, accepts, completes or fails a resynchronisation between twins. -/
  | resync (n : Fin 64) (h : KHeader) (p : ResyncMsg)
  /-- R314: A CHECKPOINT part carries image bytes; the last one is CRC-checked and replaces the joiner's state. -/
  | checkpoint (n : Fin 64) (h : KHeader) (p : CheckpointMsg)
  /-- R314: The joiner composes each frame after Fc silently from its log and compares it under R311. -/
  | catchupCompose
  /-- R303: At T(F+1) − WORKER_MARGIN a worker commits the higher claim's complete copy, the survivor's, or discards the bank. -/
  | followCommit
  /-- R304: At an apply boundary minus 1 µs a worker writes the chosen STANDING UPDATE copy into its record. -/
  | workerStandingApply
  /-- R308: TWIN_CMD.LEAD moves a WAIT manager to ALONE, or is refused with TWIN_REFUSED. -/
  | twinCmdLead (m : Master)
  /-- R313: TWIN_CMD.RESYNC starts a resynchronisation when its conditions hold, otherwise raises RESYNC_FAIL. -/
  | twinCmdResync (m : Master)
  /-- R308: TWIN_CMD.WITHDRAW returns an ALONE, PAIRED or JOINING manager to WAIT. -/
  | twinCmdWithdraw (m : Master)
  /-- R306: A CLAIM write takes effect at the next frame boundary and re-ranks the twins. -/
  | claimWrite (m : Master) (w : Fin 65536)
  /-- R350: CAL_PERIOD minutes after its last calibration a tile becomes due with cause PERIOD. -/
  | calPeriodExpiry (t : Fin 76)
  /-- R351: A due tile starts calibration at the first scan start at which every start condition holds, setting H_CAL and STALE. -/
  | calStart (t : Fin 76)
  /-- R352: The DRIFT measurement completes and new trims are staged, or the calibration fails with CAL_FAIL. -/
  | calMeasurementEnd (t : Fin 76) (r : CalMeasure)
  /-- R353: Staged trims load at the apply instant, the mirror and CAL_CRC update, and H_CAL and STALE clear. -/
  | calTrimApply (t : Fin 76)
  /-- R351: A tile due for more than 1 s raises CAL_LATE. -/
  | calLate (t : Fin 76)
  /-- R350: CAL_CMD.GO makes one tile, or every tile with ALL, due for DRIFT calibration. -/
  | calCmdGo (m : Master) (t : Fin 76) (all : Bool)
  /-- R349: CAL_CMD.FULL runs FULL calibration on one tile whose POCK_EN and HTR_EN are 0, or is refused. -/
  | calCmdFull (m : Master) (t : Fin 76)
  /-- R359: CAL_CMD.LOAD loads the staged mirror trims into the tile at the apply instant. -/
  | calCmdLoad (m : Master) (t : Fin 76) (all : Bool)
  /-- R357: CAL_CMD.ABORT stops the named tile's calibration, or is ignored if trims had loaded. -/
  | calCmdAbort (m : Master) (t : Fin 76)
  /-- R359: A write to a tile's calibration mirror is staged, or refused with CAL_REFUSED while the tile calibrates. -/
  | calMirrorWrite (m : Master) (t : Fin 76) (k : Fin 131) (w : Word)
  /-- R358: SIL_CAL.GO calibrates the Sillage ADC pair while sampling is off, or is refused with CAL_REFUSED. -/
  | silCalGo (m : Master)
  /-- R361: REPLAN_FIRST minutes after SERVING and every REPLAN_PERIOD hours firmware starts a re-plan pass. -/
  | replanTimer
  /-- R361: REPLAN_CMD.NOW starts a pass at once, or is refused with REPLAN_REFUSED within an hour of the last. -/
  | replanCmdNow (m : Master)
  /-- R361: REPLAN_CMD.ABORT stops the pass in progress, or is ignored if it completed. -/
  | replanCmdAbort (m : Master)
  /-- R364: At the end of a course's observation window firmware estimates ageing, computes actions and headroom and writes them under POLICY. -/
  | replanWindowEnd (obs : List LoopObs)
  /-- R383: Every 1 ms each thermal sensor is converted and judged for WARN, ALARM, COLD, SUSPECT and TRIP. -/
  | sensorConversion (readings : List Int)
  /-- R383: Every 100 ms each sensor's rise over WINDOW_S is compared with RISE. -/
  | riseEvaluation
  /-- R389: The 64-byte trip record is committed to the ring within 3 ms of the trip. -/
  | tripRecordCommit (error : Bool)
  /-- R387: THERMTRIP# deasserts once EN has been low for 10 ms. -/
  | thermtripRelease
  /-- R394: TRIP_RD_CMD reads one trip-ring slot into TRIP_RD_DATA within 200 µs. -/
  | tripRdCmd (m : Master) (slot : Fin 2048)
  /-- R391: RING_CMD.ERASE erases both trip-ring sectors, or is refused with TRIP_RING. -/
  | ringCmdErase (m : Master)
  /-- R379: Every 1 ms the PMBus readings and status bits are updated and power limits are judged. -/
  | telemetryUpdate (vin iin pin : Fin 65536) (ps : Int)
  /-- R380: PMBus CLEAR_FAULTS clears the PMBus status bits. -/
  | clearFaults (pec : Pec)
  /-- R379: PMBus CAPABILITY returns 0xD0. -/
  | capability
  /-- R380: PMBus STATUS_BYTE returns the summary status byte. -/
  | statusByte
  /-- R380: PMBus STATUS_WORD returns the summary status word. -/
  | statusWord
  /-- R380: PMBus STATUS_INPUT returns the input warnings. -/
  | statusInput
  /-- R380: PMBus STATUS_TEMPERATURE returns the temperature status. -/
  | statusTemperature
  /-- R379: PMBus STATUS_CML returns the communication status. -/
  | statusCml
  /-- R379: PMBus READ_VIN returns input voltage in LINEAR11. -/
  | readVin
  /-- R379: PMBus READ_IIN returns input current in LINEAR11. -/
  | readIin
  /-- R379: PMBus READ_TEMPERATURE_1 returns the power-stage temperature. -/
  | readTemperature1
  /-- R379: PMBus READ_TEMPERATURE_2 returns the hottest control-die value used. -/
  | readTemperature2
  /-- R379: PMBus READ_TEMPERATURE_3 returns the hottest tile value used, or 0 when none is valid. -/
  | readTemperature3
  /-- R379: PMBus READ_PIN returns input power. -/
  | readPin
  /-- R379: PMBus PMBUS_REVISION returns 0x44. -/
  | pmbusRevision
  /-- R379: PMBus MFR_ID returns the manufacturer string. -/
  | mfrId
  /-- R379: PMBus MFR_MODEL returns the ordering code string. -/
  | mfrModel
  /-- R380: An unknown PMBus command or a write to a read command is acknowledged, discarded and raises PMBUS_CML. -/
  | pmbusInvalidCommand (read : Option Nat) (pec : Pec)
  /-- R411: WIN_ADDR sets the BAR0 address of the sideband register window. -/
  | winAddr (bytes : List Byte) (pec : Pec)
  /-- R411: WIN_WRITE writes up to 8 words from WIN_ADDR with owner and reachability checks and advances WIN_ADDR. -/
  | winWrite (bytes : List Byte) (pec : Pec)
  /-- R411: WIN_READ reads WIN_COUNT words from WIN_ADDR and advances WIN_ADDR. -/
  | winRead
  /-- R411: WIN_STATUS returns the outcome of the last window access. -/
  | winStatus
  /-- R411: WIN_COUNT sets or returns the words per WIN_READ. -/
  | winCount (set : Option Byte) (pec : Pec)
  /-- R411: WIN_REREAD returns the last WIN_READ data without a new register access. -/
  | winReread
  /-- R409: SMBus clock held low over 25 ms resets the target interface and raises SB_TIMEOUT. -/
  | sbTimeout (orphan : Option Orphan)
  /-- R405: While SB_ALERT# is asserted the device answers the SMBus Alert Response Address with its own address. -/
  | alertResponse
  /-- R399: An inbound BAR0 request is split into owner-checked word accesses, or discarded with BAR0_PARTIAL for partial byte enables. -/
  | bar0Request (cfg : PcieCfg) (r : HostReq)
  /-- R400: An inbound BAR2 request reads or writes capture memory or working SRAM, discarding writes to restricted regions. -/
  | bar2Request (cfg : PcieCfg) (r : HostReq)
  /-- R401: A memory request outside both BARs or with Memory Space disabled is answered UR. -/
  | unsupportedRequest
  /-- R401: A poisoned write is discarded and reported by AER. -/
  | poisonedWrite
  /-- R402: FLR, hot reset or link down resets configuration and MSI-X, aborts host channels, releases host semaphores and raises LINK_DOWN or FLR. -/
  | hostSideReset (flr : Bool) (orphan : Option Orphan)
  /-- R402: Entry to D3hot stops MSI-X and DMA requests and answers BAR requests UR while service continues. -/
  | d3hotEntry
  /-- R402: Return to D0 signals pending vectors with no state lost. -/
  | d0Entry (cfg : PcieCfg)
  /-- R404: A write to VEC_REARM re-arms vectors and signals again at once any whose source still qualifies. -/
  | vecRearm (m : Master) (n : Fin 8) (w : Word)
  /-- R407: TAKE gives a free semaphore to the writing master. -/
  | semTake (m : Master) (b : Fin 34)
  /-- R407: GIVE by the holder frees the semaphore. -/
  | semGive (m : Master) (b : Fin 34)
  /-- R407: FORCE by the non-holder frees a held semaphore and raises SEM_FORCED. -/
  | semForce (m : Master) (b : Fin 34)
  /-- R413: FUSE_CMD with ARM arms programming of one fuse target for 1 s, or is refused with FUSE_REFUSED. -/
  | fuseArm (m : Master) (target : Fin 4)
  /-- R413: A fuse arm ends 1 s after it was made. -/
  | fuseArmExpiry
  /-- R413: FUSE_CMD with COMMIT and the correct response programs the armed fuse, or is refused. -/
  | fuseCommit (m : Master) (target : Fin 4)
  /-- R413: Fuse programming completes within 100 ms, raising FUSE_FAIL on a verification mismatch and applying DEBUG_LOCK. -/
  | fuseProgramDone (copyA copyB : Bool) (orphan : Option Orphan)
  /-- R415: Every 10 s the fuse array is sensed and a change raises FUSE_TAMPER. -/
  | fuseSense (sensed : BitVec 3)
  /-- R336: Every 10 s firmware recomputes FX_CRC and a mismatch raises FORMULA_INTEGRITY. -/
  | fxCrcCheck
  /-- R423: A master's burst request at a target port is arbitrated by weighted credits and granted, or returns a decode error. -/
  | busRequest (reqs : List BusReq)
  /-- R422: A write of FABRIC_CFG.REMAP from M0 or M1 switches T0 between boot ROM and working SRAM. -/
  | remapWrite (m : Master) (on : Bool)
  /-- R428: CH_CTRL.START on an IDLE channel records the starting master and fetches the first descriptor, or raises START_REFUSED. -/
  | chCtrlStart (m : Master) (n : Fin 16)
  /-- R430: A fetched descriptor is checked and its beats issued, or the channel ends with DESC_ERR. -/
  | descriptorFetched (n : Fin 16) (error : Bool) (bytes : List Byte)
  /-- R433: A write response, flush return or error response advances a descriptor toward completion or ends the channel with ERROR or ERR_LAST. -/
  | dmaResponse (n : Fin 16) (r : DmaResp)
  /-- R434: CH_CTRL.ABORT stops a running channel after outstanding responses, or is ignored if already complete. -/
  | chCtrlAbort (m : Master) (n : Fin 16)
  /-- R401: A device non-posted request not completed in time raises Completion Timeout and ends the DMA channel. -/
  | completionTimeout (n : Fin 16) (offset : Nat)
  /-- R438: A producer emits one event on a rising status bit or occurrence onto every enabled channel carrying it. -/
  | producerEvent (code : Fin 4096)
  /-- R440: Events reaching a task input activate it once, or set OVERRUN when merged or within re-arm. -/
  | taskInputActivation (t : Fin 512) (n : Nat)
  /-- R439: An EVT_OUT pulse ends after PULSE_NS. -/
  | evtOutPulseEnd (k : Fin 8)
  /-- R437: A rising edge on EVT_IN_k emits its producer event. -/
  | evtInEdge (k : Fin 8)
  /-- R442: A run-time write of a channel or TI_CFG word takes effect after the graph test, or is refused with CFG_REFUSED. -/
  | mortarCfgWrite (m : Master) (a : MortarWord) (w : Word)
  /-- R460: A write of 1 to a block's INJECT bit sets the INJ status bit, emits its Mortar event on INJ_PASS channels and takes its severity handling. -/
  | injectSource (m : Master) (block : Fin 190) (bits : Word)
  /-- R458: A write to a FAULT_EN or FAULT_SEV field acts at once on set bits, qualifying, releasing or SEAL-latching sources. -/
  | faultEnSevWrite (m : Master) (block : Fin 190) (sev : Bool) (w : Word)
  /-- R113: A write of SIL_CTRL sets sampling, mode and capture, with mode and capture changes refused while enabled. -/
  | silCtrlWrite (m : Master) (w : Word)
  /-- R111: SIL_CTRL.ARM arms the triggered capture. -/
  | silArm (m : Master)
  /-- R111: SIL_CTRL.STOP ends any record at the block in progress with RECORD_END and TRUNCATED. -/
  | silStop (m : Master)
  /-- R110: TRIG_CMD.FIRE gives the HOST trigger. -/
  | trigCmdFire (m : Master)
  /-- R110: Network time reaching TRIG_TIME gives the TIME trigger. -/
  | sillageTimeTrigger
  /-- R108: A complete 4,096-byte block is written to its ring and WR advanced, or dropped or overwritten when the ring is full. -/
  | sillageBlockWrite (x : SilStream) (ago : Nat) (trigAt : Nat) (bus : SilBus)
  /-- R111: After HOLDOFF following RECORD_END the capture re-arms if AUTO_REARM = 1. -/
  | sillageHoldoffEnd
  /-- R108: A host RD write advances a ring's read pointer, or is refused with RING_CFG. -/
  | ringRdWrite (m : Master) (r : RingId) (w : Word)
  /-- R108: A ring configuration or enable write is accepted or refused for overlap, extent or enabled state. -/
  | ringEnableWrite (m : Master) (r : RingId) (x : RingWord) (w : Word)
  /-- R473: A read of the LO word of a wide value snapshots its HI half per master and block. -/
  | wideLoRead (m : Master) (a : BitVec 26)
  /-- R474: A write of the LO word of a writable pair is held per master. -/
  | wideLoWrite (m : Master) (a : BitVec 26) (w : Word)
  /-- R474: A write of the HI word commits both halves of a pair together. -/
  | wideHiWrite (m : Master) (a : BitVec 26) (w : Word)
  /-- R470: A read of a register with RC fields returns them and clears them. -/
  | rcRead (m : Master) (a : BitVec 26)
  /-- R470: A write to a register with no row of its own applies each field's access code, owner and FX rules. -/
  | registerWrite (m : Master) (a : BitVec 26) (w : Word)
  /-- R276: REFCLK_CORE returning ends PLL holdover, so TIME_STATUS.HOLDOVER clears and the tick follows the reference again. -/
  | refclkCoreReturn
  /-- R391: A trip-ring sector erase, started by RING_CMD.ERASE or by the recorder, completes; ERASING clears, or TRIP_RING is raised on an erase error. -/
  | tripRingEraseDone (error : Bool)
  /-- R349: A FULL calibration of one tile started by CAL_CMD.FULL completes within 2 ms, loading its trims and setting its result. -/
  | fullCalDone (t : Fin 76) (r : CalMeasure)
  /-- R358: The Sillage ADC calibration completes within 1 ms of SIL_CAL.GO, writing SIL_COEF and setting SIL_CAL.DONE. -/
  | silCalDone (coef : Word)
  deriving DecidableEq, Repr

end Sys2Proof
end

