-- ==== Sys2Proof/Config.lean ====
section
/-! DEFINITION. What one device fixes and the spec leaves open: opaque constants, of which no proof can see a value. -/

namespace Sys2Proof.Config

/-- The module serial number of IDENT (R416), live. -/
opaque moduleSerial : BitVec 64
/-- The fused plane serial (R416), live. -/
opaque planeSerial : BitVec 64
/-- CTRL_REV, TILE_REV, PLANE_REV and FW_REV of IDENT_REV (R416), live. -/
opaque identRev : BitVec 32
/-- The ordering code of the module: true is OVX5120-E (R30, R416). -/
opaque orderCodeE : Bool
/-- The device-unique fuse challenge (R413). -/
opaque fuseChallenge : BitVec 64
/-- SPEED, WIDTH, FLIT and L1 of the host link as it has trained (R417), live. -/
opaque linkStatus : BitVec 32
/-- The density of the xSPI flash as its SFDP table states it (R388, R494): 256 Mbit doubled so many times. -/
opaque flashDoublings : Fin 4
/-- How far the composing engines are with a frame at a reference clock time: the spec bounds it only (R209), live. -/
opaque compProgress : Nat → Nat → BitVec 16
/-- A failure within the device upsets the second comparison of claims at a reference clock time (R306). -/
opaque claimUpset : Nat → Bool
/-- Whether a CALIB segment's value asks for full characterisation, and its CHAR_FAIL_MAX; D_MIN of a LOOPS segment's value; none
where the segment leaves it at its default. The spec names the segments and gives no place in them (R337, R338). -/
opaque charFull : List (BitVec 8) → Bool
opaque charFailMax : List (BitVec 8) → Option Nat
opaque dMin : List (BitVec 8) → Option (BitVec 16)
/-- A value the spec leaves undefined; the state's counter `free` picks a fresh one each time. -/
opaque freeValue : Nat → BitVec 64

end Sys2Proof.Config
end

