-- ==== Sys2Proof/Machine/Sparse.lean ====
section
/-! DEFINITION. Sparse contents in one canonical form: a list of (key, value) pairs, keys strictly rising, no entry equal
to what an unlisted key reads as. Registers and BAR2 memory are held so. -/

namespace Sys2Proof.Machine

variable {α : Type}

/-- The value at key `k`; an unlisted key reads as `d k`. -/
def sparseGet (d : Nat → α) : List (Nat × α) → Nat → α
  | [], k => d k
  | e :: rest, k => if e.1 = k then e.2 else sparseGet d rest k

/-- Put `v` at key `k`, keeping the keys rising. -/
def sparseInsert : List (Nat × α) → Nat → α → List (Nat × α)
  | [], k, v => [(k, v)]
  | e :: rest, k, v =>
    if k < e.1 then (k, v) :: e :: rest
    else if e.1 = k then (k, v) :: rest
    else e :: sparseInsert rest k v

/-- Remove key `k`. -/
def sparseErase (l : List (Nat × α)) (k : Nat) : List (Nat × α) :=
  l.filter fun e => decide (e.1 ≠ k)

/-- Write `v` at `k`: writing what an unlisted key reads as removes the entry. -/
def sparsePut [DecidableEq α] (d : Nat → α) (l : List (Nat × α)) (k : Nat) (v : α) : List (Nat × α) :=
  if v = d k then sparseErase l k else sparseInsert l k v

/-- The canonical form: keys strictly rising, no entry equal to its default. -/
abbrev SparseWf (d : Nat → α) (l : List (Nat × α)) : Prop :=
  l.Pairwise (fun x y => x.1 < y.1) ∧ ∀ e ∈ l, e.2 ≠ d e.1

end Sys2Proof.Machine
end

