-- ==== Sys2Proof/Machine/RegMap.lean ====
section
/-! DEFINITION. The register map: one row per field of every register table of spec/, with its address, its repetition
(strides and counts, R468), its place in the word, its access code (R11) and its Cold and Warm entries (R15, R457, R498). -/

namespace Sys2Proof.Machine

/-- The access codes of R11. -/
inductive Acc where
  | rw | ro | w1c | w1s | wo | rc | lv | fx
  deriving DecidableEq, Repr

/-- The Warm column of R15: `kept`, `live`, or a number. -/
inductive Warm where
  | kept | live | num (n : Nat)
  deriving DecidableEq, Repr

/-- One field row of a register table. `dims` are (stride, count) pairs from the outermost repetition inwards. -/
structure RegRow where
  addr : Nat
  dims : List (Nat × Nat)
  lsb : Nat
  width : Nat
  acc : Acc
  cold : Nat
  warm : Warm
  deriving DecidableEq, Repr

/-- The offset `off` from a row's address is one of the row's repetitions. -/
def hitDims : List (Nat × Nat) → Nat → Bool
  | [], off => off == 0
  | (stride, count) :: rest, off => decide (off / stride < count) && hitDims rest (off % stride)

/-- The row covers the word at address `a`. -/
def RegRow.covers (r : RegRow) (a : Nat) : Bool :=
  decide (r.addr ≤ a) && hitDims r.dims (a - r.addr)

/-- Register rows of TILE (R80). -/
def rows_TILE_R80 : List RegRow := [
  ⟨0x500000, [(16384, 76)], 0, 7, .ro, 0, .live⟩,
  ⟨0x500000, [(16384, 76)], 7, 2, .ro, 0, .live⟩,
  ⟨0x500000, [(16384, 76)], 9, 1, .ro, 0, .live⟩,
  ⟨0x500000, [(16384, 76)], 12, 4, .ro, 1, .num 1⟩,
  ⟨0x500004, [(16384, 76)], 0, 1, .rw, 0, .kept⟩,
  ⟨0x500004, [(16384, 76)], 1, 1, .rw, 0, .kept⟩,
  ⟨0x500008, [(16384, 76)], 0, 1, .wo, 0, .num 0⟩,
  ⟨0x500008, [(16384, 76)], 1, 1, .wo, 0, .num 0⟩,
  ⟨0x500008, [(16384, 76)], 2, 1, .wo, 0, .num 0⟩,
  ⟨0x500008, [(16384, 76)], 3, 1, .wo, 0, .num 0⟩,
  ⟨0x50000C, [(16384, 76)], 0, 1, .ro, 0, .live⟩,
  ⟨0x50000C, [(16384, 76)], 1, 1, .ro, 0, .live⟩,
  ⟨0x50000C, [(16384, 76)], 2, 1, .ro, 0, .live⟩,
  ⟨0x50000C, [(16384, 76)], 3, 1, .ro, 0, .live⟩,
  ⟨0x500010, [(16384, 76), (4, 2)], 0, 32, .w1c, 0, .kept⟩,
  ⟨0x500018, [(16384, 76), (4, 2)], 0, 32, .w1c, 0, .kept⟩,
  ⟨0x500020, [(16384, 76), (4, 2)], 0, 32, .w1c, 0, .kept⟩,
  ⟨0x500028, [(16384, 76), (4, 2)], 0, 32, .ro, 0, .live⟩,
  ⟨0x500030, [(16384, 76)], 0, 1, .w1c, 0, .kept⟩,
  ⟨0x500030, [(16384, 76)], 1, 1, .w1c, 0, .kept⟩,
  ⟨0x500030, [(16384, 76)], 2, 1, .w1c, 0, .kept⟩,
  ⟨0x500030, [(16384, 76)], 3, 1, .w1c, 0, .kept⟩,
  ⟨0x500030, [(16384, 76)], 4, 1, .w1c, 0, .kept⟩,
  ⟨0x500030, [(16384, 76)], 5, 1, .w1c, 0, .kept⟩,
  ⟨0x500030, [(16384, 76)], 6, 1, .w1c, 0, .kept⟩,
  ⟨0x500030, [(16384, 76)], 7, 1, .w1c, 0, .kept⟩,
  ⟨0x500034, [(16384, 76)], 0, 8, .w1c, 0, .kept⟩,
  ⟨0x500038, [(16384, 76)], 0, 8, .rw, 0xFF, .kept⟩,
  ⟨0x50003C, [(16384, 76)], 0, 16, .rw, 0x29A1, .kept⟩,
  ⟨0x500040, [(16384, 76)], 0, 8, .wo, 0, .num 0⟩,
  ⟨0x500044, [(16384, 76)], 0, 16, .rw, 0x40, .kept⟩,
  ⟨0x500044, [(16384, 76)], 16, 4, .rw, 2, .kept⟩,
  ⟨0x500048, [(16384, 76)], 0, 8, .rw, 0xA, .kept⟩,
  ⟨0x500050, [(16384, 76)], 0, 32, .ro, 0, .kept⟩,
  ⟨0x500054, [(16384, 76)], 0, 16, .ro, 0, .kept⟩,
  ⟨0x500058, [(16384, 76)], 0, 32, .ro, 0, .kept⟩,
  ⟨0x50005C, [(16384, 76)], 0, 16, .ro, 0, .kept⟩,
  ⟨0x500060, [(16384, 76)], 0, 32, .ro, 0, .kept⟩,
  ⟨0x500064, [(16384, 76)], 0, 16, .ro, 0, .kept⟩]

/-- Register rows of TILE (R81). SGRP exists in trim tiles only: elsewhere it reads 0 and ignores writes (R79). -/
def rows_TILE_R81 : List RegRow := [
  ⟨0x500100, [(16384, 76), (32, 64)], 0, 16, .rw, 0, .kept⟩,
  ⟨0x500104, [(16384, 76), (32, 64)], 0, 16, .rw, 0, .kept⟩,
  ⟨0x500108, [(16384, 76), (32, 64)], 0, 1, .ro, 0, .kept⟩,
  ⟨0x500108, [(16384, 76), (32, 64)], 1, 1, .rw, 0, .kept⟩,
  ⟨0x50010C, [(16384, 76), (32, 64)], 0, 1, .wo, 0, .num 0⟩,
  ⟨0x50010C, [(16384, 76), (32, 64)], 1, 1, .wo, 0, .num 0⟩,
  ⟨0x50010C, [(16384, 76), (32, 64)], 2, 1, .wo, 0, .num 0⟩,
  ⟨0x500110, [(16384, 76), (32, 64)], 0, 16, .ro, 0, .kept⟩,
  ⟨0x500110, [(16384, 76), (32, 64)], 16, 16, .ro, 0, .kept⟩,
  ⟨0x500114, [(16384, 76), (32, 64)], 0, 1, .ro, 0, .kept⟩,
  ⟨0x500114, [(16384, 76), (32, 64)], 1, 1, .ro, 0, .kept⟩,
  ⟨0x500114, [(16384, 76), (32, 64)], 2, 2, .ro, 0, .num 0⟩,
  ⟨0x500114, [(16384, 76), (32, 64)], 4, 2, .ro, 0, .num 0⟩,
  ⟨0x500114, [(16384, 76), (32, 64)], 6, 2, .ro, 0, .num 0⟩,
  ⟨0x500114, [(16384, 76), (32, 64)], 8, 1, .ro, 0, .live⟩,
  ⟨0x500114, [(16384, 76), (32, 64)], 9, 1, .ro, 0, .live⟩,
  ⟨0x500114, [(16384, 76), (32, 64)], 10, 1, .ro, 0, .live⟩,
  ⟨0x500114, [(16384, 76), (32, 64)], 11, 2, .ro, 0, .live⟩,
  ⟨0x500114, [(16384, 76), (32, 64)], 13, 1, .ro, 0, .kept⟩,
  ⟨0x500118, [(16384, 76), (32, 64)], 0, 16, .ro, 0, .kept⟩,
  ⟨0x500118, [(16384, 76), (32, 64)], 16, 16, .ro, 0, .kept⟩,
  ⟨0x50011C, [(16384, 76), (32, 64)], 0, 2, .fx, 0, .kept⟩,
  ⟨0x50011C, [(16384, 76), (32, 64)], 2, 3, .fx, 0, .kept⟩,
  ⟨0x61011C, [(16384, 8), (32, 64)], 5, 3, .fx, 0, .kept⟩]

/-- Register rows of TILE (R82). -/
def rows_TILE_R82 : List RegRow := [
  ⟨0x500900, [(16384, 76), (16, 64)], 0, 16, .rw, 0, .kept⟩,
  ⟨0x500900, [(16384, 76), (16, 64)], 16, 1, .rw, 0, .kept⟩,
  ⟨0x500904, [(16384, 76), (16, 64)], 0, 1, .wo, 0, .num 0⟩,
  ⟨0x500908, [(16384, 76), (16, 64)], 0, 16, .ro, 0, .kept⟩,
  ⟨0x500908, [(16384, 76), (16, 64)], 16, 1, .ro, 0, .kept⟩,
  ⟨0x500908, [(16384, 76), (16, 64)], 17, 2, .ro, 0, .num 0⟩,
  ⟨0x500908, [(16384, 76), (16, 64)], 19, 1, .ro, 0, .live⟩,
  ⟨0x500908, [(16384, 76), (16, 64)], 20, 1, .ro, 0, .live⟩,
  ⟨0x50090C, [(16384, 76), (16, 64)], 0, 1, .ro, 0, .live⟩,
  ⟨0x50090C, [(16384, 76), (16, 64)], 1, 1, .ro, 0, .live⟩]

/-- Register rows of TILE (R83). -/
def rows_TILE_R83 : List RegRow := [
  ⟨0x500D00, [(16384, 76), (4, 2)], 0, 32, .rw, 0, .kept⟩,
  ⟨0x500D08, [(16384, 76)], 0, 1, .wo, 0, .num 0⟩,
  ⟨0x500D0C, [(16384, 76), (4, 2)], 0, 32, .ro, 0, .num 0⟩,
  ⟨0x500D14, [(16384, 76), (4, 2)], 0, 32, .ro, 0, .kept⟩,
  ⟨0x500D1C, [(16384, 76), (4, 2)], 0, 32, .w1c, 0, .kept⟩]

/-- Register rows of TIME (R84). -/
def rows_TIME_R84 : List RegRow := [
  ⟨0x80400, [(4, 8)], 0, 2, .fx, 0, .kept⟩,
  ⟨0x80400, [(4, 8)], 16, 9, .fx, 0, .kept⟩,
  ⟨0x80420, [], 0, 8, .wo, 0, .num 0⟩,
  ⟨0x80420, [], 8, 1, .wo, 0, .num 0⟩,
  ⟨0x80424, [], 0, 8, .rc, 0, .num 0⟩,
  ⟨0x80424, [], 8, 1, .rc, 0, .num 0⟩,
  ⟨0x80428, [], 0, 32, .ro, 0, .kept⟩,
  ⟨0x8042C, [], 0, 16, .ro, 0, .kept⟩]

/-- Register rows of TILE (R112, part 1). -/
def rows_TILE_R112_a : List RegRow := [
  ⟨0x502000, [(16384, 76)], 0, 2, .lv, 0, .kept⟩,
  ⟨0x502004, [(16384, 76)], 0, 2, .ro, 0, .live⟩,
  ⟨0x502004, [(16384, 76)], 2, 1, .ro, 0, .live⟩,
  ⟨0x502004, [(16384, 76)], 3, 1, .ro, 0, .live⟩,
  ⟨0x502004, [(16384, 76)], 4, 9, .ro, 0xF, .kept⟩,
  ⟨0x502004, [(16384, 76)], 16, 16, .ro, 0, .live⟩,
  ⟨0x502008, [(16384, 76)], 0, 7, .rw, 0, .kept⟩,
  ⟨0x502008, [(16384, 76)], 8, 7, .rw, 1, .kept⟩,
  ⟨0x502008, [(16384, 76)], 16, 3, .rw, 0, .kept⟩,
  ⟨0x502008, [(16384, 76)], 31, 1, .wo, 0, .num 0⟩,
  ⟨0x50200C, [(16384, 76)], 0, 7, .rw, 0, .kept⟩,
  ⟨0x50200C, [(16384, 76)], 8, 2, .rw, 0, .kept⟩,
  ⟨0x50200C, [(16384, 76)], 10, 4, .rw, 1, .kept⟩,
  ⟨0x50200C, [(16384, 76)], 16, 10, .rw, 0, .kept⟩,
  ⟨0x50200C, [(16384, 76)], 31, 1, .wo, 0, .num 0⟩,
  ⟨0x502010, [(16384, 76)], 0, 18, .ro, 0, .kept⟩,
  ⟨0x502010, [(16384, 76)], 24, 1, .rc, 0, .num 0⟩,
  ⟨0x502010, [(16384, 76)], 25, 1, .ro, 0, .num 0⟩,
  ⟨0x502014, [(16384, 76)], 0, 17, .ro, 0, .kept⟩,
  ⟨0x502018, [(16384, 76)], 0, 16, .rw, 0x60, .kept⟩,
  ⟨0x50201C, [(16384, 76)], 0, 7, .rw, 0, .num 0⟩,
  ⟨0x50201C, [(16384, 76)], 7, 1, .rw, 0, .num 0⟩,
  ⟨0x50201C, [(16384, 76)], 8, 7, .rw, 0, .num 0⟩,
  ⟨0x50201C, [(16384, 76)], 15, 1, .rw, 0, .num 0⟩,
  ⟨0x50201C, [(16384, 76)], 16, 1, .rw, 0, .num 0⟩,
  ⟨0x502020, [(16384, 76)], 0, 1, .w1c, 0, .kept⟩,
  ⟨0x502020, [(16384, 76)], 1, 1, .w1c, 0, .kept⟩,
  ⟨0x502020, [(16384, 76)], 2, 1, .w1c, 0, .kept⟩,
  ⟨0x502020, [(16384, 76)], 3, 1, .w1c, 0, .kept⟩,
  ⟨0x502020, [(16384, 76)], 4, 1, .w1c, 0, .kept⟩,
  ⟨0x502020, [(16384, 76)], 5, 1, .w1c, 0, .kept⟩,
  ⟨0x502024, [(16384, 76)], 0, 6, .w1c, 0, .kept⟩,
  ⟨0x502028, [(16384, 76)], 0, 6, .rw, 0x3F, .kept⟩,
  ⟨0x50202C, [(16384, 76)], 0, 12, .rw, 0x65, .kept⟩,
  ⟨0x502030, [(16384, 76)], 0, 6, .wo, 0, .num 0⟩,
  ⟨0x502034, [(16384, 76)], 0, 1, .ro, 0, .live⟩,
  ⟨0x502034, [(16384, 76)], 8, 8, .ro, 0, .kept⟩,
  ⟨0x502040, [(16384, 76), (4, 8)], 0, 32, .lv, 0, .kept⟩,
  ⟨0x502080, [(16384, 76)], 0, 32, .ro, 0, .kept⟩,
  ⟨0x502084, [(16384, 76)], 0, 16, .ro, 0, .kept⟩]

/-- Register rows of TILE (R112, part 2). -/
def rows_TILE_R112_b : List RegRow := [
  ⟨0x502088, [(16384, 76)], 0, 32, .ro, 0, .kept⟩,
  ⟨0x50208C, [(16384, 76)], 0, 16, .ro, 0, .kept⟩,
  ⟨0x502090, [(16384, 76)], 0, 32, .ro, 0, .kept⟩,
  ⟨0x502094, [(16384, 76)], 0, 16, .ro, 0, .kept⟩,
  ⟨0x502200, [(16384, 76), (4, 128)], 0, 16, .ro, 0, .live⟩,
  ⟨0x502200, [(16384, 76), (4, 128)], 16, 2, .ro, 0, .live⟩,
  ⟨0x502200, [(16384, 76), (4, 128)], 18, 1, .ro, 0, .live⟩,
  ⟨0x502200, [(16384, 76), (4, 128)], 19, 1, .ro, 0, .live⟩,
  ⟨0x502200, [(16384, 76), (4, 128)], 20, 12, .ro, 0, .live⟩]

/-- All rows of TILE_R112. -/
def rows_TILE_R112 : List RegRow := rows_TILE_R112_a ++ rows_TILE_R112_b

/-- Register rows of SILLAGE (R113). -/
def rows_SILLAGE_R113 : List RegRow := [
  ⟨0x1000000, [], 0, 4, .ro, 8, .num 8⟩,
  ⟨0x1000000, [], 8, 8, .ro, 0x20, .num 32⟩,
  ⟨0x1000004, [], 0, 1, .rw, 0, .num 0⟩,
  ⟨0x1000004, [], 1, 1, .rw, 0, .kept⟩,
  ⟨0x1000004, [], 2, 1, .rw, 0, .kept⟩,
  ⟨0x1000004, [], 3, 1, .rw, 0, .kept⟩,
  ⟨0x1000004, [], 4, 1, .wo, 0, .num 0⟩,
  ⟨0x1000004, [], 5, 1, .wo, 0, .num 0⟩,
  ⟨0x1000008, [], 0, 4, .rw, 9, .kept⟩,
  ⟨0x1000008, [], 4, 4, .rw, 9, .kept⟩,
  ⟨0x1000008, [], 8, 3, .rw, 0, .kept⟩,
  ⟨0x1000008, [], 12, 3, .rw, 1, .kept⟩,
  ⟨0x100000C, [], 0, 3, .rw, 0, .kept⟩,
  ⟨0x100000C, [], 4, 3, .rw, 0, .kept⟩,
  ⟨0x100000C, [], 8, 1, .rw, 0, .kept⟩,
  ⟨0x100000C, [], 16, 12, .rw, 0, .kept⟩,
  ⟨0x1000010, [], 0, 5, .rw, 0, .kept⟩,
  ⟨0x1000010, [], 16, 12, .rw, 1, .kept⟩,
  ⟨0x1000014, [], 0, 20, .rw, 0, .kept⟩,
  ⟨0x1000018, [], 0, 1, .wo, 0, .num 0⟩,
  ⟨0x1000020, [], 0, 30, .rw, 0, .kept⟩,
  ⟨0x1000024, [(4, 2)], 0, 32, .rw, 0, .kept⟩,
  ⟨0x1000030, [], 0, 1, .ro, 0, .live⟩,
  ⟨0x1000030, [], 1, 1, .ro, 0, .live⟩,
  ⟨0x1000030, [], 2, 1, .ro, 0, .live⟩,
  ⟨0x1000034, [], 0, 1, .w1c, 0, .kept⟩,
  ⟨0x1000034, [], 1, 1, .w1c, 0, .kept⟩,
  ⟨0x1000034, [], 2, 1, .w1c, 0, .kept⟩,
  ⟨0x1000034, [], 3, 1, .w1c, 0, .kept⟩,
  ⟨0x1000034, [], 4, 1, .w1c, 0, .kept⟩,
  ⟨0x1000038, [], 0, 5, .w1c, 0, .kept⟩,
  ⟨0x100003C, [], 0, 5, .rw, 0x1F, .kept⟩,
  ⟨0x1000040, [], 0, 10, .rw, 0x101, .kept⟩,
  ⟨0x1000044, [], 0, 5, .wo, 0, .num 0⟩,
  ⟨0x1000050, [], 0, 32, .ro, 0, .kept⟩,
  ⟨0x1000054, [], 0, 16, .ro, 0, .kept⟩,
  ⟨0x1000058, [], 0, 32, .ro, 0, .kept⟩,
  ⟨0x100005C, [], 0, 16, .ro, 0, .kept⟩,
  ⟨0x1000060, [], 0, 32, .ro, 0, .kept⟩,
  ⟨0x1000064, [], 0, 16, .ro, 0, .kept⟩]

/-- Register rows of SILLAGE (R114). -/
def rows_SILLAGE_R114 : List RegRow := [
  ⟨0x1000100, [(32, 8)], 12, 13, .rw, 0, .kept⟩,
  ⟨0x1000104, [(32, 8)], 0, 14, .rw, 1, .kept⟩,
  ⟨0x1000108, [(32, 8)], 0, 13, .ro, 0, .kept⟩,
  ⟨0x1000108, [(32, 8)], 16, 1, .ro, 0, .kept⟩,
  ⟨0x100010C, [(32, 8)], 0, 13, .rw, 0, .kept⟩,
  ⟨0x100010C, [(32, 8)], 16, 1, .rw, 0, .kept⟩,
  ⟨0x1000110, [(32, 8)], 0, 14, .rw, 0, .kept⟩,
  ⟨0x1000114, [(32, 8)], 0, 1, .rw, 0, .num 0⟩,
  ⟨0x1000114, [(32, 8)], 1, 1, .rw, 0, .kept⟩,
  ⟨0x1000114, [(32, 8)], 2, 2, .rw, 0, .kept⟩,
  ⟨0x1000118, [(32, 8)], 0, 14, .ro, 0, .kept⟩,
  ⟨0x1000118, [(32, 8)], 16, 1, .w1c, 0, .kept⟩,
  ⟨0x1000118, [(32, 8)], 17, 1, .w1c, 0, .kept⟩]

/-- Register rows of LOOPPARAM (R136, part 1). -/
def rows_LOOPPARAM_R136_a : List RegRow := [
  ⟨0x800000, [(64, 4864)], 0, 16, .lv, 0, .kept⟩,
  ⟨0x800000, [(64, 4864)], 16, 16, .lv, 0, .kept⟩,
  ⟨0x800004, [(64, 4864)], 0, 24, .lv, 0, .kept⟩,
  ⟨0x800004, [(64, 4864)], 24, 8, .lv, 0, .kept⟩,
  ⟨0x800008, [(64, 4864)], 0, 24, .lv, 0, .kept⟩,
  ⟨0x800008, [(64, 4864)], 24, 8, .lv, 4, .kept⟩,
  ⟨0x80000C, [(64, 4864)], 0, 16, .lv, 0, .kept⟩,
  ⟨0x80000C, [(64, 4864)], 16, 16, .lv, 0, .kept⟩,
  ⟨0x800010, [(64, 4864)], 0, 16, .lv, 0, .kept⟩,
  ⟨0x800010, [(64, 4864)], 16, 16, .lv, 0, .kept⟩,
  ⟨0x800014, [(64, 4864)], 0, 4, .lv, 0, .kept⟩,
  ⟨0x800014, [(64, 4864)], 4, 4, .lv, 0, .kept⟩,
  ⟨0x800014, [(64, 4864)], 8, 4, .lv, 0, .kept⟩,
  ⟨0x800014, [(64, 4864)], 12, 4, .lv, 0, .kept⟩,
  ⟨0x800014, [(64, 4864)], 16, 4, .lv, 0, .kept⟩,
  ⟨0x800014, [(64, 4864)], 20, 4, .lv, 0, .kept⟩,
  ⟨0x800014, [(64, 4864)], 24, 2, .lv, 0, .kept⟩,
  ⟨0x800014, [(64, 4864)], 26, 1, .lv, 0, .kept⟩,
  ⟨0x800014, [(64, 4864)], 27, 1, .lv, 0, .kept⟩,
  ⟨0x800014, [(64, 4864)], 28, 1, .lv, 0, .kept⟩,
  ⟨0x800014, [(64, 4864)], 29, 1, .lv, 0, .kept⟩,
  ⟨0x800018, [(64, 4864)], 0, 16, .lv, 0, .kept⟩,
  ⟨0x800018, [(64, 4864)], 16, 16, .lv, 0, .kept⟩,
  ⟨0x80001C, [(64, 4864)], 0, 15, .lv, 0, .kept⟩,
  ⟨0x80001C, [(64, 4864)], 16, 15, .lv, 0, .kept⟩,
  ⟨0x800020, [(64, 4864)], 0, 16, .lv, 0, .kept⟩,
  ⟨0x800020, [(64, 4864)], 16, 16, .lv, 0, .kept⟩,
  ⟨0x800024, [(64, 4864)], 0, 16, .lv, 0, .kept⟩,
  ⟨0x800024, [(64, 4864)], 16, 16, .lv, 0, .kept⟩,
  ⟨0x800028, [(64, 4864)], 0, 32, .lv, 0, .kept⟩,
  ⟨0x80002C, [(64, 4864)], 0, 32, .ro, 0, .kept⟩,
  ⟨0x800030, [(64, 4864)], 0, 32, .rw, 0, .kept⟩,
  ⟨0x800034, [(64, 4864)], 0, 32, .rw, 0, .kept⟩,
  ⟨0x800038, [(64, 4864)], 0, 16, .rw, 0, .kept⟩,
  ⟨0x800038, [(64, 4864)], 16, 16, .ro, 0, .kept⟩,
  ⟨0x80003C, [(64, 4864)], 0, 6, .ro, 0, .kept⟩,
  ⟨0x80003C, [(64, 4864)], 8, 1, .ro, 0, .kept⟩,
  ⟨0x80003C, [(64, 4864)], 9, 1, .ro, 0, .kept⟩,
  ⟨0x80003C, [(64, 4864)], 10, 1, .ro, 0, .kept⟩,
  ⟨0x80003C, [(64, 4864)], 11, 1, .ro, 0, .kept⟩]

/-- Register rows of LOOPPARAM (R136, part 2). -/
def rows_LOOPPARAM_R136_b : List RegRow := [
  ⟨0x80003C, [(64, 4864)], 12, 1, .ro, 0, .kept⟩,
  ⟨0x80003C, [(64, 4864)], 13, 1, .ro, 0, .kept⟩,
  ⟨0x80003C, [(64, 4864)], 14, 1, .ro, 0, .kept⟩,
  ⟨0x80003C, [(64, 4864)], 16, 16, .ro, 0, .kept⟩]

/-- All rows of LOOPPARAM_R136. -/
def rows_LOOPPARAM_R136 : List RegRow := rows_LOOPPARAM_R136_a ++ rows_LOOPPARAM_R136_b

/-- Register rows of COURSE (R162, part 1). -/
def rows_COURSE_R162_a : List RegRow := [
  ⟨0x300000, [(65536, 19)], 0, 5, .ro, 0, .live⟩,
  ⟨0x300000, [(65536, 19)], 5, 1, .ro, 0, .live⟩,
  ⟨0x300000, [(65536, 19)], 8, 8, .ro, 1, .num 1⟩,
  ⟨0x300004, [(65536, 19)], 0, 1, .rw, 0, .kept⟩,
  ⟨0x300004, [(65536, 19)], 1, 1, .rw, 0, .kept⟩,
  ⟨0x300008, [(65536, 19)], 0, 32, .rw, 0xC350, .kept⟩,
  ⟨0x30000C, [(65536, 19)], 0, 8, .rw, 0x10, .kept⟩,
  ⟨0x300010, [(65536, 19)], 0, 10, .rw, 0x100, .kept⟩,
  ⟨0x300010, [(65536, 19)], 16, 1, .rw, 1, .kept⟩,
  ⟨0x300014, [(65536, 19)], 0, 16, .rw, 0x32D6, .kept⟩,
  ⟨0x300014, [(65536, 19)], 16, 16, .rw, 0x5092, .kept⟩,
  ⟨0x300018, [(65536, 19)], 0, 16, .rw, 0x197B, .kept⟩,
  ⟨0x300018, [(65536, 19)], 16, 16, .rw, 0xA0C4, .kept⟩,
  ⟨0x30001C, [(65536, 19)], 0, 16, .rw, 0x400, .kept⟩,
  ⟨0x300020, [(65536, 19)], 0, 16, .rw, 0x128, .kept⟩,
  ⟨0x300020, [(65536, 19)], 16, 8, .rw, 4, .kept⟩,
  ⟨0x300024, [(65536, 19)], 0, 32, .rw, 0, .kept⟩,
  ⟨0x300028, [(65536, 19)], 0, 7, .rc, 0, .num 0⟩,
  ⟨0x300028, [(65536, 19)], 8, 1, .ro, 0, .live⟩,
  ⟨0x300030, [(65536, 19)], 0, 1, .w1c, 0, .kept⟩,
  ⟨0x300030, [(65536, 19)], 1, 1, .w1c, 0, .kept⟩,
  ⟨0x300030, [(65536, 19)], 2, 1, .w1c, 0, .kept⟩,
  ⟨0x300030, [(65536, 19)], 3, 1, .w1c, 0, .kept⟩,
  ⟨0x300030, [(65536, 19)], 4, 1, .w1c, 0, .kept⟩,
  ⟨0x300030, [(65536, 19)], 5, 1, .w1c, 0, .kept⟩,
  ⟨0x300030, [(65536, 19)], 6, 1, .w1c, 0, .kept⟩,
  ⟨0x300030, [(65536, 19)], 7, 1, .w1c, 0, .kept⟩,
  ⟨0x300030, [(65536, 19)], 8, 1, .w1c, 0, .kept⟩,
  ⟨0x300030, [(65536, 19)], 9, 1, .w1c, 0, .kept⟩,
  ⟨0x300034, [(65536, 19)], 0, 10, .w1c, 0, .kept⟩,
  ⟨0x300038, [(65536, 19)], 0, 10, .rw, 0x3FF, .kept⟩,
  ⟨0x30003C, [(65536, 19)], 0, 20, .rw, 0x559, .kept⟩,
  ⟨0x300040, [(65536, 19)], 0, 10, .wo, 0, .num 0⟩,
  ⟨0x300050, [(65536, 19)], 0, 32, .ro, 0, .kept⟩,
  ⟨0x300054, [(65536, 19)], 0, 16, .ro, 0, .kept⟩,
  ⟨0x300058, [(65536, 19)], 0, 32, .ro, 0, .kept⟩,
  ⟨0x30005C, [(65536, 19)], 0, 16, .ro, 0, .kept⟩,
  ⟨0x300060, [(65536, 19)], 0, 32, .ro, 0, .kept⟩,
  ⟨0x300064, [(65536, 19)], 0, 16, .ro, 0, .kept⟩,
  ⟨0x300068, [(65536, 19)], 0, 32, .ro, 0, .kept⟩]

/-- Register rows of COURSE (R162, part 2). -/
def rows_COURSE_R162_b : List RegRow := [
  ⟨0x30006C, [(65536, 19)], 0, 16, .ro, 0, .kept⟩,
  ⟨0x300070, [(65536, 19)], 0, 32, .ro, 0, .kept⟩,
  ⟨0x300074, [(65536, 19)], 0, 16, .ro, 0, .kept⟩,
  ⟨0x300078, [(65536, 19)], 0, 32, .ro, 0, .kept⟩,
  ⟨0x30007C, [(65536, 19)], 0, 16, .ro, 0, .kept⟩]

/-- All rows of COURSE_R162. -/
def rows_COURSE_R162 : List RegRow := rows_COURSE_R162_a ++ rows_COURSE_R162_b

/-- Register rows of COURSE (R163). -/
def rows_COURSE_R163 : List RegRow := [
  ⟨0x301000, [(65536, 19), (4, 256)], 0, 2, .rw, 0, .kept⟩,
  ⟨0x301000, [(65536, 19), (4, 256)], 2, 1, .rw, 0, .kept⟩,
  ⟨0x301000, [(65536, 19), (4, 256)], 3, 1, .rw, 0, .kept⟩,
  ⟨0x301000, [(65536, 19), (4, 256)], 4, 1, .rw, 0, .kept⟩,
  ⟨0x301000, [(65536, 19), (4, 256)], 5, 2, .wo, 0, .num 0⟩,
  ⟨0x301400, [(65536, 19), (4, 256)], 0, 2, .ro, 0, .live⟩,
  ⟨0x301400, [(65536, 19), (4, 256)], 2, 1, .ro, 0, .live⟩,
  ⟨0x301400, [(65536, 19), (4, 256)], 3, 1, .ro, 0, .kept⟩,
  ⟨0x301400, [(65536, 19), (4, 256)], 4, 1, .w1c, 0, .kept⟩,
  ⟨0x301400, [(65536, 19), (4, 256)], 5, 1, .ro, 0, .live⟩,
  ⟨0x301400, [(65536, 19), (4, 256)], 6, 1, .ro, 0, .num 1⟩,
  ⟨0x301400, [(65536, 19), (4, 256)], 8, 1, .w1c, 0, .kept⟩,
  ⟨0x301400, [(65536, 19), (4, 256)], 9, 1, .ro, 0, .kept⟩,
  ⟨0x301400, [(65536, 19), (4, 256)], 10, 1, .ro, 0, .kept⟩,
  ⟨0x301400, [(65536, 19), (4, 256)], 11, 1, .ro, 0, .kept⟩,
  ⟨0x301400, [(65536, 19), (4, 256)], 12, 1, .ro, 0, .kept⟩,
  ⟨0x301400, [(65536, 19), (4, 256)], 13, 1, .w1c, 0, .kept⟩,
  ⟨0x301400, [(65536, 19), (4, 256)], 14, 1, .w1c, 0, .kept⟩,
  ⟨0x301400, [(65536, 19), (4, 256)], 16, 2, .ro, 0, .num 0⟩,
  ⟨0x301800, [(65536, 19), (4, 256)], 0, 16, .rw, 0, .kept⟩,
  ⟨0x301800, [(65536, 19), (4, 256)], 16, 10, .ro, 0, .kept⟩,
  ⟨0x301C00, [(65536, 19), (4, 8)], 0, 32, .ro, 0, .live⟩]

/-- Register rows of ACCORD (R195, part 1). -/
def rows_ACCORD_R195_a : List RegRow := [
  ⟨0x260000, [], 0, 12, .ro, 0x480, .num 1152⟩,
  ⟨0x260000, [], 16, 5, .ro, 0x10, .num 16⟩,
  ⟨0x260004, [], 0, 17, .fx, 0x7D0, .kept⟩,
  ⟨0x260008, [], 0, 10, .fx, 0x18, .kept⟩,
  ⟨0x26000C, [], 0, 7, .fx, 0x40, .kept⟩,
  ⟨0x26000C, [], 16, 7, .fx, 8, .kept⟩,
  ⟨0x260010, [], 0, 10, .fx, 0x14, .kept⟩,
  ⟨0x260010, [], 10, 14, .fx, 0xFA, .kept⟩,
  ⟨0x260010, [], 24, 1, .fx, 1, .kept⟩,
  ⟨0x260014, [], 0, 2, .fx, 0, .kept⟩,
  ⟨0x260100, [(4, 16)], 0, 32, .fx, 0, .kept⟩,
  ⟨0x260020, [], 0, 3, .ro, 0, .num 0⟩,
  ⟨0x260020, [], 4, 3, .ro, 0, .num 0⟩,
  ⟨0x260024, [(4, 2)], 0, 32, .ro, 0, .live⟩,
  ⟨0x26002C, [], 0, 4, .ro, 0, .kept⟩,
  ⟨0x26002C, [], 4, 12, .ro, 0, .kept⟩,
  ⟨0x26002C, [], 16, 2, .ro, 0, .kept⟩,
  ⟨0x26002C, [], 18, 1, .ro, 0, .num 0⟩,
  ⟨0x260030, [], 0, 32, .ro, 0, .kept⟩,
  ⟨0x260034, [], 0, 16, .ro, 0, .kept⟩,
  ⟨0x260038, [], 0, 16, .ro, 0, .kept⟩,
  ⟨0x26003C, [], 0, 16, .w1c, 0, .kept⟩,
  ⟨0x260040, [], 0, 4, .wo, 0, .num 0⟩,
  ⟨0x260040, [], 4, 1, .wo, 0, .num 0⟩,
  ⟨0x260040, [], 5, 1, .wo, 0, .num 0⟩,
  ⟨0x260044, [], 0, 4, .wo, 0, .num 0⟩,
  ⟨0x260044, [], 4, 1, .wo, 0, .num 0⟩,
  ⟨0x260050, [], 0, 1, .w1c, 0, .kept⟩,
  ⟨0x260050, [], 1, 1, .w1c, 0, .kept⟩,
  ⟨0x260050, [], 2, 1, .w1c, 0, .kept⟩,
  ⟨0x260050, [], 3, 1, .w1c, 0, .kept⟩,
  ⟨0x260050, [], 4, 1, .w1c, 0, .kept⟩,
  ⟨0x260050, [], 5, 1, .w1c, 0, .kept⟩,
  ⟨0x260050, [], 6, 1, .w1c, 0, .kept⟩,
  ⟨0x260050, [], 7, 1, .w1c, 0, .kept⟩,
  ⟨0x260054, [], 0, 8, .w1c, 0, .kept⟩,
  ⟨0x260058, [], 0, 8, .rw, 0xFF, .kept⟩,
  ⟨0x26005C, [], 0, 16, .rw, 0x955, .kept⟩,
  ⟨0x260060, [], 0, 8, .wo, 0, .num 0⟩,
  ⟨0x260080, [], 0, 32, .ro, 0, .kept⟩]

/-- Register rows of ACCORD (R195, part 2). -/
def rows_ACCORD_R195_b : List RegRow := [
  ⟨0x260084, [], 0, 16, .ro, 0, .kept⟩,
  ⟨0x260088, [], 0, 32, .ro, 0, .kept⟩,
  ⟨0x26008C, [], 0, 16, .ro, 0, .kept⟩,
  ⟨0x260090, [], 0, 32, .ro, 0, .kept⟩,
  ⟨0x260094, [], 0, 16, .ro, 0, .kept⟩,
  ⟨0x260098, [], 0, 32, .ro, 0, .kept⟩,
  ⟨0x26009C, [], 0, 16, .ro, 0, .kept⟩,
  ⟨0x2600A0, [], 0, 32, .ro, 0, .kept⟩,
  ⟨0x2600A4, [], 0, 16, .ro, 0, .kept⟩,
  ⟨0x2600A8, [], 0, 32, .ro, 0, .kept⟩,
  ⟨0x2600AC, [], 0, 16, .ro, 0, .kept⟩,
  ⟨0x2600B0, [], 0, 32, .ro, 0, .kept⟩,
  ⟨0x2600B4, [], 0, 16, .ro, 0, .kept⟩]

/-- All rows of ACCORD_R195. -/
def rows_ACCORD_R195 : List RegRow := rows_ACCORD_R195_a ++ rows_ACCORD_R195_b

/-- Register rows of COMPOSER (R215, part 1). -/
def rows_COMPOSER_R215_a : List RegRow := [
  ⟨0x180000, [], 0, 4, .ro, 8, .num 8⟩,
  ⟨0x180000, [], 4, 3, .ro, 4, .num 4⟩,
  ⟨0x180000, [], 8, 8, .ro, 1, .num 1⟩,
  ⟨0x180004, [], 0, 3, .fx, 4, .kept⟩,
  ⟨0x180004, [], 8, 6, .fx, 4, .kept⟩,
  ⟨0x180008, [], 0, 1, .wo, 0, .num 0⟩,
  ⟨0x18000C, [], 0, 3, .ro, 0, .num 0⟩,
  ⟨0x18000C, [], 4, 3, .ro, 0, .kept⟩,
  ⟨0x18000C, [], 7, 1, .ro, 0, .kept⟩,
  ⟨0x18000C, [], 8, 7, .ro, 0, .kept⟩,
  ⟨0x18000C, [], 16, 7, .ro, 0, .num 0⟩,
  ⟨0x180010, [(4, 2)], 0, 32, .rw, 0, .kept⟩,
  ⟨0x180018, [], 0, 20, .ro, 0, .kept⟩,
  ⟨0x18001C, [], 0, 32, .ro, 0, .kept⟩,
  ⟨0x180020, [(4, 2)], 0, 32, .ro, 0, .kept⟩,
  ⟨0x180028, [], 0, 32, .ro, 0, .kept⟩,
  ⟨0x180030, [], 0, 1, .w1c, 0, .kept⟩,
  ⟨0x180030, [], 1, 1, .w1c, 0, .kept⟩,
  ⟨0x180030, [], 2, 1, .w1c, 0, .kept⟩,
  ⟨0x180030, [], 3, 1, .w1c, 0, .kept⟩,
  ⟨0x180030, [], 4, 1, .w1c, 0, .kept⟩,
  ⟨0x180030, [], 5, 1, .w1c, 0, .kept⟩,
  ⟨0x180030, [], 6, 1, .w1c, 0, .kept⟩,
  ⟨0x180034, [], 0, 7, .w1c, 0, .kept⟩,
  ⟨0x180038, [], 0, 7, .rw, 0x7F, .kept⟩,
  ⟨0x18003C, [], 0, 14, .rw, 0x154, .kept⟩,
  ⟨0x180040, [], 0, 7, .wo, 0, .num 0⟩,
  ⟨0x180050, [], 0, 32, .ro, 0, .kept⟩,
  ⟨0x180054, [], 0, 16, .ro, 0, .kept⟩,
  ⟨0x180058, [], 0, 32, .ro, 0, .kept⟩,
  ⟨0x18005C, [], 0, 16, .ro, 0, .kept⟩,
  ⟨0x180060, [], 0, 32, .ro, 0, .kept⟩,
  ⟨0x180064, [], 0, 16, .ro, 0, .kept⟩,
  ⟨0x180068, [], 0, 32, .ro, 0, .kept⟩,
  ⟨0x18006C, [], 0, 16, .ro, 0, .kept⟩,
  ⟨0x180070, [], 0, 32, .ro, 0, .kept⟩,
  ⟨0x180074, [], 0, 16, .ro, 0, .kept⟩,
  ⟨0x180078, [], 0, 32, .ro, 0, .kept⟩,
  ⟨0x18007C, [], 0, 16, .ro, 0, .kept⟩,
  ⟨0x180080, [], 0, 32, .ro, 0, .kept⟩]

/-- Register rows of COMPOSER (R215, part 2). -/
def rows_COMPOSER_R215_b : List RegRow := [
  ⟨0x180084, [], 0, 16, .ro, 0, .kept⟩,
  ⟨0x180088, [], 0, 32, .ro, 0, .kept⟩,
  ⟨0x18008C, [], 0, 16, .ro, 0, .kept⟩,
  ⟨0x180090, [], 0, 32, .ro, 0, .kept⟩,
  ⟨0x180094, [], 0, 16, .ro, 0, .kept⟩,
  ⟨0x180098, [], 0, 32, .ro, 0, .kept⟩,
  ⟨0x18009C, [], 0, 16, .ro, 0, .kept⟩,
  ⟨0x1800A0, [], 0, 32, .ro, 0, .kept⟩,
  ⟨0x1800A4, [], 0, 16, .ro, 0, .kept⟩,
  ⟨0x1800A8, [], 0, 32, .ro, 0, .kept⟩,
  ⟨0x1800AC, [], 0, 16, .ro, 0, .kept⟩,
  ⟨0x180100, [(4, 6)], 0, 8, .lv, 0, .kept⟩,
  ⟨0x180200, [(4, 16)], 0, 32, .lv, 0, .kept⟩,
  ⟨0x180240, [(4, 16)], 0, 32, .lv, 0, .kept⟩,
  ⟨0x180800, [(4, 512)], 0, 6, .fx, 0, .kept⟩,
  ⟨0x180800, [(4, 512)], 7, 1, .fx, 0, .kept⟩,
  ⟨0x181000, [(4, 512)], 0, 6, .fx, 0, .kept⟩,
  ⟨0x181000, [(4, 512)], 7, 1, .fx, 0, .kept⟩]

/-- All rows of COMPOSER_R215. -/
def rows_COMPOSER_R215 : List RegRow := rows_COMPOSER_R215_a ++ rows_COMPOSER_R215_b

/-- Register rows of COMPOSER (R216). -/
def rows_COMPOSER_R216 : List RegRow := [
  ⟨0x182000, [(32, 64)], 0, 24, .lv, 0, .kept⟩,
  ⟨0x182004, [(32, 64)], 0, 24, .lv, 0, .kept⟩,
  ⟨0x182008, [(32, 64)], 0, 16, .lv, 0, .kept⟩,
  ⟨0x182008, [(32, 64)], 16, 16, .lv, 0, .kept⟩,
  ⟨0x18200C, [(32, 64)], 0, 1, .lv, 0, .kept⟩,
  ⟨0x18200C, [(32, 64)], 1, 1, .fx, 0, .kept⟩,
  ⟨0x18200C, [(32, 64)], 8, 7, .ro, 1, .kept⟩,
  ⟨0x18200C, [(32, 64)], 16, 6, .ro, 0, .kept⟩,
  ⟨0x182010, [(32, 64)], 0, 24, .ro, 0, .kept⟩,
  ⟨0x182014, [(32, 64)], 0, 24, .ro, 0, .kept⟩,
  ⟨0x182018, [(32, 64)], 0, 10, .ro, 0, .live⟩,
  ⟨0x182018, [(32, 64)], 16, 10, .ro, 0, .live⟩]

/-- Register rows of COMPOSER (R217). -/
def rows_COMPOSER_R217 : List RegRow := [
  ⟨0x184000, [(128, 64), (16, 8)], 0, 24, .lv, 0, .kept⟩,
  ⟨0x184000, [(128, 64), (16, 8)], 31, 1, .lv, 0, .kept⟩,
  ⟨0x184004, [(128, 64), (16, 8)], 0, 15, .lv, 0, .kept⟩,
  ⟨0x184008, [(128, 64), (16, 8)], 0, 32, .ro, 0, .kept⟩,
  ⟨0x186000, [(16, 64)], 0, 32, .ro, 0, .kept⟩,
  ⟨0x186004, [(16, 64)], 0, 32, .ro, 0, .kept⟩,
  ⟨0x186008, [(16, 64)], 0, 32, .ro, 0, .kept⟩]

/-- Register rows of COMPOSER (R218). -/
def rows_COMPOSER_R218 : List RegRow := [
  ⟨0x190000, [(2048, 64), (32, 64), (4, 8)], 0, 16, .ro, 0, .kept⟩,
  ⟨0x190000, [(2048, 64), (32, 64), (4, 8)], 16, 16, .ro, 0, .kept⟩,
  ⟨0x1C0000, [(2048, 64), (32, 64), (4, 8)], 0, 32, .ro, 0, .kept⟩]

/-- Register rows of KOWIN (R246). -/
def rows_KOWIN_R246 : List RegRow := [
  ⟨0xF0000, [], 0, 16, .fx, 0x88B5, .kept⟩,
  ⟨0xF0004, [], 0, 16, .fx, 0x1CDE, .kept⟩,
  ⟨0xF0008, [], 0, 10, .fx, 0x3E8, .kept⟩,
  ⟨0xF0008, [], 16, 8, .fx, 0x14, .kept⟩,
  ⟨0xF000C, [], 0, 6, .fx, 0x20, .kept⟩,
  ⟨0xF0010, [], 0, 6, .wo, 0, .num 0⟩,
  ⟨0xF0010, [], 8, 1, .wo, 0, .num 0⟩,
  ⟨0xF0014, [], 0, 24, .ro, 0, .kept⟩,
  ⟨0xF0014, [], 24, 1, .rc, 0, .num 0⟩,
  ⟨0xF0014, [], 25, 1, .rc, 0, .num 0⟩,
  ⟨0xF0018, [(4, 2)], 0, 32, .ro, 0, .live⟩,
  ⟨0xF0030, [], 0, 1, .w1c, 0, .kept⟩,
  ⟨0xF0030, [], 1, 1, .w1c, 0, .kept⟩,
  ⟨0xF0030, [], 2, 1, .w1c, 0, .kept⟩,
  ⟨0xF0030, [], 3, 1, .w1c, 0, .kept⟩,
  ⟨0xF0030, [], 4, 1, .w1c, 0, .kept⟩,
  ⟨0xF0030, [], 5, 1, .w1c, 0, .kept⟩,
  ⟨0xF0030, [], 6, 1, .w1c, 0, .kept⟩,
  ⟨0xF0030, [], 7, 1, .w1c, 0, .kept⟩,
  ⟨0xF0030, [], 8, 1, .w1c, 0, .kept⟩,
  ⟨0xF0034, [], 0, 9, .w1c, 0, .kept⟩,
  ⟨0xF0038, [], 0, 9, .rw, 0x1FF, .kept⟩,
  ⟨0xF003C, [], 0, 18, .rw, 0x19055, .kept⟩,
  ⟨0xF0040, [], 0, 9, .wo, 0, .num 0⟩,
  ⟨0xF0050, [], 0, 32, .ro, 0, .kept⟩,
  ⟨0xF0054, [], 0, 16, .ro, 0, .kept⟩,
  ⟨0xF0058, [], 0, 32, .ro, 0, .kept⟩,
  ⟨0xF005C, [], 0, 16, .ro, 0, .kept⟩,
  ⟨0xF0060, [], 0, 32, .ro, 0, .kept⟩,
  ⟨0xF0064, [], 0, 16, .ro, 0, .kept⟩,
  ⟨0xF0068, [], 0, 32, .ro, 0, .kept⟩,
  ⟨0xF006C, [], 0, 16, .ro, 0, .kept⟩]

/-- Register rows of LANES (R247, part 1). -/
def rows_LANES_R247_a : List RegRow := [
  ⟨0x100000, [(4096, 64)], 0, 2, .fx, 0, .kept⟩,
  ⟨0x100000, [(4096, 64)], 2, 2, .fx, 0, .kept⟩,
  ⟨0x100000, [(4096, 64)], 4, 1, .fx, 0, .kept⟩,
  ⟨0x100000, [(4096, 64)], 5, 2, .fx, 0, .kept⟩,
  ⟨0x100000, [(4096, 64)], 7, 2, .fx, 0, .kept⟩,
  ⟨0x100004, [(4096, 64)], 0, 2, .ro, 0, .num 0⟩,
  ⟨0x100004, [(4096, 64)], 2, 1, .ro, 0, .live⟩,
  ⟨0x100004, [(4096, 64)], 3, 1, .ro, 0, .live⟩,
  ⟨0x100004, [(4096, 64)], 4, 1, .ro, 0, .num 0⟩,
  ⟨0x100008, [(4096, 64)], 0, 32, .ro, 0, .kept⟩,
  ⟨0x10000C, [(4096, 64)], 0, 32, .ro, 0, .kept⟩,
  ⟨0x100010, [(4096, 64)], 0, 32, .ro, 0, .kept⟩,
  ⟨0x100014, [(4096, 64)], 0, 16, .ro, 0, .num 0⟩,
  ⟨0x100014, [(4096, 64)], 16, 16, .ro, 0, .num 0⟩,
  ⟨0x100018, [(4096, 64)], 0, 12, .fx, 0, .kept⟩,
  ⟨0x100018, [(4096, 64)], 13, 3, .fx, 0, .kept⟩,
  ⟨0x100018, [(4096, 64)], 16, 12, .fx, 0, .kept⟩,
  ⟨0x100018, [(4096, 64)], 29, 3, .fx, 0, .kept⟩,
  ⟨0x100020, [(4096, 64)], 0, 32, .fx, 0, .kept⟩,
  ⟨0x100024, [(4096, 64)], 0, 16, .fx, 0, .kept⟩,
  ⟨0x100028, [(4096, 64)], 0, 32, .ro, 0, .kept⟩,
  ⟨0x10002C, [(4096, 64)], 0, 16, .ro, 0, .kept⟩,
  ⟨0x100030, [(4096, 64), (4, 2)], 0, 32, .ro, 0, .kept⟩,
  ⟨0x100038, [(4096, 64)], 0, 32, .ro, 0, .kept⟩,
  ⟨0x100040, [(4096, 64)], 0, 32, .ro, 0, .kept⟩,
  ⟨0x100044, [(4096, 64)], 0, 16, .ro, 0, .kept⟩,
  ⟨0x100048, [(4096, 64)], 0, 32, .ro, 0, .kept⟩,
  ⟨0x10004C, [(4096, 64)], 0, 16, .ro, 0, .kept⟩,
  ⟨0x100050, [(4096, 64)], 0, 32, .ro, 0, .kept⟩,
  ⟨0x100054, [(4096, 64)], 0, 16, .ro, 0, .kept⟩,
  ⟨0x100058, [(4096, 64)], 0, 32, .ro, 0, .kept⟩,
  ⟨0x10005C, [(4096, 64)], 0, 16, .ro, 0, .kept⟩,
  ⟨0x100060, [(4096, 64)], 0, 32, .ro, 0, .kept⟩,
  ⟨0x100064, [(4096, 64)], 0, 16, .ro, 0, .kept⟩,
  ⟨0x100068, [(4096, 64)], 0, 32, .ro, 0, .kept⟩,
  ⟨0x10006C, [(4096, 64)], 0, 16, .ro, 0, .kept⟩,
  ⟨0x100070, [(4096, 64)], 0, 32, .ro, 0, .kept⟩,
  ⟨0x100074, [(4096, 64)], 0, 16, .ro, 0, .kept⟩,
  ⟨0x100078, [(4096, 64)], 0, 32, .ro, 0, .kept⟩,
  ⟨0x10007C, [(4096, 64)], 0, 16, .ro, 0, .kept⟩]

/-- Register rows of LANES (R247, part 2). -/
def rows_LANES_R247_b : List RegRow := [
  ⟨0x100100, [(4096, 64), (4, 4)], 0, 32, .fx, 0, .kept⟩,
  ⟨0x100110, [(4096, 64), (4, 4)], 0, 32, .ro, 0, .kept⟩]

/-- All rows of LANES_R247. -/
def rows_LANES_R247 : List RegRow := rows_LANES_R247_a ++ rows_LANES_R247_b

/-- Register rows of AGENTS (R248). -/
def rows_AGENTS_R248 : List RegRow := [
  ⟨0x140000, [], 0, 4, .ro, 8, .num 8⟩,
  ⟨0x140000, [], 16, 14, .ro, 0x2000, .num 8192⟩,
  ⟨0x140004, [], 0, 14, .ro, 0x2000, .kept⟩,
  ⟨0x140008, [], 0, 13, .rw, 0, .num 0⟩,
  ⟨0x140010, [(4, 8)], 0, 32, .ro, 0, .num 0⟩,
  ⟨0x140030, [], 0, 1, .w1c, 0, .kept⟩,
  ⟨0x140030, [], 1, 1, .w1c, 0, .kept⟩,
  ⟨0x140030, [], 2, 1, .w1c, 0, .kept⟩,
  ⟨0x140030, [], 3, 1, .w1c, 0, .kept⟩,
  ⟨0x140034, [], 0, 4, .w1c, 0, .kept⟩,
  ⟨0x140038, [], 0, 4, .rw, 0xF, .kept⟩,
  ⟨0x14003C, [], 0, 8, .rw, 0x64, .kept⟩,
  ⟨0x140040, [], 0, 4, .wo, 0, .num 0⟩,
  ⟨0x140050, [], 0, 32, .ro, 0, .kept⟩,
  ⟨0x140054, [], 0, 16, .ro, 0, .kept⟩,
  ⟨0x140058, [], 0, 32, .ro, 0, .kept⟩,
  ⟨0x14005C, [], 0, 16, .ro, 0, .kept⟩,
  ⟨0x140060, [], 0, 32, .ro, 0, .kept⟩,
  ⟨0x140064, [], 0, 16, .ro, 0, .kept⟩,
  ⟨0x140068, [], 0, 32, .ro, 0, .kept⟩,
  ⟨0x14006C, [], 0, 16, .ro, 0, .kept⟩,
  ⟨0x140100, [(16, 8)], 0, 14, .ro, 0, .kept⟩,
  ⟨0x140100, [(16, 8)], 16, 14, .ro, 0, .kept⟩]

/-- Register rows of PARSER (R270, part 1). -/
def rows_PARSER_R270_a : List RegRow := [
  ⟨0xE0000, [], 0, 11, .ro, 0x400, .num 1024⟩,
  ⟨0xE0000, [], 12, 2, .ro, 2, .num 2⟩,
  ⟨0xE0000, [], 16, 8, .ro, 1, .num 1⟩,
  ⟨0xE0004, [], 0, 1, .fx, 0, .kept⟩,
  ⟨0xE0004, [], 1, 1, .fx, 0, .kept⟩,
  ⟨0xE0008, [], 0, 1, .ro, 0, .kept⟩,
  ⟨0xE0008, [], 1, 1, .ro, 0, .num 0⟩,
  ⟨0xE0008, [], 2, 1, .ro, 0, .num 0⟩,
  ⟨0xE0008, [], 16, 16, .ro, 0, .kept⟩,
  ⟨0xE000C, [], 0, 1, .wo, 0, .num 0⟩,
  ⟨0xE000C, [], 1, 1, .wo, 0, .num 0⟩,
  ⟨0xE0010, [(4, 2)], 0, 32, .rw, 0, .kept⟩,
  ⟨0xE0018, [], 0, 32, .ro, 0, .kept⟩,
  ⟨0xE001C, [], 0, 32, .ro, 0, .kept⟩,
  ⟨0xE0020, [], 0, 10, .rw, 0, .kept⟩,
  ⟨0xE0020, [], 12, 1, .rw, 0, .kept⟩,
  ⟨0xE0024, [], 0, 1, .wo, 0, .num 0⟩,
  ⟨0xE0024, [], 1, 1, .wo, 0, .num 0⟩,
  ⟨0xE0030, [], 0, 1, .w1c, 0, .kept⟩,
  ⟨0xE0030, [], 1, 1, .w1c, 0, .kept⟩,
  ⟨0xE0030, [], 2, 1, .w1c, 0, .kept⟩,
  ⟨0xE0030, [], 3, 1, .w1c, 0, .kept⟩,
  ⟨0xE0030, [], 4, 1, .w1c, 0, .kept⟩,
  ⟨0xE0030, [], 5, 1, .w1c, 0, .kept⟩,
  ⟨0xE0030, [], 6, 1, .w1c, 0, .kept⟩,
  ⟨0xE0030, [], 7, 1, .w1c, 0, .kept⟩,
  ⟨0xE0030, [], 8, 1, .w1c, 0, .kept⟩,
  ⟨0xE0034, [], 0, 9, .w1c, 0, .kept⟩,
  ⟨0xE0038, [], 0, 9, .rw, 0x1FF, .kept⟩,
  ⟨0xE003C, [], 0, 18, .rw, 0x8540, .kept⟩,
  ⟨0xE0040, [], 0, 9, .wo, 0, .num 0⟩,
  ⟨0xE0050, [], 0, 32, .ro, 0, .kept⟩,
  ⟨0xE0054, [], 0, 16, .ro, 0, .kept⟩,
  ⟨0xE0058, [], 0, 32, .ro, 0, .kept⟩,
  ⟨0xE005C, [], 0, 16, .ro, 0, .kept⟩,
  ⟨0xE0060, [], 0, 32, .ro, 0, .kept⟩,
  ⟨0xE0064, [], 0, 16, .ro, 0, .kept⟩,
  ⟨0xE0068, [], 0, 32, .ro, 0, .kept⟩,
  ⟨0xE006C, [], 0, 16, .ro, 0, .kept⟩,
  ⟨0xE0070, [], 0, 32, .ro, 0, .kept⟩]

/-- Register rows of PARSER (R270, part 2). -/
def rows_PARSER_R270_b : List RegRow := [
  ⟨0xE0074, [], 0, 16, .ro, 0, .kept⟩,
  ⟨0xE0078, [], 0, 32, .ro, 0, .kept⟩,
  ⟨0xE007C, [], 0, 16, .ro, 0, .kept⟩,
  ⟨0xE0080, [], 0, 32, .ro, 0, .kept⟩,
  ⟨0xE0084, [], 0, 16, .ro, 0, .kept⟩,
  ⟨0xE0088, [], 0, 32, .ro, 0, .kept⟩,
  ⟨0xE008C, [], 0, 16, .ro, 0, .kept⟩,
  ⟨0xE0090, [], 0, 32, .ro, 0, .kept⟩,
  ⟨0xE0094, [], 0, 16, .ro, 0, .kept⟩,
  ⟨0xE0098, [], 0, 32, .ro, 0, .kept⟩,
  ⟨0xE009C, [], 0, 16, .ro, 0, .kept⟩,
  ⟨0xE00A0, [], 0, 32, .ro, 0, .kept⟩,
  ⟨0xE00A4, [], 0, 16, .ro, 0, .kept⟩,
  ⟨0xE00A8, [], 0, 32, .ro, 0, .kept⟩,
  ⟨0xE00AC, [], 0, 16, .ro, 0, .kept⟩,
  ⟨0xE00B0, [], 0, 32, .ro, 0, .kept⟩,
  ⟨0xE00B4, [], 0, 16, .ro, 0, .kept⟩,
  ⟨0xE00B8, [], 0, 32, .ro, 0, .kept⟩,
  ⟨0xE00BC, [], 0, 16, .ro, 0, .kept⟩,
  ⟨0xE0200, [(4, 8)], 0, 32, .rw, 0, .kept⟩,
  ⟨0xE0220, [], 0, 32, .ro, 0, .kept⟩,
  ⟨0xE0224, [], 0, 16, .ro, 0, .kept⟩]

/-- All rows of PARSER_R270. -/
def rows_PARSER_R270 : List RegRow := rows_PARSER_R270_a ++ rows_PARSER_R270_b

/-- Register rows of PARSER (R271). -/
def rows_PARSER_R271 : List RegRow := [
  ⟨0xE0100, [(32, 2)], 11, 12, .rw, 0, .kept⟩,
  ⟨0xE0104, [(32, 2)], 0, 13, .rw, 1, .kept⟩,
  ⟨0xE0108, [(32, 2)], 0, 12, .ro, 0, .kept⟩,
  ⟨0xE0108, [(32, 2)], 16, 1, .ro, 0, .kept⟩,
  ⟨0xE010C, [(32, 2)], 0, 12, .rw, 0, .kept⟩,
  ⟨0xE010C, [(32, 2)], 16, 1, .rw, 0, .kept⟩,
  ⟨0xE0110, [(32, 2)], 0, 13, .rw, 0, .kept⟩,
  ⟨0xE0114, [(32, 2)], 0, 1, .rw, 0, .kept⟩,
  ⟨0xE0118, [(32, 2)], 0, 13, .ro, 0, .kept⟩,
  ⟨0xE0118, [(32, 2)], 16, 1, .w1c, 0, .kept⟩,
  ⟨0xE0118, [(32, 2)], 17, 1, .w1c, 0, .kept⟩]

/-- Register rows of PARSER (R272). -/
def rows_PARSER_R272 : List RegRow := [
  ⟨0xE0800, [(32, 64)], 0, 1, .rw, 0, .kept⟩,
  ⟨0xE0808, [(32, 64)], 0, 32, .ro, 0, .kept⟩,
  ⟨0xE080C, [(32, 64)], 0, 16, .ro, 0, .kept⟩,
  ⟨0xE0810, [(32, 64)], 0, 32, .ro, 0, .kept⟩,
  ⟨0xE0814, [(32, 64)], 0, 16, .ro, 0, .kept⟩,
  ⟨0xE0818, [(32, 64)], 0, 32, .ro, 0, .kept⟩,
  ⟨0xE081C, [(32, 64)], 0, 16, .ro, 0, .kept⟩]

/-- Register rows of TIME (R292, part 1). -/
def rows_TIME_R292_a : List RegRow := [
  ⟨0x80000, [], 0, 8, .ro, 1, .num 1⟩,
  ⟨0x80004, [], 0, 1, .ro, 0, .live⟩,
  ⟨0x80004, [], 1, 1, .ro, 0, .num 0⟩,
  ⟨0x80004, [], 2, 1, .ro, 0, .live⟩,
  ⟨0x80004, [], 3, 1, .ro, 0, .live⟩,
  ⟨0x80010, [], 0, 30, .ro, 0, .live⟩,
  ⟨0x80014, [(4, 2)], 0, 32, .ro, 0, .live⟩,
  ⟨0x8001C, [], 0, 32, .ro, 0, .live⟩,
  ⟨0x80020, [], 0, 32, .lv, 0, .kept⟩,
  ⟨0x80024, [], 0, 16, .lv, 0x400, .kept⟩,
  ⟨0x80028, [], 0, 32, .rw, 0, .kept⟩,
  ⟨0x8002C, [], 0, 9, .fx, 0x64, .kept⟩,
  ⟨0x80030, [(4, 2)], 0, 32, .rw, 0, .kept⟩,
  ⟨0x80038, [], 0, 32, .rw, 0, .kept⟩,
  ⟨0x8003C, [], 0, 1, .wo, 0, .num 0⟩,
  ⟨0x8003C, [], 1, 1, .wo, 0, .num 0⟩,
  ⟨0x80040, [(4, 2)], 0, 32, .fx, 0, .kept⟩,
  ⟨0x80048, [], 0, 30, .fx, 0, .kept⟩,
  ⟨0x80050, [], 0, 1, .rw, 0, .kept⟩,
  ⟨0x80050, [], 1, 1, .rw, 0, .kept⟩,
  ⟨0x80054, [], 0, 32, .rw, 0, .kept⟩,
  ⟨0x80058, [], 0, 19, .rw, 0x186A0, .kept⟩,
  ⟨0x8005C, [], 0, 30, .ro, 0, .kept⟩,
  ⟨0x80060, [(4, 2)], 0, 32, .ro, 0, .kept⟩,
  ⟨0x80070, [], 0, 6, .rc, 0, .num 0⟩,
  ⟨0x80070, [], 8, 8, .rc, 0, .num 0⟩,
  ⟨0x80070, [], 16, 1, .rc, 0, .num 0⟩,
  ⟨0x80074, [], 0, 16, .ro, 0, .num 0⟩,
  ⟨0x80078, [], 0, 30, .ro, 0, .num 0⟩,
  ⟨0x8007C, [(4, 2)], 0, 32, .ro, 0, .num 0⟩,
  ⟨0x80090, [], 0, 1, .w1c, 0, .kept⟩,
  ⟨0x80090, [], 1, 1, .w1c, 0, .kept⟩,
  ⟨0x80090, [], 2, 1, .w1c, 0, .kept⟩,
  ⟨0x80090, [], 3, 1, .w1c, 0, .kept⟩,
  ⟨0x80090, [], 4, 1, .w1c, 0, .kept⟩,
  ⟨0x80090, [], 5, 1, .w1c, 0, .kept⟩,
  ⟨0x80090, [], 6, 1, .w1c, 0, .kept⟩,
  ⟨0x80090, [], 7, 1, .w1c, 0, .kept⟩,
  ⟨0x80094, [], 0, 8, .w1c, 0, .kept⟩,
  ⟨0x80098, [], 0, 8, .rw, 0xFF, .kept⟩]

/-- Register rows of TIME (R292, part 2). -/
def rows_TIME_R292_b : List RegRow := [
  ⟨0x8009C, [], 0, 16, .rw, 0x4564, .kept⟩,
  ⟨0x800A0, [], 0, 8, .wo, 0, .num 0⟩,
  ⟨0x800B0, [], 0, 32, .ro, 0, .kept⟩,
  ⟨0x800B4, [], 0, 16, .ro, 0, .kept⟩,
  ⟨0x800B8, [], 0, 32, .ro, 0, .kept⟩,
  ⟨0x800BC, [], 0, 16, .ro, 0, .kept⟩,
  ⟨0x800C0, [], 0, 32, .ro, 0, .kept⟩,
  ⟨0x800C4, [], 0, 16, .ro, 0, .kept⟩,
  ⟨0x800C8, [], 0, 32, .ro, 0, .kept⟩,
  ⟨0x800CC, [], 0, 16, .ro, 0, .kept⟩,
  ⟨0x80100, [], 11, 12, .rw, 0, .kept⟩,
  ⟨0x80104, [], 0, 13, .rw, 0, .kept⟩,
  ⟨0x80108, [], 0, 12, .rw, 0, .kept⟩,
  ⟨0x80108, [], 16, 1, .rw, 0, .kept⟩,
  ⟨0x8010C, [], 0, 12, .rw, 0, .kept⟩,
  ⟨0x8010C, [], 16, 1, .rw, 0, .kept⟩,
  ⟨0x80110, [], 0, 13, .rw, 0, .kept⟩,
  ⟨0x80114, [], 0, 1, .rw, 0, .kept⟩,
  ⟨0x80118, [], 0, 13, .ro, 0, .kept⟩,
  ⟨0x80118, [], 16, 1, .w1c, 0, .kept⟩,
  ⟨0x80118, [], 17, 1, .w1c, 0, .kept⟩]

/-- All rows of TIME_R292. -/
def rows_TIME_R292 : List RegRow := rows_TIME_R292_a ++ rows_TIME_R292_b

/-- Register rows of TIME (R293). -/
def rows_TIME_R293 : List RegRow := [
  ⟨0x80200, [(32, 16)], 0, 3, .rw, 0, .kept⟩,
  ⟨0x80200, [(32, 16)], 3, 1, .rw, 0, .kept⟩,
  ⟨0x80204, [(32, 16)], 0, 30, .rw, 0, .kept⟩,
  ⟨0x80208, [(32, 16), (4, 2)], 0, 32, .rw, 0, .kept⟩,
  ⟨0x80210, [(32, 16)], 0, 32, .rw, 0, .kept⟩,
  ⟨0x80214, [(32, 16)], 0, 20, .rw, 0, .kept⟩,
  ⟨0x80218, [(32, 16)], 0, 30, .rw, 4, .kept⟩,
  ⟨0x8021C, [(32, 16)], 0, 1, .wo, 0, .num 0⟩,
  ⟨0x8021C, [(32, 16)], 1, 1, .wo, 0, .num 0⟩,
  ⟨0x8021C, [(32, 16)], 8, 1, .ro, 0, .kept⟩]

/-- Register rows of TIME (R294). -/
def rows_TIME_R294 : List RegRow := [
  ⟨0x80800, [(8, 64)], 0, 16, .rw, 0, .kept⟩,
  ⟨0x80804, [(8, 64)], 0, 16, .rw, 0, .kept⟩]

/-- Register rows of HIER (R318, part 1). -/
def rows_HIER_R318_a : List RegRow := [
  ⟨0xD0000, [], 0, 1, .ro, 0, .live⟩,
  ⟨0xD0000, [], 8, 5, .ro, 0, .live⟩,
  ⟨0xD0000, [], 13, 1, .fx, 0, .kept⟩,
  ⟨0xD0000, [], 16, 6, .fx, 0, .kept⟩,
  ⟨0xD0004, [], 0, 16, .lv, 0, .kept⟩,
  ⟨0xD0008, [], 0, 7, .fx, 4, .kept⟩,
  ⟨0xD0008, [], 8, 3, .fx, 3, .kept⟩,
  ⟨0xD0008, [], 16, 10, .fx, 0x64, .kept⟩,
  ⟨0xD000C, [], 0, 9, .fx, 0x40, .kept⟩,
  ⟨0xD000C, [], 16, 13, .fx, 0x400, .kept⟩,
  ⟨0xD0010, [], 0, 8, .fx, 4, .kept⟩,
  ⟨0xD0014, [], 0, 3, .ro, 0, .live⟩,
  ⟨0xD0014, [], 3, 1, .ro, 0, .live⟩,
  ⟨0xD0014, [], 4, 2, .ro, 0, .num 1⟩,
  ⟨0xD0014, [], 8, 4, .ro, 0, .kept⟩,
  ⟨0xD0014, [], 12, 3, .ro, 0, .num 0⟩,
  ⟨0xD0014, [], 16, 16, .ro, 0, .num 0⟩,
  ⟨0xD0018, [], 0, 1, .wo, 0, .num 0⟩,
  ⟨0xD0018, [], 1, 1, .wo, 0, .num 0⟩,
  ⟨0xD0018, [], 2, 1, .wo, 0, .num 0⟩,
  ⟨0xD001C, [], 0, 16, .ro, 0, .num 0⟩,
  ⟨0xD001C, [], 16, 5, .ro, 0, .num 0⟩,
  ⟨0xD001C, [], 24, 3, .ro, 0, .num 0⟩,
  ⟨0xD0020, [(4, 2)], 0, 32, .ro, 0, .kept⟩,
  ⟨0xD0028, [(4, 2)], 0, 32, .ro, 0, .num 0⟩,
  ⟨0xD0030, [], 0, 32, .ro, 0, .num 0⟩,
  ⟨0xD0034, [], 0, 1, .lv, 0, .kept⟩,
  ⟨0xD0034, [], 8, 6, .fx, 0, .kept⟩,
  ⟨0xD0034, [], 16, 6, .fx, 0, .kept⟩,
  ⟨0xD0034, [], 22, 1, .fx, 0, .kept⟩,
  ⟨0xD0038, [(4, 2)], 0, 32, .rw, 0, .kept⟩,
  ⟨0xD0040, [], 0, 5, .ro, 0, .kept⟩,
  ⟨0xD0040, [], 8, 1, .ro, 0, .kept⟩,
  ⟨0xD0050, [], 0, 1, .w1c, 0, .kept⟩,
  ⟨0xD0050, [], 1, 1, .w1c, 0, .kept⟩,
  ⟨0xD0050, [], 2, 1, .w1c, 0, .kept⟩,
  ⟨0xD0050, [], 3, 1, .w1c, 0, .kept⟩,
  ⟨0xD0050, [], 4, 1, .w1c, 0, .kept⟩,
  ⟨0xD0050, [], 5, 1, .w1c, 0, .kept⟩,
  ⟨0xD0050, [], 6, 1, .w1c, 0, .kept⟩]

/-- Register rows of HIER (R318, part 2). -/
def rows_HIER_R318_b : List RegRow := [
  ⟨0xD0050, [], 7, 1, .w1c, 0, .kept⟩,
  ⟨0xD0050, [], 8, 1, .w1c, 0, .kept⟩,
  ⟨0xD0050, [], 9, 1, .w1c, 0, .kept⟩,
  ⟨0xD0050, [], 10, 1, .w1c, 0, .kept⟩,
  ⟨0xD0050, [], 11, 1, .w1c, 0, .kept⟩,
  ⟨0xD0050, [], 12, 1, .w1c, 0, .kept⟩,
  ⟨0xD0050, [], 13, 1, .w1c, 0, .kept⟩,
  ⟨0xD0050, [], 14, 1, .w1c, 0, .kept⟩,
  ⟨0xD0050, [], 15, 1, .w1c, 0, .kept⟩,
  ⟨0xD0054, [], 0, 16, .w1c, 0, .kept⟩,
  ⟨0xD0058, [], 0, 16, .rw, 0xFFFF, .kept⟩,
  ⟨0xD005C, [], 0, 32, .rw, 0x15655BA9, .kept⟩,
  ⟨0xD0060, [], 0, 16, .wo, 0, .num 0⟩,
  ⟨0xD0080, [], 0, 32, .ro, 0, .kept⟩,
  ⟨0xD0084, [], 0, 16, .ro, 0, .kept⟩,
  ⟨0xD0088, [], 0, 32, .ro, 0, .kept⟩,
  ⟨0xD008C, [], 0, 16, .ro, 0, .kept⟩,
  ⟨0xD0090, [], 0, 32, .ro, 0, .kept⟩,
  ⟨0xD0094, [], 0, 16, .ro, 0, .kept⟩,
  ⟨0xD0098, [], 0, 32, .ro, 0, .kept⟩,
  ⟨0xD009C, [], 0, 16, .ro, 0, .kept⟩,
  ⟨0xD00A0, [], 0, 32, .ro, 0, .kept⟩,
  ⟨0xD00A4, [], 0, 16, .ro, 0, .kept⟩,
  ⟨0xD00A8, [], 0, 32, .ro, 0, .kept⟩,
  ⟨0xD00AC, [], 0, 16, .ro, 0, .kept⟩,
  ⟨0xD00B0, [], 0, 32, .ro, 0, .kept⟩,
  ⟨0xD00B4, [], 0, 16, .ro, 0, .kept⟩,
  ⟨0xD00B8, [], 0, 32, .ro, 0, .kept⟩,
  ⟨0xD00BC, [], 0, 16, .ro, 0, .kept⟩]

/-- All rows of HIER_R318. -/
def rows_HIER_R318 : List RegRow := rows_HIER_R318_a ++ rows_HIER_R318_b

/-- Register rows of HIER (R319). -/
def rows_HIER_R319 : List RegRow := [
  ⟨0xD1000, [(32, 64)], 0, 5, .fx, 0, .kept⟩,
  ⟨0xD1000, [(32, 64)], 7, 1, .fx, 0, .kept⟩,
  ⟨0xD1000, [(32, 64)], 8, 1, .ro, 0, .num 0⟩,
  ⟨0xD1004, [(32, 64)], 0, 32, .ro, 0, .kept⟩,
  ⟨0xD1008, [(32, 64)], 0, 24, .ro, 0, .kept⟩,
  ⟨0xD1010, [(32, 64), (4, 2)], 0, 32, .fx, 0, .kept⟩]

/-- Register rows of START (R346, part 1). -/
def rows_START_R346_a : List RegRow := [
  ⟨0x10000, [], 0, 8, .ro, 1, .num 1⟩,
  ⟨0x10004, [], 0, 3, .ro, 0, .live⟩,
  ⟨0x10004, [], 4, 4, .ro, 0, .live⟩,
  ⟨0x10004, [], 8, 1, .ro, 0, .num 1⟩,
  ⟨0x10004, [], 9, 1, .ro, 0, .live⟩,
  ⟨0x10004, [], 10, 2, .ro, 0, .kept⟩,
  ⟨0x10008, [], 0, 1, .wo, 0, .num 0⟩,
  ⟨0x10008, [], 1, 1, .wo, 0, .num 0⟩,
  ⟨0x10008, [], 2, 1, .wo, 0, .num 0⟩,
  ⟨0x10008, [], 3, 1, .wo, 0, .num 0⟩,
  ⟨0x1000C, [], 0, 1, .fx, 0, .kept⟩,
  ⟨0x1000C, [], 16, 16, .fx, 0, .kept⟩,
  ⟨0x10010, [], 0, 8, .ro, 0, .num 0⟩,
  ⟨0x10010, [], 8, 8, .ro, 0, .num 0⟩,
  ⟨0x10010, [], 16, 16, .ro, 0, .num 0⟩,
  ⟨0x10014, [], 0, 32, .ro, 0, .num 0⟩,
  ⟨0x10018, [], 0, 16, .ro, 0, .num 0⟩,
  ⟨0x1001C, [], 0, 1, .ro, 0, .kept⟩,
  ⟨0x1001C, [], 1, 5, .ro, 0, .kept⟩,
  ⟨0x1001C, [], 6, 1, .ro, 0, .kept⟩,
  ⟨0x10030, [], 0, 1, .w1c, 0, .kept⟩,
  ⟨0x10030, [], 1, 1, .w1c, 0, .kept⟩,
  ⟨0x10030, [], 2, 1, .w1c, 0, .kept⟩,
  ⟨0x10030, [], 3, 1, .w1c, 0, .kept⟩,
  ⟨0x10030, [], 4, 1, .w1c, 0, .kept⟩,
  ⟨0x10034, [], 0, 5, .w1c, 0, .kept⟩,
  ⟨0x10038, [], 0, 5, .rw, 0x1F, .kept⟩,
  ⟨0x1003C, [], 0, 10, .rw, 0x156, .kept⟩,
  ⟨0x10040, [], 0, 5, .wo, 0, .num 0⟩,
  ⟨0x10050, [], 0, 32, .ro, 0, .kept⟩,
  ⟨0x10054, [], 0, 16, .ro, 0, .kept⟩,
  ⟨0x10058, [], 0, 32, .ro, 0, .kept⟩,
  ⟨0x1005C, [], 0, 16, .ro, 0, .kept⟩,
  ⟨0x10060, [], 0, 32, .ro, 0, .kept⟩,
  ⟨0x10064, [], 0, 16, .ro, 0, .kept⟩,
  ⟨0x10068, [], 0, 32, .ro, 0, .kept⟩,
  ⟨0x1006C, [], 0, 16, .ro, 0, .kept⟩,
  ⟨0x10080, [(4, 16)], 0, 32, .ro, 0, .kept⟩,
  ⟨0x10100, [], 0, 13, .ro, 0, .kept⟩,
  ⟨0x10100, [], 16, 13, .ro, 0, .kept⟩]

/-- Register rows of START (R346, part 2). -/
def rows_START_R346_b : List RegRow := [
  ⟨0x10100, [], 29, 1, .ro, 0, .kept⟩,
  ⟨0x10100, [], 30, 2, .ro, 0, .kept⟩,
  ⟨0x10104, [], 0, 13, .ro, 0, .kept⟩,
  ⟨0x10108, [], 0, 1, .ro, 0, .kept⟩,
  ⟨0x10200, [(4, 152)], 0, 32, .ro, 0, .kept⟩]

/-- All rows of START_R346. -/
def rows_START_R346 : List RegRow := rows_START_R346_a ++ rows_START_R346_b

/-- Register rows of FORMULA (R347). -/
def rows_FORMULA_R347 : List RegRow := [
  ⟨0x20000, [], 0, 16, .ro, 0, .kept⟩,
  ⟨0x20004, [], 0, 24, .ro, 0, .kept⟩,
  ⟨0x20008, [], 0, 1, .ro, 0, .kept⟩,
  ⟨0x20008, [], 1, 1, .ro, 0, .kept⟩,
  ⟨0x20008, [], 2, 1, .ro, 0, .kept⟩,
  ⟨0x20008, [], 3, 1, .ro, 0, .live⟩,
  ⟨0x2000C, [], 0, 1, .fx, 0, .kept⟩,
  ⟨0x20010, [(4, 2)], 0, 32, .fx, 0, .kept⟩,
  ⟨0x20018, [], 0, 32, .ro, 0, .kept⟩,
  ⟨0x2001C, [], 0, 8, .ro, 0, .num 0⟩,
  ⟨0x2001C, [], 8, 4, .ro, 0, .num 0⟩,
  ⟨0x20020, [], 0, 32, .ro, 0, .num 0⟩,
  ⟨0x20024, [], 0, 24, .ro, 0, .num 0⟩,
  ⟨0x20040, [(4, 12)], 0, 32, .ro, 0, .kept⟩,
  ⟨0x20080, [], 0, 1, .w1c, 0, .kept⟩,
  ⟨0x20080, [], 1, 1, .w1c, 0, .kept⟩,
  ⟨0x20084, [], 0, 2, .w1c, 0, .kept⟩,
  ⟨0x20088, [], 0, 2, .rw, 3, .kept⟩,
  ⟨0x2008C, [], 0, 4, .rw, 7, .kept⟩,
  ⟨0x20090, [], 0, 2, .wo, 0, .num 0⟩,
  ⟨0x200A0, [], 0, 32, .ro, 0, .kept⟩,
  ⟨0x200A4, [], 0, 16, .ro, 0, .kept⟩,
  ⟨0x200A8, [], 0, 32, .ro, 0, .kept⟩,
  ⟨0x200AC, [], 0, 16, .ro, 0, .kept⟩]

/-- Register rows of CALIB (R369). -/
def rows_CALIB_R369 : List RegRow := [
  ⟨0xB0000, [], 0, 8, .ro, 1, .num 1⟩,
  ⟨0xB0004, [], 0, 10, .fx, 0x1E, .kept⟩,
  ⟨0xB0004, [], 16, 5, .fx, 4, .kept⟩,
  ⟨0xB0008, [], 0, 11, .fx, 0x5A0, .kept⟩,
  ⟨0xB000C, [], 0, 7, .wo, 0, .num 0⟩,
  ⟨0xB000C, [], 8, 1, .wo, 0, .num 0⟩,
  ⟨0xB000C, [], 9, 1, .wo, 0, .num 0⟩,
  ⟨0xB000C, [], 10, 1, .wo, 0, .num 0⟩,
  ⟨0xB000C, [], 11, 1, .wo, 0, .num 0⟩,
  ⟨0xB000C, [], 12, 1, .wo, 0, .num 0⟩,
  ⟨0xB0010, [], 0, 7, .ro, 0, .kept⟩,
  ⟨0xB0010, [], 8, 2, .ro, 0, .kept⟩,
  ⟨0xB0010, [], 10, 1, .ro, 0, .kept⟩,
  ⟨0xB0010, [], 12, 3, .ro, 0, .kept⟩,
  ⟨0xB0010, [], 16, 5, .ro, 0, .live⟩,
  ⟨0xB0020, [(4, 3)], 0, 32, .ro, 0, .kept⟩,
  ⟨0xB0030, [(4, 3)], 0, 32, .rw, 0, .kept⟩,
  ⟨0xB0050, [], 0, 1, .w1c, 0, .kept⟩,
  ⟨0xB0050, [], 1, 1, .w1c, 0, .kept⟩,
  ⟨0xB0050, [], 2, 1, .w1c, 0, .kept⟩,
  ⟨0xB0050, [], 3, 1, .w1c, 0, .kept⟩,
  ⟨0xB0050, [], 4, 1, .w1c, 0, .kept⟩,
  ⟨0xB0054, [], 0, 5, .w1c, 0, .kept⟩,
  ⟨0xB0058, [], 0, 5, .rw, 0x1F, .kept⟩,
  ⟨0xB005C, [], 0, 10, .rw, 0x45, .kept⟩,
  ⟨0xB0060, [], 0, 5, .wo, 0, .num 0⟩,
  ⟨0xB0080, [], 0, 32, .ro, 0, .kept⟩,
  ⟨0xB0084, [], 0, 16, .ro, 0, .kept⟩,
  ⟨0xB0088, [], 0, 32, .ro, 0, .kept⟩,
  ⟨0xB008C, [], 0, 16, .ro, 0, .kept⟩,
  ⟨0xB0090, [], 0, 32, .ro, 0, .kept⟩,
  ⟨0xB0094, [], 0, 16, .ro, 0, .kept⟩,
  ⟨0xB0098, [], 0, 32, .ro, 0, .kept⟩,
  ⟨0xB009C, [], 0, 16, .ro, 0, .kept⟩,
  ⟨0xB00C0, [], 0, 1, .wo, 0, .num 0⟩,
  ⟨0xB00C0, [], 1, 1, .rc, 0, .num 0⟩,
  ⟨0xB00C4, [], 0, 8, .rw, 0x80, .kept⟩,
  ⟨0xB00C4, [], 8, 8, .rw, 0x80, .kept⟩,
  ⟨0xB00C4, [], 16, 8, .rw, 0x80, .kept⟩,
  ⟨0xB00C4, [], 24, 8, .rw, 0x80, .kept⟩]

/-- Register rows of CALIB (R370). -/
def rows_CALIB_R370 : List RegRow := [
  ⟨0xB0800, [(32, 76)], 0, 16, .rw, 0, .kept⟩,
  ⟨0xB0800, [(32, 76)], 16, 16, .ro, 0, .live⟩,
  ⟨0xB0804, [(32, 76)], 0, 32, .ro, 0, .kept⟩,
  ⟨0xB0808, [(32, 76)], 0, 8, .rw, 0x80, .kept⟩,
  ⟨0xB0808, [(32, 76)], 8, 8, .rw, 0x80, .kept⟩,
  ⟨0xB0808, [(32, 76)], 16, 8, .rw, 0x80, .kept⟩,
  ⟨0xB0808, [(32, 76)], 24, 8, .rw, 0x80, .kept⟩,
  ⟨0xB080C, [(32, 76)], 0, 8, .rw, 0x80, .kept⟩,
  ⟨0xB080C, [(32, 76)], 8, 8, .rw, 0x80, .kept⟩,
  ⟨0xB080C, [(32, 76)], 16, 8, .rw, 0x80, .kept⟩,
  ⟨0xB080C, [(32, 76)], 24, 8, .rw, 0x80, .kept⟩,
  ⟨0xB0810, [(32, 76)], 0, 2, .ro, 0, .kept⟩,
  ⟨0xB0810, [(32, 76)], 2, 1, .ro, 0, .kept⟩,
  ⟨0xB0810, [(32, 76)], 3, 1, .ro, 0, .num 0⟩,
  ⟨0xB0810, [(32, 76)], 4, 4, .ro, 0, .kept⟩,
  ⟨0xB0814, [(32, 76)], 0, 32, .ro, 0, .kept⟩,
  ⟨0xB0818, [(32, 76)], 0, 1, .ro, 0, .num 0⟩,
  ⟨0xB081C, [(32, 76)], 0, 16, .ro, 0, .kept⟩]

/-- Register rows of AGEING (R372, part 1). -/
def rows_AGEING_R372_a : List RegRow := [
  ⟨0xC0000, [], 0, 8, .ro, 1, .num 1⟩,
  ⟨0xC0004, [], 0, 1, .fx, 0, .kept⟩,
  ⟨0xC0004, [], 1, 4, .fx, 0, .kept⟩,
  ⟨0xC0004, [], 8, 5, .fx, 6, .kept⟩,
  ⟨0xC0004, [], 16, 8, .fx, 0xA, .kept⟩,
  ⟨0xC0008, [], 0, 16, .fx, 0x40, .kept⟩,
  ⟨0xC0008, [], 16, 16, .fx, 0x100, .kept⟩,
  ⟨0xC000C, [], 0, 16, .fx, 0xFC12, .kept⟩,
  ⟨0xC000C, [], 16, 16, .fx, 0xFA3D, .kept⟩,
  ⟨0xC0010, [], 0, 16, .fx, 0x4B0, .kept⟩,
  ⟨0xC0010, [], 16, 14, .fx, 0x3E8, .kept⟩,
  ⟨0xC0014, [], 0, 16, .fx, 0x14, .kept⟩,
  ⟨0xC0014, [], 16, 16, .fx, 0x64, .kept⟩,
  ⟨0xC0018, [], 0, 16, .fx, 0x64, .kept⟩,
  ⟨0xC0018, [], 16, 16, .fx, 0x32, .kept⟩,
  ⟨0xC001C, [], 0, 16, .fx, 0x500, .kept⟩,
  ⟨0xC0020, [], 0, 1, .wo, 0, .num 0⟩,
  ⟨0xC0020, [], 1, 1, .wo, 0, .num 0⟩,
  ⟨0xC0024, [], 0, 1, .ro, 0, .num 0⟩,
  ⟨0xC0024, [], 1, 5, .ro, 0, .num 0⟩,
  ⟨0xC0024, [], 8, 2, .ro, 0, .kept⟩,
  ⟨0xC0024, [], 10, 1, .ro, 0, .kept⟩,
  ⟨0xC0024, [], 16, 13, .ro, 0, .kept⟩,
  ⟨0xC0030, [(4, 2)], 0, 32, .ro, 0, .kept⟩,
  ⟨0xC0038, [], 0, 16, .ro, 0xFFFF, .kept⟩,
  ⟨0xC0038, [], 16, 13, .ro, 0, .kept⟩,
  ⟨0xC003C, [], 0, 13, .ro, 0, .kept⟩,
  ⟨0xC0040, [], 0, 32, .ro, 0, .live⟩,
  ⟨0xC0044, [], 0, 32, .ro, 0, .kept⟩,
  ⟨0xC0048, [], 0, 32, .ro, 0, .kept⟩,
  ⟨0xC004C, [], 0, 16, .ro, 0, .kept⟩,
  ⟨0xC0050, [], 0, 16, .ro, 0xFFFF, .kept⟩,
  ⟨0xC0050, [], 16, 7, .ro, 0, .kept⟩,
  ⟨0xC0060, [], 0, 1, .w1c, 0, .kept⟩,
  ⟨0xC0060, [], 1, 1, .w1c, 0, .kept⟩,
  ⟨0xC0060, [], 2, 1, .w1c, 0, .kept⟩,
  ⟨0xC0060, [], 3, 1, .w1c, 0, .kept⟩,
  ⟨0xC0060, [], 4, 1, .w1c, 0, .kept⟩,
  ⟨0xC0064, [], 0, 5, .w1c, 0, .kept⟩,
  ⟨0xC0068, [], 0, 5, .rw, 0x1F, .kept⟩]

/-- Register rows of AGEING (R372, part 2). -/
def rows_AGEING_R372_b : List RegRow := [
  ⟨0xC006C, [], 0, 10, .rw, 0x45, .kept⟩,
  ⟨0xC0070, [], 0, 5, .wo, 0, .num 0⟩,
  ⟨0xC0080, [], 0, 32, .ro, 0, .kept⟩,
  ⟨0xC0084, [], 0, 16, .ro, 0, .kept⟩,
  ⟨0xC0088, [], 0, 32, .ro, 0, .kept⟩,
  ⟨0xC008C, [], 0, 16, .ro, 0, .kept⟩,
  ⟨0xC0090, [], 0, 32, .ro, 0, .kept⟩,
  ⟨0xC0094, [], 0, 16, .ro, 0, .kept⟩,
  ⟨0xC0098, [], 0, 32, .ro, 0, .kept⟩,
  ⟨0xC009C, [], 0, 16, .ro, 0, .kept⟩]

/-- All rows of AGEING_R372. -/
def rows_AGEING_R372 : List RegRow := rows_AGEING_R372_a ++ rows_AGEING_R372_b

/-- Register rows of THERMAL (R393, part 1). -/
def rows_THERMAL_R393_a : List RegRow := [
  ⟨0x90000, [], 0, 7, .ro, 0x50, .num 80⟩,
  ⟨0x90000, [], 8, 8, .ro, 1, .num 1⟩,
  ⟨0x90008, [], 0, 16, .fx, 0x1F40, .kept⟩,
  ⟨0x9000C, [], 0, 16, .fx, 0x2260, .kept⟩,
  ⟨0x90010, [], 0, 16, .fx, 0x251C, .kept⟩,
  ⟨0x90014, [], 0, 16, .fx, 0x2710, .kept⟩,
  ⟨0x90018, [], 0, 16, .fx, 0x2AF8, .kept⟩,
  ⟨0x9001C, [], 0, 16, .fx, 0x2EE0, .kept⟩,
  ⟨0x90020, [], 0, 16, .fx, 0xFE0C, .kept⟩,
  ⟨0x90024, [], 0, 10, .fx, 0xC8, .kept⟩,
  ⟨0x90028, [], 0, 10, .fx, 0xC8, .kept⟩,
  ⟨0x90028, [], 16, 4, .fx, 1, .kept⟩,
  ⟨0x9002C, [], 0, 1, .ro, 0, .live⟩,
  ⟨0x9002C, [], 1, 1, .ro, 0, .live⟩,
  ⟨0x90030, [], 0, 16, .ro, 0, .live⟩,
  ⟨0x90030, [], 16, 7, .ro, 0, .live⟩,
  ⟨0x90034, [], 0, 16, .ro, 0, .live⟩,
  ⟨0x90034, [], 16, 2, .ro, 0, .live⟩,
  ⟨0x90040, [], 0, 1, .w1c, 0, .kept⟩,
  ⟨0x90040, [], 1, 1, .w1c, 0, .kept⟩,
  ⟨0x90040, [], 2, 1, .w1c, 0, .kept⟩,
  ⟨0x90040, [], 3, 1, .w1c, 0, .kept⟩,
  ⟨0x90040, [], 4, 1, .w1c, 0, .kept⟩,
  ⟨0x90040, [], 5, 1, .w1c, 0, .kept⟩,
  ⟨0x90040, [], 6, 1, .w1c, 0, .kept⟩,
  ⟨0x90040, [], 7, 1, .w1c, 0, .kept⟩,
  ⟨0x90040, [], 8, 1, .w1c, 0, .kept⟩,
  ⟨0x90044, [], 0, 9, .w1c, 0, .kept⟩,
  ⟨0x90048, [], 0, 9, .rw, 0x1FF, .kept⟩,
  ⟨0x9004C, [], 0, 18, .rw, 0x5569, .kept⟩,
  ⟨0x90050, [], 0, 9, .wo, 0, .num 0⟩,
  ⟨0x90080, [], 0, 32, .ro, 0, .kept⟩,
  ⟨0x90084, [], 0, 16, .ro, 0, .kept⟩,
  ⟨0x90088, [], 0, 32, .ro, 0, .kept⟩,
  ⟨0x9008C, [], 0, 16, .ro, 0, .kept⟩,
  ⟨0x90100, [(4, 80)], 0, 16, .ro, 0, .live⟩,
  ⟨0x90100, [(4, 80)], 16, 1, .ro, 0, .live⟩,
  ⟨0x90100, [(4, 80)], 17, 1, .ro, 0, .kept⟩,
  ⟨0x90100, [(4, 80)], 18, 1, .ro, 0, .kept⟩,
  ⟨0x90100, [(4, 80)], 19, 1, .ro, 0, .kept⟩]

/-- Register rows of THERMAL (R393, part 2). -/
def rows_THERMAL_R393_b : List RegRow := [
  ⟨0x90100, [(4, 80)], 20, 1, .ro, 0, .kept⟩,
  ⟨0x90100, [(4, 80)], 21, 1, .ro, 0, .kept⟩,
  ⟨0x90100, [(4, 80)], 22, 1, .ro, 0, .kept⟩,
  ⟨0x90100, [(4, 80)], 23, 1, .ro, 0, .kept⟩,
  ⟨0x90300, [(4, 80)], 0, 16, .ro, 0, .live⟩,
  ⟨0x90300, [(4, 80)], 16, 16, .ro, 0x8000, .live⟩]

/-- All rows of THERMAL_R393. -/
def rows_THERMAL_R393 : List RegRow := rows_THERMAL_R393_a ++ rows_THERMAL_R393_b

/-- Register rows of THERMAL (R394). -/
def rows_THERMAL_R394 : List RegRow := [
  ⟨0x90400, [], 0, 32, .ro, 0, .live⟩,
  ⟨0x90404, [], 0, 11, .ro, 0, .live⟩,
  ⟨0x90404, [], 16, 1, .ro, 0, .live⟩,
  ⟨0x90408, [], 0, 32, .ro, 0, .live⟩,
  ⟨0x9040C, [], 0, 32, .ro, 0, .kept⟩,
  ⟨0x90410, [], 0, 11, .wo, 0, .num 0⟩,
  ⟨0x90410, [], 15, 1, .wo, 0, .num 0⟩,
  ⟨0x90414, [], 0, 1, .rc, 0, .num 0⟩,
  ⟨0x90414, [], 1, 1, .ro, 0, .num 0⟩,
  ⟨0x90418, [], 0, 1, .wo, 0, .num 0⟩,
  ⟨0x90440, [(4, 16)], 0, 32, .ro, 0, .num 0⟩]

/-- Register rows of POWER (R395). -/
def rows_POWER_R395 : List RegRow := [
  ⟨0xA0000, [], 0, 8, .ro, 1, .num 1⟩,
  ⟨0xA0004, [], 0, 1, .ro, 0, .live⟩,
  ⟨0xA0004, [], 1, 1, .ro, 0, .live⟩,
  ⟨0xA0004, [], 2, 1, .ro, 0, .live⟩,
  ⟨0xA0004, [], 4, 4, .ro, 0, .live⟩,
  ⟨0xA0008, [], 0, 16, .ro, 0, .live⟩,
  ⟨0xA000C, [], 0, 16, .ro, 0, .live⟩,
  ⟨0xA0010, [], 0, 16, .ro, 0, .live⟩,
  ⟨0xA0014, [], 0, 16, .ro, 0, .live⟩,
  ⟨0xA0018, [], 0, 16, .fx, 0x3B6, .kept⟩,
  ⟨0xA0018, [], 16, 16, .fx, 0x1B58, .kept⟩,
  ⟨0xA001C, [], 0, 16, .fx, 0x2AF8, .kept⟩,
  ⟨0xA0020, [], 0, 16, .fx, 0x16A8, .kept⟩,
  ⟨0xA0030, [], 0, 1, .w1c, 0, .kept⟩,
  ⟨0xA0030, [], 1, 1, .w1c, 0, .kept⟩,
  ⟨0xA0030, [], 2, 1, .w1c, 0, .kept⟩,
  ⟨0xA0030, [], 3, 1, .w1c, 0, .kept⟩,
  ⟨0xA0030, [], 4, 1, .w1c, 0, .kept⟩,
  ⟨0xA0030, [], 5, 1, .w1c, 0, .kept⟩,
  ⟨0xA0030, [], 6, 1, .w1c, 0, .kept⟩,
  ⟨0xA0034, [], 0, 7, .w1c, 0, .kept⟩,
  ⟨0xA0038, [], 0, 7, .rw, 0x7F, .kept⟩,
  ⟨0xA003C, [], 0, 14, .rw, 0x165, .kept⟩,
  ⟨0xA0040, [], 0, 7, .wo, 0, .num 0⟩,
  ⟨0xA0050, [], 0, 32, .ro, 0, .kept⟩,
  ⟨0xA0054, [], 0, 16, .ro, 0, .kept⟩,
  ⟨0xA0058, [], 0, 32, .ro, 0, .kept⟩,
  ⟨0xA005C, [], 0, 16, .ro, 0, .kept⟩,
  ⟨0xA0060, [], 0, 32, .ro, 0, .kept⟩,
  ⟨0xA0064, [], 0, 16, .ro, 0, .kept⟩]

/-- Register rows of IDENT (R416). -/
def rows_IDENT_R416 : List RegRow := [
  ⟨0x0, [], 0, 16, .ro, 0x1F0C, .num 7948⟩,
  ⟨0x0, [], 16, 16, .ro, 0x5120, .num 20768⟩,
  ⟨0x4, [], 0, 8, .ro, 0, .live⟩,
  ⟨0x4, [], 8, 8, .ro, 0, .live⟩,
  ⟨0x4, [], 16, 8, .ro, 0, .live⟩,
  ⟨0x4, [], 24, 8, .ro, 0, .live⟩,
  ⟨0x8, [], 0, 1, .ro, 0, .live⟩,
  ⟨0xC, [(4, 2)], 0, 32, .ro, 0, .live⟩,
  ⟨0x14, [(4, 2)], 0, 32, .ro, 0, .live⟩]

/-- Register rows of HOSTIF (R417, part 1). -/
def rows_HOSTIF_R417_a : List RegRow := [
  ⟨0x30000, [], 0, 3, .ro, 0, .live⟩,
  ⟨0x30000, [], 4, 5, .ro, 0, .live⟩,
  ⟨0x30000, [], 9, 1, .ro, 0, .live⟩,
  ⟨0x30000, [], 10, 2, .ro, 0, .live⟩,
  ⟨0x30000, [], 12, 1, .ro, 0, .live⟩,
  ⟨0x30010, [(4, 4)], 0, 32, .fx, 0, .kept⟩,
  ⟨0x30020, [], 0, 1, .fx, 0, .kept⟩,
  ⟨0x30020, [], 1, 1, .fx, 0, .kept⟩,
  ⟨0x30040, [(4, 8)], 0, 32, .ro, 0xFFFFFFFF, .kept⟩,
  ⟨0x30060, [(4, 8)], 0, 32, .w1s, 0, .num 0⟩,
  ⟨0x30080, [(4, 8)], 0, 32, .rw, 0, .kept⟩,
  ⟨0x300A0, [], 0, 1, .w1c, 0, .kept⟩,
  ⟨0x300A0, [], 1, 1, .w1c, 0, .kept⟩,
  ⟨0x300A0, [], 2, 1, .w1c, 0, .kept⟩,
  ⟨0x300A0, [], 3, 1, .w1c, 0, .kept⟩,
  ⟨0x300A0, [], 4, 1, .w1c, 0, .kept⟩,
  ⟨0x300A0, [], 5, 1, .w1c, 0, .kept⟩,
  ⟨0x300A0, [], 6, 1, .w1c, 0, .kept⟩,
  ⟨0x300A0, [], 7, 1, .w1c, 0, .kept⟩,
  ⟨0x300A0, [], 8, 1, .w1c, 0, .kept⟩,
  ⟨0x300A0, [], 9, 1, .w1c, 0, .kept⟩,
  ⟨0x300A4, [], 0, 10, .w1c, 0, .kept⟩,
  ⟨0x300A8, [], 0, 10, .rw, 0x3FF, .kept⟩,
  ⟨0x300AC, [], 0, 20, .rw, 0x39555, .kept⟩,
  ⟨0x300B0, [], 0, 10, .wo, 0, .num 0⟩,
  ⟨0x300C0, [], 0, 32, .ro, 0, .kept⟩,
  ⟨0x300C4, [], 0, 16, .ro, 0, .kept⟩,
  ⟨0x300C8, [], 0, 32, .ro, 0, .kept⟩,
  ⟨0x300CC, [], 0, 16, .ro, 0, .kept⟩,
  ⟨0x300D0, [], 0, 32, .ro, 0, .kept⟩,
  ⟨0x300D4, [], 0, 16, .ro, 0, .kept⟩,
  ⟨0x300D8, [], 0, 32, .ro, 0, .kept⟩,
  ⟨0x300DC, [], 0, 16, .ro, 0, .kept⟩,
  ⟨0x30100, [(4, 34)], 0, 2, .ro, 0, .kept⟩,
  ⟨0x30100, [(4, 34)], 8, 1, .wo, 0, .num 0⟩,
  ⟨0x30100, [(4, 34)], 9, 1, .wo, 0, .num 0⟩,
  ⟨0x30100, [(4, 34)], 10, 1, .wo, 0, .num 0⟩,
  ⟨0x30200, [], 0, 2, .wo, 0, .num 0⟩,
  ⟨0x30200, [], 4, 1, .wo, 0, .num 0⟩,
  ⟨0x30200, [], 5, 1, .wo, 0, .num 0⟩]

/-- Register rows of HOSTIF (R417, part 2). -/
def rows_HOSTIF_R417_b : List RegRow := [
  ⟨0x30204, [], 0, 1, .ro, 0, .live⟩,
  ⟨0x30204, [], 1, 1, .ro, 0, .live⟩,
  ⟨0x30204, [], 2, 1, .ro, 0, .live⟩,
  ⟨0x30204, [], 3, 1, .ro, 0, .num 0⟩,
  ⟨0x30204, [], 4, 1, .ro, 0, .num 0⟩,
  ⟨0x30208, [(4, 2)], 0, 32, .ro, 0, .live⟩,
  ⟨0x30210, [(4, 2)], 0, 32, .rw, 0, .num 0⟩,
  ⟨0x30240, [(4, 12)], 0, 32, .rw, 0, .num 0⟩,
  ⟨0x30280, [(4, 12)], 0, 32, .ro, 0, .live⟩]

/-- All rows of HOSTIF_R417. -/
def rows_HOSTIF_R417 : List RegRow := rows_HOSTIF_R417_a ++ rows_HOSTIF_R417_b

/-- Register rows of SIDEBAND (R418). -/
def rows_SIDEBAND_R418 : List RegRow := [
  ⟨0x40000, [], 0, 7, .ro, 0, .live⟩,
  ⟨0x40000, [], 8, 8, .ro, 1, .num 1⟩,
  ⟨0x40004, [], 0, 1, .rw, 0, .kept⟩,
  ⟨0x40008, [], 0, 26, .ro, 0, .kept⟩,
  ⟨0x40008, [], 26, 4, .ro, 1, .kept⟩,
  ⟨0x4000C, [], 0, 6, .ro, 0, .kept⟩,
  ⟨0x40010, [], 0, 1, .w1c, 0, .kept⟩,
  ⟨0x40010, [], 1, 1, .w1c, 0, .kept⟩,
  ⟨0x40010, [], 2, 1, .w1c, 0, .kept⟩,
  ⟨0x40010, [], 3, 1, .w1c, 0, .kept⟩,
  ⟨0x40010, [], 4, 1, .w1c, 0, .kept⟩,
  ⟨0x40010, [], 5, 1, .w1c, 0, .kept⟩,
  ⟨0x40010, [], 6, 1, .w1c, 0, .kept⟩,
  ⟨0x40014, [], 0, 7, .w1c, 0, .kept⟩,
  ⟨0x40018, [], 0, 7, .rw, 0x7F, .kept⟩,
  ⟨0x4001C, [], 0, 14, .rw, 0x415, .kept⟩,
  ⟨0x40020, [], 0, 7, .wo, 0, .num 0⟩,
  ⟨0x40030, [], 0, 32, .ro, 0, .kept⟩,
  ⟨0x40034, [], 0, 16, .ro, 0, .kept⟩,
  ⟨0x40038, [], 0, 32, .ro, 0, .kept⟩,
  ⟨0x4003C, [], 0, 16, .ro, 0, .kept⟩,
  ⟨0x40040, [], 0, 32, .ro, 0, .kept⟩,
  ⟨0x40044, [], 0, 16, .ro, 0, .kept⟩,
  ⟨0x40048, [], 0, 32, .ro, 0, .kept⟩,
  ⟨0x4004C, [], 0, 16, .ro, 0, .kept⟩]

/-- Register rows of FABRIC (R445). -/
def rows_FABRIC_R445 : List RegRow := [
  ⟨0x50000, [], 0, 4, .ro, 8, .num 8⟩,
  ⟨0x50000, [], 4, 4, .ro, 8, .num 8⟩,
  ⟨0x50000, [], 8, 1, .ro, 0, .live⟩,
  ⟨0x50004, [], 0, 1, .rw, 0, .num 0⟩,
  ⟨0x50008, [], 0, 24, .ro, 0, .live⟩,
  ⟨0x50010, [], 0, 1, .w1c, 0, .kept⟩,
  ⟨0x50010, [], 1, 1, .w1c, 0, .kept⟩,
  ⟨0x50010, [], 2, 1, .w1c, 0, .kept⟩,
  ⟨0x50010, [], 3, 1, .w1c, 0, .kept⟩,
  ⟨0x50014, [], 0, 4, .w1c, 0, .kept⟩,
  ⟨0x50018, [], 0, 4, .rw, 0xF, .kept⟩,
  ⟨0x5001C, [], 0, 8, .rw, 0x15, .kept⟩,
  ⟨0x50020, [], 0, 4, .wo, 0, .num 0⟩,
  ⟨0x50024, [], 0, 3, .ro, 0, .kept⟩,
  ⟨0x50024, [], 4, 1, .ro, 0, .kept⟩,
  ⟨0x50028, [(4, 2)], 0, 32, .ro, 0, .kept⟩,
  ⟨0x50030, [], 0, 3, .ro, 0, .kept⟩,
  ⟨0x50030, [], 4, 3, .ro, 0, .kept⟩,
  ⟨0x50030, [], 8, 8, .ro, 0, .kept⟩,
  ⟨0x50040, [], 0, 32, .ro, 0, .kept⟩,
  ⟨0x50044, [], 0, 16, .ro, 0, .kept⟩,
  ⟨0x50048, [], 0, 32, .ro, 0, .kept⟩,
  ⟨0x5004C, [], 0, 16, .ro, 0, .kept⟩,
  ⟨0x50050, [], 0, 32, .ro, 0, .kept⟩,
  ⟨0x50054, [], 0, 16, .ro, 0, .kept⟩,
  ⟨0x50100, [(8, 8)], 0, 32, .ro, 0, .kept⟩,
  ⟨0x50104, [(8, 8)], 0, 16, .ro, 0, .kept⟩]

/-- Register rows of DMA (R446). -/
def rows_DMA_R446 : List RegRow := [
  ⟨0x60000, [], 0, 5, .ro, 0x10, .num 16⟩,
  ⟨0x60000, [], 8, 8, .ro, 1, .num 1⟩,
  ⟨0x60010, [], 0, 1, .w1c, 0, .kept⟩,
  ⟨0x60010, [], 1, 1, .w1c, 0, .kept⟩,
  ⟨0x60010, [], 2, 1, .w1c, 0, .kept⟩,
  ⟨0x60010, [], 3, 1, .w1c, 0, .kept⟩,
  ⟨0x60014, [], 0, 4, .w1c, 0, .kept⟩,
  ⟨0x60018, [], 0, 4, .rw, 0xF, .kept⟩,
  ⟨0x6001C, [], 0, 8, .rw, 5, .kept⟩,
  ⟨0x60020, [], 0, 4, .wo, 0, .num 0⟩,
  ⟨0x60030, [], 0, 32, .ro, 0, .kept⟩,
  ⟨0x60034, [], 0, 16, .ro, 0, .kept⟩]

/-- Register rows of DMA (R447). -/
def rows_DMA_R447 : List RegRow := [
  ⟨0x60100, [(64, 16), (4, 2)], 0, 32, .rw, 0, .kept⟩,
  ⟨0x60108, [(64, 16)], 0, 1, .wo, 0, .num 0⟩,
  ⟨0x60108, [(64, 16)], 1, 1, .wo, 0, .num 0⟩,
  ⟨0x6010C, [(64, 16)], 0, 2, .ro, 0, .num 0⟩,
  ⟨0x6010C, [(64, 16)], 4, 3, .ro, 0, .kept⟩,
  ⟨0x6010C, [(64, 16)], 7, 1, .ro, 0, .kept⟩,
  ⟨0x6010C, [(64, 16)], 8, 3, .ro, 0, .kept⟩,
  ⟨0x6010C, [(64, 16)], 16, 1, .w1c, 0, .kept⟩,
  ⟨0x6010C, [(64, 16)], 17, 1, .w1c, 0, .kept⟩,
  ⟨0x60110, [(64, 16)], 0, 24, .ro, 0, .kept⟩,
  ⟨0x60114, [(64, 16), (4, 2)], 0, 32, .ro, 0, .kept⟩,
  ⟨0x6011C, [(64, 16), (4, 2)], 0, 32, .ro, 0, .kept⟩,
  ⟨0x60124, [(64, 16)], 0, 1, .rw, 0, .kept⟩,
  ⟨0x60124, [(64, 16)], 1, 1, .rw, 0, .kept⟩,
  ⟨0x60128, [(64, 16)], 0, 32, .ro, 0, .kept⟩,
  ⟨0x6012C, [(64, 16)], 0, 16, .ro, 0, .kept⟩]

/-- Register rows of MORTAR (R448). -/
def rows_MORTAR_R448 : List RegRow := [
  ⟨0x70000, [], 0, 9, .ro, 0x100, .num 256⟩,
  ⟨0x70000, [], 16, 8, .ro, 0xC0, .num 192⟩,
  ⟨0x70004, [], 0, 1, .ro, 0, .num 0⟩,
  ⟨0x70004, [], 1, 1, .ro, 0, .live⟩,
  ⟨0x70010, [], 0, 1, .w1c, 0, .kept⟩,
  ⟨0x70010, [], 1, 1, .w1c, 0, .kept⟩,
  ⟨0x70010, [], 2, 1, .w1c, 0, .kept⟩,
  ⟨0x70010, [], 3, 1, .w1c, 0, .kept⟩,
  ⟨0x70014, [], 0, 4, .w1c, 0, .kept⟩,
  ⟨0x70018, [], 0, 4, .rw, 0xF, .kept⟩,
  ⟨0x7001C, [], 0, 8, .rw, 0x15, .kept⟩,
  ⟨0x70020, [], 0, 4, .wo, 0, .num 0⟩,
  ⟨0x70030, [], 0, 32, .ro, 0, .kept⟩,
  ⟨0x70034, [], 0, 16, .ro, 0, .kept⟩,
  ⟨0x70038, [], 0, 32, .ro, 0, .kept⟩,
  ⟨0x7003C, [], 0, 16, .ro, 0, .kept⟩,
  ⟨0x70040, [], 0, 16, .w1c, 0, .kept⟩,
  ⟨0x70044, [], 0, 16, .rw, 0, .kept⟩,
  ⟨0x71000, [(4, 256)], 0, 12, .rw, 0, .kept⟩,
  ⟨0x71000, [(4, 256)], 12, 9, .rw, 0, .kept⟩,
  ⟨0x71000, [(4, 256)], 24, 1, .rw, 0, .kept⟩,
  ⟨0x71000, [(4, 256)], 25, 1, .rw, 0, .kept⟩,
  ⟨0x71000, [(4, 256)], 28, 1, .fx, 0, .kept⟩]

/-- Register rows of MORTAR (R449). -/
def rows_MORTAR_R449 : List RegRow := [
  ⟨0x72000, [(32, 51)], 0, 1, .w1c, 0, .kept⟩,
  ⟨0x72800, [(32, 19)], 0, 1, .w1c, 0, .kept⟩,
  ⟨0x72C00, [(32, 25)], 0, 1, .w1c, 0, .kept⟩,
  ⟨0x73000, [(32, 32)], 0, 1, .w1c, 0, .kept⟩,
  ⟨0x72000, [(32, 51)], 1, 1, .ro, 0, .live⟩,
  ⟨0x72800, [(32, 19)], 1, 1, .ro, 0, .live⟩,
  ⟨0x72C00, [(32, 25)], 1, 1, .ro, 0, .live⟩,
  ⟨0x73000, [(32, 32)], 1, 1, .ro, 0, .live⟩,
  ⟨0x72004, [(32, 8)], 0, 10, .rw, 0x64, .kept⟩,
  ⟨0x73004, [(32, 32)], 0, 16, .rw, 0, .kept⟩,
  ⟨0x72008, [(32, 51)], 0, 32, .ro, 0, .kept⟩,
  ⟨0x72808, [(32, 19)], 0, 32, .ro, 0, .kept⟩,
  ⟨0x72C08, [(32, 25)], 0, 32, .ro, 0, .kept⟩,
  ⟨0x73008, [(32, 32)], 0, 32, .ro, 0, .kept⟩,
  ⟨0x7200C, [(32, 51)], 0, 16, .ro, 0, .kept⟩,
  ⟨0x7280C, [(32, 19)], 0, 16, .ro, 0, .kept⟩,
  ⟨0x72C0C, [(32, 25)], 0, 16, .ro, 0, .kept⟩,
  ⟨0x7300C, [(32, 32)], 0, 16, .ro, 0, .kept⟩,
  ⟨0x72010, [(32, 51)], 0, 32, .ro, 0, .kept⟩,
  ⟨0x72810, [(32, 19)], 0, 32, .ro, 0, .kept⟩,
  ⟨0x72C10, [(32, 25)], 0, 32, .ro, 0, .kept⟩,
  ⟨0x73010, [(32, 32)], 0, 32, .ro, 0, .kept⟩,
  ⟨0x72014, [(32, 51)], 0, 16, .ro, 0, .kept⟩,
  ⟨0x72814, [(32, 19)], 0, 16, .ro, 0, .kept⟩,
  ⟨0x72C14, [(32, 25)], 0, 16, .ro, 0, .kept⟩,
  ⟨0x73014, [(32, 32)], 0, 16, .ro, 0, .kept⟩,
  ⟨0x72018, [(32, 51)], 0, 32, .ro, 0, .kept⟩,
  ⟨0x72818, [(32, 19)], 0, 32, .ro, 0, .kept⟩,
  ⟨0x72C18, [(32, 25)], 0, 32, .ro, 0, .kept⟩,
  ⟨0x73018, [(32, 32)], 0, 32, .ro, 0, .kept⟩,
  ⟨0x7201C, [(32, 51)], 0, 16, .ro, 0, .kept⟩,
  ⟨0x7281C, [(32, 19)], 0, 16, .ro, 0, .kept⟩,
  ⟨0x72C1C, [(32, 25)], 0, 16, .ro, 0, .kept⟩,
  ⟨0x7301C, [(32, 32)], 0, 16, .ro, 0, .kept⟩]

/-- Register rows of HOSTIF (R403). -/
def rows_HOSTIF_R403 : List RegRow := [
  ⟨0x38000, [(16, 256), (4, 3)], 0, 32, .rw, 0, .kept⟩,
  ⟨0x3800C, [(16, 256)], 0, 32, .rw, 1, .kept⟩,
  ⟨0x39000, [(4, 8)], 0, 32, .ro, 0, .kept⟩]

/-- Register rows of CALIB (R371). -/
def rows_CALIB_R371 : List RegRow := [
  ⟨0xB2000, [(512, 76), (4, 128)], 0, 32, .rw, 0x80808080, .kept⟩]

/-- Register rows of REPETITIVE (R137). -/
def rows_REPETITIVE_R137 : List RegRow := [
  ⟨0x880000, [(256, 4864), (4, 64)], 0, 32, .rw, 0, .kept⟩]

/-- The tables by address range (first address, last address, rows). -/
def regTables : List (Nat × Nat × List RegRow) := [
  (0x500000, 0x62C064, rows_TILE_R80),
  (0x500100, 0x62C8FC, rows_TILE_R81),
  (0x500900, 0x62CCFC, rows_TILE_R82),
  (0x500D00, 0x62CD20, rows_TILE_R83),
  (0x80400, 0x8042C, rows_TIME_R84),
  (0x502000, 0x62E3FC, rows_TILE_R112),
  (0x1000000, 0x1000064, rows_SILLAGE_R113),
  (0x1000100, 0x10001F8, rows_SILLAGE_R114),
  (0x800000, 0x84BFFC, rows_LOOPPARAM_R136),
  (0x300000, 0x42007C, rows_COURSE_R162),
  (0x301000, 0x421C1C, rows_COURSE_R163),
  (0x260000, 0x26013C, rows_ACCORD_R195),
  (0x180000, 0x1817FC, rows_COMPOSER_R215),
  (0x182000, 0x1827F8, rows_COMPOSER_R216),
  (0x184000, 0x1863F8, rows_COMPOSER_R217),
  (0x190000, 0x1DFFFC, rows_COMPOSER_R218),
  (0xF0000, 0xF006C, rows_KOWIN_R246),
  (0x100000, 0x13F11C, rows_LANES_R247),
  (0x140000, 0x140170, rows_AGENTS_R248),
  (0xE0000, 0xE0224, rows_PARSER_R270),
  (0xE0100, 0xE0138, rows_PARSER_R271),
  (0xE0800, 0xE0FFC, rows_PARSER_R272),
  (0x80000, 0x80118, rows_TIME_R292),
  (0x80200, 0x803FC, rows_TIME_R293),
  (0x80800, 0x809FC, rows_TIME_R294),
  (0xD0000, 0xD00BC, rows_HIER_R318),
  (0xD1000, 0xD17F4, rows_HIER_R319),
  (0x10000, 0x1045C, rows_START_R346),
  (0x20000, 0x200AC, rows_FORMULA_R347),
  (0xB0000, 0xB00C4, rows_CALIB_R369),
  (0xB0800, 0xB117C, rows_CALIB_R370),
  (0xC0000, 0xC009C, rows_AGEING_R372),
  (0x90000, 0x9043C, rows_THERMAL_R393),
  (0x90400, 0x9047C, rows_THERMAL_R394),
  (0xA0000, 0xA0064, rows_POWER_R395),
  (0x0, 0x18, rows_IDENT_R416),
  (0x30000, 0x302AC, rows_HOSTIF_R417),
  (0x40000, 0x4004C, rows_SIDEBAND_R418),
  (0x50000, 0x5013C, rows_FABRIC_R445),
  (0x60000, 0x60034, rows_DMA_R446),
  (0x60100, 0x604EC, rows_DMA_R447),
  (0x70000, 0x713FC, rows_MORTAR_R448),
  (0x72000, 0x733FC, rows_MORTAR_R449),
  (0x38000, 0x3901C, rows_HOSTIF_R403),
  (0xB2000, 0xBB7FC, rows_CALIB_R371),
  (0x880000, 0x9AFFFC, rows_REPETITIVE_R137)]

/-- The field rows of the word at `a`; none where the address is reserved (R476). -/
def rowsAt (a : Nat) : List RegRow :=
  regTables.flatMap fun (lo, hi, rs) =>
    if lo ≤ a ∧ a ≤ hi then rs.filter (·.covers a) else []

/-- The word at `a` after a cold start, before any write (R15, R457, R498); 0 in reserved space (R14, R476). COLD_LIMIT's default
is the ordering code's: −5.00 °C, on the E module −40.00 °C (R382). -/
def coldWord (a : Nat) : BitVec 32 :=
  if a = 0x90020 ∧ Config.orderCodeE = true then 0xF060#32
  else BitVec.ofNat 32 ((rowsAt a).foldl (fun acc r => acc + r.cold * 2 ^ r.lsb) 0)

end Sys2Proof.Machine
end

