-- ==== Sys2Proof/Machine/Fields.lean ====
section
/-! DEFINITION. Every register field by its name in spec/ (register, then field), as a place in the register space;
wide values (R473) and 48-bit counters (R9) by the address of their LO word. An index argument is the object's index of
R16, R19 or R468; it counts modulo the number of such objects, so that a field never lies outside its array. -/

namespace Sys2Proof.Machine

/-- A field inside one 32-bit register word. -/
structure Field where
  addr : Nat
  lsb : Nat
  width : Nat
  deriving DecidableEq, Repr

/-- A value of up to 64 bits in a LO word and the HI word after it (R473). -/
structure Wide where
  addr : Nat
  width : Nat
  deriving DecidableEq, Repr


/-! TILE, R80 of spec/03_drive_tiles.md -/

def F.TILE_INFO.TILE (i : Nat) : Field := ⟨0x500000 + 16384 * (i % 76), 0, 7⟩
def F.TILE_INFO.TILE_DIE (i : Nat) : Field := ⟨0x500000 + 16384 * (i % 76), 7, 2⟩
def F.TILE_INFO.KIND (i : Nat) : Field := ⟨0x500000 + 16384 * (i % 76), 9, 1⟩
def F.TILE_INFO.DRV_REV (i : Nat) : Field := ⟨0x500000 + 16384 * (i % 76), 12, 4⟩
def F.DRV_ENABLE.POCK_EN (i : Nat) : Field := ⟨0x500004 + 16384 * (i % 76), 0, 1⟩
def F.DRV_ENABLE.HTR_EN (i : Nat) : Field := ⟨0x500004 + 16384 * (i % 76), 1, 1⟩
def F.SEAL_CMD.SEL_ALL (i : Nat) : Field := ⟨0x500008 + 16384 * (i % 76), 0, 1⟩
def F.SEAL_CMD.LADDER_ALL (i : Nat) : Field := ⟨0x500008 + 16384 * (i % 76), 1, 1⟩
def F.SEAL_CMD.HTR_ALL (i : Nat) : Field := ⟨0x500008 + 16384 * (i % 76), 2, 1⟩
def F.SEAL_CMD.SHUT_ALL (i : Nat) : Field := ⟨0x500008 + 16384 * (i % 76), 3, 1⟩
def F.DRV_STATUS.RAIL_OK (i : Nat) : Field := ⟨0x50000C + 16384 * (i % 76), 0, 1⟩
def F.DRV_STATUS.POCK_CLAMPED (i : Nat) : Field := ⟨0x50000C + 16384 * (i % 76), 1, 1⟩
def F.DRV_STATUS.HTR_ZERO (i : Nat) : Field := ⟨0x50000C + 16384 * (i % 76), 2, 1⟩
def F.DRV_STATUS.RANGE_BUSY (i : Nat) : Field := ⟨0x50000C + 16384 * (i % 76), 3, 1⟩
def F.MISSED_POCK (i : Nat) : Wide := ⟨0x500010 + 16384 * (i % 76), 64⟩
def F.MISSED_HTR (i : Nat) : Wide := ⟨0x500018 + 16384 * (i % 76), 64⟩
def F.MISSED_SHUT (i : Nat) : Wide := ⟨0x500020 + 16384 * (i % 76), 64⟩
def F.STALE (i : Nat) : Wide := ⟨0x500028 + 16384 * (i % 76), 64⟩
def F.DRV_FAULT_REAL.MISSED_STROBE (i : Nat) : Field := ⟨0x500030 + 16384 * (i % 76), 0, 1⟩
def F.DRV_FAULT_REAL.RANGE_REFUSED (i : Nat) : Field := ⟨0x500030 + 16384 * (i % 76), 1, 1⟩
def F.DRV_FAULT_REAL.READBACK (i : Nat) : Field := ⟨0x500030 + 16384 * (i % 76), 2, 1⟩
def F.DRV_FAULT_REAL.HTR_OPEN (i : Nat) : Field := ⟨0x500030 + 16384 * (i % 76), 3, 1⟩
def F.DRV_FAULT_REAL.HTR_COMPLIANCE (i : Nat) : Field := ⟨0x500030 + 16384 * (i % 76), 4, 1⟩
def F.DRV_FAULT_REAL.SHUT_CURRENT (i : Nat) : Field := ⟨0x500030 + 16384 * (i % 76), 5, 1⟩
def F.DRV_FAULT_REAL.DRV_RAIL (i : Nat) : Field := ⟨0x500030 + 16384 * (i % 76), 6, 1⟩
def F.DRV_FAULT_REAL.WRITE_REFUSED (i : Nat) : Field := ⟨0x500030 + 16384 * (i % 76), 7, 1⟩
def F.DRV_FAULT_INJ.INJ (i : Nat) : Field := ⟨0x500034 + 16384 * (i % 76), 0, 8⟩
def F.DRV_FAULT_EN.EN (i : Nat) : Field := ⟨0x500038 + 16384 * (i % 76), 0, 8⟩
def F.DRV_FAULT_SEV.SEV (i : Nat) : Field := ⟨0x50003C + 16384 * (i % 76), 0, 16⟩
def F.DRV_INJECT.INJECT (i : Nat) : Field := ⟨0x500040 + 16384 * (i % 76), 0, 8⟩
def F.RB_CFG.RB_TOL (i : Nat) : Field := ⟨0x500044 + 16384 * (i % 76), 0, 16⟩
def F.RB_CFG.RB_COUNT (i : Nat) : Field := ⟨0x500044 + 16384 * (i % 76), 16, 4⟩
def F.HTR_DET_CFG.DWELL (i : Nat) : Field := ⟨0x500048 + 16384 * (i % 76), 0, 8⟩
def F.MISSED_CNT (i : Nat) : Wide := ⟨0x500050 + 16384 * (i % 76), 48⟩
def F.TILE_REFUSED_CNT (i : Nat) : Wide := ⟨0x500058 + 16384 * (i % 76), 48⟩
def F.RB_FAIL_CNT (i : Nat) : Wide := ⟨0x500060 + 16384 * (i % 76), 48⟩

/-! TILE, R81 of spec/03_drive_tiles.md -/

def F.POCK_SHD0.CODE (i j : Nat) : Field := ⟨0x500100 + 16384 * (i % 76) + 32 * (j % 64), 0, 16⟩
def F.POCK_SHD1.CODE (i j : Nat) : Field := ⟨0x500104 + 16384 * (i % 76) + 32 * (j % 64), 0, 16⟩
def F.POCK_SEL_SHD.SEL (i j : Nat) : Field := ⟨0x500108 + 16384 * (i % 76) + 32 * (j % 64), 0, 1⟩
def F.POCK_SEL_SHD.RANGE (i j : Nat) : Field := ⟨0x500108 + 16384 * (i % 76) + 32 * (j % 64), 1, 1⟩
def F.POCK_SEAL.L0 (i j : Nat) : Field := ⟨0x50010C + 16384 * (i % 76) + 32 * (j % 64), 0, 1⟩
def F.POCK_SEAL.L1 (i j : Nat) : Field := ⟨0x50010C + 16384 * (i % 76) + 32 * (j % 64), 1, 1⟩
def F.POCK_SEAL.SEL (i j : Nat) : Field := ⟨0x50010C + 16384 * (i % 76) + 32 * (j % 64), 2, 1⟩
def F.POCK_ACT.ACT0 (i j : Nat) : Field := ⟨0x500110 + 16384 * (i % 76) + 32 * (j % 64), 0, 16⟩
def F.POCK_ACT.ACT1 (i j : Nat) : Field := ⟨0x500110 + 16384 * (i % 76) + 32 * (j % 64), 16, 16⟩
def F.POCK_STAT.ACT_SEL (i j : Nat) : Field := ⟨0x500114 + 16384 * (i % 76) + 32 * (j % 64), 0, 1⟩
def F.POCK_STAT.ACT_RANGE (i j : Nat) : Field := ⟨0x500114 + 16384 * (i % 76) + 32 * (j % 64), 1, 1⟩
def F.POCK_STAT.L0_SET (i j : Nat) : Field := ⟨0x500114 + 16384 * (i % 76) + 32 * (j % 64), 2, 2⟩
def F.POCK_STAT.L1_SET (i j : Nat) : Field := ⟨0x500114 + 16384 * (i % 76) + 32 * (j % 64), 4, 2⟩
def F.POCK_STAT.SEL_SET (i j : Nat) : Field := ⟨0x500114 + 16384 * (i % 76) + 32 * (j % 64), 6, 2⟩
def F.POCK_STAT.CLAMPED (i j : Nat) : Field := ⟨0x500114 + 16384 * (i % 76) + 32 * (j % 64), 8, 1⟩
def F.POCK_STAT.STALE (i j : Nat) : Field := ⟨0x500114 + 16384 * (i % 76) + 32 * (j % 64), 9, 1⟩
def F.POCK_STAT.MISSED (i j : Nat) : Field := ⟨0x500114 + 16384 * (i % 76) + 32 * (j % 64), 10, 1⟩
def F.POCK_STAT.LOOP (i j : Nat) : Field := ⟨0x500114 + 16384 * (i % 76) + 32 * (j % 64), 11, 2⟩
def F.POCK_STAT.RB_FAIL (i j : Nat) : Field := ⟨0x500114 + 16384 * (i % 76) + 32 * (j % 64), 13, 1⟩
def F.POCK_RB.RB_SEL (i j : Nat) : Field := ⟨0x500118 + 16384 * (i % 76) + 32 * (j % 64), 0, 16⟩
def F.POCK_RB.RB_UNSEL (i j : Nat) : Field := ⟨0x500118 + 16384 * (i % 76) + 32 * (j % 64), 16, 16⟩
def F.CH_CFG.SUPERVISION (i j : Nat) : Field := ⟨0x50011C + 16384 * (i % 76) + 32 * (j % 64), 0, 2⟩
def F.CH_CFG.HGRP (i j : Nat) : Field := ⟨0x50011C + 16384 * (i % 76) + 32 * (j % 64), 2, 3⟩
def F.CH_CFG.SGRP (i j : Nat) : Field := ⟨0x50011C + 16384 * (i % 76) + 32 * (j % 64), 5, 3⟩

/-! TILE, R82 of spec/03_drive_tiles.md -/

def F.HTR_SHD.CODE (i j : Nat) : Field := ⟨0x500900 + 16384 * (i % 76) + 16 * (j % 64), 0, 16⟩
def F.HTR_SHD.RANGE (i j : Nat) : Field := ⟨0x500900 + 16384 * (i % 76) + 16 * (j % 64), 16, 1⟩
def F.HTR_SEAL.SEAL (i j : Nat) : Field := ⟨0x500904 + 16384 * (i % 76) + 16 * (j % 64), 0, 1⟩
def F.HTR_ACT.ACT_CODE (i j : Nat) : Field := ⟨0x500908 + 16384 * (i % 76) + 16 * (j % 64), 0, 16⟩
def F.HTR_ACT.ACT_RANGE (i j : Nat) : Field := ⟨0x500908 + 16384 * (i % 76) + 16 * (j % 64), 16, 1⟩
def F.HTR_ACT.SET (i j : Nat) : Field := ⟨0x500908 + 16384 * (i % 76) + 16 * (j % 64), 17, 2⟩
def F.HTR_ACT.ZERO (i j : Nat) : Field := ⟨0x500908 + 16384 * (i % 76) + 16 * (j % 64), 19, 1⟩
def F.HTR_ACT.STALE (i j : Nat) : Field := ⟨0x500908 + 16384 * (i % 76) + 16 * (j % 64), 20, 1⟩
def F.HTR_SUP.OPEN (i j : Nat) : Field := ⟨0x50090C + 16384 * (i % 76) + 16 * (j % 64), 0, 1⟩
def F.HTR_SUP.COMPLIANCE (i j : Nat) : Field := ⟨0x50090C + 16384 * (i % 76) + 16 * (j % 64), 1, 1⟩

/-! TILE, R83 of spec/03_drive_tiles.md -/

def F.SHUT_SHD (i : Nat) : Wide := ⟨0x500D00 + 16384 * (i % 76), 64⟩
def F.SHUT_SEAL.SEAL (i : Nat) : Field := ⟨0x500D08 + 16384 * (i % 76), 0, 1⟩
def F.SHUT_PEND (i : Nat) : Wide := ⟨0x500D0C + 16384 * (i % 76), 64⟩
def F.SHUT_ACT (i : Nat) : Wide := ⟨0x500D14 + 16384 * (i % 76), 64⟩
def F.SHUT_CUR (i : Nat) : Wide := ⟨0x500D1C + 16384 * (i % 76), 64⟩

/-! TIME, R84 of spec/03_drive_tiles.md -/

def F.STRB_GRP.MODE (i : Nat) : Field := ⟨0x80400 + 4 * (i % 8), 0, 2⟩
def F.STRB_GRP.OFFSET (i : Nat) : Field := ⟨0x80400 + 4 * (i % 8), 16, 9⟩
def F.STRB_CMD.GRP : Field := ⟨0x80420, 0, 8⟩
def F.STRB_CMD.PLANE : Field := ⟨0x80420, 8, 1⟩
def F.STRB_FIRED.GRP : Field := ⟨0x80424, 0, 8⟩
def F.STRB_FIRED.PLANE : Field := ⟨0x80424, 8, 1⟩
def F.STRB_REFUSED_CNT : Wide := ⟨0x80428, 48⟩

/-! TILE, R112 of spec/04_sense_and_capture.md -/

def F.SCAN_CFG.MODE (i : Nat) : Field := ⟨0x502000 + 16384 * (i % 76), 0, 2⟩
def F.SCAN_STATUS.MODE_ACT (i : Nat) : Field := ⟨0x502004 + 16384 * (i % 76), 0, 2⟩
def F.SCAN_STATUS.FOCUS (i : Nat) : Field := ⟨0x502004 + 16384 * (i % 76), 2, 1⟩
def F.SCAN_STATUS.CAL (i : Nat) : Field := ⟨0x502004 + 16384 * (i % 76), 3, 1⟩
def F.SCAN_STATUS.DISCARD_CYC (i : Nat) : Field := ⟨0x502004 + 16384 * (i % 76), 4, 9⟩
def F.SCAN_STATUS.SCAN_SEQ (i : Nat) : Field := ⟨0x502004 + 16384 * (i % 76), 16, 16⟩
def F.FOCUS_CFG.PD (i : Nat) : Field := ⟨0x502008 + 16384 * (i % 76), 0, 7⟩
def F.FOCUS_CFG.LEN (i : Nat) : Field := ⟨0x502008 + 16384 * (i % 76), 8, 7⟩
def F.FOCUS_CFG.RING (i : Nat) : Field := ⟨0x502008 + 16384 * (i % 76), 16, 3⟩
def F.FOCUS_CFG.START (i : Nat) : Field := ⟨0x502008 + 16384 * (i % 76), 31, 1⟩
def F.DIAG_CMD.PD (i : Nat) : Field := ⟨0x50200C + 16384 * (i % 76), 0, 7⟩
def F.DIAG_CMD.MODE (i : Nat) : Field := ⟨0x50200C + 16384 * (i % 76), 8, 2⟩
def F.DIAG_CMD.REPEAT (i : Nat) : Field := ⟨0x50200C + 16384 * (i % 76), 10, 4⟩
def F.DIAG_CMD.CODE (i : Nat) : Field := ⟨0x50200C + 16384 * (i % 76), 16, 10⟩
def F.DIAG_CMD.GO (i : Nat) : Field := ⟨0x50200C + 16384 * (i % 76), 31, 1⟩
def F.DIAG_RESULT.MEAN (i : Nat) : Field := ⟨0x502010 + 16384 * (i % 76), 0, 18⟩
def F.DIAG_RESULT.DONE (i : Nat) : Field := ⟨0x502010 + 16384 * (i % 76), 24, 1⟩
def F.DIAG_RESULT.BUSY (i : Nat) : Field := ⟨0x502010 + 16384 * (i % 76), 25, 1⟩
def F.DIAG_SPREAD.SPREAD (i : Nat) : Field := ⟨0x502014 + 16384 * (i % 76), 0, 17⟩
def F.DIAG_TOL.TOL (i : Nat) : Field := ⟨0x502018 + 16384 * (i % 76), 0, 16⟩
def F.FAST_CFG.BUS_A_PD (i : Nat) : Field := ⟨0x50201C + 16384 * (i % 76), 0, 7⟩
def F.FAST_CFG.A_EN (i : Nat) : Field := ⟨0x50201C + 16384 * (i % 76), 7, 1⟩
def F.FAST_CFG.BUS_B_PD (i : Nat) : Field := ⟨0x50201C + 16384 * (i % 76), 8, 7⟩
def F.FAST_CFG.B_EN (i : Nat) : Field := ⟨0x50201C + 16384 * (i % 76), 15, 1⟩
def F.FAST_CFG.FAST_RANGE (i : Nat) : Field := ⟨0x50201C + 16384 * (i % 76), 16, 1⟩
def F.SENSE_FAULT_REAL.CLIP (i : Nat) : Field := ⟨0x502020 + 16384 * (i % 76), 0, 1⟩
def F.SENSE_FAULT_REAL.LINK_CRC (i : Nat) : Field := ⟨0x502020 + 16384 * (i % 76), 1, 1⟩
def F.SENSE_FAULT_REAL.LINK_DOWN (i : Nat) : Field := ⟨0x502020 + 16384 * (i % 76), 2, 1⟩
def F.SENSE_FAULT_REAL.DIAG_FAIL (i : Nat) : Field := ⟨0x502020 + 16384 * (i % 76), 3, 1⟩
def F.SENSE_FAULT_REAL.FAST_CONFLICT (i : Nat) : Field := ⟨0x502020 + 16384 * (i % 76), 4, 1⟩
def F.SENSE_FAULT_REAL.SENSE_REFUSED (i : Nat) : Field := ⟨0x502020 + 16384 * (i % 76), 5, 1⟩
def F.SENSE_FAULT_INJ.INJ (i : Nat) : Field := ⟨0x502024 + 16384 * (i % 76), 0, 6⟩
def F.SENSE_FAULT_EN.EN (i : Nat) : Field := ⟨0x502028 + 16384 * (i % 76), 0, 6⟩
def F.SENSE_FAULT_SEV.SEV (i : Nat) : Field := ⟨0x50202C + 16384 * (i % 76), 0, 12⟩
def F.SENSE_INJECT.INJECT (i : Nat) : Field := ⟨0x502030 + 16384 * (i % 76), 0, 6⟩
def F.TILE_LINK_STATUS.UP (i : Nat) : Field := ⟨0x502034 + 16384 * (i % 76), 0, 1⟩
def F.TILE_LINK_STATUS.TRAINS (i : Nat) : Field := ⟨0x502034 + 16384 * (i % 76), 8, 8⟩
def F.TIA_RANGE.RANGE (i j : Nat) : Field := ⟨0x502040 + 16384 * (i % 76) + 4 * (j % 8), 0, 32⟩
def F.GUARD_CNT (i : Nat) : Wide := ⟨0x502080 + 16384 * (i % 76), 48⟩
def F.LINK_CRC_CNT (i : Nat) : Wide := ⟨0x502088 + 16384 * (i % 76), 48⟩
def F.SENSE_REFUSED_CNT (i : Nat) : Wide := ⟨0x502090 + 16384 * (i % 76), 48⟩
def F.LAST_SAMPLE.CODE (i j : Nat) : Field := ⟨0x502200 + 16384 * (i % 76) + 4 * (j % 128), 0, 16⟩
def F.LAST_SAMPLE.RNG (i j : Nat) : Field := ⟨0x502200 + 16384 * (i % 76) + 4 * (j % 128), 16, 2⟩
def F.LAST_SAMPLE.GUARD (i j : Nat) : Field := ⟨0x502200 + 16384 * (i % 76) + 4 * (j % 128), 18, 1⟩
def F.LAST_SAMPLE.ACT_SEL (i j : Nat) : Field := ⟨0x502200 + 16384 * (i % 76) + 4 * (j % 128), 19, 1⟩
def F.LAST_SAMPLE.SEQ (i j : Nat) : Field := ⟨0x502200 + 16384 * (i % 76) + 4 * (j % 128), 20, 12⟩

/-! SILLAGE, R113 of spec/04_sense_and_capture.md -/

def F.SIL_INFO.RINGS : Field := ⟨0x1000000, 0, 4⟩
def F.SIL_INFO.CAPMEM_MIB : Field := ⟨0x1000000, 8, 8⟩
def F.SIL_CTRL.ENABLE : Field := ⟨0x1000004, 0, 1⟩
def F.SIL_CTRL.MODE : Field := ⟨0x1000004, 1, 1⟩
def F.SIL_CTRL.CAPTURE : Field := ⟨0x1000004, 2, 1⟩
def F.SIL_CTRL.AUTO_REARM : Field := ⟨0x1000004, 3, 1⟩
def F.SIL_CTRL.ARM : Field := ⟨0x1000004, 4, 1⟩
def F.SIL_CTRL.STOP : Field := ⟨0x1000004, 5, 1⟩
def F.SIL_SRC.SRC_A : Field := ⟨0x1000008, 0, 4⟩
def F.SIL_SRC.SRC_B : Field := ⟨0x1000008, 4, 4⟩
def F.SIL_SRC.RING_A : Field := ⟨0x1000008, 8, 3⟩
def F.SIL_SRC.RING_B : Field := ⟨0x1000008, 12, 3⟩
def F.TRIG_CFG.SOURCE : Field := ⟨0x100000C, 0, 3⟩
def F.TRIG_CFG.GROUP : Field := ⟨0x100000C, 4, 3⟩
def F.TRIG_CFG.CH : Field := ⟨0x100000C, 8, 1⟩
def F.TRIG_CFG.LEVEL : Field := ⟨0x100000C, 16, 12⟩
def F.TRIG_WIN.PRE_BLK : Field := ⟨0x1000010, 0, 5⟩
def F.TRIG_WIN.POST_BLK : Field := ⟨0x1000010, 16, 12⟩
def F.TRIG_HOLDOFF.HOLDOFF : Field := ⟨0x1000014, 0, 20⟩
def F.TRIG_CMD.FIRE : Field := ⟨0x1000018, 0, 1⟩
def F.TRIG_TIME_NS.NS : Field := ⟨0x1000020, 0, 30⟩
def F.TRIG_TIME_SEC : Wide := ⟨0x1000024, 64⟩
def F.SIL_STATUS.RUNNING : Field := ⟨0x1000030, 0, 1⟩
def F.SIL_STATUS.ARMED : Field := ⟨0x1000030, 1, 1⟩
def F.SIL_STATUS.RECORDING : Field := ⟨0x1000030, 2, 1⟩
def F.SIL_FAULT_REAL.OVERRUN : Field := ⟨0x1000034, 0, 1⟩
def F.SIL_FAULT_REAL.TRIG_MISSED : Field := ⟨0x1000034, 1, 1⟩
def F.SIL_FAULT_REAL.RING_CFG : Field := ⟨0x1000034, 2, 1⟩
def F.SIL_FAULT_REAL.ADC_CLIP : Field := ⟨0x1000034, 3, 1⟩
def F.SIL_FAULT_REAL.WRITE_ERR : Field := ⟨0x1000034, 4, 1⟩
def F.SIL_FAULT_INJ.INJ : Field := ⟨0x1000038, 0, 5⟩
def F.SIL_FAULT_EN.EN : Field := ⟨0x100003C, 0, 5⟩
def F.SIL_FAULT_SEV.SEV : Field := ⟨0x1000040, 0, 10⟩
def F.SIL_INJECT.INJECT : Field := ⟨0x1000044, 0, 5⟩
def F.BLOCKS_WRITTEN : Wide := ⟨0x1000050, 48⟩
def F.BLOCKS_DROPPED : Wide := ⟨0x1000058, 48⟩
def F.TRIG_MISSED_CNT : Wide := ⟨0x1000060, 48⟩

/-! SILLAGE, R114 of spec/04_sense_and_capture.md -/

def F.SILLAGE_RING_BASE.BASE (i : Nat) : Field := ⟨0x1000100 + 32 * (i % 8), 12, 13⟩
def F.SILLAGE_RING_SIZE.SIZE (i : Nat) : Field := ⟨0x1000104 + 32 * (i % 8), 0, 14⟩
def F.SILLAGE_RING_WR.INDEX (i : Nat) : Field := ⟨0x1000108 + 32 * (i % 8), 0, 13⟩
def F.SILLAGE_RING_WR.WRAP (i : Nat) : Field := ⟨0x1000108 + 32 * (i % 8), 16, 1⟩
def F.SILLAGE_RING_RD.INDEX (i : Nat) : Field := ⟨0x100010C + 32 * (i % 8), 0, 13⟩
def F.SILLAGE_RING_RD.WRAP (i : Nat) : Field := ⟨0x100010C + 32 * (i % 8), 16, 1⟩
def F.SILLAGE_RING_WMARK.WMARK (i : Nat) : Field := ⟨0x1000110 + 32 * (i % 8), 0, 14⟩
def F.SILLAGE_RING_CFG.ENABLE (i : Nat) : Field := ⟨0x1000114 + 32 * (i % 8), 0, 1⟩
def F.SILLAGE_RING_CFG.POLICY (i : Nat) : Field := ⟨0x1000114 + 32 * (i % 8), 1, 1⟩
def F.SILLAGE_RING_CFG.SOURCE (i : Nat) : Field := ⟨0x1000114 + 32 * (i % 8), 2, 2⟩
def F.SILLAGE_RING_STATUS.FILL (i : Nat) : Field := ⟨0x1000118 + 32 * (i % 8), 0, 14⟩
def F.SILLAGE_RING_STATUS.WMARK_HIT (i : Nat) : Field := ⟨0x1000118 + 32 * (i % 8), 16, 1⟩
def F.SILLAGE_RING_STATUS.OVERRUN (i : Nat) : Field := ⟨0x1000118 + 32 * (i % 8), 17, 1⟩

/-! LOOPPARAM, R136 of spec/05_cell_loops.md -/

def F.OPS.OP0 (i : Nat) : Field := ⟨0x800000 + 64 * (i % 4864), 0, 16⟩
def F.OPS.OP1 (i : Nat) : Field := ⟨0x800000 + 64 * (i % 4864), 16, 16⟩
def F.SP0.VAL (i : Nat) : Field := ⟨0x800004 + 64 * (i % 4864), 0, 24⟩
def F.SP0.DITHER_AMP (i : Nat) : Field := ⟨0x800004 + 64 * (i % 4864), 24, 8⟩
def F.SP1.VAL (i : Nat) : Field := ⟨0x800008 + 64 * (i % 4864), 0, 24⟩
def F.SP1.HSTEP_MAX (i : Nat) : Field := ⟨0x800008 + 64 * (i % 4864), 24, 8⟩
def F.KPI.KP_M (i : Nat) : Field := ⟨0x80000C + 64 * (i % 4864), 0, 16⟩
def F.KPI.KI_M (i : Nat) : Field := ⟨0x80000C + 64 * (i % 4864), 16, 16⟩
def F.KRH.KR_M (i : Nat) : Field := ⟨0x800010 + 64 * (i % 4864), 0, 16⟩
def F.KRH.KH_M (i : Nat) : Field := ⟨0x800010 + 64 * (i % 4864), 16, 16⟩
def F.CTRL.KP_SH (i : Nat) : Field := ⟨0x800014 + 64 * (i % 4864), 0, 4⟩
def F.CTRL.KI_SH (i : Nat) : Field := ⟨0x800014 + 64 * (i % 4864), 4, 4⟩
def F.CTRL.KR_SH (i : Nat) : Field := ⟨0x800014 + 64 * (i % 4864), 8, 4⟩
def F.CTRL.KH_SH (i : Nat) : Field := ⟨0x800014 + 64 * (i % 4864), 12, 4⟩
def F.CTRL.ESHIFT (i : Nat) : Field := ⟨0x800014 + 64 * (i % 4864), 16, 4⟩
def F.CTRL.FSHIFT (i : Nat) : Field := ⟨0x800014 + 64 * (i % 4864), 20, 4⟩
def F.CTRL.LAW (i : Nat) : Field := ⟨0x800014 + 64 * (i % 4864), 24, 2⟩
def F.CTRL.SIGN (i : Nat) : Field := ⟨0x800014 + 64 * (i % 4864), 26, 1⟩
def F.CTRL.HEART_EN (i : Nat) : Field := ⟨0x800014 + 64 * (i % 4864), 27, 1⟩
def F.CTRL.REP_EN (i : Nat) : Field := ⟨0x800014 + 64 * (i % 4864), 28, 1⟩
def F.CTRL.DSTATE (i : Nat) : Field := ⟨0x800014 + 64 * (i % 4864), 29, 1⟩
def F.CODES.CODE_MIN (i : Nat) : Field := ⟨0x800018 + 64 * (i % 4864), 0, 16⟩
def F.CODES.CODE_MAX (i : Nat) : Field := ⟨0x800018 + 64 * (i % 4864), 16, 16⟩
def F.LIMS.ILIM (i : Nat) : Field := ⟨0x80001C + 64 * (i % 4864), 0, 15⟩
def F.LIMS.RLIM (i : Nat) : Field := ⟨0x80001C + 64 * (i % 4864), 16, 15⟩
def F.HCODES.HCODE_MIN (i : Nat) : Field := ⟨0x800020 + 64 * (i % 4864), 0, 16⟩
def F.HCODES.HCODE_MAX (i : Nat) : Field := ⟨0x800020 + 64 * (i % 4864), 16, 16⟩
def F.NORM.NORM_A (i : Nat) : Field := ⟨0x800024 + 64 * (i % 4864), 0, 16⟩
def F.NORM.NORM_B (i : Nat) : Field := ⟨0x800024 + 64 * (i % 4864), 16, 16⟩
def F.GH.VAL (i : Nat) : Field := ⟨0x800028 + 64 * (i % 4864), 0, 32⟩
def F.CHK.VAL (i : Nat) : Field := ⟨0x80002C + 64 * (i % 4864), 0, 32⟩
def F.INT0.I0 (i : Nat) : Field := ⟨0x800030 + 64 * (i % 4864), 0, 32⟩
def F.INT1.I1 (i : Nat) : Field := ⟨0x800034 + 64 * (i % 4864), 0, 32⟩
def F.HEART.HCODE (i : Nat) : Field := ⟨0x800038 + 64 * (i % 4864), 0, 16⟩
def F.HEART.LAST_E (i : Nat) : Field := ⟨0x800038 + 64 * (i % 4864), 16, 16⟩
def F.STATE.HEART_CNT (i : Nat) : Field := ⟨0x80003C + 64 * (i % 4864), 0, 6⟩
def F.STATE.OUT_LIMIT (i : Nat) : Field := ⟨0x80003C + 64 * (i % 4864), 8, 1⟩
def F.STATE.I_LIMIT (i : Nat) : Field := ⟨0x80003C + 64 * (i % 4864), 9, 1⟩
def F.STATE.HEART_LIMIT (i : Nat) : Field := ⟨0x80003C + 64 * (i % 4864), 10, 1⟩
def F.STATE.DITHER_LOCKED (i : Nat) : Field := ⟨0x80003C + 64 * (i % 4864), 11, 1⟩
def F.STATE.PREV_VALID (i : Nat) : Field := ⟨0x80003C + 64 * (i % 4864), 12, 1⟩
def F.STATE.FED0 (i : Nat) : Field := ⟨0x80003C + 64 * (i % 4864), 13, 1⟩
def F.STATE.FED1 (i : Nat) : Field := ⟨0x80003C + 64 * (i % 4864), 14, 1⟩
def F.STATE.PREV_LAM (i : Nat) : Field := ⟨0x80003C + 64 * (i % 4864), 16, 16⟩

/-! COURSE, R162 of spec/06_loop_modes_and_supervision.md -/

def F.COURSE_INFO.COURSE (i : Nat) : Field := ⟨0x300000 + 65536 * (i % 19), 0, 5⟩
def F.COURSE_INFO.KIND (i : Nat) : Field := ⟨0x300000 + 65536 * (i % 19), 5, 1⟩
def F.COURSE_INFO.ENG_REV (i : Nat) : Field := ⟨0x300000 + 65536 * (i % 19), 8, 8⟩
def F.COURSE_CTRL.HOLD_ALL (i : Nat) : Field := ⟨0x300004 + 65536 * (i % 19), 0, 1⟩
def F.COURSE_CTRL.REP_FREEZE_ALL (i : Nat) : Field := ⟨0x300004 + 65536 * (i % 19), 1, 1⟩
def F.DEN_MIN.VAL (i : Nat) : Field := ⟨0x300008 + 65536 * (i % 19), 0, 32⟩
def F.NP_CFG.NP_COUNT (i : Nat) : Field := ⟨0x30000C + 65536 * (i % 19), 0, 8⟩
def F.PL_CFG.PL_COUNT (i : Nat) : Field := ⟨0x300010 + 65536 * (i % 19), 0, 10⟩
def F.PL_CFG.PL_EN (i : Nat) : Field := ⟨0x300010 + 65536 * (i % 19), 16, 1⟩
def F.PL_BAND_IN.LO_IN (i : Nat) : Field := ⟨0x300014 + 65536 * (i % 19), 0, 16⟩
def F.PL_BAND_IN.HI_IN (i : Nat) : Field := ⟨0x300014 + 65536 * (i % 19), 16, 16⟩
def F.PL_BAND_OUT.LO_OUT (i : Nat) : Field := ⟨0x300018 + 65536 * (i % 19), 0, 16⟩
def F.PL_BAND_OUT.HI_OUT (i : Nat) : Field := ⟨0x300018 + 65536 * (i % 19), 16, 16⟩
def F.LIMIT_CFG.LIMIT_COUNT (i : Nat) : Field := ⟨0x30001C + 65536 * (i % 19), 0, 16⟩
def F.NL_CFG.NL_MIN (i : Nat) : Field := ⟨0x300020 + 65536 * (i % 19), 0, 16⟩
def F.NL_CFG.NL_COUNT (i : Nat) : Field := ⟨0x300020 + 65536 * (i % 19), 16, 8⟩
def F.COURSE_PROBE_EST.EST (i : Nat) : Field := ⟨0x300024 + 65536 * (i % 19), 0, 32⟩
def F.ENGINE_STATUS.QUEUE_MAX (i : Nat) : Field := ⟨0x300028 + 65536 * (i % 19), 0, 7⟩
def F.ENGINE_STATUS.BUSY (i : Nat) : Field := ⟨0x300028 + 65536 * (i % 19), 8, 1⟩
def F.LOOP_FAULT_REAL.LATE (i : Nat) : Field := ⟨0x300030 + 65536 * (i % 19), 0, 1⟩
def F.LOOP_FAULT_REAL.NO_PROBE (i : Nat) : Field := ⟨0x300030 + 65536 * (i % 19), 1, 1⟩
def F.LOOP_FAULT_REAL.PLAUSIBILITY (i : Nat) : Field := ⟨0x300030 + 65536 * (i % 19), 2, 1⟩
def F.LOOP_FAULT_REAL.LIMIT (i : Nat) : Field := ⟨0x300030 + 65536 * (i % 19), 3, 1⟩
def F.LOOP_FAULT_REAL.HEART_LIMIT (i : Nat) : Field := ⟨0x300030 + 65536 * (i % 19), 4, 1⟩
def F.LOOP_FAULT_REAL.PRESET_CLAMP (i : Nat) : Field := ⟨0x300030 + 65536 * (i % 19), 5, 1⟩
def F.LOOP_FAULT_REAL.NO_LIGHT (i : Nat) : Field := ⟨0x300030 + 65536 * (i % 19), 6, 1⟩
def F.LOOP_FAULT_REAL.PARAM_REFUSED (i : Nat) : Field := ⟨0x300030 + 65536 * (i % 19), 7, 1⟩
def F.LOOP_FAULT_REAL.TRANSFER_REFUSED (i : Nat) : Field := ⟨0x300030 + 65536 * (i % 19), 8, 1⟩
def F.LOOP_FAULT_REAL.DITHER_LOCKED (i : Nat) : Field := ⟨0x300030 + 65536 * (i % 19), 9, 1⟩
def F.LOOP_FAULT_INJ.INJ (i : Nat) : Field := ⟨0x300034 + 65536 * (i % 19), 0, 10⟩
def F.LOOP_FAULT_EN.EN (i : Nat) : Field := ⟨0x300038 + 65536 * (i % 19), 0, 10⟩
def F.LOOP_FAULT_SEV.SEV (i : Nat) : Field := ⟨0x30003C + 65536 * (i % 19), 0, 20⟩
def F.LOOP_INJECT.INJECT (i : Nat) : Field := ⟨0x300040 + 65536 * (i % 19), 0, 10⟩
def F.UPDATES (i : Nat) : Wide := ⟨0x300050 + 65536 * (i % 19), 48⟩
def F.LATE_CNT (i : Nat) : Wide := ⟨0x300058 + 65536 * (i % 19), 48⟩
def F.CLIPPED_CNT (i : Nat) : Wide := ⟨0x300060 + 65536 * (i % 19), 48⟩
def F.NO_PROBE_CNT (i : Nat) : Wide := ⟨0x300068 + 65536 * (i % 19), 48⟩
def F.COURSE_PARAM_REFUSED_CNT (i : Nat) : Wide := ⟨0x300070 + 65536 * (i % 19), 48⟩
def F.TRANSFER_REFUSED_CNT (i : Nat) : Wide := ⟨0x300078 + 65536 * (i % 19), 48⟩

/-! COURSE, R163 of spec/06_loop_modes_and_supervision.md -/

def F.LOOP_CTRL.TARGET (i j : Nat) : Field := ⟨0x301000 + 65536 * (i % 19) + 4 * (j % 256), 0, 2⟩
def F.LOOP_CTRL.HOLD (i j : Nat) : Field := ⟨0x301000 + 65536 * (i % 19) + 4 * (j % 256), 2, 1⟩
def F.LOOP_CTRL.EVT_MASK (i j : Nat) : Field := ⟨0x301000 + 65536 * (i % 19) + 4 * (j % 256), 3, 1⟩
def F.LOOP_CTRL.REP_FREEZE (i j : Nat) : Field := ⟨0x301000 + 65536 * (i % 19) + 4 * (j % 256), 4, 1⟩
def F.LOOP_CTRL.REP_RESET (i j : Nat) : Field := ⟨0x301000 + 65536 * (i % 19) + 4 * (j % 256), 5, 2⟩
def F.LOOP_STAT.STATE (i j : Nat) : Field := ⟨0x301400 + 65536 * (i % 19) + 4 * (j % 256), 0, 2⟩
def F.LOOP_STAT.BUSY (i j : Nat) : Field := ⟨0x301400 + 65536 * (i % 19) + 4 * (j % 256), 2, 1⟩
def F.LOOP_STAT.H_HOST (i j : Nat) : Field := ⟨0x301400 + 65536 * (i % 19) + 4 * (j % 256), 3, 1⟩
def F.LOOP_STAT.H_EVT (i j : Nat) : Field := ⟨0x301400 + 65536 * (i % 19) + 4 * (j % 256), 4, 1⟩
def F.LOOP_STAT.H_CAL (i j : Nat) : Field := ⟨0x301400 + 65536 * (i % 19) + 4 * (j % 256), 5, 1⟩
def F.LOOP_STAT.H_WARM (i j : Nat) : Field := ⟨0x301400 + 65536 * (i % 19) + 4 * (j % 256), 6, 1⟩
def F.LOOP_STAT.LATE (i j : Nat) : Field := ⟨0x301400 + 65536 * (i % 19) + 4 * (j % 256), 8, 1⟩
def F.LOOP_STAT.NO_PROBE (i j : Nat) : Field := ⟨0x301400 + 65536 * (i % 19) + 4 * (j % 256), 9, 1⟩
def F.LOOP_STAT.PLAUS (i j : Nat) : Field := ⟨0x301400 + 65536 * (i % 19) + 4 * (j % 256), 10, 1⟩
def F.LOOP_STAT.PL_DIR (i j : Nat) : Field := ⟨0x301400 + 65536 * (i % 19) + 4 * (j % 256), 11, 1⟩
def F.LOOP_STAT.LIMIT (i j : Nat) : Field := ⟨0x301400 + 65536 * (i % 19) + 4 * (j % 256), 12, 1⟩
def F.LOOP_STAT.HEART_LIMIT (i j : Nat) : Field := ⟨0x301400 + 65536 * (i % 19) + 4 * (j % 256), 13, 1⟩
def F.LOOP_STAT.PRESET_CLAMP (i j : Nat) : Field := ⟨0x301400 + 65536 * (i % 19) + 4 * (j % 256), 14, 1⟩
def F.LOOP_STAT.PRESET (i j : Nat) : Field := ⟨0x301400 + 65536 * (i % 19) + 4 * (j % 256), 16, 2⟩
def F.LOOP_PL.PL_SCALE (i j : Nat) : Field := ⟨0x301800 + 65536 * (i % 19) + 4 * (j % 256), 0, 16⟩
def F.LOOP_PL.PL_CNT (i j : Nat) : Field := ⟨0x301800 + 65536 * (i % 19) + 4 * (j % 256), 16, 10⟩
def F.NO_LIGHT.DARK (i j : Nat) : Field := ⟨0x301C00 + 65536 * (i % 19) + 4 * (j % 8), 0, 32⟩

/-! ACCORD, R195 of spec/07_accords_and_frames.md -/

def F.ACC_INFO.RECORD_BYTES : Field := ⟨0x260000, 0, 12⟩
def F.ACC_INFO.STANDING_RECORDS : Field := ⟨0x260000, 16, 5⟩
def F.SLOT_CFG.SLOT_NS : Field := ⟨0x260004, 0, 17⟩
def F.GUARD_CFG.GUARD_NS : Field := ⟨0x260008, 0, 10⟩
def F.FRAME_CFG.SLOTS : Field := ⟨0x26000C, 0, 7⟩
def F.FRAME_CFG.MARGIN_US : Field := ⟨0x26000C, 16, 7⟩
def F.CIRCUIT_CFG.CUT_LAG_US : Field := ⟨0x260010, 0, 10⟩
def F.CIRCUIT_CFG.NOTICE_LEAD_US : Field := ⟨0x260010, 10, 14⟩
def F.CIRCUIT_CFG.REARRANGE : Field := ⟨0x260010, 24, 1⟩
def F.PLANE_MODE.MODE : Field := ⟨0x260014, 0, 2⟩
def F.IN_TRIM.LEVEL (i : Nat) : Field := ⟨0x260100 + 4 * (i % 16), 0, 32⟩
def F.ACCORD_BANK_STATUS.BANK0 : Field := ⟨0x260020, 0, 3⟩
def F.ACCORD_BANK_STATUS.BANK1 : Field := ⟨0x260020, 4, 3⟩
def F.FRAME : Wide := ⟨0x260024, 64⟩
def F.STANDING_STATUS.ACTIVE : Field := ⟨0x26002C, 0, 4⟩
def F.STANDING_STATUS.PEND : Field := ⟨0x26002C, 4, 12⟩
def F.STANDING_STATUS.PEND_COUNT : Field := ⟨0x26002C, 16, 2⟩
def F.STANDING_STATUS.SWITCH_BUSY : Field := ⟨0x26002C, 18, 1⟩
def F.STANDING_SEQ.SEQ : Field := ⟨0x260030, 0, 32⟩
def F.ALT_ARMED.ARMED : Field := ⟨0x260034, 0, 16⟩
def F.ALT_ELIGIBLE.ELIGIBLE : Field := ⟨0x260038, 0, 16⟩
def F.ALT_STALE.STALE : Field := ⟨0x26003C, 0, 16⟩
def F.ALT_CMD.INDEX : Field := ⟨0x260040, 0, 4⟩
def F.ALT_CMD.ARM : Field := ⟨0x260040, 4, 1⟩
def F.ALT_CMD.DISARM : Field := ⟨0x260040, 5, 1⟩
def F.SWITCH_CMD.INDEX : Field := ⟨0x260044, 0, 4⟩
def F.SWITCH_CMD.GO : Field := ⟨0x260044, 4, 1⟩
def F.ACC_FAULT_REAL.FRAME_DISCARDED : Field := ⟨0x260050, 0, 1⟩
def F.ACC_FAULT_REAL.PAIRS_REMOVED : Field := ⟨0x260050, 1, 1⟩
def F.ACC_FAULT_REAL.ALT_STALE : Field := ⟨0x260050, 2, 1⟩
def F.ACC_FAULT_REAL.ALT_REFUSED : Field := ⟨0x260050, 3, 1⟩
def F.ACC_FAULT_REAL.STANDING_SWITCHED : Field := ⟨0x260050, 4, 1⟩
def F.ACC_FAULT_REAL.RECORD_CRC : Field := ⟨0x260050, 5, 1⟩
def F.ACC_FAULT_REAL.WRITE_REFUSED : Field := ⟨0x260050, 6, 1⟩
def F.ACC_FAULT_REAL.CUT_DEFERRED : Field := ⟨0x260050, 7, 1⟩
def F.ACC_FAULT_INJ.INJ : Field := ⟨0x260054, 0, 8⟩
def F.ACC_FAULT_EN.EN : Field := ⟨0x260058, 0, 8⟩
def F.ACC_FAULT_SEV.SEV : Field := ⟨0x26005C, 0, 16⟩
def F.ACC_INJECT.INJECT : Field := ⟨0x260060, 0, 8⟩
def F.FRAMES_ACTIVE : Wide := ⟨0x260080, 48⟩
def F.FRAMES_DISCARDED : Wide := ⟨0x260088, 48⟩
def F.PAIRS_REMOVED_CNT : Wide := ⟨0x260090, 48⟩
def F.STANDING_UPDATES : Wide := ⟨0x260098, 48⟩
def F.REARRANGEMENTS : Wide := ⟨0x2600A0, 48⟩
def F.SWITCHES : Wide := ⟨0x2600A8, 48⟩
def F.ACCORD_WRITE_REFUSED_CNT : Wide := ⟨0x2600B0, 48⟩

/-! COMPOSER, R215 of spec/08_composer.md -/

def F.COMP_INFO.ENGINES : Field := ⟨0x180000, 0, 4⟩
def F.COMP_INFO.MAX_ITER : Field := ⟨0x180000, 4, 3⟩
def F.COMP_INFO.COMP_REV : Field := ⟨0x180000, 8, 8⟩
def F.COMP_CFG.ITERATIONS : Field := ⟨0x180004, 0, 3⟩
def F.COMP_CFG.DEMAND_CLOSE_US : Field := ⟨0x180004, 8, 6⟩
def F.COMP_CTRL.ABORT : Field := ⟨0x180008, 0, 1⟩
def F.COMP_STATUS.PHASE : Field := ⟨0x18000C, 0, 3⟩
def F.COMP_STATUS.RESULT : Field := ⟨0x18000C, 4, 3⟩
def F.COMP_STATUS.ABORT_IGNORED : Field := ⟨0x18000C, 7, 1⟩
def F.COMP_STATUS.RESIDUE : Field := ⟨0x18000C, 8, 7⟩
def F.COMP_STATUS.SLOTS_DONE : Field := ⟨0x18000C, 16, 7⟩
def F.APPLY_FRAME : Wide := ⟨0x180010, 64⟩
def F.COMP_TIME.NS : Field := ⟨0x180018, 0, 20⟩
def F.COMP_STATE_CRC.CRC : Field := ⟨0x18001C, 0, 32⟩
def F.DIGEST_FRAME : Wide := ⟨0x180020, 64⟩
def F.FRAME_DIGEST.DIGEST : Field := ⟨0x180028, 0, 32⟩
def F.COMP_FAULT_REAL.DEMAND_LATE : Field := ⟨0x180030, 0, 1⟩
def F.COMP_FAULT_REAL.DEMAND_REFUSED : Field := ⟨0x180030, 1, 1⟩
def F.COMP_FAULT_REAL.DEMAND_INVALID : Field := ⟨0x180030, 2, 1⟩
def F.COMP_FAULT_REAL.DEMAND_OVERFLOW : Field := ⟨0x180030, 3, 1⟩
def F.COMP_FAULT_REAL.COMPOSE_ABORTED : Field := ⟨0x180030, 4, 1⟩
def F.COMP_FAULT_REAL.PARAM_REFUSED : Field := ⟨0x180030, 5, 1⟩
def F.COMP_FAULT_REAL.SATURATED : Field := ⟨0x180030, 6, 1⟩
def F.COMP_FAULT_INJ.INJ : Field := ⟨0x180034, 0, 7⟩
def F.COMP_FAULT_EN.EN : Field := ⟨0x180038, 0, 7⟩
def F.COMP_FAULT_SEV.SEV : Field := ⟨0x18003C, 0, 14⟩
def F.COMP_INJECT.INJECT : Field := ⟨0x180040, 0, 7⟩
def F.CUTS : Wide := ⟨0x180050, 48⟩
def F.UNITS_GRANTED : Wide := ⟨0x180058, 48⟩
def F.UNITS_GREEN : Wide := ⟨0x180060, 48⟩
def F.UNITS_YELLOW : Wide := ⟨0x180068, 48⟩
def F.UNITS_RED : Wide := ⟨0x180070, 48⟩
def F.DEMAND_LATE_CNT : Wide := ⟨0x180078, 48⟩
def F.DEMAND_REFUSED_CNT : Wide := ⟨0x180080, 48⟩
def F.DEMAND_INVALID_CNT : Wide := ⟨0x180088, 48⟩
def F.DEMAND_OVERFLOW_CNT : Wide := ⟨0x180090, 48⟩
def F.COMPOSER_PARAM_REFUSED_CNT : Wide := ⟨0x180098, 48⟩
def F.ITER_CAP_CNT : Wide := ⟨0x1800A0, 48⟩
def F.UNITS_RETURNED : Wide := ⟨0x1800A8, 48⟩
def F.CLASS_W.W (i : Nat) : Field := ⟨0x180100 + 4 * (i % 6), 0, 8⟩
def F.IN_MASK.MASK (i : Nat) : Field := ⟨0x180200 + 4 * (i % 16), 0, 32⟩
def F.OUT_MASK.MASK (i : Nat) : Field := ⟨0x180240 + 4 * (i % 16), 0, 32⟩
def F.IN_OWNER.ENDPOINT (i : Nat) : Field := ⟨0x180800 + 4 * (i % 512), 0, 6⟩
def F.IN_OWNER.VALID (i : Nat) : Field := ⟨0x180800 + 4 * (i % 512), 7, 1⟩
def F.OUT_OWNER.ENDPOINT (i : Nat) : Field := ⟨0x181000 + 4 * (i % 512), 0, 6⟩
def F.OUT_OWNER.VALID (i : Nat) : Field := ⟨0x181000 + 4 * (i % 512), 7, 1⟩

/-! COMPOSER, R216 of spec/08_composer.md -/

def F.POL_CIR.CIR (i : Nat) : Field := ⟨0x182000 + 32 * (i % 64), 0, 24⟩
def F.POL_PIR.PIR (i : Nat) : Field := ⟨0x182004 + 32 * (i % 64), 0, 24⟩
def F.POL_BURST.CBS (i : Nat) : Field := ⟨0x182008 + 32 * (i % 64), 0, 16⟩
def F.POL_BURST.PBS (i : Nat) : Field := ⟨0x182008 + 32 * (i % 64), 16, 16⟩
def F.SRC_CTRL.AWARE (i : Nat) : Field := ⟨0x18200C + 32 * (i % 64), 0, 1⟩
def F.SRC_CTRL.AGG (i : Nat) : Field := ⟨0x18200C + 32 * (i % 64), 1, 1⟩
def F.SRC_CTRL.ACTIVE (i : Nat) : Field := ⟨0x18200C + 32 * (i % 64), 8, 7⟩
def F.SRC_CTRL.P (i : Nat) : Field := ⟨0x18200C + 32 * (i % 64), 16, 6⟩
def F.POL_TC.TC (i : Nat) : Field := ⟨0x182010 + 32 * (i % 64), 0, 24⟩
def F.POL_TP.TP (i : Nat) : Field := ⟨0x182014 + 32 * (i % 64), 0, 24⟩
def F.SRC_CAP.IN_CAP (i : Nat) : Field := ⟨0x182018 + 32 * (i % 64), 0, 10⟩
def F.SRC_CAP.OUT_CAP (i : Nat) : Field := ⟨0x182018 + 32 * (i % 64), 16, 10⟩

/-! COMPOSER, R217 of spec/08_composer.md -/

def F.SHP_RATE.SR (i j : Nat) : Field := ⟨0x184000 + 128 * (i % 64) + 16 * (j % 8), 0, 24⟩
def F.SHP_RATE.EN (i j : Nat) : Field := ⟨0x184000 + 128 * (i % 64) + 16 * (j % 8), 31, 1⟩
def F.SHP_DEPTH.SD (i j : Nat) : Field := ⟨0x184004 + 128 * (i % 64) + 16 * (j % 8), 0, 15⟩
def F.SHP_BUCKET.B (i j : Nat) : Field := ⟨0x184008 + 128 * (i % 64) + 16 * (j % 8), 0, 32⟩
def F.V_C0.V (i : Nat) : Field := ⟨0x186000 + 16 * (i % 64), 0, 32⟩
def F.V_C1.V (i : Nat) : Field := ⟨0x186004 + 16 * (i % 64), 0, 32⟩
def F.V_W.V (i : Nat) : Field := ⟨0x186008 + 16 * (i % 64), 0, 32⟩

/-! COMPOSER, R218 of spec/08_composer.md -/

def F.DEMAND.GREEN (i j k : Nat) : Field := ⟨0x190000 + 2048 * (i % 64) + 32 * (j % 64) + 4 * (k % 8), 0, 16⟩
def F.DEMAND.YELLOW (i j k : Nat) : Field := ⟨0x190000 + 2048 * (i % 64) + 32 * (j % 64) + 4 * (k % 8), 16, 16⟩
def F.TAG.S (i j k : Nat) : Field := ⟨0x1C0000 + 2048 * (i % 64) + 32 * (j % 64) + 4 * (k % 8), 0, 32⟩

/-! KOWIN, R246 of spec/09_kowin_protocol.md -/

def F.KOWIN_CFG.ETHERTYPE : Field := ⟨0xF0000, 0, 16⟩
def F.UDP_CFG.PORT : Field := ⟨0xF0004, 0, 16⟩
def F.TIMERS.KEEPALIVE_US : Field := ⟨0xF0008, 0, 10⟩
def F.TIMERS.PAIR_WIN_US : Field := ⟨0xF0008, 16, 8⟩
def F.CREDIT_CFG.INIT_CREDIT : Field := ⟨0xF000C, 0, 6⟩
def F.ECHO_CMD.LANE : Field := ⟨0xF0010, 0, 6⟩
def F.ECHO_CMD.GO : Field := ⟨0xF0010, 8, 1⟩
def F.ECHO_RESULT.RTT_NS : Field := ⟨0xF0014, 0, 24⟩
def F.ECHO_RESULT.DONE : Field := ⟨0xF0014, 24, 1⟩
def F.ECHO_RESULT.TIMEOUT : Field := ⟨0xF0014, 25, 1⟩
def F.LANE_UP : Wide := ⟨0xF0018, 64⟩
def F.KOWIN_FAULT_REAL.LANE_DOWN : Field := ⟨0xF0030, 0, 1⟩
def F.KOWIN_FAULT_REAL.VERSION_MISMATCH : Field := ⟨0xF0030, 1, 1⟩
def F.KOWIN_FAULT_REAL.CREDIT_VIOLATION : Field := ⟨0xF0030, 2, 1⟩
def F.KOWIN_FAULT_REAL.SEQ_GAP : Field := ⟨0xF0030, 3, 1⟩
def F.KOWIN_FAULT_REAL.DUPLICATE : Field := ⟨0xF0030, 4, 1⟩
def F.KOWIN_FAULT_REAL.UNKNOWN_TYPE : Field := ⟨0xF0030, 5, 1⟩
def F.KOWIN_FAULT_REAL.GRANT_DROPPED : Field := ⟨0xF0030, 6, 1⟩
def F.KOWIN_FAULT_REAL.DIVERGENCE : Field := ⟨0xF0030, 7, 1⟩
def F.KOWIN_FAULT_REAL.ECHO_TIMEOUT : Field := ⟨0xF0030, 8, 1⟩
def F.KOWIN_FAULT_INJ.INJ : Field := ⟨0xF0034, 0, 9⟩
def F.KOWIN_FAULT_EN.EN : Field := ⟨0xF0038, 0, 9⟩
def F.KOWIN_FAULT_SEV.SEV : Field := ⟨0xF003C, 0, 18⟩
def F.KOWIN_INJECT.INJECT : Field := ⟨0xF0040, 0, 9⟩
def F.MSG_RX : Wide := ⟨0xF0050, 48⟩
def F.MSG_TX : Wide := ⟨0xF0058, 48⟩
def F.DIVERGENCE_CNT : Wide := ⟨0xF0060, 48⟩
def F.UNKNOWN_CNT : Wide := ⟨0xF0068, 48⟩

/-! LANES, R247 of spec/09_kowin_protocol.md -/

def F.LANE_CFG.MODE (i : Nat) : Field := ⟨0x100000 + 4096 * (i % 64), 0, 2⟩
def F.LANE_CFG.FEC (i : Nat) : Field := ⟨0x100000 + 4096 * (i % 64), 2, 2⟩
def F.LANE_CFG.ROLE (i : Nat) : Field := ⟨0x100000 + 4096 * (i % 64), 4, 1⟩
def F.LANE_CFG.ENCAP (i : Nat) : Field := ⟨0x100000 + 4096 * (i % 64), 5, 2⟩
def F.LANE_CFG.TAGS (i : Nat) : Field := ⟨0x100000 + 4096 * (i % 64), 7, 2⟩
def F.LANE_STATUS.STATE (i : Nat) : Field := ⟨0x100004 + 4096 * (i % 64), 0, 2⟩
def F.LANE_STATUS.PCS_LOCK (i : Nat) : Field := ⟨0x100004 + 4096 * (i % 64), 2, 1⟩
def F.LANE_STATUS.FEC_LOCK (i : Nat) : Field := ⟨0x100004 + 4096 * (i % 64), 3, 1⟩
def F.LANE_STATUS.PEER_SEEN (i : Nat) : Field := ⟨0x100004 + 4096 * (i % 64), 4, 1⟩
def F.RX_SEQ.SEQ (i : Nat) : Field := ⟨0x100008 + 4096 * (i % 64), 0, 32⟩
def F.SYS_SEQ.SEQ (i : Nat) : Field := ⟨0x10000C + 4096 * (i % 64), 0, 32⟩
def F.LOCAL_SEQ.SEQ (i : Nat) : Field := ⟨0x100010 + 4096 * (i % 64), 0, 32⟩
def F.CREDIT.LIMIT (i : Nat) : Field := ⟨0x100014 + 4096 * (i % 64), 0, 16⟩
def F.CREDIT.USED (i : Nat) : Field := ⟨0x100014 + 4096 * (i % 64), 16, 16⟩
def F.VLAN_CFG.VID0 (i : Nat) : Field := ⟨0x100018 + 4096 * (i % 64), 0, 12⟩
def F.VLAN_CFG.PCP0 (i : Nat) : Field := ⟨0x100018 + 4096 * (i % 64), 13, 3⟩
def F.VLAN_CFG.VID1 (i : Nat) : Field := ⟨0x100018 + 4096 * (i % 64), 16, 12⟩
def F.VLAN_CFG.PCP1 (i : Nat) : Field := ⟨0x100018 + 4096 * (i % 64), 29, 3⟩
def F.LANE_MAC (i : Nat) : Wide := ⟨0x100020 + 4096 * (i % 64), 48⟩
def F.PEER_MAC (i : Nat) : Wide := ⟨0x100028 + 4096 * (i % 64), 48⟩
def F.PEER_ID (i : Nat) : Wide := ⟨0x100030 + 4096 * (i % 64), 64⟩
def F.PEER_STATUS.WORD (i : Nat) : Field := ⟨0x100038 + 4096 * (i % 64), 0, 32⟩
def F.RX_MSG (i : Nat) : Wide := ⟨0x100040 + 4096 * (i % 64), 48⟩
def F.TX_MSG (i : Nat) : Wide := ⟨0x100048 + 4096 * (i % 64), 48⟩
def F.DUP_CNT (i : Nat) : Wide := ⟨0x100050 + 4096 * (i % 64), 48⟩
def F.GAP_CNT (i : Nat) : Wide := ⟨0x100058 + 4096 * (i % 64), 48⟩
def F.CREDIT_VIOL_CNT (i : Nat) : Wide := ⟨0x100060 + 4096 * (i % 64), 48⟩
def F.PCS_ERR_CNT (i : Nat) : Wide := ⟨0x100068 + 4096 * (i % 64), 48⟩
def F.GRANT_DROPPED_CNT (i : Nat) : Wide := ⟨0x100070 + 4096 * (i % 64), 48⟩
def F.PAUSE_RX_CNT (i : Nat) : Wide := ⟨0x100078 + 4096 * (i % 64), 48⟩
def F.LOCAL_IP.ADDR (i j : Nat) : Field := ⟨0x100100 + 4096 * (i % 64) + 4 * (j % 4), 0, 32⟩
def F.PEER_IP.ADDR (i j : Nat) : Field := ⟨0x100110 + 4096 * (i % 64) + 4 * (j % 4), 0, 32⟩

/-! AGENTS, R248 of spec/09_kowin_protocol.md -/

def F.AG_INFO.AGENTS : Field := ⟨0x140000, 0, 4⟩
def F.AG_INFO.CONTEXTS : Field := ⟨0x140000, 16, 14⟩
def F.POOL_FREE.FREE : Field := ⟨0x140004, 0, 14⟩
def F.CTX_SEL.INDEX : Field := ⟨0x140008, 0, 13⟩
def F.CTX_DATA.WORD (i : Nat) : Field := ⟨0x140010 + 4 * (i % 8), 0, 32⟩
def F.AG_FAULT_REAL.NAK_SENT : Field := ⟨0x140030, 0, 1⟩
def F.AG_FAULT_REAL.POOL_EMPTY : Field := ⟨0x140030, 1, 1⟩
def F.AG_FAULT_REAL.CTX_CRC : Field := ⟨0x140030, 2, 1⟩
def F.AG_FAULT_REAL.CTX_DROPPED : Field := ⟨0x140030, 3, 1⟩
def F.AG_FAULT_INJ.INJ : Field := ⟨0x140034, 0, 4⟩
def F.AG_FAULT_EN.EN : Field := ⟨0x140038, 0, 4⟩
def F.AG_FAULT_SEV.SEV : Field := ⟨0x14003C, 0, 8⟩
def F.AG_INJECT.INJECT : Field := ⟨0x140040, 0, 4⟩
def F.SETUPS_LIT : Wide := ⟨0x140050, 48⟩
def F.NAKS : Wide := ⟨0x140058, 48⟩
def F.RELEASES : Wide := ⟨0x140060, 48⟩
def F.DROPPED_CNT : Wide := ⟨0x140068, 48⟩
def F.AG_HELD.CONTEXTS (i : Nat) : Field := ⟨0x140100 + 16 * (i % 8), 0, 14⟩
def F.AG_HELD.PENDING (i : Nat) : Field := ⟨0x140100 + 16 * (i % 8), 16, 14⟩

/-! PARSER, R270 of spec/10_control_frame_parser.md -/

def F.PARSER_INFO.RULES : Field := ⟨0xE0000, 0, 11⟩
def F.PARSER_INFO.BANKS : Field := ⟨0xE0000, 12, 2⟩
def F.PARSER_INFO.PARSER_REV : Field := ⟨0xE0000, 16, 8⟩
def F.PARSER_CFG.PTP_EN : Field := ⟨0xE0004, 0, 1⟩
def F.PARSER_CFG.ECHO_EN : Field := ⟨0xE0004, 1, 1⟩
def F.PARSER_BANK_STATUS.ACTIVE : Field := ⟨0xE0008, 0, 1⟩
def F.PARSER_BANK_STATUS.OLD_BUSY : Field := ⟨0xE0008, 1, 1⟩
def F.PARSER_BANK_STATUS.SWAP_PENDING : Field := ⟨0xE0008, 2, 1⟩
def F.PARSER_BANK_STATUS.EPOCH : Field := ⟨0xE0008, 16, 16⟩
def F.SWAP_CMD.GO : Field := ⟨0xE000C, 0, 1⟩
def F.SWAP_CMD.AT_FRAME : Field := ⟨0xE000C, 1, 1⟩
def F.SWAP_FRAME : Wide := ⟨0xE0010, 64⟩
def F.BANK_CRC0.CRC : Field := ⟨0xE0018, 0, 32⟩
def F.BANK_CRC1.CRC : Field := ⟨0xE001C, 0, 32⟩
def F.RULE_SEL.INDEX : Field := ⟨0xE0020, 0, 10⟩
def F.RULE_SEL.BANK : Field := ⟨0xE0020, 12, 1⟩
def F.RULE_CMD.READ : Field := ⟨0xE0024, 0, 1⟩
def F.RULE_CMD.WRITE : Field := ⟨0xE0024, 1, 1⟩
def F.PARSER_FAULT_REAL.MALFORMED : Field := ⟨0xE0030, 0, 1⟩
def F.PARSER_FAULT_REAL.NO_MATCH : Field := ⟨0xE0030, 1, 1⟩
def F.PARSER_FAULT_REAL.SLOW_PATH : Field := ⟨0xE0030, 2, 1⟩
def F.PARSER_FAULT_REAL.SLOW_DROP : Field := ⟨0xE0030, 3, 1⟩
def F.PARSER_FAULT_REAL.PTP_DROP : Field := ⟨0xE0030, 4, 1⟩
def F.PARSER_FAULT_REAL.RECIRC_FULL : Field := ⟨0xE0030, 5, 1⟩
def F.PARSER_FAULT_REAL.WRITE_REFUSED : Field := ⟨0xE0030, 6, 1⟩
def F.PARSER_FAULT_REAL.BANK_CRC : Field := ⟨0xE0030, 7, 1⟩
def F.PARSER_FAULT_REAL.SATURATED : Field := ⟨0xE0030, 8, 1⟩
def F.PARSER_FAULT_INJ.INJ : Field := ⟨0xE0034, 0, 9⟩
def F.PARSER_FAULT_EN.EN : Field := ⟨0xE0038, 0, 9⟩
def F.PARSER_FAULT_SEV.SEV : Field := ⟨0xE003C, 0, 18⟩
def F.PARSER_INJECT.INJECT : Field := ⟨0xE0040, 0, 9⟩
def F.FRAMES_PARSED : Wide := ⟨0xE0050, 48⟩
def F.RECIRCULATED : Wide := ⟨0xE0058, 48⟩
def F.MALFORMED_CNT : Wide := ⟨0xE0060, 48⟩
def F.NO_MATCH_CNT : Wide := ⟨0xE0068, 48⟩
def F.SLOW_CNT : Wide := ⟨0xE0070, 48⟩
def F.SLOW_DROP_CNT : Wide := ⟨0xE0078, 48⟩
def F.PTP_CNT : Wide := ⟨0xE0080, 48⟩
def F.PTP_DROP_CNT : Wide := ⟨0xE0088, 48⟩
def F.FRAGMENT_CNT : Wide := ⟨0xE0090, 48⟩
def F.STRUCT_CNT : Wide := ⟨0xE0098, 48⟩
def F.RECIRC_FULL_CNT : Wide := ⟨0xE00A0, 48⟩
def F.PARSER_WRITE_REFUSED_CNT : Wide := ⟨0xE00A8, 48⟩
def F.DROP_CNT : Wide := ⟨0xE00B0, 48⟩
def F.FW_ANSWERED_CNT : Wide := ⟨0xE00B8, 48⟩
def F.RULE_DATA.WORD (i : Nat) : Field := ⟨0xE0200 + 4 * (i % 8), 0, 32⟩
def F.RULE_HIT : Wide := ⟨0xE0220, 48⟩

/-! PARSER, R271 of spec/10_control_frame_parser.md -/

def F.PARSER_RING_BASE.BASE (i : Nat) : Field := ⟨0xE0100 + 32 * (i % 2), 11, 12⟩
def F.PARSER_RING_SIZE.SIZE (i : Nat) : Field := ⟨0xE0104 + 32 * (i % 2), 0, 13⟩
def F.PARSER_RING_WR.INDEX (i : Nat) : Field := ⟨0xE0108 + 32 * (i % 2), 0, 12⟩
def F.PARSER_RING_WR.WRAP (i : Nat) : Field := ⟨0xE0108 + 32 * (i % 2), 16, 1⟩
def F.PARSER_RING_RD.INDEX (i : Nat) : Field := ⟨0xE010C + 32 * (i % 2), 0, 12⟩
def F.PARSER_RING_RD.WRAP (i : Nat) : Field := ⟨0xE010C + 32 * (i % 2), 16, 1⟩
def F.PARSER_RING_WMARK.WMARK (i : Nat) : Field := ⟨0xE0110 + 32 * (i % 2), 0, 13⟩
def F.PARSER_RING_CFG.ENABLE (i : Nat) : Field := ⟨0xE0114 + 32 * (i % 2), 0, 1⟩
def F.PARSER_RING_STATUS.FILL (i : Nat) : Field := ⟨0xE0118 + 32 * (i % 2), 0, 13⟩
def F.PARSER_RING_STATUS.WMARK_HIT (i : Nat) : Field := ⟨0xE0118 + 32 * (i % 2), 16, 1⟩
def F.PARSER_RING_STATUS.OVERRUN (i : Nat) : Field := ⟨0xE0118 + 32 * (i % 2), 17, 1⟩

/-! PARSER, R272 of spec/10_control_frame_parser.md -/

def F.LANE_PCFG.DEFAULT (i : Nat) : Field := ⟨0xE0800 + 32 * (i % 64), 0, 1⟩
def F.LANE_FRAMES (i : Nat) : Wide := ⟨0xE0808 + 32 * (i % 64), 48⟩
def F.LANE_MALFORMED (i : Nat) : Wide := ⟨0xE0810 + 32 * (i % 64), 48⟩
def F.LANE_NO_MATCH (i : Nat) : Wide := ⟨0xE0818 + 32 * (i % 64), 48⟩

/-! TIME, R292 of spec/11_time.md -/

def F.TIME_INFO.TIME_REV : Field := ⟨0x80000, 0, 8⟩
def F.TIME_STATUS.SLEWING : Field := ⟨0x80004, 0, 1⟩
def F.TIME_STATUS.STEP_PENDING : Field := ⟨0x80004, 1, 1⟩
def F.TIME_STATUS.PRE_EPOCH : Field := ⟨0x80004, 2, 1⟩
def F.TIME_STATUS.HOLDOVER : Field := ⟨0x80004, 3, 1⟩
def F.TIME_NS.NS : Field := ⟨0x80010, 0, 30⟩
def F.TIME_SEC : Wide := ⟨0x80014, 64⟩
def F.TIME_FRAC.FRAC : Field := ⟨0x8001C, 0, 32⟩
def F.TIME_INC_LO.INC : Field := ⟨0x80020, 0, 32⟩
def F.TIME_INC_HI.INC : Field := ⟨0x80024, 0, 16⟩
def F.ADJ_NS.ADJ : Field := ⟨0x80028, 0, 32⟩
def F.SLEW_CFG.SLEW_PPM : Field := ⟨0x8002C, 0, 9⟩
def F.STEP_SEC : Wide := ⟨0x80030, 64⟩
def F.STEP_NS.NS : Field := ⟨0x80038, 0, 32⟩
def F.STEP_CMD.MODE : Field := ⟨0x8003C, 0, 1⟩
def F.STEP_CMD.GO : Field := ⟨0x8003C, 1, 1⟩
def F.EPOCH_SEC : Wide := ⟨0x80040, 64⟩
def F.EPOCH_NS.NS : Field := ⟨0x80048, 0, 30⟩
def F.PPS_CFG.IN_EN : Field := ⟨0x80050, 0, 1⟩
def F.PPS_CFG.OUT_EN : Field := ⟨0x80050, 1, 1⟩
def F.PPS_OUT_OFFSET.OFFSET : Field := ⟨0x80054, 0, 32⟩
def F.PPS_OUT_WIDTH.WIDTH : Field := ⟨0x80058, 0, 19⟩
def F.PPS_IN_NS.NS : Field := ⟨0x8005C, 0, 30⟩
def F.PPS_IN_SEC : Wide := ⟨0x80060, 64⟩
def F.TXTS_POP.LANE : Field := ⟨0x80070, 0, 6⟩
def F.TXTS_POP.COUNT : Field := ⟨0x80070, 8, 8⟩
def F.TXTS_POP.VALID : Field := ⟨0x80070, 16, 1⟩
def F.TXTS_TAG.TAG : Field := ⟨0x80074, 0, 16⟩
def F.TXTS_NS.NS : Field := ⟨0x80078, 0, 30⟩
def F.TXTS_SEC : Wide := ⟨0x8007C, 64⟩
def F.TIME_FAULT_REAL.TIME_REFUSED : Field := ⟨0x80090, 0, 1⟩
def F.TIME_FAULT_REAL.TIME_STEP : Field := ⟨0x80090, 1, 1⟩
def F.TIME_FAULT_REAL.REFCLK_LOST : Field := ⟨0x80090, 2, 1⟩
def F.TIME_FAULT_REAL.PPS_MISS : Field := ⟨0x80090, 3, 1⟩
def F.TIME_FAULT_REAL.TS_OVERRUN : Field := ⟨0x80090, 4, 1⟩
def F.TIME_FAULT_REAL.TX_DROP : Field := ⟨0x80090, 5, 1⟩
def F.TIME_FAULT_REAL.TPULSE_REFUSED : Field := ⟨0x80090, 6, 1⟩
def F.TIME_FAULT_REAL.STEP_DISARM : Field := ⟨0x80090, 7, 1⟩
def F.TIME_FAULT_INJ.INJ : Field := ⟨0x80094, 0, 8⟩
def F.TIME_FAULT_EN.EN : Field := ⟨0x80098, 0, 8⟩
def F.TIME_FAULT_SEV.SEV : Field := ⟨0x8009C, 0, 16⟩
def F.TIME_INJECT.INJECT : Field := ⟨0x800A0, 0, 8⟩
def F.STEPS : Wide := ⟨0x800B0, 48⟩
def F.PPS_IGNORED : Wide := ⟨0x800B8, 48⟩
def F.PTP_TX : Wide := ⟨0x800C0, 48⟩
def F.TX_DROP_CNT : Wide := ⟨0x800C8, 48⟩

/-! TIME, R293 of spec/11_time.md -/

def F.TP_CFG.MODE (i : Nat) : Field := ⟨0x80200 + 32 * (i % 16), 0, 3⟩
def F.TP_CFG.POLARITY (i : Nat) : Field := ⟨0x80200 + 32 * (i % 16), 3, 1⟩
def F.TP_START_NS.NS (i : Nat) : Field := ⟨0x80204 + 32 * (i % 16), 0, 30⟩
def F.TP_START_SEC (i : Nat) : Wide := ⟨0x80208 + 32 * (i % 16), 64⟩
def F.TP_PERIOD.NS (i : Nat) : Field := ⟨0x80210 + 32 * (i % 16), 0, 32⟩
def F.TP_OFFSET.OFFSET (i : Nat) : Field := ⟨0x80214 + 32 * (i % 16), 0, 20⟩
def F.TP_WIDTH.NS (i : Nat) : Field := ⟨0x80218 + 32 * (i % 16), 0, 30⟩
def F.TP_CTRL.ARM (i : Nat) : Field := ⟨0x8021C + 32 * (i % 16), 0, 1⟩
def F.TP_CTRL.DISARM (i : Nat) : Field := ⟨0x8021C + 32 * (i % 16), 1, 1⟩
def F.TP_CTRL.ARMED (i : Nat) : Field := ⟨0x8021C + 32 * (i % 16), 8, 1⟩

/-! TIME, R294 of spec/11_time.md -/

def F.RX_LAT.LAT (i : Nat) : Field := ⟨0x80800 + 8 * (i % 64), 0, 16⟩
def F.TX_LAT.LAT (i : Nat) : Field := ⟨0x80804 + 8 * (i % 64), 0, 16⟩

/-! HIER, R318 of spec/12_managers_and_workers.md -/

def F.HIER_INFO.ROLE : Field := ⟨0xD0000, 0, 1⟩
def F.HIER_INFO.UNIT_ID : Field := ⟨0xD0000, 8, 5⟩
def F.HIER_INFO.TWIN_EN : Field := ⟨0xD0000, 13, 1⟩
def F.HIER_INFO.TWIN_LANE : Field := ⟨0xD0000, 16, 6⟩
def F.CLAIM.VAL : Field := ⟨0xD0004, 0, 16⟩
def F.TIER_CFG.WORKER_MARGIN_US : Field := ⟨0xD0008, 0, 7⟩
def F.TIER_CFG.TWIN_LEAD_US : Field := ⟨0xD0008, 8, 3⟩
def F.TIER_CFG.TIME_TOL_NS : Field := ⟨0xD0008, 16, 10⟩
def F.RESYNC_CFG.RESYNC_FRAMES : Field := ⟨0xD000C, 0, 9⟩
def F.RESYNC_CFG.LOG_KIB : Field := ⟨0xD000C, 16, 13⟩
def F.MATCH_CFG.MATCH_REQ : Field := ⟨0xD0010, 0, 8⟩
def F.TWIN_STATUS.STATE : Field := ⟨0xD0014, 0, 3⟩
def F.TWIN_STATUS.RANK : Field := ⟨0xD0014, 3, 1⟩
def F.TWIN_STATUS.WAIT_CAUSE : Field := ⟨0xD0014, 4, 2⟩
def F.TWIN_STATUS.FAIL_CAUSE : Field := ⟨0xD0014, 8, 4⟩
def F.TWIN_STATUS.PHASE : Field := ⟨0xD0014, 12, 3⟩
def F.TWIN_STATUS.MATCH_RUN : Field := ⟨0xD0014, 16, 16⟩
def F.TWIN_CMD.LEAD : Field := ⟨0xD0018, 0, 1⟩
def F.TWIN_CMD.RESYNC : Field := ⟨0xD0018, 1, 1⟩
def F.TWIN_CMD.WITHDRAW : Field := ⟨0xD0018, 2, 1⟩
def F.PEER_INFO.PEER_CLAIM : Field := ⟨0xD001C, 0, 16⟩
def F.PEER_INFO.PEER_UNIT : Field := ⟨0xD001C, 16, 5⟩
def F.PEER_INFO.PEER_STATE : Field := ⟨0xD001C, 24, 3⟩
def F.CKPT_FRAME : Wide := ⟨0xD0020, 64⟩
def F.PEER_DIGEST_FRAME : Wide := ⟨0xD0028, 64⟩
def F.PEER_DIGEST.DIGEST : Field := ⟨0xD0030, 0, 32⟩
def F.FOLLOW_CFG.MODE : Field := ⟨0xD0034, 0, 1⟩
def F.FOLLOW_CFG.MGR_LANE_A : Field := ⟨0xD0034, 8, 6⟩
def F.FOLLOW_CFG.MGR_LANE_B : Field := ⟨0xD0034, 16, 6⟩
def F.FOLLOW_CFG.B_VALID : Field := ⟨0xD0034, 22, 1⟩
def F.MODE_FRAME : Wide := ⟨0xD0038, 64⟩
def F.FOLLOW_STATUS.LAST_UNIT : Field := ⟨0xD0040, 0, 5⟩
def F.FOLLOW_STATUS.SURVIVOR : Field := ⟨0xD0040, 8, 1⟩
def F.HIER_FAULT_REAL.TIER_DOWN : Field := ⟨0xD0050, 0, 1⟩
def F.HIER_FAULT_REAL.SYSTAG_MISMATCH : Field := ⟨0xD0050, 1, 1⟩
def F.HIER_FAULT_REAL.UNIT_CONFLICT : Field := ⟨0xD0050, 2, 1⟩
def F.HIER_FAULT_REAL.CLAIM_EQUAL : Field := ⟨0xD0050, 3, 1⟩
def F.HIER_FAULT_REAL.CLAIM_SELFCHECK : Field := ⟨0xD0050, 4, 1⟩
def F.HIER_FAULT_REAL.TWIN_DIVERGE : Field := ⟨0xD0050, 5, 1⟩
def F.HIER_FAULT_REAL.PEER_SILENT : Field := ⟨0xD0050, 6, 1⟩
def F.HIER_FAULT_REAL.PEER_LOST : Field := ⟨0xD0050, 7, 1⟩
def F.HIER_FAULT_REAL.RESYNC_FAIL : Field := ⟨0xD0050, 8, 1⟩
def F.HIER_FAULT_REAL.SURVIVOR : Field := ⟨0xD0050, 9, 1⟩
def F.HIER_FAULT_REAL.FOLLOW_DISCARD : Field := ⟨0xD0050, 10, 1⟩
def F.HIER_FAULT_REAL.SWITCH_LATE : Field := ⟨0xD0050, 11, 1⟩
def F.HIER_FAULT_REAL.TIME_SKEW : Field := ⟨0xD0050, 12, 1⟩
def F.HIER_FAULT_REAL.LEAD_SHORT : Field := ⟨0xD0050, 13, 1⟩
def F.HIER_FAULT_REAL.RELAY_DROP : Field := ⟨0xD0050, 14, 1⟩
def F.HIER_FAULT_REAL.TWIN_REFUSED : Field := ⟨0xD0050, 15, 1⟩
def F.HIER_FAULT_INJ.INJ : Field := ⟨0xD0054, 0, 16⟩
def F.HIER_FAULT_EN.EN : Field := ⟨0xD0058, 0, 16⟩
def F.HIER_FAULT_SEV.SEV : Field := ⟨0xD005C, 0, 32⟩
def F.HIER_INJECT.INJECT : Field := ⟨0xD0060, 0, 16⟩
def F.DIVERGE_FRAMES : Wide := ⟨0xD0080, 48⟩
def F.SURVIVOR_CNT : Wide := ⟨0xD0088, 48⟩
def F.FOLLOW_DISCARD_CNT : Wide := ⟨0xD0090, 48⟩
def F.RELAYED_UP : Wide := ⟨0xD0098, 48⟩
def F.RELAYED_DOWN : Wide := ⟨0xD00A0, 48⟩
def F.RELAY_DROP_CNT : Wide := ⟨0xD00A8, 48⟩
def F.RESYNCS : Wide := ⟨0xD00B0, 48⟩
def F.RESYNC_FAILS : Wide := ⟨0xD00B8, 48⟩

/-! HIER, R319 of spec/12_managers_and_workers.md -/

def F.TIER_PEER.UNIT (i : Nat) : Field := ⟨0xD1000 + 32 * (i % 64), 0, 5⟩
def F.TIER_PEER.VALID (i : Nat) : Field := ⟨0xD1000 + 32 * (i % 64), 7, 1⟩
def F.TIER_PEER.TAG_OK (i : Nat) : Field := ⟨0xD1000 + 32 * (i % 64), 8, 1⟩
def F.TIME_OFFSET.NS (i : Nat) : Field := ⟨0xD1004 + 32 * (i % 64), 0, 32⟩
def F.RTT.RTT_NS (i : Nat) : Field := ⟨0xD1008 + 32 * (i % 64), 0, 24⟩
def F.RELAY (i : Nat) : Wide := ⟨0xD1010 + 32 * (i % 64), 64⟩

/-! START, R346 of spec/13_starting.md -/

def F.START_INFO.START_REV : Field := ⟨0x10000, 0, 8⟩
def F.START_STATUS.STATE : Field := ⟨0x10004, 0, 3⟩
def F.START_STATUS.STEP : Field := ⟨0x10004, 4, 4⟩
def F.START_STATUS.KIND : Field := ⟨0x10004, 8, 1⟩
def F.START_STATUS.RETAIN_OK : Field := ⟨0x10004, 9, 1⟩
def F.START_STATUS.WARM_FAILS : Field := ⟨0x10004, 10, 2⟩
def F.START_CMD.COLD : Field := ⟨0x10008, 0, 1⟩
def F.START_CMD.WARM : Field := ⟨0x10008, 1, 1⟩
def F.START_CMD.SERVE : Field := ⟨0x10008, 2, 1⟩
def F.START_CMD.ABORT : Field := ⟨0x10008, 3, 1⟩
def F.START_CFG.SERVICE_GATE : Field := ⟨0x1000C, 0, 1⟩
def F.START_CFG.ARM_MASK : Field := ⟨0x1000C, 16, 16⟩
def F.PARK_CAUSE.CAUSE : Field := ⟨0x10010, 0, 8⟩
def F.PARK_CAUSE.STEP : Field := ⟨0x10010, 8, 8⟩
def F.PARK_CAUSE.DETAIL : Field := ⟨0x10010, 16, 16⟩
def F.PARK_INDEX.INDEX : Field := ⟨0x10014, 0, 32⟩
def F.PARK_COUNT.COUNT : Field := ⟨0x10018, 0, 16⟩
def F.STRAPS.ROLE : Field := ⟨0x1001C, 0, 1⟩
def F.STRAPS.UNIT_ID : Field := ⟨0x1001C, 1, 5⟩
def F.STRAPS.BOOT_SRC : Field := ⟨0x1001C, 6, 1⟩
def F.START_FAULT_REAL.PARKED : Field := ⟨0x10030, 0, 1⟩
def F.START_FAULT_REAL.TRIP_UNRECORDED : Field := ⟨0x10030, 1, 1⟩
def F.START_FAULT_REAL.START_REFUSED : Field := ⟨0x10030, 2, 1⟩
def F.START_FAULT_REAL.PIN_IGNORED : Field := ⟨0x10030, 3, 1⟩
def F.START_FAULT_REAL.CHAR_LOOP_FAIL : Field := ⟨0x10030, 4, 1⟩
def F.START_FAULT_INJ.INJ : Field := ⟨0x10034, 0, 5⟩
def F.START_FAULT_EN.EN : Field := ⟨0x10038, 0, 5⟩
def F.START_FAULT_SEV.SEV : Field := ⟨0x1003C, 0, 10⟩
def F.START_INJECT.INJECT : Field := ⟨0x10040, 0, 5⟩
def F.COLD_STARTS : Wide := ⟨0x10050, 48⟩
def F.WARM_STARTS : Wide := ⟨0x10058, 48⟩
def F.PARKS : Wide := ⟨0x10060, 48⟩
def F.START_REFUSED_CNT : Wide := ⟨0x10068, 48⟩
def F.STEP_US.US (i : Nat) : Field := ⟨0x10080 + 4 * (i % 16), 0, 32⟩
def F.CHAR_STATUS.FAILED : Field := ⟨0x10100, 0, 13⟩
def F.CHAR_STATUS.FIRST_FAILED : Field := ⟨0x10100, 16, 13⟩
def F.CHAR_STATUS.FULL : Field := ⟨0x10100, 29, 1⟩
def F.CHAR_STATUS.RESULT : Field := ⟨0x10100, 30, 2⟩
def F.CHAR_RESIDUE.LOOPS : Field := ⟨0x10104, 0, 13⟩
def F.CHAR_ABORT.ABORT_IGNORED : Field := ⟨0x10108, 0, 1⟩
def F.CHAR_FAIL.FAIL (i : Nat) : Field := ⟨0x10200 + 4 * (i % 152), 0, 32⟩

/-! FORMULA, R347 of spec/13_starting.md -/

def F.FORMULA_INFO.VERSION : Field := ⟨0x20000, 0, 16⟩
def F.FORMULA_LEN.LENGTH : Field := ⟨0x20004, 0, 24⟩
def F.FORMULA_FLAGS.SIGNED : Field := ⟨0x20008, 0, 1⟩
def F.FORMULA_FLAGS.SIG_CHECKED : Field := ⟨0x20008, 1, 1⟩
def F.FORMULA_FLAGS.KEY_MATCH : Field := ⟨0x20008, 2, 1⟩
def F.FORMULA_FLAGS.SIGN_REQUIRED : Field := ⟨0x20008, 3, 1⟩
def F.IDENTITY.ORDER_CODE : Field := ⟨0x2000C, 0, 1⟩
def F.BUILD_ID : Wide := ⟨0x20010, 64⟩
def F.FX_CRC.CRC : Field := ⟨0x20018, 0, 32⟩
def F.FAIL_SEG.TYPE : Field := ⟨0x2001C, 0, 8⟩
def F.FAIL_SEG.ORDER : Field := ⟨0x2001C, 8, 4⟩
def F.FAIL_ADDR.ADDR : Field := ⟨0x20020, 0, 32⟩
def F.FAIL_OFFSET.OFFSET : Field := ⟨0x20024, 0, 24⟩
def F.DIGEST.WORD (i : Nat) : Field := ⟨0x20040 + 4 * (i % 12), 0, 32⟩
def F.FORMULA_FAULT_REAL.FORMULA_INTEGRITY : Field := ⟨0x20080, 0, 1⟩
def F.FORMULA_FAULT_REAL.XSPI_ERR : Field := ⟨0x20080, 1, 1⟩
def F.FORMULA_FAULT_INJ.INJ : Field := ⟨0x20084, 0, 2⟩
def F.FORMULA_FAULT_EN.EN : Field := ⟨0x20088, 0, 2⟩
def F.FORMULA_FAULT_SEV.SEV : Field := ⟨0x2008C, 0, 4⟩
def F.FORMULA_INJECT.INJECT : Field := ⟨0x20090, 0, 2⟩
def F.INTEGRITY_CHECKS : Wide := ⟨0x200A0, 48⟩
def F.XSPI_RETRIES : Wide := ⟨0x200A8, 48⟩

/-! CALIB, R369 of spec/14_calibration_and_ageing.md -/

def F.CAL_INFO.CAL_REV : Field := ⟨0xB0000, 0, 8⟩
def F.CAL_CFG.DELTA_T : Field := ⟨0xB0004, 0, 10⟩
def F.CAL_CFG.CAL_CONC : Field := ⟨0xB0004, 16, 5⟩
def F.CAL_PERIOD.MINUTES : Field := ⟨0xB0008, 0, 11⟩
def F.CAL_CMD.TILE : Field := ⟨0xB000C, 0, 7⟩
def F.CAL_CMD.GO : Field := ⟨0xB000C, 8, 1⟩
def F.CAL_CMD.FULL : Field := ⟨0xB000C, 9, 1⟩
def F.CAL_CMD.LOAD : Field := ⟨0xB000C, 10, 1⟩
def F.CAL_CMD.ABORT : Field := ⟨0xB000C, 11, 1⟩
def F.CAL_CMD.ALL : Field := ⟨0xB000C, 12, 1⟩
def F.CAL_STATUS.LAST_TILE : Field := ⟨0xB0010, 0, 7⟩
def F.CAL_STATUS.RESULT : Field := ⟨0xB0010, 8, 2⟩
def F.CAL_STATUS.ABORT_IGNORED : Field := ⟨0xB0010, 10, 1⟩
def F.CAL_STATUS.RESIDUE : Field := ⟨0xB0010, 12, 3⟩
def F.CAL_STATUS.RUNNING : Field := ⟨0xB0010, 16, 5⟩
def F.CAL_DUE.DUE (i : Nat) : Field := ⟨0xB0020 + 4 * (i % 3), 0, 32⟩
def F.CAL_AUTO.AUTO (i : Nat) : Field := ⟨0xB0030 + 4 * (i % 3), 0, 32⟩
def F.CAL_FAULT_REAL.CAL_FAIL : Field := ⟨0xB0050, 0, 1⟩
def F.CAL_FAULT_REAL.TRIM_RANGE : Field := ⟨0xB0050, 1, 1⟩
def F.CAL_FAULT_REAL.CAL_REFUSED : Field := ⟨0xB0050, 2, 1⟩
def F.CAL_FAULT_REAL.CAL_LATE : Field := ⟨0xB0050, 3, 1⟩
def F.CAL_FAULT_REAL.SATURATED : Field := ⟨0xB0050, 4, 1⟩
def F.CAL_FAULT_INJ.INJ : Field := ⟨0xB0054, 0, 5⟩
def F.CAL_FAULT_EN.EN : Field := ⟨0xB0058, 0, 5⟩
def F.CAL_FAULT_SEV.SEV : Field := ⟨0xB005C, 0, 10⟩
def F.CAL_INJECT.INJECT : Field := ⟨0xB0060, 0, 5⟩
def F.CALS : Wide := ⟨0xB0080, 48⟩
def F.CAL_FAILS : Wide := ⟨0xB0088, 48⟩
def F.CAL_REFUSED_CNT : Wide := ⟨0xB0090, 48⟩
def F.TRIM_RANGE_CNT : Wide := ⟨0xB0098, 48⟩
def F.SIL_CAL.GO : Field := ⟨0xB00C0, 0, 1⟩
def F.SIL_CAL.DONE : Field := ⟨0xB00C0, 1, 1⟩
def F.SIL_COEF.OFS0 : Field := ⟨0xB00C4, 0, 8⟩
def F.SIL_COEF.OFS1 : Field := ⟨0xB00C4, 8, 8⟩
def F.SIL_COEF.GAIN1 : Field := ⟨0xB00C4, 16, 8⟩
def F.SIL_COEF.SKEW : Field := ⟨0xB00C4, 24, 8⟩

/-! CALIB, R370 of spec/14_calibration_and_ageing.md -/

def F.CAL_TEMP.TEMP (i : Nat) : Field := ⟨0xB0800 + 32 * (i % 76), 0, 16⟩
def F.CAL_TEMP.TEMP_NOW (i : Nat) : Field := ⟨0xB0800 + 32 * (i % 76), 16, 16⟩
def F.CAL_TIME.SEC (i : Nat) : Field := ⟨0xB0804 + 32 * (i % 76), 0, 32⟩
def F.REF_TRIM.POCK_REF_GAIN (i : Nat) : Field := ⟨0xB0808 + 32 * (i % 76), 0, 8⟩
def F.REF_TRIM.HTR_REF_GAIN (i : Nat) : Field := ⟨0xB0808 + 32 * (i % 76), 8, 8⟩
def F.REF_TRIM.ADC_A_REF (i : Nat) : Field := ⟨0xB0808 + 32 * (i % 76), 16, 8⟩
def F.REF_TRIM.ADC_B_REF (i : Nat) : Field := ⟨0xB0808 + 32 * (i % 76), 24, 8⟩
def F.CONV_TRIM.ADC_A_OFS (i : Nat) : Field := ⟨0xB080C + 32 * (i % 76), 0, 8⟩
def F.CONV_TRIM.ADC_B_OFS (i : Nat) : Field := ⟨0xB080C + 32 * (i % 76), 8, 8⟩
def F.CONV_TRIM.TDAC_GAIN (i : Nat) : Field := ⟨0xB080C + 32 * (i % 76), 16, 8⟩
def F.CONV_TRIM.TDAC_OFS (i : Nat) : Field := ⟨0xB080C + 32 * (i % 76), 24, 8⟩
def F.TILE_CAL_STAT.KIND (i : Nat) : Field := ⟨0xB0810 + 32 * (i % 76), 0, 2⟩
def F.TILE_CAL_STAT.DUE (i : Nat) : Field := ⟨0xB0810 + 32 * (i % 76), 2, 1⟩
def F.TILE_CAL_STAT.BUSY (i : Nat) : Field := ⟨0xB0810 + 32 * (i % 76), 3, 1⟩
def F.TILE_CAL_STAT.CAUSE (i : Nat) : Field := ⟨0xB0810 + 32 * (i % 76), 4, 4⟩
def F.CAL_CRC.CRC (i : Nat) : Field := ⟨0xB0814 + 32 * (i % 76), 0, 32⟩
def F.STAGED.PENDING (i : Nat) : Field := ⟨0xB0818 + 32 * (i % 76), 0, 1⟩
def F.REF_AGE.REF_YEARS (i : Nat) : Field := ⟨0xB081C + 32 * (i % 76), 0, 16⟩

/-! AGEING, R372 of spec/14_calibration_and_ageing.md -/

def F.AGE_INFO.AGE_REV : Field := ⟨0xC0000, 0, 8⟩
def F.AGE_CFG.POLICY : Field := ⟨0xC0004, 0, 1⟩
def F.AGE_CFG.ACT_MASK : Field := ⟨0xC0004, 1, 4⟩
def F.AGE_CFG.PERIOD_H : Field := ⟨0xC0004, 8, 5⟩
def F.AGE_CFG.FIRST_MIN : Field := ⟨0xC0004, 16, 8⟩
def F.REBAL_CFG.REBAL_BAND : Field := ⟨0xC0008, 0, 16⟩
def F.REBAL_CFG.REBAL_STEP : Field := ⟨0xC0008, 16, 16⟩
def F.KCHROM.KC_P : Field := ⟨0xC000C, 0, 16⟩
def F.KCHROM.KC_H : Field := ⟨0xC000C, 16, 16⟩
def F.OBS_CFG.TCR_H : Field := ⟨0xC0010, 0, 16⟩
def F.OBS_CFG.WINDOW_MS : Field := ⟨0xC0010, 16, 14⟩
def F.RATE_DEF0.VPI_RATE : Field := ⟨0xC0014, 0, 16⟩
def F.RATE_DEF0.RH_RATE : Field := ⟨0xC0014, 16, 16⟩
def F.RATE_DEF1.Q_RATE : Field := ⟨0xC0018, 0, 16⟩
def F.RATE_DEF1.REF_RATE : Field := ⟨0xC0018, 16, 16⟩
def F.HEADROOM_WARN.YEARS : Field := ⟨0xC001C, 0, 16⟩
def F.REPLAN_CMD.NOW : Field := ⟨0xC0020, 0, 1⟩
def F.REPLAN_CMD.ABORT : Field := ⟨0xC0020, 1, 1⟩
def F.REPLAN_STATUS.RUNNING : Field := ⟨0xC0024, 0, 1⟩
def F.REPLAN_STATUS.COURSE : Field := ⟨0xC0024, 1, 5⟩
def F.REPLAN_STATUS.RESULT : Field := ⟨0xC0024, 8, 2⟩
def F.REPLAN_STATUS.ABORT_IGNORED : Field := ⟨0xC0024, 10, 1⟩
def F.REPLAN_STATUS.RESIDUE : Field := ⟨0xC0024, 16, 13⟩
def F.LAST_PASS_SEC : Wide := ⟨0xC0030, 64⟩
def F.HEADROOM_MIN.YEARS : Field := ⟨0xC0038, 0, 16⟩
def F.HEADROOM_MIN.LOOP : Field := ⟨0xC0038, 16, 13⟩
def F.HEADROOM_BELOW.COUNT : Field := ⟨0xC003C, 0, 13⟩
def F.AGEING_PROBE_EST.EST : Field := ⟨0xC0040, 0, 32⟩
def F.PROBE_MEAN.MEAN : Field := ⟨0xC0044, 0, 32⟩
def F.PROBE_FIRST.FIRST : Field := ⟨0xC0048, 0, 32⟩
def F.PROBE_DB.MARGIN : Field := ⟨0xC004C, 0, 16⟩
def F.REF_HEADROOM.YEARS : Field := ⟨0xC0050, 0, 16⟩
def F.REF_HEADROOM.TILE : Field := ⟨0xC0050, 16, 7⟩
def F.AGE_FAULT_REAL.HEADROOM_LOW : Field := ⟨0xC0060, 0, 1⟩
def F.AGE_FAULT_REAL.TIME_INVALID : Field := ⟨0xC0060, 1, 1⟩
def F.AGE_FAULT_REAL.REPLAN_REFUSED : Field := ⟨0xC0060, 2, 1⟩
def F.AGE_FAULT_REAL.ADVICE : Field := ⟨0xC0060, 3, 1⟩
def F.AGE_FAULT_REAL.SATURATED : Field := ⟨0xC0060, 4, 1⟩
def F.AGE_FAULT_INJ.INJ : Field := ⟨0xC0064, 0, 5⟩
def F.AGE_FAULT_EN.EN : Field := ⟨0xC0068, 0, 5⟩
def F.AGE_FAULT_SEV.SEV : Field := ⟨0xC006C, 0, 10⟩
def F.AGE_INJECT.INJECT : Field := ⟨0xC0070, 0, 5⟩
def F.PASSES : Wide := ⟨0xC0080, 48⟩
def F.LOOPS_APPLIED : Wide := ⟨0xC0088, 48⟩
def F.LOOPS_SKIPPED : Wide := ⟨0xC0090, 48⟩
def F.AGEING_REFUSED_CNT : Wide := ⟨0xC0098, 48⟩

/-! THERMAL, R393 of spec/15_power_and_heat.md -/

def F.THERM_INFO.SENSORS : Field := ⟨0x90000, 0, 7⟩
def F.THERM_INFO.THERM_REV : Field := ⟨0x90000, 8, 8⟩
def F.PLANE_WARN.LIMIT : Field := ⟨0x90008, 0, 16⟩
def F.PLANE_ALARM.LIMIT : Field := ⟨0x9000C, 0, 16⟩
def F.PLANE_TRIP.LIMIT : Field := ⟨0x90010, 0, 16⟩
def F.CTRL_WARN.LIMIT : Field := ⟨0x90014, 0, 16⟩
def F.CTRL_ALARM.LIMIT : Field := ⟨0x90018, 0, 16⟩
def F.CTRL_TRIP.LIMIT : Field := ⟨0x9001C, 0, 16⟩
def F.COLD_LIMIT.LIMIT : Field := ⟨0x90020, 0, 16⟩
def F.HYST.VAL : Field := ⟨0x90024, 0, 10⟩
def F.RISE_CFG.RISE : Field := ⟨0x90028, 0, 10⟩
def F.RISE_CFG.WINDOW_S : Field := ⟨0x90028, 16, 4⟩
def F.THERM_STATUS.THERMTRIP : Field := ⟨0x9002C, 0, 1⟩
def F.THERM_STATUS.MAIN_VALID : Field := ⟨0x9002C, 1, 1⟩
def F.HOTTEST_PLANE.TEMP : Field := ⟨0x90030, 0, 16⟩
def F.HOTTEST_PLANE.TILE : Field := ⟨0x90030, 16, 7⟩
def F.HOTTEST_CTRL.TEMP : Field := ⟨0x90034, 0, 16⟩
def F.HOTTEST_CTRL.SENSOR : Field := ⟨0x90034, 16, 2⟩
def F.THERM_FAULT_REAL.WARN : Field := ⟨0x90040, 0, 1⟩
def F.THERM_FAULT_REAL.ALARM : Field := ⟨0x90040, 1, 1⟩
def F.THERM_FAULT_REAL.TRIP : Field := ⟨0x90040, 2, 1⟩
def F.THERM_FAULT_REAL.RISE : Field := ⟨0x90040, 3, 1⟩
def F.THERM_FAULT_REAL.SUSPECT : Field := ⟨0x90040, 4, 1⟩
def F.THERM_FAULT_REAL.ISOLATED : Field := ⟨0x90040, 5, 1⟩
def F.THERM_FAULT_REAL.COLD : Field := ⟨0x90040, 6, 1⟩
def F.THERM_FAULT_REAL.TRIP_RING : Field := ⟨0x90040, 7, 1⟩
def F.THERM_FAULT_REAL.SATURATED : Field := ⟨0x90040, 8, 1⟩
def F.THERM_FAULT_INJ.INJ : Field := ⟨0x90044, 0, 9⟩
def F.THERM_FAULT_EN.EN : Field := ⟨0x90048, 0, 9⟩
def F.THERM_FAULT_SEV.SEV : Field := ⟨0x9004C, 0, 18⟩
def F.THERM_INJECT.INJECT : Field := ⟨0x90050, 0, 9⟩
def F.TRIPS : Wide := ⟨0x90080, 48⟩
def F.SUSPECT_CNT : Wide := ⟨0x90088, 48⟩
def F.SENSOR.TEMP (i : Nat) : Field := ⟨0x90100 + 4 * (i % 80), 0, 16⟩
def F.SENSOR.VALID (i : Nat) : Field := ⟨0x90100 + 4 * (i % 80), 16, 1⟩
def F.SENSOR.SUSPECT (i : Nat) : Field := ⟨0x90100 + 4 * (i % 80), 17, 1⟩
def F.SENSOR.ISOLATED (i : Nat) : Field := ⟨0x90100 + 4 * (i % 80), 18, 1⟩
def F.SENSOR.WARN (i : Nat) : Field := ⟨0x90100 + 4 * (i % 80), 19, 1⟩
def F.SENSOR.ALARM (i : Nat) : Field := ⟨0x90100 + 4 * (i % 80), 20, 1⟩
def F.SENSOR.TRIP (i : Nat) : Field := ⟨0x90100 + 4 * (i % 80), 21, 1⟩
def F.SENSOR.RISE (i : Nat) : Field := ⟨0x90100 + 4 * (i % 80), 22, 1⟩
def F.SENSOR.COLD (i : Nat) : Field := ⟨0x90100 + 4 * (i % 80), 23, 1⟩
def F.SENSOR_USED.USED (i : Nat) : Field := ⟨0x90300 + 4 * (i % 80), 0, 16⟩
def F.SENSOR_USED.MEDIAN (i : Nat) : Field := ⟨0x90300 + 4 * (i % 80), 16, 16⟩

/-! THERMAL, R394 of spec/15_power_and_heat.md -/

def F.THERMAL_RING_BASE.ADDR : Field := ⟨0x90400, 0, 32⟩
def F.THERMAL_RING_STATUS.NEXT : Field := ⟨0x90404, 0, 11⟩
def F.THERMAL_RING_STATUS.ERASING : Field := ⟨0x90404, 16, 1⟩
def F.RING_SEQ.SEQ : Field := ⟨0x90408, 0, 32⟩
def F.LOST_SEQ.SEQ : Field := ⟨0x9040C, 0, 32⟩
def F.TRIP_RD_CMD.SLOT : Field := ⟨0x90410, 0, 11⟩
def F.TRIP_RD_CMD.GO : Field := ⟨0x90410, 15, 1⟩
def F.TRIP_RD_STATUS.DONE : Field := ⟨0x90414, 0, 1⟩
def F.TRIP_RD_STATUS.VALID : Field := ⟨0x90414, 1, 1⟩
def F.RING_CMD.ERASE : Field := ⟨0x90418, 0, 1⟩
def F.TRIP_RD_DATA.WORD (i : Nat) : Field := ⟨0x90440 + 4 * (i % 16), 0, 32⟩

/-! POWER, R395 of spec/15_power_and_heat.md -/

def F.PWR_INFO.PWR_REV : Field := ⟨0xA0000, 0, 8⟩
def F.PWR_STATUS.EN : Field := ⟨0xA0004, 0, 1⟩
def F.PWR_STATUS.PGOOD : Field := ⟨0xA0004, 1, 1⟩
def F.PWR_STATUS.MAIN_ON : Field := ⟨0xA0004, 2, 1⟩
def F.PWR_STATUS.DRV_OK : Field := ⟨0xA0004, 4, 4⟩
def F.VIN.VAL : Field := ⟨0xA0008, 0, 16⟩
def F.IIN.VAL : Field := ⟨0xA000C, 0, 16⟩
def F.PIN.VAL : Field := ⟨0xA0010, 0, 16⟩
def F.PS_TEMP.TEMP : Field := ⟨0xA0014, 0, 16⟩
def F.VIN_LIMITS.VIN_LOW : Field := ⟨0xA0018, 0, 16⟩
def F.VIN_LIMITS.VIN_HIGH : Field := ⟨0xA0018, 16, 16⟩
def F.PS_HOT_LIMIT.LIMIT : Field := ⟨0xA001C, 0, 16⟩
def F.PIN_LIMIT.LIMIT : Field := ⟨0xA0020, 0, 16⟩
def F.POWER_FAULT_REAL.VIN_LOW : Field := ⟨0xA0030, 0, 1⟩
def F.POWER_FAULT_REAL.VIN_HIGH : Field := ⟨0xA0030, 1, 1⟩
def F.POWER_FAULT_REAL.RAIL_FAULT : Field := ⟨0xA0030, 2, 1⟩
def F.POWER_FAULT_REAL.PS_HOT : Field := ⟨0xA0030, 3, 1⟩
def F.POWER_FAULT_REAL.PIN_HIGH : Field := ⟨0xA0030, 4, 1⟩
def F.POWER_FAULT_REAL.PMBUS_CML : Field := ⟨0xA0030, 5, 1⟩
def F.POWER_FAULT_REAL.SATURATED : Field := ⟨0xA0030, 6, 1⟩
def F.POWER_FAULT_INJ.INJ : Field := ⟨0xA0034, 0, 7⟩
def F.POWER_FAULT_EN.EN : Field := ⟨0xA0038, 0, 7⟩
def F.POWER_FAULT_SEV.SEV : Field := ⟨0xA003C, 0, 14⟩
def F.POWER_INJECT.INJECT : Field := ⟨0xA0040, 0, 7⟩
def F.ENERGY : Wide := ⟨0xA0050, 48⟩
def F.EN_CYCLES : Wide := ⟨0xA0058, 48⟩
def F.RAIL_FAULTS : Wide := ⟨0xA0060, 48⟩

/-! IDENT, R416 of spec/16_host_and_sideband.md -/

def F.IDENT_ID.VENDOR : Field := ⟨0x0, 0, 16⟩
def F.IDENT_ID.PART : Field := ⟨0x0, 16, 16⟩
def F.IDENT_REV.CTRL_REV : Field := ⟨0x4, 0, 8⟩
def F.IDENT_REV.TILE_REV : Field := ⟨0x4, 8, 8⟩
def F.IDENT_REV.PLANE_REV : Field := ⟨0x4, 16, 8⟩
def F.IDENT_REV.FW_REV : Field := ⟨0x4, 24, 8⟩
def F.IDENT_ORDER.ORDER_CODE : Field := ⟨0x8, 0, 1⟩
def F.MODULE_SERIAL : Wide := ⟨0xC, 64⟩
def F.PLANE_SERIAL : Wide := ⟨0x14, 64⟩

/-! HOSTIF, R417 of spec/16_host_and_sideband.md -/

def F.HOSTIF_LINK_STATUS.SPEED : Field := ⟨0x30000, 0, 3⟩
def F.HOSTIF_LINK_STATUS.WIDTH : Field := ⟨0x30000, 4, 5⟩
def F.HOSTIF_LINK_STATUS.FLIT : Field := ⟨0x30000, 9, 1⟩
def F.HOSTIF_LINK_STATUS.DSTATE : Field := ⟨0x30000, 10, 2⟩
def F.HOSTIF_LINK_STATUS.L1 : Field := ⟨0x30000, 12, 1⟩
def F.OWNERS.OWNER (i : Nat) : Field := ⟨0x30010 + 4 * (i % 4), 0, 32⟩
def F.SECURE_CFG.HOST_SECURE : Field := ⟨0x30020, 0, 1⟩
def F.SECURE_CFG.SB_SECURE : Field := ⟨0x30020, 1, 1⟩
def F.VEC_ARMED.ARMED (i : Nat) : Field := ⟨0x30040 + 4 * (i % 8), 0, 32⟩
def F.VEC_REARM.REARM (i : Nat) : Field := ⟨0x30060 + 4 * (i % 8), 0, 32⟩
def F.SB_ALERT_MASK.MASK (i : Nat) : Field := ⟨0x30080 + 4 * (i % 8), 0, 32⟩
def F.HOSTIF_FAULT_REAL.NONOWNER_WRITE : Field := ⟨0x300A0, 0, 1⟩
def F.HOSTIF_FAULT_REAL.BAR0_PARTIAL : Field := ⟨0x300A0, 1, 1⟩
def F.HOSTIF_FAULT_REAL.LINK_DOWN : Field := ⟨0x300A0, 2, 1⟩
def F.HOSTIF_FAULT_REAL.FLR : Field := ⟨0x300A0, 3, 1⟩
def F.HOSTIF_FAULT_REAL.SEM_FORCED : Field := ⟨0x300A0, 4, 1⟩
def F.HOSTIF_FAULT_REAL.SECURE_REFUSED : Field := ⟨0x300A0, 5, 1⟩
def F.HOSTIF_FAULT_REAL.FUSE_REFUSED : Field := ⟨0x300A0, 6, 1⟩
def F.HOSTIF_FAULT_REAL.FUSE_FAIL : Field := ⟨0x300A0, 7, 1⟩
def F.HOSTIF_FAULT_REAL.FUSE_TAMPER : Field := ⟨0x300A0, 8, 1⟩
def F.HOSTIF_FAULT_REAL.SATURATED : Field := ⟨0x300A0, 9, 1⟩
def F.HOSTIF_FAULT_INJ.INJ : Field := ⟨0x300A4, 0, 10⟩
def F.HOSTIF_FAULT_EN.EN : Field := ⟨0x300A8, 0, 10⟩
def F.HOSTIF_FAULT_SEV.SEV : Field := ⟨0x300AC, 0, 20⟩
def F.HOSTIF_INJECT.INJECT : Field := ⟨0x300B0, 0, 10⟩
def F.HOSTIF_NONOWNER_CNT : Wide := ⟨0x300C0, 48⟩
def F.PARTIAL_CNT : Wide := ⟨0x300C8, 48⟩
def F.LINK_DOWN_CNT : Wide := ⟨0x300D0, 48⟩
def F.FLR_CNT : Wide := ⟨0x300D8, 48⟩
def F.SEM.HOLDER (i : Nat) : Field := ⟨0x30100 + 4 * (i % 34), 0, 2⟩
def F.SEM.TAKE (i : Nat) : Field := ⟨0x30100 + 4 * (i % 34), 8, 1⟩
def F.SEM.GIVE (i : Nat) : Field := ⟨0x30100 + 4 * (i % 34), 9, 1⟩
def F.SEM.FORCE (i : Nat) : Field := ⟨0x30100 + 4 * (i % 34), 10, 1⟩
def F.FUSE_CMD.TARGET : Field := ⟨0x30200, 0, 2⟩
def F.FUSE_CMD.ARM : Field := ⟨0x30200, 4, 1⟩
def F.FUSE_CMD.COMMIT : Field := ⟨0x30200, 5, 1⟩
def F.FUSE_STATUS.DEBUG_LOCK : Field := ⟨0x30204, 0, 1⟩
def F.FUSE_STATUS.SIGN_REQUIRED : Field := ⟨0x30204, 1, 1⟩
def F.FUSE_STATUS.KEY_FUSED : Field := ⟨0x30204, 2, 1⟩
def F.FUSE_STATUS.BUSY : Field := ⟨0x30204, 3, 1⟩
def F.FUSE_STATUS.ARMED : Field := ⟨0x30204, 4, 1⟩
def F.FUSE_CHALLENGE : Wide := ⟨0x30208, 64⟩
def F.FUSE_RESPONSE : Wide := ⟨0x30210, 64⟩
def F.KEY_STAGE.WORD (i : Nat) : Field := ⟨0x30240 + 4 * (i % 12), 0, 32⟩
def F.KEY_FUSED.WORD (i : Nat) : Field := ⟨0x30280 + 4 * (i % 12), 0, 32⟩

/-! SIDEBAND, R418 of spec/16_host_and_sideband.md -/

def F.SB_INFO.ADDR : Field := ⟨0x40000, 0, 7⟩
def F.SB_INFO.SB_REV : Field := ⟨0x40000, 8, 8⟩
def F.SB_CFG.PMBUS_PEC_REQ : Field := ⟨0x40004, 0, 1⟩
def F.WIN_STATE.ADDR : Field := ⟨0x40008, 0, 26⟩
def F.WIN_STATE.COUNT : Field := ⟨0x40008, 26, 4⟩
def F.WIN_RESULT.STATUS : Field := ⟨0x4000C, 0, 6⟩
def F.SB_FAULT_REAL.PEC_ERR : Field := ⟨0x40010, 0, 1⟩
def F.SB_FAULT_REAL.NONOWNER_WRITE : Field := ⟨0x40010, 1, 1⟩
def F.SB_FAULT_REAL.SECURE_REFUSED : Field := ⟨0x40010, 2, 1⟩
def F.SB_FAULT_REAL.WIN_MAIN_DOWN : Field := ⟨0x40010, 3, 1⟩
def F.SB_FAULT_REAL.WIN_FORMAT : Field := ⟨0x40010, 4, 1⟩
def F.SB_FAULT_REAL.SB_TIMEOUT : Field := ⟨0x40010, 5, 1⟩
def F.SB_FAULT_REAL.SATURATED : Field := ⟨0x40010, 6, 1⟩
def F.SB_FAULT_INJ.INJ : Field := ⟨0x40014, 0, 7⟩
def F.SB_FAULT_EN.EN : Field := ⟨0x40018, 0, 7⟩
def F.SB_FAULT_SEV.SEV : Field := ⟨0x4001C, 0, 14⟩
def F.SB_INJECT.INJECT : Field := ⟨0x40020, 0, 7⟩
def F.TRANSACTIONS : Wide := ⟨0x40030, 48⟩
def F.PEC_ERR_CNT : Wide := ⟨0x40038, 48⟩
def F.SIDEBAND_NONOWNER_CNT : Wide := ⟨0x40040, 48⟩
def F.TIMEOUT_CNT : Wide := ⟨0x40048, 48⟩

/-! FABRIC, R445 of spec/17_fabric_dma_mortar.md -/

def F.FABRIC_INFO.MASTERS : Field := ⟨0x50000, 0, 4⟩
def F.FABRIC_INFO.TARGETS : Field := ⟨0x50000, 4, 4⟩
def F.FABRIC_INFO.M7_PRESENT : Field := ⟨0x50000, 8, 1⟩
def F.FABRIC_CFG.REMAP : Field := ⟨0x50004, 0, 1⟩
def F.PARK_STATUS.PARKED : Field := ⟨0x50008, 0, 24⟩
def F.FABRIC_FAULT_REAL.DECODE_ERR : Field := ⟨0x50010, 0, 1⟩
def F.FABRIC_FAULT_REAL.REFUSED_WRITE : Field := ⟨0x50010, 1, 1⟩
def F.FABRIC_FAULT_REAL.ORPHAN_BURST : Field := ⟨0x50010, 2, 1⟩
def F.FABRIC_FAULT_REAL.SATURATED : Field := ⟨0x50010, 3, 1⟩
def F.FABRIC_FAULT_INJ.INJ : Field := ⟨0x50014, 0, 4⟩
def F.FABRIC_FAULT_EN.EN : Field := ⟨0x50018, 0, 4⟩
def F.FABRIC_FAULT_SEV.SEV : Field := ⟨0x5001C, 0, 8⟩
def F.FABRIC_INJECT.INJECT : Field := ⟨0x50020, 0, 4⟩
def F.LAST_DECODE.MASTER : Field := ⟨0x50024, 0, 3⟩
def F.LAST_DECODE.WRITE : Field := ⟨0x50024, 4, 1⟩
def F.DECODE_ADDR : Wide := ⟨0x50028, 64⟩
def F.ORPHAN_INFO.MASTER : Field := ⟨0x50030, 0, 3⟩
def F.ORPHAN_INFO.TARGET : Field := ⟨0x50030, 4, 3⟩
def F.ORPHAN_INFO.BEATS_LEFT : Field := ⟨0x50030, 8, 8⟩
def F.DECODE_CNT : Wide := ⟨0x50040, 48⟩
def F.REFUSED_WRITE_CNT : Wide := ⟨0x50048, 48⟩
def F.ORPHAN_CNT : Wide := ⟨0x50050, 48⟩
def F.GRANTS_M (i : Nat) : Wide := ⟨0x50100 + 8 * (i % 8), 48⟩

/-! DMA, R446 of spec/17_fabric_dma_mortar.md -/

def F.DMA_INFO.CHANNELS : Field := ⟨0x60000, 0, 5⟩
def F.DMA_INFO.DMA_REV : Field := ⟨0x60000, 8, 8⟩
def F.DMA_FAULT_REAL.CH_ERROR : Field := ⟨0x60010, 0, 1⟩
def F.DMA_FAULT_REAL.DESC_ERR : Field := ⟨0x60010, 1, 1⟩
def F.DMA_FAULT_REAL.START_REFUSED : Field := ⟨0x60010, 2, 1⟩
def F.DMA_FAULT_REAL.SATURATED : Field := ⟨0x60010, 3, 1⟩
def F.DMA_FAULT_INJ.INJ : Field := ⟨0x60014, 0, 4⟩
def F.DMA_FAULT_EN.EN : Field := ⟨0x60018, 0, 4⟩
def F.DMA_FAULT_SEV.SEV : Field := ⟨0x6001C, 0, 8⟩
def F.DMA_INJECT.INJECT : Field := ⟨0x60020, 0, 4⟩
def F.DESCRIPTORS : Wide := ⟨0x60030, 48⟩

/-! DMA, R447 of spec/17_fabric_dma_mortar.md -/

def F.CH_DESC (i : Nat) : Wide := ⟨0x60100 + 64 * (i % 16), 64⟩
def F.CH_CTRL.START (i : Nat) : Field := ⟨0x60108 + 64 * (i % 16), 0, 1⟩
def F.CH_CTRL.ABORT (i : Nat) : Field := ⟨0x60108 + 64 * (i % 16), 1, 1⟩
def F.CH_STATUS.STATE (i : Nat) : Field := ⟨0x6010C + 64 * (i % 16), 0, 2⟩
def F.CH_STATUS.RESULT (i : Nat) : Field := ⟨0x6010C + 64 * (i % 16), 4, 3⟩
def F.CH_STATUS.ABORT_IGNORED (i : Nat) : Field := ⟨0x6010C + 64 * (i % 16), 7, 1⟩
def F.CH_STATUS.STARTED_BY (i : Nat) : Field := ⟨0x6010C + 64 * (i % 16), 8, 3⟩
def F.CH_STATUS.DONE (i : Nat) : Field := ⟨0x6010C + 64 * (i % 16), 16, 1⟩
def F.CH_STATUS.ERR (i : Nat) : Field := ⟨0x6010C + 64 * (i % 16), 17, 1⟩
def F.CH_RESIDUE.BYTES (i : Nat) : Field := ⟨0x60110 + 64 * (i % 16), 0, 24⟩
def F.CH_CUR_DESC (i : Nat) : Wide := ⟨0x60114 + 64 * (i % 16), 64⟩
def F.CH_ERR_ADDR (i : Nat) : Wide := ⟨0x6011C + 64 * (i % 16), 64⟩
def F.CH_IRQ_EN.DONE_EN (i : Nat) : Field := ⟨0x60124 + 64 * (i % 16), 0, 1⟩
def F.CH_IRQ_EN.ERR_EN (i : Nat) : Field := ⟨0x60124 + 64 * (i % 16), 1, 1⟩
def F.CH_BYTES (i : Nat) : Wide := ⟨0x60128 + 64 * (i % 16), 48⟩

/-! MORTAR, R448 of spec/17_fabric_dma_mortar.md -/

def F.MORTAR_INFO.CHANNELS : Field := ⟨0x70000, 0, 9⟩
def F.MORTAR_INFO.ASYNC_FIRST : Field := ⟨0x70000, 16, 8⟩
def F.MORTAR_STATUS.CFG_BUSY : Field := ⟨0x70004, 0, 1⟩
def F.MORTAR_STATUS.SUSPENDED : Field := ⟨0x70004, 1, 1⟩
def F.MORTAR_FAULT_REAL.CFG_REFUSED : Field := ⟨0x70010, 0, 1⟩
def F.MORTAR_FAULT_REAL.OVERRUN : Field := ⟨0x70010, 1, 1⟩
def F.MORTAR_FAULT_REAL.WARM_LOST : Field := ⟨0x70010, 2, 1⟩
def F.MORTAR_FAULT_REAL.SATURATED : Field := ⟨0x70010, 3, 1⟩
def F.MORTAR_FAULT_INJ.INJ : Field := ⟨0x70014, 0, 4⟩
def F.MORTAR_FAULT_EN.EN : Field := ⟨0x70018, 0, 4⟩
def F.MORTAR_FAULT_SEV.SEV : Field := ⟨0x7001C, 0, 8⟩
def F.MORTAR_INJECT.INJECT : Field := ⟨0x70020, 0, 4⟩
def F.CFG_REFUSED_CNT : Wide := ⟨0x70030, 48⟩
def F.WARM_LOST_CNT : Wide := ⟨0x70038, 48⟩
def F.HOST_IRQ_STATUS.IRQ : Field := ⟨0x70040, 0, 16⟩
def F.HOST_IRQ_EN.EN : Field := ⟨0x70044, 0, 16⟩
def F.MCH_CFG.SRC (i : Nat) : Field := ⟨0x71000 + 4 * (i % 256), 0, 12⟩
def F.MCH_CFG.DST (i : Nat) : Field := ⟨0x71000 + 4 * (i % 256), 12, 9⟩
def F.MCH_CFG.EN (i : Nat) : Field := ⟨0x71000 + 4 * (i % 256), 24, 1⟩
def F.MCH_CFG.INJ_PASS (i : Nat) : Field := ⟨0x71000 + 4 * (i % 256), 25, 1⟩
def F.MCH_CFG.SECURE (i : Nat) : Field := ⟨0x71000 + 4 * (i % 256), 28, 1⟩

/-! MORTAR, R449 of spec/17_fabric_dma_mortar.md -/

def F.TI_STAT.OVERRUN (i : Nat) : Field := ⟨0x72000 + 32 * (i % 160), 0, 1⟩
def F.TI_STAT.BUSY (i : Nat) : Field := ⟨0x72000 + 32 * (i % 160), 1, 1⟩
def F.TI_CFG.REARM (i : Nat) : Field := ⟨0x72004 + 32 * (i % 160), 0, 16⟩
def F.MERGE_CNT (i : Nat) : Wide := ⟨0x72008 + 32 * (i % 160), 48⟩
def F.BUSY_CNT (i : Nat) : Wide := ⟨0x72010 + 32 * (i % 160), 48⟩
def F.ACT_CNT (i : Nat) : Wide := ⟨0x72018 + 32 * (i % 160), 48⟩

/-! TIME, R292 of spec/11_time.md -/

def F.PTX_RING_BASE.BASE : Field := ⟨0x80100, 11, 12⟩
def F.PTX_RING_SIZE.SIZE : Field := ⟨0x80104, 0, 13⟩
def F.PTX_RING_WR.INDEX : Field := ⟨0x80108, 0, 12⟩
def F.PTX_RING_WR.WRAP : Field := ⟨0x80108, 16, 1⟩
def F.PTX_RING_RD.INDEX : Field := ⟨0x8010C, 0, 12⟩
def F.PTX_RING_RD.WRAP : Field := ⟨0x8010C, 16, 1⟩
def F.PTX_RING_WMARK.WMARK : Field := ⟨0x80110, 0, 13⟩
def F.PTX_RING_CFG.ENABLE : Field := ⟨0x80114, 0, 1⟩
def F.PTX_RING_STATUS.FILL : Field := ⟨0x80118, 0, 13⟩
def F.PTX_RING_STATUS.WMARK_HIT : Field := ⟨0x80118, 16, 1⟩
def F.PTX_RING_STATUS.OVERRUN : Field := ⟨0x80118, 17, 1⟩

/-! The words of R137, R371 and R403 that no register table lists. -/

def F.MSIX_ENTRY.WORD (v w : Nat) : Field := ⟨0x38000 + 16 * (v % 256) + 4 * (w % 4), 0, 32⟩
def F.MSIX_ENTRY.MASK (v : Nat) : Field := ⟨0x3800C + 16 * (v % 256), 0, 1⟩
def F.PBA.PENDING (w : Nat) : Field := ⟨0x39000 + 4 * (w % 8), 0, 32⟩
def F.COEF.WORD (t w : Nat) : Field := ⟨0xB2000 + 512 * (t % 76) + 4 * (w % 128), 0, 32⟩
def F.REP.ENTRY (l x n : Nat) : Field := ⟨0x880000 + 256 * (l % 4864) + 128 * (x % 2) + 4 * (n % 64 / 2), 16 * (n % 2), 16⟩

end Sys2Proof.Machine
end

