-- ==== Sys2Proof/Machine/Sources.lean ====
section
/-! DEFINITION. The catalogue of fault sources (R459): each block's five fault words (R456), its MSI-X vector (R403) and its
Mortar producer codes (R437), and each source by name. -/

namespace Sys2Proof.Machine

/-- One block's fault registers. `real` is the address of its FAULT_REAL word; INJ, EN, SEV and INJECT follow it (R456).
`sources` is how many bits are in use, `vector` its MSI-X vector, `code` the producer code of source 0 (R437),
`alwaysOn` whether the block is in the always-on domain (R465), `sealBit` the source fixed at SEAL, if any (R455). -/
structure FaultBlock where
  real : Nat
  sources : Nat
  vector : Nat
  code : Nat
  alwaysOn : Bool
  sealBit : Option Nat
  deriving DecidableEq, Repr

/-- One fault source: bit `bit` of its block's fault words. -/
structure Source where
  block : FaultBlock
  bit : Nat
  deriving DecidableEq, Repr

def FB.HOSTIF : FaultBlock := ⟨0x300A0, 10, 0, 384, false, some 8⟩
def FB.START : FaultBlock := ⟨0x10030, 5, 1, 256, false, none⟩
def FB.FORMULA : FaultBlock := ⟨0x20080, 2, 2, 320, false, some 0⟩
def FB.SIDEBAND : FaultBlock := ⟨0x40010, 7, 3, 192, true, none⟩
def FB.FABRIC : FaultBlock := ⟨0x50010, 4, 4, 448, false, none⟩
def FB.DMA : FaultBlock := ⟨0x60010, 4, 5, 512, false, none⟩
def FB.MORTAR : FaultBlock := ⟨0x70010, 4, 22, 640, false, none⟩
def FB.TIME : FaultBlock := ⟨0x80090, 8, 39, 704, false, none⟩
def FB.THERMAL : FaultBlock := ⟨0x90040, 9, 40, 64, true, none⟩
def FB.POWER : FaultBlock := ⟨0xA0030, 7, 41, 128, true, none⟩
def FB.CALIB : FaultBlock := ⟨0xB0050, 5, 42, 832, false, none⟩
def FB.AGEING : FaultBlock := ⟨0xC0060, 5, 43, 896, false, none⟩
def FB.HIER : FaultBlock := ⟨0xD0050, 16, 44, 960, false, some 4⟩
def FB.PARSER : FaultBlock := ⟨0xE0030, 9, 45, 1024, false, none⟩
def FB.KOWIN : FaultBlock := ⟨0xF0030, 9, 46, 1152, false, none⟩
def FB.AGENTS : FaultBlock := ⟨0x140030, 4, 47, 1216, false, none⟩
def FB.COMPOSER : FaultBlock := ⟨0x180030, 7, 48, 1280, false, none⟩
def FB.ACCORD : FaultBlock := ⟨0x260050, 8, 49, 1344, false, none⟩
def FB.SILLAGE : FaultBlock := ⟨0x1000034, 5, 50, 1408, false, none⟩

/-- LOOP faults of course `c` (R162). -/
def FB.COURSE (c : Nat) : FaultBlock := ⟨0x300030 + 65536 * (c % 19), 10, 51 + c % 19, (24 + c % 19) * 64, false, none⟩
/-- Drive faults of tile `t` (R80). -/
def FB.DRIVE (t : Nat) : FaultBlock := ⟨0x500030 + 16384 * (t % 76), 8, 70 + t % 76, (43 + t % 76 / 4) * 64 + 8 * (t % 4), false, none⟩
/-- Sense faults of tile `t` (R112). -/
def FB.SENSE (t : Nat) : FaultBlock :=
  ⟨0x502020 + 16384 * (t % 76), 6, 146 + t % 76, (43 + t % 76 / 4) * 64 + 32 + 8 * (t % 4), false, none⟩

def Src.HOSTIF.NONOWNER_WRITE : Source := ⟨FB.HOSTIF, 0⟩
def Src.HOSTIF.BAR0_PARTIAL : Source := ⟨FB.HOSTIF, 1⟩
def Src.HOSTIF.LINK_DOWN : Source := ⟨FB.HOSTIF, 2⟩
def Src.HOSTIF.FLR : Source := ⟨FB.HOSTIF, 3⟩
def Src.HOSTIF.SEM_FORCED : Source := ⟨FB.HOSTIF, 4⟩
def Src.HOSTIF.SECURE_REFUSED : Source := ⟨FB.HOSTIF, 5⟩
def Src.HOSTIF.FUSE_REFUSED : Source := ⟨FB.HOSTIF, 6⟩
def Src.HOSTIF.FUSE_FAIL : Source := ⟨FB.HOSTIF, 7⟩
def Src.HOSTIF.FUSE_TAMPER : Source := ⟨FB.HOSTIF, 8⟩
def Src.HOSTIF.SATURATED : Source := ⟨FB.HOSTIF, 9⟩
def Src.START.PARKED : Source := ⟨FB.START, 0⟩
def Src.START.TRIP_UNRECORDED : Source := ⟨FB.START, 1⟩
def Src.START.START_REFUSED : Source := ⟨FB.START, 2⟩
def Src.START.PIN_IGNORED : Source := ⟨FB.START, 3⟩
def Src.START.CHAR_LOOP_FAIL : Source := ⟨FB.START, 4⟩
def Src.FORMULA.FORMULA_INTEGRITY : Source := ⟨FB.FORMULA, 0⟩
def Src.FORMULA.XSPI_ERR : Source := ⟨FB.FORMULA, 1⟩
def Src.SIDEBAND.PEC_ERR : Source := ⟨FB.SIDEBAND, 0⟩
def Src.SIDEBAND.NONOWNER_WRITE : Source := ⟨FB.SIDEBAND, 1⟩
def Src.SIDEBAND.SECURE_REFUSED : Source := ⟨FB.SIDEBAND, 2⟩
def Src.SIDEBAND.WIN_MAIN_DOWN : Source := ⟨FB.SIDEBAND, 3⟩
def Src.SIDEBAND.WIN_FORMAT : Source := ⟨FB.SIDEBAND, 4⟩
def Src.SIDEBAND.SB_TIMEOUT : Source := ⟨FB.SIDEBAND, 5⟩
def Src.SIDEBAND.SATURATED : Source := ⟨FB.SIDEBAND, 6⟩
def Src.FABRIC.DECODE_ERR : Source := ⟨FB.FABRIC, 0⟩
def Src.FABRIC.REFUSED_WRITE : Source := ⟨FB.FABRIC, 1⟩
def Src.FABRIC.ORPHAN_BURST : Source := ⟨FB.FABRIC, 2⟩
def Src.FABRIC.SATURATED : Source := ⟨FB.FABRIC, 3⟩
def Src.DMA.CH_ERROR : Source := ⟨FB.DMA, 0⟩
def Src.DMA.DESC_ERR : Source := ⟨FB.DMA, 1⟩
def Src.DMA.START_REFUSED : Source := ⟨FB.DMA, 2⟩
def Src.DMA.SATURATED : Source := ⟨FB.DMA, 3⟩
def Src.MORTAR.CFG_REFUSED : Source := ⟨FB.MORTAR, 0⟩
def Src.MORTAR.OVERRUN : Source := ⟨FB.MORTAR, 1⟩
def Src.MORTAR.WARM_LOST : Source := ⟨FB.MORTAR, 2⟩
def Src.MORTAR.SATURATED : Source := ⟨FB.MORTAR, 3⟩
def Src.TIME.TIME_REFUSED : Source := ⟨FB.TIME, 0⟩
def Src.TIME.TIME_STEP : Source := ⟨FB.TIME, 1⟩
def Src.TIME.REFCLK_LOST : Source := ⟨FB.TIME, 2⟩
def Src.TIME.PPS_MISS : Source := ⟨FB.TIME, 3⟩
def Src.TIME.TS_OVERRUN : Source := ⟨FB.TIME, 4⟩
def Src.TIME.TX_DROP : Source := ⟨FB.TIME, 5⟩
def Src.TIME.TPULSE_REFUSED : Source := ⟨FB.TIME, 6⟩
def Src.TIME.STEP_DISARM : Source := ⟨FB.TIME, 7⟩
def Src.THERMAL.WARN : Source := ⟨FB.THERMAL, 0⟩
def Src.THERMAL.ALARM : Source := ⟨FB.THERMAL, 1⟩
def Src.THERMAL.TRIP : Source := ⟨FB.THERMAL, 2⟩
def Src.THERMAL.RISE : Source := ⟨FB.THERMAL, 3⟩
def Src.THERMAL.SUSPECT : Source := ⟨FB.THERMAL, 4⟩
def Src.THERMAL.ISOLATED : Source := ⟨FB.THERMAL, 5⟩
def Src.THERMAL.COLD : Source := ⟨FB.THERMAL, 6⟩
def Src.THERMAL.TRIP_RING : Source := ⟨FB.THERMAL, 7⟩
def Src.THERMAL.SATURATED : Source := ⟨FB.THERMAL, 8⟩
def Src.POWER.VIN_LOW : Source := ⟨FB.POWER, 0⟩
def Src.POWER.VIN_HIGH : Source := ⟨FB.POWER, 1⟩
def Src.POWER.RAIL_FAULT : Source := ⟨FB.POWER, 2⟩
def Src.POWER.PS_HOT : Source := ⟨FB.POWER, 3⟩
def Src.POWER.PIN_HIGH : Source := ⟨FB.POWER, 4⟩
def Src.POWER.PMBUS_CML : Source := ⟨FB.POWER, 5⟩
def Src.POWER.SATURATED : Source := ⟨FB.POWER, 6⟩
def Src.CALIB.CAL_FAIL : Source := ⟨FB.CALIB, 0⟩
def Src.CALIB.TRIM_RANGE : Source := ⟨FB.CALIB, 1⟩
def Src.CALIB.CAL_REFUSED : Source := ⟨FB.CALIB, 2⟩
def Src.CALIB.CAL_LATE : Source := ⟨FB.CALIB, 3⟩
def Src.CALIB.SATURATED : Source := ⟨FB.CALIB, 4⟩
def Src.AGEING.HEADROOM_LOW : Source := ⟨FB.AGEING, 0⟩
def Src.AGEING.TIME_INVALID : Source := ⟨FB.AGEING, 1⟩
def Src.AGEING.REPLAN_REFUSED : Source := ⟨FB.AGEING, 2⟩
def Src.AGEING.ADVICE : Source := ⟨FB.AGEING, 3⟩
def Src.AGEING.SATURATED : Source := ⟨FB.AGEING, 4⟩
def Src.HIER.TIER_DOWN : Source := ⟨FB.HIER, 0⟩
def Src.HIER.SYSTAG_MISMATCH : Source := ⟨FB.HIER, 1⟩
def Src.HIER.UNIT_CONFLICT : Source := ⟨FB.HIER, 2⟩
def Src.HIER.CLAIM_EQUAL : Source := ⟨FB.HIER, 3⟩
def Src.HIER.CLAIM_SELFCHECK : Source := ⟨FB.HIER, 4⟩
def Src.HIER.TWIN_DIVERGE : Source := ⟨FB.HIER, 5⟩
def Src.HIER.PEER_SILENT : Source := ⟨FB.HIER, 6⟩
def Src.HIER.PEER_LOST : Source := ⟨FB.HIER, 7⟩
def Src.HIER.RESYNC_FAIL : Source := ⟨FB.HIER, 8⟩
def Src.HIER.SURVIVOR : Source := ⟨FB.HIER, 9⟩
def Src.HIER.FOLLOW_DISCARD : Source := ⟨FB.HIER, 10⟩
def Src.HIER.SWITCH_LATE : Source := ⟨FB.HIER, 11⟩
def Src.HIER.TIME_SKEW : Source := ⟨FB.HIER, 12⟩
def Src.HIER.LEAD_SHORT : Source := ⟨FB.HIER, 13⟩
def Src.HIER.RELAY_DROP : Source := ⟨FB.HIER, 14⟩
def Src.HIER.TWIN_REFUSED : Source := ⟨FB.HIER, 15⟩
def Src.PARSER.MALFORMED : Source := ⟨FB.PARSER, 0⟩
def Src.PARSER.NO_MATCH : Source := ⟨FB.PARSER, 1⟩
def Src.PARSER.SLOW_PATH : Source := ⟨FB.PARSER, 2⟩
def Src.PARSER.SLOW_DROP : Source := ⟨FB.PARSER, 3⟩
def Src.PARSER.PTP_DROP : Source := ⟨FB.PARSER, 4⟩
def Src.PARSER.RECIRC_FULL : Source := ⟨FB.PARSER, 5⟩
def Src.PARSER.WRITE_REFUSED : Source := ⟨FB.PARSER, 6⟩
def Src.PARSER.BANK_CRC : Source := ⟨FB.PARSER, 7⟩
def Src.PARSER.SATURATED : Source := ⟨FB.PARSER, 8⟩
def Src.KOWIN.LANE_DOWN : Source := ⟨FB.KOWIN, 0⟩
def Src.KOWIN.VERSION_MISMATCH : Source := ⟨FB.KOWIN, 1⟩
def Src.KOWIN.CREDIT_VIOLATION : Source := ⟨FB.KOWIN, 2⟩
def Src.KOWIN.SEQ_GAP : Source := ⟨FB.KOWIN, 3⟩
def Src.KOWIN.DUPLICATE : Source := ⟨FB.KOWIN, 4⟩
def Src.KOWIN.UNKNOWN_TYPE : Source := ⟨FB.KOWIN, 5⟩
def Src.KOWIN.GRANT_DROPPED : Source := ⟨FB.KOWIN, 6⟩
def Src.KOWIN.DIVERGENCE : Source := ⟨FB.KOWIN, 7⟩
def Src.KOWIN.ECHO_TIMEOUT : Source := ⟨FB.KOWIN, 8⟩
def Src.AGENTS.NAK_SENT : Source := ⟨FB.AGENTS, 0⟩
def Src.AGENTS.POOL_EMPTY : Source := ⟨FB.AGENTS, 1⟩
def Src.AGENTS.CTX_CRC : Source := ⟨FB.AGENTS, 2⟩
def Src.AGENTS.CTX_DROPPED : Source := ⟨FB.AGENTS, 3⟩
def Src.COMPOSER.DEMAND_LATE : Source := ⟨FB.COMPOSER, 0⟩
def Src.COMPOSER.DEMAND_REFUSED : Source := ⟨FB.COMPOSER, 1⟩
def Src.COMPOSER.DEMAND_INVALID : Source := ⟨FB.COMPOSER, 2⟩
def Src.COMPOSER.DEMAND_OVERFLOW : Source := ⟨FB.COMPOSER, 3⟩
def Src.COMPOSER.COMPOSE_ABORTED : Source := ⟨FB.COMPOSER, 4⟩
def Src.COMPOSER.PARAM_REFUSED : Source := ⟨FB.COMPOSER, 5⟩
def Src.COMPOSER.SATURATED : Source := ⟨FB.COMPOSER, 6⟩
def Src.ACCORD.FRAME_DISCARDED : Source := ⟨FB.ACCORD, 0⟩
def Src.ACCORD.PAIRS_REMOVED : Source := ⟨FB.ACCORD, 1⟩
def Src.ACCORD.ALT_STALE : Source := ⟨FB.ACCORD, 2⟩
def Src.ACCORD.ALT_REFUSED : Source := ⟨FB.ACCORD, 3⟩
def Src.ACCORD.STANDING_SWITCHED : Source := ⟨FB.ACCORD, 4⟩
def Src.ACCORD.RECORD_CRC : Source := ⟨FB.ACCORD, 5⟩
def Src.ACCORD.WRITE_REFUSED : Source := ⟨FB.ACCORD, 6⟩
def Src.ACCORD.CUT_DEFERRED : Source := ⟨FB.ACCORD, 7⟩
def Src.SILLAGE.OVERRUN : Source := ⟨FB.SILLAGE, 0⟩
def Src.SILLAGE.TRIG_MISSED : Source := ⟨FB.SILLAGE, 1⟩
def Src.SILLAGE.RING_CFG : Source := ⟨FB.SILLAGE, 2⟩
def Src.SILLAGE.ADC_CLIP : Source := ⟨FB.SILLAGE, 3⟩
def Src.SILLAGE.WRITE_ERR : Source := ⟨FB.SILLAGE, 4⟩
def Src.COURSE.LATE (i : Nat) : Source := ⟨FB.COURSE i, 0⟩
def Src.COURSE.NO_PROBE (i : Nat) : Source := ⟨FB.COURSE i, 1⟩
def Src.COURSE.PLAUSIBILITY (i : Nat) : Source := ⟨FB.COURSE i, 2⟩
def Src.COURSE.LIMIT (i : Nat) : Source := ⟨FB.COURSE i, 3⟩
def Src.COURSE.HEART_LIMIT (i : Nat) : Source := ⟨FB.COURSE i, 4⟩
def Src.COURSE.PRESET_CLAMP (i : Nat) : Source := ⟨FB.COURSE i, 5⟩
def Src.COURSE.NO_LIGHT (i : Nat) : Source := ⟨FB.COURSE i, 6⟩
def Src.COURSE.PARAM_REFUSED (i : Nat) : Source := ⟨FB.COURSE i, 7⟩
def Src.COURSE.TRANSFER_REFUSED (i : Nat) : Source := ⟨FB.COURSE i, 8⟩
def Src.COURSE.DITHER_LOCKED (i : Nat) : Source := ⟨FB.COURSE i, 9⟩
def Src.DRIVE.MISSED_STROBE (i : Nat) : Source := ⟨FB.DRIVE i, 0⟩
def Src.DRIVE.RANGE_REFUSED (i : Nat) : Source := ⟨FB.DRIVE i, 1⟩
def Src.DRIVE.READBACK (i : Nat) : Source := ⟨FB.DRIVE i, 2⟩
def Src.DRIVE.HTR_OPEN (i : Nat) : Source := ⟨FB.DRIVE i, 3⟩
def Src.DRIVE.HTR_COMPLIANCE (i : Nat) : Source := ⟨FB.DRIVE i, 4⟩
def Src.DRIVE.SHUT_CURRENT (i : Nat) : Source := ⟨FB.DRIVE i, 5⟩
def Src.DRIVE.DRV_RAIL (i : Nat) : Source := ⟨FB.DRIVE i, 6⟩
def Src.DRIVE.WRITE_REFUSED (i : Nat) : Source := ⟨FB.DRIVE i, 7⟩
def Src.SENSE.CLIP (i : Nat) : Source := ⟨FB.SENSE i, 0⟩
def Src.SENSE.LINK_CRC (i : Nat) : Source := ⟨FB.SENSE i, 1⟩
def Src.SENSE.LINK_DOWN (i : Nat) : Source := ⟨FB.SENSE i, 2⟩
def Src.SENSE.DIAG_FAIL (i : Nat) : Source := ⟨FB.SENSE i, 3⟩
def Src.SENSE.FAST_CONFLICT (i : Nat) : Source := ⟨FB.SENSE i, 4⟩
def Src.SENSE.SENSE_REFUSED (i : Nat) : Source := ⟨FB.SENSE i, 5⟩

/-- The blocks of R459 that are not courses or tiles. -/
def FB.single : List FaultBlock := [FB.HOSTIF, FB.START, FB.FORMULA, FB.SIDEBAND, FB.FABRIC, FB.DMA, FB.MORTAR, FB.TIME, FB.THERMAL, FB.POWER, FB.CALIB, FB.AGEING, FB.HIER, FB.PARSER, FB.KOWIN, FB.AGENTS, FB.COMPOSER, FB.ACCORD, FB.SILLAGE]

/-- Every block of R459. -/
def FB.all : List FaultBlock :=
  FB.single ++ (List.range 19).map FB.COURSE ++ (List.range 76).map FB.DRIVE ++ (List.range 76).map FB.SENSE

end Sys2Proof.Machine
end

