-- ==== Sys2Proof/Machine/State.lean ====
section
/-! DEFINITION. The machine's state: everything the spec gives the block, as plain data, and the queue of waiting commands.
A register's home is `regs` (by BAR0 address, one canonical sparse list); what no register shows has a field of its own. -/

namespace Sys2Proof.Machine

/-- The device never stops: no rule of the spec ends a run, so there is no fault. -/
inductive Fault where
  deriving DecidableEq, Repr

/-- Why a command has no meaning in the model. Only an arm of `exec` answers with it; safe: nothing is claimed. -/
inductive Refusal where
  /-- The named command is not modelled yet; raised by `exec`'s arm; safe. -/
  | notModelled (mnemonic : String)
  deriving DecidableEq, Repr

/-- What crosses the module's boundary outwards, in the order it crosses. -/
inductive Output where
  /-- Read data returned to a master. -/
  | readData (m : Master) (words : List Word)
  /-- Bytes returned to a master by a burst or a BAR2 read. -/
  | memData (m : Master) (bytes : List Byte)
  /-- Bytes written to host memory at an address. -/
  | hostWrite (addr : Nat) (bytes : List Byte)
  /-- An error response to a master's burst (R425). -/
  | busError (m : Master)
  /-- An MSI-X message of vector `v` (R404). -/
  | msix (v : Nat)
  /-- An Unsupported Request completion (R401). -/
  | unsupported
  /-- An AER report, by its PCIe name (R401). -/
  | aer (error : String)
  /-- Bytes a PMBus or window read returns over SMBus, before the PEC the device appends (R379, R410, R411). -/
  | smbus (bytes : List Byte)
  /-- A frame sent on a lane, with its FCS. -/
  | frame (lane : Nat) (bytes : List Byte)
  /-- An edge of a TPULSE output (R289, R293): the level the pin takes. -/
  | tpulse (n : Nat) (high : Bool)
  /-- An edge of PPS_OUT (R288). -/
  | pps (high : Bool)
  /-- An edge of EVT_OUT_k (R439). -/
  | evtOut (k : Nat) (high : Bool)
  /-- Light of the whole plane changes at a strobe: strobes are marked by kind (0 plane, 1 + g group g). -/
  | strobe (kind : Nat)
  deriving DecidableEq, Repr

/-- The power side, in the always-on domain (R22, R373–R376). -/
structure Power where
  /-- VIN is in its range: the always-on domain runs. -/
  vin : Bool
  /-- The EN pin. -/
  en : Bool
  /-- Main rails are powered. -/
  rails : Bool
  /-- Drive rail of tile die d is within its window: bit d. -/
  drive : BitVec 4
  /-- The PGOOD pin. -/
  pgood : Bool
  /-- The main side is out of reset. -/
  mainUp : Bool
  /-- REFCLK_CORE is present. -/
  refclk : Bool
  /-- The clock at which EN went low. -/
  lowSince : Option Nat
  /-- The clock at the always-on domain's power-up (R389). -/
  upAt : Nat
  /-- Step 2 has found the sideband alive since then (R326). -/
  sideband : Bool
  deriving DecidableEq, Repr

/-- The PCIe function's own state (R396, R402): its configuration space as the host has set it, its power state, the status bits of
AER's uncorrectable errors and the header log of the first of them. -/
structure Pcie where
  cfg : PcieCfg
  d3hot : Bool
  aer : BitVec 32
  headerLog : List Word
  deriving DecidableEq, Repr

/-- One fuse group: two copies, programmed one after the other (R415). -/
structure Fuse where
  copyA : Bool
  copyB : Bool
  deriving DecidableEq, Repr

/-- The fuse array and its programming (R413–R415). -/
structure Fuses where
  debugLock : Fuse
  signRequired : Fuse
  keyHash : Fuse
  keyValue : BitVec 384
  /-- The array as last sensed. -/
  sensed : BitVec 3
  /-- The armed target. -/
  arm : Option (Fin 3)
  /-- The target being programmed. -/
  busy : Option (Fin 3)
  deriving DecidableEq, Repr

/-- Mortar's hidden state (R436–R442). -/
structure Mortar where
  /-- Deliveries on their way: task-input codes, in the order the channels carried them. -/
  inFlight : List Nat
  /-- A configuration write not yet in force: address, new word, and the clock at which it takes effect. -/
  cfg : Option (Nat × Word × Nat)
  /-- The clock (ns) of each task input's last activation. -/
  lastAct : List (Nat × Nat)
  /-- EVT_OUT pins whose pulse has not ended (R439). -/
  evtOut : BitVec 8
  deriving DecidableEq, Repr

/-- A DMA descriptor (R429). -/
structure Descr where
  src : Nat
  dst : Nat
  len : Nat
  last : Bool
  irq : Bool
  srcFixed : Bool
  dstFixed : Bool
  next : Nat
  deriving DecidableEq, Repr

/-- A DMA channel beyond its registers (R428–R434): its descriptor, none while that is being fetched, the bytes whose beats
have issued, and those whose write responses have returned. -/
structure DmaChan where
  desc : Option Descr
  issued : Nat
  confirmed : Nat
  deriving DecidableEq, Repr

/-- One entry of the TX timestamp FIFO (R286). -/
structure TxStamp where
  lane : Nat
  tag : Nat
  sec : Nat
  ns : Nat
  deriving DecidableEq, Repr

/-- A requested step of network time (R278). -/
structure StepReq where
  rel : Bool
  sec : Int
  ns : Int
  deriving DecidableEq, Repr

/-- One TPULSE output's hidden state (R289). -/
structure Tpulse where
  /-- The due time (ns of network time) of its last fire, or of its arming. -/
  last : Nat
  /-- It has fired since it was armed. -/
  fired : Bool
  /-- The pin is at its active level. -/
  active : Bool
  /-- The clock at which it fired. -/
  at_ : Nat
  deriving DecidableEq, Repr

/-- The time unit (R273–R291): the counter, the slew, and what no register holds. -/
structure TimeUnit where
  sec : Nat
  ns : Nat
  /-- Fraction of a nanosecond in units of 2^-40 ns. -/
  frac : Nat
  /-- Offset still to be slewed, in units of 2^-40 ns. -/
  slew : Int
  step : Option StepReq
  /-- After a step, dynamic strobes wait for this frame (R279). -/
  resumeFrame : Option Nat
  /-- The clock of the last accepted PPS_IN edge. -/
  lastPps : Option Nat
  ppsOut : Bool
  /-- The clock at which PPS_OUT rose last. -/
  ppsRose : Nat
  txFifo : List TxStamp
  tp : List (Nat × Tpulse)
  deriving DecidableEq, Repr

/-- What a master holds between its accesses (R275, R473, R474). -/
structure Snapshots where
  /-- HI halves by (master, owner block). -/
  hi : List ((Master × Nat) × Word)
  /-- LO words written and not yet committed, by (master, LO address). -/
  lo : List ((Master × Nat) × Word)
  /-- TIME_NS snapshots: seconds and TIME_FRAC. -/
  time : List (Master × Nat × Nat)
  /-- PPS_IN_NS snapshots: seconds. -/
  pps : List (Master × Nat)
  deriving DecidableEq, Repr

/-! ### Tiles -/

/-- A downstream tile-link transaction on its way to a tile (R102). -/
inductive Txn where
  /-- A code for ladder 0, ladder 1 or the heater (target 0, 1, 2) of channel `ch`, with the range bit. -/
  | code (ch target code : Nat) (range : Bool)
  /-- SLOT and the tile's 64 SEL bits. -/
  | select (slot : Nat) (sel : BitVec 64)
  /-- The tile's 64 shutter bits. -/
  | shutter (bits : BitVec 64)
  deriving DecidableEq, Repr

/-- Which focus (R94): the number of its START among the tile's, its photodiode and its ring. -/
structure FocusId where
  num : Nat
  pd : Nat
  ring : Nat
  deriving DecidableEq, Repr

/-- One record of a scan (R101). -/
structure Record where
  a : Nat
  b : Nat
  /-- 0 LOOP, 1 READBACK, 2 DIAG, 3 FOCUS. -/
  kind : Nat
  actSel : Nat
  guard : Bool
  rngA : Nat
  rngB : Nat
  slot : Nat
  /-- Tile cycles from the strobe cycle of the latest plane strobe to the sample; none before the first strobe. -/
  delta : Option Nat
  /-- SCAN_SEQ, scan mode and PROBE_EST of its scan (R122, R131, R132). -/
  seq : Nat
  lowPower : Bool
  probe : Nat
  /-- The focus whose samples a FOCUS record carries. -/
  focus : Option FocusId
  deriving DecidableEq, Repr

/-- Focus on one photodiode (R94). -/
structure Focus where
  id : FocusId
  /-- Scans still to run, the one in progress included. -/
  left : Nat
  /-- It has begun; otherwise it begins at the next scan start at which the tile does not calibrate. -/
  running : Bool
  deriving DecidableEq, Repr

/-- Samples of one focus, oldest first (R94). -/
structure FocusRun where
  id : FocusId
  samples : List Nat
  deriving DecidableEq, Repr

/-- A diagnosis of one photodiode (R97): the conversions it still needs, and the readings so far, oldest first. -/
structure Diag where
  pd : Nat
  mode : Nat
  code : Nat
  left : Nat
  readings : List Int
  deriving DecidableEq, Repr

/-- What a loop engine keeps of a loop beyond its record (R126, R131, R144, R152, R154, R155, R158). -/
structure LoopMem where
  last0 : Nat
  last1 : Nat
  /-- A heart step has issued a heater code whose strobe group has not fired since: HGRP_FIRED = 0. -/
  heaterWaits : Bool
  npRun : Nat
  darkRun : Nat
  brightRun : Nat
  limitRun : Nat
  prevScan : Option Nat
  /-- REP_RESET bits waiting for the next update. -/
  repReset : Nat
  /-- ia and ib of the latest record where it was accepted. -/
  latest : Option (Nat × Nat)
  /-- A PL_SCALE of the re-plan that waits for the loop's next update (R364). -/
  plNext : Option Nat
  deriving DecidableEq, Repr

/-- One effect of an update, held until the CRC of the scan's frame has checked (R123). -/
inductive LoopEffect where
  /-- A field of the loop's record, status or repetitive memory takes a value. -/
  | put (f : Field) (v : Nat)
  /-- An event sets a W1C bit (R12). -/
  | event (f : Field)
  /-- The engine's memory of the loop afterwards; `heart` says a heater code was issued. -/
  | mem (x : LoopMem) (heart : Bool)
  | code (x : Txn)
  | count (w : Wide)
  | raise (src : Source)
  /-- A pending LV word takes effect. -/
  | take (a : Nat) (w : Word)
  deriving DecidableEq, Repr

/-- What a tile holds beyond its registers. -/
structure Tile where
  /-- The Pockels clamps have released (R71, R72). -/
  pockFree : Bool
  /-- Channels whose heater forced zero has released. -/
  htrFree : BitVec 64
  /-- Shutter sets that are OPEN; SEALED ones show in SHUT_PEND. -/
  shutOpen : BitVec 64
  /-- Range-change holds in progress, Pockels and heater (R69). -/
  holdP : BitVec 64
  holdH : BitVec 64
  /-- Outputs STALE since a warm start until their first transfer (R71). -/
  warmP : BitVec 64
  warmH : BitVec 64
  /-- The clock of each channel's last transfer, range change or calibration hold (R75). -/
  moved : List (Nat × Nat)
  slotShadow : Nat
  slotAct : Nat
  /-- Tile cycles from the strobe cycle of the latest plane strobe to the start of the scan in progress, negative while
  the strobe fell in this scan. -/
  sinceStrobe : Option Int
  /-- STROBE_CYC of R100 and the plane strobes in this scan. -/
  strobeCyc : Nat
  strobes : Nat
  /-- Active scan mode: 1 LOWPOWER. -/
  lowPower : Bool
  /-- The latest record of each conversion slot. -/
  recs : List (Nat × Record)
  /-- Records on their way to the engine, by conversion slot. -/
  onWay : BitVec 64
  /-- The frame on its way to the engine (R100). -/
  frame : Option (List Byte)
  focus : Option Focus
  /-- STARTs of focus accepted so far. -/
  focusNum : Nat
  /-- Focus samples that have come and whose frame's CRC has not checked yet (R103). -/
  focusHeld : List FocusRun
  /-- Focus samples the engine has forwarded and no block has taken yet, one entry for each focus (R94, R107). -/
  focusBuf : List FocusRun
  /-- A focus sample of this scan was taken: whether one of them clipped (R101). -/
  focusClip : Option Bool
  /-- A conversion of this scan was suspended by calibration (R91). -/
  cut : Bool
  diag : Option Diag
  /-- The next channel of the read-back rotation (R75). -/
  rbNext : Nat
  /-- That channel has had its turn in this scan: its read-back was taken, or it is not read back (R75, R91). -/
  rbTurn : Bool
  /-- Consecutive read-back failures by channel. -/
  rbRun : List (Nat × Nat)
  /-- Consecutive clipped scans by photodiode (R101). -/
  clipRun : List (Nat × Nat)
  /-- Transactions on their way to the tile, oldest first (R102). -/
  down : List Txn
  /-- Updates of this scan waiting for its frame CRC (R123). -/
  held : List (Nat × List LoopEffect)
  /-- PROBE_EST when this scan began (R131). -/
  probe : Nat
  /-- The clock of the latest scan start (R351). -/
  scanAt : Option Nat
  /-- Channels whose heater voltage the re-plan's window has still to measure (R362). -/
  heaters : BitVec 64
  deriving DecidableEq, Repr

/-! ### Calibration and ageing -/

/-- A tile's calibration in progress (R349, R352, R359). `kind` is 0 FULL, 1 DRIFT, 2 LOAD. -/
structure CalRun where
  kind : Nat
  /-- The clock at which it began. -/
  since : Nat
  /-- New trim words staged, by mirror word; none before measurement end. -/
  staged : Option (List (Nat × Word))
  /-- Channels moved during the measurement, Pockels and heater (R356). -/
  touched : BitVec 64
  deriving DecidableEq, Repr

/-- Calibration beyond its registers. -/
structure Calib where
  runs : List (Nat × CalRun)
  /-- The trim words a tile still holds where its mirror has been written and not loaded, by mirror address (R359). -/
  loaded : List (Nat × Word)
  /-- A Sillage calibration is in progress (R358). -/
  sil : Bool
  /-- D_MIN of the LOOPS segment, and CHAR_FAIL_MAX and the request for full characterisation of the CALIB segment (R337,
  R338), which no register shows. -/
  dMin : Nat
  failMax : Nat
  full : Bool
  /-- Measured records of the loops flagged under R51, which stand in for those of the passport copy: loop and bytes 0–27. -/
  records : List (Nat × List Byte)
  deriving DecidableEq, Repr

/-- The re-plan beyond its registers (R361–R367). -/
structure Replan where
  running : Bool
  /-- Loops of this pass evaluated so far. -/
  done : Nat
  /-- QCUM of the loops evaluated in this pass and its running figures. -/
  probeSum : Nat
  probeCount : Nat
  /-- The clock at which the last pass started. -/
  lastStart : Option Nat
  /-- Median QCUM of the switching loops of each tile die at the previous pass. -/
  prevMedian : List (Nat × Nat)
  deriving DecidableEq, Repr

/-! ### Sillage -/

/-- A block kept as history before a trigger (R111). -/
structure SilBlock where
  source : Nat
  line : Nat
  sec : Nat
  ns : Nat
  frac : Nat
  samples : Nat
  clip : Bool
  payload : List Byte
  deriving DecidableEq, Repr

/-- The capture machine beyond its registers (R107–R111). -/
structure Sil where
  armed : Bool
  recording : Bool
  holdoff : Bool
  /-- Blocks of the record still to write. -/
  postLeft : Nat
  /-- A trigger has come whose sample lies in the block in progress. -/
  trig : Bool
  /-- STOP, or ENABLE cleared, ends the record at the block in progress. -/
  stop : Bool
  recordSeq : Nat
  history : List SilBlock
  /-- Next BLOCK_SEQ and dropped blocks, by ring. -/
  blockSeq : List (Nat × Nat)
  gaps : List (Nat × Nat)
  /-- Network time reached TRIG_TIME already (R110). -/
  timeDone : Bool
  /-- The latest sample by stream, for the LEVEL trigger (R110). -/
  last : List (Nat × Nat)
  deriving DecidableEq, Repr

/-! ### Thermal supervision and the trip recorder -/

/-- What supervision keeps of a sensor (R383, R384). -/
structure SensorMem where
  /-- Conversions on end at which the reading departed by more than 6.00 °C. -/
  away : Nat
  /-- Conversions on end at which a SUSPECT reading lay within 4.00 °C. -/
  back : Nat
  /-- Values used, one per 100 ms, latest first, for RISE. -/
  past : List Int
  deriving DecidableEq, Repr

/-- The trip recorder and the limits with a dwell (R386–R391, R395). -/
structure Thermal where
  /-- THERMTRIP# is asserted. -/
  trip : Bool
  sensors : List (Nat × SensorMem)
  /-- The 2,048 slots of the trip ring: 64 bytes each; an unlisted slot is free. -/
  ring : List (Nat × List Byte)
  /-- A record whose bytes 0–7 are programmed and whose rest is not yet committed: slot and bytes. -/
  part : Option (Nat × List Byte)
  /-- The slots that were in use when the erase in progress began. -/
  erasing : Option (List Nat)
  /-- The last scan found a record that power loss had cut short: TRIP_UNRECORDED's cold value (R323, R346). -/
  lost : Bool
  /-- Input energy not yet counted in ENERGY, in units of 10 µJ. -/
  energy : Nat
  vinLowMs : Nat
  vinHighMs : Nat
  pinHighMs : Nat
  /-- PS stood at or above its limit when last judged (R395). -/
  psHot : Bool
  deriving DecidableEq, Repr

/-! ### The plane -/

/-- Strobes on their way (R60, R64–R66). -/
structure Strobes where
  /-- Tiles the edge of the latest plane strobe has not reached yet. -/
  plane : BitVec 76
  /-- The same for each strobe group. -/
  groups : List (Nat × BitVec 76)
  /-- A command plane strobe has been accepted and has not fired (R64). -/
  cmd : Bool
  /-- The clock of the latest plane strobe. -/
  firedAt : Option Nat
  deriving DecidableEq, Repr

/-! ### Accords (R164–R196) -/

/-- A record of accord memory (R165, R166), field by field; reserved bytes read 0 (R14). -/
structure Accord where
  kind : Nat
  index : Nat
  /-- FLAGS [0] and [1]. -/
  host : Bool
  flagged : Bool
  seq : Nat
  frame : Nat
  pairs : Nat
  removed : Nat
  applySlot : Nat
  baseSeq : Nat
  bodyCrc : Nat
  hcrc : Nat
  cells : BitVec 4352
  trims : BitVec 512
  shuts : BitVec 512
  inLit : BitVec 512
  deriving DecidableEq, Repr

/-- A pin set (R172). -/
structure Pins where
  cells : BitVec 4352
  volatiles : BitVec 4352
  ins : BitVec 512
  outs : BitVec 512
  deriving DecidableEq, Repr

/-- What a circuit operation asks (R235). -/
inductive CircuitOp where
  | setup (p : SetupMsg)
  | release (p : ReleaseMsg)
  deriving DecidableEq, Repr

/-- An operation an agent has accepted (R184, R241): the endpoint it came from, its SEQ and its agent. -/
structure StandOp where
  lane : Nat
  seq : Nat
  agent : Nat
  op : CircuitOp
  deriving DecidableEq, Repr

/-- An answer kept for a RETRY (R244): whom it answered, what, and the ACK or NAK payload. -/
structure Answer where
  lane : Nat
  seq : Nat
  op : CircuitOp
  ack : Bool
  cause : Nat
  frame : Nat
  slot : Nat
  /-- The circuit's first context, where the operation found or made one. -/
  ctx : Option Nat
  deriving DecidableEq, Repr

/-- A circuit context (R242, R249). `state` is 0 FREE, 1 ROUTED, 2 LIT, 3 RELEASING. -/
structure Ctx where
  state : Nat
  bidir : Bool
  agent : Nat
  owner : Nat
  src : Nat
  dst : Nat
  id : Nat
  partner : Nat
  inPort : Nat
  outPort : Nat
  setupSeq : Nat
  sec : Nat
  ns : Nat
  standSeq : Nat
  /-- The answers this circuit's SETUP and RELEASE were given (R244). -/
  answers : List Answer
  deriving DecidableEq, Repr

/-- A standing update: routed at its cut, committed to a record later (R185, R186). -/
structure Update where
  accord : Accord
  /-- Its standing record once committed. -/
  record : Nat
  /-- Its apply boundary once committed. -/
  frame : Nat
  slot : Nat
  rearranged : Bool
  /-- Network time of its cut. -/
  cutAt : Nat
  /-- Its operations, in the order they were applied. -/
  ops : List StandOp
  /-- Contexts it lights, frees and moves. -/
  lit : List Nat
  freed : List Nat
  moved : List Nat
  /-- Answers that leave at its boundary; the frame and slot are filled in there. -/
  answers : List Answer
  deriving DecidableEq, Repr

/-- An armed alternate's difference from S (R190), and from when it is eligible: the frame composed by the first cut
after the arm, none before that cut. -/
structure Alternate where
  added : List (Nat × Nat)
  dropped : List (Nat × Nat)
  eligibleFrom : Option Nat
  deriving DecidableEq, Repr

/-- A switch request not yet taken (R192): its activation in network time and the clock of its cycle. -/
structure SwitchReq where
  index : Nat
  activated : Nat
  clock : Nat
  deriving DecidableEq, Repr

/-- A switch taken and not yet applied (R192): it applies at network time `at`; `inserted` says by a protection strobe. -/
structure Taken where
  index : Nat
  at_ : Nat
  inserted : Bool
  deriving DecidableEq, Repr

/-- The plane's control beyond its registers. -/
structure Plane where
  /-- Accord memory by record: 0–63 bank 0, 64–127 bank 1, 128–143 standing (R164). -/
  records : List (Nat × Accord)
  /-- PIN_F of the frame in force, where it has one, and that of the frame being composed or committed (R172). -/
  pins : Option Pins
  nextPins : Option Pins
  /-- The last frame, and the last slot of it, whose boundary has been taken. -/
  lastFrame : Option Nat
  lastSlot : Option (Nat × Nat)
  /-- Operations accepted and not yet cut, in the order of acceptance. -/
  ops : List StandOp
  /-- Operations to be replayed before them (R193), in their original order. -/
  replay : List StandOp
  /-- Cuts routed and not yet committed, and updates committed and pending, oldest first. -/
  cuts : List Update
  updates : List Update
  alternates : List (Nat × Alternate)
  request : Option SwitchReq
  taken : Option Taken
  /-- Contexts by index (R242). -/
  ctxs : List (Nat × Ctx)
  /-- No plane strobe fires: between the last strobe of W1 and W5 (R341), and outside service. -/
  quiet : Bool
  deriving DecidableEq, Repr

/-! ### The Composer (R197–R218) -/

/-- A DEMAND held for a cut (R199). -/
structure HeldDemand where
  source : Nat
  /-- It came on the source's own card lane, whose credit it holds (R231). -/
  card : Bool
  seq : Nat
  msg : DemandMsg
  deriving DecidableEq, Repr

/-- A composition in progress: its frame, the standing accord it is composed against, and the time of its cut. -/
structure Composition where
  frame : Nat
  base : Accord
  began : Nat
  deriving DecidableEq, Repr

/-- The Composer beyond its registers. -/
structure Composer where
  held : List HeldDemand
  /-- APPLY_FRAME of each pending LV word (R213). -/
  applyFrames : List (Nat × Nat)
  composing : Option Composition
  deriving DecidableEq, Repr

/-! ### Kowin (R219–R240) -/

/-- A device message waiting on a lane. -/
structure TxMsg where
  type : Nat
  seq : Nat
  sys : Bool
  retry : Bool
  /-- Its frame, for a GRANT part (R234). -/
  grant : Option Nat
  payload : List Byte
  /-- An inner message forwarded unchanged (R300). -/
  raw : Option (List Byte)
  deriving DecidableEq, Repr

/-- A SYS message not yet numbered (R229): its endpoint, its place in the issue order, and its content. `from_` is the slot
number of the first slot boundary it may be issued at; with none any issue point takes it, a frame's commit too. -/
structure SysItem where
  lane : Nat
  order : List Nat
  type : Nat
  grant : Option Nat
  payload : List Byte
  from_ : Option Nat
  deriving DecidableEq, Repr

/-- An ECHO request sent and not yet answered (R239): its token, whether ECHO_CMD asked for it. -/
structure EchoWait where
  token : Nat
  host : Bool
  deriving DecidableEq, Repr

/-- A lane beyond its registers (R221, R228, R231, R239, R300). -/
structure Lane where
  /-- Both sides' HELLOs with PEER_SEEN = 1 since HELLO_WAIT: the device's own and the peer's. -/
  sentSeen : Bool
  gotSeen : Bool
  /-- NEXT_SEQ of the latest HELLO. -/
  nextSeq : Nat
  /-- Credit toward the peer of a tier lane: the peer's limit and the messages sent (R298). -/
  peerCredit : Nat
  sent : Nat
  txq : List TxMsg
  /-- ECHO requests awaiting their replies, oldest first. -/
  echo : List EchoWait
  /-- The SEQ of the latest SYS message forwarded (R300). -/
  forwarded : Option Nat
  /-- TWIN_LANE of the latest TIER_HELLO. -/
  peerTwin : Bool
  /-- The peer's CLAIM and UNIT of the latest TIER_HELLO. -/
  peerClaim : Nat
  peerUnit : Nat
  deriving DecidableEq, Repr

/-! ### Managers and workers (R295–R319) -/

/-- A worker's receive buffer of one manager lane for one frame (R303). -/
structure RxBuf where
  frame : Nat
  records : List (Nat × List Byte)
  end_ : Option FrameEndMsg
  claim : Nat
  unit : Nat
  deriving DecidableEq, Repr

/-- A copy of a STANDING message kept by a worker (R304). -/
structure StandCopy where
  claim : Nat
  unit : Nat
  msg : StandingMsg
  deriving DecidableEq, Repr

/-- A joiner's resynchronisation (R314). Its log is what it holds: the DEMANDs and operations accepted since. -/
structure Join where
  /-- Fc, once ACCEPT has named it. -/
  frame : Option Nat
  /-- Bytes of working SRAM the log takes. -/
  logBytes : Nat
  image : List Byte
  /-- Once the image has been loaded: frames up to this one have been composed, slot boundaries before this one served. -/
  composed : Option Nat
  slot : Nat
  /-- FRAME_ENDs, the source's and the joiner's own, not yet compared. -/
  ends : List FrameEndMsg
  own : List FrameEndMsg
  /-- The frame in progress when REQUEST was sent. -/
  asked : Nat
  deriving DecidableEq, Repr

/-- Redundancy beyond its registers. -/
structure Hier where
  sysTag : Nat
  composeTag : Nat
  bufs : List (Nat × RxBuf)
  stands : List StandCopy
  /-- ARM and DISARM messages that took effect and of which the other manager's copy is still to come, oldest first (R304). -/
  arms : List StandCopy
  /-- The last switch applied or taken from a SWITCH APPLY: index, frame, slot, offset. -/
  lastSwitch : Option (Nat × Nat × Nat × Nat)
  /-- The unit's own and the twin's latest FRAME_END not yet compared (R311). -/
  ownEnd : Option FrameEndMsg
  twinEnd : Option FrameEndMsg
  join : Option Join
  /-- At the source: Fc of the resynchronisation it serves. -/
  serve : Option Nat
  deriving DecidableEq, Repr

/-! ### The parser (R250–R272) -/

/-- A classification rule (R257): VALUE and MASK of 96 bits, ACTION, VALID, and its hit counter. -/
structure Rule where
  value : BitVec 96
  mask : BitVec 96
  action : Word
  valid : Bool
  hits : Nat
  deriving DecidableEq, Repr

/-- A received frame on its way through the parser: from the destination MAC up to, excluding, the FCS. -/
structure RxFrame where
  lane : Nat
  bytes : List Byte
  epoch : Nat
  /-- The lane's default action when its first pass began is SLOW (R260). -/
  slowDefault : Bool
  sec : Nat
  ns : Nat
  frac : Nat
  deriving DecidableEq, Repr

/-- A frame or copy in firmware's internal ring (R265, R266). -/
structure SlowFrame where
  frame : RxFrame
  cause : Nat
  pass : Nat
  rule : Nat
  deriving DecidableEq, Repr

/-- The parser beyond its registers. -/
structure Parser where
  /-- Rules by bank · 1024 + index. -/
  rules : List (Nat × Rule)
  recirc : List RxFrame
  slow : List SlowFrame
  /-- ENTRY_SEQ of each ring. -/
  entrySeq : List (Nat × Nat)
  /-- Network time at which the latest swap took effect (R262). -/
  swapAt : Nat
  /-- Echo answers per lane in the current second (R265). -/
  echoes : List (Nat × Nat × Nat)
  deriving DecidableEq, Repr

/-- The sideband's own state (R380, R411). -/
structure Sideband where
  statusInput : BitVec 8
  statusTemp : BitVec 8
  statusCml : BitVec 8
  /-- STATUS_BYTE [6] OFF and STATUS_WORD [11] POWER_GOOD#. -/
  off : Bool
  pgBad : Bool
  /-- The data of the last WIN_READ, for WIN_REREAD. -/
  winData : List Byte
  deriving DecidableEq, Repr

/-- A cold start that stands at step 7: what its characterisation measures (R337), whether it is complete (R339), and the
loop states that step 8 will set from the LOOPS segment (R163). -/
structure Starting where
  char : Characterisation
  init : List (Nat × Nat)
  deriving DecidableEq, Repr

/-- The machine. `pending` is the queue of waiting commands, oldest first; `outbox` is everything that has crossed outwards;
`free` counts the free values drawn; both, and `clock`, are the model's own fields. -/
structure State where
  pending : List Instr
  /-- Nanoseconds since the state was reset, as TIME_TICK counts them. -/
  clock : Nat
  regs : List (Nat × Word)
  mem : List Host.Cell
  outbox : List Output
  free : Nat
  /-- SEAL latches (R453): (address of FAULT_REAL, bit). -/
  seals : List (Nat × Nat)
  /-- What has happened in this clock cycle, for the rules on acts of one cycle, as (address, bit): W1C and RC bits that an event
  has set (R12), vectors signalled (R404), semaphores taken or forced (R407), triggers and stops of Sillage (R111). -/
  fresh : List (Nat × Nat)
  /-- Pending values of LV fields (R11, R471), by word address. -/
  lv : List (Nat × Word)
  power : Power
  pcie : Pcie
  fuses : Fuses
  mortar : Mortar
  /-- DMA channels that are not IDLE (R428). -/
  dma : List (Nat × DmaChan)
  /-- Arbitration credits C_i by 8 · target + master (R423). -/
  credits : List (Nat × Int)
  time : TimeUnit
  snaps : Snapshots
  sb : Sideband
  tiles : List (Nat × Tile)
  loops : List (Nat × LoopMem)
  strobes : Strobes
  plane : Plane
  comp : Composer
  lanes : List (Nat × Lane)
  /-- SYS messages awaiting an issue point (R229). -/
  issueq : List SysItem
  hier : Hier
  parser : Parser
  /-- Courses whose loops are held by H_WARM (R148). -/
  warmHold : BitVec 19
  calib : Calib
  replan : Replan
  sil : Sil
  therm : Thermal
  /-- A cold start that stands at step 7. -/
  starting : Option Starting
  /-- The clock of the strobe that made STATE SERVING, while K-lanes locked by then still have their 1 ms to serve (R221, R329). -/
  lanesFrom : Option Nat
  /-- The clock of the latest trigger that began a start, and whether that was a cold one (R322). -/
  trigger : Option (Nat × Bool)
  /-- The passport's OTP memory, once a start has shown it (R48). -/
  passport : Option (List Byte)
  /-- A Formula has been loaded since always-on power-up, so owners are in force (R406). -/
  ownersLoaded : Bool
  deriving DecidableEq, Repr

/-- The machine right after the always-on domain has left reset (R323): VIN in range, EN low, STATE OFF, the main side in
reset, every register at its Cold value, nothing waiting. Values the spec does not give are named in the log. -/
def State.reset : State where
  pending := []
  clock := 0
  regs := []
  mem := []
  outbox := []
  free := 0
  seals := []
  fresh := []
  lv := []
  power := ⟨true, false, false, 0, false, false, true, none, 0, false⟩
  pcie := ⟨⟨false, false, false, false, 0, 2, true, true, false, 0, 0, 0⟩, false, 0, [0, 0, 0, 0]⟩
  fuses := ⟨⟨false, false⟩, ⟨false, false⟩, ⟨false, false⟩, 0, 0, none, none⟩
  mortar := ⟨[], none, [], 0⟩
  dma := []
  credits := []
  time := ⟨0, 0, 0, 0, none, none, none, false, 0, [], []⟩
  snaps := ⟨[], [], [], []⟩
  sb := ⟨0, 0, 0, false, false, []⟩
  tiles := []
  loops := []
  strobes := ⟨0, [], false, none⟩
  plane := ⟨[], none, none, none, none, [], [], [], [], [], none, none, [], true⟩
  comp := ⟨[], [], none⟩
  lanes := []
  issueq := []
  hier := ⟨0, 0, [], [], [], none, none, none, none, none⟩
  parser := ⟨[], [], [], [], 0, []⟩
  warmHold := 0
  calib := ⟨[], [], false, 128, 0, false, []⟩
  replan := ⟨false, 0, 0, 0, none, []⟩
  sil := ⟨false, false, false, 0, false, false, 0, [], [], [], false, []⟩
  therm := ⟨false, [], [], none, none, false, 0, 0, 0, 0, false⟩
  starting := none
  lanesFrom := none
  trigger := none
  passport := none
  ownersLoaded := false

end Sys2Proof.Machine
end

