-- ==== Sys2Proof/Machine/Ops.lean ====
section
/-! DEFINITION. The named operations over registers, counters, BAR2 memory, fault reporting (R450–R463) and Mortar
emission (R436–R444). Everything a meaning does to shared state goes through these. -/

namespace Sys2Proof.Machine

/-! ## Words and fields -/

/-- Bits `[lsb + width - 1 : lsb]` of a word. -/
def bitsOf (w : Word) (lsb width : Nat) : Nat := w.toNat / 2 ^ lsb % 2 ^ width

/-- The word with those bits replaced by `v` (its low `width` bits). -/
def withBits (w : Word) (lsb width v : Nat) : Word :=
  BitVec.ofNat 32
    (w.toNat / 2 ^ (lsb + width) * 2 ^ (lsb + width) + v % 2 ^ width * 2 ^ lsb + w.toNat % 2 ^ lsb)

/-- A `width`-bit value read as two's complement. -/
def signed (width v : Nat) : Int :=
  if v % 2 ^ width < 2 ^ (width - 1) then (v % 2 ^ width : Nat) else (v % 2 ^ width : Nat) - (2 ^ width : Nat)

/-- An integer as a `width`-bit two's complement value. -/
def unsigned (width : Nat) (v : Int) : Nat := (v % (2 ^ width : Nat)).toNat

/-- The register word at BAR0 address `a`. -/
def State.word (s : State) (a : Nat) : Word := sparseGet coldWord s.regs a

def State.setWord (s : State) (a : Nat) (w : Word) : State :=
  { s with regs := sparsePut coldWord s.regs a w }

/-- Change the listed words by a function of address and word. -/
def State.mapWords (s : State) (f : Nat → Word → Word) : State :=
  { s with regs := (s.regs.map fun e => (e.1, f e.1 e.2)).filter fun e => decide (e.2 ≠ coldWord e.1) }

/-- The value of a register field. -/
def State.rd (s : State) (f : Field) : Nat := bitsOf (s.word f.addr) f.lsb f.width

/-- Put `v` into a register field; the word's other bits stay. -/
def State.wr (s : State) (f : Field) (v : Nat) : State :=
  s.setWord f.addr (withBits (s.word f.addr) f.lsb f.width v)

/-- A one-bit field as a truth value. -/
def State.flag (s : State) (f : Field) : Bool := s.rd f == 1

def State.setFlag (s : State) (f : Field) (b : Bool) : State := s.wr f (if b then 1 else 0)

/-- Where a field begins. -/
def Field.key (f : Field) : Nat × Nat := (f.addr, f.lsb)

/-- What happens in this clock cycle is noted, for the rules on acts of one cycle (R12, R111, R404, R407). -/
def State.note (s : State) (k : Nat × Nat) : State :=
  { s with fresh := if s.fresh.contains k then s.fresh else s.fresh ++ [k] }

def State.noted (s : State) (k : Nat × Nat) : Bool := s.fresh.contains k

/-- An event sets a one-bit W1C or RC field: in the clock cycle of the event the set wins over a clear (R12). -/
def State.setEvent (s : State) (f : Field) : State := (s.setFlag f true).note f.key

/-- A W1C bit that a write clears, unless an event has set it in this cycle (R12). -/
def State.clearEvent (s : State) (f : Field) : State := if s.noted f.key then s else s.setFlag f false

/-- The bits of the word at `a` that an event has set in this clock cycle. -/
def State.freshMask (s : State) (a : Nat) : Word :=
  s.fresh.foldl (fun m e => if e.1 = a then m ||| BitVec.ofNat 32 (2 ^ e.2) else m) 0

/-- A field read as two's complement. -/
def State.rdS (s : State) (f : Field) : Int := signed f.width (s.rd f)

def State.wrS (s : State) (f : Field) (v : Int) : State := s.wr f (unsigned f.width v)

/-- A value in a LO and a HI word (R473). -/
def State.rdW (s : State) (w : Wide) : Nat :=
  (s.word w.addr).toNat + 2 ^ 32 * ((s.word (w.addr + 4)).toNat % 2 ^ (w.width - 32))

def State.wrW (s : State) (w : Wide) (v : Nat) : State :=
  (s.setWord w.addr (BitVec.ofNat 32 (v % 2 ^ 32))).setWord (w.addr + 4)
    (BitVec.ofNat 32 (v / 2 ^ 32 % 2 ^ (w.width - 32)))

/-- Bit `n` of a 64-bit value in a LO and a HI word. -/
def State.bitW (s : State) (w : Wide) (n : Nat) : Bool := (s.rdW w).testBit n

def State.setBitW (s : State) (w : Wide) (n : Nat) (b : Bool) : State :=
  let v := s.rdW w
  s.wrW w (if b then v ||| 2 ^ n else v - (v &&& 2 ^ n))

/-- Saturate `v` to the range of a `width`-bit two's complement value (R8). -/
def satS (width : Nat) (v : Int) : Int :=
  let top : Int := (2 ^ (width - 1) : Nat)
  if v < -top then -top else if top - 1 < v then top - 1 else v

/-- Saturate `v` to the range of a `width`-bit unsigned value (R8). -/
def satU (width : Nat) (v : Int) : Nat :=
  if v < 0 then 0 else min v.toNat (2 ^ width - 1)

/-- Divide by `2 ^ n`, rounding half to even (R8). -/
def roundEvenShift (n : Nat) (v : Int) : Int :=
  let q := v / (2 ^ n : Nat)
  let r := v % (2 ^ n : Nat)
  if n = 0 then v
  else if 2 * r < (2 ^ n : Nat) then q
  else if (2 ^ n : Nat) < 2 * r then q + 1
  else if q % 2 = 0 then q else q + 1

/-- Divide by a positive `d`, rounding half to even (R8). -/
def roundEvenDiv (v : Int) (d : Nat) : Int :=
  let q := v / (d : Int)
  let r := v % (d : Int)
  if 2 * r < (d : Int) then q
  else if (d : Int) < 2 * r then q + 1
  else if q % 2 = 0 then q else q + 1

/-- The bits of the word at `a` that fields with one of the access codes `accs` cover. -/
def accMask (a : Nat) (accs : List Acc) : Word :=
  (rowsAt a).foldl (fun m r =>
    if accs.contains r.acc then m ||| BitVec.ofNat 32 ((2 ^ r.width - 1) * 2 ^ r.lsb) else m) 0

/-! ## LV words (R11, R13, R471) -/

/-- Hold `w` as the pending value of the LV word at `a` (R13). -/
def State.holdLv (s : State) (a : Nat) (w : Word) : State :=
  { s with lv := sparseInsert s.lv a w }

/-- What an LV word reads: in its LV fields the pending value, else the value in force; other fields as they stand (R471). -/
def State.lvWord (s : State) (a : Nat) : Word :=
  match s.lv.lookup a with
  | some w => (s.word a &&& ~~~accMask a [.lv]) ||| (w &&& accMask a [.lv])
  | none => s.word a

/-- The boundary of the LV word at `a`: its pending value takes effect (R13). -/
def State.applyLv (s : State) (a : Nat) : State :=
  match s.lv.lookup a with
  | some _ => { s with lv := sparseErase s.lv a }.setWord a (s.lvWord a)
  | none => s

/-! ## Where an address lies (R465) -/

/-- The owner block b of a BAR0 address (R465); none where no block covers it. -/
def ownerBlock (a : Nat) : Option Nat :=
  if a < 0x10000 then some 0
  else if a < 0x20000 then some 1
  else if a < 0x30000 then some 2
  else if a < 0x40000 then some 3
  else if a < 0x50000 then some 4
  else if a < 0x60000 then some 5
  else if a < 0x70000 then some 6
  else if a < 0x71300 then some 7
  else if a < 0x71400 then some 8
  else if a < 0x72000 then some 7
  else if a < 0x72200 then some 8
  else if a < 0x74000 then some 7
  else if a < 0x80000 then none
  else if 0x80400 ≤ a ∧ a < 0x80430 then some 10
  else if a < 0x90000 then some 9
  else if a < 0xA0000 then some 11
  else if a < 0xB0000 then some 12
  else if a < 0xC0000 then some 13
  else if a < 0xD0000 then some 14
  else if a < 0xE0000 then some 15
  else if a < 0xF0000 then some 16
  else if a < 0x100000 then some 17
  else if a < 0x140000 then some 18
  else if a < 0x180000 then some 19
  else if a < 0x190000 then some 20
  else if a < 0x200000 then some 21
  else if a < 0x240000 then some 22
  else if a < 0x250000 then some 23
  else if a < 0x300000 then some 24
  else if a < 0x410000 then some 25
  else if a < 0x430000 then some 26
  else if a < 0x500000 then none
  else if a < 0x610000 then (if a % 0x4000 < 0x2000 then some 27 else some 28)
  else if a < 0x630000 then (if a % 0x4000 < 0x2000 then some 29 else some 30)
  else if a < 0x800000 then none
  else if a < 0x84C000 then some 31
  else if a < 0x880000 then none
  else if a < 0x9B0000 then some 32
  else if 0x1000000 ≤ a ∧ a < 0x1010000 then some 33
  else none

/-- The block lies in the always-on domain (R465). -/
def alwaysOnBlock (b : Nat) : Bool := b == 0 || b == 4 || b == 8 || b == 11 || b == 12

/-- The register word is held in the always-on domain: the blocks of R465, HOSTIF's OWNERS, SECURE_CFG and SEM_b, and
START's COLD_STARTS count (R346). -/
def alwaysOnAddr (a : Nat) : Bool :=
  (match ownerBlock a with | some b => alwaysOnBlock b | none => false)
  || (decide (0x30010 ≤ a) && decide (a ≤ 0x30020))
  || (decide (0x30100 ≤ a) && decide (a < 0x30188))
  || a == 0x10050 || a == 0x10054

/-! ## Boundary and choice -/

/-- Something crosses the boundary outwards. -/
def State.emitOut (s : State) (o : Output) : State := { s with outbox := s.outbox ++ [o] }

/-- A fresh value the spec leaves undefined. -/
def State.freshValue (s : State) : BitVec 64 × State :=
  (Config.freeValue s.free, { s with free := s.free + 1 })

/-- A PCIe error is reported: its message, its bit of AER's uncorrectable error status, and the header log where none stood before.
The request's header is free, no command gives it (R396, R401, log 73). -/
def State.aerError (s : State) (error : String) (bit : Nat) : State :=
  let s1 := s.emitOut (.aer error)
  let s2 : State := { s1 with pcie := { s1.pcie with aer := s1.pcie.aer ||| BitVec.ofNat 32 (2 ^ bit) } }
  if s.pcie.aer = 0 ∧ bit ≠ 14 then
    let a := s2.freshValue
    let b := a.2.freshValue
    { b.2 with pcie := { b.2.pcie with
      headerLog := [a.1.setWidth 32, (a.1 >>> 32).setWidth 32, b.1.setWidth 32, (b.1 >>> 32).setWidth 32] } }
  else s2

/-- START_STATUS.STATE, R320. -/
def State.start (s : State) : Nat := s.rd F.START_STATUS.STATE

/-! ## Sources: status, qualification, SEAL -/

/-- The fault-register fields of source `src` (R456). -/
def Source.real (src : Source) : Field := ⟨src.block.real, src.bit, 1⟩
def Source.inj (src : Source) : Field := ⟨src.block.real + 4, src.bit, 1⟩
def Source.en (src : Source) : Field := ⟨src.block.real + 8, src.bit, 1⟩
def Source.sev (src : Source) : Field := ⟨src.block.real + 12, 2 * src.bit, 2⟩
/-- The Mortar producer code of the source (R437). -/
def Source.code (src : Source) : Nat := src.block.code + src.bit

/-- The source's block has power: always-on blocks always do (while VIN is in range), others while the main side is up. -/
def State.powered (s : State) (b : FaultBlock) : Bool :=
  s.power.vin && (b.alwaysOn || s.power.mainUp)

/-- The source has power: HOSTIF's semaphore and fuse sources have it with the always-on domain (R452). -/
def State.srcPowered (s : State) (src : Source) : Bool :=
  s.powered src.block || (s.power.vin && src.block == FB.HOSTIF && [4, 6, 7, 8].contains src.bit)

/-- Severity class of the source: 0 INFO, 1 WARN, 2 ERROR, 3 SEAL (R450); fixed at SEAL for the three of R455. -/
def State.severity (s : State) (src : Source) : Nat :=
  if src.block.sealBit = some src.bit then 3 else s.rd src.sev

/-- REAL or INJ is set and EN is 1 (R451). -/
def State.qualifies (s : State) (src : Source) : Bool :=
  (s.flag src.real || s.flag src.inj) && s.flag src.en

/-- The source's SEAL latch is set (R453). -/
def State.sealed (s : State) (src : Source) : Bool := s.seals.contains (src.block.real, src.bit)

/-- Set the latch in the first cycle in which REAL, EN and class SEAL all hold (R453). -/
def State.latchSeal (s : State) (src : Source) : State :=
  if s.flag src.real && s.flag src.en && s.severity src == 3 && !s.sealed src then
    { s with seals := s.seals ++ [(src.block.real, src.bit)] }
  else s

/-- The sources of a block. -/
def FaultBlock.all (b : FaultBlock) : List Source := (List.range b.sources).map fun n => ⟨b, n⟩

/-- Some source of the block qualifies with a class of at least `least`. -/
def State.blockQualifies (s : State) (b : FaultBlock) (least : Nat) : Bool :=
  b.all.any fun src => s.qualifies src && decide (least ≤ s.severity src)

/-! ## MSI-X (R403, R404) -/

/-- A source of vector `v` qualifies for an interrupt (R404): a fault source of WARN or above, a DMA channel's DONE or ERR
under its enables (R446), or a HOST_IRQ bit under its enable (R448). -/
def State.vectorQualifies (s : State) (v : Nat) : Bool :=
  if 6 ≤ v ∧ v < 22 then
    let n := v - 6
    (s.flag (F.CH_STATUS.DONE n) && s.flag (F.CH_IRQ_EN.DONE_EN n)) ||
      (s.flag (F.CH_STATUS.ERR n) && s.flag (F.CH_IRQ_EN.ERR_EN n))
  else if 23 ≤ v ∧ v < 39 then
    (s.rd F.HOST_IRQ_STATUS.IRQ).testBit (v - 23) && (s.rd F.HOST_IRQ_EN.EN).testBit (v - 23)
  else if 51 ≤ v ∧ v < 70 then s.blockQualifies (FB.COURSE (v - 51)) 1
  else if 70 ≤ v ∧ v < 146 then s.blockQualifies (FB.DRIVE (v - 70)) 1
  else if 146 ≤ v ∧ v < 222 then s.blockQualifies (FB.SENSE (v - 146)) 1
  else FB.single.any fun b => b.vector == v && s.blockQualifies b 1

/-- ARMED of vector `v` (R404). -/
def vecArmed (v : Nat) : Field := ⟨(F.VEC_ARMED.ARMED (v / 32)).addr, v % 32, 1⟩
def vecPending (v : Nat) : Field := ⟨(F.PBA.PENDING (v / 32)).addr, v % 32, 1⟩

/-- The message of vector `v` can leave: not masked, the function in D0 with MSI-X and Bus Master enabled (R402, R404). -/
def State.msixOpen (s : State) (v : Nat) : Bool :=
  s.pcie.cfg.msixEnable && !s.pcie.cfg.funcMask && s.pcie.cfg.busMaster && !s.pcie.d3hot && !s.flag (F.MSIX_ENTRY.MASK v)

/-- Send vector `v`'s message, or set its PBA bit while it cannot leave (R404). -/
def State.sendVector (s : State) (v : Nat) : State :=
  if s.msixOpen v then s.emitOut (.msix v) else s.setFlag (vecPending v) true

/-- A source of vector `v` may have come to qualify: an armed vector is disarmed and signalled (R404). -/
def State.signalVector (s : State) (v : Nat) : State :=
  if s.power.mainUp && s.flag (vecArmed v) && s.vectorQualifies v then
    ((s.setFlag (vecArmed v) false).note (vecArmed v).key).sendVector v
  else s

/-- A vector's pending message leaves once it can (R402, R404). -/
def State.flushVector (s : State) (v : Nat) : State :=
  if s.flag (vecPending v) && s.msixOpen v then (s.setFlag (vecPending v) false).emitOut (.msix v) else s

def State.flushVectors (s : State) : State := (List.range 222).foldl State.flushVector s

/-! ## Mortar emission (R438, R444) -/

/-- The enabled channels that carry producer `code`: (channel, task input, INJ_PASS). A channel whose word is not listed
holds its cold value 0 and is disabled. -/
def State.channelsOf (s : State) (code : Nat) : List (Nat × Nat × Bool) :=
  s.regs.filterMap fun e =>
    if 0x71000 ≤ e.1 ∧ e.1 < 0x71400 ∧ bitsOf e.2 24 1 = 1 ∧ bitsOf e.2 0 12 = code then
      some ((e.1 - 0x71000) / 4, bitsOf e.2 12 9, bitsOf e.2 25 1 == 1)
    else none

/-- One event of producer `code` onto every enabled channel that carries it (R438): asynchronous channels (192–255) always
deliver; resynchronised ones need the main side, and lose the event during a warm start (R444). Answers how many it lost. -/
def State.deliver (s : State) (code : Nat) (inj : Bool) : State × Nat :=
  let chans := (s.channelsOf code).filter fun c => !inj || c.2.2
  let suspended := s.flag F.MORTAR_STATUS.SUSPENDED
  let live := chans.filter fun c => decide (192 ≤ c.1) || (s.power.mainUp && !suspended)
  let lost := chans.filter fun c => decide (c.1 < 192) && s.power.mainUp && suspended
  ({ s with mortar := { s.mortar with inFlight := s.mortar.inFlight ++ live.map (·.2.1) } }, lost.length)

/-- All ones of a 48-bit counter (R9). -/
def counterMax : Nat := 2 ^ 48 - 1

/-- The SATURATED source that a counter at address `a` raises (R463). -/
def saturatedSource (a : Nat) : Source :=
  match ownerBlock a with
  | some 3 => Src.HOSTIF.SATURATED
  | some 4 => Src.SIDEBAND.SATURATED
  | some 6 => Src.DMA.SATURATED
  | some 7 => Src.MORTAR.SATURATED
  | some 8 => Src.MORTAR.SATURATED
  | some 11 => Src.THERMAL.SATURATED
  | some 12 => Src.POWER.SATURATED
  | some 13 => Src.CALIB.SATURATED
  | some 14 => Src.AGEING.SATURATED
  | some 16 => Src.PARSER.SATURATED
  | some 20 => Src.COMPOSER.SATURATED
  | _ => Src.FABRIC.SATURATED

/-- Add `n` to a 48-bit counter, which saturates (R9). -/
def State.addCounter (s : State) (w : Wide) (n : Nat) : State :=
  s.wrW w (min counterMax (s.rdW w + n))

/-- The SATURATED source to raise when adding `n` brings the counter to all ones, else nothing (R463). -/
def State.saturates (s : State) (w : Wide) (n : Nat) : List Source :=
  if s.rdW w < counterMax ∧ counterMax ≤ s.rdW w + n then [saturatedSource w.addr] else []

/-- One source's REAL bit sets (R12, R451): SEAL latch, MSI-X, and on the rising edge its Mortar event (R438). Answers the
sources this raises in turn. -/
def State.raiseOne (s : State) (src : Source) : State × List Source :=
  if !s.srcPowered src then (s, [])
  else if s.flag src.real then (s.setEvent src.real, [])
  else
    let s1 := ((s.setEvent src.real).latchSeal src).signalVector src.block.vector
    let d := s1.deliver src.code false
    if d.2 = 0 then (d.1, [])
    else (d.1.addCounter F.WARM_LOST_CNT d.2, Src.MORTAR.WARM_LOST :: d.1.saturates F.WARM_LOST_CNT d.2)

/-- Raise a list of sources and what they raise in turn. Each source rises at most once, so `fuel` covers the chain. -/
def State.raiseAll : Nat → State → List Source → State
  | 0, s, _ => s
  | _, s, [] => s
  | fuel + 1, s, src :: rest =>
    let r := s.raiseOne src
    State.raiseAll fuel r.1 (r.2 ++ rest)

/-- Raise a fault source. -/
def State.raise (s : State) (src : Source) : State := State.raiseAll 8 s [src]

/-- Count `n` more on a 48-bit counter, raising SATURATED when it reaches all ones (R9, R463). -/
def State.bumpBy (s : State) (w : Wide) (n : Nat) : State :=
  State.raiseAll 8 (s.addCounter w n) (s.saturates w n)

def State.bump (s : State) (w : Wide) : State := s.bumpBy w 1

/-- A producer that is no fault source emits one event (R438). -/
def State.emitCode (s : State) (code : Nat) : State :=
  let d := s.deliver code false
  if d.2 = 0 then d.1 else (d.1.bumpBy F.WARM_LOST_CNT d.2).raise Src.MORTAR.WARM_LOST

/-- Set the INJ bit of a source as if it had fired (R460): its event on INJ_PASS channels, its severity handling without a
SEAL latch. -/
def State.inject (s : State) (src : Source) : State :=
  if !s.powered src.block || s.flag src.inj then s
  else
    let s1 := (s.setEvent src.inj).signalVector src.block.vector
    let d := s1.deliver src.code true
    if d.2 = 0 then d.1 else (d.1.bumpBy F.WARM_LOST_CNT d.2).raise Src.MORTAR.WARM_LOST

/-! ## The fault pins -/

/-- FAULT# is asserted (R452): a SEAL latch is set, or a powered source of class ERROR or SEAL qualifies. -/
def State.faultPin (s : State) : Bool :=
  s.power.vin && (!s.seals.isEmpty || FB.all.any fun b =>
    b.all.any fun src => s.srcPowered src && s.qualifies src && decide (2 ≤ s.severity src))

/-- SB_ALERT# is asserted (R405): a PMBus status bit is set, or a source of a vector selected in SB_ALERT_MASK qualifies. -/
def State.alertPin (s : State) : Bool :=
  s.power.vin &&
    (s.sb.statusInput != 0 || s.sb.statusTemp != 0 || s.sb.statusCml != 0 || s.sb.off || s.sb.pgBad ||
      (s.power.mainUp &&
        (List.range 222).any fun v =>
          (s.rd (F.SB_ALERT_MASK.MASK (v / 32))).testBit (v % 32) && s.vectorQualifies v))

/-! ## BAR2 memory (R398, R469) -/

/-- What a byte of BAR2 memory that nothing has written reads as. DESIGN CHOICE, log 5: the spec gives no content. -/
def memDefault (_ : Nat) : Byte := 0

def State.memByte (s : State) (a : Nat) : Byte := sparseGet memDefault s.mem a

def State.setMemByte (s : State) (a : Nat) (b : Byte) : State :=
  { s with mem := sparsePut memDefault s.mem a b }

/-- `n` bytes from BAR2 offset `a`. -/
def State.memBytes (s : State) (a n : Nat) : List Byte := (List.range n).map fun i => s.memByte (a + i)

/-- Write bytes from BAR2 offset `a` up. -/
def State.setMemBytes (s : State) (a : Nat) : List Byte → State
  | [] => s
  | b :: rest => (s.setMemByte a b).setMemBytes (a + 1) rest

/-- Little-endian value of bytes (R10). -/
def leNat : List Byte → Nat
  | [] => 0
  | b :: rest => b.toNat + 256 * leNat rest

/-- `n` little-endian bytes of a value. -/
def leBytes : Nat → Nat → List Byte
  | 0, _ => []
  | n + 1, v => BitVec.ofNat 8 v :: leBytes n (v / 256)

/-- Big-endian value of bytes, as network frames carry them. -/
def beNat (bs : List Byte) : Nat := bs.foldl (fun acc b => acc * 256 + b.toNat) 0

/-- `n` big-endian bytes of a value. -/
def beBytes (n v : Nat) : List Byte := (leBytes n v).reverse

/-- `n` bytes whose value the spec leaves open. -/
def State.freshBytes (s : State) (n : Nat) : List Byte × State :=
  let r := (List.range ((n + 7) / 8)).foldl (fun (x : List Byte × State) _ =>
    let v := x.2.freshValue
    (x.1 ++ leBytes 8 v.1.toNat, v.2)) ([], s)
  (r.1.take n, r.2)

end Sys2Proof.Machine
end

