-- ==== Sys2Proof/Machine/Crc.lean ====
section
/-! DEFINITION. The two CRCs of the spec: the CRC-32 of R48 and the CRC-16/CCITT-FALSE of R102. -/

namespace Sys2Proof.Machine

/-- One bit of the reflected CRC-32. -/
def crc32Bit (c : BitVec 32) : BitVec 32 :=
  if c.getLsbD 0 then (c >>> 1) ^^^ 0xEDB88320#32 else c >>> 1

/-- One byte of the reflected CRC-32. -/
def crc32Byte (c : BitVec 32) (b : Byte) : BitVec 32 :=
  let x := c ^^^ b.setWidth 32
  crc32Bit (crc32Bit (crc32Bit (crc32Bit (crc32Bit (crc32Bit (crc32Bit (crc32Bit x)))))))

/-- CRC-32 of IEEE 802.3 over bytes: reflected 0x04C1_1DB7, initial value and final XOR all ones (R48). -/
def crc32 (bs : List Byte) : BitVec 32 := ~~~(bs.foldl crc32Byte (BitVec.allOnes 32))

/-- One bit of CRC-16/CCITT-FALSE. -/
def crc16Bit (c : BitVec 16) : BitVec 16 :=
  if c.getLsbD 15 then (c <<< 1) ^^^ 0x1021#16 else c <<< 1

def crc16Byte (c : BitVec 16) (b : Byte) : BitVec 16 :=
  let x := c ^^^ (b.setWidth 16 <<< 8)
  crc16Bit (crc16Bit (crc16Bit (crc16Bit (crc16Bit (crc16Bit (crc16Bit (crc16Bit x)))))))

/-- CRC-16/CCITT-FALSE over bytes: 0x1021, initial value all ones (R102). -/
def crc16 (bs : List Byte) : BitVec 16 := bs.foldl crc16Byte (BitVec.allOnes 16)

end Sys2Proof.Machine
end

