-- ==== Sys2Proof/Machine/Operands.lean ====
section
/-! DEFINITION. The operand forms of the spec: how loops, cells, tiles, channels and photodiodes are numbered (R16–R18),
and frames, slots and boundaries derived from network time (R168, R281). -/

namespace Sys2Proof.Machine

/-! ## Indices (R16–R18) -/

def loopTile (l : Nat) : Nat := l / 64
def loopChan (l : Nat) : Nat := l % 64
def tileCourse (t : Nat) : Nat := t / 4
def loopCourse (l : Nat) : Nat := l / 256
/-- The loop's index j in its course's arrays (R163). -/
def loopIndex (l : Nat) : Nat := l % 256
def isTrimTile (t : Nat) : Bool := decide (68 ≤ t)
def isTrimLoop (l : Nat) : Bool := decide (4352 ≤ l)
def loopAt (t ch : Nat) : Nat := 64 * t + ch
/-- The tile die of a tile (R16). -/
def tileDie (t : Nat) : Nat := t / 19

/-- The tile's drive rail is good (R71, R376). -/
def State.railGood (s : State) (t : Nat) : Bool := s.power.drive.getLsbD (tileDie t)

/-! ## Network time, frames and slots (R273, R281) -/

/-- Network time in whole nanoseconds. -/
def State.now (s : State) : Nat := s.time.sec * 10 ^ 9 + s.time.ns

/-- FRAME_EPOCH, t0 of R281, in nanoseconds. -/
def State.epoch (s : State) : Nat := s.rdW F.EPOCH_SEC * 10 ^ 9 + s.rd F.EPOCH_NS.NS

/-- TIME_STATUS.PRE_EPOCH: t < t0, no frame runs (R281). -/
def State.preEpoch (s : State) : Bool := decide (s.now < s.epoch)

/-- T_slot in nanoseconds and N slots a frame (R168). -/
def State.slotNs (s : State) : Nat := s.rd F.SLOT_CFG.SLOT_NS
def State.slots (s : State) : Nat := s.rd F.FRAME_CFG.SLOTS

/-- P = N·T_slot (R281). -/
def State.frameNs (s : State) : Nat := s.slots * s.slotNs

/-- F = floor((t − t0)/P) for network time `t` (R281). -/
def State.frameAt (s : State) (t : Nat) : Nat := (t - s.epoch) / s.frameNs

/-- T(F) = t0 + F·P (R281). -/
def State.frameStart (s : State) (f : Nat) : Nat := s.epoch + f * s.frameNs

/-- The frame in progress. -/
def State.frame (s : State) : Nat := s.frameAt s.now

/-- k = floor((t − T(F))/T_slot) (R281). -/
def State.slot (s : State) : Nat := (s.now - s.frameStart s.frame) / s.slotNs

/-- The plane mode of R24 (PORTMAP): 0 CIRCUIT, 1 SLOT, 2 HYBRID. -/
def State.planeMode (s : State) : Nat := s.rd F.PLANE_MODE.MODE

end Sys2Proof.Machine
end

