-- ==== Sys2Proof/Machine/Access.lean ====
section
/-! DEFINITION. Who may reach and write a register: owners and semaphores (R406, R407), secure channels (R408), and what is
reachable while the main side is down or in a warm start (R340, R412). -/

namespace Sys2Proof.Machine

/-- How an access of a master to a register word ends. -/
inductive Access where
  /-- It is made. -/
  | ok
  /-- Its block cannot be reached: reads 0xFFFF_FFFF, writes discarded (R340, R412). -/
  | unreachable
  /-- A write refused by the block's owner (R406). -/
  | nonOwner
  /-- An access to a secure Mortar channel by a non-secure master (R408). -/
  | insecure
  deriving DecidableEq, Repr

/-- The owner field of block `b` (R417): 0 HOST, 1 SIDEBAND, 2 SHARED. -/
def State.owner (s : State) (b : Nat) : Nat := bitsOf (s.word (F.OWNERS.OWNER (b / 16)).addr) (2 * (b % 16)) 2

/-- The code of an external master in SEM_b.HOLDER (R407). -/
def holderCode : Master → Nat
  | .m3 => 1
  | .m4 => 2
  | _ => 0

/-- The block's owner rules let the master write it (R406). -/
def State.ownerAllows (s : State) (m : Master) (b : Nat) : Bool :=
  match m with
  | .m3 | .m4 =>
    !s.ownersLoaded || b == 0 || b == 1 || b == 2 ||
      (match s.owner b with
       | 0 => decide (m = .m3)
       | 1 => decide (m = .m4)
       | 2 => s.rd (F.SEM.HOLDER b) == holderCode m
       | _ => false)
  | _ => true

/-- The master is secure (R408). -/
def State.masterSecure (s : State) (m : Master) : Bool :=
  match m with
  | .m3 => s.flag F.SECURE_CFG.HOST_SECURE
  | .m4 => s.flag F.SECURE_CFG.SB_SECURE
  | _ => true

/-- The word is the CH_CFG of a Mortar channel with SECURE = 1 (R443, R448). -/
def State.secureWord (s : State) (a : Nat) : Bool :=
  decide (0x71000 ≤ a) && decide (a < 0x71400) && bitsOf (s.word a) 28 1 == 1

/-- What the sideband window reaches with the main side down or during a warm start (R412). -/
def windowAlways (a : Nat) : Bool :=
  match ownerBlock a with
  | some b => alwaysOnBlock b || (decide (0x30010 ≤ a) && decide (a ≤ 0x30020)) ||
      (decide (0x30100 ≤ a) && decide (a < 0x30188)) || a == 0x10004 || a == 0x10008
  | none => true

/-- The word can be reached by the master now (R22, R340, R412). Space no block covers is reachable and reserved (R476). -/
def State.reachable (s : State) (m : Master) (a : Nat) : Bool :=
  match m with
  | .m4 => s.power.vin && ((s.power.mainUp && s.start != 2) || windowAlways a)
  | .m3 => s.power.mainUp && (s.start != 2 ||
      (match ownerBlock a with
       | some b => b == 0 || b == 1 || b == 2 || b == 3 || b == 4 || b == 11 || b == 12
       | none => true))
  | _ => s.power.mainUp

/-- The words whose writes the owner field does not gate: SEM_b, whose commands R407 judges by the writing master, and
FUSE_CMD, which R413 refuses by its own report. -/
def ownerExempt (a : Nat) : Bool :=
  (decide (0x30100 ≤ a) && decide (a < 0x30188)) || a == 0x30200

/-- The master may change CLAIM: only the Formula, the host and the sideband host do, no unit writes its own (R306). -/
def claimAllows (m : Master) (a : Nat) : Bool := a != F.CLAIM.VAL.addr || m == .m3 || m == .m4 || m == .m5

/-- How a write of the master to the word at `a` ends. -/
def State.writeAccess (s : State) (m : Master) (a : Nat) : Access :=
  if !s.reachable m a then .unreachable
  else
    match ownerBlock a with
    | none => .ok
    | some b =>
      if !claimAllows m a || (!ownerExempt a && !s.ownerAllows m b) then .nonOwner
      else if s.secureWord a && !s.masterSecure m then .insecure
      else .ok

/-- How a read of the master of the word at `a` ends. -/
def State.readAccess (s : State) (m : Master) (a : Nat) : Access :=
  if !s.reachable m a then .unreachable
  else if s.secureWord a && !s.masterSecure m then .insecure
  else .ok

/-- FX bits of `w` that differ from the value in force (R470). -/
def State.fxDiffers (s : State) (a : Nat) (w : Word) : Bool := ((s.word a ^^^ w) &&& accMask a [.fx]) != 0

/-- Report a non-owner write in the block of the refused master (R406). The spec gives a counter to M3 and M4 only: a refused
write of another master is counted nowhere, which is the model's choice (log 71). -/
def State.reportNonOwner (s : State) (m : Master) : State :=
  match m with
  | .m3 => (s.bump F.HOSTIF_NONOWNER_CNT).raise Src.HOSTIF.NONOWNER_WRITE
  | .m4 => (s.bump F.SIDEBAND_NONOWNER_CNT).raise Src.SIDEBAND.NONOWNER_WRITE
  | _ => s

/-- Report a secure refusal in the block of the refused master (R408). -/
def State.reportInsecure (s : State) (m : Master) : State :=
  match m with
  | .m3 => (s.bump F.HOSTIF_NONOWNER_CNT).raise Src.HOSTIF.SECURE_REFUSED
  | .m4 => (s.bump F.SIDEBAND_NONOWNER_CNT).raise Src.SIDEBAND.SECURE_REFUSED
  | _ => s

/-- A write of a master other than the loader that would change an FX bit is reported once (R11, R470); the bit stays. -/
def State.reportFx (s : State) (m : Master) (a : Nat) (w : Word) : State :=
  if m != .m5 && s.fxDiffers a w then s.reportNonOwner m else s

/-- Make a write of `m` to the word at `a`: `act` if it is allowed, else its report and nothing more. -/
def State.gate (s : State) (m : Master) (a : Nat) (act : State → State) : State :=
  match s.writeAccess m a with
  | .ok => act s
  | .unreachable => s
  | .nonOwner => s.reportNonOwner m
  | .insecure => s.reportInsecure m

/-- A main-side event: it takes place only while the main side is up. -/
def State.onMain (s : State) (act : State → State) : State := if s.power.mainUp then act s else s

/-- An event of the always-on domain: it takes place only while VIN is in range (R22). -/
def State.onVin (s : State) (act : State → State) : State := if s.power.vin then act s else s

end Sys2Proof.Machine
end

