-- ==== Sys2Proof/Machine/SilTrig.lean ====
section
/-! DEFINITION. What a Sillage trigger does (R110, R111). -/

namespace Sys2Proof.Machine

/-- A trigger that cannot be taken is missed (R111). -/
def State.missTrigger (s : State) : State := (s.bump F.TRIG_MISSED_CNT).raise Src.SILLAGE.TRIG_MISSED

/-- A trigger whose sample lies in the block in progress (R111): in CONTINUOUS capture it marks the block, in TRIGGERED it begins
a record once armed. In the cycle of a STOP it is ignored. -/
def State.silTrigger (s : State) : State :=
  if !s.flag F.SIL_CTRL.ENABLE || s.noted F.SIL_CTRL.STOP.key then s
  else if !s.flag F.SIL_CTRL.CAPTURE then
    if s.sil.trig then s.missTrigger else { s with sil := { s.sil with trig := true } }
  else if s.sil.recording || s.sil.holdoff then s.missTrigger
  else if s.sil.armed then
    State.note { s with sil := { s.sil with trig := true, recording := true, postLeft := max 1 (s.rd F.TRIG_WIN.POST_BLK) } }
      F.TRIG_CMD.FIRE.key
  else s

/-- The trigger of source code `src` of R110, where TRIG_CFG selects it. -/
def State.silTriggerFrom (s : State) (src : Nat) : State := if s.rd F.TRIG_CFG.SOURCE = src then s.silTrigger else s

/-- A strobe group's edge (R110). -/
def State.silGroup (s : State) (g : Nat) : State := if s.rd F.TRIG_CFG.GROUP = g then s.silTriggerFrom 2 else s

end Sys2Proof.Machine
end

