-- ==== Sys2Proof/Machine/TileBase.lean ====
section
/-! DEFINITION. What the tiles, the loops and calibration share: a tile's and a loop's own state, the loop states of R139 to
R141, and how a tile becomes due for calibration (R350). -/

namespace Sys2Proof.Machine

/-- A tile as it is before anything has happened to it. -/
def tileIdle : Tile where
  pockFree := false
  htrFree := 0
  shutOpen := 0
  holdP := 0
  holdH := 0
  warmP := 0
  warmH := 0
  moved := []
  slotShadow := 0
  slotAct := 0
  sinceStrobe := none
  strobeCyc := 0
  strobes := 0
  lowPower := false
  recs := []
  onWay := 0
  frame := none
  focus := none
  focusNum := 0
  focusHeld := []
  focusBuf := []
  focusClip := none
  cut := false
  diag := none
  rbNext := 0
  rbTurn := false
  rbRun := []
  clipRun := []
  down := []
  held := []
  probe := 0
  scanAt := none
  heaters := 0

def State.tile (s : State) (t : Nat) : Tile := sparseGet (fun _ => tileIdle) s.tiles t

def State.setTile (s : State) (t : Nat) (x : Tile) : State :=
  { s with tiles := sparsePut (fun _ => tileIdle) s.tiles t x }

def loopIdle : LoopMem := ⟨0, 0, false, 0, 0, 0, 0, none, 0, none, none⟩

def State.loopMem (s : State) (l : Nat) : LoopMem := sparseGet (fun _ => loopIdle) s.loops l

def State.setLoopMem (s : State) (l : Nat) (x : LoopMem) : State :=
  { s with loops := sparsePut (fun _ => loopIdle) s.loops l x }

/-- The bits of a tile's word that analogue latches hold, powered by the drive rail (R72): DRV_ENABLE, the active codes,
selects and ranges, the active shutters. -/
def latchMask (a : Nat) : Word :=
  let off := (a - 0x500000) % 16384
  if a < 0x500000 ∨ 0x630000 ≤ a ∨ 0x2000 ≤ off then 0
  else if off = 4 ∨ off = 0xD14 ∨ off = 0xD18 then 0xFFFFFFFF
  else if 0x100 ≤ off ∧ off < 0x900 ∧ off % 32 = 0x10 then 0xFFFFFFFF
  else if 0x100 ≤ off ∧ off < 0x900 ∧ off % 32 = 0x14 then 0x3
  else if 0x900 ≤ off ∧ off < 0xD00 ∧ off % 16 = 8 then 0x1FFFF
  else 0

/-- Set or clear bit `n` of a mask. -/
def setBit {w : Nat} (m : BitVec w) (n : Nat) (b : Bool) : BitVec w :=
  if b then m ||| BitVec.ofNat w (2 ^ n) else m &&& ~~~BitVec.ofNat w (2 ^ n)

/-- LINK_STATUS.UP of the tile (R99). -/
def State.linkUp (s : State) (t : Nat) : Bool := s.flag (F.TILE_LINK_STATUS.UP t)

/-- The tile itself holds the word at offset `off` of its window: an access to it travels over the tile's link as a REG
transaction (R102). Fault, counter, supervision and status words are the control die's (log 59). -/
def tileHolds (off : Nat) : Bool :=
  off == 4 || off == 8 || (decide (0x100 ≤ off) && decide (off < 0xD24)) || off == 0x2000 || off == 0x2008 || off == 0x200C ||
    off == 0x201C || (decide (0x2040 ≤ off) && decide (off < 0x2060))

/-- An access that travels over the tile's link: nothing new reaches a tile whose link is down (R102, R103). -/
def State.gateTile (s : State) (m : Master) (t a : Nat) (act : State → State) : State :=
  s.gate m a fun s => if s.linkUp t then act s else s

/-- A run of `run` reaches a count now, or has passed one that was lowered while its status bit `set` was clear. -/
def reached (run count : Nat) (set : Bool) : Bool := run == count || (decide (count < run) && !set)

/-! ## Loop states (R139–R141) -/

/-- Fields of a loop's words (R163), by loop index. -/
def loopCtrlTarget (l : Nat) : Field := F.LOOP_CTRL.TARGET (loopCourse l) (loopIndex l)
def loopStatState (l : Nat) : Field := F.LOOP_STAT.STATE (loopCourse l) (loopIndex l)

/-- H_HOST: LOOP_CTRL.HOLD or COURSE_CTRL.HOLD_ALL (R141). -/
def State.hHost (s : State) (l : Nat) : Bool :=
  s.flag (F.LOOP_CTRL.HOLD (loopCourse l) (loopIndex l)) || s.flag (F.COURSE_CTRL.HOLD_ALL (loopCourse l))

def State.hEvt (s : State) (l : Nat) : Bool := s.flag (F.LOOP_STAT.H_EVT (loopCourse l) (loopIndex l))

/-- H_CAL: the loop's tile calibrates (R141). -/
def State.hCal (s : State) (l : Nat) : Bool := (s.calib.runs.lookup (loopTile l)).isSome

def State.hWarm (s : State) (l : Nat) : Bool := s.warmHold.getLsbD (loopCourse l)

def State.held (s : State) (l : Nat) : Bool := s.hHost l || s.hEvt l || s.hCal l || s.hWarm l

/-- The state that TARGET and the hold causes name (R140): 0 OFF, 1 MANUAL, 2 AUTO, 3 HELD. -/
def State.loopGoal (s : State) (l : Nat) : Nat :=
  match s.rd (loopCtrlTarget l) with
  | 1 => 1
  | 2 => if s.held l then 3 else 2
  | _ => 0

/-- The loop's state, which POCK_STAT.LOOP mirrors (R81, R142). STATE in LOOP_STAT changes at once between OFF, MANUAL and
HELD; it leaves AUTO at TRANSFER_OUT_OF_AUTO and enters it at TRANSFER_INTO_AUTO. -/
def State.loopState (s : State) (l : Nat) : Nat :=
  let goal := s.loopGoal l
  let now := s.rd (loopStatState l)
  if s.hWarm l then goal
  else if now = 2 then 2
  else if goal = 2 then now
  else goal

/-- LOOP_STAT.BUSY: a transfer into or out of AUTO is not complete (R142). -/
def State.loopBusy (s : State) (l : Nat) : Bool := s.loopState l != s.loopGoal l

/-- Write down the state the loop is in, before its TARGET or a hold cause changes. -/
def State.settleLoop (s : State) (l : Nat) : State := s.wr (loopStatState l) (s.loopState l)

/-- The host may write the loop's codes, ranges and state words: MANUAL or HELD (R139). -/
def State.hostMayWrite (s : State) (l : Nat) : Bool := s.loopState l == 1 || s.loopState l == 3

/-- The loops of a course whose word of the array at offset `off` of the course's window is listed. -/
def State.listedAt (s : State) (c off : Nat) : List Nat :=
  s.regs.filterMap fun e =>
    if 0x300000 + off + 65536 * c ≤ e.1 ∧ e.1 < 0x300400 + off + 65536 * c then
      some (256 * c + (e.1 - (0x300000 + off + 65536 * c)) / 4)
    else none

/-- The loops of a course whose LOOP_CTRL or LOOP_STAT word is listed. Any other loop has TARGET OFF, HOLD 0, EVT_MASK 0 and
REP_FREEZE 0, its Cold values, and is OFF with no transfer in progress. -/
def State.listedLoops (s : State) (c : Nat) : List Nat :=
  let ctrl := s.listedAt c 0x1000
  ctrl ++ (s.listedAt c 0x1400).filter fun l => !ctrl.contains l

/-- Settle every listed loop of a course. -/
def State.settleCourse (s : State) (c : Nat) : State := (s.listedLoops c).foldl State.settleLoop s

/-! ## Calibration due (R350) -/

/-- The causes of R350, as bits of TILE_CAL_STAT.CAUSE: 0 TEMP, 1 CHANGE, 2 PERIOD, 3 HOST. -/
def State.markDue (s : State) (t cause : Nat) : State :=
  let auto := (s.rd (F.CAL_AUTO.AUTO (t / 32))).testBit (t % 32)
  if cause == 3 || auto then
    let f := F.TILE_CAL_STAT.CAUSE t
    ((s.wr f (s.rd f ||| 2 ^ cause)).setFlag (F.TILE_CAL_STAT.DUE t) true).setFlag
      ⟨(F.CAL_DUE.DUE (t / 32)).addr, t % 32, 1⟩ true
  else s

/-- An active code or range changed on a channel: if the tile's DRIFT measurement runs, that channel's offset trims stay
unchanged in it and the tile becomes due again with cause CHANGE (R350, R356). -/
def State.touchCal (s : State) (t ch : Nat) : State :=
  match s.calib.runs.lookup t with
  | some run =>
    if run.kind = 1 ∧ run.staged = none then
      let run' := { run with touched := setBit run.touched ch true }
      State.markDue { s with calib := { s.calib with
        runs := s.calib.runs.map fun e => if e.1 = t then (t, run') else e } } t 1
    else s
  | none => s

/-- Settle the listed loops of a tile, before its H_CAL changes. -/
def State.settleTile (s : State) (t : Nat) : State :=
  ((s.listedLoops (tileCourse t)).filter fun l => loopTile l == t).foldl State.settleLoop s

/-- A tile's calibration ends, however: H_CAL and STALE clear, and read-backs go unchecked for 1 µs (R75, R352). -/
def State.endCal (s : State) (t : Nat) : State :=
  let s1 := s.settleTile t
  let s2 := { s1 with calib := { s1.calib with runs := s1.calib.runs.filter fun e => decide (e.1 ≠ t) } }
  let s3 := (s2.setFlag (F.TILE_CAL_STAT.BUSY t) false).wr F.CAL_STATUS.RUNNING (min 31 s2.calib.runs.length)
  let x := s3.tile t
  s3.setTile t { x with moved := (List.range 64).map fun ch => (ch, s3.clock) }

/-- Nothing is loaded and the tile stays due (R356). -/
def State.abandonCal (s : State) (t : Nat) : State :=
  if (s.calib.runs.lookup t).isSome then s.endCal t else s

end Sys2Proof.Machine
end

