-- ==== Sys2Proof/Machine/Drive.lean ====
section
/-! DEFINITION. The drive side of the tiles (R53–R84): shadow sets, seals, transfers, range changes, strobes at a tile, the
drive rail and supervision. Set states are those of R81: 0 EMPTY, 1 OPEN, 2 SEALED. -/

namespace Sys2Proof.Machine

/-- The host or the sideband host, to which R63 applies. -/
def externalHost (m : Master) : Bool := m == .m3 || m == .m4

/-- All channels of a tile. -/
def channels : List Nat := List.range 64

/-! ## Fields by ladder -/

def shdCode (t ch k : Nat) : Field := if k = 0 then F.POCK_SHD0.CODE t ch else F.POCK_SHD1.CODE t ch
def ladderSet (t ch k : Nat) : Field := if k = 0 then F.POCK_STAT.L0_SET t ch else F.POCK_STAT.L1_SET t ch
def actCode (t ch k : Nat) : Field := if k = 0 then F.POCK_ACT.ACT0 t ch else F.POCK_ACT.ACT1 t ch

/-! ## Transfers (R59–R61) -/

/-- Something of the channel moved: the read-back of R75 is not checked for 1 µs. -/
def State.stampMove (s : State) (t ch : Nat) : State :=
  let x := s.tile t
  s.setTile t { x with moved := sparseInsert x.moved ch s.clock }

/-- A SEALED ladder set becomes active (R60, R61). -/
def State.transferLadder (s : State) (t ch k : Nat) : State :=
  let s1 := (s.wr (actCode t ch k) (s.rd (shdCode t ch k))).wr (ladderSet t ch k) 0
  let x := s1.tile t
  ((s1.setTile t { x with warmP := setBit x.warmP ch false }).stampMove t ch).touchCal t ch

def State.transferIfSealed (s : State) (t ch k : Nat) : State :=
  if s.rd (ladderSet t ch k) = 2 then s.transferLadder t ch k else s

/-- Seal a ladder set; the unselected ladder's transfers at its seal (R59, R61). -/
def State.sealLadder (s : State) (t ch k : Nat) : State :=
  if s.rd (ladderSet t ch k) = 1 then
    let s1 := s.wr (ladderSet t ch k) 2
    if s.rd (F.POCK_STAT.ACT_SEL t ch) = k then s1 else s1.transferLadder t ch k
  else s

def State.sealSelect (s : State) (t ch : Nat) : State :=
  if s.rd (F.POCK_STAT.SEL_SET t ch) = 1 then s.wr (F.POCK_STAT.SEL_SET t ch) 2 else s

def State.sealHeater (s : State) (t ch : Nat) : State :=
  if s.rd (F.HTR_ACT.SET t ch) = 1 then s.wr (F.HTR_ACT.SET t ch) 2 else s

/-- Seal every OPEN shutter set of a trim tile (R59, R79). -/
def State.sealShutters (s : State) (t : Nat) : State :=
  if isTrimTile t then
    let x := s.tile t
    (s.wrW (F.SHUT_PEND t) (s.rdW (F.SHUT_PEND t) ||| x.shutOpen.toNat)).setTile t { x with shutOpen := 0 }
  else s

/-! ## Refusals and missed strobes -/

/-- Refused host writes (R63). -/
def State.refuseWrites (s : State) (t n : Nat) : State :=
  if n = 0 then s else (s.bumpBy (F.TILE_REFUSED_CNT t) n).raise (Src.DRIVE.WRITE_REFUSED t)

/-- Bit `n` of a 64-bit value in a LO and a HI word, as a field of its word. -/
def bitField (w : Wide) (n : Nat) : Field := ⟨w.addr + 4 * (n / 32), n % 32, 1⟩

/-- `n` sets missed a strobe: the channel bits `w`, MISSED_CNT and MISSED_STROBE (R60). -/
def State.missStrobe (s : State) (t : Nat) (w : Wide) (chs : List Nat) : State :=
  if chs.isEmpty then s
  else ((chs.foldl (fun s ch => s.setEvent (bitField w ch)) s).bumpBy (F.MISSED_CNT t) chs.length).raise
    (Src.DRIVE.MISSED_STROBE t)

/-! ## The plane strobe at a tile (R60–R62, R69–R71) -/

/-- A new code of a Pockels range change: doubled, or halved with half to even (R70). -/
def convertCode (toFine : Bool) (code : Nat) : Nat :=
  if toFine then 2 * code else (roundEvenDiv code 2).toNat

/-- The change of a SEALED select set's RANGE is refused (R62, R70). -/
def State.rangeRefused (s : State) (t ch : Nat) : Bool :=
  (s.rd (F.POCK_SEL_SHD.RANGE t ch) == 1 &&
    (decide (0x8000 ≤ s.rd (F.POCK_ACT.ACT0 t ch)) || decide (0x8000 ≤ s.rd (F.POCK_ACT.ACT1 t ch)))) ||
  s.rd (F.POCK_STAT.L0_SET t ch) != 0 || s.rd (F.POCK_STAT.L1_SET t ch) != 0 || !s.hostMayWrite (loopAt t ch)

/-- A Pockels range change takes effect: both ladders convert and the buffer holds (R69, R70). -/
def State.changeRange (s : State) (t ch : Nat) : State :=
  let target := s.rd (F.POCK_SEL_SHD.RANGE t ch)
  let s1 := ((s.wr (F.POCK_ACT.ACT0 t ch) (convertCode (target == 1) (s.rd (F.POCK_ACT.ACT0 t ch)))).wr
    (F.POCK_ACT.ACT1 t ch) (convertCode (target == 1) (s.rd (F.POCK_ACT.ACT1 t ch)))).wr (F.POCK_STAT.ACT_RANGE t ch) target
  let x := s1.tile t
  ((s1.setTile t { x with holdP := setBit x.holdP ch true }).touchCal t ch).markDue t 1

/-- A SEALED select set at the plane strobe: the range rules, then SEL with the sealed ladder sets of R61, then EMPTY. -/
def State.transferSelect (s : State) (t ch : Nat) : State :=
  let ranged := s.rd (F.POCK_SEL_SHD.RANGE t ch) != s.rd (F.POCK_STAT.ACT_RANGE t ch)
  let refused := ranged && s.rangeRefused t ch
  let s1 :=
    if refused then
      ((s.wr (F.POCK_SEL_SHD.RANGE t ch) (s.rd (F.POCK_STAT.ACT_RANGE t ch))).bump (F.TILE_REFUSED_CNT t)).raise
        (Src.DRIVE.RANGE_REFUSED t)
    else s
  let sel := s1.rd (F.POCK_SEL_SHD.SEL t ch)
  let s2 :=
    if sel = s1.rd (F.POCK_STAT.ACT_SEL t ch) then s1
    else (s1.transferIfSealed t ch 0).transferIfSealed t ch 1
  let s3 := if ranged && !refused then s2.changeRange t ch else s2
  let s4 := (s3.wr (F.POCK_STAT.ACT_SEL t ch) sel).wr (F.POCK_STAT.SEL_SET t ch) 0
  let x := s4.tile t
  (s4.setTile t { x with warmP := setBit x.warmP ch false, slotAct := x.slotShadow }).stampMove t ch

/-- The plane strobe at one channel. -/
def State.strobeSelect (s : State) (t ch : Nat) : State :=
  if s.rd (F.POCK_STAT.SEL_SET t ch) = 2 then s.transferSelect t ch else s

/-- The outputs are frozen: PARKED after a warm start (R71, R344). -/
def State.frozen (s : State) : Bool := s.start == 5 && s.flag F.START_STATUS.KIND

/-- A plane strobe edge at a tile with a good rail. Every seal of the strobe cycle has already landed (R60). `cyc` is the
tile cycle of the scan in which the edge falls (R100). -/
def State.planeEdge (s : State) (t cyc : Nat) : State :=
  let missed := channels.filter fun ch => s.rd (F.POCK_STAT.SEL_SET t ch) != 2
  let s1 := (channels.foldl (fun s ch => s.strobeSelect t ch) s).missStrobe t (F.MISSED_POCK t) missed
  let x := s1.tile t
  s1.setTile t { x with
    pockFree := x.pockFree || s1.flag (F.DRV_ENABLE.POCK_EN t)
    sinceStrobe := some (-(cyc : Int))
    strobeCyc := cyc
    strobes := min 255 (x.strobes + 1) }

/-! ## Heater and shutter strobes (R60, R66, R69) -/

/-- A SEALED heater set transfers; a range change holds the output (R69, R70). -/
def State.transferHeater (s : State) (t ch : Nat) : State :=
  let range := s.rd (F.HTR_SHD.RANGE t ch)
  let ranged := range != s.rd (F.HTR_ACT.ACT_RANGE t ch)
  let s1 := ((s.wr (F.HTR_ACT.ACT_CODE t ch) (s.rd (F.HTR_SHD.CODE t ch))).wr (F.HTR_ACT.ACT_RANGE t ch) range).wr
    (F.HTR_ACT.SET t ch) 0
  let x := s1.tile t
  let s2 := ((s1.setTile t { x with
    warmH := setBit x.warmH ch false
    holdH := if ranged then setBit x.holdH ch true else x.holdH }).stampMove t ch).touchCal t ch
  if ranged then s2.markDue t 1 else s2

/-- A heater strobe over some channels: SEALED sets transfer, OPEN ones miss, and the forced zero releases where HTR_EN is set
(R60, R71). -/
def State.heaterStrobe (s : State) (t : Nat) (chs : List Nat) : State :=
  let missed := chs.filter fun ch => s.rd (F.HTR_ACT.SET t ch) == 1
  let s1 := chs.foldl (fun s ch =>
    let s1 := if s.rd (F.HTR_ACT.SET t ch) = 2 then s.transferHeater t ch else s
    let x := s1.tile t
    if s1.flag (F.DRV_ENABLE.HTR_EN t) then s1.setTile t { x with htrFree := setBit x.htrFree ch true } else s1) s
  s1.missStrobe t (F.MISSED_HTR t) missed

/-- A shutter strobe over some channels of a trim tile: SEALED sets transfer, OPEN ones miss, and EMPTY ones miss when the
group follows a plane strobe (R60). -/
def State.shutterStrobe (s : State) (t : Nat) (chs : List Nat) (follows : Bool) : State :=
  let pend := s.rdW (F.SHUT_PEND t)
  let x := s.tile t
  let missed := chs.filter fun ch => !pend.testBit ch && (x.shutOpen.getLsbD ch || follows)
  let s1 := chs.foldl (fun s ch =>
    if pend.testBit ch then
      (s.setBitW (F.SHUT_ACT t) ch ((s.rdW (F.SHUT_SHD t)).testBit ch)).setBitW (F.SHUT_PEND t) ch false
    else s) s
  s1.missStrobe t (F.MISSED_SHUT t) missed

/-- A strobe group's edge at a tile: its heaters and, on a trim tile, its shutters (R66). -/
def State.groupEdge (s : State) (g t : Nat) : State :=
  let heaters := channels.filter fun ch => s.rd (F.CH_CFG.HGRP t ch) == g
  let shutters := if isTrimTile t then channels.filter fun ch => s.rd (F.CH_CFG.SGRP t ch) == g else []
  (s.heaterStrobe t heaters).shutterStrobe t shutters (s.rd (F.STRB_GRP.MODE g) == 1)

/-- Group `g` fires at the tiles that `at_` names: HGRP_FIRED sets for every loop there whose heater belongs to it, whatever
the tile's rail does (R126), and STRB_FIRED shows it (R84). -/
def State.noteGroup (s : State) (g : Nat) (at_ : Nat → Bool) : State :=
  s.loops.foldl (fun s e =>
    if e.2.heaterWaits && at_ (loopTile e.1) && s.rd (F.CH_CFG.HGRP (loopTile e.1) (loopChan e.1)) == g then
      s.setLoopMem e.1 { s.loopMem e.1 with heaterWaits := false }
    else s) (s.setEvent { F.STRB_FIRED.GRP with lsb := g, width := 1 })

/-- Tile `t` drives the capture bus that SIL_SRC code `code` names (R104, R105). -/
def State.drivesBus (s : State) (t code : Nat) : Bool :=
  decide (code < 8) && tileDie t == code / 2 &&
    s.flag (if code % 2 = 0 then F.FAST_CFG.A_EN t else F.FAST_CFG.B_EN t)

/-- A LOAD group fires at tile `t` alone. Sillage triggers on it where it watches that tile (R110, log 49). -/
def State.loadGroup (s : State) (t g : Nat) : State :=
  let s1 := s.noteGroup g (· == t)
  let s2 :=
    if s.drivesBus t (s.rd F.SIL_SRC.SRC_A) || (s.flag F.SIL_CTRL.MODE && s.drivesBus t (s.rd F.SIL_SRC.SRC_B)) then s1.silGroup g
    else s1
  s2.heaterStrobe t (channels.filter fun ch => s.rd (F.CH_CFG.HGRP t ch) == g)

/-- The tile load strobe of a scan start (R65, R66): sealed sets of the selected ladders, and heaters of LOAD groups. An OPEN
set of the selected ladder misses it (R60). -/
def State.loadStrobe (s : State) (t : Nat) : State :=
  let sel (ch : Nat) : Nat := s.rd (F.POCK_STAT.ACT_SEL t ch)
  let missed := channels.filter fun ch => s.rd (ladderSet t ch (sel ch)) == 1
  let s1 := (channels.foldl (fun s ch => s.transferIfSealed t ch (sel ch)) s).missStrobe t (F.MISSED_POCK t) missed
  ((List.range 8).filter fun g => s.rd (F.STRB_GRP.MODE g) == 2).foldl (fun s g => s.loadGroup t g) s1

/-! ## Firing strobes -/

def allTiles : BitVec 76 := BitVec.allOnes 76

def State.groupInFlight (s : State) (g : Nat) : BitVec 76 := sparseGet (fun _ => 0) s.strobes.groups g

def State.setGroupInFlight (s : State) (g : Nat) (v : BitVec 76) : State :=
  { s with strobes := { s.strobes with groups := sparsePut (fun _ => 0) s.strobes.groups g v } }

/-- Group `g` fires: its edges are on their way to every tile (R66), and Sillage may trigger on them (R110). -/
def State.fireGroup (s : State) (g : Nat) : State :=
  (((s.noteGroup g fun _ => true).setGroupInFlight g allTiles).emitOut (.strobe (g + 1))).silGroup g

/-- The SLOT groups fire at a plane strobe plus OFFSET (R66); a command or protection strobe fires as `due` allows. -/
def State.fireSlotGroups (s : State) (due : Int → Bool) : State :=
  (List.range 8).foldl (fun s g =>
    if s.rd (F.STRB_GRP.MODE g) = 1 ∧ due (s.rdS (F.STRB_GRP.OFFSET g)) = true then s.fireGroup g else s) s

/-- The plane strobe fires: its edges are on their way (R64), Sillage may trigger on them (R110), and the SLOT groups follow. -/
def State.firePlane (s : State) (due : Int → Bool) : State :=
  (({ (s.setEvent F.STRB_FIRED.PLANE) with
    strobes := { s.strobes with plane := allTiles, cmd := false, firedAt := some s.clock }
  }.emitOut (.strobe 0)).silTriggerFrom 1).fireSlotGroups due

/-! ## Host writes to the shadows (R63) -/

/-- A write of a ladder code: MANUAL or HELD only for the hosts; the set opens (R59, R63). -/
def State.writeLadder (s : State) (m : Master) (t ch k : Nat) (w : Word) : State :=
  if externalHost m && !s.hostMayWrite (loopAt t ch) then s.refuseWrites t 1
  else (s.wr (shdCode t ch k) (bitsOf w 0 16)).wr (ladderSet t ch k) 1

/-- A write of POCK_SEL_SHD: a SEL bit that differs is refused, RANGE goes by R68; one write is one refusal (R63). -/
def State.writeSelShadow (s : State) (m : Master) (t ch : Nat) (w : Word) : State :=
  let selBad := externalHost m && bitsOf w 0 1 != s.rd (F.POCK_SEL_SHD.SEL t ch)
  let rangeBad := externalHost m && !s.hostMayWrite (loopAt t ch)
  let s1 := if rangeBad then s else (s.wr (F.POCK_SEL_SHD.RANGE t ch) (bitsOf w 1 1)).wr (F.POCK_STAT.SEL_SET t ch) 1
  if selBad || rangeBad then s1.refuseWrites t 1 else s1

/-- A write of a heater's code and range (R63, R68). -/
def State.writeHeater (s : State) (m : Master) (t ch : Nat) (w : Word) : State :=
  if externalHost m && !s.hostMayWrite (loopAt t ch) then s.refuseWrites t 1
  else ((s.wr (F.HTR_SHD.CODE t ch) (bitsOf w 0 16)).wr (F.HTR_SHD.RANGE t ch) (bitsOf w 16 1)).wr (F.HTR_ACT.SET t ch) 1

/-- A write of half `h` of SHUT_SHD acts on each of its 32 channels (R83); a switching tile ignores it (R79). -/
def State.writeShutters (s : State) (m : Master) (t h : Nat) (w : Word) : State :=
  if isTrimTile t then
    let old := s.rdW (F.SHUT_SHD t)
    let differ := ((List.range 32).map (32 * h + ·)).filter fun ch => w.getLsbD (ch - 32 * h) != old.testBit ch
    let taken (ch : Nat) : Bool := !externalHost m || s.loopState (loopAt t ch) == 1
    let s1 := (differ.filter taken).foldl (fun s ch =>
      let s1 := (s.setBitW (F.SHUT_SHD t) ch (w.getLsbD (ch - 32 * h))).setBitW (F.SHUT_PEND t) ch false
      let x := s1.tile t
      s1.setTile t { x with shutOpen := setBit x.shutOpen ch true }) s
    s1.refuseWrites t (differ.filter fun ch => !taken ch).length
  else s

/-- A write of DRV_ENABLE: clearing clamps or zeroes at once (R72); setting releases at the next strobe (R71). -/
def State.writeDrvEnable (s : State) (t : Nat) (w : Word) : State :=
  let s1 := (s.wr (F.DRV_ENABLE.POCK_EN t) (bitsOf w 0 1)).wr (F.DRV_ENABLE.HTR_EN t) (bitsOf w 1 1)
  let x := s1.tile t
  s1.setTile t { x with
    pockFree := x.pockFree && w.getLsbD 0
    htrFree := if w.getLsbD 1 then x.htrFree else 0 }

/-! ## The drive rail (R71–R73) -/

/-- What drive-rail-good resets in a tile's words (R72). -/
def latchReset (t a : Nat) (w : Word) : Word :=
  if 0x500000 + 16384 * t ≤ a ∧ a < 0x504000 + 16384 * t then w &&& ~~~latchMask a else w

/-- The analogue latches of a tile at drive-rail-good (R71, R72). -/
def State.resetLatches (s : State) (t : Nat) : State :=
  let x := s.tile t
  (s.mapWords (latchReset t)).setTile t { x with
    pockFree := false, htrFree := 0, holdP := 0, holdH := 0, warmP := 0, warmH := 0 }

/-! What leaves the tile (R23, R71, R73): undriven without a drive rail, at the power-up state while clamped or forced to zero,
else as the active latches say. A shutter is open when it is unbiased. -/

/-- The code that drives the channel's Pockels output, 0 being 0 V. -/
def State.pockOutput (s : State) (t ch : Nat) : Nat :=
  if s.railGood t && (s.tile t).pockFree then s.rd (actCode t ch (s.rd (F.POCK_STAT.ACT_SEL t ch))) else 0

/-- The code that drives the channel's heater output, 0 being 0 mA. -/
def State.heaterOutput (s : State) (t ch : Nat) : Nat :=
  if s.railGood t && (s.tile t).htrFree.getLsbD ch then s.rd (F.HTR_ACT.ACT_CODE t ch) else 0

/-- Shutter `ch` of a trim tile lets light through. -/
def State.shutterOpen (s : State) (t ch : Nat) : Bool := !s.railGood t || (s.rdW (F.SHUT_ACT t)).testBit ch

/-- The tiles of a tile die (R16). -/
def dieTiles (d : Nat) : List Nat := (List.range 19).map (19 * d + ·)

def execDriveRailGood (d : Fin 4) (s : State) : Host.Outcome State Fault Refusal :=
  let s1 := { s with power := { s.power with drive := setBit s.power.drive d true } }
  .next (if s.power.rails then (dieTiles d).foldl State.resetLatches s1 else s)

/-- Outputs go undriven at once, the tiles report DRV_RAIL, their calibrations are abandoned (R73, R356, R376). -/
def execDriveRailFail (d : Fin 4) (s : State) : Host.Outcome State Fault Refusal :=
  let s1 := { s with power := { s.power with drive := setBit s.power.drive d false } }
  .next ((dieTiles d).foldl (fun s t => (s.abandonCal t).raise (Src.DRIVE.DRV_RAIL t)) s1)

/-! ## The commands -/

def execDrvEnableWrite (m : Master) (t : Fin 76) (w : Word) (s : State) : Host.Outcome State Fault Refusal :=
  .next (s.gateTile m t (F.DRV_ENABLE.POCK_EN t).addr fun s => s.writeDrvEnable t w)

def State.sealSelAll (s : State) (t : Nat) : State := channels.foldl (fun s ch => s.sealSelect t ch) s
def State.sealLadderAll (s : State) (t : Nat) : State :=
  channels.foldl (fun s ch => (s.sealLadder t ch 0).sealLadder t ch 1) s
def State.sealHtrAll (s : State) (t : Nat) : State := channels.foldl (fun s ch => s.sealHeater t ch) s

def execSealSelAll (m : Master) (t : Fin 76) (s : State) : Host.Outcome State Fault Refusal :=
  .next (s.gateTile m t (F.SEAL_CMD.SEL_ALL t).addr fun s => s.sealSelAll t)

def execSealLadderAll (m : Master) (t : Fin 76) (s : State) : Host.Outcome State Fault Refusal :=
  .next (s.gateTile m t (F.SEAL_CMD.LADDER_ALL t).addr fun s => s.sealLadderAll t)

def execSealHtrAll (m : Master) (t : Fin 76) (s : State) : Host.Outcome State Fault Refusal :=
  .next (s.gateTile m t (F.SEAL_CMD.HTR_ALL t).addr fun s => s.sealHtrAll t)

def execSealShutAll (m : Master) (t : Fin 76) (s : State) : Host.Outcome State Fault Refusal :=
  .next (s.gateTile m t (F.SEAL_CMD.SHUT_ALL t).addr fun s => s.sealShutters t)

def execPockSealL0 (m : Master) (t : Fin 76) (ch : Fin 64) (s : State) : Host.Outcome State Fault Refusal :=
  .next (s.gateTile m t (F.POCK_SEAL.L0 t ch).addr fun s => s.sealLadder t ch 0)

def execPockSealL1 (m : Master) (t : Fin 76) (ch : Fin 64) (s : State) : Host.Outcome State Fault Refusal :=
  .next (s.gateTile m t (F.POCK_SEAL.L1 t ch).addr fun s => s.sealLadder t ch 1)

def execPockSealSel (m : Master) (t : Fin 76) (ch : Fin 64) (s : State) : Host.Outcome State Fault Refusal :=
  .next (s.gateTile m t (F.POCK_SEAL.SEL t ch).addr fun s => s.sealSelect t ch)

def execHtrSeal (m : Master) (t : Fin 76) (ch : Fin 64) (s : State) : Host.Outcome State Fault Refusal :=
  .next (s.gateTile m t (F.HTR_SEAL.SEAL t ch).addr fun s => s.sealHeater t ch)

def execShutSeal (m : Master) (t : Fin 76) (s : State) : Host.Outcome State Fault Refusal :=
  .next (s.gateTile m t (F.SHUT_SEAL.SEAL t).addr fun s => s.sealShutters t)

def execPockShadowWrite (m : Master) (t : Fin 76) (ch : Fin 64) (k : Fin 2) (w : Word) (s : State) :
    Host.Outcome State Fault Refusal :=
  .next (s.gateTile m t (shdCode t ch k).addr fun s => s.writeLadder m t ch k w)

def execPockSelShdWrite (m : Master) (t : Fin 76) (ch : Fin 64) (w : Word) (s : State) :
    Host.Outcome State Fault Refusal :=
  .next (s.gateTile m t (F.POCK_SEL_SHD.SEL t ch).addr fun s => s.writeSelShadow m t ch w)

def execHtrShdWrite (m : Master) (t : Fin 76) (ch : Fin 64) (w : Word) (s : State) :
    Host.Outcome State Fault Refusal :=
  .next (s.gateTile m t (F.HTR_SHD.CODE t ch).addr fun s => s.writeHeater m t ch w)

def execShutShdWrite (m : Master) (t : Fin 76) (h : Fin 2) (w : Word) (s : State) :
    Host.Outcome State Fault Refusal :=
  .next (s.gateTile m t ((F.SHUT_SHD t).addr + 4 * h) fun s => s.writeShutters m t h w)

/-- STRB_CMD.GRP[n]: a COMMAND group fires, any other is refused and counted (R66). -/
def State.commandGroup (s : State) (g : Nat) : State :=
  if s.rd (F.STRB_GRP.MODE g) = 3 then s.fireGroup g else s.bump F.STRB_REFUSED_CNT

def execStrbCmdGrp (m : Master) (g : Fin 8) (s : State) : Host.Outcome State Fault Refusal :=
  .next (s.gate m F.STRB_CMD.GRP.addr fun s => s.commandGroup g)

/-- The edge of group `g` in flight reaches tile `t` (R66). -/
def State.groupStrobeAt (s : State) (g t : Nat) : State :=
  let e := s.groupInFlight g
  if e.getLsbD t then
    let s1 := s.setGroupInFlight g (setBit e t false)
    if s1.railGood t && !s1.frozen then s1.groupEdge g t else s1
  else s

def execGroupStrobe (g : Fin 8) (t : Fin 76) (s : State) : Host.Outcome State Fault Refusal :=
  .next (s.onMain fun s => s.groupStrobeAt g t)

/-- The hold of a channel's range change releases (R69): `heater` says which of the two buffers. -/
def State.releaseHold (s : State) (t ch : Nat) (heater : Bool) : State :=
  let x := s.tile t
  s.setTile t (if heater then { x with holdH := setBit x.holdH ch false }
    else { x with holdP := setBit x.holdP ch false })

def execRangeHoldRelease (t : Fin 76) (ch : Fin 64) (heater : Bool) (s : State) : Host.Outcome State Fault Refusal :=
  .next (s.releaseHold t ch heater)

/-! ## Supervision (R74–R78) -/

/-- The channel's heater is supervised: DETECT or BOTH (R74). -/
def State.detects (s : State) (t ch : Nat) : Bool := (s.rd (F.CH_CFG.SUPERVISION t ch)).testBit 1

/-- Heater current of a code, in units of 2^-16 µA: 2 mA or 4 mA full scale (R54). -/
def State.htrCurrent (s : State) (t ch : Nat) : Nat :=
  s.rd (F.HTR_ACT.ACT_CODE t ch) * (if s.rd (F.HTR_ACT.ACT_RANGE t ch) = 1 then 4000 else 2000)

/-- Delivered current has stayed below 50 % of the programmed one for DWELL (`on`), or no longer does (R76). -/
def State.heaterOpen (s : State) (t ch : Nat) (on : Bool) : State :=
  if s.detects t ch && on && decide (100 * 65536 ≤ s.htrCurrent t ch) then
    ((s.setFlag (F.HTR_SUP.OPEN t ch) true).setFlag (F.HTR_SUP.COMPLIANCE t ch) false).raise (Src.DRIVE.HTR_OPEN t)
  else s.setFlag (F.HTR_SUP.OPEN t ch) false

def execHtrOpen (t : Fin 76) (ch : Fin 64) (on : Bool) (s : State) : Host.Outcome State Fault Refusal :=
  .next (s.onMain fun s => s.heaterOpen t ch on)

/-- Output voltage has stayed at or above 2.90 V for DWELL (`on`), or no longer does; not reported while OPEN (R76). -/
def State.heaterCompliance (s : State) (t ch : Nat) (on : Bool) : State :=
  if s.detects t ch && on && !s.flag (F.HTR_SUP.OPEN t ch) then
    (s.setFlag (F.HTR_SUP.COMPLIANCE t ch) true).raise (Src.DRIVE.HTR_COMPLIANCE t)
  else s.setFlag (F.HTR_SUP.COMPLIANCE t ch) false

def execHtrCompliance (t : Fin 76) (ch : Fin 64) (on : Bool) (s : State) : Host.Outcome State Fault Refusal :=
  .next (s.onMain fun s => s.heaterCompliance t ch on)

/-- Shutter `ch`'s current (µA) has stood for `ns`: closed outside 2.0–4.5 mA or open above 0.2 mA for 1 µs or more (R77). -/
def State.shutterCurrent (s : State) (t ch microamps ns : Nat) : State :=
  let bad :=
    if s.shutterOpen t ch then decide (200 < microamps) else decide (microamps < 2000) || decide (4500 < microamps)
  if isTrimTile t && bad && decide (1000 ≤ ns) then
    (s.setEvent (bitField (F.SHUT_CUR t) ch)).raise (Src.DRIVE.SHUT_CURRENT t)
  else s

def execShutCurrent (t : Fin 76) (ch : Fin 64) (microamps ns : Nat) (s : State) : Host.Outcome State Fault Refusal :=
  .next (s.onMain fun s => s.shutterCurrent t ch microamps ns)

end Sys2Proof.Machine
end

