-- ==== Sys2Proof/Machine/Sense.lean ====
section
/-! DEFINITION. The sense side of the tiles and the tile links (R85–R103, R112): the scan, the conversions and their tags,
read-back, focus, diagnosis, and what lands over the link. -/

namespace Sys2Proof.Machine

/-- DISCARD_CYC of R92 from the guard in nanoseconds. -/
def discardCyc (guard : Nat) : Nat := (32 + max guard 12 + 4 + 3) / 4

/-- Refused sense writes (R112). -/
def State.refuseSense (s : State) (t n : Nat) : State :=
  if n = 0 then s else (s.bumpBy (F.SENSE_REFUSED_CNT t) n).raise (Src.SENSE.SENSE_REFUSED t)

/-- The tile calibrates: its scan is suspended (R91, R352). -/
def State.scanSuspended (s : State) (t : Nat) : Bool := (s.calib.runs.lookup t).isSome

/-- A focus runs on the tile. -/
def State.focusing (s : State) (t : Nat) : Bool :=
  match (s.tile t).focus with
  | some f => f.running
  | none => false

/-! ## The scan (R88, R93) -/

/-- Cycles of a scan in the tile's active mode. The tile scans whenever its drive rail is good, the main side up or not (R99). -/
def scanCycles (x : Tile) : Nat := if x.lowPower then 6400 else 1600

/-- The cycle of conversion slot k's sample (R88, R93); in focus, of its first sample (R94). -/
def sampleCycle (x : Tile) (k : Nat) (focus : Bool) : Nat :=
  match x.lowPower, focus with
  | false, false => 25 * k + 20
  | true, false => 100 * k + 80
  | false, true => 25 * k + 8
  | true, true => 100 * k + 32

/-- The range words that become active at a scan start (R86); a changed range makes the tile due with cause CHANGE, and is a
change on its channel during a measurement (R350, R356). -/
def State.applyRanges (s : State) (t : Nat) : State :=
  (List.range 8).foldl (fun s n =>
    let a := (F.TIA_RANGE.RANGE t n).addr
    let s1 := s.applyLv a
    let moved := (List.range 8).filter fun i => bitsOf (s1.word a) (4 * i) 4 != bitsOf (s.word a) (4 * i) 4
    moved.foldl (fun s i => (s.touchCal t (8 * n + i)).markDue t 1) s1) s

/-- A scan starts: pending mode and ranges take effect, the load strobe is issued (R65, R88). -/
def State.scanStart (s : State) (t : Nat) : State :=
  let x := s.tile t
  let s1 := ((s.applyLv (F.SCAN_CFG.MODE t).addr).applyRanges t).wr (F.SCAN_STATUS.SCAN_SEQ t)
    (s.rd (F.SCAN_STATUS.SCAN_SEQ t) + 1)
  let s2 := s1.setTile t { x with
    lowPower := s1.rd (F.SCAN_CFG.MODE t) == 1
    sinceStrobe := x.sinceStrobe.map (· + scanCycles x)
    strobes := 0
    probe := s1.rd (F.COURSE_PROBE_EST.EST (tileCourse t))
    focusClip := none
    cut := false
    rbTurn := false
    scanAt := some s.clock
    focus := x.focus.map fun f => { f with running := f.running || !s.scanSuspended t } }
  if s2.frozen then s2 else s2.loadStrobe t

def execTileScanStart (t : Fin 76) (s : State) : Host.Outcome State Fault Refusal :=
  .next (if s.railGood t then s.scanStart t else s)

/-! ## Read-back (R75) -/

/-- READBACK or BOTH (R74). -/
def State.readsBack (s : State) (t ch : Nat) : Bool := (s.rd (F.CH_CFG.SUPERVISION t ch)).testBit 0

/-- A reading differs from its code by more than RB_TOL. -/
def State.rbFails (s : State) (t ch k reading : Nat) : Bool :=
  decide (s.rd (F.RB_CFG.RB_TOL t) < ((reading : Int) - s.rd (actCode t ch k)).natAbs)

/-- One comparison of a channel's read-back: RB_COUNT failures on end raise READBACK, a passing one clears RB_FAIL (R75). -/
def State.rbCompare (s : State) (t ch : Nat) (fails : Bool) : State :=
  let x := s.tile t
  if fails then
    let run := (x.rbRun.lookup ch).getD 0 + 1
    let s1 := (s.setTile t { x with rbRun := sparseInsert x.rbRun ch run }).bump (F.RB_FAIL_CNT t)
    if reached run (s.rd (F.RB_CFG.RB_COUNT t)) (s.flag (F.POCK_STAT.RB_FAIL t ch)) then
      (s1.setFlag (F.POCK_STAT.RB_FAIL t ch) true).raise (Src.DRIVE.READBACK t)
    else s1
  else (s.setFlag (F.POCK_STAT.RB_FAIL t ch) false).setTile t { x with rbRun := sparseErase x.rbRun ch }

/-- The read-back of a channel: `sel` the output, `unsel` the other ladder, in code units, compared in this order (R75). -/
def State.readBack (s : State) (t ch sel unsel : Nat) : State :=
  let s1 := (s.wr (F.POCK_RB.RB_SEL t ch) sel).wr (F.POCK_RB.RB_UNSEL t ch) unsel
  let fresh := match (s1.tile t).moved.lookup ch with
    | some c => decide (s.clock ≤ c + 1000)
    | none => false
  if fresh then s1
  else
    let k := s.rd (F.POCK_STAT.ACT_SEL t ch)
    (s1.rbCompare t ch (s.rbFails t ch k sel)).rbCompare t ch (s.rbFails t ch (1 - k) unsel)

/-! ## Diagnosis (R96–R98) -/

/-- The differences of alternating readings, second minus first. -/
def pairDiffs : List Int → List Int
  | a :: b :: rest => (b - a) :: pairDiffs rest
  | _ => []

/-- The individual results of a diagnosis: differences with minus without, readings, or connected minus disconnected. -/
def diagValues (mode : Nat) (readings : List Int) : List Int :=
  match mode with
  | 0 => pairDiffs readings
  | 1 => readings
  | 2 => (pairDiffs readings).map (- ·)
  | _ => []

def listMax (l : List Int) : Int := l.foldl max (l.headD 0)
def listMin (l : List Int) : Int := l.foldl min (l.headD 0)

/-- The conversions a diagnosis takes (R97). -/
def diagConversions (mode times : Nat) : Nat := if mode = 0 ∨ mode = 2 then 2 * times else times

/-- The last conversion has completed: results, DONE and DIAG_FAIL (R97, R98). In ISOLATE the reading that departs is the mean of
the readings (log 72). Where R97 defines no result (MODE 3 or REPEAT 0) MEAN and SPREAD are free values (log 12). -/
def State.endDiag (s : State) (t mode code : Nat) (readings : List Int) : State :=
  let vs := diagValues mode readings
  let x := s.tile t
  let s0 := ((s.setTile t { x with diag := none }).setFlag (F.DIAG_RESULT.BUSY t) false).setEvent (F.DIAG_RESULT.DONE t)
  if vs.isEmpty then
    let f1 := s0.freshValue
    let f2 := f1.2.freshValue
    (f2.2.wr (F.DIAG_RESULT.MEAN t) f1.1.toNat).wr (F.DIAG_SPREAD.SPREAD t) f2.1.toNat
  else
    let n := vs.length
    let sum := vs.sum
    let tol : Int := s.rd (F.DIAG_TOL.TOL t)
    let bad :=
      if mode = 2 then decide (sum < n * tol)
      else decide (n * tol < ((sum - n * (48 * code : Nat)).natAbs : Int))
    let s1 := (s0.wrS (F.DIAG_RESULT.MEAN t) (roundEvenDiv sum n)).wr (F.DIAG_SPREAD.SPREAD t)
      (listMax vs - listMin vs).toNat
    if bad then s1.raise (Src.SENSE.DIAG_FAIL t) else s1

/-- One diagnosis conversion. -/
def State.diagReading (s : State) (t : Nat) (d : Diag) (reading : Int) : State :=
  let readings := d.readings ++ [reading]
  if d.left ≤ 1 then s.endDiag t d.mode d.code readings
  else
    let x := s.tile t
    s.setTile t { x with diag := some { d with left := d.left - 1, readings := readings } }

/-! ## Conversions (R88, R91, R92, R101) -/

/-- The purposes of a conversion slot (R91). -/
inductive Purpose where
  | suspended | focus | readBack | diag | loop
  deriving DecidableEq, Repr

/-- The re-plan measures heater `k` of the tile: a host diagnosis that runs delays it (R362). -/
def State.heaterTurn (s : State) (t k : Nat) : Bool := (s.tile t).diag.isNone && (s.tile t).heaters.getLsbD k

/-- BUSY: a diagnosis of the host runs, or the re-plan's heater measurement (R98, R362). -/
def State.diagBusy (s : State) (t : Nat) : Bool :=
  s.flag (F.DIAG_RESULT.BUSY t) || ((s.tile t).diag.isNone && (s.tile t).heaters != 0)

/-- What conversion slot `k` of the scan serves (R91). -/
def State.purpose (s : State) (t k : Nat) : Purpose :=
  let x := s.tile t
  if s.scanSuspended t then .suspended
  else if s.focusing t then .focus
  else if x.rbNext = k ∧ s.readsBack t k = true then .readBack
  else if x.diag.any (fun d => d.pd / 2 == k) || s.heaterTurn t k then .diag
  else .loop

def tiaRange (s : State) (t pd : Nat) : Nat := bitsOf (s.word (F.TIA_RANGE.RANGE t (pd / 16)).addr) (2 * (pd % 16)) 2

/-- A photodiode clipped (code 0xFFFF) or not in this scan; the fourth clipped scan in a row and every further one raise CLIP
(R101). A scan that takes no sample of it leaves the run as it is (log 72). -/
def State.noteClip (s : State) (t pd : Nat) (clipped : Bool) : State :=
  let x := s.tile t
  if clipped then
    let run := (x.clipRun.lookup pd).getD 0 + 1
    let s1 := s.setTile t { x with clipRun := sparseInsert x.clipRun pd run }
    if 4 ≤ run then s1.raise (Src.SENSE.CLIP t) else s1
  else s.setTile t { x with clipRun := sparseErase x.clipRun pd }

/-- LAST_SAMPLE of a photodiode (R112). -/
def State.noteSample (s : State) (t pd code range : Nat) (guard sel : Bool) : State :=
  s.setWord (F.LAST_SAMPLE.CODE t pd).addr
    (BitVec.ofNat 32 (code % 65536 + 65536 * range + 2 ^ 18 * guard.toNat + 2 ^ 19 * sel.toNat
      + 2 ^ 20 * (s.rd (F.SCAN_STATUS.SCAN_SEQ t) % 4096)))

/-- LAST_SAMPLE and the clip runs of both photodiodes of a record. -/
def State.noteSamples (s : State) (t : Nat) (r : Record) (pdA pdB : Nat) : State :=
  (((s.noteSample t pdA r.a r.rngA r.guard (r.actSel == 1)).noteSample t pdB r.b r.rngB r.guard (r.actSel == 1)).noteClip t pdA
    (r.a == 0xFFFF)).noteClip t pdB (r.b == 0xFFFF)

/-- Δ of R92 for a sample cycle. -/
def sampleDelta (x : Tile) (cyc : Nat) : Option Nat :=
  match x.sinceStrobe with
  | some d => if 0 ≤ d + cyc then some (d + cyc).toNat else none
  | none => none

/-- GUARD: 0 ≤ Δ < DISCARD_CYC (R92). -/
def guardOf (delta : Option Nat) (discard : Nat) : Bool :=
  match delta with
  | some d => decide (d < discard)
  | none => false

def kindOf : Purpose → Nat
  | .readBack => 1
  | .diag => 2
  | .focus => 3
  | _ => 0

/-- The tile after conversion slot `k` for purpose `p`: a suspended slot cuts the scan short, and the channel of the read-back
rotation has had its turn unless a higher use took its slot (R75, R91). -/
def Tile.slotDone (x : Tile) (k : Nat) (p : Purpose) (readsBack : Bool) : Tile :=
  { x with
    cut := x.cut || p == .suspended
    rbTurn := x.rbTurn || (x.rbNext == k && (p == .readBack || !readsBack)) }

/-- Conversion slot `k` of tile `t`: ADC A reads `a`, ADC B reads `b` (in code units for a read-back). A pair's GUARD is judged
at its first sample, in focus too, where the second comes half a slot later (log 72). -/
def State.convert (s : State) (t k a b : Nat) : State :=
  let p := s.purpose t k
  let x := (s.tile t).slotDone k p (s.readsBack t k)
  let delta := sampleDelta x (sampleCycle x k (p == .focus))
  let guard := guardOf delta (s.rd (F.SCAN_STATUS.DISCARD_CYC t))
  let focus := if p = .focus then x.focus.map Focus.id else none
  let pdA := focus.elim (2 * k) FocusId.pd
  let pdB := focus.elim (2 * k + 1) FocusId.pd
  let sel := s.rd (F.POCK_STAT.ACT_SEL t (pdA / 2))
  let rec1 : Record := ⟨a, b, kindOf p, sel, guard, tiaRange s t pdA, tiaRange s t pdB, x.slotAct, delta,
    s.rd (F.SCAN_STATUS.SCAN_SEQ t), x.lowPower, x.probe, focus⟩
  let s1 := s.setTile t { x with recs := sparseInsert x.recs k rec1, onWay := setBit x.onWay k (s.linkUp t) }
  let s2 := if guard then s1.bump (F.GUARD_CNT t) else s1
  match p with
  | .suspended => s.setTile t x
  | .readBack => s2.readBack t k a b
  | .focus =>
    let s3 := s2.noteSample t pdA b rec1.rngB guard (sel == 1)
    let y := s3.tile t
    s3.setTile t { y with focusClip := some (y.focusClip.getD false || a == 0xFFFF || b == 0xFFFF) }
  | .diag =>
    match x.diag with
    | some d => ((s2.noteSamples t rec1 pdA pdB).diagReading t d (if d.pd % 2 = 0 then (a : Int) else b))
    | none =>
      -- ADC B converts the heater's voltage in place of its photodiode (R362)
      let s3 := s2.noteSample t pdA a rec1.rngA guard (sel == 1)
      let y := s3.tile t
      (s3.setTile t { y with heaters := setBit y.heaters k false }).noteClip t pdA (a == 0xFFFF)
  | .loop => s2.noteSamples t rec1 pdA pdB

def execTileConversion (t : Fin 76) (k : Fin 64) (a b : Fin 65536) (s : State) : Host.Outcome State Fault Refusal :=
  .next (if s.railGood t then s.convert t k a b else s)

/-! ## The upstream frame (R100, R101) -/

/-- The 48 bits of a record (R101). -/
def recordBits (r : Record) : Nat :=
  r.a % 65536 + 65536 * (r.b % 65536) + 2 ^ 32 * (r.kind % 4) + 2 ^ 34 * (r.actSel % 2) + 2 ^ 35 * r.guard.toNat
    + 2 ^ 36 * (r.rngA % 4) + 2 ^ 38 * (r.rngB % 4) + 2 ^ 40 * (r.slot % 64)

/-- The frame's bytes, CRC included. A conversion slot that took no record sends zeros. -/
def State.frameBytes (s : State) (t : Nat) : List Byte :=
  let x := s.tile t
  let suspended := s.scanSuspended t
  let flags := x.lowPower.toNat + 4 * (s.focusing t).toNat + 8 * suspended.toNat
  let head := leBytes 2 (s.rd (F.SCAN_STATUS.SCAN_SEQ t)) ++ leBytes 1 t ++ leBytes 1 flags
    ++ leBytes 4 (x.strobeCyc % 8192 + 65536 * (x.strobes % 256))
  let recs := if suspended then []
    else (List.range 64).flatMap fun k => leBytes 6 ((x.recs.lookup k).elim 0 recordBits)
  let body := head ++ recs
  body ++ leBytes 4 (crc32 body).toNat

/-- The scan ends: its frame leaves if the link is up (R99, R100); one focus scan has run unless calibration cut it (R91, R94),
and its photodiode has clipped or not (R101); the read-back rotation goes on once its channel has had its turn (R75, R91). -/
def State.frameTx (s : State) (t : Nat) : State :=
  let x := s.tile t
  let displaced := x.cut || s.scanSuspended t
  let s1 := s.setTile t { x with
    frame := if s.linkUp t then some (s.frameBytes t) else none
    rbNext := if x.rbTurn then (x.rbNext + 1) % 64 else x.rbNext
    rbTurn := false
    cut := false
    focusClip := none
    focus := x.focus.map fun f => if f.running && !displaced then { f with left := f.left - 1 } else f }
  match x.focus, x.focusClip with
  | some f, some c => s1.noteClip t f.id.pd c
  | _, _ => s1

def execTileFrameTx (t : Fin 76) (s : State) : Host.Outcome State Fault Refusal :=
  .next (if s.railGood t then s.frameTx t else s)

/-! ## Writes of the sense registers -/

/-- A write of TIA_RANGEn acts on each of its 16 photodiodes (R86). R86 speaks of the host: that another master's write is taken
in any loop state is the model's choice (log 29). -/
def State.writeTiaRange (s : State) (m : Master) (t n : Nat) (w : Word) : State :=
  let a := (F.TIA_RANGE.RANGE t n).addr
  let old := s.lvWord a
  let differ := (List.range 16).filter fun i => bitsOf w (2 * i) 2 != bitsOf old (2 * i) 2
  let taken (i : Nat) : Bool := !externalHost m || s.hostMayWrite (loopAt t ((16 * n + i) / 2))
  let new := (differ.filter taken).foldl (fun acc i => withBits acc (2 * i) 2 (bitsOf w (2 * i) 2)) old
  (if new = old then s else s.holdLv a new).refuseSense t (differ.filter fun i => !taken i).length

def execTiaRangeWrite (m : Master) (t : Fin 76) (n : Fin 8) (w : Word) (s : State) :
    Host.Outcome State Fault Refusal :=
  .next (s.gateTile m t (F.TIA_RANGE.RANGE t n).addr fun s => s.writeTiaRange m t n w)

/-- A write of SCAN_CFG.MODE (R93). -/
def State.writeScanCfg (s : State) (t : Nat) (w : Word) : State :=
  if 2 ≤ bitsOf w 0 2 then s.refuseSense t 1 else s.holdLv (F.SCAN_CFG.MODE t).addr (withBits 0 0 2 (bitsOf w 0 2))

def execScanCfgWrite (m : Master) (t : Fin 76) (w : Word) (s : State) : Host.Outcome State Fault Refusal :=
  .next (s.gateTile m t (F.SCAN_CFG.MODE t).addr fun s => s.writeScanCfg t w)

/-- A ring enabled with SOURCE = FOCUS (R95). -/
def State.focusRing (s : State) (n : Nat) : Bool :=
  s.flag (F.SILLAGE_RING_CFG.ENABLE n) && s.rd (F.SILLAGE_RING_CFG.SOURCE n) == 1

/-- The start named by FOCUS_CFG is refused (R95). A START that still waits for its scan counts as a focus that runs (log 72). -/
def State.focusRefused (s : State) (t : Nat) : Bool :=
  let ring := s.rd (F.FOCUS_CFG.RING t)
  (s.tile t).focus.isSome || !s.focusRing ring ||
    s.tiles.any fun e => e.1 != t && e.2.focus.any fun f => f.id.ring == ring

/-- A write of FOCUS_CFG: PD, LEN and RING land, and START begins focus at the next scan start or is refused (R94, R95). -/
def State.writeFocus (s : State) (t : Nat) (w : Word) : State :=
  let s1 := ((s.wr (F.FOCUS_CFG.PD t) (bitsOf w 0 7)).wr (F.FOCUS_CFG.LEN t) (bitsOf w 8 7)).wr (F.FOCUS_CFG.RING t)
    (bitsOf w 16 3)
  if !w.getLsbD 31 then s1
  else if s1.focusRefused t then s1.refuseSense t 1
  else
    let x := s1.tile t
    s1.setTile t { x with
      focusNum := x.focusNum + 1
      focus := some ⟨⟨x.focusNum, bitsOf w 0 7, bitsOf w 16 3⟩, bitsOf w 8 7, false⟩ }

def execFocusStart (m : Master) (t : Fin 76) (w : Word) (s : State) : Host.Outcome State Fault Refusal :=
  .next (s.gateTile m t (F.FOCUS_CFG.PD t).addr fun s => s.writeFocus t (w ||| 0x80000000#32))

/-- Focus has run its LEN scans (R94). -/
def State.focusEnd (s : State) (t : Nat) : State :=
  let x := s.tile t
  match x.focus with
  | some f => if f.running && f.left == 0 then s.setTile t { x with focus := none } else s
  | none => s

def execFocusEnd (t : Fin 76) (s : State) : Host.Outcome State Fault Refusal :=
  .next (s.onMain fun s => s.focusEnd t)

/-- A write of DIAG_CMD (R97, R98). -/
def State.writeDiag (s : State) (t : Nat) (w : Word) : State :=
  if s.diagBusy t then s.refuseSense t 1
  else
    let mode := bitsOf w 8 2
    let times := bitsOf w 10 4
    let s1 := (((s.wr (F.DIAG_CMD.PD t) (bitsOf w 0 7)).wr (F.DIAG_CMD.MODE t) mode).wr (F.DIAG_CMD.REPEAT t) times).wr
      (F.DIAG_CMD.CODE t) (bitsOf w 16 10)
    if !w.getLsbD 31 then s1
    else if times = 0 then s1.endDiag t mode (bitsOf w 16 10) []
    else
      let x := s1.tile t
      (s1.setFlag (F.DIAG_RESULT.BUSY t) true).setTile t
        { x with diag := some ⟨bitsOf w 0 7, mode, bitsOf w 16 10, diagConversions mode times, []⟩ }

def execDiagCmdGo (m : Master) (t : Fin 76) (w : Word) (s : State) : Host.Outcome State Fault Refusal :=
  .next (s.gateTile m t (F.DIAG_CMD.PD t).addr fun s => s.writeDiag t (w ||| 0x80000000#32))

/-- Another tile of the same tile die drives capture bus A (`bus` 0) or B (R104). -/
def State.busTaken (s : State) (t bus : Nat) : Bool :=
  (List.range 76).any fun u => u != t && tileDie u == tileDie t &&
    s.flag (if bus = 0 then F.FAST_CFG.A_EN u else F.FAST_CFG.B_EN u)

/-- A write of FAST_CFG, refused where a bus would get a second driver (R104). -/
def State.writeFastCfg (s : State) (t : Nat) (w : Word) : State :=
  if (w.getLsbD 7 && s.busTaken t 0) || (w.getLsbD 15 && s.busTaken t 1) then
    (s.bump (F.SENSE_REFUSED_CNT t)).raise (Src.SENSE.FAST_CONFLICT t)
  else s.setWord (F.FAST_CFG.BUS_A_PD t).addr (w &&& 0x1FFFF#32)

def execFastCfgWrite (m : Master) (t : Fin 76) (w : Word) (s : State) : Host.Outcome State Fault Refusal :=
  .next (s.gateTile m t (F.FAST_CFG.BUS_A_PD t).addr fun s => s.writeFastCfg t w)

/-! ## The tile link (R99, R102, R103) -/

/-- A training completes (R99). TRAINS counts while the main side is up. -/
def State.linkTrained (s : State) (t : Nat) : State :=
  let s1 := s.setFlag (F.TILE_LINK_STATUS.UP t) true
  if s.power.mainUp then s1.wr (F.TILE_LINK_STATUS.TRAINS t) (min 255 (s.rd (F.TILE_LINK_STATUS.TRAINS t) + 1)) else s1

def execTileLinkTrained (t : Fin 76) (s : State) : Host.Outcome State Fault Refusal :=
  .next (if s.railGood t && !s.linkUp t then s.linkTrained t else s)

/-- Loss of lock: LINK_DOWN, what is on its way to the tile is lost, a calibration is abandoned (R103, R356). -/
def State.linkLost (s : State) (t : Nat) : State :=
  let s1 := s.setFlag (F.TILE_LINK_STATUS.UP t) false
  let x := s1.tile t
  let s2 := s1.setTile t { x with down := [], frame := none, onWay := 0, held := [], focusHeld := [] }
  (s2.abandonCal t).raise (Src.SENSE.LINK_DOWN t)

def execTileLinkLoss (t : Fin 76) (s : State) : Host.Outcome State Fault Refusal :=
  .next (if s.linkUp t then s.linkLost t else s)

/-- A link CRC failed (R103). -/
def State.linkCrc (s : State) (t : Nat) : State := (s.bump (F.LINK_CRC_CNT t)).raise (Src.SENSE.LINK_CRC t)

/-- Take the oldest transaction of a kind off the link. -/
def takeFirst (p : Txn → Bool) : List Txn → Option (Txn × List Txn)
  | [] => none
  | x :: rest =>
    if p x then some (x, rest)
    else (takeFirst p rest).map fun r => (r.1, x :: r.2)

def isCode : Txn → Bool
  | .code .. => true
  | _ => false
def isSelect : Txn → Bool
  | .select .. => true
  | _ => false
def isShutter : Txn → Bool
  | .shutter .. => true
  | _ => false

/-- What a transaction does where it lands (R59, R102). -/
def State.landTxn (s : State) (t : Nat) : Txn → State
  | .code ch target code range =>
    if target < 2 then
      ((s.wr (shdCode t ch target) code).wr (ladderSet t ch target) 1).sealLadder t ch target
    else
      ((s.wr (F.HTR_SHD.CODE t ch) code).wr (F.HTR_SHD.RANGE t ch) range.toNat).wr (F.HTR_ACT.SET t ch) 2
  | .select slot sel =>
    let x := s.tile t
    channels.foldl (fun s ch =>
      (s.wr (F.POCK_SEL_SHD.SEL t ch) (sel.getLsbD ch).toNat).wr (F.POCK_STAT.SEL_SET t ch) 2)
      (s.setTile t { x with slotShadow := slot })
  | .shutter bits =>
    if isTrimTile t then
      let x := s.tile t
      ((s.wrW (F.SHUT_SHD t) bits.toNat).wrW (F.SHUT_PEND t) (2 ^ 64 - 1)).setTile t { x with shutOpen := 0 }
    else s

/-- The oldest transaction of a kind lands, or fails its CRC and is discarded (R103). -/
def State.land (s : State) (t : Nat) (p : Txn → Bool) (crcOk : Bool) : State :=
  match takeFirst p (s.tile t).down with
  | some (x, rest) =>
    let y := s.tile t
    let s1 := s.setTile t { y with down := rest }
    if crcOk then s1.landTxn t x else s1.linkCrc t
  | none => s

def execTileCodeTransaction (t : Fin 76) (crcOk : Bool) (s : State) : Host.Outcome State Fault Refusal :=
  .next (s.land t isCode crcOk)

def execTileSelectTransaction (t : Fin 76) (crcOk : Bool) (s : State) : Host.Outcome State Fault Refusal :=
  .next (s.land t isSelect crcOk)

def execTileShutterTransaction (t : Fin 76) (crcOk : Bool) (s : State) : Host.Outcome State Fault Refusal :=
  .next (s.land t isShutter crcOk)

/-- Issue a transaction to a tile: nothing reaches a tile whose link is down (R103). -/
def State.issue (s : State) (t : Nat) (x : Txn) : State :=
  if s.linkUp t && s.railGood t then
    let y := s.tile t
    s.setTile t { y with down := y.down ++ [x] }
  else s

end Sys2Proof.Machine
end

