-- ==== Sys2Proof/Machine/Accord.lean ====
section
/-! DEFINITION. Accords: the plane's topology (R33, R34), the record and its bytes (R164–R167), pin sets (R172) and the merge
of standing and dynamic (R173). -/

namespace Sys2Proof.Machine

/-! ## Topology (R33, R34) -/

/-- rotr_k and rotl_k of R34: rotations of the low `k` bits. -/
def rotr (k x : Nat) : Nat := x / 2 ^ k * 2 ^ k + x % 2 * 2 ^ (k - 1) + x % 2 ^ k / 2
def rotl (k x : Nat) : Nat := x / 2 ^ k * 2 ^ k + 2 * (x % 2 ^ (k - 1)) + x % 2 ^ k / 2 ^ (k - 1)

/-- The input link of stage `s + 1` that output link `x` of stage `s` connects to (R34). -/
def shuffle (s x : Nat) : Nat := if s ≤ 7 then rotr (9 - s) x else rotl (s - 6) x

/-- One cell of a path: its cell number and its output link. -/
structure Hop where
  cell : Nat
  link : Nat
  deriving DecidableEq, Repr

/-- Follow input link `x` of stage `s` through `n` stages; `cross c` says that cell `c` is in cross (R33). -/
def traceFrom (cross : Nat → Bool) : Nat → Nat → Nat → List Hop
  | 0, _, _ => []
  | n + 1, s, x =>
    let c := 256 * s + x / 2
    let y := 2 * (x / 2) + (if cross c then 1 - x % 2 else x % 2)
    ⟨c, y⟩ :: traceFrom cross n (s + 1) (shuffle s y)

/-- The path of in `i` through all 17 stages. -/
def trace (cells : BitVec 4352) (i : Nat) : List Hop := traceFrom cells.getLsbD 17 0 i

/-- The out that a path ends at. -/
def pathEnd (p : List Hop) : Nat := match p.getLast? with | some h => h.link | none => 0

/-- A mask with the listed bits. -/
def maskOf (w : Nat) (l : List Nat) : BitVec w := l.foldl (fun m n => setBit m n true) 0

/-- The set bits of a mask, ascending. -/
def bitsOn {w : Nat} (m : BitVec w) : List Nat := (List.range w).filter m.getLsbD

/-! ## Records (R164–R166) -/

def accordEmpty : Accord := ⟨0, 0, false, false, 0, 0, 0, 0, 0, 0, 0, 0, 0, 0, 0, 0⟩

def State.record (s : State) (n : Nat) : Accord := sparseGet (fun _ => accordEmpty) s.plane.records n

def State.setRecord (s : State) (n : Nat) (a : Accord) : State :=
  { s with plane := { s.plane with records := sparsePut (fun _ => accordEmpty) s.plane.records n a } }

/-- The record of slot `k` in the bank of frame `f`, and standing record `n` (R164). -/
def bankRecord (f k : Nat) : Nat := 64 * (f % 2) + k
def standRecord (n : Nat) : Nat := 128 + n

/-- Bytes 0–59 of the header (R165). -/
def Accord.head (a : Accord) : List Byte :=
  List.flatten [leBytes 1 a.kind, leBytes 1 a.index, leBytes 2 (a.host.toNat + 2 * a.flagged.toNat), leBytes 4 a.seq,
    leBytes 8 a.frame, leBytes 2 a.pairs, leBytes 2 a.removed, leBytes 1 a.applySlot, leBytes 3 0, leBytes 4 a.baseSeq,
    leBytes 4 a.bodyCrc, leBytes 28 0]

/-- Bytes 64–799, the body's fields (R166). -/
def Accord.body (a : Accord) : List Byte :=
  List.flatten [leBytes 544 a.cells.toNat, leBytes 64 a.trims.toNat, leBytes 64 a.shuts.toNat, leBytes 64 a.inLit.toNat]

/-- Bytes 0–799 of the record; the rest read 0. -/
def Accord.bytes (a : Accord) : List Byte := List.flatten [a.head, leBytes 4 a.hcrc, a.body]

/-- `n` bytes from byte `off`. -/
def slice (bs : List Byte) (off n : Nat) : List Byte := (bs.drop off).take n

/-- The record that bytes spell; reserved bytes are ignored (R14). -/
def Accord.ofBytes (bs : List Byte) : Accord :=
  let v (off n : Nat) : Nat := leNat (slice bs off n)
  { kind := v 0 1, index := v 1 1, host := (v 2 1).testBit 0, flagged := (v 2 1).testBit 1, seq := v 4 4, frame := v 8 8,
    pairs := v 16 2, removed := v 18 2, applySlot := v 20 1, baseSeq := v 24 4, bodyCrc := v 28 4, hcrc := v 60 4,
    cells := BitVec.ofNat _ (v 64 544), trims := BitVec.ofNat _ (v 608 64), shuts := BitVec.ofNat _ (v 672 64),
    inLit := BitVec.ofNat _ (v 736 64) }

/-- Word `n` of a record as BAR0 shows it. -/
def Accord.word (a : Accord) (n : Nat) : Word := BitVec.ofNat 32 (leNat (slice a.bytes (4 * n) 4))

/-- The record with word `n` written. -/
def Accord.setWord (a : Accord) (n : Nat) (w : Word) : Accord :=
  let bs := a.bytes
  Accord.ofBytes (List.flatten [bs.take (4 * n), leBytes 4 w.toNat, bs.drop (4 * n + 4)])

/-- The record with both CRCs computed (R166). -/
def Accord.seal (a : Accord) : Accord :=
  let b := { a with bodyCrc := (crc32 a.body).toNat }
  { b with hcrc := (crc32 b.head).toNat }

/-- BODY_CRC and HCRC are right. -/
def Accord.sound (a : Accord) : Bool := (crc32 a.body).toNat == a.bodyCrc && (crc32 a.head).toNat == a.hcrc

/-! ## Lit paths -/

/-- The lit pairs with their paths: (in, out, path) (R166). -/
def Accord.lit (a : Accord) : List (Nat × Nat × List Hop) :=
  (bitsOn a.inLit).filterMap fun i =>
    let p := trace a.cells i
    let j := pathEnd p
    if a.shuts.getLsbD j then some (i, j, p) else none

def Accord.litPairs (a : Accord) : List (Nat × Nat) := a.lit.map fun x => (x.1, x.2.1)

/-- The cells that lit paths pass through: S.lit_cell of R173. -/
def Accord.litCells (a : Accord) : BitVec 4352 :=
  a.lit.foldl (fun m x => x.2.2.foldl (fun m h => setBit m h.cell true) m) 0

/-- Every lit output traces back to a lit input, and every lit input reaches an open output (R190). -/
def Accord.whole (a : Accord) : Bool :=
  let ps := a.litPairs
  (bitsOn a.inLit).length == ps.length && (bitsOn a.shuts).all fun j => ps.any fun x => x.2 == j

/-- IN_TRIM of in `i` (R166). -/
def State.inTrim (s : State) (i : Nat) : Bool := (s.rd (F.IN_TRIM.LEVEL (i / 32))).testBit (i % 32)

/-- A record lighting `pairs` over cell states `cells`: every cell off their paths bar, every other output closed (R166). -/
def State.lightRecord (s : State) (a : Accord) (cells : BitVec 4352) (lit : List (Nat × Nat)) : Accord :=
  let b : Accord := { a with
    shuts := maskOf 512 (lit.map Prod.snd)
    inLit := maskOf 512 (lit.map Prod.fst)
    trims := maskOf 512 ((lit.filter fun x => s.inTrim x.1).map Prod.snd)
    pairs := lit.length
    cells := cells }
  { b with cells := b.cells &&& b.litCells }

/-! ## Pins and the merge (R172, R173) -/

def pinsNone : Pins := ⟨0, 0, 0, 0⟩

/-- The pin set of a standing accord and armed alternates (R172). -/
def pinsOf (base : Accord) (alts : List Accord) : Pins :=
  let cells := alts.foldl (fun m a => m ||| a.litCells) base.litCells
  { cells := cells
    volatiles := cells &&& alts.foldl (fun m a => m ||| (base.cells ^^^ a.cells)) 0
    ins := alts.foldl (fun m a => m ||| maskOf 512 (a.litPairs.map (·.1))) (maskOf 512 (base.litPairs.map (·.1)))
    outs := alts.foldl (fun m a => m ||| maskOf 512 (a.litPairs.map (·.2))) (maskOf 512 (base.litPairs.map (·.2))) }

/-- Take the bits of `x` where `m` is 1, of `y` elsewhere. -/
def choose {w : Nat} (m x y : BitVec w) : BitVec w := (m &&& x) ||| (~~~m &&& y)

/-- The merged accord of R173: cell states, trims and shutters. -/
def merge (pins : Pins) (base dyn : Accord) : BitVec 4352 × BitVec 512 × BitVec 512 :=
  let c := pins.cells ||| base.litCells
  let o := pins.outs ||| base.shuts
  (choose c base.cells dyn.cells, choose o base.trims dyn.trims, choose o base.shuts dyn.shuts)

/-- REST (R167): the record every lack of a dynamic accord stands for. -/
def rest : Accord := accordEmpty

/-! ## The standing accord in force -/

def State.activeIndex (s : State) : Nat := s.rd F.STANDING_STATUS.ACTIVE
def State.standing (s : State) : Accord := s.record (standRecord s.activeIndex)
def State.standSeq (s : State) : Nat := s.rd F.STANDING_SEQ.SEQ

/-- The records of the armed alternates, ascending. -/
def State.armed (s : State) : List Nat := (List.range 16).filter fun n => (s.rd F.ALT_ARMED.ARMED).testBit n

def State.armedRecords (s : State) : List Accord := s.armed.map fun n => s.record (standRecord n)

/-- The pin set as it stands (R172). -/
def State.pinsNow (s : State) : Pins := pinsOf s.standing s.armedRecords

/-- What the pin window shows: PIN_F of the frame in force, or the pin set as it stands (R196). -/
def State.pinsShown (s : State) : Pins := s.plane.pins.getD s.pinsNow

/-- STANDING_STATUS.PEND and PEND_COUNT follow the pending updates, oldest first (R195). -/
def State.showPending (s : State) : State :=
  let recs := s.plane.updates.map (·.record)
  let v := recs.foldr (fun n acc => n + 16 * acc) 0
  (s.wr F.STANDING_STATUS.PEND v).wr F.STANDING_STATUS.PEND_COUNT recs.length

/-- BANK_STATUS of the bank of frame `f`: 0 IDLE, 1 COMPOSING, 2 COMMITTED, 3 ACTIVE, 4 DISCARDED (R174). -/
def bankField (f : Nat) : Field := if f % 2 = 0 then F.ACCORD_BANK_STATUS.BANK0 else F.ACCORD_BANK_STATUS.BANK1
def State.bank (s : State) (f : Nat) : Nat := s.rd (bankField f)
def State.setBank (s : State) (f v : Nat) : State := s.wr (bankField f) v

/-- A frame that has missed its commit: R177's reports. -/
def State.discardFrame (s : State) (f : Nat) : State :=
  ((s.setBank f 4).bump F.FRAMES_DISCARDED).raise Src.ACCORD.FRAME_DISCARDED

end Sys2Proof.Machine
end

