-- ==== Sys2Proof/Machine/KCodec.lean ====
section
/-! DEFINITION. Kowin messages as bytes: the header (R225), the endpoint messages (R232, R233, R235, R238, R239), RELAY (R240)
and the tier messages (R297), read and written field by field. Every field is big-endian (R224). -/

namespace Sys2Proof.Machine

/-- `n` bytes at an offset, as a number. -/
def beAt (bs : List Byte) (off n : Nat) : Nat := beNat (slice bs off n)

/-- Bit `n` of the byte at an offset. -/
def bitAt (bs : List Byte) (off n : Nat) : Bool := (beAt bs off 1).testBit n

/-- What a message of `n` payload bytes reads as, where it has them. -/
def ifLong {α : Type} (bs : List Byte) (n : Nat) (x : α) : Option α := if n ≤ bs.length then some x else none

/-! ## The header -/

/-- The header of a complete message (R225). -/
def headerOf (m : List Byte) : KHeader where
  type := beAt m 1 1
  length := beAt m 2 2
  seq := beAt m 4 4
  sys := bitAt m 8 0
  fromDevice := bitAt m 8 1
  retry := bitAt m 8 2
  unit := beAt m 9 1
  claim := beAt m 10 2
  credit := beAt m 12 2
  crcOk := (crc32 (slice m 20 (beAt m 2 2 - 20))).toNat == beAt m 16 4

/-- A complete message of a header and a payload; LENGTH and PAYLOAD_CRC are those of the payload. -/
def messageBytes (type : Nat) (h : KHeader) (payload : List Byte) : List Byte :=
  List.flatten [[1, BitVec.ofNat 8 type], beBytes 2 (20 + payload.length), beBytes 4 h.seq,
    [BitVec.ofNat 8 (h.sys.toNat + 2 * h.fromDevice.toNat + 4 * h.retry.toNat), BitVec.ofNat 8 h.unit], beBytes 2 h.claim,
    beBytes 2 h.credit, [0, 0], beBytes 4 (crc32 payload).toNat, payload]

/-! ## Endpoint messages -/

/-- HELLO from an endpoint (R232); `mac` and `ip` are the frame's source addresses. -/
def helloOf (mac : Nat) (ip : List Word) (b : List Byte) : Option EpHello :=
  ifLong b 20 ⟨beAt b 0 1, bitAt b 1 0, beAt b 4 4, beAt b 8 8, mac, ip⟩

def demandEntryOf (b : List Byte) (e : Nat) : DemandEntry :=
  ⟨beAt b (12 + 4 * e) 1, beAt b (13 + 4 * e) 1 % 8, beAt b (13 + 4 * e) 1 / 8 % 4, bitAt b (13 + 4 * e) 5, beAt b (14 + 4 * e) 2⟩

/-- DEMAND (R233): the entries are those that the payload holds. -/
def demandOf (b : List Byte) : Option DemandMsg :=
  ifLong b 12 ⟨beAt b 0 8, beAt b 8 1, beAt b 9 1, (List.range ((b.length - 12) / 4)).map (demandEntryOf b)⟩

def demandBytes (p : DemandMsg) : List Byte :=
  List.flatten [beBytes 8 p.frame, beBytes 1 p.active, beBytes 1 p.number, [0, 0],
    p.entries.flatMap fun e =>
      List.flatten [beBytes 1 e.dest, beBytes 1 (e.cls % 8 + 8 * (e.colour % 4) + 32 * e.reset.toNat), beBytes 2 e.count]]

/-- SETUP (R235). -/
def setupOf (b : List Byte) : Option SetupMsg :=
  ifLong b 24 ⟨beAt b 0 2, bitAt b 2 0, beAt b 3 1, beAt b 4 2, beAt b 6 2, beAt b 8 2, beAt b 10 2, beAt b 12 8, beAt b 20 4⟩

def setupBytes (p : SetupMsg) : List Byte :=
  List.flatten [beBytes 2 p.id, beBytes 1 p.bidir.toNat, beBytes 1 p.peer, beBytes 2 p.inPort, beBytes 2 p.outPort,
    beBytes 2 p.revIn, beBytes 2 p.revOut, beBytes 8 p.sec, beBytes 4 p.ns]

/-- RELEASE (R235). -/
def releaseOf (b : List Byte) : Option ReleaseMsg := ifLong b 16 ⟨beAt b 0 2, beAt b 2 1, beAt b 4 8, beAt b 12 4⟩

def releaseBytes (p : ReleaseMsg) : List Byte :=
  List.flatten [beBytes 2 p.id, beBytes 1 p.owner, [0], beBytes 8 p.sec, beBytes 4 p.ns]

/-- STATUS (R238). -/
def statusOf (b : List Byte) : Option StatusMsg := ifLong b 20 ⟨beAt b 0 1, beAt b 4 4⟩

def statusBytes (p : StatusMsg) : List Byte :=
  List.flatten [beBytes 1 p.code, [0, 0, 0], beBytes 4 p.word, List.replicate 12 0]

/-! ## ECHO (R239) -/

def stampAt (b : List Byte) (off : Nat) : Stamp := ⟨beAt b off 8, beAt b (off + 8) 4⟩
def stampBytes (t : Stamp) : List Byte := beBytes 8 t.sec ++ beBytes 4 t.ns
def stampNs (t : Stamp) : Nat := t.sec * 10 ^ 9 + t.ns
def stampOf (ns : Nat) : Stamp := ⟨ns / 10 ^ 9, ns % 10 ^ 9⟩

def echoOf (b : List Byte) : Option EchoMsg := ifLong b 44 ⟨beAt b 0 1, beAt b 4 4, stampAt b 8, stampAt b 20, stampAt b 32⟩

def echoBytes (p : EchoMsg) : List Byte :=
  List.flatten [beBytes 1 p.op, [0, 0, 0], beBytes 4 p.token, stampBytes p.t1, stampBytes p.t2, stampBytes p.t3]

/-! ## RELAY (R240) and the tier messages (R297) -/

def relayOf (b : List Byte) : Option RelayMsg := ifLong b 36 ⟨beAt b 0 1, beAt b 1 1, beAt b 2 1, stampAt b 4, b.drop 16⟩

def relayBytes (p : RelayMsg) : List Byte :=
  List.flatten [beBytes 1 p.unit, beBytes 1 p.lane, beBytes 1 p.dir, [0], stampBytes p.rx, p.inner]

def tierHelloOf (mac : Nat) (ip : List Word) (b : List Byte) : Option TierHello :=
  ifLong b 24 {
    version := beAt b 0 1, peerSeen := bitAt b 1 0, twinLane := bitAt b 1 1, role := beAt b 2 1, unit := beAt b 3 1
    sysTag := beAt b 4 4, composeTag := beAt b 8 4, claim := beAt b 12 2, twinState := beAt b 14 1, mode := beAt b 15 1
    matchRun := beAt b 16 2, nextSeq := beAt b 20 4, mac := mac, ip := ip }

def accordMsgOf (b : List Byte) : Option AccordMsg := ifLong b 812 ⟨beAt b 0 8, beAt b 8 1, slice b 12 800⟩

def frameEndOf (b : List Byte) : Option FrameEndMsg :=
  ifLong b 28 ⟨beAt b 0 8, beAt b 8 1, beAt b 12 4, beAt b 16 4, beAt b 20 4, beAt b 24 4⟩

/-- STANDING: the record is absent for DISARM. -/
def standingMsgOf (b : List Byte) : Option StandingMsg :=
  ifLong b (if beAt b 0 1 = 2 then 16 else 816) ⟨beAt b 0 1, beAt b 1 1, beAt b 4 8, beAt b 12 1, slice b 16 800⟩

def switchMsgOf (b : List Byte) : Option SwitchMsg :=
  ifLong b 20 ⟨beAt b 0 1, beAt b 1 1, beAt b 2 1 != 0, beAt b 4 8, beAt b 12 1, beAt b 16 4⟩

def resyncMsgOf (b : List Byte) : Option ResyncMsg := ifLong b 12 ⟨beAt b 0 1, beAt b 1 1, beAt b 4 8⟩

def resyncBytes (p : ResyncMsg) : List Byte := List.flatten [beBytes 1 p.op, beBytes 1 p.cause, [0, 0], beBytes 8 p.frame]

def checkpointOf (b : List Byte) : Option CheckpointMsg := ifLong b 12 ⟨beAt b 0 4, beAt b 4 4, beAt b 8 4, b.drop 12⟩

def checkpointBytes (p : CheckpointMsg) : List Byte :=
  List.flatten [beBytes 4 p.offset, beBytes 4 p.total, beBytes 4 p.crc, p.bytes]

end Sys2Proof.Machine
end

