-- ==== Sys2Proof/Machine/KBase.lean ====
section
/-! DEFINITION. Lanes and device messages: the header (R225), the sequence spaces (R227), issue points (R229), copies to cards
and workers (R300), tier messages (R297, R302), and circuit contexts (R242, R249). -/

namespace Sys2Proof.Machine

/-! ## Lanes -/

def laneIdle : Lane := ⟨false, false, 0, 0, 0, [], [], none, false, 0, 0⟩

def State.lane (s : State) (n : Nat) : Lane := sparseGet (fun _ => laneIdle) s.lanes n

def State.setLane (s : State) (n : Nat) (x : Lane) : State :=
  { s with lanes := sparsePut (fun _ => laneIdle) s.lanes n x }

def State.laneOn (s : State) (n : Nat) : Bool := s.rd (F.LANE_CFG.MODE n) != 0
def State.isTier (s : State) (n : Nat) : Bool := s.laneOn n && s.flag (F.LANE_CFG.ROLE n)
def State.isCard (s : State) (n : Nat) : Bool := s.laneOn n && !s.flag (F.LANE_CFG.ROLE n)
def State.laneIsUp (s : State) (n : Nat) : Bool := s.rd (F.LANE_STATUS.STATE n) == 2

/-! ## Roles (R26, R301, R307) -/

def State.isManager (s : State) : Bool := s.flag F.HIER_INFO.ROLE
def State.unitId (s : State) : Nat := s.rd F.HIER_INFO.UNIT_ID
def State.claim (s : State) : Nat := s.rd F.CLAIM.VAL
def State.follows (s : State) : Bool := !s.isManager && s.rd F.FOLLOW_CFG.MODE == 0
/-- TWIN_STATUS.STATE (R307): 0 SOLO, 1 WAIT, 2 ALONE, 3 JOINING, 4 PAIRED. -/
def State.twin (s : State) : Nat := s.rd F.TWIN_STATUS.STATE
/-- The unit takes cuts and composes in real time (R301, R307). -/
def State.composes (s : State) : Bool := !s.follows && (s.twin == 0 || s.twin == 2 || s.twin == 4)
/-- The unit transmits SYS messages (R307). -/
def State.transmits (s : State) : Bool := s.twin != 1 && s.twin != 3

def State.isTwinLane (s : State) (n : Nat) : Bool := s.flag F.HIER_INFO.TWIN_EN && s.rd F.HIER_INFO.TWIN_LANE == n

/-- The tier lanes of a manager that lead to workers and are UP (R302). -/
def State.workerLanes (s : State) : List Nat :=
  (List.range 64).filter fun n => s.isTier n && !s.isTwinLane n && s.laneIsUp n

/-- The manager lanes of a worker that are UP (R299). -/
def State.managerLanes (s : State) : List Nat :=
  (List.range 64).filter fun n => s.isTier n && s.laneIsUp n

/-! ## Messages out -/

/-- A complete Kowin message (R225): CLAIM, UNIT and CREDIT as they stand. -/
def State.message (s : State) (lane type seq : Nat) (sys retry : Bool) (payload : List Byte) : List Byte :=
  List.flatten [[1, BitVec.ofNat 8 type], beBytes 2 (20 + payload.length), beBytes 4 seq,
    [BitVec.ofNat 8 (sys.toNat + 2 + 4 * retry.toNat), BitVec.ofNat 8 s.unitId], beBytes 2 s.claim,
    beBytes 2 (s.rd (F.CREDIT.LIMIT lane)), [0, 0], beBytes 4 (crc32 payload).toNat, payload]

def State.queueTx (s : State) (lane : Nat) (x : TxMsg) : State :=
  let l := s.lane lane
  s.setLane lane { l with txq := l.txq ++ [x] }

/-- Serial increment of a 32-bit number (R9). -/
def next32 (n : Nat) : Nat := (n + 1) % 2 ^ 32

/-- Queue a message of the LOCAL space; it takes its number as it is sent (R227). -/
def State.sendLocal (s : State) (lane type : Nat) (payload : List Byte) : State :=
  s.queueTx lane ⟨type, 0, false, false, none, payload, none⟩

def State.toLanes (s : State) (lanes : List Nat) (type : Nat) (payload : List Byte) : State :=
  lanes.foldl (fun s n => s.sendLocal n type payload) s

/-- Send a tier message to every worker whose lane is UP (R302). -/
def State.toWorkers (s : State) (type : Nat) (payload : List Byte) : State :=
  if s.isManager && s.transmits then s.toLanes s.workerLanes type payload else s

/-- Send a tier message to the twin while its lane is UP. -/
def State.toTwin (s : State) (type : Nat) (payload : List Byte) : State :=
  let n := s.rd F.HIER_INFO.TWIN_LANE
  if s.flag F.HIER_INFO.TWIN_EN && s.isTier n && s.laneIsUp n then s.sendLocal n type payload else s

/-! ## Issue points (R229) -/

/-- Lexicographic order of issue keys. -/
def keyLt : List Nat → List Nat → Bool
  | _, [] => false
  | [], _ :: _ => true
  | x :: xs, y :: ys => decide (x < y) || (x == y && keyLt xs ys)

/-- A stable insertion by key. -/
def insertBy {α : Type} (key : α → List Nat) (x : α) : List α → List α
  | [] => [x]
  | y :: ys => if keyLt (key x) (key y) then x :: y :: ys else y :: insertBy key x ys

/-- Sort by key, equal keys in their order of arrival. -/
def sortBy {α : Type} (key : α → List Nat) (l : List α) : List α :=
  l.foldl (fun acc x => insertBy key x acc) []

def State.queueSys (s : State) (x : SysItem) : State := { s with issueq := s.issueq ++ [x] }

/-- A GRANT part dropped (R222, R234). -/
def State.dropGrant (s : State) (lane : Nat) : State :=
  (s.bump (F.GRANT_DROPPED_CNT lane)).raise Src.KOWIN.GRANT_DROPPED

/-- The copy on the endpoint's own card lane (R222, R300). -/
def State.copyToCard (s : State) (x : SysItem) (seq : Nat) : State :=
  if !s.isCard x.lane then s
  else if s.laneIsUp x.lane then s.queueTx x.lane ⟨x.type, seq, true, false, x.grant, x.payload, none⟩
  else if x.grant.isSome then s.dropGrant x.lane
  else s

/-- The RELAY copy to a worker whose mask names the endpoint (R240, R300). -/
def State.copyToWorker (s : State) (x : SysItem) (seq : Nat) (n : Nat) : State :=
  if (s.rdW (F.RELAY n)).testBit x.lane then
    let inner := s.message x.lane x.type seq true false x.payload
    let payload := List.flatten [[BitVec.ofNat 8 (s.rd (F.TIER_PEER.UNIT n)), BitVec.ofNat 8 x.lane, 1, 0],
      List.replicate 12 0, inner]
    s.queueTx n ⟨0x0B, seq, true, false, x.grant, payload, none⟩
  else s

/-- Number one message and send its copies; the number is consumed whether or not a copy leaves (R229). -/
def State.issueOne (s : State) (x : SysItem) : State :=
  let seq := s.rd (F.SYS_SEQ.SEQ x.lane)
  let s1 := s.wr (F.SYS_SEQ.SEQ x.lane) (next32 seq)
  if s1.transmits then s1.workerLanes.foldl (fun s n => s.copyToWorker x seq n) (s1.copyToCard x seq) else s1

/-- A waiting message may be issued at the slot boundary of number `g`, or at a frame's commit where that is none. -/
def SysItem.ready (g : Option Nat) (x : SysItem) : Bool :=
  match x.from_, g with
  | none, _ => true
  | some b, some g => decide (b ≤ g)
  | some _, none => false

/-- An issue point: every message that may go is numbered, lane by lane in the order of R229. -/
def State.issuePoint (s : State) (g : Option Nat) : State :=
  (sortBy (fun x : SysItem => x.lane :: x.order) (s.issueq.filter (·.ready g))).foldl State.issueOne
    { s with issueq := s.issueq.filter fun x => !x.ready g }

/-! ## Circuit contexts (R241, R242, R249) -/

def ctxFree : Ctx := ⟨0, false, 0, 0, 0, 0, 0, 0, 0, 0, 0, 0, 0, 0, []⟩

def State.ctx (s : State) (n : Nat) : Ctx := sparseGet (fun _ => ctxFree) s.plane.ctxs n

def State.setCtx (s : State) (n : Nat) (x : Ctx) : State :=
  { s with plane := { s.plane with ctxs := sparsePut (fun _ => ctxFree) s.plane.ctxs n x } }

/-- The held contexts, with their indices. -/
def State.heldCtxs (s : State) : List (Nat × Ctx) := s.plane.ctxs.filter fun e => e.2.state != 0

/-- Free contexts, lowest index first, at most `n` (R242). -/
def State.freeCtxs (s : State) (n : Nat) : List Nat :=
  let held := s.heldCtxs.map (·.1)
  ((List.range 8192).filter fun i => !held.contains i).take n

/-- Words +0x00 to +0x18 of a context's snapshot (R249). -/
def Ctx.words (x : Ctx) : List Word :=
  [x.state + 8 * x.bidir.toNat + 16 * x.agent + 2 ^ 8 * x.owner + 2 ^ 16 * x.src + 2 ^ 24 * x.dst,
    x.id + 2 ^ 16 * x.partner, x.inPort + 2 ^ 16 * x.outPort, x.setupSeq, x.sec % 2 ^ 32, x.ns % 2 ^ 30, x.standSeq].map
    (BitVec.ofNat 32)

/-- Little-endian bytes of words. -/
def wordBytes (ws : List Word) : List Byte := ws.flatMap fun w => leBytes 4 w.toNat

/-- The whole snapshot, CHK included; a context never used reads its Cold values, CHK 0 too (R249). -/
def Ctx.snapshot (x : Ctx) : List Word := x.words ++ [if x = ctxFree then 0 else crc32 (wordBytes x.words)]

/-- The agent of endpoints `a` and `b` (R241). -/
def agentOf (a b : Nat) : Nat := (crc16 [BitVec.ofNat 8 (min a b), BitVec.ofNat 8 (max a b)]).toNat % 8

/-! ## Answers and notices (R236, R237) -/

def CircuitOp.id : CircuitOp → Nat
  | .setup p => p.id
  | .release p => p.id

/-- PEER of a setup, OWNER of a release. -/
def CircuitOp.peer : CircuitOp → Nat
  | .setup p => p.peer
  | .release p => p.owner

def CircuitOp.isSetup : CircuitOp → Bool
  | .setup _ => true
  | .release _ => false

/-- The issue time in nanoseconds (R235). -/
def CircuitOp.issued : CircuitOp → Nat
  | .setup p => p.sec * 10 ^ 9 + p.ns
  | .release p => p.sec * 10 ^ 9 + p.ns

/-- The same CIRCUIT_ID and parameters, the issue time apart (R244). -/
def CircuitOp.same : CircuitOp → CircuitOp → Bool
  | .setup p, .setup q =>
    p.id == q.id && p.bidir == q.bidir && p.peer == q.peer && p.inPort == q.inPort && p.outPort == q.outPort &&
      (!p.bidir || (p.revIn == q.revIn && p.revOut == q.revOut))
  | .release p, .release q => p.id == q.id && p.owner == q.owner
  | _, _ => false

/-- The R185 order: issue time, endpoint, Kowin sequence number. -/
def StandOp.key (o : StandOp) : List Nat := [o.op.issued, o.lane, o.seq]

def answerOf (o : StandOp) (ack : Bool) (cause : Nat) : Answer := ⟨o.lane, o.seq, o.op, ack, cause, 0, 0, none⟩

/-- ACK or NAK payload (R236). -/
def Answer.payload (a : Answer) : List Byte :=
  List.flatten [beBytes 4 a.seq, beBytes 2 a.op.id,
    [if a.op.isSetup then 0 else 1, BitVec.ofNat 8 a.cause], beBytes 8 a.frame, beBytes 1 a.slot, [0, 0, 0]]

/-- Queue an ACK or NAK for the issue points `from_` says; a NAK is counted (R236, R248). -/
def State.queueAnswer (s : State) (a : Answer) (from_ : Option Nat) : State :=
  let s1 := s.queueSys ⟨a.lane, [2, a.op.issued, a.lane, a.seq], if a.ack then 5 else 6, none, a.payload, from_⟩
  if a.ack then s1
  else
    let s2 := (s1.bump F.NAKS).raise Src.AGENTS.NAK_SENT
    if a.cause = 6 then s2.raise Src.AGENTS.POOL_EMPTY else s2

/-- Queue a NOTICE of context `n` to one of its endpoints (R237). -/
def State.notice (s : State) (ep n : Nat) (x : Ctx) (kind frame slot seq : Nat) (from_ : Option Nat) : State :=
  let peer := if ep = x.src then x.dst else x.src
  s.queueSys ⟨ep, [1, n], 8, none,
    List.flatten [[BitVec.ofNat 8 kind, BitVec.ofNat 8 peer], beBytes 2 x.id,
      [BitVec.ofNat 8 x.owner, BitVec.ofNat 8 slot, 0, 0], beBytes 8 frame, beBytes 4 seq], from_⟩

/-- NOTICE to both endpoints of a circuit. -/
def State.noticeBoth (s : State) (n : Nat) (x : Ctx) (kind frame slot seq : Nat) (from_ : Option Nat) : State :=
  let s1 := s.notice x.src n x kind frame slot seq from_
  if x.dst = x.src then s1 else s1.notice x.dst n x kind frame slot seq from_

/-- A waiting NOTICE MOVE that names STANDING_SEQ `seq`. -/
def SysItem.isMove (seq : Nat) (x : SysItem) : Bool :=
  x.type == 8 && x.payload.head? == some 0 && x.payload.drop 16 == beBytes 4 seq

end Sys2Proof.Machine
end

