-- ==== Sys2Proof/Machine/Router.lean ====
section
/-! DEFINITION. The Router (R180–R185): the looping algorithm on subnetworks, the composition of a dynamic record, and the
search for a standing path. -/

namespace Sys2Proof.Machine

/-! ## R181 -/

/-- A pair inside a subnetwork: local input link, local output link, and the pair it stands for. -/
structure RPair where
  a : Nat
  b : Nat
  pair : Nat × Nat
  deriving DecidableEq, Repr

/-- A pair with its subnetwork: `lower` is false for U. -/
structure Oriented where
  p : RPair
  lower : Bool
  deriving DecidableEq, Repr

/-- Joined pairs share a first-stage or a last-stage cell (R181 step 2). -/
def joined (x y : RPair) : Bool := x.a / 2 == y.a / 2 || x.b / 2 == y.b / 2

/-- The component of already oriented pairs: joined pairs take opposite subnetworks, ring by ring. -/
def growComponent : Nat → List Oriented → List RPair → List Oriented
  | 0, acc, _ => acc
  | n + 1, acc, left =>
    let new := left.filterMap fun q => (acc.find? fun x => joined x.p q).map fun x => Oriented.mk q !x.lower
    if new.isEmpty then acc
    else growComponent n (acc ++ new) (left.filter fun q => !(new.any fun x => x.p == q))

/-- What a subnetwork's pins ask of a pair: the forces of its outer cells, `some lower`, at cells `c` (R181 step 1). -/
def forceAt (pins : Pins) (base : BitVec 4352) (c x : Nat) : Option Bool :=
  if pins.cells.getLsbD c then some ((x % 2 == 0) == base.getLsbD c) else none

/-- A pair's forces: `none` where it is removed, else the force, if any. -/
def forcesOf (pins : Pins) (base : BitVec 4352) (c1 c2 : Nat) (p : RPair) : Option (Option Bool) :=
  if pins.volatiles.getLsbD c1 || pins.volatiles.getLsbD c2 then none
  else
    match forceAt pins base c1 p.a, forceAt pins base c2 p.b with
    | some x, some y => if x == y then some (some x) else none
    | some x, none => some (some x)
    | none, y => some y

/-- The pair with the smallest `a`. -/
def leastPair : List RPair → Option RPair
  | [] => none
  | p :: ps =>
    match leastPair ps with
    | some q => if q.a < p.a then some q else some p
    | none => some p

/-- The check of a component's other forced pairs, ascending (R181 step 3): a disagreeing pair still in it is removed, and the
component shrinks to what is still joined to its first forced pair. Answers the component and the pairs removed. -/
def checkForced (seed : Oriented) (force : RPair → Option Bool) :
    List RPair → List Oriented → List RPair → List Oriented × List RPair
  | [], comp, gone => (comp, gone)
  | f :: fs, comp, gone =>
    match comp.find? fun x => x.p == f with
    | none => checkForced seed force fs comp gone
    | some x =>
      if force f = some x.lower then checkForced seed force fs comp gone
      else
        let left := (comp.map (·.p)).filter fun q => q != f && q != seed.p
        checkForced seed force fs (growComponent left.length [seed] left) (f :: gone)

/-- Insert a pair by ascending `a`. -/
def insertPair (p : RPair) : List RPair → List RPair
  | [] => [p]
  | q :: qs => if p.a < q.a then p :: q :: qs else q :: insertPair p qs

def sortPairs (l : List RPair) : List RPair := l.foldr insertPair []

/-- Orient every pair (R181 step 3): the loop over unoriented pairs. Answers the oriented pairs and those removed. -/
def orientPairs (force : RPair → Option Bool) : Nat → List RPair → List Oriented → List RPair → List Oriented × List RPair
  | 0, _, done, gone => (done, gone)
  | n + 1, left, done, gone =>
    match leastPair left with
    | none => (done, gone)
    | some p =>
      let comp := growComponent left.length [⟨p, false⟩] (left.filter fun q => q != p)
      let members := comp.map (·.p)
      let forced := sortPairs (members.filter fun q => (force q).isSome)
      let r :=
        match forced with
        | [] => (comp, [])
        | f :: fs =>
          let seed : Oriented := ⟨f, (force f).getD false⟩
          checkForced seed force fs (growComponent members.length [seed] (members.filter fun q => q != f)) []
      let left' := left.filter fun q => !(r.1.any fun x => x.p == q) && !r.2.contains q
      orientPairs force n left' (done ++ r.1) (gone ++ r.2)

/-- The cells of a subnetwork's routing that are in cross, and the pairs removed. -/
structure Routing where
  cross : List Nat
  removed : List (Nat × Nat)
  deriving DecidableEq, Repr

/-- An unpinned outer cell's state from its pairs (R181 step 4): from the pair on link 2p, else that on 2p + 1. -/
def outerCross (link : RPair → Nat) (ps : List Oriented) (p : Nat) : Bool :=
  match ps.find? fun x => link x.p == 2 * p with
  | some x => x.lower
  | none =>
    match ps.find? fun x => link x.p == 2 * p + 1 with
    | some x => !x.lower
    | none => false

/-- Route the subnetwork of width 2^(k+1) whose first link is `base`; `s` holds the pinned cells' states (R181). -/
def routeSub (pins : Pins) (s : BitVec 4352) : Nat → Nat → List RPair → Routing
  | 0, base, ps =>
    let c := 2048 + base / 2
    let bad (p : RPair) : Bool := pins.volatiles.getLsbD c || (pins.cells.getLsbD c && s.getLsbD c != (p.a != p.b))
    ⟨if ps.any (fun p => !bad p && p.a != p.b) then [c] else [], (ps.filter bad).map (·.pair)⟩
  | k + 1, base, ps =>
    let first := 256 * (7 - k) + base / 2
    let last := 256 * (9 + k) + base / 2
    let forces (p : RPair) : Option (Option Bool) := forcesOf pins s (first + p.a / 2) (last + p.b / 2) p
    let kept := ps.filter fun p => (forces p).isSome
    let gone0 := ps.filter fun p => !(forces p).isSome
    let o := orientPairs (fun p => (forces p).getD none) kept.length kept [] []
    let half := 2 ^ (k + 1)
    let cells := List.range half
    let cross1 := (cells.filter fun p => outerCross (·.a) o.1 p).map (first + ·)
    let cross2 := (cells.filter fun p => outerCross (·.b) o.1 p).map (last + ·)
    let inner (lower : Bool) : List RPair :=
      (o.1.filter fun x => x.lower == lower).map fun x => ⟨x.p.a / 2, x.p.b / 2, x.p.pair⟩
    let u := routeSub pins s k base (inner false)
    let l := routeSub pins s k (base + half) (inner true)
    ⟨List.flatten [cross1, cross2, u.cross, l.cross],
      List.flatten [(gone0 ++ o.2).map (·.pair), u.removed, l.removed]⟩

/-- Route a set of pairs around pins over the standing cell states `s` (R180, R181): the cell states before R166 takes the
unlit cells to bar, and the pairs removed. A pinned cell keeps its state in `s`. -/
def route (pins : Pins) (s : BitVec 4352) (pairs : List (Nat × Nat)) : BitVec 4352 × List (Nat × Nat) :=
  let r := routeSub pins s 8 0 (pairs.map fun x => ⟨x.1, x.2, x⟩)
  (choose pins.cells s (maskOf 4352 r.cross), r.removed)

/-- The dynamic record of slot `k` of frame `f` for a slot's pairs (R166, R181, R183), composed against `base`. -/
def State.composeRecord (s : State) (f k : Nat) (pins : Pins) (base : Accord) (pairs : List (Nat × Nat)) :
    Accord × List (Nat × Nat) :=
  let r := route pins base.cells pairs
  let kept := pairs.filter fun x => !r.2.contains x
  let a := s.lightRecord { accordEmpty with
    kind := 1, index := k, flagged := !r.2.isEmpty, seq := base.seq, frame := f, removed := r.2.length } r.1 kept
  ({ a with cells := a.cells ||| (pins.cells &&& base.cells) }.seal, r.2)

/-! ## The standing search (R185) -/

/-- Orientation of search path `x` at depth `d` (0 U), and the first link of the subnetwork it enters there. -/
def searchBit (x d : Nat) : Nat := x / 2 ^ (7 - d) % 2
def searchBase (x d : Nat) : Nat := 2 * (x / 2 ^ (8 - d) * 2 ^ (8 - d))

/-- One hop of a search path: its cell, its output link, and whether it needs the cell in cross. -/
structure Need where
  cell : Nat
  link : Nat
  cross : Bool
  deriving DecidableEq, Repr

/-- The hop of path `x` from in `i` to out `j` at stage `s`. -/
def searchHop (i j x s : Nat) : Need :=
  let d := if s ≤ 8 then s else 16 - s
  let base := searchBase x d
  let a := i / 2 ^ d
  let b := j / 2 ^ d
  let up := 2 * (a / 2) + searchBit x d
  let down := 2 * (b / 2) + searchBit x d
  let fromLink := if s ≤ 8 then a else down
  let toLink := if s < 8 then up else b
  ⟨256 * s + (base + fromLink) / 2, base + toLink, (base + fromLink) % 2 != (base + toLink) % 2⟩

def searchPath (i j x : Nat) : List Need := (List.range 17).map fun s => searchHop i j x s

/-- A path is free in a standing accord (R185): no link of a lit path, and every cell unlit or already as needed. -/
def pathFree (base : Accord) (lit : List (Nat × Nat × List Hop)) (p : List Need) : Bool :=
  let used := base.litCells
  p.all fun n =>
    (!used.getLsbD n.cell || base.cells.getLsbD n.cell == n.cross) &&
      !(lit.any fun x => x.2.2.any fun h => h.link == n.link && h.cell / 256 == n.cell / 256)

/-- The first free path of the 256, in ascending order of x. -/
def findPath (base : Accord) (i j : Nat) : Option (List Need) :=
  let lit := base.lit
  ((List.range 256).map (searchPath i j)).find? fun p => pathFree base lit p

/-- The standing accord with a pair lit over a path. -/
def State.addPath (s : State) (base : Accord) (i j : Nat) (p : List Need) : Accord :=
  s.lightRecord base (p.foldl (fun m n => setBit m n.cell n.cross) base.cells) (base.litPairs ++ [(i, j)])

/-- Route one more pair; none where it is blocked. -/
def State.addPair (s : State) (base : Accord) (x : Nat × Nat) : Option Accord :=
  (findPath base x.1 x.2).map fun p => s.addPath base x.1 x.2 p

/-- Route several more pairs, all or none. -/
def State.addPairs (s : State) (base : Accord) : List (Nat × Nat) → Option Accord
  | [] => some base
  | x :: xs =>
    match s.addPair base x with
    | some b => s.addPairs b xs
    | none => none

/-- The standing accord without some pairs (R185 step 1). -/
def State.dropPairs (s : State) (base : Accord) (gone : List (Nat × Nat)) : Accord :=
  s.lightRecord base base.cells (base.litPairs.filter fun x => !gone.contains x)

/-- A rearrangement (R185 step 3): every pair routed afresh, without pins. -/
def State.rearrange (s : State) (base : Accord) (pairs : List (Nat × Nat)) : Accord :=
  s.lightRecord base (route pinsNone 0 pairs).1 pairs

end Sys2Proof.Machine
end

