-- ==== Sys2Proof/Machine/Standing.lean ====
section
/-! DEFINITION. Standing accords: cuts and their routing (R184, R185), apply boundaries (R186), answers and notices (R187, R188,
R243), alternates (R189–R191) and protection switching (R192–R194). -/

namespace Sys2Proof.Machine

/-! ## Slot boundaries as numbers -/

/-- The slots since FRAME_EPOCH of a boundary. -/
def State.slotNumber (s : State) (frame slot : Nat) : Nat := frame * s.slots + slot

/-- The first slot boundary at or after network time `t`, as a slot number. -/
def State.boundaryFrom (s : State) (t : Nat) : Nat :=
  if s.slotNs = 0 then 0 else (t - s.epoch + (s.slotNs - 1)) / s.slotNs

/-- Network time of a slot number's boundary. -/
def State.boundaryTime (s : State) (g : Nat) : Nat := s.epoch + g * s.slotNs

/-- The slot in progress as a slot number. -/
def State.slotNow (s : State) : Nat := s.slotNumber s.frame s.slot

/-- The first slot boundary after now, as a slot number. -/
def State.nextBoundary (s : State) : Nat := if s.preEpoch then 0 else s.slotNow + 1

/-! ## The chain of standing accords -/

/-- B_S: the newest update routed or pending, or S (R185). -/
def State.newest (s : State) : Accord :=
  match (s.plane.updates ++ s.plane.cuts).getLast? with
  | some u => u.accord
  | none => s.standing

def State.newestSeq (s : State) : Nat :=
  match (s.plane.updates ++ s.plane.cuts).getLast? with
  | some u => u.accord.seq
  | none => s.standSeq

def State.setPlane (s : State) (p : Plane) : State := { s with plane := p }

/-! ## The cut (R184, R185) -/

/-- The standing boundary an operation belongs to: the first slot boundary at or after issue + CUT_LAG (R184). -/
def State.opBoundary (s : State) (o : StandOp) : Nat := s.boundaryFrom (o.op.issued + 1000 * s.rd F.CIRCUIT_CFG.CUT_LAG_US)

/-- Pairs a setup counts toward the 64 of a cut (R184). -/
def StandOp.weight (o : StandOp) : Nat :=
  match o.op with
  | .setup p => if p.bidir then 2 else 1
  | .release _ => 0

/-- Take operations in R185 order while their pairs fit; setups that do not fit, and those after them, wait. -/
def takeOps : Nat → List StandOp → List StandOp × List StandOp
  | _, [] => ([], [])
  | room, o :: os =>
    if o.weight = 0 then
      let r := takeOps room os
      (o :: r.1, r.2)
    else if o.weight ≤ room then
      let r := takeOps (room - o.weight) os
      (o :: r.1, r.2)
    else
      let r := takeOps 0 os
      (r.1, o :: r.2)

/-- The pairs (in, out) a setup asks for. -/
def setupPairs (p : SetupMsg) : List (Nat × Nat) :=
  if p.bidir then [(p.inPort, p.outPort), (p.revIn, p.revOut)] else [(p.inPort, p.outPort)]

/-- What a cut has built so far. -/
structure CutWork where
  accord : Accord
  /-- Pairs of blocked setups, to be lit by a rearrangement. -/
  blocked : List (Nat × Nat)
  ins : List Nat
  outs : List Nat
  ops : List StandOp
  lit : List Nat
  freed : List Nat
  answers : List Answer
  deriving DecidableEq, Repr

/-- The contexts of a circuit held for OWNER and CIRCUIT_ID whose endpoints include `ep`; a circuit not yet releasing
comes first. -/
def State.circuitOf (s : State) (owner id ep : Nat) : List (Nat × Ctx) :=
  let own := s.heldCtxs.filter fun e => e.2.owner == owner && e.2.id == id && (e.2.src == ep || e.2.dst == ep)
  let live := own.filter fun e => e.2.state != 3
  if live.isEmpty then own else live

/-- A release at the cut of slot number `here` (R185 step 1): `withdraw` holds the cut's setups; answers the setups it
cancels. What the cut refuses is answered at the first slot boundary after it (R229, R243). -/
def State.cutRelease (s : State) (here : Nat) (w : CutWork) (withdraw : List StandOp) (o : StandOp) (p : ReleaseMsg) :
    State × CutWork × List StandOp :=
  match s.circuitOf p.owner p.id o.lane with
  | [] =>
    match withdraw.find? fun x =>
      x.lane == p.owner && x.op.id == p.id && (o.lane == x.lane || o.lane == x.op.peer) with
    | some x =>
      let ack : Answer := { answerOf o true 0 with frame := here / s.slots, slot := here % s.slots }
      ((s.queueAnswer ack (some (here + 1))).queueAnswer (answerOf x false 9) (some (here + 1)), w,
        withdraw.filter fun y => y != x)
    | none => (s.queueAnswer (answerOf o false 10) (some (here + 1)), w, withdraw)
  | cs =>
    let gone := (cs.filter fun e => e.2.state != 3)
    let s1 := gone.foldl (fun s e => s.setCtx e.1 { e.2 with state := 3 }) s
    (s1, { w with
      accord := s.dropPairs w.accord (gone.map fun e => (e.2.inPort, e.2.outPort))
      ops := w.ops ++ [o], freed := w.freed ++ cs.map (·.1)
      answers := w.answers ++ [{ answerOf o true 0 with ctx := cs.head?.map (·.1) }] }, withdraw)

/-- CIRCUIT_ID is open for the requester with other parameters (R236). -/
def State.idInUse (s : State) (w : CutWork) (o : StandOp) (p : SetupMsg) : Bool :=
  let pairs := setupPairs p
  let mine := s.heldCtxs.filter fun e => e.2.owner == o.lane && e.2.id == p.id && e.2.state != 3
  (!mine.isEmpty && !(mine.length == pairs.length && mine.all fun e => pairs.contains (e.2.inPort, e.2.outPort))) ||
    w.ops.any fun x => match x.op with
      | .setup q => x.lane == o.lane && q.id == p.id && setupPairs q != pairs
      | .release _ => false

/-- A port the setup names is lit in the cut's accord or used by an earlier setup of it (R185). -/
def portBusy (w : CutWork) (p : SetupMsg) : Bool :=
  let lit := w.accord.litPairs
  (setupPairs p).any fun x =>
    w.ins.contains x.1 || w.outs.contains x.2 || lit.any fun y => y.1 == x.1 || y.2 == x.2

/-- The contexts of a setup, ROUTED (R242). -/
def setupCtxs (o : StandOp) (p : SetupMsg) (idx : List Nat) (seq : Nat) : List (Nat × Ctx) :=
  let base : Ctx := { ctxFree with
    state := 1, bidir := p.bidir, agent := o.agent, owner := o.lane, src := o.lane, dst := p.peer, id := p.id,
    inPort := p.inPort, outPort := p.outPort, setupSeq := o.seq, sec := p.sec % 2 ^ 32, ns := p.ns, standSeq := seq }
  match idx with
  | [i] => [(i, base)]
  | i :: j :: _ =>
    [(i, { base with partner := j }),
      (j, { base with partner := i, src := p.peer, dst := o.lane, inPort := p.revIn, outPort := p.revOut })]
  | [] => []

/-- A setup at the cut (R185 steps 2 and 3): ID_IN_USE, BUSY, POOL, then the search. -/
def State.cutSetup (s : State) (here : Nat) (w : CutWork) (seq : Nat) (o : StandOp) (p : SetupMsg) : State × CutWork :=
  let refuse (cause : Nat) : State × CutWork := (s.queueAnswer (answerOf o false cause) (some (here + 1)), w)
  let pairs := setupPairs p
  let idx := s.freeCtxs pairs.length
  if s.idInUse w o p then refuse 7
  else if portBusy w p then refuse 5
  else if idx.length < pairs.length then refuse 6
  else
    let held := (setupCtxs o p idx seq).foldl (fun s e => s.setCtx e.1 e.2) s
    let w1 : CutWork := { w with
      ins := w.ins ++ pairs.map Prod.fst, outs := w.outs ++ pairs.map Prod.snd, ops := w.ops ++ [o],
      lit := w.lit ++ idx, answers := w.answers ++ [{ answerOf o true 0 with ctx := idx.head? }] }
    match s.addPairs w.accord pairs with
    | some a => (held, { w1 with accord := a })
    | none => if s.flag F.CIRCUIT_CFG.REARRANGE then (held, { w1 with blocked := w1.blocked ++ pairs }) else refuse 3

/-- Releases first, then setups, each in R185 order. -/
def State.cutWork (s : State) (here : Nat) (base : Accord) (seq : Nat) (ops : List StandOp) : State × CutWork :=
  let w0 : CutWork := ⟨base, [], [], [], [], [], [], []⟩
  let r := ops.foldl (fun (x : State × CutWork × List StandOp) o =>
    match o.op with
    | .release p => State.cutRelease x.1 here x.2.1 x.2.2 o p
    | .setup _ => x) (s, w0, ops.filter fun o => o.op.isSetup)
  r.2.2.foldl (fun (x : State × CutWork) o =>
    match o.op with
    | .setup p => State.cutSetup x.1 here x.2 seq o p
    | .release _ => x) (r.1, r.2.1)

/-- The primary contexts of circuits whose path changes any cell between two accords (R187). -/
def State.movedCtxs (s : State) (old new : Accord) (fresh : List Nat) : List Nat :=
  let path (a : Accord) (x : Ctx) : List Nat := (trace a.cells x.inPort).map (·.cell)
  let moved (n : Nat) (x : Ctx) : Bool := !fresh.contains n && x.state != 3 && x.state != 0 && path old x != path new x
  (s.heldCtxs.filter fun e =>
    (!e.2.bidir || decide (e.1 < e.2.partner)) &&
      (moved e.1 e.2 || (e.2.bidir && moved e.2.partner (s.ctx e.2.partner)))).map (·.1)

/-- The standing cut at slot number `here`: `ops` are the operations it takes (R184, R185). -/
def State.runCut (s : State) (here : Nat) (ops : List StandOp) : State :=
  let base := s.newest
  let seq := next32 s.newestSeq
  let r := s.cutWork here base seq ops
  let w := r.2
  let s1 := r.1
  if w.ops.isEmpty then s1
  else
    let rearr := !w.blocked.isEmpty
    let a := if rearr then s1.rearrange w.accord (w.accord.litPairs ++ w.blocked) else w.accord
    let b : Accord := { a with
      kind := 2, host := false, flagged := false, seq := seq, frame := 0, removed := 0, applySlot := 0, baseSeq := 0 }
    let moved := if rearr then s1.movedCtxs base b w.lit else []
    let u : Update := ⟨b, 0, 0, 0, rearr, s.boundaryTime here, w.ops, w.lit, w.freed, moved, w.answers⟩
    s1.setPlane { s1.plane with cuts := s1.plane.cuts ++ [u] }

/-- The standing cut at slot number `here`: operations due, replays among them, in R185 order (R184). -/
def State.takeCut (s : State) (here : Nat) : State :=
  let due := s.plane.replay ++ s.plane.ops.filter fun o => decide (s.opBoundary o ≤ here)
  if due.isEmpty then s
  else
    let r := takeOps 64 (sortBy StandOp.key due)
    let s1 := s.setPlane { s.plane with
      replay := [], ops := s.plane.ops.filter (fun o => !due.contains o) ++ r.2 }
    (if r.2.isEmpty then s1 else s1.raise Src.ACCORD.CUT_DEFERRED).runCut here r.1

/-! ## Undoing an update (R193, R242, R341) -/

/-- An update is discarded: its MOVE notices are cancelled where `cancel` says so, at the first slot boundary after; then its
contexts go back and its operations will be replayed (R193, R243). A circuit that it was to release is LIT again, or ROUTED
where a pending update is still to light it. -/
def State.undoUpdate (s : State) (cancel : Bool) (u : Update) : State :=
  let s1 := if cancel then u.moved.foldl (fun s n =>
    s.noticeBoth n (s.ctx n) 1 u.frame u.slot u.accord.seq (some s.nextBoundary)) s else s
  let s2 := u.lit.foldl (fun s n => s.setCtx n ctxFree) s1
  let s3 := u.freed.foldl (fun s n =>
    let x := s.ctx n
    if x.state = 3 then
      s.setCtx n { x with state := if s.plane.updates.any fun v => v.lit.contains n then 1 else 2 }
    else s) s2
  s3.setPlane { s3.plane with replay := u.ops ++ s3.plane.replay }

/-- Discard every cut in progress and every pending update, newest first (R193, R341). -/
def State.discardUpdates (s : State) : State :=
  let s1 := s.plane.cuts.reverse.foldl (fun s u => s.undoUpdate false u) s
  let s2 := s1.plane.updates.reverse.foldl (fun s u => s.undoUpdate true u) s1
  (s2.setPlane { s2.plane with cuts := [], updates := [] }).showPending

/-! ## Committing (R185, R186) -/

/-- The lowest-indexed free standing record: not S, not pending, not armed. -/
def State.freeStanding (s : State) : Option Nat :=
  (List.range 16).find? fun n =>
    n != s.activeIndex && !s.armed.contains n && !s.plane.updates.any fun u => u.record == n

/-- The first slot number at which an update committed at network time `c` may apply (R186). -/
def State.applyFrom (s : State) (c : Nat) (rearr : Bool) : Nat :=
  let lead := 1000 * s.rd F.CIRCUIT_CFG.NOTICE_LEAD_US
  if s.planeMode = 0 then s.boundaryFrom (if rearr then c + lead else c + 2000)
  else
    -- the first T(F) with T(F − 1) after the commit
    let f := (c - s.epoch) / s.frameNs + 2
    let g := if rearr then (s.boundaryFrom (c + lead) + s.slots - 1) / s.slots else 0
    s.slots * max f g

/-- The instant R186 measures from: the commit, or in a unit with TWIN_EN = 1 the latest one R185 allows (R309). -/
def State.commitInstant (s : State) (u : Update) : Nat :=
  if s.flag F.HIER_INFO.TWIN_EN then u.cutAt + (if u.rearranged then 30000 else 10000) else s.now

/-- STANDING UPDATE of R302. -/
def State.tellStanding (s : State) (kind index frame slot : Nat) (record : Option Accord) : State :=
  s.toWorkers 0x23 (List.flatten [[BitVec.ofNat 8 kind, BitVec.ofNat 8 index, 0, 0], beBytes 8 frame,
    [BitVec.ofNat 8 slot, 0, 0, 0], match record with | some a => a.bytes | none => []])

/-- The issue points for the NOTICE of a rearrangement (R187): the next one, or in a unit with TWIN_EN = 1 the first slot
boundary from the instant of R309 on. -/
def State.moveFrom (s : State) (u : Update) : Option Nat :=
  if s.flag F.HIER_INFO.TWIN_EN then some (s.boundaryFrom (s.commitInstant u)) else none

/-- Commit an update to record `n` with its boundary; an older update with the same boundary is replaced, and a circuit that it
was to move is told the STANDING_SEQ that will enter force (R186, R187). -/
def State.commitTo (s : State) (u : Update) (n g : Nat) (old : Option Update) (earlier : List Update) : State :=
  let frame := g / s.slots
  let slot := g % s.slots
  let a := { u.accord with index := n }.seal
  let v : Update :=
    match old with
    | some o => { u with
        accord := a, record := n, frame := frame, slot := slot, ops := o.ops ++ u.ops, lit := o.lit ++ u.lit,
        freed := o.freed ++ u.freed, answers := o.answers ++ u.answers,
        moved := o.moved ++ u.moved.filter fun m => !o.moved.contains m }
    | none => { u with accord := a, record := n, frame := frame, slot := slot }
  let s1 := (s.setRecord (standRecord n) a).setPlane { (s.setRecord (standRecord n) a).plane with
    updates := earlier ++ [v] }
  let s2 := v.lit.foldl (fun s m => s.setCtx m { s.ctx m with standSeq := a.seq }) s1.showPending
  let told : State := match old with
    | some o => { s2 with issueq := s2.issueq.filter fun x => !x.isMove o.accord.seq }
    | none => s2
  let s3 := v.moved.foldl (fun s m => s.noticeBoth m (s.ctx m) 0 frame slot a.seq (s.moveFrom u)) told
  let s4 := if u.rearranged then s3.bump F.REARRANGEMENTS else s3
  s4.tellStanding 0 n frame slot (some a)

/-- The oldest routed cut is committed, to the lowest free record: that of an update it replaces is free (R186). With three
updates pending and none it replaces, it and the cuts built on it are deferred to the next cut (R184, R185). -/
def State.commitStanding (s : State) : State :=
  match s.plane.cuts with
  | [] => s
  | u :: more =>
    let last := s.plane.updates.getLast?
    let lastAt := match last with | some o => s.slotNumber o.frame o.slot | none => 0
    let g := max (s.applyFrom (s.commitInstant u) u.rearranged) lastAt
    let replaces := last.isSome && g == lastAt
    let earlier := if replaces then s.plane.updates.dropLast else s.plane.updates
    let s1 := s.setPlane { s.plane with cuts := more, updates := earlier }
    match if 3 ≤ earlier.length then none else s1.freeStanding with
    | some n => s1.commitTo u n g (if replaces then last else none) earlier
    | none =>
      (s.plane.cuts.reverse.foldl (fun s u => s.undoUpdate false u)
        (s.setPlane { s.plane with cuts := [] })).raise Src.ACCORD.CUT_DEFERRED

def execStandingCommit (s : State) : Host.Outcome State Fault Refusal := .next (s.onMain State.commitStanding)

/-! ## Alternates (R190, R191) -/

def State.setAlternate (s : State) (n : Nat) (x : Option Alternate) : State :=
  let l := s.plane.alternates.filter fun e => e.1 != n
  s.setPlane { s.plane with alternates := match x with | some a => l ++ [(n, a)] | none => l }

def withBit (v n : Nat) (b : Bool) : Nat := if b then v ||| 2 ^ n else v - (v &&& 2 ^ n)

def State.setArmed (s : State) (n : Nat) (b : Bool) : State := s.wr F.ALT_ARMED.ARMED (withBit (s.rd F.ALT_ARMED.ARMED) n b)
def State.setEligible (s : State) (n : Nat) (b : Bool) : State :=
  s.wr F.ALT_ELIGIBLE.ELIGIBLE (withBit (s.rd F.ALT_ELIGIBLE.ELIGIBLE) n b)

def State.altRefused (s : State) : State := s.raise Src.ACCORD.ALT_REFUSED

/-- The checks of R190 on arming record `n`. -/
def State.armBad (s : State) (n : Nat) : Bool :=
  let a := s.record (standRecord n)
  let base := s.standing.litPairs
  let others := (s.armed.filter (· != n)).flatMap fun k => (s.record (standRecord k)).litPairs
  n == s.activeIndex || (s.plane.updates.any fun u => u.record == n) || a.kind != 2 || !a.whole ||
    (a.litPairs.any fun x =>
      (others.any (fun y => y.1 == x.1) && !base.any fun y => y.1 == x.1) ||
        (others.any (fun y => y.2 == x.2) && !base.any fun y => y.2 == x.2)) ||
    decide (12 ≤ s.armed.length)

/-- Mark record `n` armed, with its difference from S (R190). -/
def State.armRecord (s : State) (n : Nat) : State :=
  let base := s.standing
  let a := { s.record (standRecord n) with baseSeq := s.standSeq }.seal
  let s1 := ((s.setRecord (standRecord n) a).setArmed n true).setEligible n (s.planeMode == 0)
  s1.setAlternate n (some ⟨a.litPairs.filter fun x => !base.litPairs.contains x,
    base.litPairs.filter fun x => !a.litPairs.contains x, none⟩)

def State.armAlternate (s : State) (n : Nat) : State :=
  if s.armBad n then s.altRefused
  else
    let s1 := s.armRecord n
    s1.tellStanding 1 n 0 0 (some (s1.record (standRecord n)))

/-- Take a record out of the armed set. -/
def State.dropAlternate (s : State) (n : Nat) : State := ((s.setArmed n false).setEligible n false).setAlternate n none

def State.disarmAlternate (s : State) (n : Nat) : State :=
  if s.armed.contains n then (s.dropAlternate n).tellStanding 2 n 0 0 none else s

def execAltCmdArm (m : Master) (n : Fin 16) (s : State) : Host.Outcome State Fault Refusal :=
  .next (s.gate m F.ALT_CMD.ARM.addr fun s => s.armAlternate n)

def execAltCmdDisarm (m : Master) (n : Fin 16) (s : State) : Host.Outcome State Fault Refusal :=
  .next (s.gate m F.ALT_CMD.ARM.addr fun s => s.disarmAlternate n)

/-- A rebuilt alternate: the new S minus its dropped pairs plus its added ones, none on a conflict (R191). -/
def State.rebuilt (s : State) (x : Alternate) : Option Accord :=
  let kept := s.dropPairs s.standing x.dropped
  let lit := kept.litPairs
  let added := x.added.filter fun p => !lit.contains p
  if added.any fun p => lit.any fun q => q.1 == p.1 || q.2 == p.2 then none else s.addPairs kept added

/-- Rebuild armed alternate `n` after S has changed (R191). -/
def State.rebuildOne (s : State) (n : Nat) : State :=
  match s.plane.alternates.lookup n with
  | none => s
  | some x =>
    match s.rebuilt x with
    | none =>
      let s1 := (s.disarmAlternate n)
      (s1.setEvent { F.ALT_STALE.STALE with lsb := n, width := 1 }).raise Src.ACCORD.ALT_STALE
    | some a =>
      let old := s.record (standRecord n)
      let b := { a with
        kind := 2, index := n, host := false, flagged := false, seq := old.seq, frame := 0, removed := 0,
        applySlot := 0, baseSeq := s.standSeq }.seal
      let s1 := s.setRecord (standRecord n) b
      let s2 := if s1.planeMode = 0 then s1
        else (s1.setEligible n false).setAlternate n (some { x with eligibleFrom := none })
      s2.tellStanding 1 n 0 0 (some b)

def State.rebuildAlternates (s : State) : State := s.armed.foldl State.rebuildOne s

/-- A composition of frame `f` begins: alternates that wait for it are eligible from that frame on (R190, R191). -/
def State.markEligibleFrom (s : State) (f : Nat) : State :=
  s.setPlane { s.plane with
    alternates := s.plane.alternates.map fun e =>
      (e.1, if e.2.eligibleFrom.isNone && !(s.rd F.ALT_ELIGIBLE.ELIGIBLE).testBit e.1
        then { e.2 with eligibleFrom := some f } else e.2) }

/-- Frame `f` begins: alternates eligible from it or an earlier one become so. -/
def State.makeEligible (s : State) (f : Nat) : State :=
  s.plane.alternates.foldl (fun s e =>
    match e.2.eligibleFrom with
    | some g => if g ≤ f then s.setEligible e.1 true else s
    | none => s) s

/-! ## The apply boundary (R186, R243) -/

/-- Keep an answer with the contexts of its circuit, for a RETRY (R244). -/
def State.keepAnswer (s : State) (a : Answer) : State :=
  let owner := match a.op with | .setup _ => a.lane | .release p => p.owner
  let mine := s.plane.ctxs.filter fun e => e.2.owner == owner && e.2.id == a.op.id
  mine.foldl (fun s e => s.setCtx e.1 { e.2 with answers := e.2.answers ++ [a] }) s

/-- The answer of an operation whose update applies, and the notice to the other endpoint (R243). -/
def State.answerApplied (s : State) (u : Update) (a0 : Answer) : State :=
  let a := { a0 with frame := u.frame, slot := u.slot }
  let s1 := (s.queueAnswer a none).keepAnswer a
  let s2 := s1.bump (if a.op.isSetup then F.SETUPS_LIT else F.RELEASES)
  match a.ctx with
  | some n =>
    let x := s.ctx n
    let peer := if x.src = a.lane then x.dst else x.src
    if peer = a.lane then s2
    else s2.notice peer n x (if a.op.isSetup then 2 else 3) u.frame u.slot u.accord.seq none
  | none => s2

/-- The oldest pending update becomes S (R186). -/
def State.applyUpdate (s : State) (u : Update) : State :=
  let a := { u.accord with frame := u.frame, applySlot := u.slot }.seal
  let s1 := ((s.setRecord (standRecord u.record) a).wr F.STANDING_STATUS.ACTIVE u.record).wr F.STANDING_SEQ.SEQ a.seq
  let s2 := (s1.setPlane { s1.plane with updates := s1.plane.updates.drop 1 }).showPending
  let s3 := s2.bump F.STANDING_UPDATES
  let s4 := u.answers.foldl (fun s x => s.answerApplied u x) s3
  let s5 := u.lit.foldl (fun s n => if (s.ctx n).state = 1 then s.setCtx n { s.ctx n with state := 2 } else s) s4
  let s6 := u.freed.foldl (fun s n => if (s.ctx n).state = 3 then s.setCtx n { s.ctx n with state := 0 } else s) s5
  s6.rebuildAlternates

/-- Apply every pending update whose boundary has come, oldest first. -/
def State.applyDue (s : State) (g : Nat) : State :=
  s.plane.updates.foldl (fun s u => if s.slotNumber u.frame u.slot ≤ g then s.applyUpdate u else s) s

/-! ## Protection switching (R192–R194, R310) -/

/-- A pair PAIRED and not RANK 1 sends its requests to the lead (R310). -/
def State.standby (s : State) : Bool := s.twin == 4 && s.rd F.TWIN_STATUS.RANK != 1

/-- SWITCH payload (R297). -/
def switchPayload (op n : Nat) (inserted : Bool) (frame slot offset : Nat) : List Byte :=
  List.flatten [[BitVec.ofNat 8 op, BitVec.ofNat 8 n, BitVec.ofNat 8 inserted.toNat, 0], beBytes 8 frame,
    [BitVec.ofNat 8 slot, 0, 0, 0], beBytes 4 offset]

/-- Alternate `n` may be switched to (R194); outside service and in PRE_EPOCH no plane strobe may fire, so none may (R281,
R344, log 16). -/
def State.switchable (s : State) (n : Nat) : Bool :=
  s.start == 4 && !s.preEpoch && s.armed.contains n && (s.rd F.ALT_ELIGIBLE.ELIGIBLE).testBit n && !(s.rd F.ALT_STALE.STALE).testBit n

/-- A request for alternate `n`, activated now (R192, R194): of requests of one cycle the lowest proceeds; a standby sends each
one to the lead (R310). -/
def State.requestSwitch (s : State) (n : Nat) : State :=
  if s.standby then s.toTwin 0x24 (switchPayload 1 n false 0 0 0)
  else if n = s.activeIndex then s
  else if !s.switchable n || s.plane.taken.isSome then s.altRefused
  else
    match s.plane.request with
    | none => s.setPlane { s.plane with request := some ⟨n, s.now, s.clock⟩ }
    | some r =>
      if r.clock = s.clock ∧ n < r.index then
        (s.setPlane { s.plane with request := some ⟨n, s.now, s.clock⟩ }).altRefused
      else if r.index = n then s
      else s.altRefused

def execSwitchCmd (m : Master) (n : Fin 16) (s : State) : Host.Outcome State Fault Refusal :=
  .next (s.gate m F.SWITCH_CMD.GO.addr fun s => s.requestSwitch n)

/-- Plane strobes fire on schedule: in service, past FRAME_EPOCH, not waiting for a new timeline (R169, R279, R341). -/
def State.strobing (s : State) : Bool := s.start == 4 && !s.plane.quiet && !s.preEpoch

/-- The first scheduled plane strobe later than network time `t`, in network time (R169). -/
def State.nextStrobe (s : State) (t : Nat) : Option Nat :=
  if !s.strobing then none
  else if s.planeMode = 0 then
    (s.plane.updates.map fun u => s.boundaryTime (s.slotNumber u.frame u.slot)).find? fun b => decide (t < b)
  else
    let b := s.boundaryTime (s.boundaryFrom (t + 1))
    match s.time.resumeFrame with
    | some f => some (max b (s.frameStart f))
    | none => some b

/-- The Router takes a request and chooses its strobe: B − 400 ns after the take, or in a pair at least TWIN_LEAD after it
(R192, R310). -/
def State.takeSwitch (s : State) : State :=
  match s.plane.request with
  | none => s
  | some r =>
    let s0 := s.setPlane { s.plane with request := none }
    if !s0.switchable r.index then s0.altRefused
    else
      let lead := if s0.twin = 4 then 1000 * s0.rd F.TIER_CFG.TWIN_LEAD_US - 1 else 0
      let scheduled := (s0.nextStrobe (s0.now + 400 + lead)).filter fun b => decide (b ≤ r.activated + 8400)
      let t : Taken := match scheduled with
        | some b => ⟨r.index, b, false⟩
        | none => ⟨r.index, (r.activated + 8000 + 3) / 4 * 4, true⟩
      let g := (t.at_ - s0.epoch) / s0.slotNs
      let p := switchPayload 0 t.index t.inserted (g / s0.slots) (g % s0.slots) (t.at_ - s0.boundaryTime g)
      let s1 := (s0.setPlane { s0.plane with taken := some t }).setFlag F.STANDING_STATUS.SWITCH_BUSY true
      let s2 := s1.toWorkers 0x24 p
      if s2.twin = 4 then s2.toTwin 0x24 p else s2

def execSwitchTake (s : State) : Host.Outcome State Fault Refusal := .next (s.onMain State.takeSwitch)

/-- A context whose pair the new S does not carry (R193, R243). -/
def State.dropContext (s : State) (frame slot : Nat) (e : Nat × Ctx) : State :=
  let x := e.2
  let twice := x.bidir && decide (x.partner < e.1) && (s.ctx x.partner).state == 0 && (s.ctx x.partner).id == x.id
  let s1 := if twice then s else s.noticeBoth e.1 x 4 frame slot s.standSeq none
  ((s1.setCtx e.1 { x with state := 0 }).bump F.DROPPED_CNT).raise Src.AGENTS.CTX_DROPPED

/-- Alternate `n` becomes S (R193). -/
def State.applySwitch (s : State) (n : Nat) : State :=
  let seq := next32 s.standSeq
  let s1 := s.discardUpdates
  let a := { s1.record (standRecord n) with seq := seq, frame := s1.frame, applySlot := s1.slot, baseSeq := 0 }.seal
  let s2 := (((s1.setRecord (standRecord n) a).dropAlternate n).wr F.STANDING_STATUS.ACTIVE n).wr F.STANDING_SEQ.SEQ seq
  let s3 := (s2.setPlane { s2.plane with taken := none }).setFlag F.STANDING_STATUS.SWITCH_BUSY false
  let pairs := a.litPairs
  let gone := s3.heldCtxs.filter fun e => !pairs.contains (e.2.inPort, e.2.outPort)
  let s4 := gone.foldl (fun s e => s.dropContext a.frame a.applySlot e) s3
  ((s4.bump F.SWITCHES).rebuildAlternates).raise Src.ACCORD.STANDING_SWITCHED

/-! ## Writes of accord memory (R189) -/

def State.refuseAccord (s : State) : State := (s.bump F.ACCORD_WRITE_REFUSED_CNT).raise Src.ACCORD.WRITE_REFUSED

/-- A write of word `w` of record `r` (R164 numbering: 0–127 dynamic, 128–143 standing). -/
def State.writeRecord (s : State) (r w : Nat) (v : Word) : State :=
  let n := r - 128
  if r < 128 then
    if s.planeMode = 0 then
      let a := (s.record r).setWord w v
      s.setRecord r { a with host := true }
    else s.refuseAccord
  else if n = s.activeIndex ∨ s.armed.contains n = true ∨ s.plane.updates.any (fun u => u.record == n) = true then
    s.refuseAccord
  else
    let a := (s.record r).setWord w v
    s.setRecord r { a with host := true }

/-- BAR0 address of word `w` of record `r` (R164). -/
def recordAddr (r w : Nat) : Nat :=
  (if r < 64 then 0x200000 + 2048 * r else if r < 128 then 0x220000 + 2048 * (r - 64) else 0x240000 + 2048 * (r - 128)) + 4 * w

def execAccordRecordWrite (m : Master) (r : Fin 144) (w : Fin 200) (v : Word) (s : State) :
    Host.Outcome State Fault Refusal :=
  .next (s.gate m (recordAddr r w) fun s => s.writeRecord r w v)

end Sys2Proof.Machine
end

