-- ==== Sys2Proof/Machine/Fixed.lean ====
section
/-! DEFINITION. Real functions that the spec's firmware formulas use, computed on integers with enough fraction bits
(DEDUCED, log 11: the spec names the functions and rounds only the final result). -/

namespace Sys2Proof.Machine

/-- 10^(-2^k/1000) in units of 2^-128, for k = 0 to 15. -/
def pow10Bits : List Nat := [
  0xff69457955c13324405465cea15defbf,
  0xfed2e3b1c939de1a7ed2a8c3b13ba49f,
  0xfda7298f2581be01773621e86efec8f7,
  0xfb53d54c2fa48ae346d80825a4f0b62e,
  0xf6bd7fb7668b6affddfa0fa65a3c5e16,
  0xedd0bdba4d98d6a1d4fa968d8b8de4e7,
  0xdcec297fcf07b3ecf1da35f72715e4aa,
  0xbea6c130363523928540d6d8ab31b9db,
  0x8dfbf362acc6e8881edbc8e78b330387,
  0x4ebf8211dd36643c4742f41b544c9db7,
  0x183942863b8b6228ab8c9fa8e2ad7742,
  0x24ac947dc3a238f98a808b95a1ff765,
  0x540fe1b3e2629fef212f96bdb101b,
  0x1b9a6d1a46a2f2db670d679f44,
  0x2f9f02afd02be1fa71a,
  0x8dbc6]

/-- 10^(-n/1000) in units of 2^-128, for n below 65,536: the linear value of n hundredths of a decibel below 1 (R50). -/
def pow10Neg (n : Nat) : Nat :=
  (pow10Bits.zip (List.range 16)).foldl (fun acc e => if n.testBit e.2 then acc * e.1 / 2 ^ 128 else acc) (2 ^ 128)

/-- The integer square root, by binary search from bit `n` down. -/
def isqrtGo : Nat → Nat → Nat → Nat
  | 0, _, r => r
  | n + 1, v, r => isqrtGo n v (if (r + 2 ^ n) * (r + 2 ^ n) ≤ v then r + 2 ^ n else r)

/-- floor(sqrt v), for v below 2^128. -/
def isqrt (v : Nat) : Nat := isqrtGo 64 v 0

/-- round(sqrt v). -/
def rsqrt (v : Nat) : Nat := let r := isqrt v; if r < v - r * r then r + 1 else r

/-- Insert into a rising list. -/
def insertNat (v : Nat) : List Nat → List Nat
  | [] => [v]
  | x :: rest => if v ≤ x then v :: x :: rest else x :: insertNat v rest

def sortNat (l : List Nat) : List Nat := l.foldr insertNat []

/-- π in units of 2^-96. -/
def pi96 : Nat := 248902613312231085230521944622

/-- The terms of the cosine series from `t`, the k-th, on: `x2` is the squared argument in units of 2^-192. -/
def cosSum : Nat → Nat → Int → Int → Int
  | 0, _, _, _ => 0
  | n + 1, k, x2, t => t + cosSum n (k + 1) x2 (-(t * x2) / ((2 ^ 192 * ((2 * k + 1) * (2 * k + 2)) : Nat) : Int))

/-- round_even(sin²(π·r/2) · 2^24) for r = num/den, at most the largest 0.24 value. -/
def sinSq24 (num den : Nat) : Nat :=
  let x : Int := (pi96 * num / den : Nat)
  satU 24 (roundEvenShift 73 (2 ^ 96 - cosSum 60 0 (x * x) (2 ^ 96)))

/-- Bits of the fraction of log2, by squaring: `m` in units of 2^-64, from 1 to below 2. -/
def logBits : Nat → Nat → Nat → Nat
  | 0, _, acc => acc
  | n + 1, m, acc =>
    let q := m * m / 2 ^ 64
    if 2 ^ 65 ≤ q then logBits n (q / 2) (2 * acc + 1) else logBits n q (2 * acc)

/-- log10(num/den) in units of 2^-32, for positive num and den. -/
def log10 (num den : Nat) : Int :=
  let v := num * 2 ^ 128 / den
  let e := Nat.log2 v
  let frac := logBits 40 (v * 2 ^ 64 / 2 ^ e) 0
  (((e : Int) - 128) * 2 ^ 40 + (frac : Int)) * 330985980541 / 2 ^ 48

/-- Round a rational half to even (R8). -/
def roundRat (q : Rat) : Int := roundEvenDiv q.num q.den

end Sys2Proof.Machine
end

