-- ==== Sys2Proof/Machine/Thermal.lean ====
section
/-! DEFINITION. Thermal supervision, THERMTRIP# and the trip recorder (R381–R394). -/

namespace Sys2Proof.Machine

/-! ## Sensors (R381–R385) -/

def sensorIdle : SensorMem := ⟨0, 0, []⟩

def State.sensorMem (s : State) (n : Nat) : SensorMem := sparseGet (fun _ => sensorIdle) s.therm.sensors n

def State.setSensorMem (s : State) (n : Nat) (x : SensorMem) : State :=
  { s with therm := { s.therm with sensors := sparsePut (fun _ => sensorIdle) s.therm.sensors n x } }

/-- Sensors 0–75 are the tiles', 76–79 the control die's CD0–CD3 (R381). -/
def allSensors : List Nat := List.range 80

/-- The sensor can be converted: a tile's while its drive rail is good and its link is UP (R381). -/
def State.sensorValid (s : State) (n : Nat) : Bool :=
  if n < 76 then s.power.mainUp && s.railGood n && s.linkUp n else true

/-- The sensor's neighbours in its grid (R381). -/
def sensorNeighbours (n : Nat) : List Nat :=
  if n < 76 then
    List.filter (fun k => decide (k < 76)) (List.flatten
      [(if 19 ≤ n then [n - 19] else [] : List Nat), [n + 19], (if n % 19 = 0 then [] else [n - 1] : List Nat),
        (if n % 19 = 18 then [] else [n + 1] : List Nat)])
  else (List.range' 76 4).filter fun k => k != n

/-- The median of temperatures, an even count's rounded half to even (R384). -/
def medianTemp (vs : List Int) : Option Int :=
  let v := sortNat (vs.map fun x => (x + 65536).toNat)
  let n := v.length
  if n = 0 then none
  else if n % 2 = 1 then some ((v.getD (n / 2) 0 : Int) - 65536)
  else some (roundEvenDiv ((v.getD (n / 2 - 1) 0 : Int) + v.getD (n / 2) 0 - 131072) 2)

/-- The readings of the sensor's valid, non-SUSPECT neighbours (R384). -/
def State.neighbourTemps (s : State) (n : Nat) : List Int :=
  ((sensorNeighbours n).filter fun k => s.sensorValid k && !s.flag (F.SENSOR.SUSPECT k)).map fun k =>
    s.rdS (F.SENSOR.TEMP k)

/-- What a sensor's reading makes of its departure counts and of SUSPECT (R384): more than 50 ms of departures, conversion by
conversion, declare it; 1 s within 4.00 °C ends it. -/
def State.suspicion (s : State) (n : Nat) : SensorMem × Bool :=
  let x := s.sensorMem n
  let own := s.rdS (F.SENSOR.TEMP n)
  let near := s.neighbourTemps n
  let off : Nat := match medianTemp near with
    | some m => (own - m).natAbs
    | none => 0
  if s.flag (F.SENSOR.SUSPECT n) then
    let back := if near.isEmpty || decide (400 < off) then 0 else x.back + 1
    if 1001 ≤ back then ({ x with away := 0, back := 0 }, false) else ({ x with back := back }, true)
  else
    let away := if 2 ≤ near.length ∧ 600 < off then x.away + 1 else 0
    if 52 ≤ away then ({ x with away := 0, back := 0 }, true) else ({ x with away := away }, false)

/-- A status bit of a sensor takes a value; its transition into the set state raises the source (R383). -/
def State.setSensor (s : State) (f : Field) (on : Bool) (src : Source) : State :=
  if on && !s.flag f then (s.setFlag f true).raise src else s.setFlag f on

/-- SUSPECT after a conversion; a declaration counts (R384). -/
def State.setSuspect (s : State) (n : Nat) (on : Bool) : State :=
  if on && !s.flag (F.SENSOR.SUSPECT n) then
    ((s.setFlag (F.SENSOR.SUSPECT n) true).bump F.SUSPECT_CNT).raise Src.THERMAL.SUSPECT
  else s.setFlag (F.SENSOR.SUSPECT n) on

/-- Whether a limit with hysteresis holds: set at or above it, cleared below limit − HYST (R383). -/
def State.limitHolds (s : State) (f limit : Field) (used : Int) : Bool :=
  decide (s.rdS limit ≤ used) || (s.flag f && decide (s.rdS limit - s.rd F.HYST.VAL ≤ used))

/-- COLD: set at or below its limit, cleared above limit + HYST (R383). -/
def State.coldHolds (s : State) (n : Nat) (used : Int) : Bool :=
  decide (used ≤ s.rdS F.COLD_LIMIT.LIMIT) ||
    (s.flag (F.SENSOR.COLD n) && decide (used ≤ s.rdS F.COLD_LIMIT.LIMIT + s.rd F.HYST.VAL))

def tripLimit (n : Nat) : Field := if n < 76 then F.PLANE_TRIP.LIMIT else F.CTRL_TRIP.LIMIT

/-- The value a sensor is judged on: its median while it is SUSPECT and not isolated (R383, R384). -/
def State.usedTemp (s : State) (n : Nat) : Int :=
  match medianTemp (s.neighbourTemps n) with
  | some m => if s.flag (F.SENSOR.SUSPECT n) then m else s.rdS (F.SENSOR.TEMP n)
  | none => s.rdS (F.SENSOR.TEMP n)

/-- SENSOR_USED_n (R393): the neighbour median, 0x8000 where there is none, and the value used of a valid sensor. -/
def State.showUsed (s : State) (n : Nat) : State :=
  let med := match medianTemp (s.neighbourTemps n) with
    | some m => unsigned 16 m
    | none => 0x8000
  let s1 := s.wr (F.SENSOR_USED.MEDIAN n) med
  if s.sensorValid n then s1.wrS (F.SENSOR_USED.USED n) (s.usedTemp n) else s1

/-- A valid sensor is judged on its value used (R383, R384, R386). -/
def State.judgeSensor (s : State) (n : Nat) : State :=
  let used := s.rdS (F.SENSOR_USED.USED n)
  let warn := if n < 76 then F.PLANE_WARN.LIMIT else F.CTRL_WARN.LIMIT
  let alarm := if n < 76 then F.PLANE_ALARM.LIMIT else F.CTRL_ALARM.LIMIT
  let isolated := s.flag (F.SENSOR.SUSPECT n) && (s.neighbourTemps n).isEmpty
  let s1 := s.setSensor (F.SENSOR.ISOLATED n) isolated Src.THERMAL.ISOLATED
  let s2 := s1.setSensor (F.SENSOR.WARN n) (s.limitHolds (F.SENSOR.WARN n) warn used) Src.THERMAL.WARN
  let s3 := s2.setSensor (F.SENSOR.ALARM n) (s.limitHolds (F.SENSOR.ALARM n) alarm used) Src.THERMAL.ALARM
  let s4 := s3.setSensor (F.SENSOR.COLD n) (s.coldHolds n used) Src.THERMAL.COLD
  s4.setFlag (F.SENSOR.TRIP n) (decide (s.rdS (tripLimit n) ≤ used))

/-- The hottest of some sensors by value used, the lowest on ties. -/
def State.hottest (s : State) (ns : List Nat) : Option Nat :=
  ns.foldl (fun best n => match best with
    | some b => if s.rdS (F.SENSOR_USED.USED b) < s.rdS (F.SENSOR_USED.USED n) then some n else best
    | none => some n) none

def State.validTiles (s : State) : List Nat := (List.range 76).filter s.sensorValid

/-- HOTTEST_PLANE and HOTTEST_CTRL (R393). With no valid tile the spec gives HOTTEST_PLANE no value: a free one. -/
def State.showHottest (s : State) : State :=
  let s1 := match s.hottest (List.range' 76 4) with
    | some n => (s.wr F.HOTTEST_CTRL.TEMP (s.rd (F.SENSOR_USED.USED n))).wr F.HOTTEST_CTRL.SENSOR (n - 76)
    | none => s
  match s1.hottest s1.validTiles with
  | some n => (s1.wr F.HOTTEST_PLANE.TEMP (s1.rd (F.SENSOR_USED.USED n))).wr F.HOTTEST_PLANE.TILE n
  | none =>
    let f := s1.freshValue
    (f.2.wr F.HOTTEST_PLANE.TEMP (f.1.toNat % 65536)).wr F.HOTTEST_PLANE.TILE (f.1.toNat / 65536 % 128)

/-- The readings of one conversion, in 0.01 °C, into SENSOR_n (R381). -/
def State.takeReadings (s : State) (readings : List Int) : State :=
  allSensors.foldl (fun s n =>
    if s.sensorValid n then
      (s.wrS (F.SENSOR.TEMP n) (satS 16 (readings.getD n 0))).setFlag (F.SENSOR.VALID n) true
    else (s.setFlag (F.SENSOR.VALID n) false).setSensorMem n sensorIdle) s

/-- SUSPECT is decided for all sensors on the medians before the conversion, so each of two excludes the other (R385). -/
def State.decideSuspects (s : State) : State :=
  ((allSensors.filter s.sensorValid).map fun n => (n, s.suspicion n)).foldl (fun s e =>
    (s.setSensorMem e.1 e.2.1).setSuspect e.1 e.2.2) s

/-! ## The TEMP cause of calibration (R350) -/

/-- The trim word a tile holds at a mirror address: its mirror may have been written and not loaded (R359). -/
def State.heldTrim (s : State) (a : Nat) : Word := (s.calib.loaded.lookup a).getD (s.word a)

/-- A tile whose temperature has left CAL_TEMP by more than DELTA_T is due (R350). -/
def State.tempCause (s : State) (t : Nat) : State :=
  let ref := signed 16 (bitsOf (s.heldTrim (F.CAL_TEMP.TEMP t).addr) 0 16)
  let used := s.rdS (F.SENSOR_USED.USED t)
  let s1 := s.wrS (F.CAL_TEMP.TEMP_NOW t) used
  if 10 * s.rd F.CAL_CFG.DELTA_T < (used - ref).natAbs then s1.markDue t 0 else s1

/-! ## The trip record (R386–R389) -/

/-- A signed 16-bit field of a record. -/
def le16 (v : Int) : List Byte := leBytes 2 (unsigned 16 v)

/-- MAGIC of a trip record. -/
def tripMagic : List Byte := [0x4F, 0x56, 0x54, 0x52]

/-- TRIP_MAP: bit n is sensor n's TRIP. -/
def State.tripMap (s : State) : Nat :=
  allSensors.foldl (fun m n => if s.flag (F.SENSOR.TRIP n) then m + 2 ^ n else m) 0

/-- The record of a trip on sensor `n` (R389), but for its CRC. MAX_TILE is free where no tile is valid. -/
def State.tripBody (s : State) (n : Nat) : List Byte :=
  let up := s.power.mainUp
  let subst := s.flag (F.SENSOR.SUSPECT n) && !(s.neighbourTemps n).isEmpty
  let plane := s.hottest s.validTiles
  let maxPlane : Nat := match plane with
    | some t => s.rd (F.SENSOR_USED.USED t)
    | none => 0x8000
  let maxTile : Nat := match plane with
    | some t => t
    | none => (Config.freeValue s.free).toNat
  let maxCtrl : Nat := match s.hottest (List.range' 76 4) with
    | some c => s.rd (F.SENSOR_USED.USED c)
    | none => 0x8000
  List.flatten
    [tripMagic, leBytes 4 (s.rd F.RING_SEQ.SEQ), leBytes 8 (if up then s.time.sec else 0),
      leBytes 4 (if up then s.time.ns else 0), leBytes 1 n,
      leBytes 1 (subst.toNat + 2 * (!up).toNat + 4 * up.toNat), leBytes 2 (s.rd (F.SENSOR_USED.USED n)),
      leBytes 2 (s.rd (tripLimit n)), leBytes 2 maxPlane, leBytes 2 maxCtrl, leBytes 1 maxTile, leBytes 1 s.start,
      leBytes 10 s.tripMap, leBytes 2 (s.rd F.VIN.VAL), leBytes 2 (s.rd F.PIN.VAL), leBytes 2 0,
      leBytes 4 ((s.clock - s.power.upAt) / 10 ^ 6), leBytes 4 (s.rdW F.EN_CYCLES), leBytes 4 0]

def withTripCrc (body : List Byte) : List Byte := List.flatten [body, leBytes 4 (crc32 body).toNat]

/-- The slot the recorder writes next, and the one after a slot. -/
def State.nextSlot (s : State) : Nat := s.rd F.THERMAL_RING_STATUS.NEXT
def slotAfter (k : Nat) : Nat := (k + 1) % 2048

def State.setSlot (s : State) (k : Nat) (bytes : List Byte) : State :=
  { s with therm := { s.therm with ring := sparseInsert s.therm.ring k bytes } }

/-- A record whose rest is never written: its slot holds MAGIC and SEQ and is used (R390). -/
def State.dropPart (s : State) : State :=
  match s.therm.part with
  | some (k, bytes) =>
    ({ s with therm := { s.therm with part := none } }.setSlot k
      (List.flatten [bytes.take 8, List.replicate 56 (0xFF : Byte)])).wr F.THERMAL_RING_STATUS.NEXT (slotAfter k)
  | none => s

/-- THERMTRIP# asserts on sensor `n`: the snapshot is taken and the record's bytes 0–7 are programmed (R386, R390). -/
def State.assertTrip (s : State) (n : Nat) : State :=
  let s0 := s.dropPart
  let s1 := if s0.validTiles.isEmpty then { s0 with free := s0.free + 1 } else s0
  let s2 : State := { s1 with therm := { s1.therm with
    trip := true, part := some (s0.nextSlot, withTripCrc (s0.tripBody n)) } }
  ((s2.setFlag F.THERM_STATUS.THERMTRIP true).bump F.TRIPS).raise Src.THERMAL.TRIP

/-- THERMTRIP# asserts if a valid sensor is at TRIP and it is not asserted already; the first such sensor is the lowest
(R386, R387). -/
def State.judgeTrip (s : State) : State :=
  match (allSensors.filter fun n => s.sensorValid n && s.flag (F.SENSOR.TRIP n)).head? with
  | some n => if s.therm.trip then s else s.assertTrip n
  | none => s

/-- One conversion of every sensor (R381–R386). -/
def State.convertSensors (s : State) (readings : List Int) : State :=
  let s1 := (s.takeReadings readings).decideSuspects
  let s2 := allSensors.foldl State.showUsed s1
  let s3 := (allSensors.filter s2.sensorValid).foldl State.judgeSensor s2
  let s4 := s3.validTiles.foldl State.tempCause s3
  s4.showHottest.judgeTrip

def execSensorConversion (readings : List Int) (s : State) : Host.Outcome State Fault Refusal :=
  .next (s.onVin fun s => s.convertSensors readings)

/-- RISE of a valid sensor: its value used exceeds that of WINDOW_S seconds earlier by more than RISE (R383). -/
def State.evaluateRise (s : State) (n : Nat) : State :=
  if s.sensorValid n then
    let x := s.sensorMem n
    let used := s.rdS (F.SENSOR_USED.USED n)
    let rises : Bool := match x.past[10 * s.rd F.RISE_CFG.WINDOW_S - 1]? with
      | some old => decide ((s.rd F.RISE_CFG.RISE : Int) < used - old)
      | none => false
    (s.setSensor (F.SENSOR.RISE n) rises Src.THERMAL.RISE).setSensorMem n { x with past := (used :: x.past).take 80 }
  else s

def execRiseEvaluation (s : State) : Host.Outcome State Fault Refusal := 
  .next (s.onVin fun s => allSensors.foldl State.evaluateRise s)

/-! ## The ring (R388, R390, R391, R394) -/

/-- The used slots of a sector. -/
def State.usedSlots (s : State) (sector : Nat) : List Nat :=
  (s.therm.ring.map (·.1)).filter fun k => k / 1024 == sector

/-- Begin to erase slots. -/
def State.beginErase (s : State) (slots : List Nat) : State :=
  { s with therm := { s.therm with erasing := some (List.flatten [s.therm.erasing.getD [], slots]) } }.setFlag
    F.THERMAL_RING_STATUS.ERASING true

/-- The record is committed, or the program error moves the recorder on to the next slot (R389, R391); the first record of a
sector erases the other (R388). -/
def State.commitRecord (s : State) (error : Bool) : State :=
  match s.therm.part with
  | none => s
  | some (k, bytes) =>
    let s1 := s.wr F.THERMAL_RING_STATUS.NEXT (slotAfter k)
    let s2 : State :=
      if error then
        let f := s1.freshBytes 56
        ({ f.2 with therm := { f.2.therm with part := some (slotAfter k, bytes) } }.setSlot k
          (List.flatten [bytes.take 8, f.1])).raise Src.THERMAL.TRIP_RING
      else
        ({ s1 with therm := { s1.therm with part := none } }.setSlot k bytes).wr F.RING_SEQ.SEQ (s1.rd F.RING_SEQ.SEQ + 1)
    if k % 1024 = 0 then s2.beginErase (s2.usedSlots (1 - k / 1024)) else s2

def execTripRecordCommit (error : Bool) (s : State) : Host.Outcome State Fault Refusal := 
  .next (s.onVin fun s => s.commitRecord error)

/-- An erase completes: its slots are free. After an error what they hold is free, and the recorder moves on to the next slot
(R391). -/
def State.eraseDone (s : State) (error : Bool) : State :=
  match s.therm.erasing with
  | none => s
  | some slots =>
    let s1 := { s with therm := { s.therm with erasing := none } }.setFlag F.THERMAL_RING_STATUS.ERASING false
    if error then
      ((slots.foldl (fun s k => let f := s.freshBytes 64; f.2.setSlot k f.1) s1).wr F.THERMAL_RING_STATUS.NEXT
        (slotAfter s.nextSlot)).raise Src.THERMAL.TRIP_RING
    else { s1 with therm := { s1.therm with ring := s1.therm.ring.filter fun e => !slots.contains e.1 } }

def execTripRingEraseDone (error : Bool) (s : State) : Host.Outcome State Fault Refusal := 
  .next (s.onVin fun s => s.eraseDone error)

/-- RING_CMD.ERASE: both sectors, refused while THERMTRIP# is asserted or an erase runs (R391). -/
def State.eraseRing (s : State) : State :=
  if s.therm.trip || s.therm.erasing.isSome then s.raise Src.THERMAL.TRIP_RING
  else s.beginErase (s.therm.ring.map (·.1))

def execRingCmdErase (m : Master) (s : State) : Host.Outcome State Fault Refusal :=
  .next (s.gate m F.RING_CMD.ERASE.addr State.eraseRing)

/-- The flash address of the ring: its last 128 KiB, of 256 Mbit to 2 Gbit (R388, R494). -/
def tripRingBase : Nat := 2 ^ 25 * 2 ^ Config.flashDoublings.val - 131072

/-- What a slot holds: 0xFF bytes while it is free, and only bytes 0–7 of a record not yet committed (R388, R390). -/
def State.slotBytes (s : State) (k : Nat) : List Byte :=
  match s.therm.part with
  | some (p, bytes) =>
    if p = k then List.flatten [bytes.take 8, List.replicate 56 (0xFF : Byte)]
    else (s.therm.ring.lookup k).getD (List.replicate 64 (0xFF : Byte))
  | none => (s.therm.ring.lookup k).getD (List.replicate 64 (0xFF : Byte))

/-- The byte of flash at an offset: in the ring what its slot holds, elsewhere `img`, which the ring's writer does not hold. -/
def State.flashByte (s : State) (off : Nat) (img : Byte) : Byte :=
  if tripRingBase ≤ off ∧ off < tripRingBase + 131072 then
    (s.slotBytes ((off - tripRingBase) / 64)).getD ((off - tripRingBase) % 64) 0xFF
  else img

/-- MAGIC and CRC of a record are right (R389). -/
def recordOk (bytes : List Byte) : Bool :=
  bytes.take 4 == tripMagic && leNat (bytes.drop 60) == (crc32 (bytes.take 60)).toNat

/-- TRIP_RD_CMD reads a slot into TRIP_RD_DATA (R394). -/
def State.readSlot (s : State) (k : Nat) : State :=
  let bytes := s.slotBytes k
  (((List.range 16).foldl (fun s i => s.wr (F.TRIP_RD_DATA.WORD i) (leNat ((bytes.drop (4 * i)).take 4))) s).setEvent
    F.TRIP_RD_STATUS.DONE).setFlag F.TRIP_RD_STATUS.VALID (recordOk bytes)

def execTripRdCmd (m : Master) (slot : Fin 2048) (s : State) : Host.Outcome State Fault Refusal :=
  .next (s.gate m F.TRIP_RD_CMD.SLOT.addr fun s => s.readSlot slot)

/-- EN has been low for 10 ms: THERMTRIP# deasserts (R387). -/
def State.releaseTrip (s : State) : State :=
  if s.power.en then s
  else { s with therm := { s.therm with trip := false } }.setFlag F.THERM_STATUS.THERMTRIP false

def execThermtripRelease (s : State) : Host.Outcome State Fault Refusal := .next (s.onVin State.releaseTrip)

/-! ## The scan at always-on power-up (R390) -/

def recordSeq (bytes : List Byte) : Nat := leNat ((bytes.drop 4).take 4)

/-- A sequence number comes after another (R9). -/
def seqAfter (a b : Nat) : Bool := decide (0 < (a + 2 ^ 32 - b) % 2 ^ 32) && decide ((a + 2 ^ 32 - b) % 2 ^ 32 < 2 ^ 31)

/-- The latest slot with MAGIC, by SEQ. -/
def State.latestSlot (s : State) : Option (Nat × Nat) :=
  (s.therm.ring.filter fun e => e.2.take 4 == tripMagic).foldl (fun best e => match best with
    | some b => if seqAfter (recordSeq e.2) b.2 then some (e.1, recordSeq e.2) else best
    | none => some (e.1, recordSeq e.2)) none

/-- Every slot of the sector holds a record. What an erase cut short has left is no record, whatever its slots hold. -/
def State.sectorFull (s : State) (sector : Nat) : Bool :=
  (List.range 1024).all fun k => (s.slotBytes (1024 * sector + k)).take 4 == tripMagic

/-- Slots with MAGIC and a wrong CRC name LOST_SEQ, and TRIP_UNRECORDED is set from the main side's start; a sector that is
neither full nor free, other than the active one, is erased again; NEXT and SEQ follow the latest record (R390). -/
def State.scanRing (s : State) : State :=
  let s0 := s.dropPart
  let lost := s0.therm.ring.filter fun e => e.2.take 4 == tripMagic && !recordOk e.2
  let s1 := lost.foldl (fun s e => s.wr F.LOST_SEQ.SEQ (recordSeq e.2))
    { s0 with therm := { s0.therm with lost := !lost.isEmpty } }
  let latest := s1.latestSlot
  let active := match latest with | some b => b.1 / 1024 | none => 0
  let s2 := match latest with
    | some b =>
      let free := ((List.range' 1 2047).map fun d => (b.1 + d) % 2048).filter fun k => (s1.therm.ring.lookup k).isNone
      (s1.wr F.THERMAL_RING_STATUS.NEXT (free.headD (slotAfter b.1))).wr F.RING_SEQ.SEQ (b.2 + 1)
    | none => (s1.wr F.THERMAL_RING_STATUS.NEXT 0).wr F.RING_SEQ.SEQ 0
  let other := s2.usedSlots (1 - active)
  if other.isEmpty || s2.sectorFull (1 - active) then s2 else s2.beginErase other

end Sys2Proof.Machine
end

