-- ==== Sys2Proof/Machine/Calib.lean ====
section
/-! DEFINITION. Converter self-calibration (R348–R359) and its registers' commands (R369–R371). -/

namespace Sys2Proof.Machine

/-! ## The mirror (R359, R370, R371) -/

/-- The address of mirror word `k` of a tile: CAL_TEMP, REF_TRIM, CONV_TRIM, then the 128 coefficient words. -/
def calWordAddr (t k : Nat) : Nat :=
  match k with
  | 0 => (F.CAL_TEMP.TEMP t).addr
  | 1 => (F.REF_TRIM.POCK_REF_GAIN t).addr
  | 2 => (F.CONV_TRIM.ADC_A_OFS t).addr
  | n + 3 => (F.COEF.WORD t n).addr

/-- Words of trims: those of REF_TRIM, CONV_TRIM and the coefficient array. -/
def trimWords : List Nat := List.range' 1 130

/-- CAL_CRC over what the tile holds (R359). -/
def State.calCrc (s : State) (t : Nat) : Word :=
  crc32 (List.flatten
    [leBytes 4 (bitsOf (s.heldTrim (calWordAddr t 0)) 0 16),
      trimWords.flatMap fun k => leBytes 4 (s.heldTrim (calWordAddr t k)).toNat])

def State.calRunning (s : State) (t : Nat) : Bool := (s.calib.runs.lookup t).isSome

def State.refuseCal (s : State) : State := (s.bump F.CAL_REFUSED_CNT).raise Src.CALIB.CAL_REFUSED

/-- A host or sideband write of a mirror word is staged (R359). -/
def State.writeMirror (s : State) (t k : Nat) (w : Word) : State :=
  let a := calWordAddr t k
  let old := s.word a
  if s.calRunning t then s.refuseCal
  else
    let s1 := if (s.calib.loaded.lookup a).isSome then s
      else { s with calib := { s.calib with loaded := sparseInsert s.calib.loaded a old } }
    (s1.setWord a (if k = 0 then withBits old 0 16 w.toNat else w)).setFlag (F.STAGED.PENDING t) true

/-- What the mirror of a tile shows again is what the tile holds: staged writes are lost. -/
def State.revertMirror (s : State) (t : Nat) : State :=
  (List.range 131).foldl (fun s k =>
    let a := calWordAddr t k
    match s.calib.loaded.lookup a with
    | some w =>
      { s with calib := { s.calib with loaded := sparseErase s.calib.loaded a } }.setWord a
        (if k = 0 then withBits (s.word a) 0 16 w.toNat else w)
    | none => s) (s.setFlag (F.STAGED.PENDING t) false)

/-! ## Computed trims (R348, R355, R356) -/

/-- Trim byte `i` of a tile, numbered as in `CalMeasure`, is set by FULL only (R348): TDAC_GAIN and the gains of single
ladders and heaters. -/
def fullOnly (i : Nat) : Bool := i == 6 || (decide (8 ≤ i) && decide (i < 392) && i % 2 == 0)

/-- The channel whose offset trim byte `i` is: L0_OFS and L1_OFS, HTR_OFS, or TIA_OFS of one of its photodiodes (R371). -/
def offsetChannel (i : Nat) : Option Nat :=
  if 8 ≤ i ∧ i < 264 ∧ i % 2 = 1 then some ((i - 8) / 4)
  else if 264 ≤ i ∧ i < 392 ∧ i % 2 = 1 then some ((i - 264) / 2)
  else if 392 ≤ i ∧ i < 520 then some ((i - 392) / 2)
  else none

/-- The calibration leaves trim byte `i` as it is (R348, R356). -/
def trimKept (run : CalRun) (i : Nat) : Bool :=
  run.kind == 1 && (fullOnly i || (match offsetChannel i with
    | some ch => run.touched.getLsbD ch
    | none => false))

/-- Trim byte `i` after the calibration, and whether it was limited to an end code (R355). -/
def newTrim (run : CalRun) (r : CalMeasure) (i old : Nat) : Nat × Bool :=
  match r.trims[i]? with
  | some v => if trimKept run i then (old, false) else (satU 8 v, decide (v < 0) || decide (255 < v))
  | none => (old, false)

/-- Byte `b` of mirror word `k` of a tile, for all of its trims: the new words and how many were limited. -/
def State.newTrims (s : State) (t : Nat) (run : CalRun) (r : CalMeasure) : List (Nat × Word) × Nat :=
  let byte (k b : Nat) : Nat × Bool := newTrim run r (4 * (k - 1) + b) (bitsOf (s.heldTrim (calWordAddr t k)) (8 * b) 8)
  (trimWords.map fun k => (k,
      BitVec.ofNat 32 ((byte k 0).1 + 256 * (byte k 1).1 + 65536 * (byte k 2).1 + 16777216 * (byte k 3).1)),
    (trimWords.map fun k => ((List.range 4).filter fun b => (byte k b).2).length).sum)

/-! ## Results -/

/-- CAL_STATUS names the tile and its result (R369). -/
def State.calResult (s : State) (t result : Nat) (ignored : Bool) : State :=
  ((s.wr F.CAL_STATUS.LAST_TILE t).wr F.CAL_STATUS.RESULT result).setFlag F.CAL_STATUS.ABORT_IGNORED ignored

def State.startCal (s : State) (t kind : Nat) (staged : Option (List (Nat × Word))) : State :=
  let s1 := s.settleTile t
  let s2 : State := { s1 with calib := { s1.calib with runs := sparseInsert s1.calib.runs t ⟨kind, s1.clock, staged, 0⟩ } }
  (s2.setFlag (F.TILE_CAL_STAT.BUSY t) true).wr F.CAL_STATUS.RUNNING (min 31 s2.calib.runs.length)

/-- A calibration fails: nothing loads, the tile stays due (R355). -/
def State.failCal (s : State) (t : Nat) : State :=
  (((s.calResult t 3 false).bump F.CAL_FAILS).raise Src.CALIB.CAL_FAIL).endCal t

def State.clearDue (s : State) (t : Nat) : State :=
  ((s.setFlag (F.TILE_CAL_STAT.DUE t) false).wr (F.TILE_CAL_STAT.CAUSE t) 0).setFlag
    ⟨(F.CAL_DUE.DUE (t / 32)).addr, t % 32, 1⟩ false

/-- What stands in the mirror is what the tile holds now. -/
def State.forgetLoaded (s : State) (t : Nat) : State :=
  let mine := (List.range 131).map (calWordAddr t)
  { s with calib := { s.calib with loaded := s.calib.loaded.filter fun e => !mine.contains e.1 } }.setFlag
    (F.STAGED.PENDING t) false

/-- Trims load: mirror, CAL_TEMP and CAL_TIME, result, due bit (R350, R352, R353, R359). A channel that moved during the
measurement makes the tile due again (R356). -/
def State.finishCal (s : State) (t : Nat) (run : CalRun) (ws : List (Nat × Word)) : State :=
  let s1 := (ws.foldl (fun s e => s.setWord (calWordAddr t e.1) e.2) s).forgetLoaded t
  let s2 := if run.kind = 2 then s1 else s1.wr (F.CAL_TEMP.TEMP t) (s1.rd (F.CAL_TEMP.TEMP_NOW t))
  let s3 := ((s2.wr (F.CAL_TIME.SEC t) s2.time.sec).wr (F.TILE_CAL_STAT.KIND t) run.kind).calResult t 1 false
  let s4 := (s3.bump F.CALS).clearDue t
  (if run.touched = 0 then s4 else s4.markDue t 1).endCal t

/-- Measurement end: the trims are staged, or the calibration fails (R352, R355). -/
def State.measured (s : State) (t : Nat) (r : CalMeasure) : State :=
  match s.calib.runs.lookup t with
  | some run =>
    if run.kind ≠ 1 ∨ run.staged ≠ none then s
    else if r.failed then s.failCal t
    else
      let n := s.newTrims t run r
      let s1 : State := { s with calib := { s.calib with
        runs := sparseInsert s.calib.runs t { run with staged := some n.1 } } }
      if n.2 = 0 then s1 else (s1.bumpBy F.TRIM_RANGE_CNT n.2).raise Src.CALIB.TRIM_RANGE
  | none => s

/-- The apply instant: staged trims load. -/
def State.loadStaged (s : State) (t : Nat) : State :=
  match s.calib.runs.lookup t with
  | some run =>
    match run.staged with
    | some ws => s.finishCal t run ws
    | none => s
  | none => s

/-- Trims load in the strobe cycle of a plane strobe (R353). -/
def State.trimsAtStrobe (s : State) : Bool := s.planeMode != 0 && decide (s.slotNs ≤ 48000)

/-- The clock is in [B − 400 ns, B + 1 µs] around a plane strobe B whose loads the loader has issued (R353). -/
def State.strobeNear (s : State) : Bool :=
  let soon (b : Nat) : Bool := decide (b ≤ s.now + 400)
  s.strobes.cmd || s.strobes.firedAt.any (fun c => decide (s.clock ≤ c + 1000)) || (s.nextStrobe s.now).any soon ||
    s.plane.taken.any fun x => x.inserted && soon x.at_

/-- A tile cycle at or after measurement end: staged trims load where no plane strobe is to carry them and none is near (R353). -/
def State.applyTrims (s : State) (t : Nat) : State := if s.trimsAtStrobe || s.strobeNear then s else s.loadStaged t

/-- A FULL calibration completes or fails (R349, R355). -/
def State.fullDone (s : State) (t : Nat) (r : CalMeasure) : State :=
  match s.calib.runs.lookup t with
  | some run =>
    if run.kind ≠ 0 then s
    else if r.failed then s.failCal t
    else
      let n := s.newTrims t run r
      (if n.2 = 0 then s else (s.bumpBy F.TRIM_RANGE_CNT n.2).raise Src.CALIB.TRIM_RANGE).finishCal t run n.1
  | none => s

/-! ## Conditions and commands (R349–R351, R357) -/

/-- The tile's link is UP and its drive rail good. -/
def State.tileReady (s : State) (t : Nat) : Bool := s.linkUp t && s.railGood t

/-- Every condition of R351 holds for a due tile. -/
def State.calMayStart (s : State) (t : Nat) : Bool :=
  s.flag (F.TILE_CAL_STAT.DUE t) && !s.calRunning t && (s.start == 4 || s.start == 3) && s.tileReady t && !s.focusing t &&
    (s.calib.runs.all fun e => tileCourse e.1 != tileCourse t) && decide (s.calib.runs.length < s.rd F.CAL_CFG.CAL_CONC)

def State.calGo (s : State) (t : Nat) : State := if s.calRunning t then s else s.markDue t 3

/-- After a warm start no calibration starts before STATE is SERVING (R356). -/
def State.calBarred (s : State) : Bool := s.flag F.START_STATUS.KIND && s.start != 4

def State.calFull (s : State) (t : Nat) : State :=
  if s.flag (F.DRV_ENABLE.POCK_EN t) || s.flag (F.DRV_ENABLE.HTR_EN t) then s.refuseCal
  else if s.calRunning t || !s.tileReady t || s.calBarred then s
  else s.startCal t 0 none

def State.calLoad (s : State) (t : Nat) : State :=
  if s.calRunning t || !s.tileReady t || s.calBarred then s else s.startCal t 2 (some [])

/-- The bounds of R352 for the five phases before the trims are staged, in nanoseconds from the start. -/
def phaseBounds : List Nat := [20000, 30000, 70000, 120000, 145000]

/-- Phases of R352 not completed: 1 once the trims are staged. Before that, phases whose bound has passed are completed; whether
a later one is the spec bounds and does not fix, so within that the count is free. FULL has no phases there: 1 to 7 (log 52). -/
def calResidue (run : CalRun) (elapsed free : Nat) : Nat :=
  let open_ := (phaseBounds.filter fun b => decide (elapsed < b)).length
  if run.staged.isSome then 1 else if run.kind = 1 then 2 + free % (open_ + 1) else 1 + free % 7

def State.calAbort (s : State) (t : Nat) : State :=
  match s.calib.runs.lookup t with
  | some run =>
    let f := s.freshValue
    (((f.2.calResult t 2 false).wr F.CAL_STATUS.RESIDUE (calResidue run (s.clock - run.since) f.1.toNat))).endCal t
  | none => s.calResult t 1 true

/-- The tiles a GO or LOAD names. -/
def calTiles (t : Nat) (all : Bool) : List Nat := if all then List.range 76 else [t]

/-- A write of CAL_CMD (R369). A TILE that names no tile does nothing. -/
def State.writeCalCmd (s : State) (w : Word) : State :=
  let t := bitsOf w 0 7
  let ts := (calTiles t (w.getLsbD 12)).filter fun t => decide (t < 76)
  let s1 := if w.getLsbD 11 ∧ t < 76 then s.calAbort t else s
  let s2 := if w.getLsbD 8 then ts.foldl State.calGo s1 else s1
  let s3 := if w.getLsbD 9 ∧ t < 76 then s2.calFull t else s2
  if w.getLsbD 10 then ts.foldl State.calLoad s3 else s3

/-- The CAL_CMD word with some bits set. -/
def calCmd (t bits : Nat) : Word := BitVec.ofNat 32 (t + bits)

def execCalCmdGo (m : Master) (t : Fin 76) (all : Bool) (s : State) : Host.Outcome State Fault Refusal :=
  .next (s.gate m F.CAL_CMD.GO.addr fun s => s.writeCalCmd (calCmd t (256 + 4096 * all.toNat)))

def execCalCmdFull (m : Master) (t : Fin 76) (s : State) : Host.Outcome State Fault Refusal :=
  .next (s.gate m F.CAL_CMD.FULL.addr fun s => s.writeCalCmd (calCmd t 512))

def execCalCmdLoad (m : Master) (t : Fin 76) (all : Bool) (s : State) : Host.Outcome State Fault Refusal :=
  .next (s.gate m F.CAL_CMD.LOAD.addr fun s => s.writeCalCmd (calCmd t (1024 + 4096 * all.toNat)))

def execCalCmdAbort (m : Master) (t : Fin 76) (s : State) : Host.Outcome State Fault Refusal :=
  .next (s.gate m F.CAL_CMD.ABORT.addr fun s => s.writeCalCmd (calCmd t 2048))

def execCalMirrorWrite (m : Master) (t : Fin 76) (k : Fin 131) (w : Word) (s : State) :
    Host.Outcome State Fault Refusal :=
  .next (s.gate m (calWordAddr t k) fun s => s.writeMirror t k w)

/-- CAL_PERIOD minutes have passed since the tile's last calibration (R350). -/
def execCalPeriodExpiry (t : Fin 76) (s : State) : Host.Outcome State Fault Refusal :=
  .next (s.onMain fun s => if s.rd F.CAL_PERIOD.MINUTES = 0 then s else s.markDue t 2)

/-- A scan start of the tile: it starts its calibration if every condition holds, after the tiles before it whose scans start at
the same moment (R351). -/
def State.calScan (s : State) (t : Nat) : State :=
  ((List.range (t + 1)).filter fun u => u == t || (s.tile u).scanAt == some s.clock).foldl
    (fun s u => if s.calMayStart u then s.startCal u 1 none else s) s

def execCalStart (t : Fin 76) (s : State) : Host.Outcome State Fault Refusal := .next (s.onMain fun s => s.calScan t)

def execCalMeasurementEnd (t : Fin 76) (r : CalMeasure) (s : State) : Host.Outcome State Fault Refusal :=
  .next (s.onMain fun s => s.measured t r)

def execCalTrimApply (t : Fin 76) (s : State) : Host.Outcome State Fault Refusal :=
  .next (s.onMain fun s => s.applyTrims t)

def execFullCalDone (t : Fin 76) (r : CalMeasure) (s : State) : Host.Outcome State Fault Refusal :=
  .next (s.onMain fun s => s.fullDone t r)

/-- The tile has stayed due for more than 1 s (R351). -/
def execCalLate (t : Fin 76) (s : State) : Host.Outcome State Fault Refusal :=
  .next (s.onMain fun s => if s.flag (F.TILE_CAL_STAT.DUE t) then s.raise Src.CALIB.CAL_LATE else s)

/-! ## The Sillage pair (R358) -/

def State.silCalGo (s : State) : State :=
  if s.flag F.SIL_CTRL.ENABLE then s.refuseCal else { s with calib := { s.calib with sil := true } }

def execSilCalGo (m : Master) (s : State) : Host.Outcome State Fault Refusal :=
  .next (s.gate m F.SIL_CAL.GO.addr State.silCalGo)

/-- Its coefficients take effect (R358). -/
def State.silCalDone (s : State) (coef : Word) : State :=
  if s.calib.sil then
    ({ s with calib := { s.calib with sil := false } }.setWord F.SIL_COEF.OFS0.addr coef).setEvent F.SIL_CAL.DONE
  else s

def execSilCalDone (coef : Word) (s : State) : Host.Outcome State Fault Refusal :=
  .next (s.onMain fun s => s.silCalDone coef)

end Sys2Proof.Machine
end

