-- ==== Sys2Proof/Machine/Faults.lean ====
section
/-! DEFINITION. Writes of the fault words (R451, R453, R456, R458, R460, R461) and the check of FX_CRC (R335, R336). -/

namespace Sys2Proof.Machine

/-- The block numbered `i` in the order of `FB.all`: the catalogue of R459. -/
def faultBlockAt (i : Nat) : FaultBlock := FB.all.getD i FB.HOSTIF

/-- After a change of EN or SEV each source acts as it stands: a latch may set, a vector may signal (R404, R453, R458). -/
def State.actOnSources (s : State) (b : FaultBlock) : State :=
  (b.all.foldl State.latchSeal s).signalVector b.vector

/-- A write of FAULT_EN; a latched source's bit stays (R453, R458). -/
def State.writeFaultEn (s : State) (b : FaultBlock) (w : Word) : State :=
  (b.all.foldl (fun s src => if s.sealed src then s else s.setFlag src.en (w.getLsbD src.bit)) s).actOnSources b

/-- A write of FAULT_SEV; a latched source's class, and one fixed at SEAL, stay (R453, R455, R458). -/
def State.writeFaultSev (s : State) (b : FaultBlock) (w : Word) : State :=
  (b.all.foldl (fun s src =>
    if s.sealed src || b.sealBit == some src.bit then s else s.wr src.sev (bitsOf w (2 * src.bit) 2)) s).actOnSources b

/-- A write of FAULT_REAL clears bits by W1C, but for latched sources (R12, R453). -/
def State.writeFaultReal (s : State) (b : FaultBlock) (w : Word) : State :=
  b.all.foldl (fun s src => if w.getLsbD src.bit && !s.sealed src then s.clearEvent src.real else s) s

def State.writeFaultInj (s : State) (b : FaultBlock) (w : Word) : State :=
  b.all.foldl (fun s src => if w.getLsbD src.bit then s.clearEvent src.inj else s) s

/-- A write of INJECT (R460). -/
def State.writeInject (s : State) (b : FaultBlock) (w : Word) : State :=
  b.all.foldl (fun s src => if w.getLsbD src.bit then s.inject src else s) s

def execInjectSource (m : Master) (block : Fin 190) (bits : Word) (s : State) : Host.Outcome State Fault Refusal :=
  let b := faultBlockAt block
  .next (s.gate m (b.real + 16) fun s => s.writeInject b bits)

def execFaultEnSevWrite (m : Master) (block : Fin 190) (sev : Bool) (w : Word) (s : State) :
    Host.Outcome State Fault Refusal :=
  let b := faultBlockAt block
  .next (if sev then s.gate m (b.real + 12) fun s => s.writeFaultSev b w
    else s.gate m (b.real + 8) fun s => s.writeFaultEn b w)

/-! ## FX_CRC (R335, R336) -/

/-- Every repetition of a row's address. -/
def dimAddrs : List (Nat × Nat) → Nat → List Nat
  | [], a => [a]
  | (stride, count) :: rest, a => (List.range count).flatMap fun i => dimAddrs rest (a + i * stride)

/-- The words that hold an FX field, each once, in address order. -/
def fxAddrs : List Nat :=
  (((regTables.flatMap fun (_, _, rs) => (rs.filter fun r => r.acc == .fx).flatMap fun r => dimAddrs r.dims r.addr)).mergeSort
    fun x y => decide (x ≤ y)).eraseReps

/-- The CRC-32 of every FX field in address order: the words with every other bit taken as 0 (log 58). -/
def State.fxCrc (s : State) : Word :=
  crc32 (fxAddrs.flatMap fun a => leBytes 4 (s.word a &&& accMask a [.fx]).toNat)

/-- Step 4 of a start has latched FX_CRC. -/
def State.fxLatched (s : State) : Bool :=
  match s.start with
  | 2 => true
  | 3 => true
  | 4 => true
  | 1 => decide (5 ≤ s.rd F.START_STATUS.STEP)
  | 5 => decide (5 ≤ s.rd F.PARK_CAUSE.STEP)
  | _ => false

/-- Firmware recomputes FX_CRC (R336). -/
def State.checkFx (s : State) : State :=
  if s.fxLatched then
    let s1 := s.bump F.INTEGRITY_CHECKS
    if s.fxCrc.toNat = s.rd F.FX_CRC.CRC then s1 else s1.raise Src.FORMULA.FORMULA_INTEGRITY
  else s

def execFxCrcCheck (s : State) : Host.Outcome State Fault Refusal := .next (s.onMain State.checkFx)

end Sys2Proof.Machine
end

