-- ==== Sys2Proof/Machine/Hostif.lean ====
section
/-! DEFINITION. HOSTIF: interrupt re-arm (R404), semaphores (R407), fuses (R413–R415), and bursts orphaned by a master's
reset (R427). -/

namespace Sys2Proof.Machine

/-! ## VEC_REARM (R404) -/

/-- Re-arm one vector: it is signalled again at once if a source of it qualifies, but for one signalled in this cycle, whose one
message stands for both. Vectors 222–255 are never signalled. -/
def State.rearmVector (s : State) (v : Nat) : State :=
  let s1 := s.setFlag (vecArmed v) true
  if s.noted (vecArmed v).key then s else if v < 222 then s1.signalVector v else s1

def State.writeRearm (s : State) (n : Nat) (w : Word) : State :=
  ((List.range 32).filter fun i => w.getLsbD i).foldl (fun s i => s.rearmVector (32 * n + i)) s

def execVecRearm (m : Master) (n : Fin 8) (w : Word) (s : State) : Host.Outcome State Fault Refusal :=
  .next (s.gate m (F.VEC_REARM.REARM n).addr fun s => s.writeRearm n w)

/-! ## Semaphores (R407) -/

/-- The mark of a semaphore freed by FORCE in this cycle, with the holder it was taken from. -/
def forceKey (b code : Nat) : Nat × Nat := ((F.SEM.HOLDER b).addr, 16 + code)

/-- TAKE of a free semaphore. Of two TAKEs of one cycle the host's has it. -/
def State.semTake (s : State) (m : Master) (b : Nat) : State :=
  if s.rd (F.SEM.HOLDER b) = 0 ∨ (m = .m3 ∧ s.noted (F.SEM.TAKE b).key = true) then
    let s1 := s.wr (F.SEM.HOLDER b) (holderCode m)
    if m = .m4 then s1.note (F.SEM.TAKE b).key else s1
  else s

def State.semFree (s : State) (m : Master) (b : Nat) : State :=
  if s.rd (F.SEM.HOLDER b) = holderCode m then s.wr (F.SEM.HOLDER b) 0 else s

/-- GIVE by the holder. With a FORCE of the same cycle the semaphore is freed once, and nothing was forced. -/
def State.semGive (s : State) (m : Master) (b : Nat) : State :=
  if s.noted (forceKey b (holderCode m)) then
    State.semFree { s with fresh := s.fresh.filter fun k => decide (k ≠ forceKey b (holderCode m)) } m b
  else s.semFree m b

/-- FORCE by another than the holder. SEM_FORCED is raised as the cycle ends, if no GIVE comes in it. -/
def State.semForce (s : State) (m : Master) (b : Nat) : State :=
  let h := s.rd (F.SEM.HOLDER b)
  if h ≠ 0 ∧ h ≠ holderCode m then (s.wr (F.SEM.HOLDER b) 0).note (forceKey b h) else s

/-- A semaphore has been forced free in this cycle. -/
def State.semForced (s : State) : Bool :=
  (List.range 34).any fun b => s.noted (forceKey b 1) || s.noted (forceKey b 2)

/-- What the end of a cycle in which a semaphore was forced raises. -/
def State.raiseForced (s : State) (forced : Bool) : State := if forced then s.raise Src.HOSTIF.SEM_FORCED else s

/-- A write of SEM_b: TAKE, GIVE and FORCE in this order. -/
def State.writeSem (s : State) (m : Master) (b : Nat) (w : Word) : State :=
  let s1 := if w.getLsbD 8 then s.semTake m b else s
  let s2 := if w.getLsbD 9 then s1.semGive m b else s1
  if w.getLsbD 10 then s2.semForce m b else s2

def execSemTake (m : Master) (b : Fin 34) (s : State) : Host.Outcome State Fault Refusal :=
  .next (s.gate m (F.SEM.HOLDER b).addr fun s => s.writeSem m b 0x100)

def execSemGive (m : Master) (b : Fin 34) (s : State) : Host.Outcome State Fault Refusal :=
  .next (s.gate m (F.SEM.HOLDER b).addr fun s => s.writeSem m b 0x200)

def execSemForce (m : Master) (b : Fin 34) (s : State) : Host.Outcome State Fault Refusal :=
  .next (s.gate m (F.SEM.HOLDER b).addr fun s => s.writeSem m b 0x400)

/-- Every hold of a master ends (R402). -/
def State.releaseSems (s : State) (m : Master) : State :=
  (List.range 34).foldl (fun s b => s.semFree m b) s

/-! ## Orphaned bursts (R427) -/

def masterIndex : Master → Nat
  | .m0 => 0
  | .m1 => 1
  | .m2 => 2
  | .m3 => 3
  | .m4 => 4
  | .m5 => 5
  | .m6 => 6
  | .m7 => 7

/-- A reset master's burst is finished by its port's converter. -/
def State.orphan (s : State) (o : Orphan) : State :=
  ((((s.wr F.ORPHAN_INFO.MASTER (masterIndex o.master)).wr F.ORPHAN_INFO.TARGET o.target).wr F.ORPHAN_INFO.BEATS_LEFT
    (min o.beats 255)).bump F.ORPHAN_CNT).raise Src.FABRIC.ORPHAN_BURST

/-- The bursts of reset masters that were in flight. -/
def State.orphans (s : State) (os : List Orphan) (reset : Master → Bool) : State :=
  (os.filter fun o => reset o.master).foldl State.orphan s

/-! ## Fuses (R413–R415) -/

def State.setFuses (s : State) (f : Fuses) : State := { s with fuses := f }

def Fuse.programmed (f : Fuse) : Bool := f.copyA || f.copyB

def Fuses.at_ (f : Fuses) (t : Nat) : Fuse :=
  match t with
  | 0 => f.debugLock
  | 1 => f.signRequired
  | _ => f.keyHash

/-- The array as a sensing reads it. -/
def Fuses.array (f : Fuses) : BitVec 3 :=
  BitVec.ofNat 3 (f.debugLock.programmed.toNat + 2 * f.signRequired.programmed.toNat + 4 * f.keyHash.programmed.toNat)

def State.debugLocked (s : State) : Bool := s.fuses.sensed.getLsbD 0
def State.signRequired (s : State) : Bool := s.fuses.sensed.getLsbD 1
def State.keyFused (s : State) : Bool := s.fuses.sensed.getLsbD 2

/-- KEY_STAGE as a 384-bit value: word n is bits 32n up. -/
def State.keyStage (s : State) : Nat :=
  (List.range 12).foldl (fun v n => v + s.rd (F.KEY_STAGE.WORD n) * 2 ^ (32 * n)) 0

/-- A fuse command is refused, and ends the arm (R413). -/
def State.refuseFuse (s : State) : State :=
  (s.setFuses { s.fuses with arm := none }).raise Src.HOSTIF.FUSE_REFUSED

/-- What every fuse command must meet: M3, not in COLD or WARM, a target that is not programmed, KEY_STAGE not zero. -/
def State.fuseBarred (s : State) (m : Master) (t : Nat) : Bool :=
  m != .m3 || s.start == 1 || s.start == 2 || decide (3 ≤ t) || s.fuses.sensed.getLsbD t || s.fuses.busy.isSome ||
    (t == 2 && s.keyStage == 0)

def State.fuseArm (s : State) (m : Master) (t : Nat) : State :=
  if h : t < 3 then
    if s.fuseBarred m t then s.refuseFuse else s.setFuses { s.fuses with arm := some ⟨t, h⟩ }
  else s.refuseFuse

def State.fuseCommit (s : State) (m : Master) (t : Nat) : State :=
  match s.fuses.arm with
  | some a =>
    if a.val ≠ t ∨ s.fuseBarred m t = true ∨ s.rdW F.FUSE_RESPONSE ≠ Config.fuseChallenge.toNat then s.refuseFuse
    else s.setFuses { s.fuses with arm := none, busy := some a }
  | none => s.refuseFuse

/-- A write of FUSE_CMD; ARM and COMMIT together are refused. -/
def State.writeFuseCmd (s : State) (m : Master) (w : Word) : State :=
  match w.getLsbD 4, w.getLsbD 5 with
  | true, false => s.fuseArm m (bitsOf w 0 2)
  | false, true => s.fuseCommit m (bitsOf w 0 2)
  | true, true => s.refuseFuse
  | false, false => s

def execFuseArm (m : Master) (target : Fin 4) (s : State) : Host.Outcome State Fault Refusal :=
  .next (s.gate m F.FUSE_CMD.ARM.addr fun s => s.writeFuseCmd m (BitVec.ofNat 32 (target + 16)))

def execFuseCommit (m : Master) (target : Fin 4) (s : State) : Host.Outcome State Fault Refusal :=
  .next (s.gate m F.FUSE_CMD.COMMIT.addr fun s => s.writeFuseCmd m (BitVec.ofNat 32 (target + 32)))

/-- The arm has lasted 1 s (R413). -/
def execFuseArmExpiry (s : State) : Host.Outcome State Fault Refusal :=
  .next (s.setFuses { s.fuses with arm := none })

/-- Programming completes: each copy has taken or not (R413, R415). DEBUG_LOCK takes effect, and M7's burst in flight is
orphaned (R414). -/
def State.fuseDone (s : State) (copyA copyB : Bool) (orphan : Option Orphan) : State :=
  match s.fuses.busy with
  | none => s
  | some t =>
    let x : Fuse := ⟨copyA, copyB⟩
    let f0 : Fuses := { s.fuses with busy := none }
    let f1 : Fuses := match t.val with
      | 0 => { f0 with debugLock := x }
      | 1 => { f0 with signRequired := x }
      | _ => { f0 with keyHash := x, keyValue := if x.programmed then BitVec.ofNat 384 s.keyStage else f0.keyValue }
    let s1 := s.setFuses { f1 with sensed := f1.array }
    let s2 := if copyA && copyB then s1 else s1.raise Src.HOSTIF.FUSE_FAIL
    if t.val = 0 ∧ x.programmed = true then s2.orphans orphan.toList (· == .m7) else s2

def execFuseProgramDone (copyA copyB : Bool) (orphan : Option Orphan) (s : State) : Host.Outcome State Fault Refusal :=
  .next (s.fuseDone copyA copyB orphan)

/-- The array is sensed: a state that differs from the previous sensing raises FUSE_TAMPER (R415). -/
def State.senseFuses (s : State) (sensed : BitVec 3) : State :=
  let s1 := s.setFuses { s.fuses with sensed := sensed }
  if sensed = s.fuses.sensed then s1 else s1.raise Src.HOSTIF.FUSE_TAMPER

def execFuseSense (sensed : BitVec 3) (s : State) : Host.Outcome State Fault Refusal :=
  .next (if s.power.vin then s.senseFuses sensed else s)

end Sys2Proof.Machine
end

