-- ==== Sys2Proof/Machine/Plane.lean ====
section
/-! DEFINITION. The loader and the strobes of the plane (R64, R169, R173, R176, R178, R192). -/

namespace Sys2Proof.Machine

/-! ## The loader (R173, R176) -/

/-- SELECT and SHUTTER transactions of a merged accord to every tile (R176): a switching tile takes its 64 cell states, a trim
tile its 64 trim levels and shutter bits. -/
def State.issueMerged (s : State) (slot : Nat) (m : BitVec 4352 × BitVec 512 × BitVec 512) : State :=
  (List.range 76).foldl (fun s t =>
    if isTrimTile t then
      (s.issue t (.select slot (m.2.1.extractLsb' (64 * (t - 68)) 64))).issue t
        (.shutter (m.2.2.extractLsb' (64 * (t - 68)) 64))
    else s.issue t (.select slot (m.1.extractLsb' (64 * t) 64))) s

/-- The loader reads a record: a CRC mismatch is reported and the record is loaded as read (R176). -/
def State.checkRecord (s : State) (a : Accord) : State := if a.sound then s else s.raise Src.ACCORD.RECORD_CRC

/-- The dynamic record of slot `k` of frame `f`, where its bank is COMMITTED or ACTIVE; none stands for REST (R167). -/
def State.dynamicRecord (s : State) (f k : Nat) : Option Accord :=
  let b := s.bank f
  if s.planeMode != 0 && (b == 2 || b == 3) then some (s.record (bankRecord f k)) else none

/-- Load one strobe: the standing record `n`, and the slot's dynamic record or REST (R172, R173). -/
def State.loadStrobeOf (s : State) (n f k : Nat) (armed : List Accord) : State :=
  let base := s.record (standRecord n)
  let s1 := s.checkRecord base
  match s1.dynamicRecord f k with
  | some d =>
    let pinF := if f = s1.frame then s1.plane.pins else s1.plane.nextPins
    (s1.checkRecord d).issueMerged k (merge (pinF.getD (pinsOf base armed)) base d)
  | none => s1.issueMerged k (merge (pinsOf base armed) base rest)

/-- The standing record that will be in force at slot number `g`. -/
def State.standingAt (s : State) (g : Nat) : Nat :=
  match (s.plane.updates.filter fun u => decide (s.slotNumber u.frame u.slot ≤ g)).getLast? with
  | some u => u.record
  | none => s.activeIndex

/-- The loads of a scheduled strobe, a switch `t` that applies at it included. -/
def State.loadScheduled (s : State) (near : Nat → Bool) (t : Option Taken) : State :=
  match s.nextStrobe s.now with
  | none => s
  | some b =>
    if near b then
      let g := s.boundaryFrom b
      let n := match t with
        | some t => if !t.inserted && t.at_ == b then t.index else s.standingAt g
        | none => s.standingAt g
      s.loadStrobeOf n (g / s.slots) (g % s.slots) s.armedRecords
    else s

/-- The loads of the strobe 400 ns ahead (R176): an inserted protection strobe, or the next scheduled one. -/
def State.loaderIssue (s : State) : State :=
  let near (b : Nat) : Bool := decide (s.now < b) && decide (b ≤ s.now + 404)
  match s.plane.taken with
  | some t =>
    if t.inserted && near t.at_ then s.loadStrobeOf t.index s.frame s.slot s.armedRecords
    else s.loadScheduled near (some t)
  | none => s.loadScheduled near none

def execLoaderIssue (s : State) : Host.Outcome State Fault Refusal := .next (s.onMain State.loaderIssue)

/-! ## Boundaries and inserted strobes -/

/-- A strobe of a merged standing accord fires for this boundary: at every one in SLOT and HYBRID modes, in CIRCUIT mode where
something applies (R169). -/
def State.slotStrobe (s : State) (applied : Bool) : State :=
  let waits := match s.time.resumeFrame with
    | some f => decide (s.frame < f)
    | none => false
  if (if s.planeMode = 0 then applied else !waits) then s.firePlane fun _ => true else s

/-- Operations whose cut boundary has passed by slot number `g` are discarded unanswered in WAIT (R307). -/
def State.dropDueOps (s : State) (g : Nat) : State :=
  s.setPlane { s.plane with replay := [], ops := s.plane.ops.filter fun o => decide (g < s.opBoundary o) }

/-- A joiner serves the slot boundaries up to number `g` that it has not served: apply, issue point, cut (R314). The cuts
commit at once: the instant that R309 measures from does not depend on when the commit is made. -/
def State.catchSlots : Nat → State → Nat → State
  | 0, s, _ => s
  | fuel + 1, s, g =>
    match s.hier.join with
    | some j =>
      if j.composed.isSome && decide (j.slot ≤ g) then
        let s1 := { s with hier := { s.hier with join := some { j with slot := j.slot + 1 } } }
        let s2 := ((s1.applyDue j.slot).issuePoint (some j.slot)).takeCut j.slot
        State.catchSlots fuel (s2.plane.cuts.foldl (fun s _ => s.commitStanding) s2) g
      else s
    | none => s

/-- A joiner that composes in real time follows the slot boundaries. -/
def State.joinSlots (s : State) (g : Nat) : State :=
  match s.hier.join with
  | some j => if (j.composed.getD 0) < s.frame then s else State.catchSlots 4096 s g
  | none => s

/-- The slot boundary in progress, once (R169, R184, R186, R193, R229): a switch or due updates apply, the strobe fires, the
issue point comes, the standing cut is taken. A switch at an update's boundary wins; the update is replayed (R194). -/
def State.slotBoundary (s : State) : State :=
  let here := (s.frame, s.slot)
  if !s.strobing || s.plane.lastSlot == some here then s
  else
    let g := s.slotNow
    let s0 := s.setPlane { s.plane with lastSlot := some here }
    let switch := s0.plane.taken.filter fun t => !t.inserted && decide (t.at_ ≤ s0.boundaryTime g)
    let due := s0.plane.updates.any fun u => decide (s0.slotNumber u.frame u.slot ≤ g)
    let s1 : State := match switch with
      | some t => s0.applySwitch t.index
      | none => if s0.twin = 3 then s0 else s0.applyDue g
    let s2 := s1.slotStrobe (switch.isSome || due)
    if s2.twin = 3 then s2.joinSlots g
    else
      let s3 := s2.issuePoint (some g)
      if s3.composes then s3.takeCut g
      else if s3.twin = 1 then s3.dropDueOps g
      else s3

/-- The inserted protection strobe (R192): the switch applies and every SLOT group fires; none fires in PRE_EPOCH (R281). -/
def State.protectionStrobe (s : State) : State :=
  match s.plane.taken with
  | some t =>
    if t.inserted && !s.preEpoch && decide (t.at_ ≤ s.now + 3) then (s.applySwitch t.index).firePlane fun _ => true else s
  | none => s

def execProtectionStrobe (s : State) : Host.Outcome State Fault Refusal := .next (s.onMain State.protectionStrobe)

/-! ## The edge at a tile (R60, R64, R353) -/

/-- The edge of a plane strobe in flight reaches tile `t` (R60), and with it the trims staged for it load where R353 has them wait
for it. A command plane strobe fires at its first edge, with the SLOT groups whose OFFSET is not negative (R66); one on its way
as network time steps back before FRAME_EPOCH does not (R281). -/
def State.planeStrobeAt (s : State) (t cyc : Nat) : State :=
  let s0 := if s.strobes.cmd && !s.preEpoch then s.firePlane fun o => decide (0 ≤ o) else s
  if s0.strobes.cmd then s0
  else if s0.strobes.plane.getLsbD t then
    let s1 := { s0 with strobes := { s0.strobes with plane := setBit s0.strobes.plane t false } }
    let s2 := if s1.trimsAtStrobe then s1.loadStaged t else s1
    if s2.railGood t && !s2.frozen then s2.planeEdge t cyc else s2
  else s0

def execPlaneStrobe (t : Fin 76) (cyc : Nat) (s : State) : Host.Outcome State Fault Refusal :=
  .next (s.onMain fun s => s.planeStrobeAt t cyc)

/-! ## The command plane strobe (R64) -/

/-- An accord commit is pending (R64). -/
def State.commitPending (s : State) : Bool :=
  !s.plane.cuts.isEmpty || !s.plane.updates.isEmpty || s.plane.taken.isSome

/-- STRB_CMD.PLANE: the loads issue and the strobe is on its way, or the command is refused and counted, also where no plane
strobe may fire (R281, R344, log 72). -/
def State.commandPlane (s : State) : State :=
  if s.planeMode != 0 || s.commitPending || s.strobes.cmd || s.frozen || s.preEpoch then s.bump F.STRB_REFUSED_CNT
  else
    let s1 := s.checkRecord s.standing
    let s2 := s1.issueMerged s1.slot (merge s1.pinsNow s1.standing rest)
    { s2 with strobes := { s2.strobes with plane := allTiles, cmd := true } }

def execStrbCmdPlane (m : Master) (s : State) : Host.Outcome State Fault Refusal :=
  .next (s.gate m F.STRB_CMD.PLANE.addr fun s => s.commandPlane)

end Sys2Proof.Machine
end

