-- ==== Sys2Proof/Machine/Composer.lean ====
section
/-! DEFINITION. The Composer (R197–R218): demand intake, the cut, matching, composition, commit, discard and abort. Composition
is computed at its commit from the live state, which nothing changes between the cut and the commit (R208, R212). -/

namespace Sys2Proof.Machine

/-! ## Ports (R197) -/

def State.inOwner (s : State) (i : Nat) : Option Nat :=
  if s.flag (F.IN_OWNER.VALID i) then some (s.rd (F.IN_OWNER.ENDPOINT i)) else none
def State.outOwner (s : State) (j : Nat) : Option Nat :=
  if s.flag (F.OUT_OWNER.VALID j) then some (s.rd (F.OUT_OWNER.ENDPOINT j)) else none

def ports : List Nat := List.range 512
def State.ownedIns (s : State) (e : Nat) : List Nat := ports.filter fun i => s.inOwner i == some e
def State.ownedOuts (s : State) (e : Nat) : List Nat := ports.filter fun j => s.outOwner j == some e

/-- The ports of endpoint `e` in the dynamic pool of a frame with pin set `pins` (R197). -/
def State.poolIns (s : State) (pins : Pins) (e : Nat) : List Nat :=
  (s.ownedIns e).filter fun i => !(s.rd (F.IN_MASK.MASK (i / 32))).testBit (i % 32) && !pins.ins.getLsbD i
def State.poolOuts (s : State) (pins : Pins) (e : Nat) : List Nat :=
  (s.ownedOuts e).filter fun j => !(s.rd (F.OUT_MASK.MASK (j / 32))).testBit (j % 32) && !pins.outs.getLsbD j

/-! ## Credits (R231) -/

/-- A message has left the device's buffers: the lane's credit limit rises by one. -/
def State.giveCredit (s : State) (lane : Nat) : State :=
  s.wr (F.CREDIT.LIMIT lane) ((s.rd (F.CREDIT.LIMIT lane) + 1) % 65536)

/-! ## Demand intake (R199) -/

/-- The frame of the next cut's boundary: F of R199. -/
def State.nextCutFrame (s : State) : Nat := if s.preEpoch then 0 else s.frame + 1

def State.demandLate (s : State) : State := (s.bump F.DEMAND_LATE_CNT).raise Src.COMPOSER.DEMAND_LATE

/-- A DEMAND of source `a` received at network time `rx`: the outcomes of R199. In CIRCUIT mode it is discarded (R24). -/
def State.intakeDemand (s : State) (a : Nat) (card : Bool) (seq rx : Nat) (p : DemandMsg) : State :=
  let f := s.nextCutFrame
  let leave (s : State) : State := if card then s.giveCredit a else s
  let closed := decide (s.frameStart f < rx + 1000 * s.rd F.COMP_CFG.DEMAND_CLOSE_US)
  if s.planeMode = 0 then leave s
  else if p.frame < f + 1 ∨ f + 2 < p.frame ∨ (p.frame = f + 1 ∧ closed = true) then leave s.demandLate
  else if 4 ≤ (s.comp.held.filter fun h => h.source == a && h.msg.frame == p.frame).length then
    leave ((s.bump F.DEMAND_REFUSED_CNT).raise Src.COMPOSER.DEMAND_REFUSED)
  else { s with comp := { s.comp with held := s.comp.held ++ [⟨a, card, seq, p⟩] } }

/-! ## The cut (R200–R204) -/

/-- Colours of R198. -/
def aware (s : State) (a : Nat) : Bool := s.flag (F.SRC_CTRL.AWARE a)

/-- Refill the policer of `a`, in 1/256 units (R201). -/
def State.refillPolicer (s : State) (a : Nat) : State :=
  let tc := min (256 * s.rd (F.POL_BURST.CBS a)) (s.rd (F.POL_TC.TC a) + s.rd (F.POL_CIR.CIR a))
  let tp := min (256 * s.rd (F.POL_BURST.PBS a)) (s.rd (F.POL_TP.TP a) + s.rd (F.POL_PIR.PIR a))
  (s.wr (F.POL_TC.TC a) tc).wr (F.POL_TP.TP a) tp

/-- police(a, n, colour) of R201: green, yellow and red units, and the state after. -/
def State.police (s : State) (a n colour : Nat) : State × Nat × Nat × Nat :=
  let tc := s.rd (F.POL_TC.TC a)
  let tp := s.rd (F.POL_TP.TP a)
  let g := if !aware s a || colour == 0 then min n (min (tc / 256) (tp / 256)) else 0
  let tp1 := tp - 256 * g
  let y := if !aware s a || colour != 2 then min (n - g) (tp1 / 256) else 0
  ((s.wr (F.POL_TC.TC a) (tc - 256 * g)).wr (F.POL_TP.TP a) (tp1 - 256 * y), g, y, n - g - y)

/-- An entry is invalid: colour 3, a destination with no owned output port, or a source with no owned input port (R199). -/
def State.entryInvalid (s : State) (a : Nat) (e : DemandEntry) : Bool :=
  e.colour == 3 || decide (64 ≤ e.dest) || (s.ownedOuts e.dest).isEmpty || (s.ownedIns a).isEmpty

/-- One entry at the cut; `new` collects the newly active queues (R200). -/
def State.meterEntry (s : State) (new : List (Nat × Nat × Nat)) (a : Nat) (e : DemandEntry) :
    State × List (Nat × Nat × Nat) :=
  if s.entryInvalid a e then ((s.bump F.DEMAND_INVALID_CNT).raise Src.COMPOSER.DEMAND_INVALID, new)
  else
    let gf := F.DEMAND.GREEN a e.dest e.cls
    let yf := F.DEMAND.YELLOW a e.dest e.cls
    let wasIdle := s.rd gf + s.rd yf == 0
    let s1 := if e.reset then (s.wr gf 0).wr yf 0 else s
    let r := s1.police a e.count e.colour
    let g := s1.rd gf + r.2.1
    let y := s1.rd yf + r.2.2.1
    let lost := (g - min g 65535) + (y - min y 65535)
    let s2 := (r.1.wr gf (min g 65535)).wr yf (min y 65535)
    let s3 := if lost = 0 then s2 else (s2.bumpBy F.DEMAND_OVERFLOW_CNT lost).raise Src.COMPOSER.DEMAND_OVERFLOW
    let s4 := ((s3.bumpBy F.UNITS_GREEN r.2.1).bumpBy F.UNITS_YELLOW r.2.2.1).bumpBy F.UNITS_RED r.2.2.2
    (s4, if wasIdle && decide (0 < g + y) then new ++ [(a, e.dest, e.cls)] else new)

/-- Everything the cut does for source `a`: its policer, ACTIVE of its latest DEMAND, its entries (R200, R201, R204). -/
def State.cutSource (x : State × List (Nat × Nat × Nat)) (f1 a : Nat) : State × List (Nat × Nat × Nat) :=
  let s := x.1.refillPolicer a
  let mine := s.comp.held.filter fun h => h.source == a && h.msg.frame == f1
  let active := match s.flag (F.SRC_CTRL.AGG a), mine.getLast? with
    | true, some h => max 1 (min 64 h.msg.active)
    | _, _ => 1
  (mine.flatMap fun h => h.msg.entries).foldl (fun (y : State × List (Nat × Nat × Nat)) e => State.meterEntry y.1 y.2 a e)
    (s.wr (F.SRC_CTRL.ACTIVE a) active, x.2)

/-- Refill the shaper of (a, c) (R202). -/
def State.refillShaper (s : State) (a c : Nat) : State :=
  if s.flag (F.SHP_RATE.EN a c) then
    let sd : Int := 256 * s.rd (F.SHP_DEPTH.SD a c)
    s.wrS (F.SHP_BUCKET.B a c) (min sd (s.rdS (F.SHP_BUCKET.B a c) + s.rd (F.SHP_RATE.SR a c)))
  else s

/-- The tag group of a class (R203): 0 for C0, 1 for C1, 2 for C2 to C7; and its virtual time at destination `b`. -/
def tagGroup (c : Nat) : Nat := min c 2
def virtualTime (b group : Nat) : Field := if group = 0 then F.V_C0.V b else if group = 1 then F.V_C1.V b else F.V_W.V b

/-- The queues (a, c) with units toward destination `b`: those whose DEMAND word is listed. -/
def State.queuesTo (s : State) (b : Nat) : List (Nat × Nat) :=
  s.regs.filterMap fun e =>
    let off := e.1 - 0x190000
    if 0x190000 ≤ e.1 ∧ e.1 < 0x1B0000 ∧ off / 32 % 64 = b then some (off / 2048, off / 4 % 8) else none

/-- Renormalise a tag group of destination `b`, over the queues active before the cut's new ones (R203). -/
def State.renormalise (s : State) (new : List (Nat × Nat × Nat)) (b group : Nat) : State :=
  let qs := (s.queuesTo b).filter fun q => tagGroup q.2 == group && !new.contains (q.1, b, q.2)
  let v := s.rd (virtualTime b group)
  let least := qs.foldl (fun m q => min m (s.rd (F.TAG.S q.1 b q.2))) v
  let n := least / 65536 * 65536
  if n = 0 then s
  else qs.foldl (fun s q => s.wr (F.TAG.S q.1 b q.2) (s.rd (F.TAG.S q.1 b q.2) - n)) (s.wr (virtualTime b group) (v - n))

/-- LV values whose apply frame has come take effect (R213). -/
def State.applyComposerLv (s : State) (f1 : Nat) : State :=
  let due := (s.comp.applyFrames.filter fun e => decide (e.2 ≤ f1)).map (·.1)
  due.foldl State.applyLv
    { s with comp := { s.comp with applyFrames := s.comp.applyFrames.filter fun e => decide (f1 < e.2) } }

/-- Hold an LV word of the block with the APPLY_FRAME in force (R213). -/
def State.holdComposerLv (s : State) (a : Nat) (w : Word) : State :=
  let s1 := s.holdLv a w
  { s1 with comp := { s1.comp with
    applyFrames := (s1.comp.applyFrames.filter fun e => e.1 != a) ++ [(a, s1.rdW F.APPLY_FRAME)] } }

/-- The messages held for frame `f1` or earlier leave the buffers (R231). -/
def State.releaseHeld (s : State) (f1 : Nat) : State :=
  let gone := s.comp.held.filter fun h => decide (h.msg.frame ≤ f1)
  let s1 := gone.foldl (fun s h => if h.card then s.giveCredit h.source else s) s
  { s1 with comp := { s1.comp with held := s1.comp.held.filter fun h => decide (f1 < h.msg.frame) } }

/-- The cut's work on the live state for frame `f1` (R200). -/
def State.cutLive (s : State) (f1 : Nat) : State :=
  let s1 := s.applyComposerLv f1
  let r := (List.range 64).foldl (fun x a => State.cutSource x f1 a) (s1, ([] : List (Nat × Nat × Nat)))
  let s2 := (List.range 64).foldl (fun s a => (List.range 8).foldl (fun s c => s.refillShaper a c) s) r.1
  let s3 := (List.range 64).foldl (fun s b => (List.range 3).foldl (fun s g => s.renormalise r.2 b g) s) s2
  r.2.foldl (fun s q => s.wr (F.TAG.S q.1 q.2.1 q.2.2) (s.rd (virtualTime q.2.1 (tagGroup q.2.2)))) (s3.releaseHeld f1)

/-- The cut for frame `f1`, which begins its composition: PIN_F of `f1` and the standing accord in force at its start (R172,
R200). -/
def State.demandCut (s : State) (f1 : Nat) : State :=
  let s1 := (s.cutLive f1).bump F.CUTS
  let base := s1.record (standRecord (s1.standingAt (s1.slotNumber f1 0)))
  let pins := pinsOf base s1.armedRecords
  let s2 := { s1 with
    comp := { s1.comp with composing := some ⟨f1, base, s1.now⟩ }
    plane := { s1.plane with nextPins := some pins } }
  (((s2.setBank f1 1).wr F.COMP_STATUS.PHASE 2).wr F.COMP_STATUS.SLOTS_DONE 0).markEligibleFrom f1

/-! ## Matching one slot (R203, R205) -/

/-- A queue as one destination sees it in an iteration: its counts and tag, tentative. -/
structure Queue where
  a : Nat
  c : Nat
  g : Nat
  y : Nat
  tag : Nat
  recip : Nat
  deriving DecidableEq, Repr

/-- RECIP of R203. -/
def State.recip (s : State) (a c : Nat) : Nat :=
  let active := max 1 (s.rd (F.SRC_CTRL.ACTIVE a))
  let w := if c < 2 then active else max 1 (s.rd (F.CLASS_W.W (c - 2))) * active
  max 1 (roundEvenDiv 65536 w).toNat

/-- The level of a queue and its place within it (R203). -/
def Queue.level (q : Queue) : Nat := 2 * min q.c 2 + (if 0 < q.g then 1 else 2)
def Queue.key (q : Queue) : List Nat := [q.level, q.tag, if 2 ≤ q.c then q.c else 0, q.a]

/-- (a, c) is not held back by its shaper (R202). -/
def State.shaperOpen (s : State) (a c : Nat) : Bool :=
  !s.flag (F.SHP_RATE.EN a c) ||
    decide (-(256 * s.rd (F.SHP_DEPTH.SD a c) : Int) < s.rdS (F.SHP_BUCKET.B a c))

/-- An offer of destination `b` to a queue of source `a`, numbered in offer order at `b`. -/
structure Offer where
  b : Nat
  a : Nat
  c : Nat
  yellow : Bool
  level : Nat
  order : Nat
  deriving DecidableEq, Repr

/-- The queue that ranks first. -/
def firstQueue : List Queue → Option Queue
  | [] => none
  | q :: qs =>
    match firstQueue qs with
    | some r => if keyLt r.key q.key then some r else some q
    | none => some q

/-- Destination `b` makes up to `n` offers (R205). -/
def makeOffers (b : Nat) : Nat → Nat → List Queue → List Offer
  | 0, _, _ => []
  | n + 1, k, qs =>
    match firstQueue (qs.filter fun q => decide (0 < q.g + q.y)) with
    | none => []
    | some q =>
      let green := decide (0 < q.g)
      let r : Queue := { q with
        g := q.g - (if green then 1 else 0), y := q.y - (if green then 0 else 1)
        tag := min (q.tag + q.recip) (2 ^ 32 - 1) }
      ⟨b, q.a, q.c, !green, q.level, k⟩ :: makeOffers b n (k + 1) (qs.map fun x => if x.a = q.a ∧ x.c = q.c then r else x)

/-- What matching a slot carries: the working state, free capacities by endpoint, accepted offers in acceptance order. -/
structure Match where
  s : State
  inc : List (Nat × Nat)
  outc : List (Nat × Nat)
  accepted : List Offer

def capOf (l : List (Nat × Nat)) (e : Nat) : Nat := (l.lookup e).getD 0
def useCap (l : List (Nat × Nat)) (e : Nat) : List (Nat × Nat) := l.map fun x => if x.1 = e then (e, x.2 - 1) else x

/-- Every destination's offers on the state at the start of an iteration. -/
def Match.offers (x : Match) : List Offer :=
  x.outc.flatMap fun d =>
    let qs := ((x.s.queuesTo d.1).filter fun q => decide (0 < capOf x.inc q.1) && x.s.shaperOpen q.1 q.2).map fun q =>
      (⟨q.1, q.2, x.s.rd (F.DEMAND.GREEN q.1 d.1 q.2), x.s.rd (F.DEMAND.YELLOW q.1 d.1 q.2),
        x.s.rd (F.TAG.S q.1 d.1 q.2), x.s.recip q.1 q.2⟩ : Queue)
    makeOffers d.1 d.2 0 qs

/-- Accept one offer (R205): capacity, counter, tags and shaper. -/
def Match.accept (x : Match) (o : Offer) : Match :=
  let s := x.s
  let cf := if o.yellow then F.DEMAND.YELLOW o.a o.b o.c else F.DEMAND.GREEN o.a o.b o.c
  let vf := virtualTime o.b (tagGroup o.c)
  let tag := s.rd (F.TAG.S o.a o.b o.c)
  let s1 := ((s.wr cf (s.rd cf - 1)).wr vf (max (s.rd vf) tag)).wr (F.TAG.S o.a o.b o.c)
    (min (tag + s.recip o.a o.c) (2 ^ 32 - 1))
  let s2 := if s1.flag (F.SHP_RATE.EN o.a o.c)
    then s1.wrS (F.SHP_BUCKET.B o.a o.c) (s1.rdS (F.SHP_BUCKET.B o.a o.c) - 256) else s1
  ⟨s2, useCap x.inc o.a, useCap x.outc o.b, x.accepted ++ [o]⟩

/-- One source takes its offers in its order while it has capacity; a held-back one is refused. -/
def Match.acceptSource (x : Match) (all : List Offer) (a : Nat) : Match :=
  let p := x.s.rd (F.SRC_CTRL.P a)
  let mine := sortBy (fun o : Offer => [o.level, (o.b + 64 - p) % 64, o.order]) (all.filter fun o => o.a == a)
  mine.foldl (fun (x : Match) o => if 0 < capOf x.inc a ∧ x.s.shaperOpen o.a o.c = true then x.accept o else x) x

def Match.iteration (x : Match) : Match :=
  let all := x.offers
  (List.range 64).foldl (fun (x : Match) a => x.acceptSource all a) x

/-- At most `n` iterations, until one accepts nothing; `true` where the last of them still accepted something. -/
def Match.iterate : Nat → Match → Match × Bool
  | 0, x => (x, true)
  | n + 1, x =>
    let y := x.iteration
    if y.accepted.length = x.accepted.length then (x, false) else Match.iterate n y

/-- The pointers of the sources that accepted in the first iteration (R205). -/
def State.movePointers (s : State) (first : List Offer) : State :=
  (List.range 64).foldl (fun s a =>
    match first.find? fun o => o.a == a with
    | some o => s.wr (F.SRC_CTRL.P a) ((o.b + 1) % 64)
    | none => s) s

/-- Match one slot on the working state: the accepted units, and the state after (R205). -/
def State.matchSlot (s : State) (pins : Pins) : State × List Offer :=
  let inc := (List.range 64).map fun a => (a, (s.poolIns pins a).length)
  let outc := (List.range 64).map fun b => (b, (s.poolOuts pins b).length)
  let x0 : Match := ⟨s, inc, outc, []⟩
  let first := x0.iteration.accepted
  let r := Match.iterate (s.rd F.COMP_CFG.ITERATIONS) x0
  let s1 := if r.2 && !r.1.offers.isEmpty then r.1.s.bump F.ITER_CAP_CNT else r.1.s
  (s1.movePointers first, r.1.accepted)

/-! ## Pairs and records (R206, R207) -/

/-- A unit with its ports. -/
structure Unit_ where
  inPort : Nat
  outPort : Nat
  o : Offer
  deriving DecidableEq, Repr

/-- Give each unit the port at its place among its owner's units (R206). -/
def portFor (units : List (Nat × Offer)) (mine : Offer → Nat) (peer : Offer → Nat) (free : Nat → List Nat) (k : Nat) (o : Offer) :
    Nat :=
  let same := sortBy (fun x : Nat × Offer => [peer x.2, x.1]) (units.filter fun x => mine x.2 == mine o)
  (free (mine o)).getD (same.findIdx fun x => x.1 == k) 0

/-- The units of a slot become pairs (R206). -/
def State.assignPorts (s : State) (pins : Pins) (accepted : List Offer) : List Unit_ :=
  let units := (List.range accepted.length).zip accepted
  units.map fun x =>
    ⟨portFor units (·.a) (·.b) (s.poolIns pins) x.1 x.2, portFor units (·.b) (·.a) (s.poolOuts pins) x.1 x.2, x.2⟩

/-- A composed frame: the working state, its records, the units that stayed and those the Router removed. -/
structure Composed where
  s : State
  records : List Accord
  kept : List (Nat × Unit_)
  removed : List Unit_

/-- Compose slot `k` (R205, R206, R181). -/
def Composed.slot (x : Composed) (f : Nat) (pins : Pins) (base : Accord) (k : Nat) : Composed :=
  let r := x.s.matchSlot pins
  let units := x.s.assignPorts pins r.2
  let rec_ := x.s.composeRecord f k pins base (units.map fun u => (u.inPort, u.outPort))
  let gone (u : Unit_) : Bool := rec_.2.contains (u.inPort, u.outPort)
  ⟨r.1, x.records ++ [rec_.1], x.kept ++ (units.filter fun u => !gone u).map (fun u => (k, u)),
    x.removed ++ units.filter gone⟩

/-- The first `n` slots of frame `f` composed on the live state (R205, R208). -/
def State.composeSlots (s : State) (f n : Nat) (pins : Pins) (base : Accord) : Composed :=
  (List.range n).foldl (fun (x : Composed) k => x.slot f pins base k) ⟨s, [], [], []⟩

/-- A removed pair's unit and token return (R207). -/
def State.returnUnit (s : State) (u : Unit_) : State :=
  let o := u.o
  let cf := if o.yellow then F.DEMAND.YELLOW o.a o.b o.c else F.DEMAND.GREEN o.a o.b o.c
  let s1 := s.wr cf (min 65535 (s.rd cf + 1))
  if s1.flag (F.SHP_RATE.EN o.a o.c) then s1.wrS (F.SHP_BUCKET.B o.a o.c) (s1.rdS (F.SHP_BUCKET.B o.a o.c) + 256) else s1

/-- Write a frame's records into its bank; removals are counted and reported (R183). -/
def State.writeBank (s : State) (f : Nat) (records : List Accord) : State :=
  ((List.range records.length).zip records).foldl (fun s x =>
    let s1 := s.setRecord (bankRecord f x.1) x.2
    if x.2.removed = 0 then s1
    else (s1.bumpBy F.PAIRS_REMOVED_CNT x.2.removed).raise Src.ACCORD.PAIRS_REMOVED) s

/-! ## GRANT (R211, R234) -/

/-- TX and RX entries of one slot for an endpoint's ports. -/
def txEntries (kept : List (Nat × Unit_)) (ins : List Nat) (k : Nat) : List Byte :=
  ins.flatMap fun i =>
    match kept.find? fun x => x.1 == k && x.2.inPort == i with
    | some x => beBytes 2 (0x8000 + 512 * x.2.o.yellow.toNat + 64 * x.2.o.c + x.2.o.b)
    | none => [0, 0]

def rxEntries (kept : List (Nat × Unit_)) (outs : List Nat) (k : Nat) : List Byte :=
  outs.map fun j =>
    match kept.find? fun x => x.1 == k && x.2.outPort == j with
    | some x => BitVec.ofNat 8 (0x80 + x.2.o.a)
    | none => 0

/-- The parts of a GRANT: (first slot, slots, with TX, with RX) (R234). -/
def grantParts (pIn pOut n : Nat) : List (Nat × Nat × Bool × Bool) :=
  let w := 2 * pIn + pOut
  if w ≤ 1024 then
    let sz := if w = 0 then n else min n (1024 / w)
    (List.range ((n + sz - 1) / sz)).map fun p => (p * sz, min n ((p + 1) * sz) - p * sz, true, true)
  else (List.range n).flatMap fun k => [(k, 1, true, false), (k, 1, false, true)]

/-- The payload of one part (R234). -/
def State.grantPayload (s : State) (f seq e : Nat) (kept : List (Nat × Unit_)) (parts p : Nat)
    (part : Nat × Nat × Bool × Bool) : List Byte :=
  let ins := s.ownedIns e
  let outs := s.ownedOuts e
  let slots := (List.range part.2.1).map (part.1 + ·)
  List.flatten [beBytes 8 f, beBytes 4 seq, [BitVec.ofNat 8 s.slots,
    BitVec.ofNat 8 (part.2.2.1.toNat + 2 * part.2.2.2.toNat)], beBytes 2 ins.length, beBytes 2 outs.length, beBytes 2 p,
    beBytes 2 parts, [BitVec.ofNat 8 part.1, BitVec.ofNat 8 part.2.1],
    if part.2.2.1 then slots.flatMap (txEntries kept ins) else [],
    if part.2.2.2 then slots.flatMap (rxEntries kept outs) else []]

/-- The GRANTs of a frame, in ascending endpoint number: (endpoint, part, payload) (R211). -/
def State.grants (s : State) (f seq : Nat) (kept : List (Nat × Unit_)) : List (Nat × Nat × List Byte) :=
  ((List.range 64).filter fun e => kept.any fun x => x.2.o.a == e || x.2.o.b == e).flatMap fun e =>
    let parts := grantParts (s.ownedIns e).length (s.ownedOuts e).length s.slots
    ((List.range parts.length).zip parts).map fun x => (e, x.1, s.grantPayload f seq e kept parts.length x.1 x.2)

/-! ## COMP_STATE_CRC (R215) -/

/-- The words the CRC covers, in address order, of SRC_CTRL only the pointer; the order is DEDUCED (log 30). -/
def State.compWords (s : State) : List Word :=
  List.flatten [
    (List.range 64).flatMap fun a =>
      [BitVec.ofNat 32 (s.rd (F.SRC_CTRL.P a)), s.word (F.POL_TC.TC a).addr, s.word (F.POL_TP.TP a).addr],
    (List.range 512).map fun n => s.word (F.SHP_BUCKET.B (n / 8) (n % 8)).addr,
    (List.range 64).flatMap fun b => [s.word (F.V_C0.V b).addr, s.word (F.V_C1.V b).addr, s.word (F.V_W.V b).addr],
    (List.range 32768).map fun n => s.word (0x190000 + 4 * n),
    (List.range 32768).map fun n => s.word (0x1C0000 + 4 * n)]

/-- A held message as bytes. -/
def HeldDemand.bytes (h : HeldDemand) : List Byte :=
  List.flatten [leBytes 1 h.source, leBytes 4 h.seq, leBytes 8 h.msg.frame, leBytes 1 h.msg.active,
    h.msg.entries.flatMap fun e =>
      [BitVec.ofNat 8 e.dest, BitVec.ofNat 8 (e.cls + 8 * e.colour + 32 * e.reset.toNat)] ++ leBytes 2 e.count]

def State.compStateCrc (s : State) : Nat :=
  (crc32 (wordBytes s.compWords ++ s.comp.held.flatMap HeldDemand.bytes)).toNat

/-! ## Commit, discard, abort (R177, R208–R214) -/

/-- CRC-32 over words' bytes. -/
def crcOfNats (vs : List Nat) : Nat := (crc32 (vs.flatMap fun v => leBytes 4 v)).toNat

def frameEndPayload (e : FrameEndMsg) : List Byte :=
  List.flatten [beBytes 8 e.frame, [BitVec.ofNat 8 e.records, 0, 0, 0], beBytes 4 e.recordsCrc, beBytes 4 e.digest,
    beBytes 4 e.stateCrc, beBytes 4 e.standSeq]

/-- COMP_STATUS of a composition that has ended (R210). -/
def State.compEnded (s : State) (phase result residue done_ : Nat) : State :=
  ((((s.wr F.COMP_STATUS.PHASE phase).wr F.COMP_STATUS.RESULT result).setFlag F.COMP_STATUS.ABORT_IGNORED false).wr
    F.COMP_STATUS.RESIDUE residue).wr F.COMP_STATUS.SLOTS_DONE done_

/-- A pair's comparison of a frame, once both FRAME_ENDs are held (R311). -/
def State.compareEnds (s : State) : State :=
  match s.hier.ownEnd, s.hier.twinEnd with
  | some x, some y =>
    if x.frame = y.frame then
      let s1 := { s with hier := { s.hier with ownEnd := none, twinEnd := none } }
      if x.digest = y.digest ∧ x.stateCrc = y.stateCrc ∧ x.standSeq = y.standSeq then
        s1.wr F.TWIN_STATUS.MATCH_RUN (min 65535 (s1.rd F.TWIN_STATUS.MATCH_RUN + 1))
      else ((s1.wr F.TWIN_STATUS.MATCH_RUN 0).bump F.DIVERGE_FRAMES).raise Src.HIER.TWIN_DIVERGE
    else s
  | _, _ => s

/-- A unit in PAIRED sends its FRAME_END and compares; a frame of its own not compared by now had no FRAME_END from the twin
(R311). -/
def State.endWhilePaired (s : State) (e : FrameEndMsg) : State :=
  let s1 := if s.hier.ownEnd.isSome then (s.wr F.TWIN_STATUS.MATCH_RUN 0).raise Src.HIER.PEER_SILENT else s
  ({ (s1.toTwin 0x22 (frameEndPayload e)) with hier := { s1.hier with ownEnd := some e } }).compareEnds

/-- The unit's own FRAME_END goes to its twin while PAIRED, while JOINING in catch-up, and while it serves a
resynchronisation (R307, R311, R314). -/
def State.endToTwin (s : State) (e : FrameEndMsg) : State :=
  let serving := match s.hier.serve with | some fc => decide (fc ≤ e.frame) | none => false
  if s.twin = 4 then s.endWhilePaired e
  else if s.twin = 3 ∨ serving = true then
    let s1 := s.toTwin 0x22 (frameEndPayload e)
    { s1 with hier := { s1.hier with join := s1.hier.join.map fun j => { j with own := j.own ++ [e] } } }
  else s

/-- ACCORD messages of a committed frame, then FRAME_END (R302). -/
def State.tellFrame (s : State) (records : List Accord) (e : FrameEndMsg) : State :=
  let s1 := ((List.range records.length).zip records).foldl (fun s x =>
    s.toWorkers 0x21 (List.flatten [beBytes 8 e.frame, [BitVec.ofNat 8 x.1, 0, 0, 0], x.2.bytes])) s
  (s1.toWorkers 0x22 (frameEndPayload e)).endToTwin e

/-- The committed composition of frame `c.frame`: live state, records, digest, grants (R208, R211, R214). -/
def State.commitFrame (s : State) (c : Composition) (pins : Pins) : State :=
  let x := s.composeSlots c.frame s.slots pins c.base
  let s1 := x.removed.foldl State.returnUnit x.s
  let s2 := (s1.bumpBy F.UNITS_GRANTED x.kept.length).bumpBy F.UNITS_RETURNED x.removed.length
  let s3 := (s2.writeBank c.frame x.records).setBank c.frame 2
  let s4 := { s3 with comp := { s3.comp with composing := none } }.compEnded 4 1 0 s.slots
  let s5 := s4.wr F.COMP_TIME.NS (min (s4.now - c.began) (2 ^ 20 - 1))
  let gs := s5.grants c.frame c.base.seq x.kept
  let digest := crcOfNats (x.records.map (·.hcrc) ++ gs.map fun g => (crc32 g.2.2).toNat)
  let s6 := (s5.wrW F.DIGEST_FRAME c.frame).wr F.FRAME_DIGEST.DIGEST digest
  let s7 := gs.foldl (fun s g => s.queueSys ⟨g.1, [0, g.2.1], 3, some c.frame, g.2.2, none⟩) s6
  let e : FrameEndMsg :=
    ⟨c.frame, x.records.length, crcOfNats (x.records.map (·.hcrc)), digest, s7.compStateCrc, c.base.seq⟩
  (s7.issuePoint none).tellFrame x.records e

/-- The last slot record is written (R208). -/
def State.compositionCommit (s : State) : State :=
  match s.comp.composing, s.plane.nextPins with
  | some c, some pins => if s.bank c.frame == 1 then s.commitFrame c pins else s
  | _, _ => s

/-- FRAME_END of a discarded frame (R297, R302). -/
def State.tellDiscard (s : State) (f : Nat) (seq : Nat) : State :=
  let e : FrameEndMsg := ⟨f, 0, 0, 0, s.compStateCrc, seq⟩
  (s.toWorkers 0x22 (frameEndPayload e)).endToTwin e

/-- A composition ends without commit, `written` records written: the working copy is dropped, the live state keeps the cut's
result (R208), the frame runs on REST (R177). ITER_CAP_CNT is no part of the working copy: it keeps what matching counted in
the slots matched by then, whose number past the written ones is a free value (log 30). -/
def State.dropComposition (s : State) (c : Composition) (pins : Pins) (result written : Nat) : State :=
  let n := min written s.slots
  let f := s.freshValue
  let x := (f.2.wrW F.ITER_CAP_CNT 0).composeSlots c.frame (n + f.1.toNat % (s.slots - n + 1)) pins c.base
  let s1 := (f.2.bumpBy F.ITER_CAP_CNT (x.s.rdW F.ITER_CAP_CNT)).writeBank c.frame (x.records.take n)
  let s2 := { s1 with comp := { s1.comp with composing := none } }
  ((s2.compEnded 0 result (s.slots - n) n).discardFrame c.frame).tellDiscard c.frame c.base.seq

/-- The deadline T(F+1) − COMMIT_MARGIN: a composition with every record written at that edge has completed, and its commit
wins (R177, R178). -/
def State.commitDeadline (s : State) (written : Nat) : State :=
  match s.comp.composing, s.plane.nextPins with
  | some c, some pins =>
    if s.bank c.frame == 1 then
      if s.slots ≤ written then s.commitFrame c pins else s.dropComposition c pins 3 written
    else s
  | _, _ => s

/-- COMP_CTRL.ABORT (R210). -/
def State.abortComposition (s : State) (written : Nat) : State :=
  match s.comp.composing, s.plane.nextPins with
  | some c, some pins =>
    if s.bank c.frame == 1 then (s.dropComposition c pins 2 written).raise Src.COMPOSER.COMPOSE_ABORTED else s
  | _, _ =>
    if s.rd F.COMP_STATUS.PHASE = 4 then
      (s.wr F.COMP_STATUS.RESULT 1).setFlag F.COMP_STATUS.ABORT_IGNORED true
    else s

def execCompositionCommit (s : State) : Host.Outcome State Fault Refusal := .next (s.onMain State.compositionCommit)

def execCommitDeadline (written : Fin 65) (s : State) : Host.Outcome State Fault Refusal :=
  .next (s.onMain fun s => s.commitDeadline written)

def execCompCtrlAbort (m : Master) (written : Fin 65) (s : State) : Host.Outcome State Fault Refusal :=
  .next (s.gate m F.COMP_CTRL.ABORT.addr fun s => s.abortComposition written)

end Sys2Proof.Machine
end

