-- ==== Sys2Proof/Machine/Net.lean ====
section
/-! DEFINITION. Ethernet, IP and UDP around what a lane sends (R219, R224), with the standards' checksums. -/

namespace Sys2Proof.Machine

/-- The sum of big-endian 16-bit words, a last odd byte padded with zero. -/
def wordSum : List Byte → Nat
  | a :: b :: rest => 256 * a.toNat + b.toNat + wordSum rest
  | [a] => 256 * a.toNat
  | [] => 0

def foldCarry (x : Nat) : Nat := x % 65536 + x / 65536

/-- The internet checksum: the complement of the ones' complement sum. -/
def checksum (bs : List Byte) : Nat := 65535 - foldCarry (foldCarry (foldCarry (wordSum bs)))

/-- A checksum that covers bytes that hold it sums to all ones. -/
def checksumOk (bs : List Byte) : Bool := checksum bs == 0

def ipBytes (w : List Word) : List Byte := w.flatMap fun x => beBytes 4 x.toNat

def State.localIp (s : State) (n : Nat) : List Word := (List.range 4).map fun j => s.word (F.LOCAL_IP.ADDR n j).addr
def State.peerIp (s : State) (n : Nat) : List Word := (List.range 4).map fun j => s.word (F.PEER_IP.ADDR n j).addr

/-- The checksum a UDP datagram carries; a computed 0 is sent as all ones. -/
def udpChecksum (src dst dgram : List Byte) : Nat :=
  let c := checksum (List.flatten [src, dst, [0, 17], beBytes 2 dgram.length, dgram])
  if c = 0 then 65535 else c

/-- A UDP datagram; the ports are both UDP_CFG.PORT (R224). -/
def State.udp (s : State) (src dst payload : List Byte) : List Byte :=
  let port := beBytes 2 (s.rd F.UDP_CFG.PORT)
  let len := beBytes 2 (8 + payload.length)
  let c := udpChecksum src dst (List.flatten [port, port, len, [0, 0], payload])
  List.flatten [port, port, len, beBytes 2 c, payload]

/-- An IPv4 packet of one protocol; TOS, identification, DF and TTL are open. -/
def State.ipv4 (s : State) (proto : Nat) (src dst body : List Byte) : List Byte × State :=
  let r := s.freshBytes 5
  let f := r.1
  let head (c : Nat) : List Byte := List.flatten [[0x45], slice f 0 1, beBytes 2 (20 + body.length), slice f 1 2,
    [BitVec.ofNat 8 (64 * (beAt f 3 1 % 2)), 0], slice f 4 1, beBytes 1 proto, beBytes 2 c, src, dst]
  (head (checksum (head 0)) ++ body, r.2)

/-- An IPv6 packet; traffic class, flow label and hop limit are open where `hop` is none. -/
def State.ipv6 (s : State) (next : Nat) (hop : Option Nat) (src dst body : List Byte) : List Byte × State :=
  let r := s.freshBytes 4
  let f := r.1
  (List.flatten [beBytes 4 (6 * 2 ^ 28 + beAt f 0 4 % 2 ^ 28), beBytes 2 body.length, beBytes 1 next,
    (match hop with | some h => beBytes 1 h | none => slice f 0 1), src, dst, body], r.2)

/-- The 802.1Q tags a lane adds (R219). -/
def State.laneTags (s : State) (n : Nat) : List Byte :=
  let tag (vid pcp : Nat) : List Byte := List.flatten [[0x81, 0], beBytes 2 (pcp * 2 ^ 13 + vid)]
  let t0 := tag (s.rd (F.VLAN_CFG.VID0 n)) (s.rd (F.VLAN_CFG.PCP0 n))
  let t1 := tag (s.rd (F.VLAN_CFG.VID1 n)) (s.rd (F.VLAN_CFG.PCP1 n))
  match s.rd (F.LANE_CFG.TAGS n) with
  | 0 => []
  | 1 => t0
  | _ => t0 ++ t1

/-- The bytes of a frame with its FCS appended, least significant byte first. -/
def withFcs (bs : List Byte) : List Byte := bs ++ leBytes 4 (crc32 bs).toNat

/-- Send a frame on a lane: padded to 64 bytes with open bytes, FCS appended (R224). -/
def State.sendFrame (s : State) (lane : Nat) (bs : List Byte) : State :=
  let r := s.freshBytes (60 - bs.length)
  r.2.emitOut (.frame lane (withFcs (bs ++ r.1)))

/-- Where the device sends on a lane: the source MAC of the latest HELLO, broadcast before the first, while PEER_MAC still
holds its cold 0 (R224). -/
def State.peerMac (s : State) (n : Nat) : Nat := if s.rdW (F.PEER_MAC n) = 0 then 2 ^ 48 - 1 else s.rdW (F.PEER_MAC n)

/-- Send an Ethernet frame to the lane's peer with the lane's tags. -/
def State.sendEthernet (s : State) (n dst etype : Nat) (body : List Byte) : State :=
  s.sendFrame n (List.flatten [beBytes 6 dst, beBytes 6 (s.rdW (F.LANE_MAC n)), s.laneTags n, beBytes 2 etype, body])

/-- Send a Kowin message in the lane's encapsulation (R219, R224). -/
def State.sendKowin (s : State) (n : Nat) (m : List Byte) : State :=
  let mac := s.peerMac n
  let src := ipBytes (s.localIp n)
  let dst := ipBytes (s.peerIp n)
  match s.rd (F.LANE_CFG.ENCAP n) with
  | 0 => s.sendEthernet n mac (s.rd F.KOWIN_CFG.ETHERTYPE) m
  | 1 =>
    let r := s.ipv4 17 (src.take 4) (dst.take 4) (s.udp (src.take 4) (dst.take 4) m)
    r.2.sendEthernet n mac 0x0800 r.1
  | _ =>
    let r := s.ipv6 17 none src dst (s.udp src dst m)
    r.2.sendEthernet n mac 0x86DD r.1

end Sys2Proof.Machine
end

