-- ==== Sys2Proof/Machine/Kowin.lean ====
section
/-! DEFINITION. Kowin on a lane: bring-up (R221–R223), what a lane accepts (R226, R228, R231, R298), the endpoint messages
(R232–R241, R244), relaying at a worker (R299), sending (R224, R234) and ECHO (R239). -/

namespace Sys2Proof.Machine

/-! ## Lane states (R221) -/

/-- A GRANT part, an inner message or anything else that will not leave (R222, R300). -/
def State.dropTx (s : State) (n : Nat) (x : TxMsg) : State :=
  if x.raw.isSome then (s.bump F.RELAY_DROP_CNT).raise Src.HIER.RELAY_DROP
  else if x.grant.isSome then s.dropGrant n
  else s

/-- Empty a lane's transmit queue. -/
def State.dropQueue (s : State) (n : Nat) : State :=
  let q := (s.lane n).txq
  q.foldl (fun s x => s.dropTx n x) (s.setLane n { s.lane n with txq := [] })

/-- Back to WAIT (R307, R308): both banks IDLE, nothing composes. -/
def State.enterWait (s : State) (cause : Nat) : State :=
  let s1 := ((s.wr F.TWIN_STATUS.STATE 1).wr F.TWIN_STATUS.WAIT_CAUSE cause).wr F.TWIN_STATUS.PHASE 0
  let s2 := ((s1.setBank 0 0).setBank 1 0).wr F.COMP_STATUS.PHASE 0
  { s2 with
    comp := { s2.comp with composing := none }
    plane := { s2.plane with pins := none, nextPins := none }
    hier := { s2.hier with join := none, serve := none, ownEnd := none, twinEnd := none } }

/-- Report a failed resynchronisation (R315). -/
def State.resyncReport (s : State) (cause : Nat) : State :=
  ((s.wr F.TWIN_STATUS.FAIL_CAUSE cause).bump F.RESYNC_FAILS).raise Src.HIER.RESYNC_FAIL

/-- A failure at the joiner (R315): FAIL to the peer, WAIT. -/
def State.joinFails (s : State) (cause : Nat) : State :=
  let fc := (s.hier.join.bind fun j => j.frame).getD 0
  ((s.toTwin 0x25 (resyncBytes ⟨3, cause, fc⟩)).resyncReport cause).enterWait 2

/-- What TWIN_LANE leaving UP does (R308, R315); the lane's state has already changed. -/
def State.twinLaneLost (s : State) : State :=
  let s1 := if s.hier.serve.isSome
    then { s with hier := { s.hier with serve := none } }.resyncReport 5 else s
  if s1.twin = 4 then
    ({ (s1.wr F.TWIN_STATUS.STATE 2) with
      hier := { s1.hier with ownEnd := none, twinEnd := none } }).raise Src.HIER.PEER_LOST
  else if s1.twin = 3 then s1.joinFails 5
  else s1

/-- A lane goes to PCS_DOWN (0) or HELLO_WAIT (1); a move out of UP is reported (R221). -/
def State.laneTo (s : State) (n st : Nat) : State :=
  let up := s.laneIsUp n
  let s1 := (s.wr (F.LANE_STATUS.STATE n) st).setFlag (F.LANE_STATUS.PEER_SEEN n) false
  let s2 := s1.setLane n { s1.lane n with sentSeen := false, gotSeen := false }
  if !up then s2
  else
    let s3 := (s2.dropQueue n).raise Src.KOWIN.LANE_DOWN
    let s4 := if s.isTier n then s3.raise Src.HIER.TIER_DOWN else s3
    if s.isTwinLane n then s4.twinLaneLost else s4

/-- The device's STATUS HEALTH goes to an endpoint; the spec gives its layout and not its time (R238, log 24). -/
def State.tellHealth (s : State) (n : Nat) : State := if s.isCard n && s.laneIsUp n then s.sendLocal n 9 [] else s

/-- Both sides have sent HELLO with PEER_SEEN = 1: UP, with the sequence and credit of R228 and R231. -/
def State.laneUpIfReady (s : State) (n : Nat) : State :=
  let l := s.lane n
  if l.sentSeen && l.gotSeen && s.rd (F.LANE_STATUS.STATE n) == 1 then
    let s1 := (s.wr (F.LANE_STATUS.STATE n) 2).wr (F.RX_SEQ.SEQ n) ((l.nextSeq + 2 ^ 32 - 1) % 2 ^ 32)
    let s2 := (s1.wr (F.CREDIT.LIMIT n) (s1.rd F.CREDIT_CFG.INIT_CREDIT)).wr (F.CREDIT.USED n) 0
    (s2.setLane n { s2.lane n with sent := 0, peerCredit := 0 }).tellHealth n
  else s

/-- PCS locked, and FEC where configured, for 1 ms. Lanes leave PCS_DOWN only in SERVING (R329). -/
def State.pcsLock (s : State) (n : Nat) : State :=
  let s1 := (s.setFlag (F.LANE_STATUS.PCS_LOCK n) true).setFlag (F.LANE_STATUS.FEC_LOCK n) (s.rd (F.LANE_CFG.FEC n) != 0)
  if s.laneOn n && s.start == 4 && s.rd (F.LANE_STATUS.STATE n) == 0 then s1.laneTo n 1 else s1

def State.pcsLoss (s : State) (n : Nat) : State :=
  ((s.setFlag (F.LANE_STATUS.PCS_LOCK n) false).setFlag (F.LANE_STATUS.FEC_LOCK n) false).laneTo n 0

def execPcsLock (n : Fin 64) (s : State) : Host.Outcome State Fault Refusal := .next (s.onMain fun s => s.pcsLock n)
def execPcsLoss (n : Fin 64) (s : State) : Host.Outcome State Fault Refusal := .next (s.onMain fun s => s.pcsLoss n)

/-- KEEPALIVE has passed: in HELLO_WAIT, and in UP where nothing was sent, a HELLO or TIER_HELLO goes (R221, R296). -/
def State.keepalive (s : State) (n : Nat) : State :=
  if s.rd (F.LANE_STATUS.STATE n) = 0 then s else s.sendLocal n (if s.isTier n then 0x20 else 1) []

def execKeepaliveExpiry (n : Fin 64) (s : State) : Host.Outcome State Fault Refusal :=
  .next (s.onMain fun s => s.keepalive n)

def execPeerSilenceExpiry (n : Fin 64) (s : State) : Host.Outcome State Fault Refusal :=
  .next (s.onMain fun s => if s.laneIsUp n then s.laneTo n 1 else s)

/-! ## What a lane accepts -/

/-- A message counted as malformed (R225, R255). -/
def State.malformed (s : State) (n : Nat) : State :=
  ((s.bump (F.LANE_MALFORMED n)).bump F.MALFORMED_CNT).raise Src.PARSER.MALFORMED

/-- A message of a type, or in a direction, that is not allowed (R226, R297, R301). -/
def State.unknownType (s : State) : State := (s.bump F.UNKNOWN_CNT).raise Src.KOWIN.UNKNOWN_TYPE

def State.countAccepted (s : State) (n : Nat) : State := (s.bump F.MSG_RX).bump (F.RX_MSG n)

/-- `a` is newer than `b` (R9, R228). -/
def newer (a b : Nat) : Bool :=
  let d := (a + 2 ^ 32 - b % 2 ^ 32) % 2 ^ 32
  decide (1 ≤ d) && decide (d < 2 ^ 31)

/-- HELLO, ECHO and TIER_HELLO are outside the sequence and the credits of a lane that is not yet UP (R228, R231, R298). -/
def isHello (type : Nat) : Bool := type == 1 || type == 0x20
def consumesCredit (type : Nat) : Bool := !(isHello type || type == 0x0A)

/-- The types a lane takes from its peer (R226, R297); `dir` is a RELAY's DIR. -/
def State.typeAllowed (s : State) (n type dir : Nat) : Bool :=
  if s.isCard n then [1, 2, 4, 7, 9, 0x0A].contains type
  else if !s.isManager then [0x20, 0x0A, 0x21, 0x22, 0x23, 0x24].contains type || (type == 0x0B && dir == 1)
  else if s.isTwinLane n then [0x20, 0x0A, 0x22, 0x24, 0x25, 0x26].contains type || (type == 0x0B && dir == 0)
  else [0x20, 0x0A].contains type || (type == 0x0B && dir == 0)

/-- The message's SEQ against the last one accepted, held by `f` (R228): a duplicate is dropped, a gap counted. -/
def State.sequence (s : State) (n : Nat) (f : Field) (seq : Nat) (dup ok : State → State) : State :=
  let last := s.rd f
  if newer seq last then
    let gap := (seq + 2 ^ 32 - last - 1) % 2 ^ 32
    let s1 := s.wr f seq
    ok (if gap = 0 then s1 else (s1.bumpBy (F.GAP_CNT n) gap).raise Src.KOWIN.SEQ_GAP)
  else dup ((s.bump (F.DUP_CNT n)).raise Src.KOWIN.DUPLICATE)

/-- A message the peer may still send under its credit (R231). -/
def State.creditLeft (s : State) (n : Nat) : Bool :=
  let d := (s.rd (F.CREDIT.LIMIT n) + 65536 - s.rd (F.CREDIT.USED n)) % 65536
  decide (1 ≤ d) && decide (d ≤ 32767)

/-- A tier lane in UP takes the peer's cumulative credit from every message it receives (R230, R231, R298). -/
def State.noteCredit (s : State) (n : Nat) (h : KHeader) : State :=
  if s.isTier n && s.laneIsUp n && h.crcOk then s.setLane n { s.lane n with peerCredit := h.credit } else s

/-- A message of the peer arrives: discarded with its report, a malformed one while the lane is in PCS_DOWN too, or accepted and
passed to `act`. Its credit is counted (R231), and returned where it is discarded within the limit; what `act` does with an
accepted one includes returning its credit. -/
def State.acceptMsg (s : State) (n : Nat) (h : KHeader) (dir : Nat) (act : State → State) : State :=
  let st := s.rd (F.LANE_STATUS.STATE n)
  let counts := st == 2 && consumesCredit h.type
  let within := s.creditLeft n
  let s0 := s.noteCredit n h
  let s1 := if counts then s0.wr (F.CREDIT.USED n) ((s.rd (F.CREDIT.USED n) + 1) % 65536) else s0
  let back (s : State) : State := if counts && within then s.giveCredit n else s
  let seen (s : State) : State :=
    if !counts || within then act (s.countAccepted n)
    else (s.bump (F.CREDIT_VIOL_CNT n)).raise Src.KOWIN.CREDIT_VIOLATION
  if st = 0 then (if h.crcOk then s else s.malformed n)
  else if !h.crcOk then back (s1.malformed n)
  else if !s.typeAllowed n h.type dir then back s1.unknownType
  else if st = 1 then (if consumesCredit h.type then s1 else seen s1)
  else if h.type = 1 ∨ h.type = 0x0B ∨ (s.isCard n ∧ h.type = 0x0A) then seen s1
  else s1.sequence n (F.RX_SEQ.SEQ n) h.seq back seen


/-! ## HELLO (R221, R232) -/

def State.takeHello (s : State) (n : Nat) (p : EpHello) : State :=
  let s1 := ((s.setFlag (F.LANE_STATUS.PEER_SEEN n) true).wrW (F.PEER_MAC n) p.mac).wrW (F.PEER_ID n) p.epId
  let s2 := (List.range 4).foldl (fun s j => s.wr (F.PEER_IP.ADDR n j) (p.ip.getD j 0).toNat) s1
  let l := s2.lane n
  (s2.setLane n { l with nextSeq := p.nextSeq, gotSeen := l.gotSeen || p.peerSeen }).laneUpIfReady n

/-- A HELLO of another version is discarded before it is accepted (R221). -/
def State.serveHello (s : State) (n : Nat) (h : KHeader) (p : EpHello) : State :=
  if h.crcOk && s.typeAllowed n 1 0 && p.version != 1 then
    if s.rd (F.LANE_STATUS.STATE n) = 0 then s else s.raise Src.KOWIN.VERSION_MISMATCH
  else s.acceptMsg n { h with type := 1 } 0 fun s => s.takeHello n p

def execHello (n : Fin 64) (h : KHeader) (p : EpHello) (s : State) : Host.Outcome State Fault Refusal :=
  .next (s.onMain fun s => s.serveHello n h p)

/-! ## Relaying at a worker (R299) -/

/-- Relay an accepted message of card lane `n`, received at `rx`, on every manager lane whose mask names it. -/
def State.relayUp (s : State) (n rx : Nat) (m : List Byte) : State :=
  let lanes := s.managerLanes.filter fun k => (s.rdW (F.RELAY k)).testBit n
  let h := headerOf m
  if lanes.isEmpty then (s.bump F.RELAY_DROP_CNT).raise Src.HIER.RELAY_DROP
  else lanes.foldl (fun s k => (s.queueTx k
    ⟨0x0B, h.seq, h.sys, false, none, relayBytes ⟨s.unitId, n, 0, stampOf rx, m⟩, none⟩)) s

/-! ## DEMAND, SETUP, RELEASE, STATUS

The endpoint operations below serve a message of endpoint `a` once R228 has accepted it: on the endpoint's own card lane
(`card`) or relayed. `rx` is its receive timestamp. -/

def State.circuitOpOk (s : State) (lane rx : Nat) (op : CircuitOp) : Nat :=
  let owns (e i : Nat) : Bool := decide (i < 512) && s.inOwner i == some e
  let ownsOut (e j : Nat) : Bool := decide (j < 512) && s.outOwner j == some e
  let portsBad : Bool := match op with
    | .setup p => !(owns lane p.inPort && ownsOut p.peer p.outPort &&
        (!p.bidir || (owns p.peer p.revIn && ownsOut lane p.revOut)))
    | .release _ => false
  let b := s.opBoundary ⟨lane, 0, 0, op⟩
  if op.isSetup && s.planeMode == 1 then 1
  else if portsBad then 4
  else if rx + 10000 < op.issued then 8
  else if s.boundaryTime b < s.now ∨ s.plane.lastSlot == some (b / s.slots, b % s.slots) then 2
  else 0

/-- Operations accepted and not yet applied (R244). -/
def State.openOps (s : State) : List StandOp :=
  s.plane.ops ++ s.plane.replay ++ (s.plane.cuts ++ s.plane.updates).flatMap fun u => u.ops

/-- The agent of an operation (R241): a RELEASE's circuit is found by OWNER and CIRCUIT_ID. -/
def State.agentFor (s : State) (lane : Nat) (op : CircuitOp) : Nat :=
  match op with
  | .setup p => agentOf lane p.peer
  | .release p =>
    match s.heldCtxs.find? fun e => e.2.owner == p.owner && e.2.id == p.id with
    | some e => e.2.agent
    | none =>
      match (s.plane.ops ++ s.plane.replay).find? fun x => x.op.isSetup && x.lane == p.owner && x.op.id == p.id with
      | some x => x.agent
      | none => agentOf p.owner lane

/-- The context is one of the circuit that a SETUP asked for. -/
def State.madeBy (s : State) (p : SetupMsg) (x : Ctx) : Bool :=
  let y := s.ctx x.partner
  x.state == 2 && x.id == p.id && x.dst == p.peer && x.bidir == p.bidir && x.inPort == p.inPort && x.outPort == p.outPort &&
    (!p.bidir || (y.inPort == p.revIn && y.outPort == p.revOut))

/-- The answer to an operation whose circuit a checkpoint brought: the image does not carry the answer, so its boundary is that
of S where S lit the circuit, else a free value, as a release's REF_SEQ is (log 22). -/
def State.answerAgain (s : State) (lane : Nat) (op : CircuitOp) (x : Ctx) (n : Nat) : Answer :=
  let draw (k : Nat) : Nat := (Config.freeValue (s.free + k)).toNat
  let known := op.isSetup && s.standing.seq == x.standSeq
  { answerOf ⟨lane, if op.isSetup then x.setupSeq else draw 2 % 2 ^ 32, x.agent, op⟩ true 0 with
    frame := if known then s.standing.frame else draw 0
    slot := if known then s.standing.applySlot else draw 1 % 256
    ctx := some n }

/-- A RETRY that matches (R244): nothing where the answer is still to come, else the original answer. -/
def State.retryOf (s : State) (lane : Nat) (op : CircuitOp) : Option (Option Answer) :=
  if s.openOps.any fun x => x.lane == lane && x.op.same op then some none
  else
    let kept := s.plane.ctxs.flatMap fun e => e.2.answers.filter fun a => a.lane == lane && a.op.same op
    match kept.getLast? with
    | some a => some (some a)
    | none =>
      let mine : List (Nat × Ctx) := match op with
        | .setup p => s.heldCtxs.filter fun e => e.2.owner == lane && e.2.src == lane && s.madeBy p e.2
        | .release p => s.plane.ctxs.filter fun e => e.2.state == 0 && e.2.answers.isEmpty && e.2.owner == p.owner &&
            e.2.id == p.id && (e.2.src == lane || e.2.dst == lane)
      mine.head?.map fun e => some (s.answerAgain lane op e.2 e.1)

/-- A SETUP or RELEASE at its agent (R241, R244). -/
def State.takeOp (s : State) (a seq : Nat) (retry : Bool) (rx : Nat) (op : CircuitOp) : State :=
  let o : StandOp := ⟨a, seq, s.agentFor a op, op⟩
  let fresh (s : State) : State :=
    match s.circuitOpOk a rx op with
    | 0 => s.setPlane { s.plane with ops := s.plane.ops ++ [o] }
    | cause => s.queueAnswer (answerOf o false cause) (some s.nextBoundary)
  if !retry then fresh s
  else
    match s.retryOf a op with
    | none => fresh s
    | some none => s
    | some (some ans) => { s with free := s.free + 3 }.queueAnswer ans (some s.nextBoundary)

/-- STATUS (R238). -/
def State.takeStatus (s : State) (a : Nat) (p : StatusMsg) : State :=
  if p.code = 0 then s.wr (F.PEER_STATUS.WORD a) p.word
  else if p.code = 1 then (s.bump F.DIVERGENCE_CNT).raise Src.KOWIN.DIVERGENCE
  else s

/-- An accepted message while JOINING takes room in the log, at most LOG_KIB (R314, R315). -/
def State.logItem (s : State) (bytes : Nat) : State :=
  match s.hier.join with
  | none => s
  | some j =>
    if 1024 * s.rd F.RESYNC_CFG.LOG_KIB < j.logBytes + bytes then s.joinFails 8
    else { s with hier := { s.hier with join := some { j with logBytes := j.logBytes + bytes } } }

/-- The bytes of a log entry: the message and its receive time (R314). -/
def logSize (m : List Byte) : Nat := m.length + 12

/-- An endpoint's message on its own card lane: a worker in FOLLOW relays it (R299), any other unit serves it. -/
def State.fromCard (s : State) (n rx : Nat) (m : List Byte) (serve : State → State) : State :=
  if s.follows then (s.relayUp n rx m).giveCredit n else serve s

/-- DEMAND of endpoint `a`, accepted. -/
def State.takeDemand (s : State) (a : Nat) (card : Bool) (h : KHeader) (rx : Nat) (m : List Byte) (p : DemandMsg) : State :=
  (s.intakeDemand a card h.seq rx p).logItem (logSize m)

/-- A circuit operation of endpoint `a`, accepted. -/
def State.takeCircuit (s : State) (a : Nat) (h : KHeader) (rx : Nat) (m : List Byte) (op : CircuitOp) : State :=
  (s.takeOp a h.seq h.retry rx op).logItem (logSize m)

/-- A DEMAND whose ENTRIES does not match its LENGTH (R233). -/
def demandBad (h : KHeader) (p : DemandMsg) : Bool := !(h.length == 32 + 4 * p.number && p.entries.length == p.number)

def State.serveDemand (s : State) (n : Nat) (h : KHeader) (rx : Nat) (m : List Byte) (p : DemandMsg) : State :=
  s.acceptMsg n { h with type := 2, crcOk := h.crcOk && !demandBad h p } 0 fun s =>
    s.fromCard n rx m fun s => s.takeDemand n true h rx m p

def State.serveOp (s : State) (n : Nat) (h : KHeader) (rx : Nat) (m : List Byte) (op : CircuitOp) : State :=
  s.acceptMsg n { h with type := if op.isSetup then 4 else 7 } 0 fun s =>
    s.fromCard n rx m fun s => (s.takeCircuit n h rx m op).giveCredit n

def State.serveStatus (s : State) (n : Nat) (h : KHeader) (rx : Nat) (m : List Byte) (p : StatusMsg) : State :=
  s.acceptMsg n { h with type := 9 } 0 fun s => (s.takeStatus n p).fromCard n rx m fun s => s.giveCredit n

def execDemand (n : Fin 64) (h : KHeader) (p : DemandMsg) (s : State) : Host.Outcome State Fault Refusal :=
  .next (s.onMain fun s => s.serveDemand n h s.now (messageBytes 2 h (demandBytes p)) p)

def execSetup (n : Fin 64) (h : KHeader) (p : SetupMsg) (s : State) : Host.Outcome State Fault Refusal :=
  .next (s.onMain fun s => s.serveOp n h s.now (messageBytes 4 h (setupBytes p)) (.setup p))

def execRelease (n : Fin 64) (h : KHeader) (p : ReleaseMsg) (s : State) : Host.Outcome State Fault Refusal :=
  .next (s.onMain fun s => s.serveOp n h s.now (messageBytes 7 h (releaseBytes p)) (.release p))

def execStatus (n : Fin 64) (h : KHeader) (p : StatusMsg) (s : State) : Host.Outcome State Fault Refusal :=
  .next (s.onMain fun s => s.serveStatus n h s.now (messageBytes 9 h (statusBytes p)) p)

/-! ## ECHO (R239, R296) -/

/-- Send an ECHO request; its token is the device's choice. -/
def State.askEcho (s : State) (n : Nat) (host : Bool) : State :=
  let r := s.freshValue
  let token := r.1.toNat % 2 ^ 32
  let l := r.2.lane n
  (r.2.setLane n { l with echo := l.echo ++ [⟨token, host⟩] }).sendLocal n 0x0A
    (echoBytes ⟨0, token, ⟨0, 0⟩, ⟨0, 0⟩, ⟨0, 0⟩⟩)

/-- What an ECHO reply measures: round trip, and peer minus own in half-nanosecond steps (R246, R296). -/
def echoTrip (p : EchoMsg) (t4 : Nat) : Int :=
  ((t4 : Int) - stampNs p.t1) - ((stampNs p.t3 : Int) - stampNs p.t2)
def echoSkew (p : EchoMsg) (t4 : Nat) : Int :=
  ((stampNs p.t2 : Int) - stampNs p.t1) - ((t4 : Int) - stampNs p.t3)

/-- A tier lane records each reply (R296). -/
def State.tierEcho (s : State) (n : Nat) (p : EchoMsg) (t4 : Nat) : State :=
  let off := roundEvenDiv (echoSkew p t4) 2
  let rtt := echoTrip p t4
  let s1 := (s.wrS (F.TIME_OFFSET.NS n) (satS (F.TIME_OFFSET.NS n).width off)).wrS (F.RTT.RTT_NS n)
    (satS (F.RTT.RTT_NS n).width rtt)
  let s2 := if (s.rd F.TIER_CFG.TIME_TOL_NS : Int) < off.natAbs then s1.raise Src.HIER.TIME_SKEW else s1
  if 2 * (1000 * (s.rd F.TIER_CFG.TWIN_LEAD_US : Int) - 1000) < rtt then s2.raise Src.HIER.LEAD_SHORT else s2

/-- An ECHO received at `rx`: a request is answered, a reply to a request of the device's is recorded. -/
def State.takeEcho (s : State) (n rx : Nat) (p : EchoMsg) : State :=
  if p.op = 0 then s.sendLocal n 0x0A (echoBytes { p with op := 1, t2 := stampOf rx, t3 := ⟨0, 0⟩ })
  else
    match (s.lane n).echo.find? fun e => e.token == p.token with
    | none => s
    | some e =>
      let s1 := s.setLane n { s.lane n with echo := (s.lane n).echo.erase e }
      let s2 := if s.isTier n then s1.tierEcho n p rx else s1
      if e.host then
        (s2.wrS F.ECHO_RESULT.RTT_NS (satS F.ECHO_RESULT.RTT_NS.width (echoTrip p rx))).setEvent F.ECHO_RESULT.DONE
      else s2

def State.serveEcho (s : State) (n : Nat) (h : KHeader) (rx : Nat) (p : EchoMsg) : State :=
  s.acceptMsg n { h with type := 0x0A } 0 fun s => s.takeEcho n rx p

def execEcho (n : Fin 64) (h : KHeader) (p : EchoMsg) (s : State) : Host.Outcome State Fault Refusal :=
  .next (s.onMain fun s => s.serveEcho n h s.now p)

def State.echoCmd (s : State) (n : Nat) : State := if s.laneIsUp n then s.askEcho n true else s

def execEchoCmd (m : Master) (n : Fin 64) (s : State) : Host.Outcome State Fault Refusal :=
  .next (s.gate m F.ECHO_CMD.GO.addr fun s => s.echoCmd n)

/-- 1 ms has passed since the lane's oldest request was sent. -/
def State.echoTimeout (s : State) (n : Nat) : State :=
  let l := s.lane n
  match l.echo with
  | [] => s
  | e :: rest =>
    let s1 := s.setLane n { l with echo := rest }
    (if e.host then s1.setEvent F.ECHO_RESULT.TIMEOUT else s1).raise Src.KOWIN.ECHO_TIMEOUT

def execEchoTimeout (n : Fin 64) (s : State) : Host.Outcome State Fault Refusal :=
  .next (s.onMain fun s => s.echoTimeout n)

def execTierEchoTimer (n : Fin 64) (s : State) : Host.Outcome State Fault Refusal :=
  .next (s.onMain fun s => if s.isTier n && s.laneIsUp n then s.askEcho n false else s)

/-! ## Sending -/

/-- The ANSWER_US bound of R188 in nanoseconds; R188 gives none for SLOT mode. -/
def State.answerNs (s : State) : Option Nat :=
  let lag := 1000 * s.rd F.CIRCUIT_CFG.CUT_LAG_US
  let lead := 1000 * s.rd F.CIRCUIT_CFG.NOTICE_LEAD_US
  match s.planeMode with
  | 0 => some (lag + 2 * s.slotNs + 35000 + lead)
  | 2 => some (lag + s.slotNs + 35000 + max (2 * s.frameNs) (lead + s.frameNs))
  | _ => none

/-- NEXT_SYS_SEQ of HELLO (R232, R300). -/
def State.nextSys (s : State) (n : Nat) : Nat :=
  if s.follows then (match (s.lane n).forwarded with | some q => next32 q | none => 0) else s.rd (F.SYS_SEQ.SEQ n)

/-- A twin manager serves this endpoint (R232, R300). -/
def State.twinServes (s : State) : Bool :=
  if s.isManager then s.flag F.HIER_INFO.TWIN_EN
  else s.follows && (List.range 64).any fun k => s.isTier k && (s.lane k).peerTwin

/-- The device's STATUS HEALTH (R238). -/
def State.healthPayload (s : State) : List Byte :=
  List.flatten [[0, 0, 0, 0, BitVec.ofNat 8 s.isManager.toNat, BitVec.ofNat 8 s.start], beBytes 2 s.claim,
    List.replicate 12 0]

/-- The device's HELLO (R232). ANSWER_US is open in SLOT mode. -/
def State.helloPayload (s : State) (n : Nat) : List Byte × State :=
  let free := s.freshValue
  let answer := match s.answerNs with | some t => (t + 999) / 1000 | none => free.1.toNat % 65536
  let flags := s.flag (F.LANE_STATUS.PEER_SEEN n) |>.toNat
  (List.flatten [[1, BitVec.ofNat 8 (flags + 2 * s.twinServes.toNat + 4 * s.rd F.CIRCUIT_CFG.REARRANGE),
      BitVec.ofNat 8 s.isManager.toNat, BitVec.ofNat 8 n], beBytes 4 (s.nextSys n), leBytes 4 (s.rd (F.DIGEST.WORD 0)),
    beBytes 4 s.slotNs, beBytes 2 (s.rd F.GUARD_CFG.GUARD_NS), beBytes 1 s.slots, beBytes 1 s.planeMode,
    beBytes 2 (s.rd F.COMP_CFG.DEMAND_CLOSE_US), beBytes 2 (s.rd F.CIRCUIT_CFG.NOTICE_LEAD_US),
    beBytes 2 (s.rd F.TIMERS.PAIR_WIN_US), beBytes 2 answer, beBytes 2 (s.ownedIns n).length,
    beBytes 2 (s.ownedOuts n).length],
    match s.answerNs with | some _ => s | none => free.2)

/-- TIER_HELLO (R297), sent with SEQ `seq`. TWIN_LANE is set on every tier lane of a manager that has a twin: a worker reads it
on its manager lanes (R300, log 26). -/
def State.tierHelloPayload (s : State) (n seq : Nat) : List Byte :=
  List.flatten [[1, BitVec.ofNat 8 ((s.flag (F.LANE_STATUS.PEER_SEEN n)).toNat +
        2 * (s.isTwinLane n || (s.isManager && s.flag F.HIER_INFO.TWIN_EN)).toNat),
      BitVec.ofNat 8 s.isManager.toNat, BitVec.ofNat 8 s.unitId], beBytes 4 s.hier.sysTag,
    beBytes 4 (if s.isManager then s.hier.composeTag else 0), beBytes 2 s.claim, beBytes 1 s.twin,
    beBytes 1 (if s.isManager then 0 else s.rd F.FOLLOW_CFG.MODE), beBytes 2 (s.rd F.TWIN_STATUS.MATCH_RUN), [0, 0],
    beBytes 4 (next32 seq)]

/-- The payload a message leaves with: that of a HELLO or a STATUS HEALTH is formed, an ECHO's transmit time filled in (R239), at
`t`. -/
def State.finalPayload (s : State) (n seq t : Nat) (x : TxMsg) : List Byte × State :=
  match x.type with
  | 1 => s.helloPayload n
  | 0x20 => (s.tierHelloPayload n seq, s)
  | 9 => (s.healthPayload, s)
  | 0x0A =>
    match echoOf x.payload with
    | some p => (echoBytes (if p.op = 0 then { p with t1 := stampOf t } else { p with t3 := stampOf t }), s)
    | none => (x.payload, s)
  | _ => (x.payload, s)

/-- The lane may send the message now: HELLO and ECHO from HELLO_WAIT on, the rest in UP, and within the peer's credit on a tier
lane (R221, R298). -/
def State.maySend (s : State) (n : Nat) (x : TxMsg) : Bool :=
  let l := s.lane n
  let d := (l.peerCredit + 65536 - l.sent) % 65536
  !consumesCredit x.type || !s.isTier n || (decide (1 ≤ d) && decide (d ≤ 32767))

/-- A message leaves the lane; its last bit does so `ns` from now. -/
def State.sendMsg (s : State) (n : Nat) (x : TxMsg) : State :=
  let isLocal := !x.sys && x.type != 0x0B
  let seq := if isLocal then s.rd (F.LOCAL_SEQ.SEQ n) else x.seq
  let s1 := if isLocal then s.wr (F.LOCAL_SEQ.SEQ n) (next32 seq) else s
  let p := s1.finalPayload n seq s.now x
  let s2 := p.2.sendKowin n (p.2.message n x.type seq x.sys x.retry p.1)
  let l := s2.lane n
  let s3 := s2.setLane n { l with
    sent := if consumesCredit x.type then (l.sent + 1) % 65536 else l.sent
    sentSeen := l.sentSeen || (isHello x.type && s1.flag (F.LANE_STATUS.PEER_SEEN n)) }
  s3.laneUpIfReady n

/-- An inner message leaves a worker's card lane unchanged (R300). -/
def State.sendInner (s : State) (n : Nat) (m : List Byte) : State :=
  let s1 := (s.sendKowin n m).bump F.RELAYED_DOWN
  s1.setLane n { s1.lane n with forwarded := some (headerOf m).seq }

/-- MESSAGE_TRANSMIT: the first message that may leave does so; a GRANT part whose last bit, `ns` from now, is not before its
frame is dropped (R32, R234, R300). -/
def State.transmitNext (s : State) (n ns : Nat) : State :=
  let l := s.lane n
  if s.rd (F.LANE_STATUS.STATE n) = 0 then s.dropQueue n
  else
    match l.txq.find? fun x => s.maySend n x with
    | none => s
    | some x =>
      let s1 := s.setLane n { l with txq := l.txq.erase x }
      let late := match x.grant with | some f => decide (s.frameStart f ≤ s.now + ns) | none => false
      if late || (consumesCredit x.type && !s.laneIsUp n) then s1.dropTx n x
      else
        let s2 := match x.raw with | some m => s1.sendInner n m | none => s1.sendMsg n x
        let s3 := if x.type = 0x0B ∧ s.isManager = false then s2.bump F.RELAYED_UP else s2
        (s3.bump F.MSG_TX).bump (F.TX_MSG n)

def execMessageTransmit (n : Fin 64) (ns : Nat) (s : State) : Host.Outcome State Fault Refusal :=
  .next (s.onMain fun s => s.transmitNext n ns)

/-! ## Context snapshots (R248) -/

def State.snapContext (s : State) (n : Nat) : State :=
  ((List.range 8).zip (s.ctx n).snapshot).foldl (fun s x => s.setWord (F.CTX_DATA.WORD x.1).addr x.2)
    (s.wr F.CTX_SEL.INDEX n)

def execCtxSelWrite (m : Master) (n : Fin 8192) (s : State) : Host.Outcome State Fault Refusal :=
  .next (s.gate m F.CTX_SEL.INDEX.addr fun s => s.snapContext n)

end Sys2Proof.Machine
end

