-- ==== Sys2Proof/Machine/Law.lean ====
section
/-! DEFINITION. The control law (R115–R132, R144–R146) and supervision (R154–R158) of one record, as the list of effects an
update has once its frame's CRC has checked (R123). All arithmetic is exact on integers; rounding and saturation stand where
the pseudocode writes them (R8). -/

namespace Sys2Proof.Machine

/-- Several lists of effects, one after the other. -/
def allOf (ess : List (List LoopEffect)) : List LoopEffect := ess.flatten

/-! ## The record's configuration -/

/-- The configuration words of a loop record (R136). -/
structure LoopCfg where
  op : Nat × Nat
  sp : Nat × Nat
  ditherAmp : Nat
  hstepMax : Nat
  kpM : Nat
  kiM : Nat
  krM : Nat
  khM : Nat
  kpSh : Int
  kiSh : Int
  krSh : Int
  khSh : Int
  eshift : Nat
  fshift : Nat
  law : Nat
  sign : Bool
  heartEn : Bool
  repEn : Bool
  dstate : Nat
  codeMin : Nat
  codeMax : Nat
  ilim : Nat
  rlim : Nat
  hcodeMin : Nat
  hcodeMax : Nat
  normA : Nat
  normB : Nat
  gh : Nat

/-- The address of word `n` of a loop's record. -/
def loopWordAddr (l n : Nat) : Nat := 0x800000 + 64 * (l % 4864) + 4 * (n % 16)

/-- The configuration that the words named by `word` spell (R136); `word n` is the word at +4n. -/
def loopCfgOf (word : Nat → Word) : LoopCfg where
  op := (bitsOf (word 0) 0 16, bitsOf (word 0) 16 16)
  sp := (bitsOf (word 1) 0 24, bitsOf (word 2) 0 24)
  ditherAmp := bitsOf (word 1) 24 8
  hstepMax := bitsOf (word 2) 24 8
  kpM := bitsOf (word 3) 0 16
  kiM := bitsOf (word 3) 16 16
  krM := bitsOf (word 4) 0 16
  khM := bitsOf (word 4) 16 16
  kpSh := signed 4 (bitsOf (word 5) 0 4)
  kiSh := signed 4 (bitsOf (word 5) 4 4)
  krSh := signed 4 (bitsOf (word 5) 8 4)
  khSh := signed 4 (bitsOf (word 5) 12 4)
  eshift := bitsOf (word 5) 16 4
  fshift := bitsOf (word 5) 20 4
  law := bitsOf (word 5) 24 2
  sign := (word 5).getLsbD 26
  heartEn := (word 5).getLsbD 27
  repEn := (word 5).getLsbD 28
  dstate := bitsOf (word 5) 29 1
  codeMin := bitsOf (word 6) 0 16
  codeMax := bitsOf (word 6) 16 16
  ilim := bitsOf (word 7) 0 15
  rlim := bitsOf (word 7) 16 15
  hcodeMin := bitsOf (word 8) 0 16
  hcodeMax := bitsOf (word 8) 16 16
  normA := bitsOf (word 9) 0 16
  normB := bitsOf (word 9) 16 16
  gh := (word 10).toNat

/-- The configuration in force, and the one in force once the pending words have taken effect (R134). -/
def State.loopCfg (s : State) (l : Nat) : LoopCfg := loopCfgOf fun n => s.word (loopWordAddr l n)
def State.loopCfgNext (s : State) (l : Nat) : LoopCfg := loopCfgOf fun n => s.lvWord (loopWordAddr l n)

/-- The pending configuration words of a loop. -/
def State.loopPending (s : State) (l : Nat) : List (Nat × Word) :=
  s.lv.filter fun e => decide (loopWordAddr l 0 ≤ e.1) && decide (e.1 < loopWordAddr l 11)

/-- CHK over the configuration words that `word` names (R137). -/
def loopChk (word : Nat → Word) : Word := crc32 ((List.range 11).flatMap fun n => leBytes 4 (word n).toNat)

/-- The value of state `s` in a pair indexed by state. -/
def atState {α : Type} (p : α × α) (s : Nat) : α := if s = 0 then p.1 else p.2

def setState {α : Type} (p : α × α) (s : Nat) (v : α) : α × α := if s = 0 then (v, p.2) else (p.1, v)

/-- The limit of an integrator, in 2^-16 codes. -/
def iClamp (c : LoopCfg) (v : Int) : Int :=
  let top : Int := c.ilim * 2 ^ 16
  if v < -top then -top else if top < v then top else v

/-- sat(v, lo, hi) of the pseudocode. -/
def clampInt (lo hi v : Int) : Int := if v < lo then lo else if hi < v then hi else v

/-! ## The front end (R116, R119, R120, R129) -/

/-- FS[r] (R119). -/
def fullScale (r : Nat) : Nat := 8 ^ min r 2 * (if r = 3 then 4 else 1)

/-- What the arithmetic front end makes of a record. -/
structure Front where
  ia : Nat
  ib : Nat
  pa : Nat
  pb : Nat
  clipped : Bool
  noProbe : Bool

/-- den of R120. -/
def Front.den (f : Front) : Nat := f.pa + f.pb

/-- The front end of R120, or under TRIM that of R129. -/
def frontEnd (c : LoopCfg) (denMin : Nat) (r : Record) : Front :=
  let ia := r.a * fullScale r.rngA
  let ib := r.b * fullScale r.rngB
  let trim := c.law == 2
  { ia := ia, ib := ib, pa := ia * c.normA, pb := ib * c.normB
    clipped := (!trim && r.a == 0xFFFF) || r.b == 0xFFFF
    noProbe := if trim then r.probe == 0 else decide (ia * c.normA + ib * c.normB < denMin * 256) }

/-- λ of state `sel`, 0.24 (R116, R120), saturated to its format (R8). With den = 0, which DEN_MIN = 0 allows, the spec
defines no λ: a free value. -/
def lambda (s : State) (f : Front) (sel : Nat) : Nat :=
  if f.den = 0 then (Config.freeValue s.free).toNat % 2 ^ 24
  else satU 24 (roundEvenDiv ((if sel = 0 then f.pb else f.pa) * 2 ^ 24 : Nat) f.den)

/-- y of R129, unsigned 8.16, saturated to its format (R8). -/
def trimY (c : LoopCfg) (f : Front) (r : Record) : Nat :=
  satU 24 (roundEvenDiv (f.ib * (c.normA + 65536 * c.normB) * 2 ^ 16 : Nat) r.probe)

/-! ## Supervision (R154–R157) -/

/-- No-probe counting (R154). TRIM forms no den, and a CLIPPED record is neither: both are the model's choice (log 71). -/
def superviseProbe (s : State) (l : Nat) (f : Front) (trim : Bool) (denMin : Nat) (x : LoopMem) :
    LoopMem × List LoopEffect :=
  let c := loopCourse l
  let stat := F.LOOP_STAT.NO_PROBE c (loopIndex l)
  let enough := if trim then !f.noProbe else decide (denMin * 256 ≤ f.den)
  let clear := if enough && s.flag stat then [LoopEffect.put stat 0] else []
  if f.clipped || !f.noProbe then ({ x with npRun := 0 }, clear)
  else
    let run := x.npRun + 1
    ({ x with npRun := run },
      if reached run (s.rd (F.NP_CFG.NP_COUNT c)) (s.flag stat) then [.put stat 1, .raise (Src.COURSE.NO_PROBE c)] else [])

/-- The plausibility classes of R157: 0 plausible, 1 doubtful, 2 implausible. -/
def plausClass (s : State) (c den expected : Nat) : Nat × Bool :=
  let q := den * 2 ^ 30
  let loIn := s.rd (F.PL_BAND_IN.LO_IN c) * expected
  let hiIn := s.rd (F.PL_BAND_IN.HI_IN c) * expected
  let loOut := s.rd (F.PL_BAND_OUT.LO_OUT c) * expected
  let hiOut := s.rd (F.PL_BAND_OUT.HI_OUT c) * expected
  if loIn ≤ q ∧ q ≤ hiIn then (0, false)
  else if (loOut ≤ q ∧ q < loIn) ∨ (hiIn < q ∧ q ≤ hiOut) then (1, decide (hiIn < q))
  else (2, decide (hiOut < q))

/-- The plausibility model of a switching loop (R156, R157). -/
def supervisePlaus (s : State) (l : Nat) (f : Front) : List LoopEffect :=
  let c := loopCourse l
  let j := loopIndex l
  let est := s.rd (F.COURSE_PROBE_EST.EST c)
  if !s.flag (F.PL_CFG.PL_EN c) || est == 0 || (f.noProbe && !f.clipped) then []
  else
    let r := if f.clipped then (2, true) else plausClass s c f.den (est * s.rd (F.LOOP_PL.PL_SCALE c j))
    let old := s.rd (F.LOOP_PL.PL_CNT c j)
    let new := match r.1 with
      | 0 => old - 1
      | 1 => min 1023 (old + 1)
      | _ => min 1023 (old + 4)
    let top := s.rd (F.PL_CFG.PL_COUNT c)
    let dir := if r.1 = 0 then [] else [LoopEffect.put (F.LOOP_STAT.PL_DIR c j) r.2.toNat]
    let flag :=
      if old < top ∧ top ≤ new then
        [LoopEffect.put (F.LOOP_STAT.PLAUS c j) 1, LoopEffect.raise (Src.COURSE.PLAUSIBILITY c)]
      else if new = 0 ∧ s.flag (F.LOOP_STAT.PLAUS c j) = true then [LoopEffect.put (F.LOOP_STAT.PLAUS c j) 0]
      else []
    LoopEffect.put (F.LOOP_PL.PL_CNT c j) new :: dir ++ flag

/-- No-light detection of a trim loop's input tap (R155). -/
def superviseLight (s : State) (l : Nat) (r : Record) (x : LoopMem) : LoopMem × List LoopEffect :=
  let c := loopCourse l
  let j := loopIndex l
  let f : Field := ⟨(F.NO_LIGHT.DARK c (j / 32)).addr, j % 32, 1⟩
  let ia := r.a * fullScale r.rngA
  let low := s.rd (F.NL_CFG.NL_MIN c)
  let count := s.rd (F.NL_CFG.NL_COUNT c)
  let dark := if ia < low then x.darkRun + 1 else 0
  let bright := if 2 * low ≤ ia then x.brightRun + 1 else 0
  ({ x with darkRun := dark, brightRun := bright },
    if count ≤ dark ∧ 0 < dark ∧ s.flag f = false then [.put f 1, .raise (Src.COURSE.NO_LIGHT c)]
    else if count ≤ bright ∧ 0 < bright ∧ s.flag f = true then [.put f 0] else [])

/-! ## Timing of a code (R122) -/

/-- k_ahead(rec) (R122). Where no plane strobe is known before the sample the spec states no τ: a free value (log 13). -/
def State.kAhead (s : State) (r : Record) : Nat :=
  if s.planeMode = 0 then r.slot
  else
    let tau := match r.delta with
      | some d => 4 * d
      | none => (Config.freeValue (s.free + 1)).toNat
    let scan := if r.lowPower then 25600 else 6400
    (r.slot + (tau + 2 * scan) / s.slotNs) % s.slots

/-! ## The preset of an entry into AUTO (R145, R146) -/

/-- The repetitive entry of a loop as an update sees it: a reset that waits applies first (R147, R152). -/
def State.repEntry (s : State) (l st k : Nat) (reset : Nat) : Int :=
  if reset.testBit st then 0 else s.rdS (F.REP.ENTRY l st k)

/-- A state's integrator after its preset, and whether the preset was clamped. -/
def presetI (c : LoopCfg) (x : LoopMem) (sel : Nat) (r0 i : Int) (armed : Bool) : Int × Bool :=
  if armed then
    let want : Int := ((atState (x.last0, x.last1) sel : Int) - atState c.op sel - r0) * 2 ^ 16
    (iClamp c want, decide (iClamp c want ≠ want))
  else (i, false)

/-- What the preset changes besides the integrator: PRESET, and the report of a clamp (R146). -/
def presetEffects (s : State) (l sel : Nat) (armed clamped : Bool) : List LoopEffect :=
  let c := loopCourse l
  let j := loopIndex l
  let f := F.LOOP_STAT.PRESET c j
  (if armed then [LoopEffect.put f (s.rd f - 2 ^ sel)] else []) ++
    (if clamped then [.event (F.LOOP_STAT.PRESET_CLAMP c j), .raise (Src.COURSE.PRESET_CLAMP c)] else [])

/-- LIMIT (R158): the run of updates with OUT_LIMIT or I_LIMIT set, `hit` for this one, and its effects. -/
def superviseLimit (s : State) (l : Nat) (x : LoopMem) (hit : Bool) : Nat × List LoopEffect :=
  let c := loopCourse l
  let f := F.LOOP_STAT.LIMIT c (loopIndex l)
  if hit then
    (x.limitRun + 1,
      if reached (x.limitRun + 1) (s.rd (F.LIMIT_CFG.LIMIT_COUNT c)) (s.flag f) then
        [LoopEffect.put f 1, .raise (Src.COURSE.LIMIT c)]
      else [])
  else (0, [LoopEffect.put f 0])

/-! ## The heart loop (R126) -/

/-- What one update knows by the time it reaches heart_tick. -/
structure Tick where
  cfg : LoopCfg
  sel : Nat
  ints : Int × Int
  fed : Bool × Bool
  mem : LoopMem
  hcode : Nat

/-- One heart step, when 64 updates have passed: new integrators, memory and the effects (R126). -/
def heartStep (s : State) (l : Nat) (k : Tick) : (Int × Int) × LoopMem × List LoopEffect :=
  let c := k.cfg
  if !c.heartEn || (!k.fed.1 && !k.fed.2) || k.mem.heaterWaits then (k.ints, k.mem, [])
  else
    let m2 : Int := if k.fed.1 && k.fed.2 then k.ints.1 + k.ints.2 else if k.fed.1 then 2 * k.ints.1 else 2 * k.ints.2
    let delta := clampInt (-(c.hstepMax : Int)) c.hstepMax
      (roundEvenShift 40 (c.khM * m2 * (2 ^ (c.khSh + 8).toNat : Nat)))
    let fedOff : List LoopEffect := [LoopEffect.put (F.STATE.FED0 l) 0, .put (F.STATE.FED1 l) 0]
    if delta = 0 then (k.ints, k.mem, fedOff)
    else
      let h2 : Int := (k.hcode * k.hcode : Nat) + roundEvenShift 8 (delta * c.gh)
      let h := rsqrt h2.toNat
      if h2 < 0 ∨ h < c.hcodeMin ∨ c.hcodeMax < h then
        (k.ints, k.mem, allOf [fedOff, [.put (F.STATE.HEART_LIMIT l) 1,
          .event (F.LOOP_STAT.HEART_LIMIT (loopCourse l) (loopIndex l)), .raise (Src.COURSE.HEART_LIMIT (loopCourse l))]])
      else
        let o := 1 - k.sel
        let other := (clampInt c.codeMin c.codeMax ((atState (k.mem.last0, k.mem.last1) o : Int) - delta)).toNat
        let last := setState (k.mem.last0, k.mem.last1) o other
        ((iClamp c (k.ints.1 - delta * 2 ^ 16), iClamp c (k.ints.2 - delta * 2 ^ 16)),
          { k.mem with last0 := last.1, last1 := last.2, heaterWaits := true },
          allOf [fedOff, [.put (F.STATE.HEART_LIMIT l) 0,
            .code (.code (loopChan l) 2 h (s.flag (F.HTR_ACT.ACT_RANGE (loopTile l) (loopChan l)))),
            .put (F.HEART.HCODE l) h,
            .code (.code (loopChan l) o other false)]])

/-! ## The update of R120 and R129 -/

/-- The update of a loop under PROBE_RATIO or TRIM from the signed distance `d` of the measured value to its set-point. -/
def topUpdate (s : State) (l : Nat) (c : LoopCfg) (r : Record) (x : LoopMem) (ints : Int × Int) (compClamped : Bool)
    (d0 : Int) : List LoopEffect :=
  let sel := r.actSel
  let cn := loopCourse l
  let ka := s.kAhead r
  let rUse := if c.repEn then s.repEntry l sel ka x.repReset else 0
  let armed := (s.rd (F.LOOP_STAT.PRESET cn (loopIndex l))).testBit sel
  let pre := presetI c x sel rUse (atState ints sel) armed
  let d := if c.sign then -d0 else d0
  let e := satS 16 (roundEvenShift 9 (d * (2 ^ c.eshift : Nat)))
  let p30 : Int := c.kpM * e * (2 ^ (c.kpSh + 15).toNat : Nat)
  let iTry := pre.1 + roundEvenShift 7 (c.kiM * e * (2 ^ (c.kiSh + 8).toNat : Nat))
  let base : Int := ((atState c.op sel : Nat) : Int) * 2 ^ 30 + p30 + rUse * 2 ^ 30
  let v := base + iTry * 2 ^ 14
  let holds := (decide ((c.codeMax : Int) * 2 ^ 30 < v) && decide (0 < e)) ||
    (decide (v < (c.codeMin : Int) * 2 ^ 30) && decide (e < 0))
  let i := if holds then pre.1 else iClamp c iTry
  let iLimit := (!holds && decide (i ≠ iTry)) || pre.2 || compClamped
  let raw := roundEvenShift 30 (if holds then base + pre.1 * 2 ^ 14 else v)
  let code := (clampInt c.codeMin c.codeMax raw).toNat
  let outLimit := holds || decide ((code : Int) ≠ raw)
  let frozen := s.flag (F.LOOP_CTRL.REP_FREEZE cn (loopIndex l)) || s.flag (F.COURSE_CTRL.REP_FREEZE_ALL cn)
  let rep : List LoopEffect :=
    if c.repEn && !frozen then
      let old := s.repEntry l sel r.slot x.repReset
      let forget : Int := if c.fshift = 0 then 0 else old * (2 ^ (30 - c.fshift) : Nat)
      let new := clampInt (-(c.rlim : Int)) c.rlim
        (roundEvenShift 30 (old * 2 ^ 30 - forget + c.krM * e * (2 ^ (c.krSh + 15).toNat : Nat)))
      [LoopEffect.put (F.REP.ENTRY l sel r.slot) (unsigned 16 new)]
    else []
  let last := setState (x.last0, x.last1) sel code
  let lim := superviseLimit s l x (outLimit || iLimit)
  let mem1 := { x with last0 := last.1, last1 := last.2, limitRun := lim.1 }
  let fed := setState (s.flag (F.STATE.FED0 l), s.flag (F.STATE.FED1 l)) sel true
  let cnt := s.rd (F.STATE.HEART_CNT l) + 1
  let tick : Tick := ⟨c, sel, setState ints sel i, fed, mem1, s.rd (F.HEART.HCODE l)⟩
  let heart := if cnt < 64 then (tick.ints, tick.mem, []) else heartStep s l tick
  allOf [presetEffects s l sel armed pre.2, rep, lim.2,
    [.put (F.STATE.OUT_LIMIT l) outLimit.toNat, .put (F.STATE.I_LIMIT l) iLimit.toNat,
      .code (.code (loopChan l) sel code false), .count (F.UPDATES cn),
      .put (F.HEART.LAST_E l) (unsigned 16 e), .put (F.STATE.FED0 l) fed.1.toNat, .put (F.STATE.FED1 l) fed.2.toNat,
      .put (F.STATE.HEART_CNT l) (if cnt < 64 then cnt else 0)],
    heart.2.2,
    [.put (F.INT0.I0 l) (unsigned 32 heart.1.1), .put (F.INT1.I1 l) (unsigned 32 heart.1.2),
      .mem heart.2.1 (heart.2.1.heaterWaits && !x.heaterWaits)]]

/-! ## The dither lock (R132). OUT_LIMIT and I_LIMIT describe this update as they do every other (R136). -/

def ditherUpdate (s : State) (l : Nat) (c : LoopCfg) (r : Record) (x : LoopMem) (ints : Int × Int) (compClamped : Bool)
    (lam : Nat) : List LoopEffect :=
  let sel := c.dstate
  let cn := loopCourse l
  let armed := (s.rd (F.LOOP_STAT.PRESET cn (loopIndex l))).testBit sel
  let pre := presetI c x sel 0 (atState ints sel) armed
  let lam16 := min lam 0xFFFF
  let sigma : Int := if r.seq % 2 = 0 then 1 else -1
  let consecutive := s.flag (F.STATE.PREV_VALID l) && x.prevScan == some ((r.seq + 65535) % 65536)
  let g0 := satS 16 (roundEvenShift 9 (sigma * ((lam16 : Int) - s.rd (F.STATE.PREV_LAM l)) * (2 ^ c.eshift : Nat)))
  let g := if c.sign then -g0 else g0
  let iTry := pre.1 - roundEvenShift 7 (c.kiM * g * (2 ^ (c.kiSh + 8).toNat : Nat))
  let i := if consecutive then iClamp c iTry else pre.1
  let iLimit := (consecutive && decide (i ≠ iTry)) || pre.2 || compClamped
  let cnt := if g.natAbs < 0x100 then min (s.rd (F.STATE.HEART_CNT l) + 1) 16 else 0
  let locked := cnt == 16
  let grad : List LoopEffect :=
    if consecutive then
      allOf [[.put (F.STATE.HEART_CNT l) cnt, .put (F.STATE.DITHER_LOCKED l) locked.toNat,
        .put (F.HEART.LAST_E l) (unsigned 16 (satS 16 g))],
        if locked && !s.flag (F.STATE.DITHER_LOCKED l) then [.raise (Src.COURSE.DITHER_LOCKED cn)] else []]
    else []
  let raw := roundEvenShift 16 (((atState c.op sel : Nat) : Int) * 2 ^ 16 + i + sigma * c.ditherAmp * 2 ^ 16)
  let code := (clampInt c.codeMin c.codeMax raw).toNat
  let outLimit := decide ((code : Int) ≠ raw)
  let last := setState (x.last0, x.last1) sel code
  let out := setState ints sel i
  let lim := superviseLimit s l x (outLimit || iLimit)
  allOf [presetEffects s l sel armed pre.2, grad, lim.2,
    [.put (F.STATE.PREV_LAM l) lam16, .put (F.STATE.PREV_VALID l) 1,
      .put (F.INT0.I0 l) (unsigned 32 out.1), .put (F.INT1.I1 l) (unsigned 32 out.2)],
    [.put (F.STATE.OUT_LIMIT l) outLimit.toNat, .put (F.STATE.I_LIMIT l) iLimit.toNat,
      .code (.code (loopChan l) sel code false), .count (F.UPDATES cn),
      .mem { x with last0 := last.1, last1 := last.2, limitRun := lim.1, prevScan := some r.seq } false]]

/-! ## One record -/

/-- The compensation of R134 for one changed operating point: the new integrator, and whether ILIM cut it. -/
def compensate (c : LoopCfg) (old new : Nat) (i : Int) : Int × Bool :=
  if old = new then (i, false)
  else
    let want := i - ((new : Int) - old) * 2 ^ 16
    (iClamp c want, decide (iClamp c want ≠ want))

/-- What an update does before any arithmetic: pending words take effect together, compensated, the re-plan's PL_SCALE with
them, and REP_RESET applies (R134, R147, R152, R364). -/
def State.takePending (s : State) (l : Nat) (x : LoopMem) : (Int × Int) × Bool × List LoopEffect :=
  let pend := s.loopPending l
  let old := s.loopCfg l
  let new := s.loopCfgNext l
  let i0 := s.rdS (F.INT0.I0 l)
  let i1 := s.rdS (F.INT1.I1 l)
  let c0 := compensate new old.op.1 new.op.1 i0
  let c1 := compensate new old.op.2 new.op.2 i1
  let clears := (List.range 64).flatMap fun k =>
    [0, 1].flatMap fun st => if x.repReset.testBit st then [LoopEffect.put (F.REP.ENTRY l st k) 0] else []
  let takes : List LoopEffect :=
    if pend.isEmpty then []
    else allOf [pend.map (fun e => LoopEffect.take e.1 e.2),
      [.put (F.CHK.VAL l) (loopChk fun n => s.lvWord (loopWordAddr l n)).toNat,
        .put (F.INT0.I0 l) (unsigned 32 c0.1), .put (F.INT1.I1 l) (unsigned 32 c1.1)],
      if c0.2 || c1.2 then [.put (F.STATE.I_LIMIT l) 1] else []]
  let scale : List LoopEffect := match x.plNext with
    | some v => [.put (F.LOOP_PL.PL_SCALE (loopCourse l) (loopIndex l)) v]
    | none => []
  ((c0.1, c1.1), c0.2 || c1.2, allOf [takes, scale, clears])

/-- A PL_SCALE of the re-plan lands (R364). -/
def State.takeScale (s : State) (l : Nat) : State :=
  match (s.loopMem l).plNext with
  | some v =>
    (s.setLoopMem l { s.loopMem l with plNext := none }).wr (F.LOOP_PL.PL_SCALE (loopCourse l) (loopIndex l)) v
  | none => s

/-- The law on one non-guard record of a loop in AUTO, after supervision. `x` is the engine's memory so far. -/
def State.lawEffects (s : State) (l : Nat) (c : LoopCfg) (r : Record) (f : Front) (x : LoopMem) (ints : Int × Int)
    (compClamped : Bool) : List LoopEffect :=
  let cn := loopCourse l
  let keep := { x with latest := none }
  let see := { x with latest := some (f.ia, f.ib) }
  if c.law = 1 ∧ r.actSel ≠ c.dstate then [.put (F.STATE.PREV_VALID l) 0, .mem keep false]
  else if f.clipped then [.count (F.CLIPPED_CNT cn), .mem keep false]
  else if f.noProbe then [.count (F.NO_PROBE_CNT cn), .mem keep false]
  else
    match c.law with
    | 1 => ditherUpdate s l c r see ints compClamped (lambda s f c.dstate)
    | 2 => topUpdate s l c r see ints compClamped (((atState c.sp r.actSel : Nat) : Int) - trimY c f r)
    | _ => topUpdate s l c r see ints compClamped (((atState c.sp r.actSel : Nat) : Int) - lambda s f r.actSel)

/-- Everything a record of KIND = LOOP does to its loop, given the loop's state (R139). -/
def State.recordEffects (s : State) (l : Nat) (r : Record) : List LoopEffect :=
  let st := s.loopState l
  let x := s.loopMem l
  if st = 0 then []
  else
    let auto := st == 2
    let c := if auto then s.loopCfgNext l else s.loopCfg l
    let cn := loopCourse l
    let denMin := s.rd (F.DEN_MIN.VAL cn)
    let f := frontEnd c denMin r
    let pend := if auto then s.takePending l x else ((0, 0), false, [])
    let light := if isTrimLoop l then superviseLight s l r x else (x, [])
    if r.guard then
      allOf [pend.2.2, light.2,
        [.mem { light.1 with latest := if auto then none else x.latest } false]]
    else
      let probe := superviseProbe s l f (c.law == 2) denMin light.1
      let plaus := if isTrimLoop l || c.law == 2 then [] else supervisePlaus (if auto then s.takeScale l else s) l f
      allOf [pend.2.2, light.2, probe.2, plaus,
        if auto then s.lawEffects l c r f probe.1 pend.1 pend.2.1 else [.mem probe.1 false]]

/-- The record needs a free value: λ with den = 0, which DEN_MIN = 0 allows, or τ with no plane strobe known. -/
def State.recordOpen (s : State) (l : Nat) (r : Record) : Bool :=
  let c := s.loopCfgNext l
  let f := frontEnd c (s.rd (F.DEN_MIN.VAL (loopCourse l))) r
  s.loopState l == 2 && !r.guard && !f.clipped && !f.noProbe && ((c.law != 2 && f.den == 0) || (s.planeMode != 0 && r.delta.isNone))

/-! ## Applying effects -/

/-- One effect takes place (R123). `repReset` and `plNext` of the memory name what this update has applied; what came since
waits for the next. -/
def State.applyEffect (s : State) (l : Nat) : LoopEffect → State
  | .put f v => s.wr f v
  | .event f => s.setEvent f
  | .mem x heart =>
    let y := s.loopMem l
    s.setLoopMem l { x with
      heaterWaits := heart || y.heaterWaits
      repReset := y.repReset ^^^ (y.repReset &&& x.repReset)
      plNext := if y.plNext = x.plNext then none else y.plNext }
  | .code x => s.issue (loopTile l) x
  | .count w => s.bump w
  | .raise src => s.raise src
  | .take a w =>
    let s1 := s.setWord a w
    if s.lv.lookup a = some w then { s1 with lv := sparseErase s1.lv a } else s1

def State.applyEffects (s : State) (l : Nat) (es : List LoopEffect) : State := es.foldl (fun s e => s.applyEffect l e) s

end Sys2Proof.Machine
end

