-- ==== Sys2Proof/Machine/Loops.lean ====
section
/-! DEFINITION. The loop engines (R123, R124, R131, R134, R135, R139–R147, R151–R153, R160): records and frames, transfers,
holds, parameter writes and PROBE_EST. -/

namespace Sys2Proof.Machine

/-! ## Records and frames -/

/-- Samples of a focus behind those of the same focus, or as a new entry. -/
def addSamples : List FocusRun → FocusRun → List FocusRun
  | [], r => [r]
  | x :: rest, r => if x.id = r.id then { x with samples := x.samples ++ r.samples } :: rest else x :: addSamples rest r

/-- A FOCUS record waits for its frame's CRC (R103). -/
def State.holdFocus (s : State) (t : Nat) (r : Record) : State :=
  let x := s.tile t
  match r.focus with
  | some f => s.setTile t { x with focusHeld := addSamples x.focusHeld ⟨f, [r.a, r.b]⟩ }
  | none => s

/-- The FOCUS records of a checked frame are forwarded to their Sillage ring (R94). -/
def State.forwardFocus (s : State) (t : Nat) (rs : List FocusRun) : State :=
  let x := s.tile t
  s.setTile t { x with focusBuf := rs.foldl addSamples x.focusBuf }

/-- A record whose update would start too late: dropped and counted (R124). It is not accepted, so its loop has no part in
PROBE_EST (R131). -/
def State.dropLate (s : State) (l : Nat) : State :=
  let c := loopCourse l
  let s1 := s.setLoopMem l { s.loopMem l with latest := none }
  ((s1.setEvent (F.LOOP_STAT.LATE c (loopIndex l))).bump (F.LATE_CNT c)).raise (Src.COURSE.LATE c)

/-- A record of KIND = LOOP: its effects are computed and held for the frame's CRC (R123). -/
def State.holdRecord (s : State) (l : Nat) (r : Record) : State :=
  let t := loopTile l
  let es := s.recordEffects l r
  let s1 := if s.recordOpen l r then { s with free := s.free + 2 } else s
  let x := s1.tile t
  s1.setTile t { x with held := x.held ++ [(l, es)] }

/-- The record of conversion slot `k` of tile `t` reaches its engine. `late`: its loop's update would start too late (R124);
`depth` is the depth of the engine's queue on arrival. -/
def State.recordArrives (s : State) (t k : Nat) (late : Bool) (depth : Nat) : State :=
  let x := s.tile t
  let l := loopAt t k
  if !x.onWay.getLsbD k then s
  else
    match x.recs.lookup k with
    | none => s
    | some r =>
      let s1 := s.setTile t { x with onWay := setBit x.onWay k false }
      let q := F.ENGINE_STATUS.QUEUE_MAX (tileCourse t)
      let s2 := s1.wr q (max (s1.rd q) (min depth 64))
      if s2.hWarm l then s1
      else
        match r.kind with
        | 0 => if late && s2.loopState l == 2 then s2.dropLate l else s2.holdRecord l r
        | 3 => s2.holdFocus t r
        | _ => s2

def execLoopRecord (t : Fin 76) (k : Fin 64) (late : Bool) (depth : Nat) (s : State) : Host.Outcome State Fault Refusal :=
  .next (s.onMain fun s => s.recordArrives t k late depth)

/-- The frame's CRC has checked, or not (R103, R123). -/
def State.frameChecked (s : State) (t : Nat) (crcOk : Bool) : State :=
  let x := s.tile t
  match x.frame with
  | none => s
  | some _ =>
    let s1 := s.setTile t { x with frame := none, held := [], focusHeld := [] }
    if crcOk then (x.held.foldl (fun s e => s.applyEffects e.1 e.2) s1).forwardFocus t x.focusHeld else s1.linkCrc t

def execTileFrameChecked (t : Fin 76) (crcOk : Bool) (s : State) : Host.Outcome State Fault Refusal :=
  .next (s.onMain fun s => s.frameChecked t crcOk)

/-! ## PROBE_EST (R131) -/

/-- A 16-bit passport value of a loop's record, from the copy in working SRAM (R50, R51). -/
def State.passport16 (s : State) (l off : Nat) : Nat :=
  match s.calib.records.lookup l with
  | some r => leNat ((r.drop off).take 2)
  | none => leNat (s.memBytes (0x027C0000 + 256 + 32 * l + off) 2)

/-- One loop's input-referred probe power in units of 2^-48 µW; none where the passport gives no responsivity. The 61.04 pA of
R131 are read as the exact LSB, 4 µA ÷ 65,536: the model's choice (log 71). -/
def State.inputPower (s : State) (l : Nat) (i : Nat × Nat) : Option Nat :=
  let re := s.passport16 l 10
  let ro := s.passport16 l 12
  if re = 0 ∨ ro = 0 then none
  else some (40000 * (i.1 * ro + i.2 * re) * 2 ^ 160 / (re * ro * pow10Neg (s.passport16 l 14)))

/-- The median, rounded half to even from 2^-48 to 2^-16 µW; 0 of nothing (R131). -/
def median48 (vs : List Nat) : Nat :=
  let v := sortNat vs
  let n := v.length
  if n = 0 then 0
  else if n % 2 = 1 then (roundEvenShift 32 (v.getD (n / 2) 0)).toNat
  else (roundEvenShift 33 (v.getD (n / 2 - 1) 0 + v.getD (n / 2) 0 : Nat)).toNat

/-- The estimate of R131 from the latest accepted records of the switching loops in AUTO. -/
def State.probeEst (s : State) : Nat :=
  satU 32 (median48 (s.loops.filterMap fun e =>
    if e.1 < 4352 ∧ s.loopState e.1 = 2 then
      match e.2.latest with
      | some i => s.inputPower e.1 i
      | none => none
    else none))

/-- PROBE_EST goes to every course and to the AGEING block (R131); a re-plan pass takes its mean (R363). -/
def State.updateProbe (s : State) : State :=
  let v := s.probeEst
  let s1 := ((List.range 19).foldl (fun s c => s.wr (F.COURSE_PROBE_EST.EST c) v) s).wr F.AGEING_PROBE_EST.EST v
  if s1.replan.running then
    { s1 with replan := { s1.replan with
      probeSum := s1.replan.probeSum + v, probeCount := s1.replan.probeCount + 1 } }
  else s1

def execProbeEstUpdate (s : State) : Host.Outcome State Fault Refusal := .next (s.onMain State.updateProbe)

/-! ## Transfers (R140–R145) -/

/-- A TARGET write of AUTO is refused (R143). -/
def State.autoRefused (s : State) (l : Nat) : Bool :=
  let t := loopTile l
  !s.flag (F.DRV_ENABLE.POCK_EN t) || (s.flag (F.CTRL.HEART_EN l) && !s.flag (F.DRV_ENABLE.HTR_EN t)) || !s.linkUp t

def State.refuseTransfer (s : State) (l : Nat) : State :=
  let c := loopCourse l
  (s.bump (F.TRANSFER_REFUSED_CNT c)).raise (Src.COURSE.TRANSFER_REFUSED c)

/-- Clear the repetitive entries of the states in `bits` (R152). -/
def State.clearRep (s : State) (l bits : Nat) : State :=
  (List.range 2).foldl (fun s st =>
    if bits.testBit st then (List.range 64).foldl (fun s k => s.wr (F.REP.ENTRY l st k) 0) s else s) s

/-- REP_RESET: at the loop's next update in AUTO, at once otherwise (R152). -/
def State.repReset (s : State) (l bits : Nat) : State :=
  if s.loopState l = 2 then
    let x := s.loopMem l
    s.setLoopMem l { x with repReset := x.repReset ||| bits }
  else s.clearRep l bits

/-- TARGET takes a value: the present state is written down first. -/
def State.setTarget (s : State) (l v : Nat) : State := (s.settleLoop l).wr (loopCtrlTarget l) v

/-- A write of LOOP_CTRL (R140, R141, R151, R152). -/
def State.writeLoopCtrl (s : State) (l : Nat) (w : Word) : State :=
  let c := loopCourse l
  let j := loopIndex l
  let target := bitsOf w 0 2
  let s0 := s.settleLoop l
  let s1 :=
    if target = 3 ∨ (target = 2 ∧ s0.autoRefused l = true) then s0.refuseTransfer l else s0.wr (loopCtrlTarget l) target
  let s2 := ((s1.wr (F.LOOP_CTRL.HOLD c j) (bitsOf w 2 1)).wr (F.LOOP_CTRL.EVT_MASK c j) (bitsOf w 3 1)).wr
    (F.LOOP_CTRL.REP_FREEZE c j) (bitsOf w 4 1)
  if bitsOf w 5 2 = 0 then s2 else s2.repReset l (bitsOf w 5 2)

/-- The LOOP_CTRL word in force with some bits replaced. -/
def State.loopCtrlWith (s : State) (l lsb width v : Nat) : Word := withBits (s.word (loopCtrlTarget l).addr) lsb width v

def execLoopTargetWrite (m : Master) (l : Fin 4864) (target : Fin 4) (s : State) : Host.Outcome State Fault Refusal :=
  .next (s.gate m (loopCtrlTarget l).addr fun s => s.writeLoopCtrl l (s.loopCtrlWith l 0 2 target))

/-- A write of COURSE_CTRL: HOLD_ALL and REP_FREEZE_ALL (R141, R151). -/
def State.writeCourseCtrl (s : State) (c : Nat) (w : Word) : State :=
  ((s.settleCourse c).wr (F.COURSE_CTRL.HOLD_ALL c) (bitsOf w 0 1)).wr (F.COURSE_CTRL.REP_FREEZE_ALL c) (bitsOf w 1 1)

def State.courseCtrlWith (s : State) (c lsb v : Nat) : Word := withBits (s.word (F.COURSE_CTRL.HOLD_ALL c).addr) lsb 1 v

def execLoopHoldWrite (m : Master) (scope : LoopScope) (on : Bool) (s : State) : Host.Outcome State Fault Refusal :=
  match scope with
  | .loop l => .next (s.gate m (loopCtrlTarget l).addr fun s => s.writeLoopCtrl l (s.loopCtrlWith l 2 1 on.toNat))
  | .course c =>
    .next (s.gate m (F.COURSE_CTRL.HOLD_ALL c).addr fun s => s.writeCourseCtrl c (s.courseCtrlWith c 0 on.toNat))

def execRepFreezeWrite (m : Master) (scope : LoopScope) (on : Bool) (s : State) : Host.Outcome State Fault Refusal :=
  match scope with
  | .loop l => .next (s.gate m (loopCtrlTarget l).addr fun s => s.writeLoopCtrl l (s.loopCtrlWith l 4 1 on.toNat))
  | .course c =>
    .next (s.gate m (F.COURSE_CTRL.HOLD_ALL c).addr fun s => s.writeCourseCtrl c (s.courseCtrlWith c 1 on.toNat))

def execRepReset (m : Master) (l : Fin 4864) (bits : Fin 4) (s : State) : Host.Outcome State Fault Refusal :=
  .next (s.gate m (loopCtrlTarget l).addr fun s => s.writeLoopCtrl l (s.loopCtrlWith l 5 2 bits))

/-- H_EVT of a loop sets or clears; in one cycle the set wins (R12, R141, R147). -/
def State.setEvt (s : State) (l : Nat) (on : Bool) : State :=
  let f := F.LOOP_STAT.H_EVT (loopCourse l) (loopIndex l)
  if on then (s.settleLoop l).setEvent f else (s.settleLoop l).clearEvent f

/-- The loops of a course that obey LOOP_HOLD and LOOP_RELEASE (R141). -/
def State.evtLoops (s : State) (c : Nat) : List Nat :=
  (s.listedLoops c).filter fun l => s.flag (F.LOOP_CTRL.EVT_MASK c (loopIndex l))

/-- LOOP_HOLD_Cn or LOOP_RELEASE_Cn activated (R141). -/
def State.evtHold (s : State) (c : Nat) (on : Bool) : State := (s.evtLoops c).foldl (fun s l => s.setEvt l on) s

def execHEvtClear (m : Master) (l : Fin 4864) (s : State) : Host.Outcome State Fault Refusal :=
  .next (s.gate m (loopStatState l).addr fun s => s.setEvt l false)

/-- Pending configuration words of a loop that is not in AUTO take effect at once, without compensation (R134). -/
def State.takeNow (s : State) (l : Nat) : State :=
  let pend := s.loopPending l
  if pend.isEmpty then s.takeScale l
  else
    let s1 := pend.foldl (fun s e => s.applyLv e.1) (s.takeScale l)
    s1.wr (F.CHK.VAL l) (loopChk fun n => s1.word (loopWordAddr l n)).toNat

/-- A code of the channel is on its way to the tile. -/
def State.codeInFlight (s : State) (l : Nat) : Bool :=
  (s.tile (loopTile l)).down.any fun x => match x with
    | .code ch _ _ _ => ch == loopChan l
    | _ => false

/-- A transfer out of AUTO completes once the loop's issued codes have landed: codes not yet issued are discarded (R142). -/
def State.outOfAuto (s : State) (l : Nat) : State :=
  if s.loopState l = 2 ∧ s.loopGoal l ≠ 2 ∧ s.codeInFlight l = false then
    let t := loopTile l
    let x := s.tile t
    let s1 := (s.setTile t { x with held := x.held.filter fun e => e.1 != l }).wr (loopStatState l) (s.loopGoal l)
    let y := s1.loopMem l
    ((s1.setLoopMem l { y with repReset := 0, latest := none }).clearRep l y.repReset).takeNow l
  else s

def execTransferOutOfAuto (l : Fin 4864) (s : State) : Host.Outcome State Fault Refusal :=
  .next (s.onMain fun s => s.outOfAuto l)

/-- Effects of a record that came before the loop entered AUTO leave what the engine's read has set (R145). -/
def keepRead (y : LoopMem) : LoopEffect → LoopEffect
  | .mem x heart => .mem { x with last0 := y.last0, last1 := y.last1, limitRun := y.limitRun, latest := y.latest } heart
  | e => e

/-- The engine's read at the load strobe that begins AUTO (R142, R145). -/
def State.intoAuto (s : State) (l : Nat) : State :=
  if s.loopGoal l = 2 ∧ s.loopState l ≠ 2 then
    let t := loopTile l
    let ch := loopChan l
    let fromOff := s.loopState l == 0
    let s1 := ((s.wr (F.HEART.HCODE l) (s.rd (F.HTR_ACT.ACT_CODE t ch))).wr
      (F.LOOP_STAT.PRESET (loopCourse l) (loopIndex l)) 3).setFlag (F.STATE.PREV_VALID l) false
    let y : LoopMem := { s1.loopMem l with
      last0 := s.rd (F.POCK_ACT.ACT0 t ch), last1 := s.rd (F.POCK_ACT.ACT1 t ch)
      heaterWaits := false, limitRun := 0, latest := none }
    let x := s1.tile t
    let s2 := (s1.setLoopMem l y).setTile t { x with
      held := x.held.map fun e => if e.1 = l then (l, e.2.map (keepRead y)) else e }
    let s3 :=
      if fromOff then
        ((s2.wr (F.STATE.HEART_CNT l) (l % 64)).setFlag (F.STATE.FED0 l) false).setFlag (F.STATE.FED1 l) false
      else s2
    let s4 := if s.rd (F.CTRL.LAW l) = 1 then s3.wr (F.STATE.HEART_CNT l) 0 else s3
    s4.wr (loopStatState l) 2
  else s

def execTransferIntoAuto (l : Fin 4864) (s : State) : Host.Outcome State Fault Refusal :=
  .next (s.onMain fun s => s.intoAuto l)

/-! ## Writes of the loop record (R115, R118, R127, R128, R132, R134–R136) -/

/-- A loop of this index may have this LAW (R115). -/
def lawAllowed (l law : Nat) : Bool :=
  match law with
  | 0 => decide (l < 4352)
  | 1 => true
  | 2 => decide (4352 ≤ l)
  | _ => false

/-- The heater group of a loop does not fire in every heart period (R127). -/
def State.heartGroupBad (s : State) (l : Nat) : Bool :=
  match s.rd (F.STRB_GRP.MODE (s.rd (F.CH_CFG.HGRP (loopTile l) (loopChan l)))) with
  | 1 => s.planeMode == 0
  | 2 => false
  | _ => true

/-- Effective KH above 0.25: khM · 2^shift / 2^15 > 1/4 (R128). -/
def khTooLarge (c : LoopCfg) : Bool := decide (2 ^ 13 * 2 ^ 8 < c.khM * 2 ^ (c.khSh + 8).toNat)

/-- A configuration that the device refuses for loop `l` (R115, R118, R127, R128, R132, R136). -/
def State.cfgRefused (s : State) (l : Nat) (c : LoopCfg) : Bool :=
  !lawAllowed l c.law || decide (0x8000 ≤ c.kpM) || decide (0x8000 ≤ c.kiM) || decide (0x8000 ≤ c.krM) ||
    decide (0x8000 ≤ c.khM) || khTooLarge c || (c.heartEn && s.heartGroupBad l) ||
    (c.law == 1 && c.ditherAmp == 0) || decide (c.codeMax ≤ c.codeMin)

/-- A refused loop-parameter, state or repetitive write (R135, R162). -/
def State.refuseParam (s : State) (l : Nat) : State :=
  let c := loopCourse l
  (s.bump (F.COURSE_PARAM_REFUSED_CNT c)).raise (Src.COURSE.PARAM_REFUSED c)

/-- Which words of the record carry which checks: a write is refused where the checks of its own word fail in the
configuration it would leave. -/
def State.paramWriteRefused (s : State) (l n : Nat) (c : LoopCfg) : Bool :=
  match n with
  | 1 => c.law == 1 && c.ditherAmp == 0
  | 3 => decide (0x8000 ≤ c.kpM) || decide (0x8000 ≤ c.kiM)
  | 4 => decide (0x8000 ≤ c.krM) || decide (0x8000 ≤ c.khM) || khTooLarge c
  | 5 => !lawAllowed l c.law || khTooLarge c || (c.heartEn && s.heartGroupBad l) || (c.law == 1 && c.ditherAmp == 0)
  | 6 => decide (c.codeMax ≤ c.codeMin)
  | _ => false

/-- A write of configuration word `n` of loop `l` (R134). -/
def State.writeLoopParam (s : State) (l n : Nat) (w : Word) : State :=
  let a := loopWordAddr l n
  let v := w &&& accMask a [.lv]
  let c := loopCfgOf fun k => if k = n then v else s.lvWord (loopWordAddr l k)
  if s.paramWriteRefused l n c then s.refuseParam l
  else
    let s1 := s.holdLv a v
    if s.loopState l = 2 then s1 else s1.takeNow l

def execLoopParamWrite (m : Master) (l : Fin 4864) (n : Fin 11) (w : Word) (s : State) :
    Host.Outcome State Fault Refusal :=
  .next (s.gate m (loopWordAddr l n) fun s => s.writeLoopParam l n w)

/-- A write of INT0 (`k` 0), INT1 (1) or HEART.HCODE (2) (R135). -/
def State.writeLoopState (s : State) (m : Master) (l k : Nat) (w : Word) : State :=
  if externalHost m && !s.hostMayWrite l then s.refuseParam l
  else
    match k with
    | 0 => s.setWord (F.INT0.I0 l).addr w
    | 1 => s.setWord (F.INT1.I1 l).addr w
    | _ => s.wr (F.HEART.HCODE l) (bitsOf w 0 16)

def execLoopStateWrite (m : Master) (l : Fin 4864) (k : Fin 3) (w : Word) (s : State) :
    Host.Outcome State Fault Refusal :=
  .next (s.gate m (loopWordAddr l (12 + k)) fun s => s.writeLoopState m l k w)

/-- Learning is frozen on the loop (R151). -/
def State.repFrozen (s : State) (l : Nat) : Bool :=
  s.flag (F.LOOP_CTRL.REP_FREEZE (loopCourse l) (loopIndex l)) || s.flag (F.COURSE_CTRL.REP_FREEZE_ALL (loopCourse l))

/-- A write of the repetitive word of state `st` that holds entries 2n and 2n+1 (R153). -/
def State.writeRepetitive (s : State) (l st n : Nat) (w : Word) : State :=
  if s.loopState l = 2 ∧ s.repFrozen l = false then s.refuseParam l
  else s.setWord (F.REP.ENTRY l st (2 * n)).addr w

def execRepetitiveWrite (m : Master) (l : Fin 4864) (st : Fin 2) (n : Fin 32) (w : Word) (s : State) :
    Host.Outcome State Fault Refusal :=
  .next (s.gate m (F.REP.ENTRY l st (2 * n)).addr fun s => s.writeRepetitive l st n w)

end Sys2Proof.Machine
end

