-- ==== Sys2Proof/Machine/Mortar.lean ====
section
/-! DEFINITION. Mortar (R436–R444): producers, task inputs and their re-arm, the graph test and configuration writes. What a
producer's event does to channels is `State.deliver` of Ops.lean. -/

namespace Sys2Proof.Machine

/-! ## Codes (R437, R439) -/

/-- The fault source a producer code names (R437). -/
def sourceOfCode (code : Nat) : Option Source :=
  (FB.all.find? fun b => decide (b.code ≤ code) && decide (code < b.code + b.sources)).map fun b => ⟨b, code - b.code⟩

/-- A producer that is no fault source. -/
def plainProducer (code : Nat) : Bool :=
  let i := code % 64
  match code / 64 with
  | 0 => decide (i < 16)
  | 9 => decide (i < 32)
  | 12 => decide (i < 2) || (decide (16 ≤ i) && decide (i < 32))
  | 17 => decide (i < 3)
  | 23 => i == 0 || (decide (8 ≤ i) && decide (i < 24))
  | 62 => decide (i < 32)
  | _ => false

def producerOk (code : Nat) : Bool := plainProducer code || (sourceOfCode code).isSome

/-- A task-input code with a task input (R439). -/
def inputOk (t : Nat) : Bool :=
  decide (t < 0x33) || (decide (0x40 ≤ t) && decide (t < 0x53)) || (decide (0x60 ≤ t) && decide (t < 0x70)) ||
    (decide (0x70 ≤ t) && decide (t < 0x79)) || (decide (0x80 ≤ t) && decide (t < 0xA0))

/-- "Can cause" of R439: activating input `t` can make producer `code` emit. -/
def canCause (t code : Nat) : Bool :=
  let g := code / 64
  let i := code % 64
  if t < 8 then false
  else if t < 0x10 then code == t
  else if t < 0x20 then false
  else if t < 0x33 then g == 24 + (t - 0x20) || g == 43 + (t - 0x20)
  else if t < 0x60 then g == 24 + (t - 0x40) || g == 43 + (t - 0x40)
  else if t < 0x70 then g == 21
  else if t < 0x78 then decide (43 ≤ g) && decide (g < 62) && decide (i < 32)
  else if t < 0x80 then g == 22 || g == 23
  else g == 62 && i == t - 0x80

/-! ## The graph test (R441) -/

/-- CH_CFG words with one of them replaced, as (SRC, DST) of the enabled channels. -/
def State.routes (s : State) (a : Nat) (w : Word) : List (Nat × Nat) :=
  let listed := (s.regs.filter fun e => decide (0x71000 ≤ e.1) && decide (e.1 < 0x71400) && e.1 != a).map (·.2)
  let new : List Word := if 0x71000 ≤ a ∧ a < 0x71400 then [w] else []
  ((List.flatten [new, listed]).filter fun c => c.getLsbD 24).map fun c => (bitsOf c 0 12, bitsOf c 12 9)

/-- A RELAY whose REARM is at least 16, after the write of `w` at `a`. -/
def State.relayBreaks (s : State) (a : Nat) (w : Word) (t : Nat) : Bool :=
  decide (0x80 ≤ t) && (let ta := (F.TI_CFG.REARM t).addr; decide (16 ≤ bitsOf (if ta = a then w else s.word ta) 0 16))

/-- Nodes that still lead on to a remaining node, after `n` rounds. -/
def pruneGraph (edge : Nat → Nat → Bool) : Nat → List Nat → List Nat
  | 0, l => l
  | n + 1, l => pruneGraph edge n (l.filter fun t => l.any fun t' => edge t t')

/-- The graph as it would stand has no cycle once every RELAY of REARM ≥ 16 is removed. -/
def State.graphOk (s : State) (a : Nat) (w : Word) : Bool :=
  let routes := s.routes a w
  let nodes := (List.range 0xA0).filter fun t => !s.relayBreaks a w t
  let edge (t t' : Nat) : Bool := routes.any fun r => canCause t r.1 && r.2 == t'
  (pruneGraph edge 161 nodes).isEmpty

/-! ## Configuration writes (R442) -/

/-- The word a write leaves: only writable bits change; SECURE is FX. -/
def mortarNew (a : Nat) (old w : Word) (loader : Bool) : Word :=
  let m := accMask a (if loader then [.rw, .fx] else [.rw])
  (old &&& ~~~m) ||| (w &&& m)

/-- The codes or the pulse length in a configuration word are allowed (R436, R437, R439, R442). -/
def mortarCodeOk (a : Nat) (w : Word) : Bool :=
  if a < 0x72000 then
    producerOk (bitsOf w 0 12) && inputOk (bitsOf w 12 9) && !(decide (0x71300 ≤ a) && decide (0x80 ≤ bitsOf w 12 9))
  else decide (0x73000 ≤ a) || (decide (8 ≤ bitsOf w 0 10) && decide (bitsOf w 0 10 ≤ 1020))

def State.refuseMortar (s : State) : State := (s.bump F.CFG_REFUSED_CNT).raise Src.MORTAR.CFG_REFUSED

/-- A run-time write of CH_CFG or TI_CFG: it takes effect at the next tick, within 2 µs (R442). -/
def State.writeMortar (s : State) (a : Nat) (w : Word) : State :=
  let new := mortarNew a (s.word a) w false
  if (rowsAt a).isEmpty then s
  else if s.mortar.cfg.isSome || !mortarCodeOk a new || !s.graphOk a new then s.refuseMortar
  else { s with mortar := { s.mortar with cfg := some (a, new, s.clock + 4) } }.setFlag F.MORTAR_STATUS.CFG_BUSY true

/-- The new configuration takes effect. -/
def State.takeMortar (s : State) : State :=
  match s.mortar.cfg with
  | some (a, w, t) =>
    if t ≤ s.clock then
      ({ s with mortar := { s.mortar with cfg := none } }.setWord a w).setFlag F.MORTAR_STATUS.CFG_BUSY false
    else s
  | none => s

/-- The address of a Mortar configuration word. -/
def mortarAddr : MortarWord → Nat
  | .channel n => 0x71000 + 4 * n
  | .input t => 0x72004 + 32 * t

def execMortarCfgWrite (m : Master) (a : MortarWord) (w : Word) (s : State) : Host.Outcome State Fault Refusal :=
  .next (s.gate m (mortarAddr a) fun s => (s.reportFx m (mortarAddr a) w).writeMortar (mortarAddr a) w)

/-! ## Task inputs (R439, R440) -/

/-- The re-arm time of a task input in nanoseconds. -/
def State.rearmNs (s : State) (t : Nat) : Nat :=
  if t < 8 then s.rd (F.TI_CFG.REARM t) % 1024 + 8
  else if t < 0x10 then 0
  else if 0x70 ≤ t ∧ t < 0x78 then 32
  else if 0x80 ≤ t then s.rd (F.TI_CFG.REARM t)
  else 1

/-- TI_STAT.BUSY: within the re-arm time after the last activation. A re-arm of one cycle has passed by the next command. -/
def State.inputBusy (s : State) (t : Nat) : Bool :=
  match s.mortar.lastAct.lookup t with
  | some c => decide (1 < s.rearmNs t) && decide (s.clock < c + s.rearmNs t)
  | none => false

/-- OVERRUN of a task input (R440). -/
def State.overrun (s : State) (t : Nat) : State := (s.setEvent (F.TI_STAT.OVERRUN t)).raise Src.MORTAR.OVERRUN

/-- What an activation does (R439). -/
def State.inputAction (s : State) (t : Nat) : State :=
  if t < 8 then
    { s with mortar := { s.mortar with evtOut := setBit s.mortar.evtOut t true } }.emitOut (.evtOut t true)
  else if t < 0x10 then s.emitCode t
  else if t < 0x20 then
    (s.setEvent { F.HOST_IRQ_STATUS.IRQ with lsb := t - 0x10, width := 1 }).signalVector (23 + (t - 0x10))
  else if t < 0x33 then s.evtHold (t - 0x20) true
  else if t < 0x60 then
    -- a hold activated in the same cycle wins (R147)
    if s.mortar.lastAct.lookup (t - 0x20) == some s.clock then s else s.evtHold (t - 0x40) false
  else if t < 0x70 then s.requestSwitch (t - 0x60)
  else if t < 0x78 then s.commandGroup (t - 0x70)
  else if t < 0x80 then s.silTriggerFrom 3
  else s.emitCode (62 * 64 + (t - 0x80))

/-- One activation. -/
def State.activate (s : State) (t : Nat) : State :=
  ({ s with mortar := { s.mortar with lastAct := sparseInsert s.mortar.lastAct t s.clock } }.bump (F.ACT_CNT t)).inputAction t

/-- Remove the first `n` copies of a code. -/
def dropCopies (t : Nat) : Nat → List Nat → List Nat
  | _, [] => []
  | 0, l => l
  | n + 1, x :: rest => if x = t then dropCopies t n rest else x :: dropCopies t (n + 1) rest

/-- `n` of the events on their way reach task input `t` in one cycle (R440). Task inputs beyond AJOIN_7 are on the main
side. -/
def State.eventsReach (s : State) (t n : Nat) : State :=
  let k := min n (s.mortar.inFlight.filter fun x => x == t).length
  let s1 : State := { s with mortar := { s.mortar with inFlight := dropCopies t k s.mortar.inFlight } }
  if k = 0 ∨ inputOk t = false ∨ (16 ≤ t ∧ s.power.mainUp = false) then s1
  else if s1.inputBusy t then (s1.bump (F.BUSY_CNT t)).overrun t
  else if 2 ≤ k then ((s1.activate t).bump (F.MERGE_CNT t)).overrun t
  else s1.activate t

def execTaskInputActivation (t : Fin 512) (n : Nat) (s : State) : Host.Outcome State Fault Refusal :=
  .next (s.eventsReach t n)

/-- An EVT_OUT pulse ends (R439). -/
def State.endPulse (s : State) (k : Nat) : State :=
  if s.mortar.evtOut.getLsbD k then
    { s with mortar := { s.mortar with evtOut := setBit s.mortar.evtOut k false } }.emitOut (.evtOut k false)
  else s

def execEvtOutPulseEnd (k : Fin 8) (s : State) : Host.Outcome State Fault Refusal := .next (s.endPulse k)

/-! ## Producers (R437, R438) -/

/-- Producers of groups 0–3 are always-on; the others are silent while the main side is down (R437, R444). -/
def State.producerAlive (s : State) (code : Nat) : Bool := s.power.vin && (decide (code / 64 ≤ 3) || s.power.mainUp)

/-- A producer's occurrence: a fault source's rises, any other emits one event (R438). -/
def State.produce (s : State) (code : Nat) : State :=
  if s.producerAlive code then
    match sourceOfCode code with
    | some src => s.raise src
    | none => if plainProducer code then s.emitCode code else s
  else s

def execProducerEvent (code : Fin 4096) (s : State) : Host.Outcome State Fault Refusal := .next (s.produce code)

/-- A rising edge on EVT_IN_k (R437). -/
def execEvtInEdge (k : Fin 8) (s : State) : Host.Outcome State Fault Refusal :=
  .next (if s.power.vin then s.emitCode k else s)

end Sys2Proof.Machine
end

