-- ==== Sys2Proof/Machine/Chain.lean ====
section
/-! DEFINITION. The parser's header chain (R250, R251, R254) and the classification key (R256). A frame is its bytes from the
destination MAC up to, excluding, the FCS. -/

namespace Sys2Proof.Machine

/-- How a walk ends before the rules: malformed (R254), or a frame for the slow path with its CAUSE (R251). -/
inductive ParseStop where
  | malformed
  | slow (cause : Nat)
  deriving DecidableEq, Repr

/-- What a walk has taken: the key fields of R256, the source address, the upper protocol, where the last header taken begins,
and the Kowin LENGTH. -/
structure Chain where
  tags : Nat
  vid0 : Nat
  vid1 : Nat
  pcp : Nat
  etype : Nat
  /-- L3: 0 none, 1 IPv4, 2 IPv6. -/
  l3 : Nat
  ipAt : Nat
  /-- IPv4 protocol or IPv6 next header. -/
  proto : Nat
  /-- Where the bytes after EtherType, IP or UDP begin, and how many there are. -/
  bodyAt : Nat
  bodyLen : Nat
  kind : Nat
  type : Nat
  flags : Nat
  length : Nat
  unit : Nat
  lane : Nat
  dir : Nat
  deriving DecidableEq, Repr

def mustHold (b : Bool) (x : ParseStop) : Except ParseStop Unit := if b then .ok () else .error x

/-- The frame is malformed unless `b` (R254). -/
def sound (b : Bool) : Except ParseStop Unit := mustHold b .malformed

/-- A header that ends more than 192 bytes after the first byte of the pass goes to the slow path (R251). -/
def inWindow (off : Nat) : Except ParseStop Unit := mustHold (decide (off ≤ 192)) (.slow 6)

/-- Steps 1 to 3: the Ethernet header and up to two tags; a third tag goes to the slow path (R250, R251). -/
def walkTags (f : List Byte) : Except ParseStop Chain := do
  let n := f.length
  let c : Chain := ⟨0, 0, 0, 0, beAt f 12 2, 0, 0, 0, 14, n - 14, 2, 0, 0, 0, 0, 0, 0⟩
  sound (decide (14 ≤ n))
  let isTag (t : Nat) : Bool := t == 0x8100 || t == 0x88A8
  if isTag c.etype then
    sound (decide (18 ≤ n))
    let c := { c with
      tags := 1, vid0 := beAt f 14 2 % 4096, pcp := beAt f 14 2 / 8192, etype := beAt f 16 2, bodyAt := 18, bodyLen := n - 18 }
    if isTag c.etype then
      sound (decide (22 ≤ n) && c.etype == 0x8100)
      let c := { c with tags := 2, vid1 := beAt f 18 2 % 4096, etype := beAt f 20 2, bodyAt := 22, bodyLen := n - 22 }
      mustHold (!isTag c.etype) (.slow 4)
      return c
    else return c
  else return c

/-- An IP length that differs from the bytes present: too short always malformed, too long only in a frame of more than 64
bytes with its FCS (R254). -/
def ipLength (f : List Byte) (present total : Nat) : Except ParseStop Unit :=
  sound (decide (total ≤ present) && (total == present || decide (f.length + 4 ≤ 64)))

/-- Step 4, IPv4. -/
def walkV4 (f : List Byte) (c : Chain) : Except ParseStop Chain := do
  let off := c.bodyAt
  let present := c.bodyLen
  let ihl := 4 * (beAt f off 1 % 16)
  let total := beAt f (off + 2) 2
  let frag := beAt f (off + 6) 2
  let proto := beAt f (off + 9) 1
  sound (decide (20 ≤ present) && beAt f off 1 / 16 == 4 && decide (20 ≤ ihl) && decide (ihl ≤ total) && decide (ihl ≤ present))
  ipLength f present total
  sound (checksumOk (slice f off ihl))
  mustHold (frag % 16384 == 0) (.slow 5)
  mustHold (proto != 4 && proto != 41) (.slow 7)
  inWindow (off + ihl)
  return { c with l3 := 1, ipAt := off, proto := proto, bodyAt := off + ihl, bodyLen := total - ihl }

/-- The next headers of IPv6 that go to the slow path as nesting (R251). -/
def nestedHeaders : List Nat := [0, 43, 50, 51, 60, 135, 139, 140, 4, 41]

/-- Step 4, IPv6. -/
def walkV6 (f : List Byte) (c : Chain) : Except ParseStop Chain := do
  let off := c.bodyAt
  let next := beAt f (off + 6) 1
  let len := beAt f (off + 4) 2
  sound (decide (40 ≤ c.bodyLen) && beAt f off 1 / 16 == 6)
  ipLength f c.bodyLen (len + 40)
  mustHold (next != 44) (.slow 5)
  mustHold (!nestedHeaders.contains next) (.slow 7)
  inWindow (off + 40)
  return { c with l3 := 2, ipAt := off, proto := next, bodyAt := off + 40, bodyLen := len }

/-- Source and destination address of a frame's IP header. -/
def Chain.src (c : Chain) (f : List Byte) : List Byte := if c.l3 = 1 then slice f (c.ipAt + 12) 4 else slice f (c.ipAt + 8) 16
def Chain.dst (c : Chain) (f : List Byte) : List Byte := if c.l3 = 1 then slice f (c.ipAt + 16) 4 else slice f (c.ipAt + 24) 16

/-- The checksum of an upper protocol over its pseudo-header. -/
def Chain.upperOk (c : Chain) (f : List Byte) : Bool :=
  checksumOk (List.flatten [c.src f, c.dst f, [0, BitVec.ofNat 8 c.proto], beBytes 2 c.bodyLen, slice f c.bodyAt c.bodyLen])

/-- Step 5, UDP; answers the destination port. -/
def walkUdp (f : List Byte) (c : Chain) : Except ParseStop (Chain × Nat) := do
  let off := c.bodyAt
  let len := beAt f (off + 4) 2
  let sum := beAt f (off + 6) 2
  sound (decide (off + 8 ≤ f.length) && decide (8 ≤ len) && len == c.bodyLen)
  sound (if sum = 0 then c.l3 == 1 else c.upperOk f)
  inWindow (off + 8)
  return ({ c with bodyAt := off + 8, bodyLen := len - 8 }, beAt f (off + 2) 2)

/-- Steps 6a and 7: the Kowin header, and a RELAY's fields (R250). -/
def walkKowin (f : List Byte) (c : Chain) : Except ParseStop Chain := do
  let k := c.bodyAt
  let len := beAt f (k + 2) 2
  let type := beAt f (k + 1) 1
  sound (decide (20 ≤ c.bodyLen) && beAt f k 1 == 1 && decide (20 ≤ len) && decide (len ≤ 1400) && decide (len ≤ c.bodyLen))
  inWindow (k + 20)
  let c := { c with kind := 0, type := type, flags := beAt f (k + 8) 1, length := len }
  if type = 0x0B then
    sound (decide (56 ≤ len) && beAt f (k + 38) 2 == len - 36)
    inWindow (k + 56)
    return { c with unit := beAt f (k + 20) 1, lane := beAt f (k + 21) 1 % 64, dir := beAt f (k + 22) 1 % 2 }
  else return c

/-- Step 6b: the PTP header, of 34 bytes (R250, R252); another version leaves the chain. -/
def walkPtp (f : List Byte) (c : Chain) : Except ParseStop Chain := do
  let k := c.bodyAt
  sound (decide (2 ≤ c.bodyLen))
  if beAt f (k + 1) 1 % 16 = 2 then
    sound (decide (34 ≤ c.bodyLen))
    inWindow (k + 34)
    return { c with kind := 1, type := beAt f k 1 % 16 }
  else return c

/-- Pass 0: the whole chain (R250). -/
def State.walk (s : State) (f : List Byte) : Except ParseStop Chain := do
  let ptpOn := s.flag F.PARSER_CFG.PTP_EN
  let c ← walkTags f
  if c.etype = 0x0800 ∨ c.etype = 0x86DD then
    let c ← if c.etype = 0x0800 then walkV4 f c else walkV6 f c
    if c.proto = 17 then
      let (c, port) ← walkUdp f c
      if port = s.rd F.UDP_CFG.PORT then walkKowin f c
      else if ptpOn ∧ (port = 319 ∨ port = 320) then walkPtp f c
      else return c
    else return c
  else if c.etype = s.rd F.KOWIN_CFG.ETHERTYPE then walkKowin f c
  else if ptpOn ∧ c.etype = 0x88F7 then walkPtp f c
  else return c

/-- Pass 1: the header of INNER, which begins 36 bytes into the RELAY message; TYPE and FLAGS become those of INNER, every other
field keeps its pass-0 value (R251, R256, R261). -/
def walkInner (f : List Byte) (c : Chain) : Except ParseStop Chain := do
  let k := c.bodyAt + 36
  sound (beAt f k 1 == 1)
  mustHold (beAt f (k + 1) 1 != 0x0B) (.slow 7)
  return { c with type := beAt f (k + 1) 1, flags := beAt f (k + 8) 1 }

/-- The 96-bit key of a pass (R256). -/
def State.ruleKey (s : State) (lane pass : Nat) (c : Chain) : BitVec 96 :=
  BitVec.ofNat 96 (lane + 2 ^ 6 * s.rd (F.LANE_CFG.ROLE lane) + 2 ^ 7 * pass + 2 ^ 8 * c.tags + 2 ^ 10 * c.l3 + 2 ^ 12 * c.kind +
    2 ^ 16 * c.vid0 + 2 ^ 28 * c.vid1 + 2 ^ 40 * c.type + 2 ^ 48 * c.flags + 2 ^ 56 * c.unit + 2 ^ 64 * c.lane +
    2 ^ 70 * c.dir + 2 ^ 72 * c.etype + 2 ^ 88 * c.pcp)

end Sys2Proof.Machine
end

