-- ==== Sys2Proof/Machine/Time.lean ====
section
/-! DEFINITION. Network time, PPS and TPULSE (R273–R291). -/

namespace Sys2Proof.Machine

/-! ## The counter -/

/-- TIME_INC in force, an 8.40 value in units of 2^-40 ns (R273). -/
def State.timeInc (s : State) : Nat := s.rd F.TIME_INC_LO.INC + 2 ^ 32 * s.rd F.TIME_INC_HI.INC

/-- The range TIME_INC may take, 4.0 ns ±500 ppm (R274). -/
def timeIncOk (v : Nat) : Bool := decide (0x03FF7CED9168 ≤ v) && decide (v ≤ 0x040083126E98)

/-- What one tick absorbs of the slew: SLEW_PPM of the elapsed increment to the nearest 2^-40 ns, half to even (R8), at most
what is left (R277). -/
def State.slewShare (s : State) : Int :=
  let share : Nat := (roundEvenDiv (s.timeInc * s.rd F.SLEW_CFG.SLEW_PPM : Nat) (10 ^ 6)).toNat
  let part : Nat := min share s.time.slew.natAbs
  if s.time.slew < 0 then -(part : Int) else (part : Int)

/-- Put the counter at `v`, in units of 2^-40 ns since 0 s. -/
def State.setTime (s : State) (v : Nat) : State :=
  { s with time := { s.time with
      sec := v / 2 ^ 40 / 10 ^ 9, ns := v / 2 ^ 40 % 10 ^ 9, frac := v % 2 ^ 40 } }

/-- The counter in units of 2^-40 ns. -/
def State.fineTime (s : State) : Nat := s.now * 2 ^ 40 + s.time.frac

/-- A time in units of 2^-40 ns as whole nanoseconds, half to even (R8). -/
def wholeNs (t : Nat) : Nat := (roundEvenShift 40 t).toNat

/-- What ADJ_NS reads: the slew's remainder in whole nanoseconds, half to even (R8). -/
def State.showSlew (s : State) : State :=
  (s.wrS F.ADJ_NS.ADJ (roundEvenShift 40 s.time.slew)).setFlag F.TIME_STATUS.SLEWING (s.time.slew != 0)

/-- The counter's part of one 250 MHz tick (R273, R277). -/
def State.tickCounter (s : State) : State :=
  let share := s.slewShare
  let s1 := s.setTime ((s.fineTime + s.timeInc : Nat) + share).toNat
  if s.time.slew = 0 then s1
  else { s1 with time := { s1.time with slew := s.time.slew - share } }.showSlew

/-- A committed TIME_INC takes both words together, or is refused (R274). -/
def State.commitTimeInc (s : State) (lo hi : Nat) : State :=
  if timeIncOk (lo + 2 ^ 32 * hi) then (s.wr F.TIME_INC_LO.INC lo).wr F.TIME_INC_HI.INC hi
  else s.raise Src.TIME.TIME_REFUSED

/-- The LO word the master holds for the pair at `a`, or the value in force (R474). -/
def State.heldLo (s : State) (m : Master) (a : Nat) : Word :=
  match s.snaps.lo.lookup (m, a) with
  | some w => w
  | none => s.word a

def State.holdLo (s : State) (m : Master) (a : Nat) (w : Word) : State :=
  { s with snaps := { s.snaps with lo := ((m, a), w) :: s.snaps.lo.filter fun e => decide (e.1 ≠ (m, a)) } }

def State.dropLo (s : State) (m : Master) (a : Nat) : State :=
  { s with snaps := { s.snaps with lo := s.snaps.lo.filter fun e => decide (e.1 ≠ (m, a)) } }

def State.writeTimeIncHi (s : State) (m : Master) (w : Word) : State :=
  (s.commitTimeInc (s.heldLo m F.TIME_INC_LO.INC.addr).toNat (bitsOf w 0 16)).dropLo m F.TIME_INC_LO.INC.addr

/-- A write of ADJ_NS starts a slew, replacing what remains of one in progress (R277). -/
def State.startSlew (s : State) (w : Word) : State :=
  { s with time := { s.time with slew := w.toInt * (2 ^ 40 : Nat) } }.showSlew

/-- A read of TIME_NS snapshots seconds and fraction for the reading master (R275). -/
def State.snapTime (s : State) (m : Master) : State :=
  { s with snaps := { s.snaps with
      time := (m, s.time.sec, s.time.frac / 2 ^ 8) :: s.snaps.time.filter fun e => decide (e.1 ≠ m) } }

/-- A read of PPS_IN_NS snapshots the PPS_IN seconds for the reading master (R275, R287). -/
def State.snapPps (s : State) (m : Master) : State :=
  { s with snaps := { s.snaps with
      pps := (m, s.rdW F.PPS_IN_SEC) :: s.snaps.pps.filter fun e => decide (e.1 ≠ m) } }

/-! ## REFCLK_CORE (R276) -/

def execRefclkCoreLoss (s : State) : Host.Outcome State Fault Refusal :=
  let s1 := { s with power := { s.power with refclk := false } }
  .next (s1.onMain fun s => (s.setFlag F.TIME_STATUS.HOLDOVER true).raise Src.TIME.REFCLK_LOST)

def execRefclkCoreReturn (s : State) : Host.Outcome State Fault Refusal :=
  let s1 := { s with power := { s.power with refclk := true } }
  .next (s1.onMain fun s => s.setFlag F.TIME_STATUS.HOLDOVER false)

/-! ## Writes and reads of the counter's registers -/

def execTimeIncLoWrite (m : Master) (w : Word) (s : State) : Host.Outcome State Fault Refusal :=
  .next (s.gate m F.TIME_INC_LO.INC.addr fun s => s.holdLo m F.TIME_INC_LO.INC.addr w)

def execTimeIncHiWrite (m : Master) (w : Word) (s : State) : Host.Outcome State Fault Refusal :=
  .next (s.gate m F.TIME_INC_HI.INC.addr fun s => s.writeTimeIncHi m w)

def execAdjNsWrite (m : Master) (w : Word) (s : State) : Host.Outcome State Fault Refusal :=
  .next (s.gate m F.ADJ_NS.ADJ.addr fun s => s.startSlew w)

/-! ## PPS (R287, R288) -/

/-- Mortar producers of group 12 (R437). -/
def codePpsInEdge : Nat := 12 * 64
def codeTxtsNonempty : Nat := 12 * 64 + 1
def codeTpulse (n : Nat) : Nat := 12 * 64 + 16 + n

/-- The shortest time between accepted PPS_IN edges, 0.5 s (R287). -/
def ppsGap : Nat := 500000000

def State.ppsEdge (s : State) : State :=
  let near := match s.time.lastPps with
    | some t => decide (s.clock - t < ppsGap)
    | none => false
  if near then s.bump F.PPS_IGNORED
  else
    let t := wholeNs s.fineTime
    let s1 := (s.wr F.PPS_IN_NS.NS (t % 10 ^ 9)).wrW F.PPS_IN_SEC (t / 10 ^ 9)
    { s1 with time := { s1.time with lastPps := some s.clock } }.emitCode codePpsInEdge

def execPpsInEdge (s : State) : Host.Outcome State Fault Refusal := .next (s.onMain State.ppsEdge)

/-- 1.1 s have passed since the last accepted PPS_IN edge, or there was none yet (R287). -/
def State.ppsLate (s : State) : Bool :=
  match s.time.lastPps with
  | some t => decide (t + 1100000000 ≤ s.clock)
  | none => true

def execPpsMiss (s : State) : Host.Outcome State Fault Refusal :=
  .next (s.onMain fun s => if s.flag F.PPS_CFG.IN_EN && s.ppsLate then s.raise Src.TIME.PPS_MISS else s)

def State.drivePps (s : State) (high : Bool) : State :=
  { s with time := { s.time with ppsOut := high, ppsRose := if high then s.clock else s.time.ppsRose } }.emitOut (.pps high)

/-- The latest tick has taken the counter to or past OUT_OFFSET of a second (R288). -/
def State.ppsPasses (s : State) : Bool :=
  let since := ((s.fineTime : Int) - s.rdS F.PPS_OUT_OFFSET.OFFSET * 2 ^ 40) % (10 ^ 9 * 2 ^ 40 : Nat)
  decide (since < (s.timeInc : Int) + s.slewShare)

def execPpsOutRise (s : State) : Host.Outcome State Fault Refusal :=
  .next (s.onMain fun s => if s.flag F.PPS_CFG.OUT_EN && !s.time.ppsOut && s.ppsPasses then s.drivePps true else s)

/-- OUT_WIDTH has passed since PPS_OUT rose (R288). -/
def execPpsOutFall (s : State) : Host.Outcome State Fault Refusal :=
  .next (s.onMain fun s =>
    if s.time.ppsOut && decide (s.time.ppsRose + 1000 * s.rd F.PPS_OUT_WIDTH.WIDTH ≤ s.clock) then s.drivePps false else s)

/-! ## TPULSE (R289, R290) -/

def tpulseIdle : Tpulse := ⟨0, false, false, 0⟩

def State.tp (s : State) (n : Nat) : Tpulse := sparseGet (fun _ => tpulseIdle) s.time.tp n

def State.setTp (s : State) (n : Nat) (t : Tpulse) : State :=
  { s with time := { s.time with tp := sparsePut (fun _ => tpulseIdle) s.time.tp n t } }

/-- The level of TPULSE pin `n`: active high, or active low with POLARITY 1 (R293). -/
def State.tpPin (s : State) (n : Nat) : Bool := (s.tp n).active != s.flag (F.TP_CFG.POLARITY n)

def State.tpStart (s : State) (n : Nat) : Nat := s.rdW (F.TP_START_SEC n) * 10 ^ 9 + s.rd (F.TP_START_NS.NS n)

/-- OFFSET in nanoseconds: signed, 4 ns units (R293). -/
def State.tpOffset (s : State) (n : Nat) : Int := 4 * s.rdS (F.TP_OFFSET.OFFSET n)

/-- The shortest interval between fires of output `n`; none where it fires once or never (R289). -/
def State.tpInterval (s : State) (n : Nat) : Option Nat :=
  match s.rd (F.TP_CFG.MODE n) with
  | 2 => some (s.rd (F.TP_PERIOD.NS n))
  | 3 => some s.frameNs
  | 4 => some s.slotNs
  | _ => none

/-- WIDTH obeys R289: 4 ns to 1 s, a multiple of 4, never more than the shortest interval between fires. -/
def State.tpWidthOk (s : State) (n : Nat) : Bool :=
  let w := s.rd (F.TP_WIDTH.NS n)
  decide (4 ≤ w) && decide (w ≤ 10 ^ 9) && w % 4 == 0 &&
    (match s.tpInterval n with | some i => decide (w ≤ i) | none => true)

/-- START is at least 1 µs in the future, the counter's fraction included, where the mode uses it (R290). -/
def State.tpStartOk (s : State) (n : Nat) : Bool :=
  let mode := s.rd (F.TP_CFG.MODE n)
  (mode != 1 && mode != 2) || decide (s.fineTime + 1000 * 2 ^ 40 ≤ s.tpStart n * 2 ^ 40)

def State.armTpulse (s : State) (n : Nat) : State :=
  if s.tpStartOk n && s.tpWidthOk n then
    (s.setFlag (F.TP_CTRL.ARMED n) true).setTp n { s.tp n with last := s.now, fired := false }
  else (s.setFlag (F.TP_CTRL.ARMED n) false).raise Src.TIME.TPULSE_REFUSED

/-- DISARM takes effect at once; a pulse already high is completed (R290). -/
def State.disarmTpulse (s : State) (n : Nat) : State := s.setFlag (F.TP_CTRL.ARMED n) false

/-- The latest time at or before now at which output `n` is due, in ns of network time (R289): START, START + m·PERIOD,
T(F) + OFFSET or B(F,k) + OFFSET; none while none has come, in MODE 0, and in PRE_EPOCH for FRAME and SLOT (R290). -/
def State.tpDue (s : State) (n : Nat) : Option Nat :=
  let now := s.now
  let start := s.tpStart n
  let onGrid (unit : Nat) : Option Nat :=
    let base : Int := (s.epoch : Int) + s.tpOffset n
    if s.preEpoch || decide ((now : Int) < base) || unit == 0 then none
    else some (base + (((now : Int) - base) / (unit : Int)) * (unit : Int)).toNat
  match s.rd (F.TP_CFG.MODE n) with
  | 1 => if start ≤ now then some start else none
  | 2 =>
    let p := s.rd (F.TP_PERIOD.NS n)
    if start ≤ now then some (start + (now - start) / p * p) else none
  | 3 => onGrid s.frameNs
  | 4 => onGrid s.slotNs
  | _ => none

/-- An armed output fires when a due time has come that it has not fired at since it was armed (R289, R499). -/
def State.fireTpulse (s : State) (n : Nat) : State :=
  let t := s.tp n
  match s.tpDue n with
  | some d =>
    if s.flag (F.TP_CTRL.ARMED n) && (decide (t.last < d) || (!t.fired && t.last == d)) then
      ((s.setTp n ⟨d, true, true, s.clock⟩).emitOut (.tpulse n (!s.flag (F.TP_CFG.POLARITY n)))).emitCode (codeTpulse n)
    else s
  | none => s

def execTpulseArm (m : Master) (n : Fin 16) (s : State) : Host.Outcome State Fault Refusal :=
  .next (s.gate m (F.TP_CTRL.ARM n).addr fun s => s.armTpulse n)

def execTpulseDisarm (m : Master) (n : Fin 16) (s : State) : Host.Outcome State Fault Refusal :=
  .next (s.gate m (F.TP_CTRL.ARM n).addr fun s => s.disarmTpulse n)

def execTpulseFire (n : Fin 16) (s : State) : Host.Outcome State Fault Refusal :=
  .next (s.onMain fun s => s.fireTpulse n)

/-- WIDTH has passed since the output fired (R289). -/
def State.endTpulse (s : State) (n : Nat) : State :=
  if (s.tp n).active && decide ((s.tp n).at_ + s.rd (F.TP_WIDTH.NS n) ≤ s.clock) then
    (s.setTp n { s.tp n with active := false }).emitOut (.tpulse n (s.flag (F.TP_CFG.POLARITY n)))
  else s

def execTpulseEnd (n : Fin 16) (s : State) : Host.Outcome State Fault Refusal :=
  .next (s.onMain fun s => s.endTpulse n)

end Sys2Proof.Machine
end

