-- ==== Sys2Proof/Machine/Hier.lean ====
section
/-! DEFINITION. Managers, workers and twins (R295–R317), and the frame boundary with all it does (R174, R200, R262, R279,
R301, R306–R308, R314, R316). -/

namespace Sys2Proof.Machine

/-! ## TIER_HELLO (R296, R306) -/

/-- The rank of the unit against its twin; equal claims are reported (R306). -/
def State.ranksFirst (s : State) : Bool :=
  let peer := s.rd F.PEER_INFO.PEER_CLAIM
  decide (peer < s.claim) || (peer == s.claim && decide (s.unitId < s.rd F.PEER_INFO.PEER_UNIT))

/-- The second comparison of R306, on one number of claim and unit; a failure of the device may upset its result, which the spec
names and does not time (log 26). -/
def State.ranksFirstAgain (s : State) : Bool :=
  decide (32 * s.rd F.PEER_INFO.PEER_CLAIM + (31 - s.rd F.PEER_INFO.PEER_UNIT) < 32 * s.claim + (31 - s.unitId)) !=
    Config.claimUpset s.clock

/-- Rank the unit: equal claims, and two results that differ, are reported (R306). -/
def State.rerank (s : State) : State :=
  let s1 := s.setFlag F.TWIN_STATUS.RANK s.ranksFirst
  let s2 := if s.rd F.PEER_INFO.PEER_CLAIM = s.claim then s1.raise Src.HIER.CLAIM_EQUAL else s1
  if s.ranksFirst = s.ranksFirstAgain then s2 else s2.raise Src.HIER.CLAIM_SELFCHECK

/-- The tags of a peer agree (R296). -/
def State.tagsAgree (s : State) (n : Nat) (p : TierHello) : Bool :=
  p.sysTag == s.hier.sysTag && (!s.isTwinLane n || p.composeTag == s.hier.composeTag)

def State.unitExpected (s : State) (n : Nat) (p : TierHello) : Bool :=
  p.unit != s.unitId && p.unit == s.rd (F.TIER_PEER.UNIT n)

/-- What a TIER_HELLO tells of the peer. -/
def State.notePeer (s : State) (n : Nat) (p : TierHello) : State :=
  let l := s.lane n
  let s1 := s.setLane n { l with
    nextSeq := p.nextSeq, gotSeen := l.gotSeen || p.peerSeen, peerTwin := p.twinLane, peerClaim := p.claim, peerUnit := p.unit }
  let s2 := ((s1.setFlag (F.LANE_STATUS.PEER_SEEN n) true).wrW (F.PEER_MAC n) p.mac)
  let s3 := (List.range 4).foldl (fun s j => s.wr (F.PEER_IP.ADDR n j) (p.ip.getD j 0).toNat) s2
  if s.isTwinLane n then
    (((s3.wr F.PEER_INFO.PEER_CLAIM p.claim).wr F.PEER_INFO.PEER_UNIT p.unit).wr F.PEER_INFO.PEER_STATE p.twinState).rerank
  else s3

def State.takeTierHello (s : State) (n : Nat) (p : TierHello) : State :=
  let tags := s.tagsAgree n p
  let s1 := s.setFlag (F.TIER_PEER.TAG_OK n) tags
  let unit := s.unitExpected n p
  if s.laneIsUp n then s.notePeer n p
  else if tags && unit then (s1.notePeer n p).laneUpIfReady n
  else
    let s2 := if tags then s1 else s1.raise Src.HIER.SYSTAG_MISMATCH
    if unit then s2 else s2.raise Src.HIER.UNIT_CONFLICT

def State.serveTierHello (s : State) (n : Nat) (h : KHeader) (p : TierHello) : State :=
  if h.crcOk && s.typeAllowed n 0x20 0 && p.version != 1 then
    if s.rd (F.LANE_STATUS.STATE n) = 0 then s else s.raise Src.KOWIN.VERSION_MISMATCH
  else s.acceptMsg n { h with type := 0x20 } 0 fun s => s.takeTierHello n p

def execTierHello (n : Fin 64) (h : KHeader) (p : TierHello) (s : State) : Host.Outcome State Fault Refusal :=
  .next (s.onMain fun s => s.serveTierHello n h p)

/-- A tier message other than TIER_HELLO, admitted; its credit returns once it has been processed (R231, R298). -/
def State.serveTier (s : State) (n type : Nat) (h : KHeader) (act : State → State) : State :=
  s.acceptMsg n { h with type := type } 0 fun s => (act s).giveCredit n

/-! ## A worker's copies of a frame (R303) -/

def bufEmpty (f : Nat) : RxBuf := ⟨f, [], none, 0, 0⟩

/-- The receive buffer of a manager lane for the frame to be committed next. -/
def State.rxBuf (s : State) (n : Nat) : RxBuf :=
  let f := s.frame + 1
  match s.hier.bufs.lookup n with
  | some b => if b.frame = f then b else bufEmpty f
  | none => bufEmpty f

def State.setRxBuf (s : State) (n : Nat) (b : RxBuf) : State :=
  { s with hier := { s.hier with bufs := (s.hier.bufs.filter fun e => e.1 != n) ++ [(n, b)] } }

def State.takeAccord (s : State) (n : Nat) (p : AccordMsg) : State :=
  if !s.follows then s.unknownType
  else
    let b := s.rxBuf n
    if p.frame = b.frame then
      s.setRxBuf n { b with records := (b.records.filter fun e => e.1 != p.slot) ++ [(p.slot, p.record)] }
    else s

def execAccord (n : Fin 64) (h : KHeader) (p : AccordMsg) (s : State) : Host.Outcome State Fault Refusal :=
  .next (s.onMain fun s => s.serveTier n 0x21 h fun s => s.takeAccord n p)

/-- The records of a buffer in slot order, where it is complete (R303). -/
def State.completeCopy (s : State) (b : RxBuf) : Option (List Accord) :=
  match b.end_ with
  | none => none
  | some e =>
    let got := (List.range s.slots).filterMap fun k => (b.records.lookup k).map Accord.ofBytes
    if b.frame = s.frame + 1 ∧ got.length = s.slots ∧ e.records = s.slots ∧ got.all Accord.sound = true ∧
        e.recordsCrc = crcOfNats (got.map (·.hcrc)) then some got else none

/-- The manager lanes of a worker (R303). -/
def State.mgrLanes (s : State) : List Nat :=
  s.rd F.FOLLOW_CFG.MGR_LANE_A :: (if s.flag F.FOLLOW_CFG.B_VALID then [s.rd F.FOLLOW_CFG.MGR_LANE_B] else [])

/-- `x` ranks above `y`: the higher claim, the lower unit on equal claims (R303, R306). -/
def ranksAbove (claim unit claim' unit' : Nat) : Bool := decide (claim' < claim) || (claim == claim' && decide (unit < unit'))

/-- Commit a copy to the bank of the coming frame. -/
def State.commitCopy (s : State) (b : RxBuf) (records : List Accord) (survivor : Bool) : State :=
  let f := s.frame + 1
  let s1 := ((List.range records.length).zip records).foldl (fun s x => s.setRecord (bankRecord f x.1) x.2) s
  let s2 := ((s1.setBank f 2).wr F.FOLLOW_STATUS.LAST_UNIT b.unit).setFlag F.FOLLOW_STATUS.SURVIVOR survivor
  if survivor then (s2.bump F.SURVIVOR_CNT).raise Src.HIER.SURVIVOR else s2

/-- FOLLOW_COMMIT, T(F+1) − WORKER_MARGIN (R303). -/
def State.followCommit (s : State) : State :=
  let f := s.frame + 1
  if !s.follows || s.bank f != 1 then s
  else
    let copies := (s.mgrLanes.filterMap fun n => (s.completeCopy (s.rxBuf n)).map fun r => (s.rxBuf n, r))
    match copies with
    | [] => ((s.discardFrame f).bump F.FOLLOW_DISCARD_CNT).raise Src.HIER.FOLLOW_DISCARD
    | [x] => s.commitCopy x.1 x.2 (decide (1 < s.mgrLanes.length))
    | x :: y :: _ =>
      let best := if ranksAbove y.1.claim y.1.unit x.1.claim x.1.unit then y else x
      let s1 := s.commitCopy best.1 best.2 false
      if crcOfNats (x.2.map (·.hcrc)) = crcOfNats (y.2.map (·.hcrc)) then s1 else s1.raise Src.HIER.TWIN_DIVERGE

def execFollowCommit (s : State) : Host.Outcome State Fault Refusal := .next (s.onMain State.followCommit)

/-! ## FRAME_END (R303, R311, R314) -/

/-- TWIN_STATUS.PHASE of a joiner that catches up: HANDOVER once only the next boundary is awaited (R314, R318, log 26). -/
def State.joinPhase (s : State) : State :=
  match s.hier.join.bind fun j => j.composed with
  | some c =>
    s.wr F.TWIN_STATUS.PHASE (if s.frame < c ∧ s.rd F.MATCH_CFG.MATCH_REQ ≤ s.rd F.TWIN_STATUS.MATCH_RUN then 4 else 3)
  | none => s

/-- Compare one frame of a joiner's with the source's (R311); a difference ends the attempt (R315). -/
def State.compareJoin (s : State) : State :=
  match s.hier.join with
  | none => s
  | some j =>
    match j.own.find? fun x => j.ends.any fun y => y.frame == x.frame with
    | none => s
    | some x =>
      let same := j.ends.any fun y => y.frame == x.frame && y.digest == x.digest && y.stateCrc == x.stateCrc &&
        y.standSeq == x.standSeq
      let s1 := { s with hier := { s.hier with join := some { j with
        own := j.own.filter fun z => decide (x.frame < z.frame), ends := j.ends.filter fun z => decide (x.frame < z.frame) } } }
      if same then (s1.wr F.TWIN_STATUS.MATCH_RUN (min 65535 (s1.rd F.TWIN_STATUS.MATCH_RUN + 1))).joinPhase
      else
        (((s1.wr F.TWIN_STATUS.MATCH_RUN 0).bump F.DIVERGE_FRAMES).raise Src.HIER.TWIN_DIVERGE).joinFails 7

/-- The twin's FRAME_END at a manager. -/
def State.twinFrameEnd (s : State) (p : FrameEndMsg) : State :=
  let s1 := (s.wrW F.PEER_DIGEST_FRAME p.frame).wr F.PEER_DIGEST.DIGEST p.digest
  if s.twin = 4 then { s1 with hier := { s1.hier with twinEnd := some p } }.compareEnds
  else
    match s1.hier.join with
    | some j => { s1 with hier := { s1.hier with join := some { j with ends := j.ends ++ [p] } } }.compareJoin
    | none => s1

def State.takeFrameEnd (s : State) (n : Nat) (h : KHeader) (p : FrameEndMsg) : State :=
  if s.isManager then s.twinFrameEnd p
  else
    let b := s.rxBuf n
    if s.follows && p.frame == b.frame then s.setRxBuf n { b with end_ := some p, claim := h.claim, unit := h.unit } else s

def execFrameEnd (n : Fin 64) (h : KHeader) (p : FrameEndMsg) (s : State) : Host.Outcome State Fault Refusal :=
  .next (s.onMain fun s => s.serveTier n 0x22 h fun s => s.takeFrameEnd n h p)

/-! ## STANDING at a worker (R304) -/

/-- Arm record `n` with the record of a STANDING ARM: the manager has checked it (R190, R304). -/
def State.armCopy (s : State) (p : StandingMsg) : State :=
  let n := p.index % 16
  let s1 := s.setRecord (standRecord n) (Accord.ofBytes p.record)
  let base := s1.standing.litPairs
  let mine := (s1.record (standRecord n)).litPairs
  ((s1.setArmed n true).setEligible n (s.planeMode == 0)).setAlternate n
    (some ⟨mine.filter fun x => !base.contains x, base.filter fun x => !mine.contains x, none⟩)

/-- Two messages are copies of one arm or one disarm: the same record number, and for an arm the same BASE_SEQ, which an arm
and each rebuild after it set anew (R190, R191, log 26). -/
def sameArm (p q : StandingMsg) : Bool :=
  p.kind == q.kind && p.index % 16 == q.index % 16 &&
    (p.kind == 2 || (Accord.ofBytes p.record).baseSeq == (Accord.ofBytes q.record).baseSeq)

/-- ARM or DISARM takes effect (R304). -/
def State.applyArm (s : State) (p : StandingMsg) : State :=
  if p.kind = 1 then s.armCopy p else s.dropAlternate (p.index % 16)

def State.setArms (s : State) (l : List StandCopy) : State := { s with hier := { s.hier with arms := l } }

/-- ARM or DISARM from a manager: the first copy takes effect. The other manager's copy of it changes nothing, but where the
records differ the higher claim's stands, unless a later message has followed, and TWIN_DIVERGE is raised (R304). -/
def State.takeArm (s : State) (h : KHeader) (p : StandingMsg) : State :=
  let l := s.hier.arms
  match l.find? fun c => c.unit != h.unit && sameArm c.msg p with
  | none =>
    let s1 := s.applyArm p
    if s.flag F.FOLLOW_CFG.B_VALID then s1.setArms (l ++ [⟨h.claim, h.unit, p⟩]) else s1
  | some c =>
    let mine (d : StandCopy) : Bool := d.unit == c.unit && d.msg.index % 16 == p.index % 16
    let later := (l.dropWhile fun d => d != c).drop 1
    let s1 := s.setArms ((l.filter fun d => !mine d || later.contains d))
    if p.kind = 2 ∨ c.msg.record = p.record then s1
    else
      let s2 := if ranksAbove h.claim h.unit c.claim c.unit && !later.any mine then s1.armCopy p else s1
      s2.raise Src.HIER.TWIN_DIVERGE

def State.takeStanding (s : State) (h : KHeader) (p : StandingMsg) : State :=
  if !s.follows then s.unknownType
  else
    match p.kind with
    | 0 =>
      let others := s.hier.stands.filter fun c =>
        !(c.unit == h.unit && c.msg.frame == p.frame && c.msg.slot == p.slot)
      { s with hier := { s.hier with stands := others ++ [⟨h.claim, h.unit, p⟩] } }
    | 1 | 2 => s.takeArm h p
    | _ => s

def execStanding (n : Fin 64) (h : KHeader) (p : StandingMsg) (s : State) : Host.Outcome State Fault Refusal :=
  .next (s.onMain fun s => s.serveTier n 0x23 h fun s => s.takeStanding h p)

/-- The highest-ranking of some copies. -/
def bestCopy : List StandCopy → Option StandCopy
  | [] => none
  | c :: cs =>
    match bestCopy cs with
    | some d => if ranksAbove d.claim d.unit c.claim c.unit then some d else some c
    | none => some c

/-- At an apply boundary − 1 µs the chosen copy of that boundary goes to its record, which becomes S at the boundary (R304). -/
def State.workerStanding (s : State) : State :=
  let at_ (c : StandCopy) : Nat := s.boundaryTime (s.slotNumber c.msg.frame c.msg.slot)
  let due := s.hier.stands.filter fun c => decide (s.now < at_ c) && decide (at_ c ≤ s.now + 1004)
  let next := due.foldl (fun b c => min b (at_ c)) (s.now + 1004)
  match bestCopy (due.filter fun c => at_ c == next) with
  | none => s
  | some c =>
    let n := c.msg.index % 16
    let a := Accord.ofBytes c.msg.record
    let u : Update := ⟨a, n, c.msg.frame, c.msg.slot, false, s.now, [], [], [], [], []⟩
    let s1 := s.setRecord (standRecord n) a
    let s2 := { s1 with hier := { s1.hier with stands := s1.hier.stands.filter fun d => decide (at_ c < at_ d) } }
    (s2.setPlane { s2.plane with updates := s2.plane.updates ++ [u] }).showPending

def execWorkerStandingApply (s : State) : Host.Outcome State Fault Refusal :=
  .next (s.onMain fun s => if s.follows then s.workerStanding else s)

/-! ## SWITCH (R304, R310) -/

/-- SWITCH APPLY at a worker or a standby: at its B, or late at the first scheduled strobe 400 ns on, or where none is
scheduled at an inserted one. -/
def State.takeApply (s : State) (p : SwitchMsg) : State :=
  let key := (p.index, p.frame, p.slot, p.offset)
  if s.hier.lastSwitch == some key then s
  else
    let b := s.boundaryTime (s.slotNumber p.frame p.slot) + p.offset
    let late := decide (b < s.now + 400)
    let t : Taken :=
      if !late then ⟨p.index % 16, b, p.inserted⟩
      else
        match s.nextStrobe (s.now + 399) with
        | some x => ⟨p.index % 16, x, false⟩
        | none => ⟨p.index % 16, (s.now + 400 + 3) / 4 * 4, true⟩
    let s1 := (s.setPlane { s.plane with taken := some t }).setFlag F.STANDING_STATUS.SWITCH_BUSY true
    let s2 := { s1 with hier := { s1.hier with lastSwitch := some key } }
    if late then s2.raise Src.HIER.SWITCH_LATE else s2

/-- APPLY goes to workers and to the twin, REQUEST from the standby to the lead (R297, R310). -/
def State.takeSwitchMsg (s : State) (p : SwitchMsg) : State :=
  if s.isManager then
    if p.op = 0 then (if s.twin = 4 then s.takeApply p else s)
    else if p.op = 1 then (if s.twin = 4 && !s.standby then s.requestSwitch (p.index % 16) else s)
    else s
  else if !s.follows || p.op != 0 then s.unknownType
  else s.takeApply p

def execSwitch (n : Fin 64) (h : KHeader) (p : SwitchMsg) (s : State) : Host.Outcome State Fault Refusal :=
  .next (s.onMain fun s => s.serveTier n 0x24 h fun s => s.takeSwitchMsg p)

/-! ## Twin commands (R308, R313) -/

def State.twinRefused (s : State) : State := s.raise Src.HIER.TWIN_REFUSED

/-- TWIN_CMD.LEAD takes a waiting manager to ALONE (R308). -/
def State.twinLead (s : State) : State := if s.twin = 1 then s.wr F.TWIN_STATUS.STATE 2 else s.twinRefused

def execTwinCmdLead (m : Master) (s : State) : Host.Outcome State Fault Refusal :=
  .next (s.gate m F.TWIN_CMD.LEAD.addr State.twinLead)

/-- The first failing condition of R313 at the joiner, as its cause. -/
def State.joinBarred (s : State) : Option Nat :=
  let n := s.rd F.HIER_INFO.TWIN_LANE
  if !(s.isTier n && s.laneIsUp n) then some 2
  else if s.rd F.PEER_INFO.PEER_CLAIM ≤ s.claim then some 1
  else if (s.rd F.TIER_CFG.TIME_TOL_NS : Int) < (s.rdS (F.TIME_OFFSET.NS n)).natAbs then some 4
  else if s.time.step.isSome then some 10
  else none

def State.twinResync (s : State) : State :=
  if s.twin != 1 then s.twinRefused
  else
    match s.joinBarred with
    | some cause => (s.toTwin 0x25 (resyncBytes ⟨3, cause, 0⟩)).resyncReport cause
    | none =>
      let s1 := ((s.wr F.TWIN_STATUS.STATE 3).wr F.TWIN_STATUS.PHASE 1).wr F.TWIN_STATUS.MATCH_RUN 0
      let j : Join := ⟨none, 0, [], none, 0, [], [], s.frame⟩
      { s1 with hier := { s1.hier with join := some j } }.toTwin 0x25 (resyncBytes ⟨0, 0, 0⟩)

def execTwinCmdResync (m : Master) (s : State) : Host.Outcome State Fault Refusal :=
  .next (s.gate m F.TWIN_CMD.RESYNC.addr fun s => s.twinResync)

def State.twinWithdraw (s : State) : State :=
  match s.twin with
  | 2 | 4 => s.enterWait 3
  | 3 => ((s.toTwin 0x25 (resyncBytes ⟨3, 11, 0⟩)).resyncReport 11).enterWait 3
  | _ => s.twinRefused

def execTwinCmdWithdraw (m : Master) (s : State) : Host.Outcome State Fault Refusal :=
  .next (s.gate m F.TWIN_CMD.WITHDRAW.addr fun s => s.twinWithdraw)

/-- A CLAIM write is held to the next frame boundary (R306). -/
def execClaimWrite (m : Master) (w : Fin 65536) (s : State) : Host.Outcome State Fault Refusal :=
  .next (s.gate m F.CLAIM.VAL.addr fun s => s.holdLv F.CLAIM.VAL.addr (BitVec.ofNat 32 w))

/-! ## RESYNC (R314, R315) -/

/-- The first frame whose boundary lies at least 10 µs from now. -/
def State.checkpointFrame (s : State) : Nat := (s.now + 10000 - s.epoch + s.frameNs - 1) / s.frameNs

def State.takeResync (s : State) (p : ResyncMsg) : State :=
  match p.op with
  | 0 =>
    if s.twin = 2 ∧ s.time.step.isNone = true then
      let fc := s.checkpointFrame
      ({ s with hier := { s.hier with serve := some fc } }.wrW F.CKPT_FRAME fc).toTwin 0x25 (resyncBytes ⟨1, 0, fc⟩)
    else (s.toTwin 0x25 (resyncBytes ⟨3, 3, 0⟩)).resyncReport 3
  | 1 =>
    match s.hier.join with
    | some j =>
      if j.frame.isNone then
        ({ s with hier := { s.hier with join := some { j with frame := some p.frame } } }.wrW F.CKPT_FRAME p.frame).wr
          F.TWIN_STATUS.PHASE 2
      else s
    | none => s
  | 2 =>
    if s.twin = 2 then
      { (s.wr F.TWIN_STATUS.STATE 4) with hier := { s.hier with serve := none, ownEnd := none, twinEnd := none } }.bump F.RESYNCS
    else s
  | 3 =>
    if s.twin = 3 then (s.resyncReport p.cause).enterWait 2
    else { s with hier := { s.hier with serve := none } }.resyncReport p.cause
  | _ => s

def execResync (n : Fin 64) (h : KHeader) (p : ResyncMsg) (s : State) : Host.Outcome State Fault Refusal :=
  .next (s.onMain fun s => s.serveTier n 0x25 h fun s => s.takeResync p)

/-! ## The checkpoint image (R316): words little-endian, the header as log 41 lays it out -/

def State.wordsAt (s : State) (l : List Nat) : List Byte := wordBytes (l.map s.word)

def sourceAddrs : List Nat := (List.range 64).flatMap fun a => (List.range 7).map fun w => 0x182000 + 32 * a + 4 * w
def shaperAddrs : List Nat := (List.range 2048).map fun w => 0x184000 + 4 * w
def virtualAddrs : List Nat := (List.range 256).map fun w => 0x186000 + 4 * w
def demandAddrs : List Nat := (List.range 32768).map fun w => 0x190000 + 4 * w
def tagAddrs : List Nat := (List.range 32768).map fun w => 0x1C0000 + 4 * w
def sysSeqAddrs : List Nat := (List.range 64).map fun n => (F.SYS_SEQ.SEQ n).addr

def padTo (n : Nat) (l : List Byte) : List Byte := l ++ List.replicate (n - l.length) 0

/-- Pending LV words of the COMPOSER block with their apply frames: a count, then address, word and frame of each. -/
def State.pendingLvBytes (s : State) : List Byte :=
  let l := s.comp.applyFrames.take 63
  padTo 1024 (leBytes 4 l.length ++ l.flatMap fun e =>
    List.flatten [leBytes 4 e.1, leBytes 4 (s.lvWord e.1).toNat, leBytes 8 e.2])

/-- A standing record with its apply boundary. -/
def standBytes (a : Accord) (frame slot n : Nat) : List Byte :=
  List.flatten [padTo 1152 a.bytes, leBytes 8 frame, leBytes 4 slot, leBytes 4 n]

def State.imageOf (s : State) (fc : Nat) : List Byte :=
  List.flatten [
    padTo 64 (List.flatten [leBytes 8 fc, leBytes 4 s.compStateCrc, leBytes 4 s.standSeq, leBytes 8 s.timeInc,
      leBytes 8 (s.rdW F.EPOCH_SEC), leBytes 4 (s.rd F.EPOCH_NS.NS)]),
    s.wordsAt sourceAddrs, s.wordsAt shaperAddrs, s.wordsAt virtualAddrs, s.wordsAt demandAddrs, s.wordsAt tagAddrs,
    s.pendingLvBytes, (List.range 8192).flatMap fun n => wordBytes (s.ctx n).snapshot,
    padTo 4676 (List.flatten [leBytes 4 (s.word F.STANDING_STATUS.ACTIVE.addr).toNat,
      standBytes s.standing s.standing.frame s.standing.applySlot s.activeIndex,
      s.plane.updates.flatMap fun u => standBytes u.accord u.frame u.slot u.record]),
    s.wordsAt sysSeqAddrs]

/-- Cut bytes into parts of at most 1,024 with their offsets. -/
def imageParts : Nat → Nat → List Byte → List (Nat × List Byte)
  | 0, _, _ => []
  | _, _, [] => []
  | fuel + 1, off, b :: bs => (off, (b :: bs).take 1024) :: imageParts fuel (off + 1024) ((b :: bs).drop 1024)

/-- At T(Fc) the source takes the image and sends it. A cut still in progress commits first, which its engine may do at any
time within 10 µs of it (R185). -/
def State.sendCheckpoint (s : State) (fc : Nat) : State :=
  let s1 := s.plane.cuts.foldl (fun s _ => s.commitStanding) s
  let image := s1.imageOf fc
  let crc := (crc32 image).toNat
  (imageParts 1024 0 image).foldl (fun s x =>
    s.toTwin 0x26 (checkpointBytes ⟨x.1, image.length, crc, x.2⟩)) s1

/-! ## Loading the image at the joiner (R314) -/

def leAt (bs : List Byte) (off n : Nat) : Nat := leNat (slice bs off n)

def State.loadWords (s : State) (bs : List Byte) (l : List Nat) : State :=
  ((List.range l.length).zip l).foldl (fun s x => s.setWord x.2 (BitVec.ofNat 32 (leAt bs (4 * x.1) 4))) s

/-- A context from its snapshot. -/
def ctxOf (b : List Byte) : Ctx :=
  let w0 := leAt b 0 4
  let w1 := leAt b 4 4
  let w2 := leAt b 8 4
  { state := w0 % 8, bidir := w0.testBit 3, agent := w0 / 16 % 8, owner := w0 / 2 ^ 8 % 64, src := w0 / 2 ^ 16 % 64
    dst := w0 / 2 ^ 24 % 64, id := w1 % 2 ^ 16, partner := w1 / 2 ^ 16 % 2 ^ 13, inPort := w2 % 512, outPort := w2 / 2 ^ 16 % 512
    setupSeq := leAt b 12 4, sec := leAt b 16 4, ns := leAt b 20 4, standSeq := leAt b 24 4, answers := [] }

/-- The setup a context was made for, as far as the context holds it. -/
def State.ctxSetup (s : State) (x : Ctx) : CircuitOp :=
  let y := s.ctx x.partner
  .setup ⟨x.id, x.bidir, x.dst, x.inPort, x.outPort, if x.bidir then y.inPort else 0, if x.bidir then y.outPort else 0, x.sec, x.ns⟩

/-- A pending update from the image: its circuits are those the contexts show (R242). -/
def State.updateOf (s : State) (b : List Byte) (earlier : List Nat) : Update :=
  let a := Accord.ofBytes (b.take 800)
  let pairs := a.litPairs
  let held := s.heldCtxs
  let lit := held.filter fun e => e.2.state == 1 && e.2.standSeq == a.seq
  let gone := held.filter fun e =>
    e.2.state == 3 && !pairs.contains (e.2.inPort, e.2.outPort) && !earlier.contains e.1
  let setups := (lit.filter fun e => e.2.src == e.2.owner).map fun e =>
    ((⟨e.2.owner, e.2.setupSeq, e.2.agent, s.ctxSetup e.2⟩ : StandOp), e.1)
  let releases := (gone.filter fun e => e.2.src == e.2.owner).map fun e =>
    ((⟨e.2.owner, e.2.setupSeq, e.2.agent, .release ⟨e.2.id, e.2.owner, e.2.sec, e.2.ns⟩⟩ : StandOp), e.1)
  let ops := setups ++ releases
  ⟨a, leAt b 1164 4, leAt b 1152 8, leAt b 1160 4, false, 0, ops.map (·.1), lit.map (·.1), gone.map (·.1),
    [], ops.map fun o => { answerOf o.1 true 0 with ctx := some o.2 }⟩

/-- The standing section: S and the pending updates. -/
def State.loadStanding (s : State) (b : List Byte) : State :=
  let status := leAt b 0 4
  let one (k : Nat) : List Byte := slice b (4 + 1168 * k) 1168
  let s1 := s.setWord F.STANDING_STATUS.ACTIVE.addr (BitVec.ofNat 32 status)
  let s2 := (s1.setRecord (standRecord s1.activeIndex) (Accord.ofBytes ((one 0).take 800))).setPlane
    { (s1.setRecord (standRecord s1.activeIndex) (Accord.ofBytes ((one 0).take 800))).plane with
      updates := [], cuts := [], replay := [] }
  let s3 := (List.range (s2.rd F.STANDING_STATUS.PEND_COUNT)).foldl (fun s k =>
    let u := s.updateOf (one (k + 1)) (s.plane.updates.flatMap fun v => v.freed)
    (s.setRecord (standRecord u.record) u.accord).setPlane
      { (s.setRecord (standRecord u.record) u.accord).plane with updates := s.plane.updates ++ [u] }) s2
  s3.showPending

/-- The pending LV section. -/
def State.loadPendingLv (s : State) (b : List Byte) : State :=
  (List.range (leAt b 0 4)).foldl (fun s k =>
    let off := 4 + 16 * k
    let s1 := s.holdLv (leAt b off 4) (BitVec.ofNat 32 (leAt b (off + 4) 4))
    { s1 with comp := { s1.comp with applyFrames := s1.comp.applyFrames ++ [(leAt b off 4, leAt b (off + 8) 8)] } })
    { s with comp := { s.comp with applyFrames := [] } }

/-- TIME_INC of the image differs by more than 100 ppb (R316). -/
def incSkewed (own other : Nat) : Bool := decide (own < 10 ^ 7 * ((own - other) + (other - own)))

/-- Replace the joiner's state with the image. A message that the source has issued before T(Fc) is not issued again. -/
def State.loadImage (s : State) (fc : Nat) (j : Join) : State :=
  let b := j.image
  let s1 := s.loadWords (slice b 64 1792) sourceAddrs
  let s2 := s1.loadWords (slice b 1856 8192) shaperAddrs
  let s3 := s2.loadWords (slice b 10048 1024) virtualAddrs
  let s4 := s3.loadWords (slice b 11072 131072) demandAddrs
  let s5 := s4.loadWords (slice b 142144 131072) tagAddrs
  let s6 := s5.loadPendingLv (slice b 273216 1024)
  let ctxs := (List.range 8192).map fun n => (n, ctxOf (slice b (274240 + 32 * n) 32))
  let s7 := s6.setPlane { s6.plane with ctxs := [] }
  let s8 := ctxs.foldl (fun s e => s.setCtx e.1 e.2) s7
  let s9 := (s8.loadStanding (slice b 536384 4676)).wr F.STANDING_SEQ.SEQ (leAt b 12 4)
  let s10 := s9.loadWords (slice b 541060 256) sysSeqAddrs
  let s11 := { s10 with issueq := s10.issueq.filter fun x => x.from_.any fun g => decide (s10.slotNumber fc 0 ≤ g) }.setPlane
    { s10.plane with ops := s10.plane.ops.filter fun o => decide (s10.slotNumber fc 0 ≤ s10.opBoundary o) }
  let s12 := (s11.releaseHeld fc).wr F.TWIN_STATUS.PHASE 3
  let s13 := { s12 with hier := { s12.hier with join := some { j with
    image := [], composed := some fc, slot := s12.slotNumber fc 0 } } }
  if incSkewed s13.timeInc (leAt b 16 8) then s13.raise Src.HIER.TIME_SKEW else s13

/-- A CHECKPOINT part; the last one is checked and loaded (R314). -/
def State.takeCheckpoint (s : State) (p : CheckpointMsg) : State :=
  match s.hier.join with
  | none => s
  | some j =>
    match j.frame, j.composed with
    | some fc, none =>
      let image := j.image.take p.offset ++ p.bytes
      let j1 := { j with image := image }
      let s1 := { s with hier := { s.hier with join := some j1 } }
      if image.length < p.total then s1
      else if image.length = p.total ∧ (crc32 image).toNat = p.crc then s1.loadImage fc j1
      else s1.joinFails 6
    | _, _ => s

def execCheckpoint (n : Fin 64) (h : KHeader) (p : CheckpointMsg) (s : State) : Host.Outcome State Fault Refusal :=
  .next (s.onMain fun s => s.serveTier n 0x26 h fun s => s.takeCheckpoint p)

/-! ## Catch-up (R314) -/

/-- Frame `f` has been composed: its FRAME_END is compared where the source's has come. -/
def State.ownJoinEnd (s : State) (f : Nat) : State :=
  let j : Option Join := s.hier.join.map fun j => { j with composed := some f }
  State.compareJoin { s with hier := { s.hier with join := j } }.joinPhase

/-- Compose the next frame after Fc from the held log; a frame that is already past or in progress never reaches the plane. -/
def State.catchUp (s : State) : State :=
  match s.hier.join.bind fun j => j.composed with
  | none => s
  | some c =>
    if s.frame < c ∨ s.planeMode = 0 then s
    else
      let f := c + 1
      let s1 := State.catchSlots 4096 s (s.slotNumber c 0)
      let keep := (s1.bank 0, s1.bank 1, s1.plane.pins, s1.plane.nextPins)
      let s2 := (s1.demandCut f).compositionCommit
      let s3 := if s.frame < f then s2
        else ((s2.setBank 0 keep.1).setBank 1 keep.2.1).setPlane
          { s2.plane with pins := keep.2.2.1, nextPins := keep.2.2.2 }
      s3.ownJoinEnd f

def execCatchupCompose (s : State) : Host.Outcome State Fault Refusal := .next (s.onMain State.catchUp)

/-! ## RELAY (R240, R299, R300) -/

/-- An inner message of an endpoint, at the manager: R228 applies to it with the endpoint's own last accepted SEQ. -/
def State.serveInner (s : State) (n : Nat) (p : RelayMsg) : State :=
  let h := headerOf p.inner
  let a := p.lane
  let body := slice p.inner 20 (h.length - 20)
  let rx := stampNs p.rx
  let take (act : State → State) : State := s.sequence a (F.RX_SEQ.SEQ a) h.seq id act
  if !h.crcOk || decide (64 ≤ a) then s.malformed n
  else
    match h.type with
    | 2 =>
      match demandOf body with
      | some d => if demandBad h d then s.malformed n else take fun s => s.takeDemand a false h rx p.inner d
      | none => s.malformed n
    | 4 =>
      match setupOf body with
      | some d => take fun s => s.takeCircuit a h rx p.inner (.setup d)
      | none => s.malformed n
    | 7 =>
      match releaseOf body with
      | some d => take fun s => s.takeCircuit a h rx p.inner (.release d)
      | none => s.malformed n
    | 9 =>
      match statusOf body with
      | some d => take fun s => s.takeStatus a d
      | none => s.malformed n
    | _ => s.unknownType

/-- An inner message for an endpoint, at a worker: forwarded on its card lane, or dropped where that is not UP (R300). -/
def State.forwardInner (s : State) (p : RelayMsg) : State :=
  let h := headerOf p.inner
  if !s.follows then s
  else if s.isCard p.lane && s.laneIsUp p.lane then
    s.queueTx p.lane ⟨h.type, h.seq, true, false, if h.type = 3 then some (beAt p.inner 20 8) else none, [], some p.inner⟩
  else (s.bump F.RELAY_DROP_CNT).raise Src.HIER.RELAY_DROP

def State.serveRelay (s : State) (n : Nat) (h : KHeader) (p : RelayMsg) : State :=
  s.acceptMsg n { h with type := 0x0B } p.dir fun s =>
    (if s.isManager then s.serveInner n p else s.forwardInner p).giveCredit n

def execRelay (n : Fin 64) (h : KHeader) (p : RelayMsg) (s : State) : Host.Outcome State Fault Refusal :=
  .next (s.onMain fun s => s.serveRelay n h p)

end Sys2Proof.Machine
end

