-- ==== Sys2Proof/Machine/Rings.lean ====
section
/-! DEFINITION. Rings of blocks or entries in BAR2 memory (R108, R109, R114, R267, R271, R285): pointers, FILL, the watermark,
and the writes that a ring's rules refuse. -/

namespace Sys2Proof

open Sys2Proof.Machine

/-- Address of a ring's first register word. -/
def RingId.addr : RingId → Nat
  | .sillage n => 0x1000100 + 32 * n.val
  | .parser n => 0xE0100 + 32 * n.val
  | .ptx => 0x80100

/-- The ring lies in capture memory; the others lie in working SRAM. -/
def RingId.capture : RingId → Bool
  | .sillage _ => true
  | _ => false

/-- Bytes of a block or entry, which is also the unit of BASE (R107, R114, R271). -/
def RingId.unit (r : RingId) : Nat := if r.capture then 4096 else 2048

/-- The most blocks or entries SIZE may name. -/
def RingId.maxSize (r : RingId) : Nat := if r.capture then 8192 else 4096

/-- Where the ring's memory begins in BAR2, and the bytes of it a ring may take (R398, R469). -/
def RingId.memBase (r : RingId) : Nat := if r.capture then 0 else 0x2000000
def RingId.memSize (r : RingId) : Nat := if r.capture then 0x2000000 else 0x780000

def RingId.base (r : RingId) : Field := ⟨r.addr, if r.capture then 12 else 11, if r.capture then 13 else 12⟩
def RingId.size (r : RingId) : Field := ⟨r.addr + 4, 0, if r.capture then 14 else 13⟩
def RingId.wr (r : RingId) : Field := ⟨r.addr + 8, 0, if r.capture then 13 else 12⟩
def RingId.wrWrap (r : RingId) : Field := ⟨r.addr + 8, 16, 1⟩
def RingId.rd (r : RingId) : Field := ⟨r.addr + 12, 0, if r.capture then 13 else 12⟩
def RingId.rdWrap (r : RingId) : Field := ⟨r.addr + 12, 16, 1⟩
def RingId.wmark (r : RingId) : Field := ⟨r.addr + 16, 0, if r.capture then 14 else 13⟩
def RingId.enable (r : RingId) : Field := ⟨r.addr + 20, 0, 1⟩
def RingId.fill (r : RingId) : Field := ⟨r.addr + 24, 0, if r.capture then 14 else 13⟩
def RingId.wmarkHit (r : RingId) : Field := ⟨r.addr + 24, 16, 1⟩
def RingId.overrun (r : RingId) : Field := ⟨r.addr + 24, 17, 1⟩

/-- The Mortar producer of the ring's watermark (R437); the transmit ring has none. -/
def RingId.wmarkCode : RingId → Option Nat
  | .sillage n => some (23 * 64 + 8 + n.val)
  | .parser n => some (17 * 64 + 1 + n.val)
  | .ptx => none

/-- The rings of working SRAM and those of capture memory. -/
def RingId.all : List RingId :=
  List.flatten [(List.finRange 8).map RingId.sillage, (List.finRange 2).map RingId.parser, [RingId.ptx]]

/-- The address of a ring word. -/
def RingId.wordAddr (r : RingId) : RingWord → Nat
  | .base => r.addr
  | .size => r.addr + 4
  | .cfg => r.addr + 20

end Sys2Proof

namespace Sys2Proof.Machine

def State.ringOn (s : State) (r : RingId) : Bool := s.flag r.enable

/-- A pointer as a place among twice SIZE: the index, and SIZE more while the wrap bit is set. -/
def State.ringPlace (s : State) (r : RingId) (index wrap : Nat) : Nat := index + wrap * s.rd r.size

/-- WR − RD in blocks for pointers given as places (R108). -/
def State.ringDistance (s : State) (r : RingId) (w d : Nat) : Nat :=
  let n := 2 * s.rd r.size
  (w + n - d % n) % n

/-- FILL (R108). -/
def State.ringFill (s : State) (r : RingId) : Nat :=
  s.ringDistance r (s.ringPlace r (s.rd r.wr) (s.rd r.wrWrap)) (s.ringPlace r (s.rd r.rd) (s.rd r.rdWrap))

def State.ringFull (s : State) (r : RingId) : Bool := decide (s.rd r.size ≤ s.ringFill r)

/-- BAR2 offset of block `i` of the ring. -/
def State.ringBlock (s : State) (r : RingId) (i : Nat) : Nat := r.memBase + (s.rd r.base + i) * r.unit

/-- The pointers changed: FILL is shown, and WMARK_HIT raised where FILL rose to WMARK or above, from `before` (R109). -/
def State.ringMoved (s : State) (r : RingId) (before : Nat) : State :=
  let fill := s.ringFill r
  let mark := s.rd r.wmark
  let s1 := s.wr r.fill fill
  if mark ≠ 0 ∧ before < mark ∧ mark ≤ fill then
    let s2 := s1.setEvent r.wmarkHit
    match r.wmarkCode with
    | some c => s2.emitCode c
    | none => s2
  else s1

/-- A pointer one block on: its index and wrap bit. -/
def State.ringNext (s : State) (r : RingId) (index wrap : Nat) : Nat × Nat :=
  if index + 1 < s.rd r.size then (index + 1, wrap) else (0, 1 - wrap)

/-- The writer has written a whole block: WR moves on (R108). -/
def State.ringPush (s : State) (r : RingId) : State :=
  let p := s.ringNext r (s.rd r.wr) (s.rd r.wrWrap)
  ((s.wr r.wr p.1).wr r.wrWrap p.2).ringMoved r (s.ringFill r)

/-- RD moves on by one block. -/
def State.ringPop (s : State) (r : RingId) : State :=
  let p := s.ringNext r (s.rd r.rd) (s.rd r.rdWrap)
  ((s.wr r.rd p.1).wr r.rdWrap p.2).ringMoved r (s.ringFill r)

/-- A ring write is refused, reported by the ring's block (R108, R267; of the transmit ring, log 45). -/
def State.ringRefused (s : State) : RingId → State
  | .sillage _ => s.raise Src.SILLAGE.RING_CFG
  | .parser _ => (s.bump F.PARSER_WRITE_REFUSED_CNT).raise Src.PARSER.WRITE_REFUSED
  | .ptx => s.raise Src.TIME.TIME_REFUSED

/-- A write of RD, or of the transmit ring's WR by the host that fills it: refused where FILL would be negative or greater than
SIZE (R108). -/
def State.writeRingPtr (s : State) (r : RingId) (isRd : Bool) (w : Word) : State :=
  let iw := if r.capture then 13 else 12
  let index := bitsOf w 0 iw
  let wrap := bitsOf w 16 1
  let size := s.rd r.size
  let place := s.ringPlace r index wrap
  let wr := if isRd then s.ringPlace r (s.rd r.wr) (s.rd r.wrWrap) else place
  let rd := if isRd then place else s.ringPlace r (s.rd r.rd) (s.rd r.rdWrap)
  if size ≤ index ∨ size < s.ringDistance r wr rd then s.ringRefused r
  else
    let f := if isRd then r.rd else r.wr
    let g := if isRd then r.rdWrap else r.wrWrap
    ((s.wr f index).wr g wrap).ringMoved r (s.ringFill r)

/-- The first byte of the ring in its memory, and the byte after its last. -/
def State.ringExtent (s : State) (r : RingId) : Nat × Nat :=
  (s.rd r.base * r.unit, (s.rd r.base + s.rd r.size) * r.unit)

/-- The rings a ring must be clear of to be enabled: of Sillage's the enabled ones (R108), of the parser's two the other, enabled or
not (R267). -/
def State.ringRivals (s : State) (r : RingId) : List RingId :=
  RingId.all.filter fun q => q != r && (match r, q with
    | .sillage _, .sillage _ => s.ringOn q
    | .parser _, .parser _ => true
    | _, _ => false)

/-- The ring may be enabled: a SIZE in range, an extent inside its memory and clear of the restricted regions and of its rivals
(R108, R267, R469). -/
def State.ringFits (s : State) (r : RingId) : Bool :=
  let e := s.ringExtent r
  decide (1 ≤ s.rd r.size) && decide (s.rd r.size ≤ r.maxSize) && decide (e.2 ≤ r.memSize) &&
    (s.ringRivals r).all fun q =>
      s.rd q.size == 0 ||
        (let f := s.ringExtent q
         decide (e.2 ≤ f.1) || decide (f.2 ≤ e.1))

/-- A write of BASE or SIZE: refused while the ring is enabled (R108, R271). -/
def State.writeRingField (s : State) (r : RingId) (f : Field) (w : Word) : State :=
  if s.ringOn r then s.ringRefused r
  else
    let s1 := s.wr f (bitsOf w f.lsb f.width)
    s1.wr r.fill (s1.ringFill r)

/-- POLICY and SOURCE of a Sillage ring, refused where they would change while it is enabled; SOURCE 2 and 3 always (R108,
R114). -/
def State.writeRingPolicy (s : State) (r : RingId) (w : Word) : State :=
  if !r.capture then s
  else
    let policy : Field := ⟨r.enable.addr, 1, 1⟩
    let source : Field := ⟨r.enable.addr, 2, 2⟩
    let p := bitsOf w 1 1
    let q := bitsOf w 2 2
    let changes := p != s.rd policy || q != s.rd source
    let s1 := if !s.ringOn r && decide (q < 2) then s.wr source q else s
    let s2 := if !s.ringOn r then s1.wr policy p else s1
    if (s.ringOn r && changes) || (!s.ringOn r && decide (2 ≤ q)) then s2.ringRefused r else s2

/-- A write of CFG: ENABLE is taken where the ring fits (R108, R267). -/
def State.writeRingCfg (s : State) (r : RingId) (w : Word) : State :=
  let s1 := s.writeRingPolicy r w
  if bitsOf w 0 1 = 0 then s1.setFlag r.enable false
  else if s1.ringOn r || s1.ringFits r then s1.setFlag r.enable true
  else s1.ringRefused r

/-- The effect of a write to a ring word. -/
def State.writeRingWord (s : State) (r : RingId) (w : Word) : RingWord → State
  | .base => s.writeRingField r r.base w
  | .size => s.writeRingField r r.size w
  | .cfg => s.writeRingCfg r w

def execRingRdWrite (m : Master) (r : RingId) (w : Word) (s : State) : Host.Outcome State Fault Refusal :=
  .next (s.gate m (r.addr + 12) fun s => s.writeRingPtr r true w)

def execRingEnableWrite (m : Master) (r : RingId) (x : RingWord) (w : Word) (s : State) :
    Host.Outcome State Fault Refusal :=
  .next (s.gate m (r.wordAddr x) fun s => s.writeRingWord r w x)

end Sys2Proof.Machine
end

