-- ==== Sys2Proof/Machine/Sillage.lean ====
section
/-! DEFINITION. Sillage capture (R104–R114): blocks, records, triggers and their registers. -/

namespace Sys2Proof.Machine

/-! ## Blocks (R107) -/

/-- Two 12-bit samples in three bytes (R107). -/
def pack12 : List (BitVec 12) → List Byte
  | a :: b :: rest =>
    a.setWidth 8 :: ((a >>> 8).setWidth 8 ||| (b.setWidth 8 <<< 4)) :: (b >>> 4).setWidth 8 :: pack12 rest
  | [a] => [a.setWidth 8, (a >>> 8).setWidth 8]
  | [] => []

/-- What a block says of its place in the capture. -/
structure BlockMarks where
  /-- The payload index of the trigger sample, where the block holds it. -/
  trigger : Option Nat
  start : Bool
  end_ : Bool
  truncated : Bool
  record : Option Nat
  pd : Nat
  deriving DecidableEq, Repr

/-- No trigger and no record; PD is not known to Sillage, to which no rule brings a tile's FAST_CFG (log 49). -/
def noMarks : BlockMarks := ⟨none, false, false, false, none, 0xFFFF⟩

/-- The header of a block (R107); `open_` fills TRIG_INDEX and RECORD_SEQ where they mean nothing. -/
def blockHeader (b : SilBlock) (k : BlockMarks) (seq gap : Nat) (open_ : List Byte) : List Byte :=
  let flags := (if gap = 0 then 0 else 1) + 2 * k.trigger.isSome.toNat + 4 * k.start.toNat + 8 * k.end_.toNat + 16 * b.clip.toNat +
    32 * k.truncated.toNat
  let h := List.flatten [[0x53, 0x49, 0x4C, 0x42], leBytes 4 seq, leBytes 8 b.sec, leBytes 4 b.ns, leBytes 4 b.frac,
    leBytes 2 b.samples, leBytes 1 b.source, leBytes 1 (if b.source = 3 then 1 else 0), leBytes 2 flags,
    (match k.trigger with | some i => leBytes 2 i | none => slice open_ 0 2), leBytes 4 gap, leBytes 2 b.line, leBytes 2 k.pd,
    (match k.record with | some r => leBytes 4 r | none => slice open_ 2 4), List.replicate 16 0]
  h ++ leBytes 4 (crc32 h).toNat

/-- The ring takes blocks of this kind: enabled, with the SOURCE of R114. -/
def State.ringTakes (s : State) (n : Fin 8) (source : Nat) : Bool :=
  s.ringOn (.sillage n) && s.rd (F.SILLAGE_RING_CFG.SOURCE n) == (if source = 3 then 1 else 0)

/-- A block is dropped and counted; the next one written carries GAP (R109). -/
def State.dropBlock (s : State) (n : Nat) : State :=
  let gap := sparseGet (fun _ => 0) s.sil.gaps n
  { s with sil := { s.sil with gaps := sparsePut (fun _ => 0) s.sil.gaps n (gap + 1) } }.bump F.BLOCKS_DROPPED

/-- OVERRUN of a ring (R109). -/
def State.ringOverrun (s : State) (n : Fin 8) : State :=
  ((s.setEvent (RingId.sillage n).overrun).raise Src.SILLAGE.OVERRUN).emitCode (23 * 64 + 16 + n.val)

/-- Write a block to its ring and advance WR (R108). -/
def State.putBlock (s : State) (n : Fin 8) (b : SilBlock) (k : BlockMarks) : State :=
  let r := RingId.sillage n
  let seq := sparseGet (fun _ => 0) s.sil.blockSeq n.val
  let gap := sparseGet (fun _ => 0) s.sil.gaps n.val
  let f := s.freshBytes 6
  let g := f.2.freshBytes (4032 - b.payload.length)
  let s1 := g.2.setMemBytes (s.ringBlock r (s.rd r.wr)) (List.flatten [blockHeader b k seq gap f.1, b.payload, g.1])
  let s2 : State := { s1 with sil := { s1.sil with
    blockSeq := sparsePut (fun _ => 0) s1.sil.blockSeq n.val (next32 seq)
    gaps := sparsePut (fun _ => 0) s1.sil.gaps n.val 0 } }
  (s2.bump F.BLOCKS_WRITTEN).ringPush r

/-- A complete block for a ring (R108, R109): written, dropped, or written over the oldest by POLICY. -/
def State.blockReady (s : State) (n : Fin 8) (b : SilBlock) (k : BlockMarks) (bus : SilBus) : State :=
  let r := RingId.sillage n
  match bus with
  | .stalled => s.dropBlock n
  | .error => (s.dropBlock n).raise Src.SILLAGE.WRITE_ERR
  | .written =>
    if !s.ringTakes n b.source then s.dropBlock n
    else if !s.ringFull r then s.putBlock n b k
    else if s.flag (F.SILLAGE_RING_CFG.POLICY n) then ((s.ringPop r).ringOverrun n).putBlock n b k
    else (s.dropBlock n).ringOverrun n

/-! ## Capture (R105, R111) -/

/-- The last `n` of a list. -/
def lastOf {α : Type} (n : Nat) (l : List α) : List α := l.drop (l.length - n)

/-- A block of ADC samples; `first` is the first sample's network time in units of 2^-40 ns. A last half-filled byte's upper
bits are open. -/
def State.adcBlock (s : State) (source line first : Nat) (xs : List (BitVec 12)) : SilBlock × State :=
  let v := xs.take 2688
  let r := s.freshValue
  let pad : List (BitVec 12) := if v.length % 2 = 1 then [r.1.setWidth 12] else []
  let ns := first / 2 ^ 40
  (⟨source, line, ns / 10 ^ 9, ns % 10 ^ 9, first % 2 ^ 40 / 2 ^ 8, v.length, v.any (fun x => x == 0 || x == 0xFFF),
    (pack12 (v ++ pad)).take ((3 * v.length + 1) / 2)⟩, r.2)

/-- The indices at which a stream passes through LEVEL, rising or falling, `last` being the sample before (R110). -/
def crossings (level : Nat) (rising : Bool) : Option Nat → Nat → List (BitVec 12) → List Nat
  | _, _, [] => []
  | last, i, x :: rest =>
    let v := x.toNat
    let hit := match last with
      | none => false
      | some u => if rising then decide (u ≤ level) && decide (level < v) else decide (level ≤ u) && decide (v < level)
    let more := crossings level rising (some v) (i + 1) rest
    if hit then i :: more else more

/-- The crossings of the watched stream, where TRIG_CFG watches a level (R110). -/
def State.levelHits (s : State) (ch : Nat) (xs : List (BitVec 12)) : List Nat :=
  let src := s.rd F.TRIG_CFG.SOURCE
  if src = 4 ∨ src = 5 then crossings (s.rd F.TRIG_CFG.LEVEL) (src == 4) (s.sil.last.lookup ch) 0 xs else []

/-- The latest sample of a stream is kept. -/
def State.keepLast (s : State) (ch : Nat) (xs : List (BitVec 12)) : State :=
  match xs.getLast? with
  | some x => { s with sil := { s.sil with last := sparseInsert s.sil.last ch x.toNat } }
  | none => s

/-- RECORD_END has been written: RECORD_DONE, and the capture re-arms after HOLDOFF or is no longer armed (R111). -/
def State.recordDone (s : State) : State :=
  let rearm := s.flag F.SIL_CTRL.AUTO_REARM
  { s with sil := { s.sil with
      recording := false, stop := false, trig := false
      history := if s.flag F.SIL_CTRL.ENABLE then s.sil.history else []
      recordSeq := next32 s.sil.recordSeq
      holdoff := rearm && s.rd F.TRIG_HOLDOFF.HOLDOFF != 0
      armed := s.sil.armed && rearm } }.emitCode (23 * 64)

/-- One stream's block of a record: before the block with the trigger, the history of the stream (R111). -/
def State.recordBlock (s : State) (n : Fin 8) (b : SilBlock) (trigAt : Nat) (bus : SilBus) (last : Bool) : State :=
  let dual := b.source != 2
  let pre := if s.sil.trig then
      lastOf (min (s.rd F.TRIG_WIN.PRE_BLK) (if dual then 8 else 16)) (s.sil.history.filter fun x => x.source == b.source)
    else []
  let marks : BlockMarks := { noMarks with record := some s.sil.recordSeq }
  let s1 := (pre.zip (List.range pre.length)).foldl (fun s e =>
    s.blockReady n e.1 { marks with start := e.2 == 0 } bus) s
  s1.blockReady n b { marks with
    trigger := if s.sil.trig then some trigAt else none
    start := s.sil.trig && pre.isEmpty
    end_ := last
    truncated := s.sil.stop } bus

/-- The latest 16 blocks are kept, those of a record too: the next record's PRE_BLK blocks may be among them (R111). -/
def State.keepBlocks (s : State) (bs : List (Fin 8 × SilBlock)) : State :=
  { s with sil := { s.sil with history := lastOf 16 (s.sil.history ++ bs.map (·.2)) } }

/-- The blocks of the streams, complete together, with their rings (R105, R111). -/
def State.captureBlocks (s : State) (bs : List (Fin 8 × SilBlock)) (trigAt : Nat) (bus : SilBus) : State :=
  let s0 := if bs.any fun e => e.2.clip then s.raise Src.SILLAGE.ADC_CLIP else s
  if !s0.flag F.SIL_CTRL.CAPTURE then
    let marks : BlockMarks := { noMarks with trigger := if s0.sil.trig then some trigAt else none }
    let s1 := bs.foldl (fun s e => s.blockReady e.1 e.2 marks bus) s0
    { s1 with sil := { s1.sil with trig := false } }
  else if !s0.sil.recording then s0.keepBlocks bs
  else
    let last := s0.sil.stop || s0.sil.postLeft == 1
    let s1 := (bs.foldl (fun s e => s.recordBlock e.1 e.2 trigAt bus last) s0).keepBlocks bs
    if last then s1.recordDone
    else { s1 with sil := { s1.sil with trig := false, postLeft := s1.sil.postLeft - 1 } }

/-- TRIG_TIME in nanoseconds. -/
def State.trigTime (s : State) : Nat := s.rdW F.TRIG_TIME_SEC * 10 ^ 9 + s.rd F.TRIG_TIME_NS.NS

/-- The index of the first sample at or after TRIG_TIME in a block of `n` samples whose first was taken at `first` (2^-40 ns):
samples lie 0.4 ns apart, 0.8 ns in DUAL mode (R105, R110). -/
def State.timeIndex (s : State) (first n : Nat) : Nat :=
  let step := if s.flag F.SIL_CTRL.MODE then 4 else 2
  min (n - 1) ((5 * (s.trigTime * 2 ^ 40 - first) + step * 2 ^ 40 - 1) / (step * 2 ^ 40))

/-- A block of the ADC pair completes: one stream when interleaved, two in DUAL mode (R105). When interleaved there is one
stream, and LEVEL watches it whatever TRIG_CFG.CH says (log 49). -/
def State.adcComplete (s : State) (a b : List (BitVec 12)) (first trigAt : Nat) (bus : SilBus) : State :=
  if !s.flag F.SIL_CTRL.ENABLE && !s.sil.stop then s
  else
    let dual := s.flag F.SIL_CTRL.MODE
    let ch := if dual then s.rd F.TRIG_CFG.CH else 0
    let hits := s.levelHits ch (if ch = 0 then a else b)
    let s1 := hits.foldl (fun s _ => s.silTrigger) s
    let ringA := Fin.ofNat 8 (s.rd F.SIL_SRC.RING_A)
    let ringB := Fin.ofNat 8 (s.rd F.SIL_SRC.RING_B)
    let x := s1.adcBlock (if dual then 0 else 2) (s.rd F.SIL_SRC.SRC_A) first a
    let s2 := x.2.keepLast 0 a
    let at_ := if s.rd F.TRIG_CFG.SOURCE = 6 then s.timeIndex first a.length else hits.headD trigAt
    if dual then
      let y := s2.adcBlock 1 (s.rd F.SIL_SRC.SRC_B) first b
      (y.2.keepLast 1 b).captureBlocks [(ringA, x.1), (ringB, y.1)] at_ bus
    else s2.captureBlocks [(ringA, x.1)] at_ bus

/-- A focus block of tile `t`: up to 2,016 of the samples forwarded of one focus (R94, R107). -/
def State.focusComplete (s : State) (t first : Nat) (bus : SilBus) : State :=
  let x := s.tile t
  let ns := first / 2 ^ 40
  match x.focusBuf with
  | [] => s
  | r :: rest =>
    let v := r.samples.take 2016
    let more := r.samples.drop 2016
    (s.setTile t { x with focusBuf := if more.isEmpty then rest else { r with samples := more } :: rest }).blockReady
      (Fin.ofNat 8 r.id.ring)
      ⟨3, t, ns / 10 ^ 9, ns % 10 ^ 9, first % 2 ^ 40 / 2 ^ 8, v.length, v.contains 0xFFFF, v.flatMap (leBytes 2)⟩
      { noMarks with pd := r.id.pd } bus

/-- A block completes; its first sample was taken `ago` units of 2^-40 ns of network time ago (R107). -/
def State.blockComplete (s : State) (x : SilStream) (ago trigAt : Nat) (bus : SilBus) : State :=
  let first := s.fineTime - ago
  match x with
  | .adc a b => s.adcComplete (a.take 2688) (b.take 2688) first trigAt bus
  | .focus t => s.focusComplete t first bus

def execSillageBlockWrite (x : SilStream) (ago trigAt : Nat) (bus : SilBus) (s : State) :
    Host.Outcome State Fault Refusal :=
  .next (s.onMain fun s => s.blockComplete x ago trigAt bus)

/-! ## Commands and triggers -/

/-- ARM arms the triggered capture (R111). -/
def State.silArm (s : State) : State :=
  if s.flag F.SIL_CTRL.CAPTURE then { s with sil := { s.sil with armed := true } } else s

/-- STOP ends a record at the block in progress; a trigger of the same cycle begins none (R111). -/
def State.silStop (s : State) : State :=
  if !s.flag F.SIL_CTRL.CAPTURE then s
  else if s.noted F.TRIG_CMD.FIRE.key then
    State.note { s with sil := { s.sil with trig := false, recording := false } } F.SIL_CTRL.STOP.key
  else State.note { s with sil := { s.sil with stop := s.sil.recording } } F.SIL_CTRL.STOP.key

/-- ENABLE is cleared: a record ends at the block in progress; what was sampled before no longer joins on (R111). -/
def State.silOff (s : State) : State :=
  let s1 := s.silStop
  { s1 with sil := { s1.sil with
      last := []
      history := if s1.sil.recording then s1.sil.history else []
      trig := s1.sil.trig && s1.sil.recording } }

/-- A write of SIL_CTRL: MODE and CAPTURE are refused while ENABLE is set (R113). -/
def State.writeSilCtrl (s : State) (w : Word) : State :=
  let on := s.flag F.SIL_CTRL.ENABLE
  let s1 := (s.setFlag F.SIL_CTRL.ENABLE (w.getLsbD 0)).setFlag F.SIL_CTRL.AUTO_REARM (w.getLsbD 3)
  let s2 := if on then s1 else (s1.setFlag F.SIL_CTRL.MODE (w.getLsbD 1)).setFlag F.SIL_CTRL.CAPTURE (w.getLsbD 2)
  let s3 := if on && !w.getLsbD 0 then s2.silOff else s2
  let s4 := if w.getLsbD 5 then s3.silStop else s3
  if w.getLsbD 4 then s4.silArm else s4

/-- A write of SIL_SRC: source codes 10 to 15 are refused (R105). -/
def State.writeSilSrc (s : State) (w : Word) : State :=
  let s1 := if bitsOf w 0 4 < 10 then s.wr F.SIL_SRC.SRC_A (bitsOf w 0 4) else s
  let s2 := if bitsOf w 4 4 < 10 then s1.wr F.SIL_SRC.SRC_B (bitsOf w 4 4) else s1
  (s2.wr F.SIL_SRC.RING_A (bitsOf w 8 3)).wr F.SIL_SRC.RING_B (bitsOf w 12 3)

def execSilCtrlWrite (m : Master) (w : Word) (s : State) : Host.Outcome State Fault Refusal :=
  .next (s.gate m F.SIL_CTRL.ENABLE.addr fun s => s.writeSilCtrl w)

def execSilArm (m : Master) (s : State) : Host.Outcome State Fault Refusal :=
  .next (s.gate m F.SIL_CTRL.ARM.addr State.silArm)

def execSilStop (m : Master) (s : State) : Host.Outcome State Fault Refusal :=
  .next (s.gate m F.SIL_CTRL.STOP.addr State.silStop)

def execTrigCmdFire (m : Master) (s : State) : Host.Outcome State Fault Refusal :=
  .next (s.gate m F.TRIG_CMD.FIRE.addr fun s => s.silTriggerFrom 0)

/-- Network time has reached TRIG_TIME (R110, R499). -/
def State.timeTrigger (s : State) : State :=
  if s.rd F.TRIG_CFG.SOURCE = 6 ∧ s.trigTime ≤ s.now ∧ !s.sil.timeDone then
    { s with sil := { s.sil with timeDone := true } }.silTrigger
  else s

def execSillageTimeTrigger (s : State) : Host.Outcome State Fault Refusal := .next (s.onMain State.timeTrigger)

/-- A new TRIG_TIME has not been reached. -/
def State.newTrigTime (s : State) : State := { s with sil := { s.sil with timeDone := false } }

def execSillageHoldoffEnd (s : State) : Host.Outcome State Fault Refusal :=
  .next (s.onMain fun s => { s with sil := { s.sil with holdoff := false } })

end Sys2Proof.Machine
end

