-- ==== Sys2Proof/Machine/Frame.lean ====
section
/-! DEFINITION. The frame boundary (R174) with the acts due at it: a step of network time (R278, R279), LV fields due (R301,
R306), an AT_FRAME swap of parser banks (R262), handover and checkpoint (R314, R316), eligibility (R190) and the cut (R200). -/

namespace Sys2Proof.Machine

/-! ## Parser banks (R262) -/

/-- The inactive bank becomes active at network time `at_`; frames received before it keep the former one until OLD_BUSY clears
(R262, R263). -/
def State.swapBanks (s : State) (at_ : Nat) : State :=
  let s1 := s.wr F.PARSER_BANK_STATUS.ACTIVE (1 - s.rd F.PARSER_BANK_STATUS.ACTIVE)
  let s2 := s1.wr F.PARSER_BANK_STATUS.EPOCH ((s1.rd F.PARSER_BANK_STATUS.EPOCH + 1) % 65536)
  let s3 := (s2.setFlag F.PARSER_BANK_STATUS.SWAP_PENDING false).setFlag F.PARSER_BANK_STATUS.OLD_BUSY true
  { s3 with parser := { s3.parser with swapAt := at_ } }

/-- A pending swap whose frame has come takes effect at T(SWAP_FRAME) (R262, R499). -/
def State.dueSwap (s : State) : State :=
  let t := s.frameStart (s.rdW F.SWAP_FRAME)
  if s.flag F.PARSER_BANK_STATUS.SWAP_PENDING && decide (t ≤ s.now) then s.swapBanks t else s

/-! ## A step of network time (R279) -/

/-- The network time a step leads to, from `t`, both in 2^-40 ns. -/
def StepReq.target (r : StepReq) (t : Nat) : Nat :=
  let v : Int := (r.sec * 10 ^ 9 + r.ns) * 2 ^ 40
  if r.rel then ((t : Int) + v).toNat else v.toNat

/-- Frame `f`, whose composition has begun, is discarded where no deadline was sampled for it (R177, R302, R311): how many of
its records were written is a free value. -/
def State.discardBegun (s : State) (f : Nat) : State :=
  match s.comp.composing, s.plane.nextPins with
  | some c, some pins => if c.frame = f then s.freshValue.2.dropComposition c pins 3 (s.freshValue.1.toNat % s.slots)
    else s.discardFrame f
  | _, _ => s.discardFrame f

/-- The standing accord in force at the start of frame `f`. -/
def State.seqAt (s : State) (f : Nat) : Nat := (s.record (standRecord (s.standingAt (s.slotNumber f 0)))).seq

/-- The bank of frame `f`, to begin at a step instant, is discarded whatever it holds (R279): a composed frame's FRAME_END says so
(R302, log 28). -/
def State.discardNext (s : State) (f : Nat) : State :=
  match s.bank f with
  | 1 => s.discardBegun f
  | 2 => (s.discardFrame f).tellDiscard f (s.seqAt f)
  | 3 => s.discardFrame f
  | _ => s

/-- The bank of the frame that ends at a step instant is discarded: its FRAME_END went at its commit. -/
def State.discardEnded (s : State) (f : Nat) : State := if 1 ≤ s.bank f ∧ s.bank f ≤ 3 then s.discardFrame f else s

/-- Every armed TPULSE output is disarmed, and STEP_DISARM is set (R279). -/
def State.disarmAll (s : State) : State :=
  ((List.range 16).foldl (fun s n => s.setFlag (F.TP_CTRL.ARMED n) false) s).raise Src.TIME.STEP_DISARM

/-- A step ends a resynchronisation at either unit (R315). -/
def State.stepEndsJoin (s : State) : State :=
  if s.hier.serve.isSome then
    ({ s with hier := { s.hier with serve := none } }.toTwin 0x25 (resyncBytes ⟨3, 10, 0⟩)).resyncReport 10
  else if s.twin = 3 then s.joinFails 10
  else s

/-- A CLAIM written since the last boundary takes effect (R306); endpoints are told the new one (R238, log 24). -/
def State.dueClaim (s : State) : State :=
  if (s.lv.lookup F.CLAIM.VAL.addr).isSome then
    let s1 := s.applyLv F.CLAIM.VAL.addr
    let s2 := if s1.flag F.HIER_INFO.TWIN_EN then s1.rerank else s1
    (List.range 64).foldl State.tellHealth s2
  else s

/-- OWN to FOLLOW: no cut is taken and no operation is held from here on, so cuts and local updates still pending are undone and
their operations dropped; a composition in progress ends (R301). -/
def State.enterFollow (s : State) : State :=
  let s1 := s.discardUpdates
  { s1 with comp := { s1.comp with composing := none } }.setPlane { s1.plane with ops := [], replay := [] }

/-- FOLLOW to OWN: the standing accord in force stays and its pairs hold no circuit contexts (R301). -/
def State.enterOwn (s : State) : State := s.heldCtxs.foldl (fun s e => s.setCtx e.1 { e.2 with state := 0 }) s

/-- FOLLOW_CFG.MODE takes effect at T(MODE_FRAME) (R301, R499). -/
def State.dueMode (s : State) (f : Nat) : State :=
  if s.rdW F.MODE_FRAME ≤ f then
    let s1 := s.applyLv F.FOLLOW_CFG.MODE.addr
    if s1.follows && !s.follows then s1.enterFollow else if s.follows && !s1.follows then s1.enterOwn else s1
  else s

/-- DEMANDs whose cut has passed without being taken: discarded uncounted in WAIT (R307), otherwise late (R215). A worker in
FOLLOW takes no cut, and its Composer state stands still (R301). -/
def State.dropStale (s : State) (f1 : Nat) : State :=
  let stale := s.comp.held.filter fun h => decide (h.msg.frame ≤ f1)
  if s.twin = 3 ∨ s.follows = true ∨ stale.isEmpty = true then s
  else
    let s1 := s.releaseHeld f1
    if s.twin = 1 then s1 else stale.foldl (fun s _ => s.demandLate) s1

/-- Every act due by frame `f` or by now takes place at the step instant (R499): CLAIM, MODE, the parser's swap, a TIME trigger,
LV fields of the Composer. -/
def State.dueActs (s : State) (f : Nat) : State :=
  (((s.dueClaim.dueMode f).dueSwap).timeTrigger).applyComposerLv (f + 1)

/-- What a step forward has passed over, in the timeline it leads to (R499): the acts due, eligibility, DEMANDs and operations
whose cuts have gone by. -/
def State.passOver (s : State) : State :=
  if s.preEpoch then s
  else
    let s1 := (((s.dueActs s.frame).makeEligible s.frame).dropStale (s.frame + 1))
    if s1.strobing && s1.composes then s1.takeCut s1.slotNow else s1

/-- The boundaries of the new timeline: the frame and slot in progress began before it, a waiting message goes at the first slot
boundary from here on, and a command strobe on its way does not fire before FRAME_EPOCH (R281). -/
def State.newTimeline (s : State) : State :=
  let here := if s.preEpoch then none else some (s.frame, s.slot)
  let s1 := s.setPlane { s.plane with pins := none, nextPins := none, lastFrame := here.map Prod.fst, lastSlot := here }
  let s2 := { s1 with issueq := s1.issueq.map fun x => { x with from_ := x.from_.map fun _ => s1.nextBoundary } }
  if s2.preEpoch && s2.strobes.cmd then { s2 with strobes := { s2.strobes with plane := 0, cmd := false } } else s2

/-- F′ of R279: the first frame whose T(F′) − 400 ns lies at or after now, the counter's fraction included. -/
def State.resumeAt (s : State) : Nat :=
  (s.fineTime + 400 * 2 ^ 40 - s.epoch * 2 ^ 40 + s.frameNs * 2 ^ 40 - 1) / (s.frameNs * 2 ^ 40)

/-- The step instant, at the boundary of frame `s.frame` in the old timeline (R278, R279, R499). -/
def State.applyStep (s : State) (r : StepReq) : State :=
  let f := s.frame
  let s1 := ((s.discardNext f).discardEnded (f + 1)).dueActs f
  let s2 := s1.setTime (r.target s.fineTime)
  let s3 := { s2 with
    time := { s2.time with step := none, slew := 0 }
    comp := { s2.comp with composing := none }
    parser := { s2.parser with swapAt := s2.parser.swapAt + s2.now - s.now } }.showSlew
  let s4 := (s3.setFlag F.TIME_STATUS.STEP_PENDING false).newTimeline
  let s5 : State := { s4 with time := { s4.time with resumeFrame := some s4.resumeAt } }
  ((s5.disarmAll.bump F.STEPS).raise Src.TIME.TIME_STEP).stepEndsJoin.passOver

/-! ## The frame boundary -/

/-- The banks at T(F) (R174): a COMMITTED one becomes ACTIVE, one still COMPOSING has missed its deadline, the other is free; a
frame that a composition began for keeps its PIN_F, discarded or not (R172, R196). -/
def State.turnBanks (s : State) (f : Nat) : State :=
  let s1 : State := if s.bank f = 1 then s.discardBegun f else s
  let active := s1.bank f == 2
  let s2 := if active then (s1.setBank f 3).bump F.FRAMES_ACTIVE else s1
  let s3 := s2.setBank (f + 1) 0
  s3.setPlane { s3.plane with pins := s3.plane.nextPins, nextPins := none }

/-- At a joiner: handover once it composes in real time and has matched enough, or the end of the attempt, also where no ACCEPT
came within RESYNC_FRAMES of the request (R314, R315, R317). -/
def State.joinBoundary (s : State) (f : Nat) : State :=
  match s.hier.join with
  | none => s
  | some j =>
    match j.frame, j.composed with
    | some fc, some c =>
      let caught := State.catchSlots 4096 s (s.slotNumber f 0 - 1)
      if f ≤ c ∧ s.rd F.MATCH_CFG.MATCH_REQ ≤ s.rd F.TWIN_STATUS.MATCH_RUN ∧ f ≤ fc + s.rd F.RESYNC_CFG.RESYNC_FRAMES then
        let s1 := ((caught.toTwin 0x25 (resyncBytes ⟨2, 0, f⟩)).wr F.TWIN_STATUS.STATE 4).wr F.TWIN_STATUS.PHASE 0
        { s1 with hier := { s1.hier with join := none, ownEnd := none, twinEnd := none } }.bump F.RESYNCS
      else if fc + s.rd F.RESYNC_CFG.RESYNC_FRAMES ≤ f then s.joinFails 9
      else s.joinPhase
    | some fc, none => if fc + s.rd F.RESYNC_CFG.RESYNC_FRAMES ≤ f then s.joinFails 9 else s
    | none, _ => if j.asked + s.rd F.RESYNC_CFG.RESYNC_FRAMES ≤ f then s.joinFails 9 else s

/-- The source takes the checkpoint at T(Fc), before anything else at that instant: at whichever of the frame's boundary and its
first slot boundary is served first (R314, R316). -/
def State.dueCheckpoint (s : State) : State :=
  let f := s.frame
  let served := s.plane.lastFrame == some f || (s.plane.lastSlot.map Prod.fst) == some f
  if s.hier.serve == some f && s.twin == 2 && !s.preEpoch && !served then s.sendCheckpoint f else s

/-- Composition into the free bank begins: a cut, or at a worker in FOLLOW a bank to be filled (R174, R200, R303). -/
def State.beginFrame (s : State) (f : Nat) : State :=
  let waits := match s.time.resumeFrame with | some r => decide (f < r) | none => false
  if !s.strobing || s.planeMode == 0 || waits then s
  else
    let s1 := { s with time := { s.time with resumeFrame := none } }
    if s1.composes then s1.demandCut (f + 1)
    else if s1.follows then
      let base := s1.record (standRecord (s1.standingAt (s1.slotNumber (f + 1) 0)))
      let s2 := s1.setPlane { s1.plane with nextPins := some (pinsOf base s1.armedRecords) }
      (s2.setBank (f + 1) 1).markEligibleFrom (f + 1)
    else s1

/-- T(F), once: every act due at it, the checkpoint first, the cut last (R316). -/
def State.frameBoundary (s : State) : State :=
  if s.preEpoch || s.plane.lastFrame == some s.frame then s
  else
    match s.time.step with
    | some r => s.applyStep r
    | none =>
      let f := s.frame
      let s0 := s.dueCheckpoint
      let s1 := s0.setPlane { s0.plane with lastFrame := some f }
      let s2 := if s1.planeMode = 0 then s1 else s1.turnBanks f
      let s3 := ((s2.dueClaim.dueMode f).dueSwap).joinBoundary f
      let s4 := (s3.makeEligible f).beginFrame f
      s4.dropStale (f + 1)

def execFrameBoundary (s : State) : Host.Outcome State Fault Refusal := .next (s.onMain State.frameBoundary)

/-- A slot boundary; the first of a frame may be served before the frame's own, and then takes what comes first at T(F): the
checkpoint (R316) and a change of MODE (R301). -/
def State.slotInstant (s : State) : State :=
  if s.slot = 0 ∧ s.preEpoch = false ∧ s.time.step.isNone = true then (s.dueCheckpoint.dueMode s.frame).slotBoundary
  else s.slotBoundary

def execSlotBoundary (s : State) : Host.Outcome State Fault Refusal := .next (s.onMain State.slotInstant)

/-! ## STEP_CMD (R278) -/

/-- The step a write of STEP_CMD asks for. -/
def State.stepAsked (s : State) (rel : Bool) : StepReq :=
  ⟨rel, if rel then signed 64 (s.rdW F.STEP_SEC) else s.rdW F.STEP_SEC, s.rdS F.STEP_NS.NS⟩

/-- Network time at the step instant, the next frame boundary. -/
def State.stepInstant (s : State) : Nat := s.frameStart (if s.preEpoch then 0 else s.frame + 1)

/-- The conditions that refuse a step (R278). -/
def State.stepBarred (s : State) (r : StepReq) : Bool :=
  !s.plane.updates.isEmpty || s.plane.taken.isSome || s.time.step.isSome ||
    (if r.rel then decide (r.ns < -999999999) || decide (999999999 < r.ns) ||
        decide ((s.stepInstant : Int) + r.sec * 10 ^ 9 + r.ns < 0)
      else decide (r.ns < 0) || decide (999999999 < r.ns))

def State.stepCmd (s : State) (rel : Bool) : State :=
  let r := s.stepAsked rel
  if s.stepBarred r then s.raise Src.TIME.TIME_REFUSED
  else { s with time := { s.time with step := some r } }.setFlag F.TIME_STATUS.STEP_PENDING true

def execStepCmd (m : Master) (rel : Bool) (s : State) : Host.Outcome State Fault Refusal :=
  .next (s.gate m F.STEP_CMD.GO.addr fun s => s.stepCmd rel)

end Sys2Proof.Machine
end

