-- ==== Sys2Proof/Machine/Parser.lean ====
section
/-! DEFINITION. The frame parser (R250–R272): epochs, rules, actions, recirculation, delivery to the Kowin engine, the PTP ring
and the slow path to firmware. -/

namespace Sys2Proof.Machine

/-! ## Rules and banks (R257–R263, R270) -/

def ruleEmpty : Rule := ⟨0, 0, 0, false, 0⟩

/-- The rule at place `bank · 1024 + index`. -/
def State.rule (s : State) (k : Nat) : Rule := sparseGet (fun _ => ruleEmpty) s.parser.rules k

def State.setRule (s : State) (k : Nat) (r : Rule) : State :=
  { s with parser := { s.parser with rules := sparsePut (fun _ => ruleEmpty) s.parser.rules k r } }

/-- The deciding rule of a bank for a key: the matching rule of the lowest index (R257). -/
def State.decidingRule (s : State) (bank : Nat) (key : BitVec 96) : Option (Nat × Rule) :=
  s.parser.rules.find? fun e => e.1 / 1024 == bank && e.2.valid && (key &&& e.2.mask) == (e.2.value &&& e.2.mask)

/-- A hit counter counts, and saturates as R9 and R463 say. -/
def State.hitRule (s : State) (k : Nat) : State :=
  let r := s.rule k
  let s1 := s.setRule k { r with hits := min counterMax (r.hits + 1) }
  if r.hits < counterMax ∧ counterMax ≤ r.hits + 1 then s1.raise Src.PARSER.SATURATED else s1

/-- The eight words of a rule (R270). -/
def Rule.words (r : Rule) : List Word :=
  List.flatten [(List.range 3).map fun i => r.value.extractLsb' (32 * i) 32,
    (List.range 3).map fun i => r.mask.extractLsb' (32 * i) 32, [r.action, BitVec.ofNat 32 r.valid.toNat]]

/-- CRC-32 of a bank's rule words in index order (R270). -/
def State.bankCrc (s : State) (bank : Nat) : Word :=
  crc32 ((List.range 1024).flatMap fun i => (s.rule (1024 * bank + i)).words.flatMap fun w => leBytes 4 w.toNat)

/-- The rule the words of RULE_DATA spell. -/
def ruleOfWords (w : Nat → Word) (hits : Nat) : Rule :=
  ⟨w 2 ++ w 1 ++ w 0, w 5 ++ w 4 ++ w 3, w 6, bitsOf (w 7) 0 1 == 1, hits⟩

/-- A rule no bank may hold (R259): an invalid ACTION, or RECIRC that is not confined to RELAY on pass 0. -/
def Rule.bad (r : Rule) : Bool :=
  let a := bitsOf r.action 0 3
  decide (5 ≤ a) ||
    (a == 4 && !(r.mask &&& 0xFF0000000080#96 == 0xFF0000000080#96 && r.value &&& 0xFF0000000080#96 == 0x0B0000000000#96))

def State.parserRefused (s : State) : State := s.ringRefused (.parser 0)

def State.parserBusy (s : State) : Bool := s.flag F.PARSER_BANK_STATUS.OLD_BUSY || s.flag F.PARSER_BANK_STATUS.SWAP_PENDING

/-- The place RULE_SEL names. -/
def State.ruleSel (s : State) : Nat := 1024 * s.rd F.RULE_SEL.BANK + s.rd F.RULE_SEL.INDEX

def State.readRule (s : State) : State :=
  let r := s.rule s.ruleSel
  let s1 := (r.words.zip (List.range 8)).foldl (fun s e => s.wr (F.RULE_DATA.WORD e.2) e.1.toNat) s
  s1.wrW F.RULE_HIT r.hits

/-- RULE_CMD.WRITE (R259, R263); the hit counter stays (R263). -/
def State.writeRule (s : State) : State :=
  let r := ruleOfWords (fun i => s.word (F.RULE_DATA.WORD i).addr) (s.rule s.ruleSel).hits
  if s.rd F.RULE_SEL.BANK = s.rd F.PARSER_BANK_STATUS.ACTIVE ∨ s.parserBusy ∨ r.bad then s.parserRefused
  else s.setRule s.ruleSel r

def execRuleCmdRead (m : Master) (s : State) : Host.Outcome State Fault Refusal :=
  .next (s.gate m F.RULE_CMD.READ.addr State.readRule)

def execRuleCmdWrite (m : Master) (s : State) : Host.Outcome State Fault Refusal :=
  .next (s.gate m F.RULE_CMD.WRITE.addr State.writeRule)

/-- SWAP_CMD (R262, R263). -/
def State.swapCmd (s : State) (atFrame : Bool) : State :=
  if s.parserBusy then s.parserRefused
  else if !atFrame then s.swapBanks s.now
  else if s.frameStart (s.rdW F.SWAP_FRAME) < s.now then s.parserRefused
  else (s.setFlag F.PARSER_BANK_STATUS.SWAP_PENDING true).dueSwap

def execSwapCmd (m : Master) (atFrame : Bool) (s : State) : Host.Outcome State Fault Refusal :=
  .next (s.gate m F.SWAP_CMD.GO.addr fun s => s.swapCmd atFrame)

/-- OLD_BUSY clears once no frame of the previous epoch is left (R263). -/
def State.clearOldBusy (s : State) : State :=
  if s.parser.recirc.any fun f => f.epoch != s.rd F.PARSER_BANK_STATUS.EPOCH then s
  else s.setFlag F.PARSER_BANK_STATUS.OLD_BUSY false

def execOldBusyClear (s : State) : Host.Outcome State Fault Refusal := .next (s.onMain State.clearOldBusy)

/-! ## Rings of working SRAM (R266, R267) -/

/-- An entry: the 32-byte header and what it holds of the frame (R266). -/
def entryBytes (x : SlowFrame) (seq : Nat) : List Byte :=
  let f := x.frame
  let n := f.bytes.length
  List.flatten [leBytes 2 (min n 2016), leBytes 2 n, leBytes 1 f.lane, leBytes 1 x.cause,
    leBytes 1 ((if 2016 < n then 1 else 0) + 2 * x.pass), [0], leBytes 8 f.sec, leBytes 4 f.ns, leBytes 4 (f.frac / 2 ^ 8),
    leBytes 2 x.rule, leBytes 2 f.epoch, leBytes 4 seq, f.bytes.take 2016]

/-- Write a frame to ring `n`, or lose it where the ring is full or disabled (R267). -/
def State.toRing (s : State) (n : Fin 2) (x : SlowFrame) : State :=
  let r := RingId.parser n
  let seq := sparseGet (fun _ => 0) s.parser.entrySeq n.val
  if s.ringOn r && !s.ringFull r then
    let s1 := s.setMemBytes (s.ringBlock r (s.rd r.wr)) (entryBytes x seq)
    let s2 : State := { s1 with parser := { s1.parser with
      entrySeq := sparsePut (fun _ => 0) s1.parser.entrySeq n.val (next32 seq) } }
    let s3 := if n = 1 then s2.bump F.PTP_CNT else s2
    s3.ringPush r
  else
    let s1 := s.setEvent r.overrun
    if n = 1 then (s1.bump F.PTP_DROP_CNT).raise Src.PARSER.PTP_DROP
    else (s1.bump F.SLOW_DROP_CNT).raise Src.PARSER.SLOW_DROP

/-- Send a frame or copy to firmware's internal ring (R265). -/
def State.toFirmware (s : State) (x : SlowFrame) : State :=
  let s1 := s.bump F.SLOW_CNT
  if s1.parser.slow.length < 256 then { s1 with parser := { s1.parser with slow := s1.parser.slow ++ [x] } }
  else (s1.bump F.SLOW_DROP_CNT).raise Src.PARSER.SLOW_DROP

/-- RULE of a frame that no rule decided. -/
def noRule : Nat := 0xFFFF

/-- The lane's default action (R260); `rule` is the rule that decided, where one did. -/
def State.defaultAction (s : State) (f : RxFrame) (cause pass rule : Nat) : State :=
  if f.slowDefault then s.toFirmware ⟨f, cause, pass, rule⟩ else s.bump F.DROP_CNT

/-! ## Delivery to the Kowin engine -/

/-- A payload too short for its fields is discarded as a malformed message is (log 46). -/
def State.deliverShort (s : State) (n : Nat) (h : KHeader) : State := s.acceptMsg n { h with crcOk := false } 0 id

def State.deliverAs {α : Type} (s : State) (n : Nat) (h : KHeader) (p : Option α) (act : α → State) : State :=
  match p with
  | some x => act x
  | none => s.deliverShort n h

/-- A Kowin message `m` received on lane `n` at `rx` in frame `f` (R226, R297). A RELAY is taken on pass 1 alone: on pass 0 no DIR
of it is allowed (R258, log 46). -/
def State.deliverKowin (s : State) (n rx : Nat) (f : List Byte) (c : Chain) (m : List Byte) : State :=
  let h := headerOf m
  let b := m.drop 20
  let mac := beAt f 6 6
  let ip := (List.range 4).map fun j => BitVec.ofNat 32 (beAt (c.src f) (4 * j) 4)
  let ip := if c.l3 = 0 then [] else ip
  match h.type with
  | 0x01 => s.deliverAs n h (helloOf mac ip b) fun p => s.serveHello n h p
  | 0x02 => s.deliverAs n h (demandOf b) fun p => s.serveDemand n h rx m p
  | 0x04 => s.deliverAs n h (setupOf b) fun p => s.serveOp n h rx m (.setup p)
  | 0x07 => s.deliverAs n h (releaseOf b) fun p => s.serveOp n h rx m (.release p)
  | 0x09 => s.deliverAs n h (statusOf b) fun p => s.serveStatus n h rx m p
  | 0x0A => s.deliverAs n h (echoOf b) fun p => s.serveEcho n h rx p
  | 0x0B => s.acceptMsg n h 2 id
  | 0x20 => s.deliverAs n h (tierHelloOf mac ip b) fun p => s.serveTierHello n h p
  | 0x21 => s.deliverAs n h (accordMsgOf b) fun p => s.serveTier n 0x21 h fun s => s.takeAccord n p
  | 0x22 => s.deliverAs n h (frameEndOf b) fun p => s.serveTier n 0x22 h fun s => s.takeFrameEnd n h p
  | 0x23 => s.deliverAs n h (standingMsgOf b) fun p => s.serveTier n 0x23 h fun s => s.takeStanding h p
  | 0x24 => s.deliverAs n h (switchMsgOf b) fun p => s.serveTier n 0x24 h fun s => s.takeSwitchMsg p
  | 0x25 => s.deliverAs n h (resyncMsgOf b) fun p => s.serveTier n 0x25 h fun s => s.takeResync p
  | 0x26 => s.deliverAs n h (checkpointOf b) fun p => s.serveTier n 0x26 h fun s => s.takeCheckpoint p
  | _ => s.acceptMsg n h 0 id

/-- ACTION KOWIN (R258): a message on pass 0, on pass 1 INNER with its RELAY fields. A frame that holds no Kowin message counts
as malformed (log 46). -/
def State.actKowin (s : State) (f : RxFrame) (pass : Nat) (c : Chain) : State :=
  let m := slice f.bytes c.bodyAt c.length
  if c.kind ≠ 0 then s.malformed f.lane
  else if pass = 0 then s.deliverKowin f.lane (f.sec * 10 ^ 9 + f.ns) f.bytes c m
  else s.deliverAs f.lane (headerOf m) (relayOf (m.drop 20)) fun p => s.serveRelay f.lane (headerOf m) p

/-! ## Decisions -/

/-- ACTION RECIRC of rule `i` (R261, R266). -/
def State.actRecirc (s : State) (f : RxFrame) (i : Nat) : State :=
  if s.parser.recirc.length < 32 then { s with parser := { s.parser with recirc := s.parser.recirc ++ [f] } }
  else ((s.bump F.RECIRC_FULL_CNT).raise Src.PARSER.RECIRC_FULL).defaultAction f 8 0 i

/-- The bank of a frame's epoch (R262). -/
def State.bankOf (s : State) (f : RxFrame) : Nat :=
  let active := s.rd F.PARSER_BANK_STATUS.ACTIVE
  if f.epoch = s.rd F.PARSER_BANK_STATUS.EPOCH then active else 1 - active

/-- The rules decide a pass (R257, R258, R260). -/
def State.decideFrame (s : State) (f : RxFrame) (pass : Nat) (c : Chain) : State :=
  match s.decidingRule (s.bankOf f) (s.ruleKey f.lane pass c) with
  | none =>
    (((s.bump F.NO_MATCH_CNT).bump (F.LANE_NO_MATCH f.lane)).raise Src.PARSER.NO_MATCH).defaultAction f 2 pass noRule
  | some (k, r) =>
    let s1 := s.hitRule k
    let i := k % 1024
    let s2 := if bitsOf r.action 3 1 = 1 then s1.toFirmware ⟨f, 1, pass, i⟩ else s1
    let s3 := if bitsOf r.action 4 1 = 1 then s2.emitCode (17 * 64) else s2
    match bitsOf r.action 0 3 with
    | 1 => s3.actKowin f pass c
    | 2 => s3.toRing 1 ⟨f, 9, pass, i⟩
    | 3 => s3.toFirmware ⟨f, 0, pass, i⟩
    | 4 => if pass = 0 then s3.actRecirc f i else s3.bump F.DROP_CNT
    | _ => s3.bump F.DROP_CNT

/-- A walk that ended before the rules (R251, R254). -/
def State.stopFrame (s : State) (f : RxFrame) (pass : Nat) : ParseStop → State
  | .malformed => (s.malformed f.lane).defaultAction f 3 pass noRule
  | .slow cause =>
    ((s.bump (if cause = 5 then F.FRAGMENT_CNT else F.STRUCT_CNT)).raise Src.PARSER.SLOW_PATH).toFirmware ⟨f, cause, pass, noRule⟩

/-- Pass 0 of a frame. -/
def State.pass0 (s : State) (f : RxFrame) : State :=
  let s1 := (s.bump F.FRAMES_PARSED).bump (F.LANE_FRAMES f.lane)
  match s1.walk f.bytes with
  | .ok c => s1.decideFrame f 0 c
  | .error x => s1.stopFrame f 0 x

/-- Pass 1 of a recirculated frame (R261). -/
def State.pass1 (s : State) (f : RxFrame) : State :=
  let s1 := s.bump F.RECIRCULATED
  match s1.walk f.bytes >>= walkInner f.bytes with
  | .ok c => s1.decideFrame f 1 c
  | .error x => s1.stopFrame f 1 x

/-- The oldest frame leaves the recirculation queue. -/
def State.recircPass (s : State) : State :=
  match s.parser.recirc with
  | [] => s
  | f :: rest =>
    let s1 : State := { s with parser := { s.parser with recirc := rest } }
    s1.pass1 f

def execRecircPass (s : State) : Host.Outcome State Fault Refusal := .next (s.onMain State.recircPass)

/-! ## Reception -/

/-- The receive timestamp, in units of 2^-40 ns: `ago` nanoseconds of network time back, less RX_LAT (R283, R294). -/
def State.rxTime (s : State) (n ago : Nat) : Nat :=
  ((s.fineTime : Int) - ago * 2 ^ 40 - s.rdS (F.RX_LAT.LAT n) * 2 ^ 37).toNat

/-- A frame with its receive timestamp and the epoch in force then (R262). -/
def State.stampFrame (s : State) (n ago : Nat) (bytes : List Byte) : RxFrame :=
  let t := s.rxTime n ago
  let epoch := s.rd F.PARSER_BANK_STATUS.EPOCH
  let old := s.flag F.PARSER_BANK_STATUS.OLD_BUSY && decide (t < s.parser.swapAt * 2 ^ 40)
  ⟨n, bytes, if old then (epoch + 65535) % 65536 else epoch, s.flag (F.LANE_PCFG.DEFAULT n),
    t / 2 ^ 40 / 10 ^ 9, t / 2 ^ 40 % 10 ^ 9, t % 2 ^ 40⟩

/-- A PAUSE frame (IEEE 802.3, PRESUMED): MAC control with opcode 1. -/
def isPause (f : List Byte) : Bool := beAt f 12 2 == 0x8808 && beAt f 14 2 == 1

/-- A lane whose PCS is locked receives a frame; a bad or errored one is discarded and counted (R253), as is PAUSE (R219). -/
def State.laneFrame (s : State) (n ago : Nat) (bad : Bool) (bytes : List Byte) : State :=
  if !s.laneOn n || !s.flag (F.LANE_STATUS.PCS_LOCK n) then s
  else if bad then s.bump (F.PCS_ERR_CNT n)
  else if isPause bytes then s.bump (F.PAUSE_RX_CNT n)
  else s.pass0 (s.stampFrame n ago bytes)

def execLaneFrameRx (n : Fin 64) (ago : Nat) (bad : Bool) (bytes : List Byte) (s : State) :
    Host.Outcome State Fault Refusal :=
  .next (s.onMain fun s => s.laneFrame n ago bad bytes)

end Sys2Proof.Machine
end

