-- ==== Sys2Proof/Machine/WideMap.lean ====
section
/-! DEFINITION. Which words are the LO word of a wide value (R473), and which of those pairs are writable (R474). -/

namespace Sys2Proof.Machine

def wideRows0 : List (Nat × List (Nat × Nat)) := [
  (0xC, []),
  (0x14, []),
  (0x10050, []),
  (0x10058, []),
  (0x10060, []),
  (0x10068, []),
  (0x20010, []),
  (0x200A0, []),
  (0x200A8, []),
  (0x300C0, []),
  (0x300C8, []),
  (0x300D0, []),
  (0x300D8, []),
  (0x30208, []),
  (0x30210, []),
  (0x40030, []),
  (0x40038, []),
  (0x40040, []),
  (0x40048, []),
  (0x50028, []),
  (0x50040, []),
  (0x50048, []),
  (0x50050, []),
  (0x50100, [(8, 8)]),
  (0x60030, []),
  (0x60100, [(64, 16)]),
  (0x60114, [(64, 16)]),
  (0x6011C, [(64, 16)]),
  (0x60128, [(64, 16)]),
  (0x70030, []),
  (0x70038, []),
  (0x72008, [(32, 51)]),
  (0x72808, [(32, 19)]),
  (0x72C08, [(32, 25)]),
  (0x73008, [(32, 32)]),
  (0x72010, [(32, 51)]),
  (0x72810, [(32, 19)]),
  (0x72C10, [(32, 25)]),
  (0x73010, [(32, 32)]),
  (0x72018, [(32, 51)]),
  (0x72818, [(32, 19)]),
  (0x72C18, [(32, 25)]),
  (0x73018, [(32, 32)]),
  (0x80014, []),
  (0x80020, []),
  (0x80030, []),
  (0x80040, []),
  (0x80060, []),
  (0x8007C, []),
  (0x800B0, []),
  (0x800B8, []),
  (0x800C0, []),
  (0x800C8, []),
  (0x80208, [(32, 16)]),
  (0x80428, []),
  (0x90080, []),
  (0x90088, []),
  (0xA0050, []),
  (0xA0058, []),
  (0xA0060, []),
  (0xB0080, []),
  (0xB0088, []),
  (0xB0090, []),
  (0xB0098, []),
  (0xC0030, []),
  (0xC0080, []),
  (0xC0088, []),
  (0xC0090, []),
  (0xC0098, [])]

def wideRows1 : List (Nat × List (Nat × Nat)) := [
  (0xD0020, []),
  (0xD0028, []),
  (0xD0038, []),
  (0xD0080, []),
  (0xD0088, []),
  (0xD0090, []),
  (0xD0098, []),
  (0xD00A0, []),
  (0xD00A8, []),
  (0xD00B0, []),
  (0xD00B8, []),
  (0xD1010, [(32, 64)]),
  (0xE0010, []),
  (0xE0050, []),
  (0xE0058, []),
  (0xE0060, []),
  (0xE0068, []),
  (0xE0070, []),
  (0xE0078, []),
  (0xE0080, []),
  (0xE0088, []),
  (0xE0090, []),
  (0xE0098, []),
  (0xE00A0, []),
  (0xE00A8, []),
  (0xE00B0, []),
  (0xE00B8, []),
  (0xE0220, []),
  (0xE0808, [(32, 64)]),
  (0xE0810, [(32, 64)]),
  (0xE0818, [(32, 64)]),
  (0xF0018, []),
  (0xF0050, []),
  (0xF0058, []),
  (0xF0060, []),
  (0xF0068, []),
  (0x100020, [(4096, 64)]),
  (0x100028, [(4096, 64)]),
  (0x100030, [(4096, 64)]),
  (0x100040, [(4096, 64)]),
  (0x100048, [(4096, 64)]),
  (0x100050, [(4096, 64)]),
  (0x100058, [(4096, 64)]),
  (0x100060, [(4096, 64)]),
  (0x100068, [(4096, 64)]),
  (0x100070, [(4096, 64)]),
  (0x100078, [(4096, 64)]),
  (0x140050, []),
  (0x140058, []),
  (0x140060, []),
  (0x140068, []),
  (0x180010, []),
  (0x180020, []),
  (0x180050, []),
  (0x180058, []),
  (0x180060, []),
  (0x180068, []),
  (0x180070, []),
  (0x180078, []),
  (0x180080, [])]

def wideRows2 : List (Nat × List (Nat × Nat)) := [
  (0x180088, []),
  (0x180090, []),
  (0x180098, []),
  (0x1800A0, []),
  (0x1800A8, []),
  (0x260024, []),
  (0x260080, []),
  (0x260088, []),
  (0x260090, []),
  (0x260098, []),
  (0x2600A0, []),
  (0x2600A8, []),
  (0x2600B0, []),
  (0x300050, [(65536, 19)]),
  (0x300058, [(65536, 19)]),
  (0x300060, [(65536, 19)]),
  (0x300068, [(65536, 19)]),
  (0x300070, [(65536, 19)]),
  (0x300078, [(65536, 19)]),
  (0x500010, [(16384, 76)]),
  (0x500018, [(16384, 76)]),
  (0x500020, [(16384, 76)]),
  (0x500028, [(16384, 76)]),
  (0x500050, [(16384, 76)]),
  (0x500058, [(16384, 76)]),
  (0x500060, [(16384, 76)]),
  (0x500D00, [(16384, 76)]),
  (0x500D0C, [(16384, 76)]),
  (0x500D14, [(16384, 76)]),
  (0x500D1C, [(16384, 76)]),
  (0x502080, [(16384, 76)]),
  (0x502088, [(16384, 76)]),
  (0x502090, [(16384, 76)]),
  (0x1000024, []),
  (0x1000050, []),
  (0x1000058, []),
  (0x1000060, [])]

/-- Every wide value: the address of its LO word, and its repetition. -/
def wideRows : List (Nat × List (Nat × Nat)) := List.flatten [wideRows0, wideRows1, wideRows2]

/-- The word at `a` is the LO word of a wide value. -/
def isLo (a : Nat) : Bool := wideRows.any fun r => decide (r.1 ≤ a) && hitDims r.2 (a - r.1)

/-- The word at `a` is the HI word of a wide value. -/
def isHi (a : Nat) : Bool := decide (4 ≤ a) && isLo (a - 4)

/-- The writable pairs: TIME_INC, STEP_SEC, TP_START_SEC, SWAP_FRAME, MODE_FRAME, APPLY_FRAME, TRIG_TIME_SEC, CH_DESC and
FUSE_RESPONSE. The 64 channels of a tile's masks are no such value: each word acts by itself (R83). -/
def pairRows : List (Nat × List (Nat × Nat)) := [
  (0x80020, []), (0x80030, []), (0x80208, [(32, 16)]), (0xE0010, []), (0xD0038, []), (0x180010, []), (0x1000024, []),
  (0x60100, [(64, 16)]), (0x30210, [])]

/-- The word at `a` is the LO word of a writable pair (R474). -/
def pairLo (a : Nat) : Bool := pairRows.any fun r => decide (r.1 ≤ a) && hitDims r.2 (a - r.1)

end Sys2Proof.Machine
end

