-- ==== Sys2Proof/Machine/Flags.lean ====
section
/-! DEFINITION. Status bits that show what the hardware is doing (the "live" entries of R15): what each such word reads,
computed from the state when it is read. -/

namespace Sys2Proof.Machine

/-- A flag as a field value. -/
def bit (b : Bool) : Nat := if b then 1 else 0

/-- The word with a list of (lsb, width, value) put in. -/
def putBits (w : Word) (fs : List (Nat × Nat × Nat)) : Word := fs.foldl (fun w f => withBits w f.1 f.2.1 f.2.2) w

/-! ## Tiles (R80–R83, R112) -/

/-- An output of the channel is held and not current (R69, R71, R352). -/
def State.pockStale (s : State) (t ch : Nat) : Bool :=
  (s.tile t).warmP.getLsbD ch || (s.tile t).holdP.getLsbD ch || s.scanSuspended t

def State.heaterStale (s : State) (t ch : Nat) : Bool :=
  (s.tile t).warmH.getLsbD ch || (s.tile t).holdH.getLsbD ch || s.scanSuspended t

/-- A half of STALE: a channel with a stale output. -/
def State.staleWord (s : State) (t h : Nat) : Word :=
  BitVec.ofNat 32 (((List.range 32).map (32 * h + ·)).foldl (fun v ch =>
    v + bit (s.pockStale t ch || s.heaterStale t ch) * 2 ^ (ch - 32 * h)) 0)

/-- DRV_STATUS. HTR_ZERO stands while any heater of the tile is forced to zero (log 58). -/
def State.drvStatus (s : State) (t : Nat) : Word :=
  let x := s.tile t
  putBits 0 [(0, 1, bit (s.railGood t)), (1, 1, bit !x.pockFree), (2, 1, bit (x.htrFree != BitVec.allOnes 64)),
    (3, 1, bit (x.holdP != 0 || x.holdH != 0))]

def State.pockStat (s : State) (t ch : Nat) (w : Word) : Word :=
  putBits w [(8, 1, bit !(s.tile t).pockFree), (9, 1, bit (s.pockStale t ch)),
    (10, 1, bit ((s.rdW (F.MISSED_POCK t)).testBit ch)), (11, 2, s.loopState (loopAt t ch))]

/-- The live bits of a tile window's word at offset `off` (R80–R83, R112). -/
def State.tileLive (s : State) (t off : Nat) (w : Word) : Word :=
  if off = 0 then putBits w [(0, 7, t), (7, 2, tileDie t), (9, 1, bit (isTrimTile t))]
  else if off = 0xC then s.drvStatus t
  else if off = 0x28 then s.staleWord t 0
  else if off = 0x2C then s.staleWord t 1
  else if 0x100 ≤ off ∧ off < 0x900 ∧ off % 32 = 0x14 then s.pockStat t ((off - 0x100) / 32) w
  else if 0x900 ≤ off ∧ off < 0xD00 ∧ off % 16 = 8 then
    let ch := (off - 0x900) / 16
    putBits w [(19, 1, bit !(s.tile t).htrFree.getLsbD ch), (20, 1, bit (s.heaterStale t ch))]
  else if off = 0x2010 then putBits w [(25, 1, bit (s.diagBusy t))]
  else if off = 0x2004 then
    putBits w [(0, 2, bit (s.tile t).lowPower), (2, 1, bit (s.focusing t)), (3, 1, bit (s.scanSuspended t))]
  else w

/-! ## Courses and loops (R141, R142, R162, R163) -/

def State.loopStat (s : State) (l : Nat) (w : Word) : Word :=
  putBits w [(0, 2, s.loopState l), (2, 1, bit (s.loopBusy l)), (3, 1, bit (s.hHost l)), (5, 1, bit (s.hCal l)),
    (6, 1, bit (s.hWarm l))]

/-- The live bits of a course window's word. -/
def State.courseLive (s : State) (c off : Nat) (w : Word) : Word :=
  if off = 0 then putBits w [(0, 5, c), (5, 1, bit (decide (17 ≤ c)))]
  else if off = 0x28 then putBits w [(8, 1, bit ((s.listedLoops c).any s.loopBusy))]
  else if 0x1400 ≤ off ∧ off < 0x1800 then s.loopStat (256 * c + (off - 0x1400) / 4) w
  else w

/-! ## Accord memory and pin set (R164, R196) -/

/-- A word of a mask shown from bit 0 up. -/
def maskWord {n : Nat} (m : BitVec n) (k : Nat) : Word := BitVec.ofNat 32 (m.toNat / 2 ^ (32 * k))

/-- The pin set window. -/
def State.pinWord (s : State) (off : Nat) : Word :=
  let p := s.pinsShown
  if off < 0x220 then maskWord p.cells (off / 4)
  else if 0x400 ≤ off ∧ off < 0x620 then maskWord p.volatiles ((off - 0x400) / 4)
  else if 0x800 ≤ off ∧ off < 0x840 then maskWord p.ins ((off - 0x800) / 4)
  else if 0x840 ≤ off ∧ off < 0x880 then maskWord p.outs ((off - 0x840) / 4)
  else 0

/-- The accord record word at an address of bank 0, bank 1 or the standing records: record and word (R164, R165). -/
def recordAt (a : Nat) : Option (Nat × Nat) :=
  let off := a % 2048 / 4
  if off < 288 ∧ 0x200000 ≤ a ∧ a < 0x248000 then some ((a - 0x200000) / 2048, off) else none

/-! ## Composer, Kowin, agents -/

/-- SRC_CAP: a source's and a destination's capacity in the frame being composed (R197, R216). -/
def State.srcCap (s : State) (a : Nat) : Word :=
  let pins := s.plane.nextPins.getD s.pinsNow
  putBits 0 [(0, 10, (s.poolIns pins a).length), (16, 10, (s.poolOuts pins a).length)]

/-- COMP_STATUS while a composition is in progress: the cut, over within 1.5 µs, then matching or routing; how far the engines
are the spec bounds and does not fix (R200, R209), so PHASE and SLOTS_DONE follow an open value (log 30). -/
def State.compStatus (s : State) (w : Word) : Word :=
  match s.comp.composing with
  | some c =>
    if s.bank c.frame != 1 then w
    else
      let p := (Config.compProgress c.frame s.clock).toNat
      let phase := if p % 3 = 1 ∧ s.now < c.began + 1500 then 1 else if p % 3 = 2 then 3 else 2
      putBits w [(0, 3, phase), (16, 7, if phase = 1 then 0 else p / 3 % (s.slots + 1))]
  | none => w

def State.laneUpWord (s : State) (h : Nat) : Word :=
  BitVec.ofNat 32 ((List.range 32).foldl (fun v n => v + bit (s.laneIsUp (32 * h + n)) * 2 ^ n) 0)

def State.agHeld (s : State) (n : Nat) : Word :=
  putBits 0 [(0, 14, (s.heldCtxs.filter fun e => e.2.agent == n).length),
    (16, 14, ((s.plane.ops ++ s.plane.replay).filter fun o => o.agent == n).length)]

/-! ## The blocks below 0x0010_0000 -/

/-- FUSE_STATUS: the array as last sensed, and programming (R413). -/
def State.fuseStatus (s : State) : Word :=
  putBits 0 [(0, 3, s.fuses.sensed.toNat), (3, 1, bit s.fuses.busy.isSome), (4, 1, bit s.fuses.arm.isSome)]

/-- KEY_FUSED shows the fused hash, 0 while none is fused (R413). -/
def State.keyFusedWord (s : State) (n : Nat) : Word :=
  if s.keyFused then BitVec.ofNat 32 (s.fuses.keyValue.toNat / 2 ^ (32 * n)) else 0

def State.linkStatus (s : State) : Word :=
  putBits 0 [(0, 3, bitsOf Config.linkStatus 0 3), (4, 5, bitsOf Config.linkStatus 4 5),
    (9, 1, bitsOf Config.linkStatus 9 1), (10, 2, if s.pcie.d3hot then 3 else 0), (12, 1, bitsOf Config.linkStatus 12 1)]

def State.pwrStatus (s : State) : Word :=
  putBits 0 [(0, 1, bit s.power.en), (1, 1, bit s.power.pgood), (2, 1, bit s.power.rails), (4, 4, s.power.drive.toNat)]

def State.silStatus (s : State) : Word :=
  putBits 0 [(0, 1, bit (s.flag F.SIL_CTRL.ENABLE)), (1, 1, bit s.sil.armed), (2, 1, bit s.sil.recording)]

/-- TIME_SEC or TIME_FRAC as the master sees it: its snapshot, else live (R275). -/
def State.timeSeen (s : State) (m : Master) : Nat × Nat :=
  (s.snaps.time.lookup m).getD (s.time.sec, s.time.frac / 2 ^ 8)

def State.ppsSeen (s : State) (m : Master) : Nat := (s.snaps.pps.lookup m).getD (s.rdW F.PPS_IN_SEC)

/-- Live words of IDENT to SIDEBAND and FABRIC. -/
def State.hostLive (s : State) (a : Nat) (w : Word) : Word :=
  match a with
  | 0x4 => Config.identRev
  | 0x8 => putBits 0 [(0, 1, bit Config.orderCodeE)]
  | 0xC => maskWord Config.moduleSerial 0
  | 0x10 => maskWord Config.moduleSerial 1
  | 0x14 => maskWord Config.planeSerial 0
  | 0x18 => maskWord Config.planeSerial 1
  | 0x20008 => putBits w [(3, 1, bit s.signRequired)]
  | 0x30000 => s.linkStatus
  | 0x30204 => s.fuseStatus
  | 0x30208 => maskWord Config.fuseChallenge 0
  | 0x3020C => maskWord Config.fuseChallenge 1
  | 0x50000 => putBits w [(8, 1, bit !s.debugLocked)]
  | _ => if 0x30280 ≤ a ∧ a < 0x302B0 then s.keyFusedWord ((a - 0x30280) / 4) else w

/-- Live words of TIME, as the master sees them. -/
def State.timeLive (s : State) (m : Master) (a : Nat) (w : Word) : Word :=
  match a with
  | 0x80004 => putBits w [(2, 1, bit s.preEpoch), (3, 1, bit !s.power.refclk)]
  | 0x80010 => BitVec.ofNat 32 s.time.ns
  | 0x80014 => BitVec.ofNat 32 (s.timeSeen m).1
  | 0x80018 => BitVec.ofNat 32 ((s.timeSeen m).1 / 2 ^ 32)
  | 0x8001C => BitVec.ofNat 32 (s.timeSeen m).2
  | 0x80060 => BitVec.ofNat 32 (s.ppsSeen m)
  | 0x80064 => BitVec.ofNat 32 (s.ppsSeen m / 2 ^ 32)
  | _ => w

/-- Live words of the other blocks below 0x0010_0000. -/
def State.blockLive (s : State) (a : Nat) (w : Word) : Word :=
  match a with
  | 0x9002C => putBits w [(1, 1, bit !s.validTiles.isEmpty)]
  | 0x90400 => BitVec.ofNat 32 tripRingBase
  | 0xA0004 => s.pwrStatus
  | 0xE0018 => s.bankCrc 0
  | 0xE001C => s.bankCrc 1
  | 0xF0018 => s.laneUpWord 0
  | 0xF001C => s.laneUpWord 1
  | _ =>
    if 0x72000 ≤ a ∧ a < 0x73400 ∧ a % 32 = 0 then putBits w [(1, 1, bit (s.inputBusy ((a - 0x72000) / 32)))]
    else if 0x90100 ≤ a ∧ a < 0x90240 then
      putBits w [(16, 1, bit (w.getLsbD 16 && s.sensorValid ((a - 0x90100) / 4)))]
    else if 0xB0800 ≤ a ∧ a < 0xB1180 ∧ a % 32 = 0x14 then s.calCrc ((a - 0xB0800) / 32)
    else w

/-- The word at `a` is an entry of a card lane in the tier lanes' table (R319). -/
def State.cardEntry (s : State) (a : Nat) : Bool :=
  decide (0xD1000 ≤ a) && decide (a < 0xD1800) && !s.flag (F.LANE_CFG.ROLE ((a - 0xD1000) / 32))

/-- Live words from 0x0010_0000 up. -/
def State.upperLive (s : State) (a : Nat) (w : Word) : Word :=
  if a = 0x140004 then BitVec.ofNat 32 (8192 - s.heldCtxs.length)
  else if 0x140100 ≤ a ∧ a < 0x140180 ∧ a % 16 = 0 then s.agHeld ((a - 0x140100) / 16)
  else if a = 0x18000C then s.compStatus w
  else if a = 0x18001C then BitVec.ofNat 32 s.compStateCrc
  else if 0x182000 ≤ a ∧ a < 0x182800 ∧ a % 32 = 0x18 then s.srcCap ((a - 0x182000) / 32)
  else if 0x250000 ≤ a ∧ a < 0x251000 then s.pinWord (a - 0x250000)
  else if a = 0x260024 then BitVec.ofNat 32 (if s.preEpoch then 0 else s.frame)
  else if a = 0x260028 then BitVec.ofNat 32 (if s.preEpoch then 0 else s.frame / 2 ^ 32)
  else if 0x300000 ≤ a ∧ a < 0x430000 then s.courseLive ((a - 0x300000) / 65536) ((a - 0x300000) % 65536) w
  else if 0x500000 ≤ a ∧ a < 0x630000 then s.tileLive ((a - 0x500000) / 16384) ((a - 0x500000) % 16384) w
  else if 0x800000 ≤ a ∧ a < 0x84C000 ∧ a % 64 = 0x2C then
    loopChk fun n => s.word (loopWordAddr ((a - 0x800000) / 64) n)
  else if a = 0x1000030 then s.silStatus
  else
    match recordAt a with
    | some r => (s.record r.1).word r.2
    | none => w

/-- What the word at `a` reads for master `m`, without the effects of the read: pending LV values (R471), live bits, and the
stored fields. -/
def State.view (s : State) (m : Master) (a : Nat) : Word :=
  let w := s.lvWord a
  if a < 0x72000 then s.hostLive a (s.blockLive a w)
  else if a < 0x100000 then (if s.cardEntry a then 0 else s.timeLive m a (s.blockLive a w))
  else s.upperLive a w

end Sys2Proof.Machine
end

