-- ==== Sys2Proof/Machine/Passport.lean ====
section
/-! DEFINITION. The passport copy (R48–R51) and the loop parameters firmware derives from it: NORM (R119, R129), GH (R126)
and PL_SCALE (R156). -/

namespace Sys2Proof.Machine

/-- BAR2 offset of the passport copy, and its size (R48, R51). -/
def passportBase : Nat := 0x027C0000
def passportSize : Nat := 155904

/-- A signed 16-bit value of a loop's record. -/
def State.passportS (s : State) (l off : Nat) : Int := signed 16 (s.passport16 l off)

def State.vpiP (s : State) (l : Nat) : Nat := s.passport16 l 0
def State.ppiH (s : State) (l : Nat) : Nat := s.passport16 l 2
/-- PHI0, Q1.15 in units of π. -/
def State.phi0 (s : State) (l : Nat) : Int := s.passportS l 4
/-- CHROM, Q1.15. -/
def State.chrom (s : State) (l : Nat) : Int := s.passportS l 6
def State.rh0 (s : State) (l : Nat) : Nat := s.passport16 l 8
/-- TEMPCO_P, ppm/K. -/
def State.tempcoP (s : State) (l : Nat) : Int := s.passportS l 20
/-- TREF of the header, 0.01 °C (R49). -/
def State.tref (s : State) : Int := signed 16 (leNat (s.memBytes (passportBase + 20) 2))
/-- CHAR_DATE as YYYYMMDD (R49). -/
def State.charDate (s : State) : Nat := leNat (s.memBytes (passportBase + 16) 4)

/-- LSB_P in volts and LSB_H in amperes, in the range in force (R54). -/
def State.lsbP (s : State) (l : Nat) : Rat :=
  (if s.flag (F.POCK_STAT.ACT_RANGE (loopTile l) (loopChan l)) then 18 else 36) / (10 * 65536)
def State.lsbH (s : State) (l : Nat) : Rat :=
  (if s.flag (F.HTR_ACT.ACT_RANGE (loopTile l) (loopChan l)) then 4 else 2) / (1000 * 65536)

/-- The null of state `st` by the cell's model (R36): the least Pockels code that brings the phase difference to an odd multiple
of π for cross, an even one for bar, with the heater at `heater` and no disturbance. None where a scale of the record is 0. -/
def State.predictedNull (s : State) (l st heater : Nat) : Option Nat :=
  let amps := (heater : Rat) * s.lsbH l
  let phase := (s.phi0 l : Rat) / 32768 + amps * amps * ((s.rh0 l : Nat) : Rat) / 10 * 1000000 / ((s.ppiH l : Nat) : Rat)
  let least := phase.ceil
  let m := if least % 2 = (st : Int) then least else least + 1
  if s.vpiP l = 0 ∨ s.ppiH l = 0 then none
  else some (satU 16 (roundRat (((m : Rat) - phase) * ((s.vpiP l : Nat) : Rat) / 10000 / s.lsbP l)))

/-- PL_SCALE from the passport (R156). -/
def State.plScale (s : State) (l : Nat) : Nat :=
  satU 16 (roundEvenDiv ((pow10Neg (s.passport16 l 14) * s.passport16 l 10 * s.passport16 l 12 * 65536 : Nat) : Int)
    (40000 * 2 ^ 128))

/-- F_T of a trim loop, 16.16 (R129), with the exact LSB of range 0. A responsivity of 0 has no F_T: the largest value. -/
def State.trimScale (s : State) (l : Nat) : Nat :=
  let d := s.passport16 l 12 * pow10Neg (s.passport16 l 14)
  if d = 0 then 2 ^ 32 - 1 else satU 32 (roundEvenDiv ((40000 * 2 ^ 128 : Nat) : Int) d)

/-- NORM of a loop (R119, R129). -/
def State.normWord (s : State) (l : Nat) : Word :=
  if isTrimLoop l then BitVec.ofNat 32 (s.trimScale l)
  else BitVec.ofNat 32 (s.passport16 l 12 + 65536 * s.passport16 l 10)

/-- GH, 24.8, from PPI_H (W), VPI_P (V) and R_H (Ω) (R126). -/
def State.ghOf (s : State) (l : Nat) (ppi vpi rh : Rat) : Word :=
  BitVec.ofNat 32 (satU 32 (roundRat (256 * (ppi * s.lsbP l / (vpi * s.lsbH l * s.lsbH l * rh)))))

/-- GH from the passport (step 6). -/
def State.ghPassport (s : State) (l : Nat) : Word :=
  s.ghOf l (s.ppiH l / 1000000) (s.vpiP l / 10000) (s.rh0 l / 10)

/-- NORM, GH and PL_SCALE of a loop from the passport. -/
def State.derive (s : State) (l : Nat) : State :=
  let s1 := (s.setWord (F.NORM.NORM_A l).addr (s.normWord l)).setWord (F.GH.VAL l).addr (s.ghPassport l)
  if isTrimLoop l then s1 else s1.wr (F.LOOP_PL.PL_SCALE (loopCourse l) (loopIndex l)) (s1.plScale l)

/-! ## The ageing table (R368) -/

def ageingBase : Nat := 0x02780000
def ageingAt (l off : Nat) : Nat := ageingBase + 32 * l + off

def State.ageing16 (s : State) (l off : Nat) : Nat := leNat (s.memBytes (ageingAt l off) 2)

def State.setAgeing (s : State) (l off n v : Nat) : State := s.setMemBytes (ageingAt l off) (leBytes n v)

end Sys2Proof.Machine
end

