-- ==== Sys2Proof/Machine/Replan.lean ====
section
/-! DEFINITION. The base re-plan (R361–R368): the passes, what a window makes of a loop, and headroom. Arithmetic is on exact
rationals; a value is rounded half to even where it is stored (R8). -/

namespace Sys2Proof.Machine

/-! ## Passes (R361) -/

/-- The heaters of a course, or of none, are to be measured in the window that begins; what another window has left is not
(R362). -/
def State.measureHeaters (s : State) (c : Option Nat) : State :=
  (List.range 76).foldl (fun s t =>
    let x := s.tile t
    s.setTile t { x with heaters := if c = some (tileCourse t) then BitVec.allOnes 64 else 0 }) s

def State.startPass (s : State) : State :=
  let s1 : State := { s with replan := { s.replan with
    running := true, done := 0, probeSum := 0, probeCount := 0, lastStart := some s.clock } }
  (((s1.setFlag F.REPLAN_STATUS.RUNNING true).wr F.REPLAN_STATUS.COURSE 0).wrW F.LAST_PASS_SEC s1.time.sec).measureHeaters (some 0)

/-- The timer starts a pass while STATE is SERVING. -/
def State.replanTimer (s : State) : State := if s.start = 4 ∧ s.replan.running = false then s.startPass else s

/-- Less than one hour since the last pass started. -/
def State.passRecent (s : State) : Bool :=
  match s.replan.lastStart with
  | some t => decide (s.clock < t + 3600 * 10 ^ 9)
  | none => false

def State.replanNow (s : State) : State :=
  if s.start ≠ 4 ∨ s.passRecent = true then (s.bump F.AGEING_REFUSED_CNT).raise Src.AGEING.REPLAN_REFUSED
  else s.startPass

/-- The pass is over: its result, and loops not evaluated. -/
def State.endPass (s : State) (result residue : Nat) : State :=
  ((({ s.measureHeaters none with replan := { s.replan with running := false } }.setFlag F.REPLAN_STATUS.RUNNING false).wr
    F.REPLAN_STATUS.RESULT result).setFlag F.REPLAN_STATUS.ABORT_IGNORED false).wr F.REPLAN_STATUS.RESIDUE residue

def State.replanAbort (s : State) : State :=
  if s.replan.running then s.endPass 2 (4864 - s.replan.done)
  else (s.wr F.REPLAN_STATUS.RESULT 1).setFlag F.REPLAN_STATUS.ABORT_IGNORED true

def State.writeReplanCmd (s : State) (w : Word) : State :=
  let s1 := if w.getLsbD 1 then s.replanAbort else s
  if w.getLsbD 0 then s1.replanNow else s1

/-! ## Dates and rates (R366) -/

/-- Days from 1970-01-01 to a civil date, by the Gregorian calendar. -/
def civilDays (y m d : Nat) : Int :=
  let y1 : Int := if m ≤ 2 then (y : Int) - 1 else y
  let m1 : Int := ((m : Int) + 9) % 12
  let era := y1 / 400
  let yoe := y1 % 400
  era * 146097 + yoe * 365 + yoe / 4 - yoe / 100 + (153 * m1 + 2) / 5 + (d : Int) - 1 - 719468

/-- Years since CHAR_DATE; none while they are too few for a rate. -/
def State.ageYears (s : State) : Option Rat :=
  let n := s.charDate
  let years : Rat := ((s.time.sec : Int) - 86400 * civilDays (n / 10000) (n / 100 % 100) (n % 100) : Int) / 31557600
  if years < 3000 / 36525 then none else some years

/-- Years of a margin at a rate: none where the rate is 0 or negative. -/
def yearsOf (margin rate : Rat) : Option Rat := if rate ≤ 0 then none else some (margin / rate)

/-- 8.8 years, saturating; none is 255.99. -/
def years88 : Option Rat → Nat
  | some y => satU 16 (roundRat (256 * y))
  | none => 0xFFFF

/-! ## The estimates of one loop (R363) -/

/-- What firmware knows of a loop at the end of its window. `vpi` is VPI_now in volts, `rh` R_H in ohms. -/
structure Estimate where
  dT : Rat
  i0 : Rat
  i1 : Rat
  span : Rat
  vpiValid : Bool
  vpiEst : Nat
  vpi : Rat
  rhValid : Bool
  rhEst : Nat
  rh : Rat
  q : Option Rat
  qcum : Nat

/-- An earlier estimate of the ageing table, or the passport's value where there is none. -/
def State.lastEstimate (s : State) (l off passport : Nat) : Nat :=
  if s.ageing16 l off = 0 then passport else s.ageing16 l off

/-- The active heater current in amperes. -/
def State.heaterAmps (s : State) (l : Nat) : Rat := s.rd (F.HTR_ACT.ACT_CODE (loopTile l) (loopChan l)) * s.lsbH l

def State.estimate (s : State) (l : Nat) (o : LoopObs) : Estimate :=
  let c := s.loopCfgNext l
  let dT : Rat := (o.temp : Rat) / 6400 - (s.tref : Rat) / 100
  let i0 : Rat := (o.i0 : Rat) / (64 * 65536)
  let i1 : Rat := (o.i1 : Rat) / (64 * 65536)
  let span : Rat := ((c.op.2 : Rat) + i1) - ((c.op.1 : Rat) + i0)
  let tp : Rat := 1 + (s.tempcoP l : Rat) * dT / 1000000
  let th : Rat := 1 + (s.rd F.OBS_CFG.TCR_H : Rat) * dT / 1000000
  let vpiValid := o.fed && !isTrimLoop l
  let vpiEst := if vpiValid then satU 16 (roundRat (span * s.lsbP l / tp * 10000)) else s.lastEstimate l 0 (s.vpiP l)
  let amps := s.heaterAmps l
  let rhValid := decide (1 / 10000 ≤ amps)
  let rhNow : Rat := (o.heaterUv : Rat) / 1000000 / amps
  let rhEst := if rhValid then satU 16 (roundRat (rhNow / th * 10)) else s.lastEstimate l 2 (s.rh0 l)
  let qr : Option Rat := if isTrimLoop l then none else o.q.map fun q => (q : Rat) / 4294967296
  let qcum := match qr with
    | some q => satU 16 (roundRat
        (q * s.rd (F.LOOP_PL.PL_SCALE (loopCourse l) (loopIndex l)) / s.plScale l * 16384))
    | none => s.ageing16 l 6
  { dT := dT, i0 := i0, i1 := i1, span := span, vpiValid := vpiValid, vpiEst := vpiEst
    vpi := if vpiValid then span * s.lsbP l else (vpiEst : Rat) / 10000 * tp
    rhValid := rhValid, rhEst := rhEst, rh := if rhValid then rhNow else (rhEst : Rat) / 10 * th
    q := qr, qcum := qcum }

/-- The chromatic offset of a state, Q1.15 (R363): its changes of Pockels and heater phase since step 7, each in Q1.15. -/
def State.chromNow (s : State) (l : Nat) (e : Estimate) (st : Nat) : Int :=
  let c := s.loopCfgNext l
  let op : Rat := ((atState c.op st : Nat) : Rat) + (if st = 0 then e.i0 else e.i1)
  let dp := roundRat ((op - s.ageing16 l (12 + 2 * st)) * s.lsbP l / e.vpi * 32768)
  let h := s.rd (F.HEART.HCODE l)
  let h0 := s.ageing16 l 16
  let ppi : Rat := (s.lastEstimate l 4 (s.ppiH l) : Rat) / 1000000
  let dh := roundRat (s.lsbH l * s.lsbH l * ((h * h : Nat) - (h0 * h0 : Nat) : Int) * e.rh / ppi * 32768)
  satS 16 (s.chrom l + roundEvenShift 15 (s.rdS F.KCHROM.KC_P * dp) + roundEvenShift 15 (s.rdS F.KCHROM.KC_H * dh))

/-! ## The actions (R364) -/

/-- What `replan_actions` proposes for a loop. -/
structure Proposal where
  fold : Int × Int
  shift : Int
  sp : Nat × Nat
  chrom1 : Int
  gh : Word
  pl : Nat
  ft : Nat
  adviceRange : Bool
  adviceChar : Bool

/-- An operating-point change is in range for both states, `ints` the integrators in 2^-16 codes (R364). -/
def opRangeOk (c : LoopCfg) (ints d : Int × Int) : Bool :=
  let ok (st : Nat) : Bool :=
    let op : Int := ((atState c.op st : Nat) : Int) + atState d st
    decide ((c.codeMin : Int) ≤ op) && decide (op ≤ c.codeMax) &&
      decide ((atState ints st - atState d st * 2 ^ 16).natAbs ≤ c.ilim * 2 ^ 16)
  ok 0 && ok 1

/-- The integrators of a loop. -/
def State.integrators (s : State) (l : Nat) : Int × Int := (s.rdS (F.INT0.I0 l), s.rdS (F.INT1.I1 l))

/-- The median QCUM (2.14) of the evaluated switching loops of a tile die, 1.0 where there is none. -/
def State.dieMedian (s : State) (d : Nat) : Nat :=
  let v := sortNat (((List.range 4352).filter fun l => tileDie (loopTile l) == d &&
    (leNat (s.memBytes (ageingAt l 31) 1)).testBit 2).map fun l => s.ageing16 l 6)
  let n := v.length
  if n = 0 then 16384
  else if n % 2 = 1 then v.getD (n / 2) 0
  else (roundEvenDiv ((v.getD (n / 2 - 1) 0 + v.getD (n / 2) 0 : Nat) : Int) 2).toNat

def State.lastMedian (s : State) (d : Nat) : Nat := (s.replan.prevMedian.lookup d).getD 16384

/-- The sign of a number: −1, 0 or 1. -/
def signOf (v : Int) : Int := if v < 0 then -1 else if v = 0 then 0 else 1

/-- The set-point of a state, and whether it asks for a new characterisation. -/
def State.spNew (s : State) (l : Nat) (e : Estimate) (st : Nat) : Nat × Bool :=
  let old := atState (s.loopCfgNext l).sp st
  let x := s.chromNow l e st
  let new := sinSq24 x.natAbs 32768
  if signOf x ≠ signOf (s.chrom l) ∨ (x.natAbs : Rat) / 32768 * e.vpi / s.lsbP l < s.calib.dMin ∨
      old < 4 * ((new : Int) - old).natAbs then (old, true)
  else (new, false)

def State.propose (s : State) (l : Nat) (o : LoopObs) (e : Estimate) : Proposal :=
  let c := s.loopCfgNext l
  let m := (e.i0 + e.i1) / 2
  let fold : Int × Int := if o.fed then (roundRat (e.i0 - m), roundRat (e.i1 - m)) else (0, 0)
  let cm : Rat := ((c.op.1 : Int) + fold.1 + c.op.2 + fold.2 : Int) / 2
  let centre : Rat := ((s.ageing16 l 12 + s.ageing16 l 14 : Nat) : Rat) / 2
  let off := cm - centre
  let size : Rat := if off < 0 then -off else off
  let wants := c.heartEn && decide ((s.rd F.REBAL_CFG.REBAL_BAND : Rat) < size)
  let step : Int := min (roundRat size) (s.rd F.REBAL_CFG.REBAL_STEP)
  let shift0 : Int := if off < 0 then -step else step
  let h := s.rd (F.HEART.HCODE l)
  let h2 : Rat := ((h * h : Nat) : Rat) + shift0 * (c.gh : Rat) / 256
  let hBad := decide (h2 < ((c.hcodeMin * c.hcodeMin : Nat) : Rat)) || decide (((c.hcodeMax * c.hcodeMax : Nat) : Rat) < h2)
  let shift : Int := if wants && !hBad then shift0 else 0
  let opOk := opRangeOk c (s.integrators l) (fold.1 - shift, fold.2 - shift)
  let sp0 := s.spNew l e 0
  let sp1 := s.spNew l e 1
  let trim := isTrimLoop l
  let pl := s.rd (F.LOOP_PL.PL_SCALE (loopCourse l) (loopIndex l))
  let d := tileDie (loopTile l)
  { fold := if opOk then fold else (0, 0)
    shift := if opOk then shift else 0
    sp := if trim then c.sp else (sp0.1, sp1.1)
    chrom1 := s.chromNow l e 1
    gh := s.ghOf l ((s.lastEstimate l 4 (s.ppiH l) : Rat) / 1000000) e.vpi e.rh
    pl := match e.q with
      | some q => satU 16 (roundRat (pl * q))
      | none => pl
    ft := satU 32 (roundEvenDiv (((c.normA + 65536 * c.normB) * s.lastMedian d : Nat) : Int) (max 1 (s.dieMedian d)))
    adviceRange := (wants && hBad) || !opOk
    adviceChar := !trim && (sp0.2 || sp1.2) }

/-! ## Headroom (R367) -/

/-- REF_YEARS of a tile: the least distance of its four reference trims from an end code, at REF_RATE; none at rate 0. -/
def State.refYears (s : State) (t : Nat) : Option Rat :=
  let near (f : Field) : Nat := min (s.rd f) (255 - s.rd f)
  let least := min (min (near (F.REF_TRIM.POCK_REF_GAIN t)) (near (F.REF_TRIM.HTR_REF_GAIN t)))
    (min (near (F.REF_TRIM.ADC_A_REF t)) (near (F.REF_TRIM.ADC_B_REF t)))
  yearsOf (100 * least) (s.rd F.RATE_DEF1.REF_RATE)

/-- The years each resource of a loop lasts, by LIMITER code. -/
def State.resources (s : State) (l : Nat) (o : LoopObs) (e : Estimate) (age : Option Rat) : List (Nat × Option Rat) :=
  let c := s.loopCfgNext l
  let tp : Rat := 1 + (s.tempcoP l : Rat) * e.dT / 1000000
  let th : Rat := 1 + (s.rd F.OBS_CFG.TCR_H : Rat) * e.dT / 1000000
  let vpiRate : Rat := match age with
    | some y => ((e.vpiEst : Int) - s.vpiP l : Int) / y / 10000
    | none => (s.rd F.RATE_DEF0.VPI_RATE : Rat) / 10000
  let rhRate : Rat := match age with
    | some y => ((e.rhEst : Int) - s.rh0 l : Int) / y / 10
    | none => (s.rd F.RATE_DEF0.RH_RATE : Rat) / 100
  -- QCUM in dB, to 0.01 dB
  let dB : Rat := (roundRat ((log10 e.qcum 16384 : Rat) * 1000 / 4294967296) : Rat) / 100
  let qRate : Rat := match age with
    | some y => -dB / y
    | none => (s.rd F.RATE_DEF1.Q_RATE : Rat) / 1000
  let amps := s.heaterAmps l
  let floor := s.rd (F.DEN_MIN.VAL (loopCourse l)) * 256
  let probe : List (Nat × Option Rat) :=
    if e.q.isSome ∧ 0 < o.den ∧ 0 < floor then
      [(3, yearsOf ((log10 o.den floor : Rat) * 10 / 4294967296) qRate)] else []
  let pockels : List (Nat × Option Rat) :=
    if isTrimLoop l then [] else [(1, yearsOf (((c.codeMax : Int) - c.codeMin : Int) - e.span) (vpiRate * tp / s.lsbP l))]
  List.flatten [pockels, [(2, yearsOf (29 / 10 - amps * e.rh) (amps * rhRate * th))], probe, [(4, s.refYears (loopTile l))]]

/-- The resource with the fewest years: LIMITER (0 where none ends) and the years. -/
def leastResource (rs : List (Nat × Option Rat)) : Nat × Option Rat :=
  rs.foldl (fun best r => match r.2, best.2 with
    | some y, some b => if y < b then r else best
    | some _, none => r
    | none, _ => best) (0, none)

/-! ## A loop's window (R362–R368) -/

/-- The loop can be evaluated: in AUTO with none of LIMIT, PLAUS and NO_PROBE, and not calibrating (R362). -/
def State.loopFit (s : State) (l : Nat) (o : LoopObs) : Bool :=
  let c := loopCourse l
  let j := loopIndex l
  o.fit && s.loopState l == 2 && !s.flag (F.LOOP_STAT.LIMIT c j) && !s.flag (F.LOOP_STAT.PLAUS c j) &&
    !s.flag (F.LOOP_STAT.NO_PROBE c j) && !s.hCal l

def State.skipLoop (s : State) (l : Nat) : State :=
  (s.setAgeing l 31 1 (leNat (s.memBytes (ageingAt l 31) 1) ||| 8)).bump F.LOOPS_SKIPPED

/-- The words POLICY and ACT_MASK have written (R364, R365): operating points, set-points, GH, PL_SCALE or F_T. -/
def State.applyProposal (s : State) (l : Nat) (p : Proposal) : State :=
  let mask := s.rd F.AGE_CFG.ACT_MASK
  let c := s.loopCfgNext l
  let fold : Int × Int := if mask.testBit 0 then p.fold else (0, 0)
  let shift : Int := if mask.testBit 1 then p.shift else 0
  let d : Int × Int := (fold.1 - shift, fold.2 - shift)
  let a (n : Nat) : Nat := loopWordAddr l n
  let s1 := if d ≠ (0, 0) ∧ opRangeOk c (s.integrators l) d = true then
      s.holdLv (a 0) (BitVec.ofNat 32 (unsigned 16 (c.op.1 + d.1) + 65536 * unsigned 16 (c.op.2 + d.2)))
    else s
  let s2 := if mask.testBit 2 ∧ isTrimLoop l = false then
      (s1.holdLv (a 1) (withBits (s1.lvWord (a 1)) 0 24 p.sp.1)).holdLv (a 2) (withBits (s1.lvWord (a 2)) 0 24 p.sp.2)
    else s1
  let s3 := if mask.testBit 3 then
      let g := s2.holdLv (a 10) p.gh
      if isTrimLoop l then g.holdLv (a 9) (BitVec.ofNat 32 p.ft)
      else g.setLoopMem l { g.loopMem l with plNext := some p.pl }
    else s2
  s3.bump F.LOOPS_APPLIED

/-- The ageing record of an evaluated loop (R368). -/
def State.writeAgeing (s : State) (l : Nat) (e : Estimate) (p : Proposal) (headroom limiter flags : Nat) : State :=
  let s1 := ((((s.setAgeing l 0 2 e.vpiEst).setAgeing l 2 2 e.rhEst).setAgeing l 4 2 (s.lastEstimate l 4 (s.ppiH l))).setAgeing
    l 6 2 e.qcum).setAgeing l 10 2 (unsigned 16 p.chrom1)
  let s2 := ((s1.setAgeing l 18 2 headroom).setAgeing l 20 2 (unsigned 16 (p.fold.1 - p.shift))).setAgeing l 22 2
    (unsigned 16 (p.fold.2 - p.shift))
  let sp (v : Nat) : Nat := if isTrimLoop l then 0 else v
  (((s2.setAgeing l 24 3 (sp p.sp.2)).setAgeing l 27 1 limiter).setAgeing l 28 3 (sp p.sp.1)).setAgeing l 31 1 flags

def State.evaluateLoop (s : State) (l : Nat) (o : LoopObs) : State :=
  let e := s.estimate l o
  let p := s.propose l o e
  let age := s.ageYears
  let least := leastResource (s.resources l o e age)
  let headroom := years88 least.2
  let apply := s.rd F.AGE_CFG.POLICY == 1 && s.rd F.AGE_CFG.ACT_MASK != 0
  let flags := e.vpiValid.toNat + 2 * e.rhValid.toNat + 4 * e.q.isSome.toNat + 16 * apply.toNat + 32 * p.adviceChar.toNat +
    64 * p.adviceRange.toNat + 128 * age.isNone.toNat
  let s1 := if apply then s.applyProposal l p else s
  let s2 := s1.writeAgeing l e p headroom least.1 flags
  let s3 := if age.isNone then s2.raise Src.AGEING.TIME_INVALID else s2
  let s4 := if p.adviceChar || p.adviceRange then s3.raise Src.AGEING.ADVICE else s3
  if headroom < s4.rd F.HEADROOM_WARN.YEARS then s4.raise Src.AGEING.HEADROOM_LOW else s4

/-- A window's end for one loop. -/
def State.windowLoop (s : State) (l : Nat) (o : Option LoopObs) : State :=
  match o with
  | some o =>
    if s.loopFit l o then { s with replan := { s.replan with done := s.replan.done + 1 } }.evaluateLoop l o else s.skipLoop l
  | none => s.skipLoop l

/-! ## The end of a pass -/

/-- The loops with a limiter, with their headroom. -/
def State.limitedLoops (s : State) : List (Nat × Nat) :=
  ((List.range 4864).filter fun l => s.memByte (ageingAt l 27) != 0).map fun l => (l, s.ageing16 l 18)

/-- The entry with the least value, the first on ties. -/
def leastOf (l : List (Nat × Nat)) : Option (Nat × Nat) :=
  l.foldl (fun best e => match best with
    | some b => if e.2 < b.2 then some e else best
    | none => some e) none

/-- PROBE_DB (R367): 10·log10 of the median cell's probe in mW, plus 31 dB, 8.8; with no probe the spec states no value. -/
def State.probeMargin (s : State) (mean : Nat) : State :=
  if mean = 0 then
    let f := s.freshValue
    f.2.wr F.PROBE_DB.MARGIN (f.1.toNat % 65536)
  else
    let v := sortNat ((List.range 4352).map fun l => s.passport16 l 14)
    let share : Rat := ((v.getD 2175 0 + v.getD 2176 0 : Nat) : Rat) / 200
    s.wrS F.PROBE_DB.MARGIN (satS 16 (roundRat
      (256 * ((log10 mean 65536000 : Rat) * 10 / 4294967296 - share + 31))))

def State.completePass (s : State) : State :=
  let mean := if s.replan.probeCount = 0 then s.rd F.AGEING_PROBE_EST.EST
    else satU 32 (roundEvenDiv (s.replan.probeSum : Int) s.replan.probeCount)
  let s1 := s.wr F.PROBE_MEAN.MEAN mean
  let s2 := if s1.rdW F.PASSES = 0 then s1.wr F.PROBE_FIRST.FIRST mean else s1
  let s3 := s2.probeMargin mean
  let limited := s3.limitedLoops
  let s4 := match leastOf limited with
    | some e => (s3.wr F.HEADROOM_MIN.YEARS e.2).wr F.HEADROOM_MIN.LOOP e.1
    | none => s3
  let s5 := s4.wr F.HEADROOM_BELOW.COUNT (limited.filter fun e => decide (e.2 < s4.rd F.HEADROOM_WARN.YEARS)).length
  let s6 := match leastOf ((List.range 76).map fun t => (t, s5.rd (F.REF_AGE.REF_YEARS t))) with
    | some e => (s5.wr F.REF_HEADROOM.YEARS e.2).wr F.REF_HEADROOM.TILE e.1
    | none => s5
  let s7 : State := { s6 with replan := { s6.replan with
    prevMedian := (List.range 4).map fun d => (d, s6.dieMedian d) } }
  (s7.endPass 1 0).bump F.PASSES

/-- The window of the course under observation ends (R362). Its tiles' REF_YEARS are written, its loops evaluated or skipped,
and the next course follows, or the pass completes. -/
def State.windowEnd (s : State) (obs : List LoopObs) : State :=
  let c := s.rd F.REPLAN_STATUS.COURSE
  if s.replan.running && s.start == 4 then
    let s1 := ((List.range 4).map (4 * c + ·)).foldl (fun s t =>
      s.wr (F.REF_AGE.REF_YEARS t) (years88 (s.refYears t))) s
    let s2 := (List.range 256).foldl (fun s j => s.windowLoop (256 * c + j) obs[j]?) s1
    if c = 18 then s2.completePass else (s2.wr F.REPLAN_STATUS.COURSE (c + 1)).measureHeaters (some (c + 1))
  else s

/-! ## The commands -/

def execReplanTimer (s : State) : Host.Outcome State Fault Refusal := .next (s.onMain State.replanTimer)

def execReplanCmdNow (m : Master) (s : State) : Host.Outcome State Fault Refusal :=
  .next (s.gate m F.REPLAN_CMD.NOW.addr fun s => s.writeReplanCmd 1)

def execReplanCmdAbort (m : Master) (s : State) : Host.Outcome State Fault Refusal :=
  .next (s.gate m F.REPLAN_CMD.ABORT.addr fun s => s.writeReplanCmd 2)

def execReplanWindowEnd (obs : List LoopObs) (s : State) : Host.Outcome State Fault Refusal :=
  .next (s.onMain fun s => s.windowEnd obs)

end Sys2Proof.Machine
end

