-- ==== Sys2Proof/Machine/Write.lean ====
section
/-! DEFINITION. What a write of a register word does, once it is allowed (R11, R470, R471, R474), block by block: the words
that act are given to the operation that carries their rule, every other word stores its fields by their access codes. -/

namespace Sys2Proof.Machine

/-! ## Words that only store -/

/-- Each field by its own access code: RW sets, W1C clears but for bits set in this cycle (R12), RO, RC, FX, WO and reserved
bits are ignored; LV fields are held pending (R11, R14, R470). -/
def State.storeWord (s : State) (a : Nat) (w : Word) : State :=
  let rw := accMask a [.rw]
  let lv := accMask a [.lv]
  let s1 := s.setWord a ((s.word a &&& ~~~(rw ||| (w &&& accMask a [.w1c] &&& ~~~s.freshMask a))) ||| (w &&& rw))
  if lv = 0 then s1 else s1.holdLv a ((s1.lvWord a &&& ~~~lv) ||| (w &&& lv))

/-- The fault block whose five words hold `a`, and which of them it is (R456). -/
def faultWordAt (a : Nat) : Option (FaultBlock × Nat) :=
  (FB.all.find? fun b => decide (b.real ≤ a) && decide (a ≤ b.real + 16)).map fun b => (b, (a - b.real) / 4)

def State.writeFault (s : State) (b : FaultBlock) (k : Nat) (w : Word) : State :=
  match k with
  | 0 => s.writeFaultReal b w
  | 1 => s.writeFaultInj b w
  | 2 => s.writeFaultEn b w
  | 3 => s.writeFaultSev b w
  | _ => s.writeInject b w

/-! ## HOSTIF, MORTAR, TIME -/

/-- The MSI-X table: an entry that is unmasked lets its pending message leave (R404). -/
def State.writeHostif (s : State) (m : Master) (a : Nat) (w : Word) : State :=
  if 0x30060 ≤ a ∧ a < 0x30080 then s.writeRearm ((a - 0x30060) / 4) w
  else if 0x30100 ≤ a ∧ a < 0x30188 then s.writeSem m ((a - 0x30100) / 4) w
  else if a = 0x30200 then s.writeFuseCmd m w
  else if 0x38000 ≤ a ∧ a < 0x39000 then (s.storeWord a w).flushVectors
  else s.storeWord a w

def State.writeMortarBlock (s : State) (a : Nat) (w : Word) : State :=
  if (0x71000 ≤ a ∧ a < 0x71400) ∨ (0x72000 ≤ a ∧ a < 0x73400 ∧ a % 32 = 4) then s.writeMortar a w
  else if a = 0x70044 then (List.range 16).foldl (fun s k => s.signalVector (23 + k)) (s.storeWord a w)
  else s.storeWord a w

/-- STRB_CMD: the plane strobe, then each group named (R64, R66). -/
def State.writeStrbCmd (s : State) (w : Word) : State :=
  let s1 := if w.getLsbD 8 then s.commandPlane else s
  ((List.range 8).filter fun g => w.getLsbD g).foldl (fun s g => s.commandGroup g) s1

/-- A TPULSE word: ARM, then DISARM; a configuration write while the output is armed is refused (R290). -/
def State.writeTpulse (s : State) (a : Nat) (w : Word) : State :=
  let n := (a - 0x80200) / 32
  if a % 32 = 0x1C then
    let s1 := if w.getLsbD 0 then s.armTpulse n else s
    if w.getLsbD 1 then s1.disarmTpulse n else s1
  else if s.flag (F.TP_CTRL.ARMED n) then s.raise Src.TIME.TPULSE_REFUSED
  else
    let s1 := s.storeWord a w
    if s1.tpPin n = s.tpPin n then s1 else s1.emitOut (.tpulse n (s1.tpPin n))

/-- The ring that has a word at `a`, and the word's offset in it. -/
def ringAt (a : Nat) : Option (RingId × Nat) :=
  (RingId.all.find? fun r => decide (r.addr ≤ a) && decide (a < r.addr + 28)).map fun r => (r, a - r.addr)

/-- A ring's words (R108, R267, R285): the pointers the host moves, BASE, SIZE and CFG by their rules. -/
def State.writeRing (s : State) (r : RingId) (off : Nat) (w : Word) : State :=
  match off with
  | 0 => s.writeRingWord r w .base
  | 4 => s.writeRingWord r w .size
  | 8 => if r = .ptx then s.writeRingPtr r false w else s
  | 12 => s.writeRingPtr r true w
  | 20 => s.writeRingWord r w .cfg
  | _ => s.storeWord (r.addr + off) w

def State.writeTime (s : State) (a : Nat) (w : Word) : State :=
  if a = 0x80028 then s.startSlew w
  else if a = 0x8003C then (if w.getLsbD 1 then s.stepCmd (w.getLsbD 0) else s)
  else if 0x80200 ≤ a ∧ a < 0x80400 then s.writeTpulse a w
  else if a = 0x80420 then s.writeStrbCmd w
  else s.storeWord a w

/-! ## THERMAL to AGENTS -/

def State.writeThermal (s : State) (a : Nat) (w : Word) : State :=
  if a = 0x90410 then (if w.getLsbD 15 then s.readSlot (bitsOf w 0 11) else s)
  else if a = 0x90418 then (if w.getLsbD 0 then s.eraseRing else s)
  else s.storeWord a w

/-- The place of a calibration mirror word: tile and index (R370, R371). -/
def calPlace (a : Nat) : Option (Nat × Nat) :=
  if 0xB0800 ≤ a ∧ a < 0xB1180 then
    match a % 32 with
    | 0 => some ((a - 0xB0800) / 32, 0)
    | 8 => some ((a - 0xB0800) / 32, 1)
    | 12 => some ((a - 0xB0800) / 32, 2)
    | _ => none
  else if 0xB2000 ≤ a ∧ a < 0xBB800 then some ((a - 0xB2000) / 512, 3 + (a - 0xB2000) % 512 / 4)
  else none

/-- A write of CAL_AUTO: a tile whose bit becomes set and whose temperature has left CAL_TEMP is due (R350, R360). -/
def State.writeCalAuto (s : State) (a : Nat) (w : Word) : State :=
  let s1 := s.storeWord a w
  let k := (a - (F.CAL_AUTO.AUTO 0).addr) / 4
  let set := (List.range 32).filter fun i => (s1.word a).getLsbD i && !(s.word a).getLsbD i
  ((set.map (32 * k + ·)).filter fun t => decide (t < 76) && s.flag (F.SENSOR.VALID t)).foldl State.tempCause s1

def State.writeCalib (s : State) (a : Nat) (w : Word) : State :=
  if a = 0xB000C then s.writeCalCmd w
  else if a = 0xB00C0 then (if w.getLsbD 0 then s.silCalGo else s)
  else
    match calPlace a with
    | some p => s.writeMirror p.1 p.2 w
    | none =>
      if (F.CAL_AUTO.AUTO 0).addr ≤ a ∧ a ≤ (F.CAL_AUTO.AUTO 2).addr then s.writeCalAuto a w else s.storeWord a w

/-- TWIN_CMD, its bits in order (R308). -/
def State.writeTwinCmd (s : State) (w : Word) : State :=
  let s1 := if w.getLsbD 0 then s.twinLead else s
  let s2 := if w.getLsbD 1 then s1.twinResync else s1
  if w.getLsbD 2 then s2.twinWithdraw else s2

def State.writeParser (s : State) (a : Nat) (w : Word) : State :=
  if a = 0xE000C then (if w.getLsbD 0 then s.swapCmd (w.getLsbD 1) else s)
  else if a = 0xE0024 then
    let s1 := if w.getLsbD 0 then s.readRule else s
    if w.getLsbD 1 then s1.writeRule else s1
  else s.storeWord a w

/-! ## COMPOSER and ACCORD -/

/-- A Composer word would take a value outside its stated range (R215–R217). -/
def State.composerBad (s : State) (a : Nat) (w : Word) : Bool :=
  if 0x180100 ≤ a ∧ a < 0x180118 then bitsOf w 0 8 == 0
  else if 0x182000 ≤ a ∧ a < 0x182800 ∧ a % 32 = 4 then decide (bitsOf w 0 24 < bitsOf (s.lvWord (a - 4)) 0 24)
  else if 0x182000 ≤ a ∧ a < 0x182800 ∧ a % 32 = 8 then decide (bitsOf w 16 16 < bitsOf w 0 16)
  else if 0x184000 ≤ a ∧ a < 0x186000 ∧ a % 16 = 4 then bitsOf w 0 15 == 0
  else false

/-- LV words of the block are held with the APPLY_FRAME in force (R213). -/
def State.writeComposer (s : State) (a : Nat) (w : Word) : State :=
  let lv := accMask a [.lv]
  if a = 0x180008 then
    if w.getLsbD 0 then
      let f := s.freshValue
      f.2.abortComposition (f.1.toNat % 65)
    else s
  else if lv = 0 then s.storeWord a w
  else if s.composerBad a w then (s.bump F.COMPOSER_PARAM_REFUSED_CNT).raise Src.COMPOSER.PARAM_REFUSED
  else s.holdComposerLv a ((s.lvWord a &&& ~~~lv) ||| (w &&& lv))

/-- ALT_CMD: ARM and DISARM together are refused whole (R190). -/
def State.writeAltCmd (s : State) (w : Word) : State :=
  let n := bitsOf w 0 4
  match w.getLsbD 4, w.getLsbD 5 with
  | true, true => s.altRefused
  | true, false => s.armAlternate n
  | false, true => s.disarmAlternate n
  | false, false => s

def State.writeAccordBlock (s : State) (a : Nat) (w : Word) : State :=
  if a = 0x260040 then s.writeAltCmd w
  else if a = 0x260044 then (if w.getLsbD 4 then s.requestSwitch (bitsOf w 0 4) else s)
  else
    match recordAt a with
    | some r => s.writeRecord r.1 r.2 w
    | none => s.storeWord a w

/-! ## Courses, tiles, loops -/

def State.writeCourse (s : State) (a : Nat) (w : Word) : State :=
  let c := (a - 0x300000) / 65536
  let off := (a - 0x300000) % 65536
  if off = 4 then s.writeCourseCtrl c w
  else if 0x1000 ≤ off ∧ off < 0x1400 then s.writeLoopCtrl (256 * c + (off - 0x1000) / 4) w
  else if 0x1400 ≤ off ∧ off < 0x1800 then
    let s1 := if w.getLsbD 4 then s.setEvt (256 * c + (off - 0x1400) / 4) false else s
    s1.storeWord a (w &&& ~~~0x10#32)
  else s.storeWord a w

/-- SEAL_CMD: each seal named (R80). -/
def State.writeSealCmd (s : State) (t : Nat) (w : Word) : State :=
  let s1 := if w.getLsbD 0 then s.sealSelAll t else s
  let s2 := if w.getLsbD 1 then s1.sealLadderAll t else s1
  let s3 := if w.getLsbD 2 then s2.sealHtrAll t else s2
  if w.getLsbD 3 then s3.sealShutters t else s3

/-- A Pockels channel's words (R81). -/
def State.writePock (s : State) (m : Master) (t ch k : Nat) (w : Word) : State :=
  match k with
  | 0 => s.writeLadder m t ch 0 w
  | 1 => s.writeLadder m t ch 1 w
  | 2 => s.writeSelShadow m t ch w
  | 3 =>
    let s1 := if w.getLsbD 0 then s.sealLadder t ch 0 else s
    let s2 := if w.getLsbD 1 then s1.sealLadder t ch 1 else s1
    if w.getLsbD 2 then s2.sealSelect t ch else s2
  | _ => s

/-- A heater channel's words (R82). -/
def State.writeHtr (s : State) (m : Master) (t ch k : Nat) (w : Word) : State :=
  match k with
  | 0 => s.writeHeater m t ch w
  | 1 => if w.getLsbD 0 then s.sealHeater t ch else s
  | _ => s

/-- The shutter words; a switching tile ignores them (R79, R83). -/
def State.writeShut (s : State) (m : Master) (t off : Nat) (w : Word) : State :=
  if !isTrimTile t then s
  else
    match off with
    | 0xD00 => s.writeShutters m t 0 w
    | 0xD04 => s.writeShutters m t 1 w
    | 0xD08 => if w.getLsbD 0 then s.sealShutters t else s
    | _ => s.storeWord (0x500000 + 16384 * t + off) w

/-- A write of the word at offset `off` of tile `t`'s window. -/
def State.writeTile (s : State) (m : Master) (t off : Nat) (w : Word) : State :=
  if 0x2040 ≤ off ∧ off < 0x2060 then s.writeTiaRange m t ((off - 0x2040) / 4) w
  else if 0x100 ≤ off ∧ off < 0x900 then s.writePock m t ((off - 0x100) / 32) (off % 32 / 4) w
  else if 0x900 ≤ off ∧ off < 0xD00 then s.writeHtr m t ((off - 0x900) / 16) (off % 16 / 4) w
  else if 0xD00 ≤ off ∧ off < 0xD24 then s.writeShut m t off w
  else
    match off with
    | 0x4 => s.writeDrvEnable t w
    | 0x8 => s.writeSealCmd t w
    | 0x2000 => s.writeScanCfg t w
    | 0x2008 => s.writeFocus t w
    | 0x200C => s.writeDiag t w
    | 0x201C => s.writeFastCfg t w
    | _ => s.storeWord (0x500000 + 16384 * t + off) w

/-- A loop record's words: configuration, state, and those that are read-only (R134–R136). -/
def State.writeLoopWord (s : State) (m : Master) (a : Nat) (w : Word) : State :=
  let l := (a - 0x800000) / 64
  let n := a % 64 / 4
  if n ≤ 10 then s.writeLoopParam l n w
  else if 12 ≤ n ∧ n ≤ 14 then s.writeLoopState m l (n - 12) w
  else s

def State.writeRepWord (s : State) (a : Nat) (w : Word) : State :=
  let l := (a - 0x880000) / 256
  s.writeRepetitive l (a % 256 / 128) (a % 128 / 4) w

def State.writeSillage (s : State) (a : Nat) (w : Word) : State :=
  match a with
  | 0x1000004 => s.writeSilCtrl w
  | 0x1000008 => s.writeSilSrc w
  | 0x1000018 => if w.getLsbD 0 then s.silTriggerFrom 0 else s
  | 0x1000020 => (s.storeWord a w).newTrigTime
  | _ => s.storeWord a w

/-! ## Wide values (R474) -/

/-- The HI word commits both halves of the writable pair at `a`, or is refused with them. -/
def State.commitPair (s : State) (m : Master) (a : Nat) (hi : Word) : State :=
  let lo := s.heldLo m a
  let s1 := s.dropLo m a
  let done := (s1.storeWord a lo).storeWord (a + 4) hi
  if a = 0x80020 then s.writeTimeIncHi m hi
  else if 0x80200 ≤ a ∧ a < 0x80400 then
    if s.flag (F.TP_CTRL.ARMED ((a - 0x80200) / 32)) then s1.raise Src.TIME.TPULSE_REFUSED else done
  else if 0x60100 ≤ a ∧ a < 0x60500 then
    if s.rd (F.CH_STATUS.STATE ((a - 0x60100) / 64)) = 0 then done else s1
  else if a = 0x1000024 then done.newTrigTime
  else done

/-! ## One register word -/

/-- A write of `m` to the word at `a` by its block's rules, the owner and FX checks made. -/
def State.writeBlock (s : State) (m : Master) (a : Nat) (w : Word) : State :=
  if a < 0x40000 then s.writeHostif m a w
  else if a < 0x70000 then s.storeWord a w
  else if a < 0x80000 then s.writeMortarBlock a w
  else if a < 0x90000 then s.writeTime a w
  else if a < 0xA0000 then s.writeThermal a w
  else if a < 0xB0000 then s.storeWord a w
  else if a < 0xC0000 then s.writeCalib a w
  else if a = 0xC0020 then s.writeReplanCmd w
  else if a = 0xD0018 then s.writeTwinCmd w
  else if a < 0xE0000 then s.storeWord a w
  else if a < 0xF0000 then s.writeParser a w
  else if a = 0xF0010 then (if w.getLsbD 8 then s.echoCmd (bitsOf w 0 6) else s)
  else if a = 0x140008 then s.snapContext (bitsOf w 0 13)
  else if a < 0x180000 then s.storeWord a w
  else if a < 0x200000 then s.writeComposer a w
  else if a < 0x300000 then s.writeAccordBlock a w
  else if a < 0x430000 then s.writeCourse a w
  else if 0x500000 ≤ a ∧ a < 0x630000 then s.writeTile m ((a - 0x500000) / 16384) ((a - 0x500000) % 16384) w
  else if 0x800000 ≤ a ∧ a < 0x84C000 then s.writeLoopWord m a w
  else if 0x880000 ≤ a ∧ a < 0x9B0000 then s.writeRepWord a w
  else s.writeSillage a w

/-- A write that its block's rules take: pairs, rings and fault words first, since many blocks have them. -/
def State.writeWord (s : State) (m : Master) (a : Nat) (w : Word) : State :=
  if pairLo a then s.holdLo m a w
  else if 4 ≤ a ∧ pairLo (a - 4) = true then s.commitPair m (a - 4) w
  else
    match ringAt a, faultWordAt a with
    | some r, _ => s.writeRing r.1 r.2 w
    | none, some b => s.writeFault b.1 b.2 w
    | none, none => s.writeBlock m a w

end Sys2Proof.Machine
end

