-- ==== Sys2Proof/Machine/DmaBase.lean ====
section
/-! DEFINITION. The DMA channels' states and ends (R428, R432–R434), apart from the data they move, and the internal
addresses of R419. -/

namespace Sys2Proof.Machine

/-! ## Internal addresses (R419) -/

/-- The target an internal address decodes to. -/
def targetOf (a : Nat) : Option Nat :=
  if 2 ^ 63 ≤ a then some 6
  else if a < 0x100000 then some 0
  else if 0x10000000 ≤ a ∧ a < 0x10800000 then some 1
  else if 0x20000000 ≤ a ∧ a < 0x24000000 then
    if 0x20200000 ≤ a ∧ a < 0x20300000 then some 3
    else if 0x20800000 ≤ a ∧ a < 0x21000000 then some 4
    else some 2
  else if 0x30000000 ≤ a ∧ a < 0x32000000 then some 5
  else if 0x40000000 ≤ a ∧ a < 0x50000000 then some 7
  else none

/-- The target is register space. -/
def isRegTarget (t : Nat) : Bool := t == 2 || t == 3 || t == 4

/-- The BAR2 offset of an address in T1 or T5 (R419). -/
def bar2Of (a : Nat) : Nat := if 0x30000000 ≤ a then a - 0x30000000 else 0x02000000 + (a - 0x10000000)

/-- The range of `n` bytes from `a` stays in one target. -/
def staysIn (a n : Nat) : Bool :=
  match targetOf a, targetOf (a + n - 1) with
  | some t, some t' => t == t' && [0x20200000, 0x20300000, 0x20800000, 0x21000000].all fun b =>
      !(decide (a < b) && decide (b ≤ a + n - 1))
  | _, _ => false

/-! ## Channels -/

def masterOf (n : Nat) : Master :=
  match n with
  | 0 => .m0
  | 1 => .m1
  | 2 => .m2
  | 3 => .m3
  | 4 => .m4
  | 5 => .m5
  | 6 => .m6
  | _ => .m7

/-- The master a channel's accesses are checked as (R428). -/
def State.dmaMaster (s : State) (n : Nat) : Master := masterOf (s.rd (F.CH_STATUS.STARTED_BY n))

def State.chan (s : State) (n : Nat) : Option DmaChan := s.dma.lookup n

def State.setChan (s : State) (n : Nat) (x : DmaChan) : State := { s with dma := sparseInsert s.dma n x }

/-- Producers DMA_DONE_n and DMA_ERR_n (R437). -/
def codeDmaDone (n : Nat) : Nat := 9 * 64 + n
def codeDmaErr (n : Nat) : Nat := 9 * 64 + 16 + n

def State.dmaDone (s : State) (n : Nat) : State :=
  ((s.setEvent (F.CH_STATUS.DONE n)).signalVector (6 + n)).emitCode (codeDmaDone n)

def State.dmaErr (s : State) (n : Nat) : State :=
  (((s.setEvent (F.CH_STATUS.ERR n)).signalVector (6 + n)).emitCode (codeDmaErr n)).raise Src.DMA.CH_ERROR

/-- The channel ends: IDLE, with its RESULT and RESIDUE. -/
def State.endDma (s : State) (n result residue : Nat) : State :=
  ((({ s with dma := sparseErase s.dma n }.wr (F.CH_STATUS.STATE n) 0).wr (F.CH_STATUS.RESULT n) result).wr
    (F.CH_RESIDUE.BYTES n) residue)

/-- The end of R433: 3 ERROR or 4 ERR_LAST. -/
def State.failDma (s : State) (n result residue addr : Nat) : State :=
  ((s.endDma n result residue).wrW (F.CH_ERR_ADDR n) addr).dmaErr n

/-- The end of R430. -/
def State.badDescriptor (s : State) (n residue : Nat) : State := (s.endDma n 5 residue).raise Src.DMA.DESC_ERR

def State.refuseStart (s : State) : State := s.raise Src.DMA.START_REFUSED

/-- START by master `m` (R428): the channel fetches the descriptor at CH_DESC. The fields of its last end are cleared. -/
def State.startDma (s : State) (m : Master) (n : Nat) : State :=
  if s.rd (F.CH_STATUS.STATE n) ≠ 0 then s.refuseStart
  else
    let s1 := (((s.wr (F.CH_STATUS.STATE n) 1).wr (F.CH_STATUS.RESULT n) 0).setFlag (F.CH_STATUS.ABORT_IGNORED n) false).wr
      (F.CH_STATUS.STARTED_BY n) (masterIndex m)
    (s1.wrW (F.CH_CUR_DESC n) (s1.rdW (F.CH_DESC n))).setChan n ⟨none, 0, 0⟩

/-- The destination's writes are posted to the host (R432). -/
def Descr.posted (d : Descr) : Bool := targetOf d.dst == some 6

/-- The channel waits for a response: its descriptor, write responses, or the flushing read (R432, R434). -/
def DmaChan.waits (x : DmaChan) : Bool :=
  match x.desc with
  | none => true
  | some d => if d.posted then x.issued == d.len else decide (x.confirmed < x.issued)

/-- The end of an abort (R434). -/
def State.endAbort (s : State) (n : Nat) (x : DmaChan) : State :=
  s.endDma n 2 (match x.desc with
    | some d => d.len - x.issued
    | none => 0)

/-- ABORT (R434). A second ABORT of an ABORTING channel is refused without effect. -/
def State.abortDma (s : State) (n : Nat) : State :=
  match s.chan n with
  | some x =>
    if s.rd (F.CH_STATUS.STATE n) ≠ 1 then s
    else if x.waits then s.wr (F.CH_STATUS.STATE n) 2
    else s.endAbort n x
  | none => if s.rd (F.CH_STATUS.RESULT n) = 1 then s.setFlag (F.CH_STATUS.ABORT_IGNORED n) true else s

/-- A write of CH_CTRL (R428, R434). -/
def State.writeChCtrl (s : State) (m : Master) (n : Nat) (w : Word) : State :=
  match w.getLsbD 0, w.getLsbD 1 with
  | true, true => s.refuseStart
  | true, false => s.startDma m n
  | false, true => s.abortDma n
  | false, false => s

/-- Every running channel is aborted and its outstanding responses come in (R340, R435). -/
def State.abortAllDma (s : State) : State := s.dma.foldl (fun s e => s.endAbort e.1 e.2) s

/-- A descriptor has completed (R432): the chain ends with its last one, or goes on; an aborted channel ends here (R434). -/
def State.completeDescriptor (s : State) (n : Nat) (d : Descr) : State :=
  let s1 := s.bump F.DESCRIPTORS
  if s1.rd (F.CH_STATUS.STATE n) = 2 then (if d.irq then s1.dmaDone n else s1).endDma n 2 0
  else if d.last then (s1.endDma n 1 0).dmaDone n
  else (((if d.irq then s1.dmaDone n else s1).wrW (F.CH_CUR_DESC n) d.next).setChan n ⟨none, 0, 0⟩)

end Sys2Proof.Machine
end

