-- ==== Sys2Proof/Machine/Ecdsa.lean ====
section
/-! DEFINITION. ECDSA over P-384 (FIPS 186-5), which R331 and R332 name: the verification of a signature. -/

namespace Sys2Proof.Machine

/-- The field prime, the group order, the curve's b and the base point of P-384. -/
def p384 : Nat := 2 ^ 384 - 2 ^ 128 - 2 ^ 96 + 2 ^ 32 - 1
def p384Order : Nat :=
  0xFFFFFFFFFFFFFFFFFFFFFFFFFFFFFFFFFFFFFFFFFFFFFFFFC7634D81F4372DDF581A0DB248B0A77AECEC196ACCC52973
def p384B : Nat :=
  0xB3312FA7E23EE7E4988E056BE3F82D19181D9C6EFE8141120314088F5013875AC656398D8A2ED19D2A85C8EDD3EC2AEF
def p384Base : Nat × Nat := (
  0xAA87CA22BE8B05378EB1C71EF320AD746E1D3B628BA79B9859F741E082542A385502F25DBF55296C3A545E3872760AB7,
  0x3617DE4A96262C6F5D9E98BF9292DC29F8F41DBD289A147CE9DA3113B5F0B8C00A60B1CE1D7E819D7A431D7C90EA0E5F)

/-- b ^ e mod m, over the low `n` bits of e. -/
def powMod (m : Nat) : Nat → Nat → Nat → Nat
  | 0, _, _ => 1 % m
  | n + 1, b, e =>
    let r := powMod m n (b * b % m) (e / 2)
    if e % 2 = 1 then r * b % m else r

/-- The inverse modulo the prime m. -/
def invMod (m a : Nat) : Nat := powMod m 384 (a % m) (m - 2)

/-- A point of the curve; none is the point at infinity. -/
abbrev Point := Option (Nat × Nat)

/-- The third point of the line of slope `k` through `(x1, y1)` and a point with x-coordinate `x2`, mirrored. -/
def chord (k x1 y1 x2 : Nat) : Point :=
  let x := (k * k + 2 * p384 - x1 - x2) % p384
  some (x, (k * (x1 + p384 - x) + p384 - y1) % p384)

def Point.double : Point → Point
  | none => none
  | some (x, y) =>
    if y = 0 then none
    else chord ((3 * x * x + p384 - 3) * invMod p384 (2 * y) % p384) x y x

def Point.add : Point → Point → Point
  | none, q => q
  | p, none => p
  | some (x1, y1), some (x2, y2) =>
    if x1 = x2 then
      if y1 = y2 then Point.double (some (x1, y1)) else none
    else chord ((y2 + p384 - y1) * invMod p384 (x2 + p384 - x1) % p384) x1 y1 x2

/-- `e` times a point, over the low `n` bits of e. -/
def Point.times : Nat → Point → Nat → Point
  | 0, _, _ => none
  | n + 1, p, e =>
    let r := Point.times n p.double (e / 2)
    if e % 2 = 1 then p.add r else r

/-- A public key that is a point of the curve. -/
def onCurve (x y : Nat) : Bool :=
  decide (x < p384) && decide (y < p384) && decide ((y * y) % p384 = (x * x * x + (p384 - 3) * x + p384B) % p384)

/-- Verify: public key x then y, signature r then s, 48 bytes each, and the message hash. A key off the curve verifies nothing
(log 70). -/
def ecdsaVerify (key sig : List Byte) (hash : BitVec 384) : Bool :=
  let x := beNat (key.take 48)
  let y := beNat (key.drop 48)
  let r := beNat (sig.take 48)
  let s := beNat (sig.drop 48)
  if onCurve x y && decide (1 ≤ r) && decide (r < p384Order) && decide (1 ≤ s) && decide (s < p384Order) then
    let w := invMod p384Order s
    let u := Point.times 384 (some p384Base) (hash.toNat * w % p384Order)
    let v := Point.times 384 (some (x, y)) (r * w % p384Order)
    match u.add v with
    | some q => q.1 % p384Order == r
    | none => false
  else false

end Sys2Proof.Machine
end

