-- ==== Sys2Proof/Machine/Formula.lean ====
section
/-! DEFINITION. The Formula (R330–R335): its header, segments and records, the seven checks in their order, and what applying
a record does as master M5. -/

namespace Sys2Proof.Machine

/-! ## The image (R331, R333) -/

/-- A failed check (R335): its order and cause (R343), the segment, the offset in the image, the address. -/
structure LoadFail where
  order : Nat
  cause : Nat
  seg : Nat
  off : Nat
  addr : Nat

/-- A write record (R333), by its offset in the image; MODE 0 INCREMENT, 1 REPEAT, 2 FILL. -/
structure FormulaRecord where
  off : Nat
  addr : Nat
  count : Nat
  mode : Nat
  data : List Word

structure Segment where
  type : Nat
  off : Nat
  image : List Byte
  value : List Byte
  records : List FormulaRecord

/-- LENGTH of the header. -/
def imageLength (img : List Byte) : Nat := leAt img 8 4

/-- FLAGS.SIGNED of the header. -/
def imageSigned (img : List Byte) : Bool := (leAt img 6 2).testBit 0

/-- MAGIC, VERSION, LENGTH and SEGMENTS (R331). An image that ends before LENGTH fails too. -/
def headerOk (img : List Byte) : Bool :=
  let len := imageLength img
  leAt img 0 4 == 0x4D46564F && leAt img 4 2 == 1 && decide (424 ≤ len) && decide (len ≤ 12582912) && len % 8 == 0 &&
    leAt img 12 4 == 18 && decide (len ≤ img.length)

/-- The DIGEST field, and what it must be (R331): SHA-384 as 48 bytes. -/
def digestField (img : List Byte) : List Byte := slice img 16 48
def digestOf (img : List Byte) : BitVec 384 :=
  sha384 (slice img 0 16 ++ slice img 256 (imageLength img - 256))
def hashBytes (h : BitVec 384) : List Byte := beBytes 48 h.toNat
def digestOk (img : List Byte) : Bool := digestField img == hashBytes (digestOf img)

/-- The fused key hash is that of PUBKEY (R332). -/
def State.keyMatch (s : State) (img : List Byte) : Bool :=
  s.keyFused && leBytes 48 s.fuses.keyValue.toNat == hashBytes (sha384 (slice img 160 96))

/-- The signature is checked (R332). -/
def State.signatureDue (s : State) (img : List Byte) : Bool := imageSigned img || s.signRequired

def State.signatureOk (s : State) (img : List Byte) : Bool :=
  !s.signatureDue img ||
    (imageSigned img && (!s.keyFused || s.keyMatch img) &&
      ecdsaVerify (slice img 160 96) (slice img 64 96) (digestOf img))

/-! ## What a segment may write (R334) -/

def within (a lo hi : Nat) : Bool := decide (lo ≤ a) && decide (a < hi)

/-- FAULT_EN or FAULT_SEV of some block. -/
def severityWord (a : Nat) : Bool :=
  match faultWordAt a with
  | some b => b.2 == 2 || b.2 == 3
  | none => false

/-- The words a segment's records may write. SRC_CTRL.AGG belongs to HIER besides (DEDUCED, log 60). -/
def segmentMay (type a : Nat) : Bool :=
  match type, (ownerBlock a).getD 99 with
  | 1, _ => within a 0x2000C 0x20018
  | 2, _ => within a 0x260004 0x260018 || within a 0x260100 0x260140 || within a 0x180800 0x181800
  | 3, b => b == 17 || b == 18 || within a 0x80800 0x80A00
  | 4, b => b == 16
  | 5, b => b == 20 || b == 21
  | 6, b => b == 20 || b == 21
  | 7, b => b == 20 || b == 21
  | 8, b => b == 19 || a == 0x260010
  | 9, b => (decide (25 ≤ b) && decide (b ≤ 31)) || within a 0x80400 0x80420
  | 10, b => b == 23 || a == 0x1000C
  | 11, b => b == 7 || b == 8
  | 12, _ => severityWord a
  | 13, b => b == 9
  | 14, b => b == 15 || (within a 0x182000 0x182800 && a % 32 == 12)
  | 15, b => b == 13
  | 16, b => b == 14
  | 17, _ => within a 0x30010 0x30024
  | 18, b => b == 11 || b == 12
  | _, _ => false

/-- The word has a field that is not RO. -/
def writable (a : Nat) : Bool := accMask a [.rw, .w1c, .w1s, .wo, .lv, .fx] != 0 || (recordAt a).isSome

/-! ## Segment structure (R333; order 4) -/

/-- The bytes of DATA in a record. -/
def FormulaRecord.size (r : FormulaRecord) : Nat := 8 + 4 * r.data.length

/-- The addresses a record writes, with their words, in order. -/
def FormulaRecord.writes (r : FormulaRecord) : List (Nat × Word) :=
  match r.mode with
  | 0 => (r.data.zip (List.range r.count)).map fun e => (r.addr + 4 * e.2, e.1)
  | 1 => r.data.map fun w => (r.addr, w)
  | _ => (List.range r.count).map fun i => (r.addr + 4 * i, r.data.headD 0)

def structureFail (type off addr : Nat) : LoadFail := ⟨4, 6, type, off, addr⟩

/-- The record at offset `off` of a value that ends at `stop`. -/
def recordOf (img : List Byte) (type off stop : Nat) : Except LoadFail FormulaRecord :=
  let addr := leAt img off 4
  let count := leAt img (off + 4) 2
  let mode := leAt img (off + 6) 1
  let n := if mode = 2 then 1 else count
  let r : FormulaRecord := ⟨off, addr, count, mode, (List.range n).map fun i => BitVec.ofNat 32 (leAt img (off + 8 + 4 * i) 4)⟩
  if stop < off + 8 ∨ 2 < mode ∨ leAt img (off + 7) 1 ≠ 0 ∨ count = 0 ∨ 16384 < count ∨ addr % 4 ≠ 0 ∨ stop < off + r.size then
    .error (structureFail type off addr)
  else
    match r.writes.find? fun e => !segmentMay type e.1 || !writable e.1 with
    | some e => .error (structureFail type off e.1)
    | none => .ok r

/-- The records of a value from `off` to `stop`. -/
def recordsOf (img : List Byte) (type : Nat) : Nat → Nat → Nat → Except LoadFail (List FormulaRecord)
  | 0, _, _ => .ok []
  | fuel + 1, off, stop =>
    if stop ≤ off then .ok []
    else do
      let r ← recordOf img type off stop
      let rest ← recordsOf img type fuel (off + r.size) stop
      pure (r :: rest)

/-- IDENTITY's and HIER's prefixes. -/
def prefixSize (type : Nat) : Nat := if type = 1 then 16 else if type = 14 then 4 else 0

/-- `n` segments from offset `off`, of types not in `seen`; they fill the image up to LENGTH. -/
def segmentsOf (img : List Byte) : Nat → Nat → List Nat → Except LoadFail (List Segment)
  | 0, off, _ => if off = imageLength img then .ok [] else .error (structureFail 0 off 0)
  | n + 1, off, seen =>
    let type := leAt img off 2
    let vlen := leAt img (off + 4) 4
    let next := off + 8 + (vlen + 7) / 8 * 8
    if imageLength img < off + 8 ∨ type = 0 ∨ 18 < type ∨ seen.contains type = true ∨ leAt img (off + 2) 2 ≠ 0 ∨
        imageLength img < next ∨ vlen < prefixSize type ∨
        (slice img (off + 8 + vlen) (next - (off + 8 + vlen))).any (· != 0) = true then
      .error (structureFail type off 0)
    else do
      let rs ← recordsOf img type vlen (off + 8 + prefixSize type) (off + 8 + vlen)
      let rest ← segmentsOf img n next (type :: seen)
      pure (⟨type, off, slice img off (next - off), slice img (off + 8) vlen, rs⟩ :: rest)

def segmentOf (segs : List Segment) (type : Nat) : Option Segment := segs.find? fun g => g.type == type
def segmentImage (segs : List Segment) (type : Nat) : List Byte := ((segmentOf segs type).map (·.image)).getD []

/-- Orders 1 to 5 of R335 on the first read; `role` is the ROLE strap (R27). -/
def State.checkImage (s : State) (img : List Byte) (role : Bool) : Except LoadFail (List Segment) :=
  if !headerOk img then .error ⟨1, 3, 0, 0, 0⟩
  else if !digestOk img then .error ⟨2, 4, 0, 16, 0⟩
  else if !s.signatureOk img then .error ⟨3, 5, 0, 64, 0⟩
  else
    match segmentsOf img 18 256 [] with
    | .error f => .error f
    | .ok segs =>
      match segmentOf segs 14 with
      | some g => if leAt g.value 0 1 = role.toNat then .ok segs else .error ⟨5, 7, 14, g.off + 8, 0⟩
      | none => .error (structureFail 14 0 0)

/-- What the FORMULA block shows of the image once its header has passed (R347). -/
def State.showImage (s : State) (img : List Byte) : State :=
  if headerOk img then
    let s1 := (s.wr F.FORMULA_INFO.VERSION (leAt img 4 2)).wr F.FORMULA_LEN.LENGTH (imageLength img)
    if digestOk img then
      ((s1.setFlag F.FORMULA_FLAGS.SIGNED (imageSigned img)).setFlag F.FORMULA_FLAGS.SIG_CHECKED (s.signatureDue img)).setFlag
        F.FORMULA_FLAGS.KEY_MATCH (s.signatureDue img && s.keyMatch img)
    else s1
  else s

/-! ## Value ranges (R335 order 7, R498) -/

/-- A field's stated range: the field's first place, its repetitions, the least and the greatest value. -/
structure ValueRange where
  field : Field
  dims : List (Nat × Nat)
  least : Nat
  most : Nat

def tileDims : List (Nat × Nat) := [(16384, 76)]
def courseDims : List (Nat × Nat) := [(65536, 19)]
def laneDims : List (Nat × Nat) := [(4096, 64)]

def driveRanges : List ValueRange := [
  ⟨F.RB_CFG.RB_COUNT 0, tileDims, 1, 15⟩,
  ⟨F.HTR_DET_CFG.DWELL 0, tileDims, 1, 255⟩,
  ⟨F.CH_CFG.SUPERVISION 0 0, [(16384, 76), (32, 64)], 1, 3⟩,
  ⟨F.SCAN_CFG.MODE 0, tileDims, 0, 1⟩,
  ⟨F.NP_CFG.NP_COUNT 0, courseDims, 1, 255⟩,
  ⟨F.PL_CFG.PL_COUNT 0, courseDims, 1, 1023⟩,
  ⟨F.LIMIT_CFG.LIMIT_COUNT 0, courseDims, 1, 65535⟩,
  ⟨F.NL_CFG.NL_COUNT 0, courseDims, 1, 255⟩]

def planeRanges : List ValueRange := [
  ⟨F.SLOT_CFG.SLOT_NS, [], 500, 64000⟩,
  ⟨F.GUARD_CFG.GUARD_NS, [], 8, 1000⟩,
  ⟨F.FRAME_CFG.SLOTS, [], 8, 64⟩,
  ⟨F.FRAME_CFG.MARGIN_US, [], 2, 64⟩,
  ⟨F.CIRCUIT_CFG.CUT_LAG_US, [], 10, 1000⟩,
  ⟨F.CIRCUIT_CFG.NOTICE_LEAD_US, [], 50, 10000⟩,
  ⟨F.PLANE_MODE.MODE, [], 0, 2⟩,
  ⟨F.COMP_CFG.ITERATIONS, [], 1, 4⟩,
  ⟨F.COMP_CFG.DEMAND_CLOSE_US, [], 1, 32⟩,
  ⟨F.CLASS_W.W 0, [(4, 6)], 1, 255⟩,
  ⟨F.SHP_DEPTH.SD 0 0, [(128, 64), (16, 8)], 1, 32767⟩]

def messageRanges : List ValueRange := [
  ⟨F.TIMERS.KEEPALIVE_US, [], 100, 1000⟩,
  ⟨F.TIMERS.PAIR_WIN_US, [], 1, 200⟩,
  ⟨F.CREDIT_CFG.INIT_CREDIT, [], 8, 32⟩,
  ⟨F.LANE_CFG.FEC 0, laneDims, 0, 2⟩,
  ⟨F.LANE_CFG.ENCAP 0, laneDims, 0, 2⟩,
  ⟨F.LANE_CFG.TAGS 0, laneDims, 0, 2⟩,
  ⟨F.SLEW_CFG.SLEW_PPM, [], 1, 500⟩,
  ⟨F.EPOCH_NS.NS, [], 0, 999999999⟩,
  ⟨F.TIER_CFG.WORKER_MARGIN_US, [], 2, 64⟩,
  ⟨F.TIER_CFG.TWIN_LEAD_US, [], 1, 5⟩,
  ⟨F.TIER_CFG.TIME_TOL_NS, [], 10, 1000⟩,
  ⟨F.RESYNC_CFG.RESYNC_FRAMES, [], 16, 256⟩,
  ⟨F.RESYNC_CFG.LOG_KIB, [], 256, 4096⟩,
  ⟨F.MATCH_CFG.MATCH_REQ, [], 1, 255⟩]

def slowRanges : List ValueRange := [
  ⟨F.CAL_CFG.DELTA_T, [], 5, 100⟩,
  ⟨F.CAL_CFG.CAL_CONC, [], 1, 19⟩,
  ⟨F.CAL_PERIOD.MINUTES, [], 0, 1440⟩,
  ⟨F.AGE_CFG.PERIOD_H, [], 1, 24⟩,
  ⟨F.AGE_CFG.FIRST_MIN, [], 1, 255⟩,
  ⟨F.OBS_CFG.WINDOW_MS, [], 100, 10000⟩,
  ⟨F.HYST.VAL, [], 50, 1000⟩,
  ⟨F.RISE_CFG.WINDOW_S, [], 1, 8⟩,
  ⟨F.START_CFG.ARM_MASK, [], 0, 65535⟩]

def valueRanges : List ValueRange := List.flatten [driveRanges, planeRanges, messageRanges, slowRanges]

def ValueRange.covers (r : ValueRange) (a : Nat) : Bool := decide (r.field.addr ≤ a) && hitDims r.dims (a - r.field.addr)

/-- What a field's range alone does not say: steps, signs, codes, combinations inside the word. -/
def State.wordOdd (s : State) (a : Nat) : Bool :=
  let w := s.word a
  if a = F.SLOT_CFG.SLOT_NS.addr then bitsOf w 0 17 % 4 != 0
  else if a = F.GUARD_CFG.GUARD_NS.addr then bitsOf w 0 10 % 4 != 0
  else if a = F.START_CFG.ARM_MASK.addr then w.getLsbD 16
  else if within a 0x80400 0x80420 then decide (signed 9 (bitsOf w 16 9) < -250) || decide (250 < signed 9 (bitsOf w 16 9))
  else if within a 0x30010 0x30020 then (List.range 16).any fun i => bitsOf w (2 * i) 2 == 3
  else if within a 0x71000 0x71400 ∨ (within a 0x72000 0x73400 ∧ a % 32 = 4) then !mortarCodeOk a w
  else if within a 0x100000 0x140000 ∧ a % 4096 = 0 then
    (bitsOf w 2 2 != 0 && bitsOf w 0 2 != 3) || (bitsOf w 4 1 == 1 && decide (bitsOf w 0 2 < 2))
  else if within a 0x182000 0x182800 ∧ a % 32 = 8 then decide (bitsOf w 16 16 < bitsOf w 0 16)
  else false

/-- The word at `a` holds a value outside a stated range. -/
def State.valueBad (s : State) (a : Nat) : Bool :=
  (valueRanges.any fun r => r.covers a &&
    (decide (bitsOf (s.word a) r.field.lsb r.field.width < r.least) ||
      decide (r.most < bitsOf (s.word a) r.field.lsb r.field.width))) || s.wordOdd a

/-- The words with a stated range, in address order. -/
def rangedWords : List Nat :=
  (((valueRanges.flatMap fun (r : ValueRange) => dimAddrs r.dims r.field.addr) ++
    (List.range 8).map (0x80400 + 4 * ·)).mergeSort fun x y => decide (x ≤ y)).eraseReps

/-! ## Cross-field checks -/

/-- THERMAL limits (R30, R382): those of one kind of sensor, in 0.01 °C, and the greatest TRIP. -/
def State.limitsBad (s : State) (warn alarm trip : Field) (most : Int) : Bool :=
  decide (s.rdS warn < 4000) || decide (s.rdS alarm ≤ s.rdS warn) || decide (s.rdS trip ≤ s.rdS alarm) ||
    decide (most < s.rdS trip)

/-- The least COLD limit of the reported ordering code (R30). -/
def coldLeast : Int := if Config.orderCodeE then -4000 else -500

/-- Strobe groups that hold a shutter: CH_CFG.SGRP of the trim tiles. -/
def State.shutterGroups (s : State) : List Nat :=
  ((List.range' 68 8).flatMap fun t => channels.map fun ch => s.rd (F.CH_CFG.SGRP t ch)).eraseDups

/-- Owner groups that must carry one value (R467). -/
def ownerGroups : List (List Nat) := [[27, 28], [29, 30], [31, 32], [20, 21], [22, 23, 24]]

/-- The composition bound leaves no time (R209, R305), in nanoseconds. -/
def State.compositionBad (s : State) : Bool :=
  let n := s.slots
  (s.planeMode != 0 && decide (n * s.slotNs < 1000 * s.rd F.FRAME_CFG.MARGIN_US + 6500 + 125 * n)) ||
    (s.follows && decide (n * s.slotNs < 1000 * s.rd F.TIER_CFG.WORKER_MARGIN_US + 6500 + 125 * n + 5000 +
      n * (if s.mgrLanes.all fun l => s.rd (F.LANE_CFG.MODE l) == 3 then 300 else 750)))

/-- Tier lanes of a worker that lead to no manager: FOLLOW_CFG does not name them, so they join two workers, which R296 forbids
(DEDUCED, log 60). -/
def State.workerTiers (s : State) : List Nat :=
  if s.isManager then [] else (List.range 64).filter fun n => s.flag (F.LANE_CFG.ROLE n) && !s.mgrLanes.contains n

/-- The word of a loop record whose check fails (R115, R118, R127, R128, R136). -/
def State.loopWordBad (s : State) (l : Nat) : List Nat :=
  match (List.range 11).find? fun n => s.paramWriteRefused l n (s.loopCfg l) with
  | some n => [loopWordAddr l n]
  | none => []

/-- The addresses of the cross-field checks that fail, in the order they are made. -/
def State.crossBad (s : State) : List Nat :=
  let some_ (b : Bool) (a : Nat) : List Nat := if b then [a] else []
  List.flatten [
    some_ (decide (s.slotNs < 2 * s.rd F.GUARD_CFG.GUARD_NS)) F.GUARD_CFG.GUARD_NS.addr,
    some_ (decide (s.slots * s.slotNs ≤ 1000 * s.rd F.FRAME_CFG.MARGIN_US) || s.compositionBad) F.FRAME_CFG.SLOTS.addr,
    some_ (!timeIncOk s.timeInc) F.TIME_INC_LO.INC.addr,
    (s.shutterGroups.filter fun g => s.rd (F.STRB_GRP.MODE g) != 1 || decide (s.rdS (F.STRB_GRP.OFFSET g) < 0)).map
      fun g => (F.STRB_GRP.MODE g).addr,
    ((List.range 64).filter fun e => decide (s.rd (F.POL_PIR.PIR e) < s.rd (F.POL_CIR.CIR e))).map
      fun e => (F.POL_PIR.PIR e).addr,
    (ownerGroups.filter fun g => g.any fun b => s.owner b != s.owner (g.headD 0)).map fun g => 0x30010 + 4 * (g.headD 0 / 16),
    some_ (s.limitsBad F.PLANE_WARN.LIMIT F.PLANE_ALARM.LIMIT F.PLANE_TRIP.LIMIT 9500) F.PLANE_WARN.LIMIT.addr,
    some_ (s.limitsBad F.CTRL_WARN.LIMIT F.CTRL_ALARM.LIMIT F.CTRL_TRIP.LIMIT 12000) F.CTRL_WARN.LIMIT.addr,
    some_ (decide (s.rdS F.COLD_LIMIT.LIMIT < coldLeast)) F.COLD_LIMIT.LIMIT.addr,
    some_ (!s.graphOk 0x71000 (s.word 0x71000)) 0x71000,
    s.workerTiers.map fun n => (F.LANE_CFG.ROLE n).addr,
    (List.range 4864).flatMap s.loopWordBad]

/-! ## Applying records (R335) -/

/-- The loader's write of one word: FX and LV fields take the value at once; a word without them is written by its block's
rules; Mortar's words are stored. -/
def State.loadStore (s : State) (a : Nat) (w : Word) : State :=
  let m := accMask a [.rw, .lv, .fx]
  let done : State := { s with lv := sparseErase s.lv a }.setWord a ((s.word a &&& ~~~m) ||| (w &&& m))
  if accMask a [.lv, .fx] ≠ 0 ∨ within a 0x71000 0x73400 then done else s.writeWord .m5 a w

/-- RULE_CMD by the loader: WRITE may go to either bank; none where the rule is invalid (R259). -/
def State.loadRule (s : State) (w : Word) : Option State :=
  let r := ruleOfWords (fun i => s.word (F.RULE_DATA.WORD i).addr) (s.rule s.ruleSel).hits
  let s1 := if w.getLsbD 0 then s.readRule else s
  if w.getLsbD 1 then (if r.bad then none else some (s1.setRule s.ruleSel r)) else some s1

/-- The loop whose LOOP_CTRL word is at `a`. -/
def loopCtrlAt (a : Nat) : Option Nat :=
  if within a 0x300000 0x430000 ∧ within (a % 65536) 0x1000 0x1400 then
    some (256 * ((a - 0x300000) / 65536) + (a % 65536 - 0x1000) / 4)
  else none

/-- What loading has done so far: the state, and the TARGETs that step 8 sets (R163). -/
abbrev Loading := State × List (Nat × Nat)

/-- One word of a record; none where its value is outside its range. -/
def loadWord (x : Loading) (a : Nat) (w : Word) : Option Loading :=
  match loopCtrlAt a, recordAt a, faultWordAt a with
  | some l, _, _ =>
    if bitsOf w 0 2 = 3 then none
    else some (x.1.setWord a (withBits (x.1.word a) 2 3 (bitsOf w 2 3)), (l, bitsOf w 0 2) :: x.2.filter fun e => e.1 != l)
  | none, some r, _ => some (x.1.setRecord r.1 ((x.1.record r.1).setWord r.2 w), x.2)
  | none, none, some b => some (x.1.writeFault b.1 b.2 w, x.2)
  | none, none, none =>
    if a = F.RULE_CMD.WRITE.addr then (x.1.loadRule w).map fun s => (s, x.2)
    else
      let s := x.1.loadStore a w
      if s.valueBad a then none else some (s, x.2)

/-- The words of one record of segment `type`. -/
def loadRecord (type : Nat) (x : Loading × Option LoadFail) (r : FormulaRecord) : Loading × Option LoadFail :=
  r.writes.foldl (fun (x : Loading × Option LoadFail) e =>
    match x.2 with
    | some _ => x
    | none =>
      match loadWord x.1 e.1 e.2 with
      | some y => (y, none)
      | none => (x.1, some ⟨7, 8, type, r.off, e.1⟩)) x

/-- The IDENTITY prefix: ORDER_CODE and BUILD_ID (R333, R347). -/
def State.loadIdentity (s : State) (segs : List Segment) : State :=
  match segmentOf segs 1 with
  | some g => (s.setFlag F.IDENTITY.ORDER_CODE (leAt g.value 0 1 == 1)).wrW F.BUILD_ID (leAt g.value 4 8)
  | none => s

/-- Where the last record that writes `a` stands: its segment and offset; 0 and 0 where none does. -/
def writerOf (segs : List Segment) (a : Nat) : Nat × Nat :=
  (segs.flatMap fun g => g.records.map fun r => (g.type, r)).foldl
    (fun x e => if e.2.writes.any (fun p => p.1 == a) then (e.1, e.2.off) else x) (0, 0)

/-- SYS_TAG and COMPOSE_TAG (R296), over whole segment images (log 60). -/
def State.setTags (s : State) (segs : List Segment) : State :=
  let sys := (crc32 (List.flatten [segmentImage segs 2, beBytes 8 (s.rdW F.EPOCH_SEC), beBytes 4 (s.rd F.EPOCH_NS.NS)])).toNat
  let comp := (crc32 (List.flatten [beBytes 4 sys, [5, 6, 7, 8, 10, 4].flatMap (segmentImage segs)])).toNat
  { s with hier := { s.hier with sysTag := sys, composeTag := comp } }

/-- CHK of every loop record follows its configuration words (R137). -/
def State.checkLoops (s : State) : State :=
  (List.range 4864).foldl (fun s l => s.wr (F.CHK.VAL l) (loopChk fun n => s.word (loopWordAddr l n)).toNat) s

/-- What follows the last check of step 4: buckets at their depths in 16.8 (R201, R202), what derives from the guard, FX_CRC and
DIGEST latched (R335), owners in force (R406). -/
def State.finishLoad (s : State) (img : List Byte) (segs : List Segment) : State :=
  let s1 := (List.range 64).foldl (fun s a => (s.wr (F.POL_TC.TC a) (256 * s.rd (F.POL_BURST.CBS a))).wr (F.POL_TP.TP a)
    (256 * s.rd (F.POL_BURST.PBS a))) s
  let s2 := (List.range 64).foldl (fun s a => (List.range 8).foldl (fun s c =>
    s.wr (F.SHP_BUCKET.B a c) (256 * s.rd (F.SHP_DEPTH.SD a c))) s) s1
  let d := discardCyc (s2.rd F.GUARD_CFG.GUARD_NS)
  let s2 := (List.range 76).foldl (fun s t => s.wr (F.SCAN_STATUS.DISCARD_CYC t) d) s2
  let s3 := (List.range 12).foldl (fun s n => s.wr (F.DIGEST.WORD n) (leAt img (16 + 4 * n) 4)) (s2.checkLoops.setTags segs)
  { s3.wr F.FX_CRC.CRC s3.fxCrc.toNat with ownersLoaded := true }

/-- What the segments ask of characterisation (R337, R338): in CALIB whether it is full, and CHAR_FAIL_MAX; in LOOPS D_MIN, in
its 16 bits. -/
def State.loadAsked (s : State) (segs : List Segment) : State :=
  let cal := ((segmentOf segs 15).map (·.value)).getD []
  let loops := ((segmentOf segs 9).map (·.value)).getD []
  { s with calib := { s.calib with
    full := Config.charFull cal
    failMax := (Config.charFailMax cal).getD 0
    dMin := ((Config.dMin loops).getD 128).toNat } }

/-- ORDER_CODE of the IDENTITY prefix is no ordering code (R333). -/
def identityBad (segs : List Segment) : Option LoadFail :=
  match segmentOf segs 1 with
  | some g => if 1 < leAt g.value 0 1 then some ⟨7, 8, 1, g.off + 8, 0⟩ else none
  | none => none

/-- CHAR_FAIL_MAX lies outside its range (R338). -/
def State.askedBad (s : State) (segs : List Segment) : Option LoadFail :=
  if 4864 < s.calib.failMax then some ⟨7, 8, 15, ((segmentOf segs 15).map (·.off)).getD 0, 0⟩ else none

/-- Order 7: records in ascending TYPE and record order, the defaults' ranges, the cross-field checks; then the latches. -/
def State.applyFormula (s : State) (img : List Byte) (segs : List Segment) : Loading × Option LoadFail :=
  let s1 := (s.loadIdentity segs).loadAsked segs
  let x := ((List.range' 1 18).filterMap (segmentOf segs)).foldl (fun x g => g.records.foldl (loadRecord g.type) x)
    ((s1, []), identityBad segs)
  match x.2 with
  | some _ => x
  | none =>
    match x.1.1.askedBad segs, rangedWords.find? x.1.1.valueBad, x.1.1.crossBad with
    | some f, _, _ => (x.1, some f)
    | none, some a, _ => (x.1, some ⟨7, 8, (writerOf segs a).1, (writerOf segs a).2, a⟩)
    | none, none, a :: _ => (x.1, some ⟨7, 8, (writerOf segs a).1, (writerOf segs a).2, a⟩)
    | none, none, [] => ((x.1.1.finishLoad img segs, x.1.2), none)

end Sys2Proof.Machine
end

