-- ==== Sys2Proof/Machine/Power.lean ====
section
/-! DEFINITION. Power and the reset of the main side (R22, R321, R323, R325, R373–R376, R454, R487). -/

namespace Sys2Proof.Machine

/-! ## The main side's reset -/

/-- The bits of a word whose Warm entry is `live`. -/
def liveMask (a : Nat) : Word :=
  (rowsAt a).foldl (fun m r =>
    if r.warm = .live then m ||| BitVec.ofNat 32 ((2 ^ r.width - 1) * 2 ^ r.lsb) else m) 0

/-- A word after a reset of the control die: always-on words stay, tile words keep what the tile shows and what its analogue
latches hold (R72), every other word is at its Cold value (R15). -/
def coldKeep (a : Nat) (w : Word) : Word :=
  if alwaysOnAddr a then w
  else if (0x500000 ≤ a ∧ a < 0x630000) ∨ (0xB0800 ≤ a ∧ a < 0xB1180) then
    let keep := liveMask a ||| latchMask a
    (coldWord a &&& ~~~keep) ||| (w &&& keep)
  else coldWord a

/-- What a reset of the control die leaves of a tile's own state: what its analogue latches and buffers hold (R72). -/
def Tile.latches (x : Tile) : Tile :=
  { tileIdle with pockFree := x.pockFree, htrFree := x.htrFree, holdP := x.holdP, holdH := x.holdH }

def keepTiles (l : List (Nat × Tile)) : List (Nat × Tile) :=
  (l.map fun e => (e.1, e.2.latches)).filter fun e => decide (e.2 ≠ tileIdle)

/-- Snapshots and held LO words of main-side blocks are lost (R473). -/
def State.dropMainSnaps (s : State) : State :=
  { s with snaps := ⟨s.snaps.hi.filter fun e => alwaysOnBlock e.1.2, s.snaps.lo.filter fun e => alwaysOnAddr e.1.2, [], []⟩ }

/-- Outputs that were high fall. -/
def State.dropPulses (s : State) : State :=
  let s1 := if s.time.ppsOut then s.emitOut (.pps false) else s
  ((List.range 16).filter s.tpPin).foldl (fun s n => s.emitOut (.tpulse n false)) s1

/-- What the main side holds beyond its registers, as it leaves reset. Memories hold nothing (log 61). -/
def State.forgetMain (s : State) : State :=
  { s with
    mem := []
    lv := s.lv.filter fun e => alwaysOnAddr e.1
    pcie := State.reset.pcie
    fuses := { s.fuses with arm := none }
    mortar := { s.mortar with cfg := none, inFlight := s.mortar.inFlight.filter fun t => decide (t < 16) }
    dma := []
    credits := []
    time := State.reset.time
    tiles := keepTiles s.tiles
    loops := []
    strobes := State.reset.strobes
    plane := State.reset.plane
    comp := State.reset.comp
    lanes := []
    issueq := []
    hier := State.reset.hier
    parser := State.reset.parser
    warmHold := 0
    calib := State.reset.calib
    replan := State.reset.replan
    sil := State.reset.sil
    starting := none
    lanesFrom := none }

/-- A latched SEAL source of a reset block comes up with its REAL bit set (R453). -/
def State.keepSealBits (s : State) : State := s.seals.foldl (fun s e => s.setFlag ⟨e.1, e.2, 1⟩ true) s

/-- The main side in reset, its rails good. -/
def State.coldMain (s : State) : State :=
  ((((s.dropPulses).mapWords coldKeep).dropMainSnaps).forgetMain).keepSealBits

/-- The main side loses its rails, and the tile dies theirs: STATE is OFF, PGOOD low (R325, R376). -/
def State.mainOff (s : State) : State :=
  let s1 := (((s.dropPulses).mapWords fun a w => if alwaysOnAddr a then w else coldWord a).dropMainSnaps).forgetMain
  { s1 with tiles := [], power := { s1.power with rails := false, drive := 0, pgood := false, mainUp := false } }

/-- A power cycle clears every SEAL latch: EN low for 500 ms or more (R325, R454). -/
def State.clearSealsIfCycled (s : State) : State :=
  match s.power.lowSince with
  | some t => if t + 500000000 ≤ s.clock then { s with seals := [] } else s
  | none => s

/-! ## VIN (R323, R373, R454) -/

/-- The module without power: the flash, the fuses and the pins remain. What a sector holds whose erase was cut short is free. -/
def State.unpowered (s : State) : State :=
  let s1 := s.dropPulses.eraseDone true
  { State.reset with
    pending := s1.pending
    clock := s1.clock
    outbox := s1.outbox
    free := s1.free
    fuses := { s1.fuses with arm := none, busy := none }
    passport := s1.passport
    therm := { State.reset.therm with ring := s1.therm.ring, part := s1.therm.part }
    power := { State.reset.power with vin := false, en := s1.power.en, refclk := s1.power.refclk } }

def execVinLoss (s : State) : Host.Outcome State Fault Refusal := .next s.unpowered

/-- A fuse found with one copy only is completed (R415). -/
def Fuse.completed (f : Fuse) : Fuse := ⟨f.programmed, f.programmed⟩

def State.completeFuses (s : State) : State :=
  let f : Fuses := { s.fuses with
    debugLock := s.fuses.debugLock.completed
    signRequired := s.fuses.signRequired.completed
    keyHash := s.fuses.keyHash.completed }
  s.setFuses { f with sensed := f.array }

/-- EN is high with VIN in range: the main converter starts, and the power-up counts. -/
def State.startRails (s : State) : State :=
  if s.power.en && s.power.vin then
    { s with power := { s.power with rails := true } }.bump F.EN_CYCLES
  else s

/-- The always-on domain leaves reset: fuses, the SMBus address, the trip ring (R323, R390, R409, R415). -/
def State.alwaysOnUp (s : State) (unit : Nat) : State :=
  let s1 : State := { s with power := { s.power with vin := true, upAt := s.clock, sideband := false } }
  ((s1.completeFuses.wr F.SB_INFO.ADDR (0x40 + unit)).scanRing).startRails

def execAlwaysOnPowerUp (unit : Fin 32) (s : State) : Host.Outcome State Fault Refusal :=
  .next (if s.power.vin then s else s.alwaysOnUp unit)

/-! ## EN (R321, R325, R487) -/

def State.enAssert (s : State) : State :=
  if s.power.en then s
  else
    let s1 := s.clearSealsIfCycled
    State.startRails { s1 with power := { s1.power with en := true, lowSince := none } }

def execEnAssert (s : State) : Host.Outcome State Fault Refusal := .next s.enAssert

def State.enDeassert (s : State) : State :=
  if !s.power.en then s
  else
    let s1 := if s.power.vin then s.mainOff else s
    { s1 with power := { s1.power with en := false, lowSince := some s1.clock } }

def execEnDeassert (s : State) : Host.Outcome State Fault Refusal := .next s.enDeassert

/-- A low pulse shorter than 1 µs is filtered (R487). -/
def execEnGlitch (s : State) : Host.Outcome State Fault Refusal := .next s

/-! ## Rails (R375, R376) -/

/-- Every main and drive rail has been within its window for 1 ms. -/
def State.pgoodAssert (s : State) : State :=
  if s.power.rails ∧ s.power.drive = 0xF then { s with power := { s.power with pgood := true } } else s

def execPgoodAssert (s : State) : Host.Outcome State Fault Refusal := .next s.pgoodAssert

def execPgoodDeassert (s : State) : Host.Outcome State Fault Refusal :=
  .next { s with power := { s.power with pgood := false } }

/-- A main rail outside its window for 10 µs resets the main side as EN deassertion does (R376). -/
def State.mainRailFault (s : State) : State :=
  if s.power.rails then (s.mainOff.bump F.RAIL_FAULTS).raise Src.POWER.RAIL_FAULT else s

def execMainRailFault (s : State) : Host.Outcome State Fault Refusal := .next s.mainRailFault

end Sys2Proof.Machine
end

