-- ==== Sys2Proof/Machine/Cold.lean ====
section
/-! DEFINITION. The cold start, step by step (R320–R339), and PARKED (R343, R344). -/

namespace Sys2Proof.Machine

/-! ## Parking (R343, R344) -/

/-- PARKED with its cause, the failed step, the detail, the first failing index and the count. -/
def State.park (s : State) (cause step detail index count : Nat) : State :=
  let s1 := (((s.wr F.START_STATUS.STATE 5).wr F.PARK_CAUSE.CAUSE cause).wr F.PARK_CAUSE.STEP step).wr F.PARK_CAUSE.DETAIL detail
  (((s1.wr F.PARK_INDEX.INDEX index).wr F.PARK_COUNT.COUNT (min count 65535)).bump F.PARKS).raise Src.START.PARKED

def State.goodTiles (s : State) : List Nat := (List.range 76).filter s.railGood

/-- Every tile with a good rail at its power-up outputs. No reset of the control die reaches the latches (R72): the cold start
itself brings them there, as the Cold column (R15, R80 to R83), R71 and the Outputs column of R326 give them at its step 3 and
in PARKED after it. That a start with the rail good does so is the model's choice (log 68). -/
def State.resetOutputs (s : State) : State := s.goodTiles.foldl State.resetLatches s

/-- A cold start fails: the outputs are at their power-up defaults. -/
def State.coldPark (s : State) (cause step detail index count : Nat) : State :=
  { s with starting := none }.resetOutputs.park cause step detail index count

/-- A check of R335 fails. DETAIL is the segment, or the check where none is concerned (log 62). -/
def State.failLoad (s : State) (f : LoadFail) (step : Nat) : State :=
  let s1 := ((s.wr F.FAIL_SEG.TYPE f.seg).wr F.FAIL_SEG.ORDER f.order).wr F.FAIL_ADDR.ADDR f.addr
  (s1.wr F.FAIL_OFFSET.OFFSET f.off).coldPark f.cause step (if f.seg = 0 then f.order else f.seg) f.addr 1

/-- A read of the flash: up to three retries (R330). -/
def State.readFlash (s : State) (r : FlashRead) : State × Bool :=
  if r.errors = 0 then (s, true)
  else ((s.bumpBy F.XSPI_RETRIES (min r.errors 3)).raise Src.FORMULA.XSPI_ERR, decide (r.errors ≤ 3))

/-- The entries of STEP_US of a start whose first step is entry `first`. -/
def State.noteSteps (s : State) (first : Nat) (us : List Nat) : State :=
  (us.zip (List.range us.length)).foldl (fun s e => s.wr (F.STEP_US.US (first + e.2)) (min e.1 (2 ^ 32 - 1))) s

/-! ## Strobes of the start's own (R337) -/

/-- Everything on its way to a tile lands. -/
def State.landAll (s : State) (t : Nat) : State :=
  let q := (s.tile t).down
  q.foldl (fun s x => s.landTxn t x) (s.setTile t { s.tile t with down := [] })

/-- The edge of a plane strobe has reached every tile, at a cycle of each tile's scan that nothing fixes. -/
def State.edgeEverywhere (s : State) : State :=
  let s1 := s.goodTiles.foldl (fun s t =>
    let f := s.freshValue
    f.2.planeEdge t (f.1.toNat % 1600)) s
  { s1 with strobes := { s1.strobes with plane := 0 } }

/-- Cells, trims and shutters set by a plane strobe that is neither scheduled nor a command: no strobe group follows it. -/
def State.strobeThrough (s : State) (m : BitVec 4352 × BitVec 512 × BitVec 512) : State :=
  let s1 := (List.range 76).foldl State.landAll (s.issueMerged 0 m)
  (s1.firePlane fun _ => false).edgeEverywhere

/-! ## Steps 9 and 10 (R328) -/

/-- Standing record 0 fails step 9: a lit output without a lit input behind it, or a lit pair in SLOT mode. -/
def State.standingBad (s : State) (a : Accord) : Bool :=
  !((bitsOn a.shuts).all fun j => a.litPairs.any fun x => x.2 == j) || (s.planeMode == 1 && !a.litPairs.isEmpty)

/-- The arms of ARM_MASK in ascending index: the state, and the refused ones. -/
def State.armAll (s : State) : State × List Nat :=
  ((List.range' 1 15).filter fun n => (s.rd F.START_CFG.ARM_MASK).testBit n).foldl (fun (x : State × List Nat) n =>
    if x.1.armBad n then (x.1.altRefused, x.2 ++ [n]) else (x.1.armRecord n, x.2)) (s, [])

/-- Step 9, then the wait of step 10 for its boundary. -/
def State.commitStart (s : State) : State :=
  let s1 := (s.wr F.START_STATUS.STATE 1).wr F.START_STATUS.STEP 9
  let a := { s1.record (standRecord 0) with kind := 2, index := 0, seq := 1 }.seal
  if s1.standingBad a then s1.coldPark 16 9 0 0 1
  else
    let x := (((s1.setRecord (standRecord 0) a).wr F.STANDING_SEQ.SEQ 1).wr F.STANDING_STATUS.ACTIVE 0).armAll
    match x.2 with
    | n :: _ => x.1.coldPark 16 9 0 n x.2.length
    | [] => x.1.wr F.START_STATUS.STEP 10

/-! ## Step 8 (R163) -/

/-- One loop takes its TARGET; a refused one is counted. -/
def setInit (x : State × List Nat) (e : Nat × Nat) : State × List Nat :=
  if e.2 = 2 ∧ x.1.autoRefused e.1 = true then (x.1.refuseTransfer e.1, x.2 ++ [e.1])
  else
    let s := x.1.setTarget e.1 e.2
    (if e.2 = 2 then s.intoAuto e.1 else s.wr (loopStatState e.1) (s.loopState e.1), x.2)

/-- Step 8, and what follows it: GATED, or step 9 (R327). -/
def State.setLoops (s : State) (init : List (Nat × Nat)) : State :=
  let x := (sortBy (fun e => [e.1]) init).foldl setInit ((s.wr F.START_STATUS.STEP 8).checkLoops, [])
  match x.2 with
  | l :: _ => x.1.coldPark 15 8 0 l x.2.length
  | [] => if x.1.flag F.START_CFG.SERVICE_GATE then x.1.wr F.START_STATUS.STATE 3 else x.1.commitStart

/-! ## Step 7 (R337–R339) -/

/-- The RCRC of a loop's record in the copy is right. -/
def State.recordSound (s : State) (l : Nat) : Bool :=
  (crc32 (s.memBytes (passportBase + 256 + 32 * l) 28)).toNat == leNat (s.memBytes (passportBase + 284 + 32 * l) 4)

def sortInt (l : List Int) : List Int := l.mergeSort fun x y => decide (x ≤ y)

/-- The median, half to even between the middle two; none of nothing. -/
def medianInt (l : List Int) : Option Int :=
  let v := sortInt l
  let n := v.length
  if n = 0 then none
  else if n % 2 = 1 then v[n / 2]?
  else some (roundEvenDiv (v.getD (n / 2 - 1) 0 + v.getD (n / 2) 0) 2)

/-- The offset in codes of a null to its set-point, the set-point's leakage, and SIGN, which D alone sets (R337 3). `free` stands
where VPI_P is 0. -/
def State.offsetOf (s : State) (l vpi : Nat) (chrom : Int) (free : Nat) : Int × Nat × Bool :=
  let d := roundRat ((chrom : Rat) / 32768 * ((vpi : Nat) : Rat) / 10000 / s.lsbP l)
  let least := s.calib.dMin
  if d.natAbs < least then
    let ph := ((least : Nat) : Rat) * s.lsbP l * 10000 / ((vpi : Nat) : Rat)
    (if d < 0 then -(least : Int) else (least : Int), if vpi = 0 then free else sinSq24 ph.num.natAbs ph.den, decide (d ≤ 0))
  else (d, sinSq24 chrom.natAbs 32768, decide (d ≤ 0))

/-- A switching loop that locked: OP, SP and SIGN from the probe nulls; DITHER_LOCKED rose (R132). -/
def State.setNulls (s : State) (l vpi : Nat) (n : Nat × Nat) (freeSp : Nat) : State :=
  let x := s.offsetOf l vpi (s.chrom l) freeSp
  let s1 := (s.wr (F.OPS.OP0 l) (satU 16 (n.1 + x.1))).wr (F.OPS.OP1 l) (satU 16 (n.2 + x.1))
  let s2 := ((s1.wr (F.SP0.VAL l) x.2.1).wr (F.SP1.VAL l) x.2.1).setFlag (F.CTRL.SIGN l) x.2.2
  ((s2.setFlag (F.STATE.DITHER_LOCKED l) true).wr (F.STATE.HEART_CNT l) 16).raise (Src.COURSE.DITHER_LOCKED (loopCourse l))

/-- The step of a sweep whose y lies nearest `sp`, the lowest where several do. -/
def nearest (sweep : List Nat) (sp : Nat) : Nat :=
  ((List.range sweep.length).foldl (fun (best : Nat × Nat) i =>
    let d := ((sweep.getD i 0 : Int) - sp).natAbs
    if d < best.2 then (i, d) else best) (0, ((sweep.headD 0 : Int) - sp).natAbs)).1

/-- A trim loop after its sweep, whose step i stands at code 1024 · i (log 62). -/
def State.setSweep (s : State) (l : Nat) (sweep : List Nat) : State :=
  (s.wr (F.OPS.OP0 l) (1024 * nearest sweep (s.rd (F.SP0.VAL l)))).wr (F.OPS.OP1 l)
    (1024 * nearest sweep (s.rd (F.SP1.VAL l)))

/-- The loop has locked: both nulls of a switching loop, the whole sweep of a trim loop. -/
def charLocked (c : CharLoop) (l : Nat) : Bool := if isTrimLoop l then c.sweep.length == 64 else c.lock.isSome

def charLoopNone : CharLoop := ⟨none, [], 0, 0, 0⟩
def charLoop (c : Characterisation) (l : Nat) : CharLoop := c.loops.getD l charLoopNone

/-- The record that stands in for a flagged loop's (R51): VPI_P, PPI_H and RESP_O as measured, every other field the median over
the valid records of its tile, as R337 has it for CHROM; bytes of `free` where there is none (log 62). -/
def State.measuredRecord (s : State) (l : Nat) (c : CharLoop) (free : List Byte) : List Byte :=
  let sound := ((List.range 64).map (loopAt (loopTile l))).filter s.recordSound
  let med (off : Nat) (sign : Bool) : Nat :=
    match medianInt (sound.map fun k => if sign then s.passportS k off else (s.passport16 k off : Int)) with
    | some v => unsigned 16 v
    | none => leAt free off 2
  let respO := satU 16 (roundEvenShift 14 ((med 10 false * c.ratio : Nat) : Int))
  [c.vpi, c.ppi, med 4 true, med 6 true, med 8 false, med 10 false, respO, med 14 false, med 16 false, med 18 false,
    med 20 true, med 22 true, med 24 false, med 26 false].flatMap (leBytes 2)

/-- Full characterisation fills the estimates, and replaces a flagged loop's record and what derives from it (R51, R337). -/
def State.noteFull (s : State) (l : Nat) (c : CharLoop) : State :=
  if s.calib.full then
    let s1 := ((s.setAgeing l 0 2 c.vpi).setAgeing l 4 2 c.ppi).setAgeing l 8 2 c.ratio
    if s.recordSound l then s1
    else
      let f := s1.freshBytes 28
      let r := f.2.measuredRecord l c f.1
      { f.2 with calib := { f.2.calib with records := sparseInsert f.2.calib.records l r } }.derive l
  else s

/-- One loop's characterisation. The heater's code is free: the spec does not divide a null's phase between heater and Pockels
section. The ladders are left at the nulls of a loop that locked, and at free codes by a loop that did not. Answers the loops
that failed. -/
def charOne (c : Characterisation) (x : State × List Nat) (l : Nat) : State × List Nat :=
  let f1 := x.1.freshValue
  let f2 := f1.2.freshValue
  let t := loopTile l
  let ch := loopChan l
  let v1 := f1.1.toNat
  let v2 := f2.1.toNat
  let me := charLoop c l
  let s1 := (f2.2.wr (F.HTR_ACT.ACT_CODE t ch) v1).noteFull l me
  let ends := me.lock.getD (v1 / 2 ^ 16 % 2 ^ 16, v1 / 2 ^ 32 % 2 ^ 16)
  let s2 := (s1.wr (F.POCK_ACT.ACT0 t ch) ends.1).wr (F.POCK_ACT.ACT1 t ch) ends.2
  let predicted (st : Nat) : Nat := (s2.predictedNull l st (s2.rd (F.HTR_ACT.ACT_CODE t ch))).getD (v2 / 2 ^ (24 + 16 * st))
  let vpi := if s2.calib.full then me.vpi else s2.vpiP l
  let y : State × List Nat :=
    if charLocked me l then
      (if isTrimLoop l then s2.setSweep l me.sweep
       else s2.setNulls l vpi (me.lock.getD (0, 0)) (v2 % 2 ^ 24), x.2)
    else ((s2.wr (F.OPS.OP0 l) (predicted 0)).wr (F.OPS.OP1 l) (predicted 1), x.2 ++ [l])
  let s3 := y.1
  (((s3.setAgeing l 12 2 (s3.rd (F.OPS.OP0 l))).setAgeing l 14 2 (s3.rd (F.OPS.OP1 l))).setAgeing l 16 2
    (s3.rd (F.HTR_ACT.ACT_CODE t ch)), y.2)

/-- CHAR_STATUS and the CHAR_FAIL bits (R338). -/
def State.noteChar (s : State) (failed : List Nat) : State :=
  let s1 := (((s.wr F.CHAR_STATUS.FAILED failed.length).wr F.CHAR_STATUS.FIRST_FAILED (failed.headD 0)).setFlag
    F.CHAR_STATUS.FULL s.calib.full).wr F.CHAR_STATUS.RESULT 1
  let s2 := failed.foldl (fun s l => s.setFlag ⟨(F.CHAR_FAIL.FAIL (l / 32)).addr, l % 32, 1⟩ true) s1
  if failed.isEmpty then s2 else s2.raise Src.START.CHAR_LOOP_FAIL

/-- Step 7 runs to its end, and the start goes on. -/
def State.characterise (s : State) (c : Characterisation) (init : List (Nat × Nat)) : State :=
  let x := (List.range 4864).foldl (charOne c) ({ s with starting := none }, [])
  let s1 := x.1.noteChar x.2
  if s1.calib.failMax < x.2.length then s1.coldPark 13 7 0 (x.2.headD 0) x.2.length else s1.setLoops init

/-- Pockels and heater outputs are driven on every tile (R337). -/
def State.driveAll (s : State) : State :=
  s.goodTiles.foldl (fun s t =>
    let s1 := (s.setFlag (F.DRV_ENABLE.POCK_EN t) true).setFlag (F.DRV_ENABLE.HTR_EN t) true
    s1.setTile t { s1.tile t with pockFree := true, htrFree := BitVec.allOnes 64 }) s

/-- Step 7 begins: every switching cell in bar, then in cross, shutters closed; then the characterisation, or the stand. -/
def State.startChar (s : State) (c : Characterisation) (stand : Bool) (init : List (Nat × Nat)) : State :=
  let s1 := ((s.wr F.START_STATUS.STEP 7).driveAll.strobeThrough (0, 0, 0)).strobeThrough (BitVec.allOnes 4352, 0, 0)
  if stand then { s1 with starting := some ⟨c, init⟩ } else s1.characterise c init

/-! ## Step 6 (R51) -/

/-- MAGIC, VERSION, RECORDS, HCRC (R49). An image that ends early fails. -/
def passportHeaderOk (p : List Byte) : Bool :=
  leAt p 0 4 == 0x5050564F && leAt p 4 2 == 1 && leAt p 6 2 == 4864 && leAt p 252 4 == (crc32 (slice p 0 252)).toNat &&
    decide (passportSize ≤ p.length)

def State.loadPassport (s : State) (p : List Byte) (next : State → State) : State :=
  let s1 := s.wr F.START_STATUS.STEP 6
  if !passportHeaderOk p then s1.coldPark 11 6 0 0 1
  else
    let s2 := s1.setMemBytes passportBase (p.take passportSize)
    let bad := (List.range 4864).filter fun l => !s2.recordSound l
    if !bad.isEmpty && !s2.calib.full then s2.coldPark 12 6 0 (bad.headD 0) bad.length
    else next ((List.range 4864).foldl State.derive s2)

/-! ## Step 5 (R349) -/

/-- FULL calibration of one tile; a tile that cannot calibrate, or departs too far, fails. -/
def calOne (cal : List CalMeasure) (x : State × List Nat) (t : Nat) : State × List Nat :=
  match cal[t]? with
  | some r =>
    if r.failed || !x.1.tileReady t then (x.1.failCal t, x.2 ++ [t])
    else
      let run : CalRun := ⟨0, x.1.clock, none, 0⟩
      let n := x.1.newTrims t run r
      ((if n.2 = 0 then x.1 else (x.1.bumpBy F.TRIM_RANGE_CNT n.2).raise Src.CALIB.TRIM_RANGE).finishCal t run n.1, x.2)
  | none => (x.1.failCal t, x.2 ++ [t])

def State.calibrateAll (s : State) (cal : List CalMeasure) (coef : Word) (next : State → State) : State :=
  let x := (List.range 76).foldl (calOne cal) (s.wr F.START_STATUS.STEP 5, [])
  match x.2 with
  | t :: _ => x.1.coldPark 10 5 0 t x.2.length
  | [] => next (x.1.setWord F.SIL_COEF.OFS0.addr coef)

/-! ## Steps 3 and 4 (R330–R335) -/

/-- With TWIN_EN a manager waits after a start (R308). -/
def State.twinWait (s : State) (cause : Nat) : State :=
  if s.isManager && s.flag F.HIER_INFO.TWIN_EN then s.enterWait cause else s

/-- Step 4 and on. The second read's digest must be that of the first (order 6). -/
def State.applyStart (s : State) (env : StartEnv) : State :=
  let s1 := s.wr F.START_STATUS.STEP 4
  match env.bist with
  | some m => s1.coldPark 9 4 m 0 1
  | none =>
    let r := s1.readFlash env.second
    let img := env.second.image env.bootSrc
    if !r.2 then r.1.coldPark 2 4 0 0 1
    else if digestOf img ≠ digestOf (env.first.image env.bootSrc) then r.1.failLoad ⟨6, 4, 0, 16, 0⟩ 4
    else
      match segmentsOf img 18 256 [] with
      | .error f => r.1.failLoad f 4
      | .ok segs =>
        let x := r.1.applyFormula img segs
        match x.2 with
        | some f => x.1.1.failLoad f 4
        | none =>
          ((x.1.1.twinWait 0).calibrateAll env.cal env.silCoef fun s =>
            s.loadPassport (s.passport.getD []) fun s => s.startChar env.char env.stand x.1.2)

/-- Main-side reset release: the straps are sampled, STATE is COLD, and what the start clears (R323, R324, R342, R345). -/
def State.beginCold (s : State) (env : StartEnv) : State :=
  let s0 := s.coldMain
  let s1 : State := { s0 with power := { s0.power with mainUp := true } }
  let s2 := (((((s1.wr F.START_STATUS.STATE 1).wr F.START_STATUS.KIND 0).wr F.START_STATUS.STEP 3).wr
    F.START_STATUS.RETAIN_OK 0).wr F.START_STATUS.WARM_FAILS 0).bump F.COLD_STARTS
  let s3 := ((s2.setFlag F.STRAPS.ROLE env.role).wr F.STRAPS.UNIT_ID env.unit).setFlag F.STRAPS.BOOT_SRC env.bootSrc
  let s4 := (s3.setFlag F.HIER_INFO.ROLE env.role).wr F.HIER_INFO.UNIT_ID env.unit
  let s5 := (s4.orphans env.orphans fun m => m == .m5).noteSteps 1 env.stepUs
  (if s5.therm.lost then s5.raise Src.START.TRIP_UNRECORDED else s5).resetOutputs

/-- The passport as its OTP memory holds it (R48): the first start shows it, and no later one another. -/
def State.showPassport (s : State) (p : List Byte) : State := { s with passport := some (s.passport.getD p) }

/-- A cold start whose first read of the flash succeeds at once, with the image's header shown (R330, R331). -/
def State.coldLoaded (s : State) (env : StartEnv) : State :=
  ((s.showPassport env.passport).beginCold env).showImage (env.first.image env.bootSrc)

/-- A cold start from step 3. -/
def State.coldRun (s : State) (env : StartEnv) : State :=
  let r := ((s.showPassport env.passport).beginCold env).readFlash env.first
  if !r.2 then r.1.coldPark 2 3 0 0 1
  else
    let s1 := r.1.showImage (env.first.image env.bootSrc)
    match s1.checkImage (env.first.image env.bootSrc) env.role with
    | .error f => s1.failLoad f 3
    | .ok _ => s1.applyStart env

/-! ## What begins one (R321–R323) -/

/-- Step 2 of the first start since the always-on domain's power-up: a sideband that is not alive parks it (R326, R343). -/
def State.powerRun (s : State) (env : StartEnv) : State :=
  if s.power.sideband || env.sideband then { s with power := { s.power with sideband := true } }.coldRun env
  else ((s.showPassport env.passport).beginCold env).coldPark 1 2 0 0 1

/-- Main-side reset release, with the rails good and the main side in reset. -/
def State.releaseMain (s : State) (env : StartEnv) : State :=
  if s.power.vin && s.power.en && s.power.rails && s.power.pgood && !s.power.mainUp then s.powerRun env else s

/-- A trigger has begun a start in this clock cycle; `cold`: a cold one. Of several in one cycle the first begins the one start
(R322). -/
def State.startedNow (s : State) (cold : Bool) : Bool := s.trigger.any fun x => x.1 == s.clock && (!cold || x.2)

/-- A trigger begins a start. -/
def State.noteTrigger (s : State) (cold : Bool) : State := { s with trigger := some (s.clock, cold) }

def execMainResetRelease (env : StartEnv) (s : State) : Host.Outcome State Fault Refusal := .next (s.releaseMain env)

/-- COLD_RST# is released after `lowNs`. -/
def State.coldRst (s : State) (lowNs : Nat) (env : StartEnv) : State :=
  if lowNs < 10000 then s
  else if !s.power.mainUp then s.releaseMain env
  else if s.startedNow true then s
  else if s.start = 5 then s.raise Src.START.PIN_IGNORED
  else (s.noteTrigger true).coldRun env

def execColdRstRelease (lowNs : Nat) (env : StartEnv) (s : State) : Host.Outcome State Fault Refusal :=
  .next (s.coldRst lowNs env)

/-- A start command or pin outside the states that accept it (R321). -/
def State.startRefused (s : State) : State := (s.bump F.START_REFUSED_CNT).raise Src.START.START_REFUSED

/-- START_CMD.COLD is accepted. -/
def State.coldAccepted (s : State) : Bool := s.start == 2 || s.start == 3 || s.start == 4 || s.start == 5

/-- START_CMD.SERVE (R327). -/
def State.cmdServe (s : State) : State := if s.start = 3 then s.commitStart else s.startRefused

/-- The stand of step 7 ends by itself. -/
def State.resumeChar (s : State) : State :=
  match s.starting with
  | some x => s.characterise x.char x.init
  | none => s

/-- START_CMD.ABORT (R339). -/
def State.cmdAbort (s : State) : State :=
  match s.starting with
  | some x =>
    if x.char.complete then (s.setFlag F.CHAR_ABORT.ABORT_IGNORED true).resumeChar
    else
      let left := ((List.range 4864).filter fun l => !charLocked (charLoop x.char l) l).length
      ((s.wr F.CHAR_STATUS.RESULT 2).wr F.CHAR_RESIDUE.LOOPS left).coldPark 14 7 0 0 left
  | none => s

end Sys2Proof.Machine
end

