-- ==== Sys2Proof/Machine/Ptp.lean ====
section
/-! DEFINITION. The PTP transmit ring and the TX timestamp FIFO (R285, R286). -/

namespace Sys2Proof.Machine

/-- The header of a transmit ring entry (R285). -/
structure PtxEntry where
  len : Nat
  lane : Nat
  twoStep : Bool
  oneStep : Bool
  corr : Bool
  tsOff : Nat
  cfOff : Nat
  tag : Nat
  refNs : Nat
  deriving DecidableEq, Repr

def ptxEntryOf (b : List Byte) : PtxEntry where
  len := leAt b 0 2
  lane := leAt b 2 1
  twoStep := (leAt b 3 1).testBit 0
  oneStep := (leAt b 3 1).testBit 1
  corr := (leAt b 3 1).testBit 2
  tsOff := leAt b 4 2
  cfOff := leAt b 6 2
  tag := leAt b 8 2
  refNs := leAt b 12 8 * 10 ^ 9 + leAt b 20 4

/-- LEN in range, a lane that exists, and every offset used within LEN (R285; a LEN or LANE out of range, log 48). -/
def PtxEntry.ok (e : PtxEntry) : Bool :=
  decide (60 ≤ e.len) && decide (e.len ≤ 2016) && decide (e.lane < 64) &&
    (!e.oneStep || decide (e.tsOff + 10 ≤ e.len)) && (!e.corr || decide (e.cfOff + 8 ≤ e.len))

/-- Put bytes into bytes at an offset. -/
def overlay (bs : List Byte) (off : Nat) (xs : List Byte) : List Byte :=
  List.flatten [bs.take off, xs, bs.drop (off + xs.length)]

/-- The frame with its UDP checksum made anew, where it is UDP over IP. -/
def fixUdp (f : List Byte) : List Byte :=
  match walkTags f >>= fun c => if c.etype = 0x0800 then walkV4 f c else walkV6 f c with
  | .ok c =>
    if (c.etype = 0x0800 ∨ c.etype = 0x86DD) ∧ c.proto = 17 ∧ 8 ≤ c.bodyLen then
      let z := overlay f (c.bodyAt + 6) [0, 0]
      overlay z (c.bodyAt + 6) (beBytes 2 (udpChecksum (c.src z) (c.dst z) (slice z c.bodyAt c.bodyLen)))
    else f
  | .error _ => f

/-- ONE_STEP and CORR for a transmit time in units of 2^-40 ns (R285); both round half to even, and the correction saturates
(R8). -/
def PtxEntry.stamp (e : PtxEntry) (t : Nat) (f : List Byte) : List Byte :=
  let ns := wholeNs t
  let f1 := if e.oneStep then overlay f e.tsOff (List.flatten [beBytes 6 (ns / 10 ^ 9), beBytes 4 (ns % 10 ^ 9)]) else f
  let diff := roundEvenShift 24 ((t : Int) - e.refNs * 2 ^ 40)
  let f2 := if e.corr then
      overlay f1 e.cfOff (beBytes 8 (unsigned 64 (satS 64 (signed 64 (beAt f1 e.cfOff 8) + diff))))
    else f1
  if e.oneStep || e.corr then fixUdp f2 else f2

/-- The transmit time of a frame that leaves lane `n` now, in units of 2^-40 ns, less TX_LAT (R283, R294). -/
def State.txTime (s : State) (n : Nat) : Nat := ((s.fineTime : Int) - s.rdS (F.TX_LAT.LAT n) * 2 ^ 37).toNat

/-- An entry into the TX timestamp FIFO, lost where it is full (R286). -/
def State.pushTxStamp (s : State) (e : PtxEntry) (t : Nat) : State :=
  let q := s.time.txFifo
  if 64 ≤ q.length then s.raise Src.TIME.TS_OVERRUN
  else
    let ns := wholeNs t
    let s1 : State := { s with time := { s.time with txFifo := q ++ [⟨e.lane, e.tag, ns / 10 ^ 9, ns % 10 ^ 9⟩] } }
    if q.isEmpty then s1.emitCode codeTxtsNonempty else s1

def State.dropPtx (s : State) : State := (s.bump F.TX_DROP_CNT).raise Src.TIME.TX_DROP

/-- Send the frame of an entry. -/
def State.sendPtx (s : State) (e : PtxEntry) (f : List Byte) : State :=
  let t := s.txTime e.lane
  let s1 := (s.sendFrame e.lane (e.stamp t f)).bump F.PTP_TX
  if e.twoStep then s1.pushTxStamp e t else s1

/-- The oldest entry of the transmit ring: sent, dropped, or left to wait behind its lane's Kowin messages (R285). -/
def State.ptxEntry (s : State) : State :=
  let r := RingId.ptx
  if !s.ringOn r || s.ringFill r == 0 then s
  else
    let at_ := s.ringBlock r (s.rd r.rd)
    let e := ptxEntryOf (s.memBytes at_ 32)
    if !e.ok || !s.laneOn e.lane || !s.flag (F.LANE_STATUS.PCS_LOCK e.lane) then (s.dropPtx).ringPop r
    else if !(s.lane e.lane).txq.isEmpty then s
    else (s.sendPtx e (s.memBytes (at_ + 32) e.len)).ringPop r

def execPtpTxEntry (s : State) : Host.Outcome State Fault Refusal := .next (s.onMain State.ptxEntry)

/-- A read of TXTS_POP: the popped entry shows in TXTS_TAG, TXTS_NS and TXTS_SEC; the word itself is the value answered (R286). -/
def State.popTxStamp (s : State) : State × Word :=
  match s.time.txFifo with
  | [] => (s, 0)
  | e :: rest =>
    let s1 : State := { s with time := { s.time with txFifo := rest } }
    (((s1.wr F.TXTS_TAG.TAG e.tag).wr F.TXTS_NS.NS e.ns).wrW F.TXTS_SEC e.sec,
      BitVec.ofNat 32 (e.lane + 2 ^ 8 * rest.length + 2 ^ 16))

end Sys2Proof.Machine
end

