-- ==== Sys2Proof/Machine/Warm.lean ====
section
/-! DEFINITION. What starts a start (R321, R322, R345), the warm start (R340–R342), service (R328, R341), and the 250 MHz
tick (R273). -/

namespace Sys2Proof.Machine

/-! ## Service begins (R328, R329, R341) -/

/-- Enabled lanes in PCS_DOWN whose PCS has locked go to HELLO_WAIT. -/
def State.releaseLanes (s : State) : State :=
  (List.range 64).foldl (fun s n =>
    if s.laneOn n && s.flag (F.LANE_STATUS.PCS_LOCK n) && s.rd (F.LANE_STATUS.STATE n) == 0 then s.laneTo n 1 else s) s

/-- The lanes enter bring-up at the strobe that makes STATE SERVING (R329): one whose PCS stands locked by then has served the
1 ms of PCS_DOWN (R221) when the clock is 1 ms past the strobe. -/
def State.releaseDue (s : State) : State :=
  match s.lanesFrom with
  | some t =>
    if s.start != 4 then { s with lanesFrom := none }
    else if t + 1000000 ≤ s.clock then { s with lanesFrom := none }.releaseLanes
    else s
  | none => s

/-- SELECT and SHUTTER loads of S merged with REST reach every tile. -/
def State.loadRest (s : State) : State :=
  let s1 := s.checkRecord s.standing
  (List.range 76).foldl State.landAll (s1.issueMerged s1.slot (merge s1.pinsNow s1.standing rest))

/-- The strobe that makes STATE SERVING, on S and REST. A frame boundary at this instant is still to be taken. -/
def State.beginService (s : State) : State :=
  let s1 := s.loadRest
  let fresh := decide (s1.now < s1.frameStart s1.frame + 4)
  let p : Plane := { s1.plane with
    quiet := false
    lastFrame := if fresh then none else s1.plane.lastFrame }
  let s2 : State := { s1 with plane := p, lanesFrom := some s1.clock }
  ((s2.wr F.START_STATUS.STATE 4).wr F.START_STATUS.WARM_FAILS 0).setFlag F.MORTAR_STATUS.SUSPENDED false
    |>.firePlane fun _ => true

def State.serviceStart (s : State) : State :=
  if s.start == 1 && s.rd F.START_STATUS.STEP == 10 && !s.preEpoch then s.beginService else s

def execServiceStart (s : State) : Host.Outcome State Fault Refusal := .next (s.onMain State.serviceStart)

def State.warmResume (s : State) : State :=
  if s.start == 2 && s.rd F.START_STATUS.STEP == 5 && !s.preEpoch then s.beginService else s

def execWarmResume (s : State) : Host.Outcome State Fault Refusal := .next (s.onMain State.warmResume)

/-! ## The trigger (R321, R345) -/

/-- STATE is WARM from the trigger; Mortar's resynchronised channels are suspended (R444). -/
def State.triggerWarm (s : State) : State :=
  let s1 := (((s.noteTrigger false).wr F.START_STATUS.STATE 2).wr F.START_STATUS.KIND 1).wr F.START_STATUS.STEP 1
  (s1.setFlag F.MORTAR_STATUS.SUSPENDED true).bump F.WARM_STARTS

def State.warmRst (s : State) (lowNs : Nat) : State :=
  if lowNs < 1000 ∨ s.startedNow false = true then s
  else
    match s.start with
    | 3 | 4 => s.triggerWarm
    | 5 => s.raise Src.START.PIN_IGNORED
    | 1 | 2 => s.startRefused
    | _ => s

def execWarmRstAssert (lowNs : Nat) (s : State) : Host.Outcome State Fault Refusal :=
  .next (s.onMain fun s => s.warmRst lowNs)

/-- START_CMD.WARM by master `m`. -/
def State.cmdWarm (s : State) (m : Master) : State :=
  if s.startedNow false then s
  else if externalHost m && (s.start == 3 || s.start == 4 ||
      (s.start == 5 && s.flag F.START_STATUS.RETAIN_OK && decide (s.rd F.START_STATUS.WARM_FAILS < 3))) then s.triggerWarm
  else s.startRefused

/-- START_CMD.COLD by master `m`. -/
def State.cmdCold (s : State) (m : Master) (act : State → State) : State :=
  if s.startedNow true then s
  else if externalHost m && s.coldAccepted then act (s.noteTrigger true)
  else s.startRefused

/-- START_CMD is written where it can be reached and the main side is up. -/
def State.startCmd (s : State) (m : Master) (act : State → State) : State :=
  s.gate m F.START_CMD.COLD.addr fun s => s.onMain act

def execStartCmdCold (m : Master) (env : StartEnv) (s : State) : Host.Outcome State Fault Refusal :=
  .next (s.startCmd m fun s => s.cmdCold m fun s => s.coldRun env)

def execStartCmdWarm (m : Master) (s : State) : Host.Outcome State Fault Refusal := .next (s.startCmd m fun s => s.cmdWarm m)
def execStartCmdServe (m : Master) (s : State) : Host.Outcome State Fault Refusal := .next (s.startCmd m State.cmdServe)
def execStartCmdAbort (m : Master) (s : State) : Host.Outcome State Fault Refusal := .next (s.startCmd m State.cmdAbort)

/-- A word written to START_CMD over a bus: COLD before WARM before SERVE before ABORT (R322). An accepted COLD puts the main
side into reset; its release (MAIN_RESET_RELEASE) runs the cold start. -/
def State.writeStartCmd (s : State) (m : Master) (w : Word) : State :=
  if w.getLsbD 0 then
    s.cmdCold m fun s =>
      let s1 := s.coldMain
      { s1 with power := { s1.power with mainUp := false } }
  else if w.getLsbD 1 then s.cmdWarm m
  else if w.getLsbD 2 then s.cmdServe
  else if w.getLsbD 3 then s.cmdAbort
  else s

/-! ## W1 (R148, R179, R291, R340, R341) -/

/-- The Warm entries that are numbers (R15), in always-on words too (R394). -/
def warmWord (a : Nat) (w : Word) : Word :=
  (rowsAt a).foldl (fun w r => match r.warm with
    | .num n => withBits w r.lsb r.width n
    | _ => w) w

/-- H_WARM on every loop, and what a loop loses (R148); pending words of a loop that was in AUTO take effect (R134). -/
def State.holdLoops (s : State) : State :=
  let s1 : State := { s with
    warmHold := BitVec.allOnes 19
    loops := (s.loops.map fun e => (e.1, { e.2 with
      last0 := 0, last1 := 0, heaterWaits := false, repReset := 0, latest := none })).filter fun e => decide (e.2 ≠ loopIdle) }
  let s2 := (List.range 19).foldl State.settleCourse s1
  let held := (s2.lv.filter fun e => decide (0x800000 ≤ e.1) && decide (e.1 < 0x84C000)).map fun e => (e.1 - 0x800000) / 64
  (held.eraseReps ++ (s2.loops.filter fun e => e.2.plNext.isSome).map (·.1)).foldl State.takeNow s2

/-- A tile keeps its latches and its scan; shadow sets become EMPTY, every output is STALE until its next transfer (R71). -/
def State.warmTile (s : State) (t : Nat) : State :=
  let s1 := ((s.landAll t).abandonCal t).revertMirror t
  let x := s1.tile t
  s1.setTile t { x with
    shutOpen := 0, warmP := BitVec.allOnes 64, warmH := BitVec.allOnes 64, onWay := 0, frame := none, held := [], diag := none,
    focus := none, focusBuf := [], heaters := 0 }

/-- PTP frames not yet sent are dropped (R291). -/
def State.dropUnsent (s : State) : State :=
  if s.ringOn .ptx then (List.range (s.ringFill .ptx)).foldl (fun s _ => (s.dropPtx).ringPop .ptx) s else s

/-- Pending updates and a switch not yet applied are discarded; both banks are IDLE (R341). -/
def State.warmPlane (s : State) : State :=
  let s1 := s.discardUpdates
  let s2 := if s1.plane.taken.isSome then s1.altRefused else s1
  let p : Plane := { s2.plane with taken := none, request := none, pins := none, nextPins := none }
  let s3 : State := { s2 with
    plane := p
    strobes := State.reset.strobes
    comp := { s2.comp with composing := none }
    hier := { s2.hier with bufs := [], stands := [], arms := [], ownEnd := none, twinEnd := none, join := none, serve := none } }
  ((s3.setBank 0 0).setBank 1 0).twinWait 1

/-- What else stops or is lost: lanes, frames in flight, timestamps, transfers, the capture, the re-plan, snapshots. -/
def State.warmStop (s : State) : State :=
  let s1 := ((List.range 64).foldl (fun s n => if s.laneOn n then s.laneTo n 0 else s) s).dropUnsent.abortAllDma
  { s1.dropMainSnaps with
    parser := { s1.parser with recirc := [], slow := [] }
    time := { s1.time with step := none, txFifo := [] }
    sil := { State.reset.sil with
      recordSeq := s1.sil.recordSeq, blockSeq := s1.sil.blockSeq, gaps := s1.sil.gaps, timeDone := s1.sil.timeDone }
    calib := { s1.calib with sil := false }
    replan := { s1.replan with running := false }
    fuses := { s1.fuses with arm := none, busy := none } }

/-- The groups that a strobe has fired reach every tile. -/
def State.groupsEverywhere (s : State) : State :=
  let gs := s.strobes.groups.map (·.1)
  let s1 := gs.foldl (fun s g => s.goodTiles.foldl (fun s t => s.groupEdge g t) s) s
  { s1 with strobes := { s1.strobes with groups := [] } }

/-- The one last strobe of W1, in SLOT and HYBRID modes, while slots were served. -/
def State.lastStrobe (s : State) : State :=
  let s1 := if s.planeMode != 0 && !s.plane.quiet && !s.preEpoch
    then ((s.loadRest.firePlane fun _ => true).edgeEverywhere).groupsEverywhere else s
  { s1 with plane := { s1.plane with quiet := true } }

/-- Step W1. STATE, STEP and the suspension stay through the Warm entries. -/
def State.warmEntry (s : State) (env : WarmEnv) : State :=
  let s1 := (List.range 76).foldl State.warmTile s.holdLoops
  let s2 := (s1.warmPlane.warmStop.mapWords warmWord).setFlag F.MORTAR_STATUS.SUSPENDED true
  ((s2.orphans env.orphans fun m => m == .m0 || m == .m1).noteSteps 11 env.stepUs).lastStrobe

/-! ## W2 to W4 (R341, R342, R360) -/

/-- A warm start ends in PARKED: outputs frozen, H_WARM stays (R344, R345). -/
def State.warmPark (s : State) (cause step index count : Nat) : State :=
  (s.wr F.START_STATUS.WARM_FAILS (min 3 (s.rd F.START_STATUS.WARM_FAILS + 1))).park cause (0x80 + step) 0 index count

/-- The first index and the count of a list of failures. -/
def failing (l : List Nat) : Option (Nat × Nat) := match l with
  | n :: _ => some (n, l.length)
  | [] => none

/-- HCRC and every RCRC of the passport copy; a header failure counts as item 0. -/
def State.passportFails (s : State) : Option (Nat × Nat) :=
  if (crc32 (s.memBytes passportBase 252)).toNat == leNat (s.memBytes (passportBase + 252) 4) then
    failing ((List.range 4864).filter fun l => !s.recordSound l)
  else some (0, 1)

def State.loopFails (s : State) : Option (Nat × Nat) :=
  failing ((List.range 4864).filter fun l => s.rd (F.CHK.VAL l) != (loopChk fun n => s.word (loopWordAddr l n)).toNat)

def State.accordFails (s : State) : Option (Nat × Nat) :=
  failing ((List.range 144).filter fun n => (s.record n).kind != 0 && !(s.record n).sound)

def State.registerFails (s : State) (env : WarmEnv) : Option (Nat × Nat) :=
  if s.fxCrc ≠ s.word F.FX_CRC.CRC.addr then some (F.FX_CRC.CRC.addr, 1) else env.regParity

def State.railFails (s : State) (env : WarmEnv) : Option (Nat × Nat) :=
  match env.rails with
  | some x => some x
  | none => failing ((List.range 76).filter fun t => !s.railGood t)

/-- CAL_CRC of every tile against its mirror, then the mirror against the trims read back (R360): where nothing is staged CAL_CRC
is of the mirror itself. -/
def State.calibFails (s : State) (env : WarmEnv) : Option (Nat × Nat) :=
  let mirror (t : Nat) : Word := crc32 (List.flatten
    [leBytes 4 (bitsOf (s.word (calWordAddr t 0)) 0 16), trimWords.flatMap fun k => leBytes 4 (s.word (calWordAddr t k)).toNat])
  let staged (t : Nat) : Bool := (List.range 131).any fun k => (s.calib.loaded.lookup (calWordAddr t k)).isSome
  match failing ((List.range 76).filter fun t => staged t && s.calCrc t != mirror t) with
  | some x => some x
  | none => env.trims

/-- The first check of R342 that fails: its cause, index and count. -/
def State.retentionFails (s : State) (env : WarmEnv) : Option (Nat × Nat × Nat) :=
  [(18, s.passportFails), (19, s.loopFails), (20, env.repParity), (21, s.accordFails), (22, env.composer),
    (23, env.parser), (24, env.contexts), (25, s.calibFails env), (26, s.registerFails env),
    (27, s.railFails env)].findSome? fun x => x.2.map fun y => (x.1, y)

/-- H_WARM of a course is cleared, and its AUTO loops re-enter (R145, R149). -/
def State.releaseCourse (s : State) (c : Nat) : State :=
  let s1 : State := { s with warmHold := setBit s.warmHold c false }
  (s1.listedLoops c).foldl State.intoAuto s1

/-- Step W4, then the wait of W5. -/
def State.warmReenter (s : State) (env : WarmEnv) : State :=
  let s1 := s.wr F.START_STATUS.STEP 4
  let down := (List.range 76).filter fun t => !s1.linkUp t
  let lost := fun (t : Nat) => env.links.any fun u => u.val == t
  let s2 := (down.filter fun t => !lost t).foldl State.linkTrained s1
  match failing (down.filter lost) with
  | some x => s2.warmPark 27 4 x.1 x.2
  | none => ((List.range 19).foldl State.releaseCourse s2).wr F.START_STATUS.STEP 5

/-- The source of the block whose check has failed: BANK_CRC of the parser (R269, R270), CTX_CRC of the agents (R248). -/
def State.retentionFault (s : State) (cause : Nat) : State :=
  match cause with
  | 23 => s.raise Src.PARSER.BANK_CRC
  | 24 => s.raise Src.AGENTS.CTX_CRC
  | _ => s

/-- Step W3: RETAIN_OK sets when every check has passed, and clears on a failed one. -/
def State.warmCheck (s : State) (env : WarmEnv) : State :=
  let s1 := s.wr F.START_STATUS.STEP 3
  match s1.retentionFails env with
  | some x => ((s1.retentionFault x.1).setFlag F.START_STATUS.RETAIN_OK false).warmPark x.1 3 x.2.1 x.2.2
  | none => (s1.setFlag F.START_STATUS.RETAIN_OK true).warmReenter env

/-- DIGEST of the header read again differs from the latched one. -/
def State.formulaChanged (s : State) (img : List Byte) : Bool :=
  (List.range 12).any fun n => leAt img (16 + 4 * n) 4 != s.rd (F.DIGEST.WORD n)

/-- The warm start up to the wait of W5, or PARKED. -/
def State.warmRun (s : State) (env : WarmEnv) : State :=
  let r := ((s.warmEntry env).wr F.START_STATUS.STEP 2).readFlash env.header
  let img := env.header.image (s.flag F.STRAPS.BOOT_SRC)
  if !r.2 then r.1.warmPark 2 2 0 1
  else if r.1.formulaChanged img then r.1.warmPark 17 2 0 1
  else r.1.warmCheck env

def execWarmStart (env : WarmEnv) (s : State) : Host.Outcome State Fault Refusal :=
  .next (s.onMain fun s => if s.start == 2 && s.rd F.START_STATUS.STEP == 1 then s.warmRun env else s)

/-! ## The tick (R273) -/

/-- 4 ns pass: the counter of network time, a Mortar configuration coming into force, a characterisation that stood coming to
its end, the end of a power cycle's low period, the report of a semaphore forced in the cycle that ends (R407). -/
def State.tick (s : State) : State :=
  let s1 := ({ s with clock := s.clock + 4, fresh := [] }.onMain State.tickCounter).onVin State.takeMortar
  ((s1.onMain fun s => s.resumeChar.releaseDue).clearSealsIfCycled).raiseForced s.semForced

def execTimeTick (s : State) : Host.Outcome State Fault Refusal := .next s.tick

end Sys2Proof.Machine
end

