-- ==== Sys2Proof/Machine/Bus.lean ====
section
/-! DEFINITION. Register accesses of a bus master, whole (R102, R275, R286, R470–R476), and memory accesses by BAR2 offset
(R51, R368, R425, R469). -/

namespace Sys2Proof.Machine

/-! ## Reads -/

/-- The tile whose link an access of `m` to the word at `a` takes (R102); none for the loader and other words. -/
def linkTile (m : Master) (a : Nat) : Option Nat :=
  if m != .m5 && decide (0x500000 ≤ a) && decide (a < 0x630000) && tileHolds ((a - 0x500000) % 16384) then
    some ((a - 0x500000) / 16384)
  else none

/-- An access of `m` to the word at `a` finds its tile's link down. -/
def State.linkMissing (s : State) (m : Master) (a : Nat) : Bool :=
  match linkTile m a with
  | some t => !s.linkUp t
  | none => false

/-- The LO words that R275 keeps by its own snapshots. -/
def ownSnapshot (a : Nat) : Bool := a == 0x80014 || a == 0x80060

/-- Taking the snapshot of a LO word's HI half, per master and block (R473). -/
def State.snapHi (s : State) (m : Master) (a : Nat) : State :=
  match ownerBlock a with
  | some b =>
    { s with snaps := { s.snaps with
      hi := ((m, b), s.view m (a + 4)) :: s.snaps.hi.filter fun e => decide (e.1 ≠ (m, b)) } }
  | none => s

/-- What a HI word reads: the master's snapshot in the block, else the live half (R473). -/
def State.hiSeen (s : State) (m : Master) (a : Nat) : Word :=
  match ownerBlock a with
  | some b => (s.snaps.hi.lookup (m, b)).getD (s.view m a)
  | none => s.view m a

/-- A read of the word clears its RC fields (R470), but for bits set in this cycle (R12). -/
def State.clearRc (s : State) (a : Nat) : State :=
  let m := accMask a [.rc] &&& ~~~s.freshMask a
  if m = 0 then s else s.setWord a (s.word a &&& ~~~m)

/-- A read that is made: the value, and what the read does. -/
def State.readWord (s : State) (m : Master) (a : Nat) : Word × State :=
  if s.linkMissing m a then
    let f := s.freshValue
    (f.1.setWidth 32, f.2)
  else if a = F.TXTS_POP.LANE.addr then
    let r := s.popTxStamp
    (r.2, r.1)
  else if a = F.TIME_NS.NS.addr then (s.view m a, s.snapTime m)
  else if a = F.PPS_IN_NS.NS.addr then (s.view m a, s.snapPps m)
  else if isLo a && !ownSnapshot a then (s.view m a, (s.snapHi m a).clearRc a)
  else if isHi a && !ownSnapshot (a - 4) then (s.hiSeen m a, s)
  else (s.view m a, s.clearRc a)

/-- A read of `m`: unreachable words read all ones (R340, R412), a secure channel's word 0 with its report (R408). -/
def State.busRead (s : State) (m : Master) (a : Nat) : Word × State :=
  match s.readAccess m a with
  | .ok => s.readWord m a
  | .insecure => (0, s.reportInsecure m)
  | _ => (0xFFFFFFFF#32, s)

/-! ## Writes -/

/-- A write of the matrix that is discarded and counted (R425). -/
def State.refuseBus (s : State) : State := (s.bump F.REFUSED_WRITE_CNT).raise Src.FABRIC.REFUSED_WRITE

/-- FABRIC_CFG.REMAP, from M0 and M1 only (R422). -/
def State.writeRemap (s : State) (m : Master) (w : Word) : State :=
  match m with
  | .m0 | .m1 => s.setFlag F.FABRIC_CFG.REMAP (w.getLsbD 0)
  | _ => s.refuseBus

/-- CH_IRQ_EN of channel `n`: a status that stands may qualify its vector (R404, R446). -/
def State.writeChIrq (s : State) (n : Nat) (w : Word) : State :=
  (s.storeWord (F.CH_IRQ_EN.DONE_EN n).addr w).signalVector (6 + n)

/-- The words whose writes name their master, then the block's own rules. -/
def State.writeAny (s : State) (m : Master) (a : Nat) (w : Word) : State :=
  if a = F.START_CMD.COLD.addr then s.onMain fun s => s.writeStartCmd m w
  else if a = F.FABRIC_CFG.REMAP.addr then s.writeRemap m w
  else if 0x60100 ≤ a ∧ a < 0x60500 ∧ a % 64 = 8 then s.writeChCtrl m ((a - 0x60100) / 64) w
  else if 0x60100 ≤ a ∧ a < 0x60500 ∧ a % 64 = 0x24 then s.writeChIrq ((a - 0x60100) / 64) w
  else s.writeWord m a w

/-- A write that the owner rules allow: changed FX bits are reported once and ignored (R11, R470). -/
def State.writeAllowed (s : State) (m : Master) (a : Nat) (w : Word) : State :=
  if s.linkMissing m a then s else (s.reportFx m a w).writeAny m a w

/-- A write of `m` to the word at `a`. -/
def State.busWrite (s : State) (m : Master) (a : Nat) (w : Word) : State :=
  s.gate m a fun s => s.writeAllowed m a w

/-! ## The rows that are one access -/

/-- A word address of BAR0. -/
def wordAt (a : BitVec 26) : Nat := a.toNat / 4 * 4

/-- A read whose value returns to its master. Without power on the main side only the sideband bridge is there to read. -/
def State.readOut (s : State) (m : Master) (a : Nat) : State :=
  if s.power.mainUp || (m == .m4 && s.power.vin) then
    let r := s.busRead m a
    r.2.emitOut (.readData m [r.1])
  else s

def execTimeNsRead (m : Master) (s : State) : Host.Outcome State Fault Refusal := .next (s.readOut m F.TIME_NS.NS.addr)
def execPpsInNsRead (m : Master) (s : State) : Host.Outcome State Fault Refusal := .next (s.readOut m F.PPS_IN_NS.NS.addr)
def execTxtsPop (m : Master) (s : State) : Host.Outcome State Fault Refusal := .next (s.readOut m F.TXTS_POP.LANE.addr)
def execWideLoRead (m : Master) (a : BitVec 26) (s : State) : Host.Outcome State Fault Refusal :=
  .next (s.readOut m (wordAt a))
def execRcRead (m : Master) (a : BitVec 26) (s : State) : Host.Outcome State Fault Refusal := .next (s.readOut m (wordAt a))
def execWideLoWrite (m : Master) (a : BitVec 26) (w : Word) (s : State) : Host.Outcome State Fault Refusal :=
  .next (s.busWrite m (wordAt a) w)
def execWideHiWrite (m : Master) (a : BitVec 26) (w : Word) (s : State) : Host.Outcome State Fault Refusal :=
  .next (s.busWrite m (wordAt a) w)
def execRegisterWrite (m : Master) (a : BitVec 26) (w : Word) (s : State) : Host.Outcome State Fault Refusal :=
  .next (s.busWrite m (wordAt a) w)

/-- A write of REMAP (R422). -/
def execRemapWrite (m : Master) (on : Bool) (s : State) : Host.Outcome State Fault Refusal :=
  .next (s.busWrite m F.FABRIC_CFG.REMAP.addr (BitVec.ofNat 32 on.toNat))

/-- A REG transaction (R102). Where its CRC fails it is discarded, never retried, and reported (R103); a read then returns an
open value. -/
def State.regTransaction (s : State) (m : Master) (a : Nat) (write : Option Word) (crcOk : Bool) : State :=
  match linkTile m a, crcOk, write with
  | some t, false, some _ => s.gate m a fun s => if s.linkUp t then s.linkCrc t else s
  | some t, false, none =>
    match s.readAccess m a with
    | .ok =>
      let f := s.freshValue
      ((if f.2.linkUp t then f.2.linkCrc t else f.2).emitOut (.readData m [f.1.setWidth 32]))
    | _ => s.readOut m a
  | _, _, some w => s.busWrite m a w
  | _, _, none => s.readOut m a

def execTileRegTransaction (m : Master) (a : BitVec 26) (write : Option Word) (crcOk : Bool) (s : State) :
    Host.Outcome State Fault Refusal :=
  .next (s.regTransaction m (wordAt a) write crcOk)

/-! ## Memory by BAR2 offset (R398, R469) -/

/-- Working SRAM or capture memory holds a byte at this offset. -/
def memHas (off : Nat) : Bool := decide (off < 0x02800000)

/-- The regions that only M0 and M1 may write (R469). -/
def memRestricted (off : Nat) : Bool := decide (0x02780000 ≤ off) && decide (off < 0x02800000)

/-- The firmware scratch regions. -/
def memScratch (off : Nat) : Bool :=
  (decide (0x027A6000 ≤ off) && decide (off < 0x027C0000)) || (decide (0x027E6100 ≤ off) && decide (off < 0x02800000))

def isProcessor (m : Master) : Bool := m == .m0 || m == .m1

/-- What `m` reads of `n` bytes from an offset: scratch reads 0 to all but the processors, reserved space 0. -/
def State.memRead (s : State) (m : Master) (off n : Nat) : List Byte :=
  (List.range n).map fun i =>
    if !memHas (off + i) || (memScratch (off + i) && !isProcessor m) then 0 else s.memByte (off + i)

/-- A write of bytes by `m`, each with its strobe: restricted bytes are discarded, and the access counted once (R425). -/
def State.memWriteBytes (s : State) (m : Master) (bs : List (Nat × Byte)) : State :=
  let barred := fun (off : Nat) => memRestricted off && !isProcessor m
  let s1 := (bs.filter fun e => memHas e.1 && !barred e.1).foldl (fun s e => s.setMemByte e.1 e.2) s
  if bs.any fun e => barred e.1 then s1.refuseBus else s1

/-- Bytes from an offset up, each with its place. -/
def placed (off : Nat) (bs : List Byte) : List (Nat × Byte) := (List.range bs.length).zip bs |>.map fun e => (off + e.1, e.2)

def State.memWrite (s : State) (m : Master) (off : Nat) (bs : List Byte) : State := s.memWriteBytes m (placed off bs)

end Sys2Proof.Machine
end

