-- ==== Sys2Proof/Machine/Fabric.lean ====
section
/-! DEFINITION. The bus matrix (R419–R426): paths, decode errors, arbitration by credits, and a granted burst's effect. -/

namespace Sys2Proof.Machine

/-! ## Paths (R420, R425) -/

/-- The connection table. -/
def State.hasPath (s : State) (m : Master) (t : Nat) (write : Bool) : Bool :=
  match m with
  | .m0 | .m1 => decide (t < 7) || (t == 7 && !write)
  | .m2 => (decide (1 ≤ t) && decide (t < 7)) || (t == 7 && !write)
  | .m3 => decide (1 ≤ t) && decide (t < 6)
  | .m4 => decide (2 ≤ t) && decide (t < 5)
  | .m5 => (decide (2 ≤ t) && decide (t < 5) && write) || (t == 7 && !write)
  | .m6 => t == 5 && write
  | .m7 => !s.debugLocked && (decide (t < 7) || (t == 7 && !write))

/-- No path: an error response, and its record (R425). -/
def State.decodeError (s : State) (r : BusReq) : State :=
  let s1 := ((s.wr F.LAST_DECODE.MASTER (masterIndex r.master)).setFlag F.LAST_DECODE.WRITE r.write).wrW F.DECODE_ADDR r.addr
  ((s1.bump F.DECODE_CNT).raise Src.FABRIC.DECODE_ERR).emitOut (.busError r.master)

/-- The target a request has a path to. -/
def State.reqTarget (s : State) (r : BusReq) : Option Nat :=
  match targetOf r.addr with
  | some t => if s.hasPath r.master t r.write then some t else none
  | none => none

/-! ## Arbitration (R423, R424) -/

def State.credit (s : State) (t i : Nat) : Int := sparseGet (fun _ => 0) s.credits (8 * t + i)

def State.setCredit (s : State) (t i : Nat) (v : Int) : State :=
  { s with credits := sparsePut (fun _ => 0) s.credits (8 * t + i) v }

/-- w_i: the active requestors behind input i at this port. -/
def weightOf (reqs : List BusReq) (i : Nat) : Nat :=
  match reqs.find? fun r => masterIndex r.master == i with
  | some r => if r.master = .m2 ∨ r.master = .m6 then r.active else 1
  | none => 0

/-- The input with the largest credit among those with requestors, the lowest on ties. -/
def bestInput (credit : Nat → Int) (weight : Nat → Nat) : Option Nat :=
  (List.range 8).foldl (fun best i =>
    if weight i = 0 then best
    else match best with
      | some j => if credit j < credit i then some i else best
      | none => some i) none

/-- One arbitration at port `t`: credits move, and the winner is parked on. Answers the input granted. -/
def State.arbitrate (s : State) (t : Nat) (reqs : List BusReq) : State × Option Nat :=
  let w := weightOf reqs
  let total := ((List.range 8).map w).sum
  let s1 := (List.range 8).foldl (fun s i =>
    s.setCredit t i (if w i = 0 then 0 else s.credit t i + w i)) s
  match bestInput (s1.credit t) w with
  | some j =>
    let s2 := s1.setCredit t j (s1.credit t j - total)
    ((s2.wr ⟨F.PARK_STATUS.PARKED.addr, 3 * t, 3⟩ j).bump (F.GRANTS_M j), some j)
  | none => (s1, none)

/-! ## A granted burst -/

/-- The words that `n` bytes from `a` cover whole. -/
def wordsIn (a n : Nat) : List Nat :=
  (List.range ((n + 3) / 4)).filterMap fun i =>
    let x := (a + 3) / 4 * 4 + 4 * i
    if x + 4 ≤ a + n then some x else none

/-- BAR0 words of a burst in register space, read in order. -/
def State.readWords (s : State) (m : Master) (addrs : List Nat) : List Word × State :=
  addrs.foldl (fun (x : List Word × State) a =>
    let r := x.2.busRead m a
    (x.1 ++ [r.1], r.2)) ([], s)

/-- The words of bytes that start at address `a`, written in order. -/
def State.writeWords (s : State) (m : Master) (a : Nat) (bs : List Byte) : State :=
  (wordsIn a bs.length).foldl (fun s x => s.busWrite m x (BitVec.ofNat 32 (leAt bs (x - a) 4))) s

/-- Boot ROM, or working SRAM from its start under REMAP (R419). What boot ROM holds is the request's. -/
def State.bootAccess (s : State) (r : BusReq) : State :=
  if s.flag F.FABRIC_CFG.REMAP then
    if r.write then s.memWrite r.master (0x02000000 + r.addr) (r.bytes.take r.len)
    else s.emitOut (.memData r.master (s.memRead r.master (0x02000000 + r.addr) r.len))
  else if r.write then s.refuseBus
  else s.emitOut (.memData r.master ((List.range r.len).map fun i =>
    if r.addr + i < 0x40000 then r.bytes.getD i 0 else 0))

/-- What the burst does at target `t`. -/
def State.performBurst (s : State) (t : Nat) (r : BusReq) : State :=
  if r.fails then s.emitOut (.busError r.master)
  else
    match t with
    | 0 => s.bootAccess r
    | 2 | 3 | 4 =>
      let a := r.addr - 0x20000000
      if r.write then s.writeWords r.master a (r.bytes.take r.len)
      else
        let x := s.readWords r.master (wordsIn a r.len)
        x.2.emitOut (.readData r.master x.1)
    | 6 => if r.write then s.emitOut (.hostWrite (r.addr - 2 ^ 63) (r.bytes.take r.len))
      else s.emitOut (.memData r.master (r.bytes.take r.len))
    | 7 => s.emitOut (.memData r.master ((List.range r.len).map fun i =>
        s.flashByte (r.addr - 0x40000000 + i) (r.bytes.getD i 0)))
    | _ => if r.write then s.memWrite r.master (bar2Of r.addr) (r.bytes.take r.len)
      else s.emitOut (.memData r.master (s.memRead r.master (bar2Of r.addr) r.len))

/-- The bursts that stand at the ports: those without a path end in decode errors; of the others, those at the port of the
first are arbitrated, and one burst of the winner is granted. -/
def State.busRequest (s : State) (reqs : List BusReq) : State :=
  let s1 := (reqs.filter fun r => (s.reqTarget r).isNone).foldl State.decodeError s
  match reqs.filterMap s.reqTarget with
  | [] => s1
  | t :: _ =>
    let here := reqs.filter fun r => s.reqTarget r == some t
    let x := s1.arbitrate t here
    match x.2 with
    | some j =>
      match here.find? fun r => masterIndex r.master == j with
      | some r => x.1.performBurst t r
      | none => x.1
    | none => x.1

def execBusRequest (reqs : List BusReq) (s : State) : Host.Outcome State Fault Refusal :=
  .next (s.onMain fun s => s.busRequest reqs)

end Sys2Proof.Machine
end

