-- ==== Sys2Proof/Machine/Dma.lean ====
section
/-! DEFINITION. The DMA channels at work (R428–R435): descriptors, the data they move, completion and errors. -/

namespace Sys2Proof.Machine

/-! ## Descriptors (R429, R430) -/

def descrOf (b : List Byte) : Descr :=
  { src := leAt b 0 8, dst := leAt b 8 8, len := leAt b 16 3, last := (leAt b 20 1).testBit 0, irq := (leAt b 20 1).testBit 1,
    srcFixed := (leAt b 20 1).testBit 2, dstFixed := (leAt b 20 1).testBit 3, next := leAt b 24 8 }

/-- Bytes of the target's space that an end takes: one word where it is FIXED. -/
def endSpan (fixed : Bool) (len : Nat) : Nat := if fixed then 4 else len

/-- An end's own checks: it stays in one target; whole words where it is FIXED or in register space. -/
def endOk (a : Nat) (fixed : Bool) (len : Nat) : Bool :=
  staysIn a (endSpan fixed len) &&
    (!(fixed || isRegTarget ((targetOf a).getD 0)) || (a % 4 == 0 && len % 4 == 0))

/-- The destination overlaps a region that only the processors may write (R430, R469). -/
def dstBarred (d : Descr) : Bool :=
  targetOf d.dst == some 1 && decide (0x02780000 < bar2Of d.dst + endSpan d.dstFixed d.len)

/-- The descriptor's bytes pass every check of R430. -/
def descrOk (b : List Byte) : Bool :=
  let d := descrOf b
  d.len != 0 && leAt b 19 1 == 0 && leAt b 20 4 / 16 == 0 && endOk d.src d.srcFixed d.len && endOk d.dst d.dstFixed d.len &&
    !dstBarred d && targetOf d.src != some 0 && targetOf d.dst != some 0 && targetOf d.dst != some 7

/-- The descriptor in progress lies in host memory. -/
def State.fetchesHost (s : State) (n : Nat) : Bool := targetOf (s.rdW (F.CH_CUR_DESC n)) == some 6

/-- The fetched bytes; none where the descriptor could not be read. -/
def State.fetched (s : State) (n : Nat) (error : Bool) (bytes : List Byte) : Option (List Byte) :=
  let a := s.rdW (F.CH_CUR_DESC n)
  if error ∨ a % 32 ≠ 0 then none
  else
    match targetOf a with
    | some 1 => some (s.memRead .m2 (bar2Of a) 32)
    | some 6 => some ((bytes ++ List.replicate 32 0).take 32)
    | _ => none

/-- The fetch ends: the descriptor is checked, and its beats may issue; an aborted channel ends here (R430, R434). -/
def State.descriptorFetched (s : State) (n : Nat) (error : Bool) (bytes : List Byte) : State :=
  match s.chan n with
  | some ⟨none, _, _⟩ =>
    let aborting := s.rd (F.CH_STATUS.STATE n) == 2
    match s.fetched n error bytes with
    | none =>
      if aborting then
        (if error then s.failDma n 3 0 (s.rdW (F.CH_CUR_DESC n)) else s.endDma n 2 0)
      else s.badDescriptor n 0
    | some b =>
      if aborting then s.endDma n 2 (descrOf b).len
      else if descrOk b then s.setChan n ⟨some (descrOf b), 0, 0⟩
      else s.badDescriptor n (descrOf b).len
  | _ => s

def execDescriptorFetched (n : Fin 16) (error : Bool) (bytes : List Byte) (s : State) : Host.Outcome State Fault Refusal :=
  .next (s.onMain fun s => s.descriptorFetched n error bytes)

def execChCtrlStart (m : Master) (n : Fin 16) (s : State) : Host.Outcome State Fault Refusal :=
  .next (s.busWrite m (F.CH_CTRL.START n).addr 1)

def execChCtrlAbort (m : Master) (n : Fin 16) (s : State) : Host.Outcome State Fault Refusal :=
  .next (s.busWrite m (F.CH_CTRL.START n).addr 2)

/-! ## Moving data (R431) -/

/-- The address of the end's byte at offset `i` of the descriptor. -/
def endAt (a : Nat) (fixed : Bool) (i : Nat) : Nat := if fixed then a + i % 4 else a + i

/-- Bytes `[i, i + k)` of the source; `given` are those that host memory or flash returned. -/
def State.sourceBytes (s : State) (m : Master) (d : Descr) (i k : Nat) (given : List Byte) : List Byte × State :=
  match targetOf d.src with
  | some 6 => ((given ++ List.replicate k 0).take k, s)
  | some 7 => ((List.range k).map fun j => s.flashByte (endAt d.src d.srcFixed (i + j) - 0x40000000) (given.getD j 0), s)
  | some 1 | some 5 => ((List.range k).map fun j => (s.memRead .m2 (bar2Of (endAt d.src d.srcFixed (i + j))) 1).headD 0, s)
  | _ =>
    let x := s.readWords m ((List.range (k / 4)).map fun j => endAt d.src d.srcFixed (i + 4 * j) - 0x20000000)
    (wordBytes x.1, x.2)

/-- Bytes written at offset `i` of the destination. -/
def State.putBytes (s : State) (m : Master) (d : Descr) (i : Nat) (bs : List Byte) : State :=
  match targetOf d.dst with
  | some 6 =>
    if d.dstFixed then
      (List.range (bs.length / 4)).foldl (fun s j => s.emitOut (.hostWrite (d.dst - 2 ^ 63) (slice bs (4 * j) 4))) s
    else s.emitOut (.hostWrite (d.dst + i - 2 ^ 63) bs)
  | some 1 | some 5 =>
    s.memWriteBytes .m2 ((List.range bs.length).zip bs |>.map fun e => (bar2Of (endAt d.dst d.dstFixed (i + e.1)), e.2))
  | _ => (List.range (bs.length / 4)).foldl (fun s j =>
      s.busWrite m (endAt d.dst d.dstFixed (i + 4 * j) - 0x20000000) (BitVec.ofNat 32 (leAt bs (4 * j) 4))) s

/-- The host side takes no requests of the device: D3hot, or Bus Master disabled (R402). -/
def State.hostShut (s : State) : Bool := s.pcie.d3hot || !s.pcie.cfg.busMaster

/-- How far a RUNNING channel has issued: never back, never past the end, in whole words where an end takes words. -/
def State.issuedTo (s : State) (n : Nat) (d : Descr) (old asked : Nat) : Nat :=
  let words := d.srcFixed || d.dstFixed || isRegTarget ((targetOf d.src).getD 0) || isRegTarget ((targetOf d.dst).getD 0)
  let stands := s.rd (F.CH_STATUS.STATE n) != 1 || (s.hostShut && (targetOf d.src == some 6 || targetOf d.dst == some 6))
  if stands then old else max old (let x := min asked d.len; if words then x / 4 * 4 else x)

/-- Beats issue up to `new`: their bytes move. -/
def State.issueBeats (s : State) (n : Nat) (d : Descr) (x : DmaChan) (new : Nat) (given : List Byte) : State :=
  if new = x.issued then s
  else
    let m := s.dmaMaster n
    let b := s.sourceBytes m d x.issued (new - x.issued) given
    let t := b.2.putBytes m d x.issued b.1
    if (t.chan n).isSome then t.setChan n ⟨some d, new, x.confirmed⟩ else t

/-! ## Ends (R432, R433) -/

/-- The start of the destination beat that holds offset `i`. -/
def beatAt (d : Descr) (i : Nat) : Nat := if d.dstFixed then i / 4 * 4 else i - min i ((d.dst + i) % 32)

/-- Destination content from offset `i` on is undefined: fresh bytes in memory; a register word may have taken a fresh value. -/
def State.undefineFrom (s : State) (n : Nat) (d : Descr) (i : Nat) : State :=
  let k := d.len - i
  match targetOf d.dst with
  | some 1 | some 5 =>
    let f := s.freshBytes k
    f.2.putBytes .m2 d i f.1
  | some 6 => s
  | _ => (List.range (k / 4)).foldl (fun s j =>
      let f := s.freshValue
      if f.1.getLsbD 0 then
        f.2.busWrite (s.dmaMaster n) (endAt d.dst d.dstFixed (i + 4 * j) - 0x20000000) ((f.1 >>> 32).setWidth 32)
      else f.2) s

/-- An error response on the beat at offset `i`, of the source or of the destination (R433). -/
def State.beatError (s : State) (n : Nat) (d : Descr) (issued i : Nat) (source : Bool) : State :=
  let b := beatAt d i
  let s1 := s.undefineFrom n d b
  if source then s1.failDma n 3 (d.len - i) (endAt d.src d.srcFixed i)
  else if d.posted && issued == d.len then s1.failDma n 4 0 (endAt d.dst d.dstFixed (d.len - 1))
  else if issued = d.len ∧ beatAt d (d.len - 1) = b then s1.failDma n 4 0 (endAt d.dst d.dstFixed b)
  else s1.failDma n 3 (d.len - b) (endAt d.dst d.dstFixed b)

/-- Write responses for `k` bytes (R432). -/
def State.confirmBytes (s : State) (n : Nat) (d : Descr) (x : DmaChan) (k : Nat) : State :=
  if d.posted then s
  else
    let done := min x.issued (x.confirmed + k)
    let s1 := (s.bumpBy (F.CH_BYTES n) (done - x.confirmed)).setChan n { x with confirmed := done }
    if done = d.len then s1.completeDescriptor n d
    else if s1.rd (F.CH_STATUS.STATE n) = 2 ∧ done = x.issued then s1.endAbort n x
    else s1

/-- The flushing read returns (R432). -/
def State.flushReturns (s : State) (n : Nat) (d : Descr) (x : DmaChan) : State :=
  if d.posted && x.issued == d.len then (s.bumpBy (F.CH_BYTES n) d.len).completeDescriptor n d else s

def State.dmaResponse (s : State) (n : Nat) (r : DmaResp) : State :=
  match s.chan n with
  | some ⟨some d, issued, confirmed⟩ =>
    let new := s.issuedTo n d issued r.issued
    let s1 := s.issueBeats n d ⟨some d, issued, confirmed⟩ new r.bytes
    match s1.chan n, r.answer with
    | some x, .written k => s1.confirmBytes n d x k
    | some x, .flushed => s1.flushReturns n d x
    | some x, .error i source => if i < d.len ∧ (source = true ∨ i < x.issued) then s1.beatError n d x.issued i source else s1
    | none, _ => s1
  | _ => s

def execDmaResponse (n : Fin 16) (r : DmaResp) (s : State) : Host.Outcome State Fault Refusal :=
  .next (s.onMain fun s => s.dmaResponse n r)

/-! ## The host side fails (R401, R435) -/

/-- A descriptor fetch from host memory fails. -/
def State.fetchFails (s : State) (n : Nat) : State := s.descriptorFetched n true []

/-- What the channel has outstanding at the host ends in an error: a fetch, the flushing read, a source read at offset `i`;
none where it has nothing outstanding there. -/
def State.hostError (s : State) (n i : Nat) : Option State :=
  match s.chan n with
  | some ⟨none, _, _⟩ => if s.fetchesHost n then some (s.fetchFails n) else none
  | some ⟨some d, issued, _⟩ =>
    if d.posted && issued == d.len then some (s.beatError n d issued (d.len - 1) false)
    else if targetOf d.src = some 6 ∧ issued < d.len then some (s.beatError n d issued (min i (d.len - 1)) true)
    else none
  | none => none

/-- COMPLETION_TIMEOUT (R401). -/
def State.completionTimeout (s : State) (n offset : Nat) : State :=
  match s.hostError n offset with
  | some t => t.aerError "Completion Timeout" 14
  | none => s

def execCompletionTimeout (n : Fin 16) (offset : Nat) (s : State) : Host.Outcome State Fault Refusal :=
  .next (s.onMain fun s => s.completionTimeout n offset)

/-- A host-side reset at one channel: aborted where M3 started it, in error where it has accesses to host memory (R435). -/
def State.resetChannel (s : State) (n : Nat) : State :=
  match s.chan n with
  | none => s
  | some x =>
    if s.dmaMaster n = .m3 then s.endAbort n x
    else
      match s.hostError n x.issued, x.desc with
      | some t, _ => t
      | none, some d => if d.posted then s.beatError n d x.issued x.issued false else s
      | none, none => s

end Sys2Proof.Machine
end

