-- ==== Sys2Proof/Machine/Pmbus.lean ====
section
/-! DEFINITION. Power telemetry, its limits (R395) and the PMBus commands (R379, R380, R410). -/

namespace Sys2Proof.Machine

/-! ## Telemetry (R379, R380, R395) -/

/-- How many updates on end a condition has held. -/
def runOf (n : Nat) (now : Bool) : Nat := if now then n + 1 else 0

/-- A limit with a dwell raises its source at the update at which its dwell is reached. -/
def State.raiseAt (s : State) (run dwell : Nat) (src : Source) : State := if run = dwell then s.raise src else s

/-- The causes of STATUS_INPUT, by bit, with the dwells of 10 ms, 10 ms and 1 s. -/
def State.inputCauses (s : State) : BitVec 8 :=
  BitVec.ofNat 8 ((if 11 ≤ s.therm.vinHighMs then 64 else 0) + (if 11 ≤ s.therm.vinLowMs then 32 else 0) +
    (if 1001 ≤ s.therm.pinHighMs then 1 else 0))

def State.psHot (s : State) : Bool := decide (s.rdS F.PS_HOT_LIMIT.LIMIT ≤ s.rdS F.PS_TEMP.TEMP)

/-- The causes of STATUS_TEMPERATURE, by bit. -/
def State.tempCauses (s : State) : BitVec 8 :=
  let any (f : Nat → Field) : Bool := allSensors.any fun n => s.flag (f n)
  BitVec.ofNat 8 ((if any F.SENSOR.TRIP then 128 else 0) +
    (if any F.SENSOR.WARN || any F.SENSOR.ALARM || s.psHot then 64 else 0) + (if any F.SENSOR.COLD then 32 else 0))

/-- The PMBus status bits take up the causes that stand (R380). OFF and POWER_GOOD# follow theirs. -/
def State.mirrorStatus (s : State) : State :=
  { s with sb := { s.sb with
    statusInput := s.sb.statusInput ||| s.inputCauses
    statusTemp := s.sb.statusTemp ||| s.tempCauses
    off := !s.power.mainUp
    pgBad := !s.power.pgood } }

/-- ENERGY counts the input power over one millisecond (R395). -/
def State.countEnergy (s : State) : State :=
  let e := s.therm.energy + s.rd F.PIN.VAL
  { s with therm := { s.therm with energy := e % 100 } }.bumpBy F.ENERGY (e / 100)

/-- The readings of one update, and what they make of the limits. -/
def State.updateTelemetry (s : State) (vin iin pin : Nat) (ps : Int) : State :=
  let s1 := (((s.wr F.VIN.VAL vin).wr F.IIN.VAL iin).wr F.PIN.VAL pin).wrS F.PS_TEMP.TEMP (satS 16 ps)
  let s2 : State := { s1 with therm := { s1.therm with
    vinLowMs := runOf s1.therm.vinLowMs (decide (vin < s1.rd F.VIN_LIMITS.VIN_LOW))
    vinHighMs := runOf s1.therm.vinHighMs (decide (s1.rd F.VIN_LIMITS.VIN_HIGH < vin))
    pinHighMs := runOf s1.therm.pinHighMs (decide (s1.rd F.PIN_LIMIT.LIMIT < pin)) } }
  let s3 := ((s2.raiseAt s2.therm.vinLowMs 11 Src.POWER.VIN_LOW).raiseAt s2.therm.vinHighMs 11 Src.POWER.VIN_HIGH).raiseAt
    s2.therm.pinHighMs 1001 Src.POWER.PIN_HIGH
  let s4 := if s3.psHot && !s.therm.psHot then s3.raise Src.POWER.PS_HOT else s3
  { s4 with therm := { s4.therm with psHot := s3.psHot } }.countEnergy.mirrorStatus

def execTelemetryUpdate (vin iin pin : Fin 65536) (ps : Int) (s : State) : Host.Outcome State Fault Refusal :=
  .next (s.onVin fun s => s.updateTelemetry vin iin pin ps)

/-! ## LINEAR11 (R379) -/

/-- The mantissa of num/den at exponent k − 16. -/
def mantissa (num : Int) (den k : Nat) : Int := roundEvenDiv (num * 65536) (den * 2 ^ k)

/-- LINEAR11 of num/den: the most negative exponent whose rounded mantissa is at most 1,023 in size. -/
def linear11 (num : Int) (den : Nat) : Nat :=
  match (List.range 32).find? fun k => decide ((mantissa num den k).natAbs ≤ 1023) with
  | some k => (k + 16) % 32 * 2048 + unsigned 11 (mantissa num den k)
  | none => 0

/-! ## SMBus transactions (R409, R410, R418) -/

/-- A transaction addressed to the device, which answers while its always-on domain runs. -/
def State.transaction (s : State) (act : State → State) : State :=
  if s.power.vin then act (s.bump F.TRANSACTIONS) else s

/-- Bytes the device returns. -/
def State.answer (s : State) (bytes : List Byte) : State := s.emitOut (.smbus bytes)

def State.pecError (s : State) : State := (s.bump F.PEC_ERR_CNT).raise Src.SIDEBAND.PEC_ERR

/-- A PMBus write: discarded with a wrong PEC, and without one where SB_CFG requires it (R410). -/
def State.pmbusWrite (s : State) (pec : Pec) (act : State → State) : State :=
  if pec = .bad ∨ (pec = .none ∧ s.flag F.SB_CFG.PMBUS_PEC_REQ = true) then
    { s with sb := { s.sb with statusCml := s.sb.statusCml ||| 0x20 } }.pecError
  else act s

/-- CLEAR_FAULTS clears the PMBus status bits (R380). -/
def State.clearStatus (s : State) : State :=
  { s with sb := { s.sb with statusInput := 0, statusTemp := 0, statusCml := 0, off := false, pgBad := false } }

def State.statusByte (s : State) : Nat :=
  (if s.sb.off then 64 else 0) + (if s.sb.statusTemp = 0 then 0 else 4) + (if s.sb.statusCml = 0 then 0 else 2)

def State.statusWord (s : State) : Nat :=
  s.statusByte + (if s.sb.pgBad then 0x800 else 0) + (if s.sb.statusInput = 0 then 0 else 0x2000)

/-- A block of characters. -/
def asciiBytes (t : List Nat) : List Byte := t.map (BitVec.ofNat 8)

def execClearFaults (pec : Pec) (s : State) : Host.Outcome State Fault Refusal :=
  .next (s.transaction fun s => s.pmbusWrite pec State.clearStatus)

def execCapability (s : State) : Host.Outcome State Fault Refusal :=
  .next (s.transaction fun s => s.answer [0xD0])

def execStatusByte (s : State) : Host.Outcome State Fault Refusal :=
  .next (s.transaction fun s => s.answer (leBytes 1 s.statusByte))

def execStatusWord (s : State) : Host.Outcome State Fault Refusal :=
  .next (s.transaction fun s => s.answer (leBytes 2 s.statusWord))

def execStatusInput (s : State) : Host.Outcome State Fault Refusal :=
  .next (s.transaction fun s => s.answer [s.sb.statusInput])

def execStatusTemperature (s : State) : Host.Outcome State Fault Refusal :=
  .next (s.transaction fun s => s.answer [s.sb.statusTemp])

def execStatusCml (s : State) : Host.Outcome State Fault Refusal :=
  .next (s.transaction fun s => s.answer [s.sb.statusCml])

/-- Read word in LINEAR11. -/
def State.answerLinear (s : State) (num : Int) (den : Nat) : State := s.answer (leBytes 2 (linear11 num den))

def execReadVin (s : State) : Host.Outcome State Fault Refusal :=
  .next (s.transaction fun s => s.answerLinear (s.rd F.VIN.VAL) 100)

def execReadIin (s : State) : Host.Outcome State Fault Refusal :=
  .next (s.transaction fun s => s.answerLinear (s.rd F.IIN.VAL) 1000)

def execReadTemperature1 (s : State) : Host.Outcome State Fault Refusal :=
  .next (s.transaction fun s => s.answerLinear (s.rdS F.PS_TEMP.TEMP) 100)

def execReadTemperature2 (s : State) : Host.Outcome State Fault Refusal :=
  .next (s.transaction fun s => s.answerLinear (s.rdS F.HOTTEST_CTRL.TEMP) 100)

def execReadTemperature3 (s : State) : Host.Outcome State Fault Refusal :=
  .next (s.transaction fun s =>
    if s.validTiles.isEmpty then s.answer [0, 0] else s.answerLinear (s.rdS F.HOTTEST_PLANE.TEMP) 100)

def execReadPin (s : State) : Host.Outcome State Fault Refusal :=
  .next (s.transaction fun s => s.answerLinear (s.rd F.PIN.VAL) 100)

def execPmbusRevision (s : State) : Host.Outcome State Fault Refusal :=
  .next (s.transaction fun s => s.answer [0x44])

/-- A block read: the byte count, then the bytes. -/
def State.answerBlock (s : State) (bytes : List Byte) : State :=
  s.answer (BitVec.ofNat 8 bytes.length :: bytes)

/-- "OUVARAEN". -/
def execMfrId (s : State) : Host.Outcome State Fault Refusal :=
  .next (s.transaction fun s => s.answerBlock (asciiBytes [0x4F, 0x55, 0x56, 0x41, 0x52, 0x41, 0x45, 0x4E]))

/-- "OVX5120-C" or "OVX5120-E". -/
def execMfrModel (s : State) : Host.Outcome State Fault Refusal :=
  .next (s.transaction fun s => s.answerBlock (asciiBytes
    [0x4F, 0x56, 0x58, 0x35, 0x31, 0x32, 0x30, 0x2D, if Config.orderCodeE then 0x45 else 0x43]))

/-- A command code not in R379, or a write to a read command: acknowledged; a read returns 0xFF bytes (R380). -/
def State.invalidCommand (s : State) : State :=
  { s with sb := { s.sb with statusCml := s.sb.statusCml ||| 0x80 } }.raise Src.POWER.PMBUS_CML

def execPmbusInvalidCommand (read : Option Nat) (pec : Pec) (s : State) : Host.Outcome State Fault Refusal :=
  .next (s.transaction fun s =>
    match read with
    | some n => s.invalidCommand.answer (List.replicate n (0xFF : Byte))
    | none => s.pmbusWrite pec State.invalidCommand)

/-- While SB_ALERT# is asserted the device answers the Alert Response Address with its own (R405). -/
def execAlertResponse (s : State) : Host.Outcome State Fault Refusal :=
  .next (if s.alertPin then s.answer (leBytes 1 (2 * s.rd F.SB_INFO.ADDR)) else s)

end Sys2Proof.Machine
end

