-- ==== Sys2Proof/Machine/Window.lean ====
section
/-! DEFINITION. The sideband's register window (R410–R412) and SB_TIMEOUT (R409). -/

namespace Sys2Proof.Machine

/-! ## Outcomes (R411) -/

/-- WIN_STATUS. -/
def State.winOutcome (s : State) (v : Nat) : State := s.wr F.WIN_RESULT.STATUS v

/-- A window write command: without a correct PEC it does nothing but report (R410). -/
def State.windowWrite (s : State) (pec : Pec) (act : State → State) : State :=
  if pec = .good then act s else (s.winOutcome 8).pecError

/-- A bad address, alignment or count: no access is made. -/
def State.winFormat (s : State) : State := (s.winOutcome 16).raise Src.SIDEBAND.WIN_FORMAT

/-- The words from WIN_ADDR on lie in BAR0. -/
def State.winFits (s : State) (words : Nat) : Bool := decide (s.rd F.WIN_STATE.ADDR + 4 * words ≤ 0x04000000)

/-- The outcome bit of one word: REFUSED, MAIN_DOWN, or none. -/
def accessBit (x : Access) : Nat :=
  match x with
  | .ok => 0
  | .unreachable => 4
  | .nonOwner => 2
  | .insecure => 2

/-- A word that cannot be reached is reported (R412). -/
def State.noteDown (s : State) (x : Access) : State := if x = .unreachable then s.raise Src.SIDEBAND.WIN_MAIN_DOWN else s

/-- WIN_ADDR goes on by one word. -/
def State.winStep (s : State) : State := s.wr F.WIN_STATE.ADDR (s.rd F.WIN_STATE.ADDR + 4)

/-! ## Accesses -/

/-- One word of WIN_WRITE. -/
def State.winWriteWord (x : State × Nat) (w : Word) : State × Nat :=
  let a := x.1.rd F.WIN_STATE.ADDR
  let access := x.1.writeAccess .m4 a
  let fx := access == .ok && !x.1.linkMissing .m4 a && x.1.fxDiffers a w
  (((x.1.busWrite .m4 a w).noteDown access).winStep, x.2 ||| accessBit access ||| (if fx then 2 else 0))

def State.winWrite (s : State) (bytes : List Byte) : State :=
  let n := bytes.length / 4
  if bytes.length % 4 ≠ 0 ∨ n = 0 ∨ 8 < n ∨ s.winFits n = false then s.winFormat
  else
    let x := ((List.range n).map fun i => BitVec.ofNat 32 (leAt bytes (4 * i) 4)).foldl State.winWriteWord (s, 0)
    x.1.winOutcome (x.2 ||| 1)

/-- One word of WIN_READ. -/
def State.winReadWord (x : List Word × State × Nat) : List Word × State × Nat :=
  let s := x.2.1
  let a := s.rd F.WIN_STATE.ADDR
  let access := s.readAccess .m4 a
  let r := s.busRead .m4 a
  (x.1 ++ [r.1], (r.2.noteDown access).winStep, x.2.2 ||| accessBit access)

/-- Data returned by a block read: its count, then the bytes; kept for WIN_REREAD. -/
def State.answerWindow (s : State) (bytes : List Byte) : State :=
  { s with sb := { s.sb with winData := bytes } }.answer (BitVec.ofNat 8 bytes.length :: bytes)

def State.winRead (s : State) : State :=
  let n := s.rd F.WIN_STATE.COUNT
  if s.winFits n then
    let x := (List.range n).foldl (fun x _ => State.winReadWord x) (([], s, 0) : List Word × State × Nat)
    (x.2.1.winOutcome (x.2.2 ||| 1)).answerWindow (wordBytes x.1)
  else s.winFormat.answerWindow (List.replicate (4 * n) 0xFF)

/-! ## The commands -/

def State.setWinAddr (s : State) (bytes : List Byte) : State :=
  let a := leNat bytes
  if bytes.length ≠ 4 ∨ a % 4 ≠ 0 ∨ 0x04000000 ≤ a then s.winFormat else s.wr F.WIN_STATE.ADDR a

def execWinAddr (bytes : List Byte) (pec : Pec) (s : State) : Host.Outcome State Fault Refusal :=
  .next (s.transaction fun s => s.windowWrite pec fun s => s.setWinAddr bytes)

def execWinWrite (bytes : List Byte) (pec : Pec) (s : State) : Host.Outcome State Fault Refusal :=
  .next (s.transaction fun s => s.windowWrite pec fun s => s.winWrite bytes)

def execWinRead (s : State) : Host.Outcome State Fault Refusal := .next (s.transaction State.winRead)

def execWinStatus (s : State) : Host.Outcome State Fault Refusal :=
  .next (s.transaction fun s => s.answer (leBytes 1 (s.rd F.WIN_RESULT.STATUS)))

def State.setWinCount (s : State) (b : Byte) : State :=
  if b = 0 ∨ 8 < b.toNat then s.winFormat else s.wr F.WIN_STATE.COUNT b.toNat

def execWinCount (set : Option Byte) (pec : Pec) (s : State) : Host.Outcome State Fault Refusal :=
  .next (s.transaction fun s => match set with
    | some b => s.windowWrite pec fun s => s.setWinCount b
    | none => s.answer (leBytes 1 (s.rd F.WIN_STATE.COUNT)))

def execWinReread (s : State) : Host.Outcome State Fault Refusal :=
  .next (s.transaction fun s => s.answer (BitVec.ofNat 8 s.sb.winData.length :: s.sb.winData))

/-! ## A reset of the sideband bridge (R409, R427, R473) -/

/-- A reset of a master clears what it holds between its accesses. -/
def State.dropSnapsOf (s : State) (m : Master) : State :=
  { s with snaps := {
    hi := s.snaps.hi.filter fun e => decide (e.1.1 ≠ m)
    lo := s.snaps.lo.filter fun e => decide (e.1.1 ≠ m)
    time := s.snaps.time.filter fun e => decide (e.1 ≠ m)
    pps := s.snaps.pps.filter fun e => decide (e.1 ≠ m) } }

def State.sbTimeout (s : State) (orphan : Option Orphan) : State :=
  let s1 := ((s.dropSnapsOf .m4).bump F.TIMEOUT_CNT).raise Src.SIDEBAND.SB_TIMEOUT
  s1.onMain fun s => s.orphans orphan.toList fun m => m == .m4

def execSbTimeout (orphan : Option Orphan) (s : State) : Host.Outcome State Fault Refusal :=
  .next (s.onVin fun s => s.sbTimeout orphan)

end Sys2Proof.Machine
end

