-- ==== Sys2Proof/Machine/Pcie.lean ====
section
/-! DEFINITION. The PCIe endpoint: inbound requests (R399–R401), host-side resets and power states (R402). -/

namespace Sys2Proof.Machine

/-! ## Configuration space (R396–R398) -/

/-- A word of configuration space: Vendor and Device ID, the command bits, class code and revision, and the two BARs, both 64-bit
and BAR2 prefetchable, of 64 MiB each; at the places of a PCI header (log 73). -/
def State.configWord (s : State) (off : Nat) : Word :=
  let c := s.pcie.cfg
  match off with
  | 0x00 => 0x51201F0C#32
  | 0x04 => BitVec.ofNat 32 (2 * c.memSpace.toNat + 4 * c.busMaster.toNat)
  | 0x08 => 0x02800000#32 ||| (Config.identRev &&& 0xFF#32)
  | 0x10 => BitVec.ofNat 32 (c.bar0.toNat * 2 ^ 26 + 4)
  | 0x14 => BitVec.ofNat 32 (c.bar0.toNat / 64)
  | 0x18 => BitVec.ofNat 32 (c.bar2.toNat * 2 ^ 26 + 12)
  | 0x1C => BitVec.ofNat 32 (c.bar2.toNat / 64)
  | _ => 0

/-- The Device Serial Number (R397). -/
def deviceSerial : BitVec 64 := Config.moduleSerial

/-! ## Errors (R401) -/

def State.unsupported (s : State) : State := (s.emitOut .unsupported).aerError "Unsupported Request" 20

/-- The function's configuration as the host has set it by now; messages that wait leave once they can (R404). -/
def State.configure (s : State) (c : PcieCfg) : State :=
  { s with pcie := { s.pcie with cfg := { c with aerClear := 0 }, aer := s.pcie.aer &&& ~~~c.aerClear } }.flushVectors

/-- A request to a BAR, answered UR where the function does not take it or it leaves the BAR. -/
def State.barRequest (s : State) (cfg : PcieCfg) (r : HostReq) (act : State → State) : State :=
  let s1 := s.configure cfg
  if !s1.pcie.cfg.memSpace || s1.pcie.d3hot || decide (0x04000000 < r.offset + 4 * r.dws.length) then s1.unsupported else act s1

/-! ## BAR0 (R399) -/

/-- A word address and word of each DW, in ascending order. -/
def reqWords (r : HostReq) : List (Nat × Word × BitVec 4) :=
  (List.range r.dws.length).zip r.dws |>.map fun e => (r.offset / 4 * 4 + 4 * e.1, e.2)

/-- A QW access: two DWs on a boundary of eight bytes. -/
def isQw (r : HostReq) : Bool := r.dws.length == 2 && r.offset / 4 % 2 == 0

/-- The MSI-X table and the PBA take QW accesses, nothing else does (R399, R403). -/
def qwPlace (off : Nat) : Bool := decide (0x38000 ≤ off) && decide (off < 0x39020)

def State.bar0Write (s : State) (r : HostReq) : State :=
  if (reqWords r).any fun e => e.2.2 != 15 then (s.bump F.PARTIAL_CNT).raise Src.HOSTIF.BAR0_PARTIAL
  else (reqWords r).foldl (fun s e => s.busWrite .m3 e.1 e.2.1) s

def State.bar0Read (s : State) (r : HostReq) : State :=
  let x := s.readWords .m3 ((reqWords r).map (·.1))
  x.2.emitOut (.readData .m3 x.1)

/-- A request to BAR0. A QW access that is not accepted is answered as an unsupported request (log 40). -/
def execBar0Request (cfg : PcieCfg) (r : HostReq) (s : State) : Host.Outcome State Fault Refusal :=
  .next (s.onMain fun s => s.barRequest cfg r fun s =>
    if isQw r && !qwPlace r.offset then s.unsupported else if r.write then s.bar0Write r else s.bar0Read r)

/-! ## BAR2 (R400) -/

/-- The bytes that a request's byte enables name, with their places. -/
def reqBytes (r : HostReq) : List (Nat × Byte) :=
  (reqWords r).flatMap fun e => (List.range 4).filterMap fun i =>
    if e.2.2.getLsbD i then some (e.1 + i, (e.2.1 >>> (8 * i)).setWidth 8) else none

def State.bar2Read (s : State) (r : HostReq) : State :=
  s.emitOut (.memData .m3 (s.memRead .m3 (r.offset / 4 * 4) (4 * r.dws.length)))

def execBar2Request (cfg : PcieCfg) (r : HostReq) (s : State) : Host.Outcome State Fault Refusal :=
  .next (s.onMain fun s => s.barRequest cfg r fun s => if r.write then s.memWriteBytes .m3 (reqBytes r) else s.bar2Read r)

def execUnsupportedRequest (s : State) : Host.Outcome State Fault Refusal := .next (s.onMain State.unsupported)

def execPoisonedWrite (s : State) : Host.Outcome State Fault Refusal :=
  .next (s.onMain fun s => s.aerError "Poisoned TLP Received" 12)

/-! ## Host-side events (R402, R435) -/

/-- The MSI-X table and its pending bits at their reset values, every vector armed. Of configuration space the sticky bits of AER
stay. -/
def msixReset (a : Nat) (w : Word) : Word :=
  if (0x38000 ≤ a ∧ a < 0x3A000) ∨ (0x30040 ≤ a ∧ a < 0x30060) then coldWord a else w

def State.hostReset (s : State) (flr : Bool) (orphan : Option Orphan) : State :=
  let s1 : State := { (s.mapWords msixReset) with pcie := { State.reset.pcie with aer := s.pcie.aer, headerLog := s.pcie.headerLog } }
  let s2 := (List.range 16).foldl State.resetChannel ((s1.dropSnapsOf .m3).releaseSems .m3)
  let s3 := s2.orphans orphan.toList fun m => m == .m3
  if flr then (s3.bump F.FLR_CNT).raise Src.HOSTIF.FLR else (s3.bump F.LINK_DOWN_CNT).raise Src.HOSTIF.LINK_DOWN

def execHostSideReset (flr : Bool) (orphan : Option Orphan) (s : State) : Host.Outcome State Fault Refusal :=
  .next (s.onMain fun s => s.hostReset flr orphan)

def execD3hotEntry (s : State) : Host.Outcome State Fault Refusal :=
  .next (s.onMain fun s => { s with pcie := { s.pcie with d3hot := true } })

def execD0Entry (cfg : PcieCfg) (s : State) : Host.Outcome State Fault Refusal :=
  .next (s.onMain fun s => State.configure { s with pcie := { s.pcie with d3hot := false } } cfg)

end Sys2Proof.Machine
end

