-- ==== Sys2Proof/Machine/SlowPath.lean ====
section
/-! DEFINITION. Firmware's slow path (R265): answers to ARP, neighbour solicitation and echo, everything else to the host slow
ring. The layouts of ARP, ICMP, ICMPv6 and neighbour discovery are those of their standards (PRESUMED, log 47). -/

namespace Sys2Proof.Machine

/-- What firmware answers to a frame: destination MAC, EtherType and the bytes after it; `echo` says an echo request. -/
structure FwAnswer where
  echo : Bool
  dst : Nat
  etype : Nat
  /-- Protocol 0 for ARP; else the source and destination addresses and the body of the answering packet. -/
  proto : Nat
  src : List Byte
  to_ : List Byte
  body : List Byte
  deriving DecidableEq, Repr

/-- The bytes with a checksum put in at an offset. -/
def withChecksum (bs : List Byte) (off sum : Nat) : List Byte :=
  List.flatten [bs.take off, beBytes 2 sum, bs.drop (off + 2)]

/-- An ICMP message whose first byte is `type` and whose checksum is made anew; `pre` is the pseudo-header. -/
def icmpWith (pre : List Byte) (type : Nat) (rest : List Byte) : List Byte :=
  let b := List.flatten [beBytes 1 type, [0, 0, 0], rest]
  withChecksum b 2 (checksum (pre ++ b))

def pseudo6 (src dst : List Byte) (len : Nat) : List Byte := List.flatten [src, dst, beBytes 4 len, [0, 0, 0, 58]]

/-- An ARP request for the lane's LOCAL_IP is answered with LANE_MAC. -/
def State.arpAnswer (s : State) (n : Nat) (f : List Byte) (c : Chain) : Option FwAnswer :=
  let b := f.drop c.bodyAt
  let ip := (ipBytes (s.localIp n)).take 4
  if c.etype = 0x0806 ∧ slice b 0 8 = [0, 1, 8, 0, 6, 4, 0, 1] ∧ slice b 24 4 = ip then
    some ⟨false, beAt b 8 6, 0x0806, 0, [], [],
      List.flatten [[0, 1, 8, 0, 6, 4, 0, 2], beBytes 6 (s.rdW (F.LANE_MAC n)), ip, slice b 8 6, slice b 14 4]⟩
  else none

/-- The solicited-node address of an IPv6 address. -/
def solicitedNode (ip : List Byte) : List Byte :=
  List.flatten [[0xFF, 2, 0, 0, 0, 0, 0, 0, 0, 0, 0, 1, 0xFF], ip.drop 13]

/-- A neighbour solicitation for LOCAL_IP is answered with an advertisement. -/
def State.ndAnswer (s : State) (n : Nat) (f : List Byte) (c : Chain) : Option FwAnswer :=
  let b := slice f c.bodyAt c.bodyLen
  let ip := ipBytes (s.localIp n)
  let src := c.src f
  let allNodes : List Byte := List.flatten [[0xFF, 2], List.replicate 13 0, [1]]
  let unspecified := src.all (· == 0)
  let dst := if unspecified then allNodes else src
  if c.l3 = 2 ∧ c.proto = 58 ∧ beAt b 0 1 = 135 ∧ 24 ≤ b.length ∧ slice b 8 16 = ip ∧ c.upperOk f ∧
      beAt f (c.ipAt + 7) 1 = 255 ∧ (c.dst f = ip ∨ c.dst f = solicitedNode ip) then
    some ⟨false, beAt f 6 6, 0x86DD, 58, ip, dst,
      icmpWith (pseudo6 ip dst 32) 136
        (List.flatten [[if unspecified then 0x20 else 0x60, 0, 0, 0], ip, [2, 1], beBytes 6 (s.rdW (F.LANE_MAC n))])⟩
  else none

/-- An ICMPv4 or ICMPv6 echo request to LOCAL_IP, with ECHO_EN, is answered with its own data. -/
def State.echoAnswer (s : State) (n : Nat) (f : List Byte) (c : Chain) : Option FwAnswer :=
  let b := slice f c.bodyAt c.bodyLen
  let ip := ipBytes (s.localIp n)
  if !s.flag F.PARSER_CFG.ECHO_EN || decide (b.length < 8) then none
  else if c.l3 = 1 ∧ c.proto = 1 ∧ beAt b 0 1 = 8 ∧ checksumOk b ∧ c.dst f = ip.take 4 then
    some ⟨true, beAt f 6 6, 0x0800, 1, ip.take 4, c.src f, icmpWith [] 0 (b.drop 4)⟩
  else if c.l3 = 2 ∧ c.proto = 58 ∧ beAt b 0 1 = 128 ∧ c.upperOk f ∧ c.dst f = ip then
    some ⟨true, beAt f 6 6, 0x86DD, 58, ip, c.src f, icmpWith (pseudo6 ip (c.src f) b.length) 129 (b.drop 4)⟩
  else none

/-- Firmware's answer to a slow-path frame that is no MIRROR copy and walked to its end. -/
def State.fwAnswer (s : State) (x : SlowFrame) : Option FwAnswer :=
  let f := x.frame.bytes
  if x.cause = 1 then none
  else
    match s.walk f with
    | .ok c =>
      match s.arpAnswer x.frame.lane f c with
      | some a => some a
      | none =>
        match s.ndAnswer x.frame.lane f c with
        | some a => some a
        | none => s.echoAnswer x.frame.lane f c
    | .error _ => none

/-- Echo answers of the lane in the present second of network time. -/
def State.echoCount (s : State) (n : Nat) : Nat :=
  match s.parser.echoes.lookup n with
  | some (sec, k) => if sec = s.time.sec then k else 0
  | none => 0

def State.noteEchoAnswer (s : State) (n : Nat) : State :=
  { s with parser := { s.parser with
      echoes := (n, s.time.sec, s.echoCount n + 1) :: s.parser.echoes.filter fun e => decide (e.1 ≠ n) } }

def State.sendAnswer (s : State) (n : Nat) (a : FwAnswer) : State :=
  if a.proto = 0 then s.sendEthernet n a.dst a.etype a.body
  else
    let r := if a.etype = 0x0800 then s.ipv4 a.proto a.src a.to_ a.body
      else s.ipv6 a.proto (if a.echo then none else some 255) a.src a.to_ a.body
    r.2.sendEthernet n a.dst a.etype r.1

/-- Firmware takes a frame of its internal ring (R265); an echo request beyond 1,000 in a second goes to the host (log 47). -/
def State.serveSlow (s : State) (x : SlowFrame) : State :=
  let n := x.frame.lane
  match s.fwAnswer x with
  | some a =>
    if a.echo ∧ 1000 ≤ s.echoCount n then s.toRing 0 x
    else
      let s1 := if a.echo then s.noteEchoAnswer n else s
      (s1.bump F.FW_ANSWERED_CNT).sendAnswer n a
  | none => s.toRing 0 x

def State.slowPath (s : State) : State :=
  match s.parser.slow with
  | [] => s
  | x :: rest =>
    let s1 : State := { s with parser := { s.parser with slow := rest } }
    s1.serveSlow x

def execSlowPathFrame (s : State) : Host.Outcome State Fault Refusal := .next (s.onMain State.slowPath)

end Sys2Proof.Machine
end

