-- ==== Sys2Proof/Machine/Dispatch.lean ====
section
/-! DEFINITION. The meaning of each command: one arm per constructor, each one call of its meaning. -/

namespace Sys2Proof.Machine

def exec (i : Instr) (s : State) : Host.Outcome State Fault Refusal :=
  match i with
  | .alwaysOnPowerUp unit => Sys2Proof.Machine.execAlwaysOnPowerUp unit s
  | .vinLoss => Sys2Proof.Machine.execVinLoss s
  | .enAssert => Sys2Proof.Machine.execEnAssert s
  | .enDeassert => Sys2Proof.Machine.execEnDeassert s
  | .enGlitch => Sys2Proof.Machine.execEnGlitch s
  | .pgoodAssert => Sys2Proof.Machine.execPgoodAssert s
  | .pgoodDeassert => Sys2Proof.Machine.execPgoodDeassert s
  | .mainResetRelease env => Sys2Proof.Machine.execMainResetRelease env s
  | .coldRstRelease lowNs env => Sys2Proof.Machine.execColdRstRelease lowNs env s
  | .warmRstAssert lowNs => Sys2Proof.Machine.execWarmRstAssert lowNs s
  | .startCmdCold m env => Sys2Proof.Machine.execStartCmdCold m env s
  | .startCmdWarm m => Sys2Proof.Machine.execStartCmdWarm m s
  | .startCmdServe m => Sys2Proof.Machine.execStartCmdServe m s
  | .startCmdAbort m => Sys2Proof.Machine.execStartCmdAbort m s
  | .warmStart env => Sys2Proof.Machine.execWarmStart env s
  | .warmResume => Sys2Proof.Machine.execWarmResume s
  | .serviceStart => Sys2Proof.Machine.execServiceStart s
  | .mainRailFault => Sys2Proof.Machine.execMainRailFault s
  | .driveRailGood d => Sys2Proof.Machine.execDriveRailGood d s
  | .driveRailFail d => Sys2Proof.Machine.execDriveRailFail d s
  | .refclkCoreLoss => Sys2Proof.Machine.execRefclkCoreLoss s
  | .timeTick => Sys2Proof.Machine.execTimeTick s
  | .timeIncLoWrite m w => Sys2Proof.Machine.execTimeIncLoWrite m w s
  | .timeIncHiWrite m w => Sys2Proof.Machine.execTimeIncHiWrite m w s
  | .adjNsWrite m w => Sys2Proof.Machine.execAdjNsWrite m w s
  | .stepCmd m rel => Sys2Proof.Machine.execStepCmd m rel s
  | .timeNsRead m => Sys2Proof.Machine.execTimeNsRead m s
  | .ppsInEdge => Sys2Proof.Machine.execPpsInEdge s
  | .ppsInNsRead m => Sys2Proof.Machine.execPpsInNsRead m s
  | .ppsMiss => Sys2Proof.Machine.execPpsMiss s
  | .ppsOutRise => Sys2Proof.Machine.execPpsOutRise s
  | .ppsOutFall => Sys2Proof.Machine.execPpsOutFall s
  | .tpulseArm m n => Sys2Proof.Machine.execTpulseArm m n s
  | .tpulseDisarm m n => Sys2Proof.Machine.execTpulseDisarm m n s
  | .tpulseFire n => Sys2Proof.Machine.execTpulseFire n s
  | .tpulseEnd n => Sys2Proof.Machine.execTpulseEnd n s
  | .ptpTxEntry => Sys2Proof.Machine.execPtpTxEntry s
  | .txtsPop m => Sys2Proof.Machine.execTxtsPop m s
  | .frameBoundary => Sys2Proof.Machine.execFrameBoundary s
  | .loaderIssue => Sys2Proof.Machine.execLoaderIssue s
  | .slotBoundary => Sys2Proof.Machine.execSlotBoundary s
  | .planeStrobe t cyc => Sys2Proof.Machine.execPlaneStrobe t cyc s
  | .groupStrobe g t => Sys2Proof.Machine.execGroupStrobe g t s
  | .rangeHoldRelease t ch heater => Sys2Proof.Machine.execRangeHoldRelease t ch heater s
  | .protectionStrobe => Sys2Proof.Machine.execProtectionStrobe s
  | .commitDeadline written => Sys2Proof.Machine.execCommitDeadline written s
  | .compositionCommit => Sys2Proof.Machine.execCompositionCommit s
  | .compCtrlAbort m written => Sys2Proof.Machine.execCompCtrlAbort m written s
  | .standingCommit => Sys2Proof.Machine.execStandingCommit s
  | .altCmdArm m n => Sys2Proof.Machine.execAltCmdArm m n s
  | .altCmdDisarm m n => Sys2Proof.Machine.execAltCmdDisarm m n s
  | .switchCmd m n => Sys2Proof.Machine.execSwitchCmd m n s
  | .switchTake => Sys2Proof.Machine.execSwitchTake s
  | .accordRecordWrite m r w v => Sys2Proof.Machine.execAccordRecordWrite m r w v s
  | .drvEnableWrite m t w => Sys2Proof.Machine.execDrvEnableWrite m t w s
  | .sealSelAll m t => Sys2Proof.Machine.execSealSelAll m t s
  | .sealLadderAll m t => Sys2Proof.Machine.execSealLadderAll m t s
  | .sealHtrAll m t => Sys2Proof.Machine.execSealHtrAll m t s
  | .sealShutAll m t => Sys2Proof.Machine.execSealShutAll m t s
  | .pockSealL0 m t ch => Sys2Proof.Machine.execPockSealL0 m t ch s
  | .pockSealL1 m t ch => Sys2Proof.Machine.execPockSealL1 m t ch s
  | .pockSealSel m t ch => Sys2Proof.Machine.execPockSealSel m t ch s
  | .htrSeal m t ch => Sys2Proof.Machine.execHtrSeal m t ch s
  | .shutSeal m t => Sys2Proof.Machine.execShutSeal m t s
  | .pockShadowWrite m t ch k w => Sys2Proof.Machine.execPockShadowWrite m t ch k w s
  | .pockSelShdWrite m t ch w => Sys2Proof.Machine.execPockSelShdWrite m t ch w s
  | .htrShdWrite m t ch w => Sys2Proof.Machine.execHtrShdWrite m t ch w s
  | .shutShdWrite m t h w => Sys2Proof.Machine.execShutShdWrite m t h w s
  | .strbCmdPlane m => Sys2Proof.Machine.execStrbCmdPlane m s
  | .strbCmdGrp m g => Sys2Proof.Machine.execStrbCmdGrp m g s
  | .tileScanStart t => Sys2Proof.Machine.execTileScanStart t s
  | .tileConversion t k a b => Sys2Proof.Machine.execTileConversion t k a b s
  | .tileFrameTx t => Sys2Proof.Machine.execTileFrameTx t s
  | .htrOpen t ch on => Sys2Proof.Machine.execHtrOpen t ch on s
  | .htrCompliance t ch on => Sys2Proof.Machine.execHtrCompliance t ch on s
  | .shutCurrent t ch microamps ns => Sys2Proof.Machine.execShutCurrent t ch microamps ns s
  | .tiaRangeWrite m t n w => Sys2Proof.Machine.execTiaRangeWrite m t n w s
  | .scanCfgWrite m t w => Sys2Proof.Machine.execScanCfgWrite m t w s
  | .focusStart m t w => Sys2Proof.Machine.execFocusStart m t w s
  | .focusEnd t => Sys2Proof.Machine.execFocusEnd t s
  | .diagCmdGo m t w => Sys2Proof.Machine.execDiagCmdGo m t w s
  | .fastCfgWrite m t w => Sys2Proof.Machine.execFastCfgWrite m t w s
  | .tileLinkTrained t => Sys2Proof.Machine.execTileLinkTrained t s
  | .tileLinkLoss t => Sys2Proof.Machine.execTileLinkLoss t s
  | .tileCodeTransaction t crcOk => Sys2Proof.Machine.execTileCodeTransaction t crcOk s
  | .tileSelectTransaction t crcOk => Sys2Proof.Machine.execTileSelectTransaction t crcOk s
  | .tileShutterTransaction t crcOk => Sys2Proof.Machine.execTileShutterTransaction t crcOk s
  | .tileRegTransaction m a write crcOk => Sys2Proof.Machine.execTileRegTransaction m a write crcOk s
  | .loopRecord t k late depth => Sys2Proof.Machine.execLoopRecord t k late depth s
  | .tileFrameChecked t crcOk => Sys2Proof.Machine.execTileFrameChecked t crcOk s
  | .probeEstUpdate => Sys2Proof.Machine.execProbeEstUpdate s
  | .loopTargetWrite m l target => Sys2Proof.Machine.execLoopTargetWrite m l target s
  | .loopHoldWrite m scope on => Sys2Proof.Machine.execLoopHoldWrite m scope on s
  | .hEvtClear m l => Sys2Proof.Machine.execHEvtClear m l s
  | .transferOutOfAuto l => Sys2Proof.Machine.execTransferOutOfAuto l s
  | .transferIntoAuto l => Sys2Proof.Machine.execTransferIntoAuto l s
  | .repReset m l bits => Sys2Proof.Machine.execRepReset m l bits s
  | .repFreezeWrite m scope on => Sys2Proof.Machine.execRepFreezeWrite m scope on s
  | .loopParamWrite m l n w => Sys2Proof.Machine.execLoopParamWrite m l n w s
  | .loopStateWrite m l k w => Sys2Proof.Machine.execLoopStateWrite m l k w s
  | .repetitiveWrite m l st n w => Sys2Proof.Machine.execRepetitiveWrite m l st n w s
  | .laneFrameRx n ago bad bytes => Sys2Proof.Machine.execLaneFrameRx n ago bad bytes s
  | .recircPass => Sys2Proof.Machine.execRecircPass s
  | .slowPathFrame => Sys2Proof.Machine.execSlowPathFrame s
  | .ruleCmdRead m => Sys2Proof.Machine.execRuleCmdRead m s
  | .ruleCmdWrite m => Sys2Proof.Machine.execRuleCmdWrite m s
  | .swapCmd m atFrame => Sys2Proof.Machine.execSwapCmd m atFrame s
  | .oldBusyClear => Sys2Proof.Machine.execOldBusyClear s
  | .pcsLock n => Sys2Proof.Machine.execPcsLock n s
  | .pcsLoss n => Sys2Proof.Machine.execPcsLoss n s
  | .keepaliveExpiry n => Sys2Proof.Machine.execKeepaliveExpiry n s
  | .peerSilenceExpiry n => Sys2Proof.Machine.execPeerSilenceExpiry n s
  | .hello n h p => Sys2Proof.Machine.execHello n h p s
  | .demand n h p => Sys2Proof.Machine.execDemand n h p s
  | .setup n h p => Sys2Proof.Machine.execSetup n h p s
  | .release n h p => Sys2Proof.Machine.execRelease n h p s
  | .status n h p => Sys2Proof.Machine.execStatus n h p s
  | .echo n h p => Sys2Proof.Machine.execEcho n h p s
  | .relay n h p => Sys2Proof.Machine.execRelay n h p s
  | .messageTransmit n ns => Sys2Proof.Machine.execMessageTransmit n ns s
  | .echoCmd m n => Sys2Proof.Machine.execEchoCmd m n s
  | .echoTimeout n => Sys2Proof.Machine.execEchoTimeout n s
  | .ctxSelWrite m n => Sys2Proof.Machine.execCtxSelWrite m n s
  | .tierEchoTimer n => Sys2Proof.Machine.execTierEchoTimer n s
  | .tierHello n h p => Sys2Proof.Machine.execTierHello n h p s
  | .accord n h p => Sys2Proof.Machine.execAccord n h p s
  | .frameEnd n h p => Sys2Proof.Machine.execFrameEnd n h p s
  | .standing n h p => Sys2Proof.Machine.execStanding n h p s
  | .switch n h p => Sys2Proof.Machine.execSwitch n h p s
  | .resync n h p => Sys2Proof.Machine.execResync n h p s
  | .checkpoint n h p => Sys2Proof.Machine.execCheckpoint n h p s
  | .catchupCompose => Sys2Proof.Machine.execCatchupCompose s
  | .followCommit => Sys2Proof.Machine.execFollowCommit s
  | .workerStandingApply => Sys2Proof.Machine.execWorkerStandingApply s
  | .twinCmdLead m => Sys2Proof.Machine.execTwinCmdLead m s
  | .twinCmdResync m => Sys2Proof.Machine.execTwinCmdResync m s
  | .twinCmdWithdraw m => Sys2Proof.Machine.execTwinCmdWithdraw m s
  | .claimWrite m w => Sys2Proof.Machine.execClaimWrite m w s
  | .calPeriodExpiry t => Sys2Proof.Machine.execCalPeriodExpiry t s
  | .calStart t => Sys2Proof.Machine.execCalStart t s
  | .calMeasurementEnd t r => Sys2Proof.Machine.execCalMeasurementEnd t r s
  | .calTrimApply t => Sys2Proof.Machine.execCalTrimApply t s
  | .calLate t => Sys2Proof.Machine.execCalLate t s
  | .calCmdGo m t all => Sys2Proof.Machine.execCalCmdGo m t all s
  | .calCmdFull m t => Sys2Proof.Machine.execCalCmdFull m t s
  | .calCmdLoad m t all => Sys2Proof.Machine.execCalCmdLoad m t all s
  | .calCmdAbort m t => Sys2Proof.Machine.execCalCmdAbort m t s
  | .calMirrorWrite m t k w => Sys2Proof.Machine.execCalMirrorWrite m t k w s
  | .silCalGo m => Sys2Proof.Machine.execSilCalGo m s
  | .replanTimer => Sys2Proof.Machine.execReplanTimer s
  | .replanCmdNow m => Sys2Proof.Machine.execReplanCmdNow m s
  | .replanCmdAbort m => Sys2Proof.Machine.execReplanCmdAbort m s
  | .replanWindowEnd obs => Sys2Proof.Machine.execReplanWindowEnd obs s
  | .sensorConversion readings => Sys2Proof.Machine.execSensorConversion readings s
  | .riseEvaluation => Sys2Proof.Machine.execRiseEvaluation s
  | .tripRecordCommit error => Sys2Proof.Machine.execTripRecordCommit error s
  | .thermtripRelease => Sys2Proof.Machine.execThermtripRelease s
  | .tripRdCmd m slot => Sys2Proof.Machine.execTripRdCmd m slot s
  | .ringCmdErase m => Sys2Proof.Machine.execRingCmdErase m s
  | .telemetryUpdate vin iin pin ps => Sys2Proof.Machine.execTelemetryUpdate vin iin pin ps s
  | .clearFaults pec => Sys2Proof.Machine.execClearFaults pec s
  | .capability => Sys2Proof.Machine.execCapability s
  | .statusByte => Sys2Proof.Machine.execStatusByte s
  | .statusWord => Sys2Proof.Machine.execStatusWord s
  | .statusInput => Sys2Proof.Machine.execStatusInput s
  | .statusTemperature => Sys2Proof.Machine.execStatusTemperature s
  | .statusCml => Sys2Proof.Machine.execStatusCml s
  | .readVin => Sys2Proof.Machine.execReadVin s
  | .readIin => Sys2Proof.Machine.execReadIin s
  | .readTemperature1 => Sys2Proof.Machine.execReadTemperature1 s
  | .readTemperature2 => Sys2Proof.Machine.execReadTemperature2 s
  | .readTemperature3 => Sys2Proof.Machine.execReadTemperature3 s
  | .readPin => Sys2Proof.Machine.execReadPin s
  | .pmbusRevision => Sys2Proof.Machine.execPmbusRevision s
  | .mfrId => Sys2Proof.Machine.execMfrId s
  | .mfrModel => Sys2Proof.Machine.execMfrModel s
  | .pmbusInvalidCommand read pec => Sys2Proof.Machine.execPmbusInvalidCommand read pec s
  | .winAddr bytes pec => Sys2Proof.Machine.execWinAddr bytes pec s
  | .winWrite bytes pec => Sys2Proof.Machine.execWinWrite bytes pec s
  | .winRead => Sys2Proof.Machine.execWinRead s
  | .winStatus => Sys2Proof.Machine.execWinStatus s
  | .winCount set pec => Sys2Proof.Machine.execWinCount set pec s
  | .winReread => Sys2Proof.Machine.execWinReread s
  | .sbTimeout orphan => Sys2Proof.Machine.execSbTimeout orphan s
  | .alertResponse => Sys2Proof.Machine.execAlertResponse s
  | .bar0Request cfg r => Sys2Proof.Machine.execBar0Request cfg r s
  | .bar2Request cfg r => Sys2Proof.Machine.execBar2Request cfg r s
  | .unsupportedRequest => Sys2Proof.Machine.execUnsupportedRequest s
  | .poisonedWrite => Sys2Proof.Machine.execPoisonedWrite s
  | .hostSideReset flr orphan => Sys2Proof.Machine.execHostSideReset flr orphan s
  | .d3hotEntry => Sys2Proof.Machine.execD3hotEntry s
  | .d0Entry cfg => Sys2Proof.Machine.execD0Entry cfg s
  | .vecRearm m n w => Sys2Proof.Machine.execVecRearm m n w s
  | .semTake m b => Sys2Proof.Machine.execSemTake m b s
  | .semGive m b => Sys2Proof.Machine.execSemGive m b s
  | .semForce m b => Sys2Proof.Machine.execSemForce m b s
  | .fuseArm m target => Sys2Proof.Machine.execFuseArm m target s
  | .fuseArmExpiry => Sys2Proof.Machine.execFuseArmExpiry s
  | .fuseCommit m target => Sys2Proof.Machine.execFuseCommit m target s
  | .fuseProgramDone copyA copyB orphan => Sys2Proof.Machine.execFuseProgramDone copyA copyB orphan s
  | .fuseSense sensed => Sys2Proof.Machine.execFuseSense sensed s
  | .fxCrcCheck => Sys2Proof.Machine.execFxCrcCheck s
  | .busRequest reqs => Sys2Proof.Machine.execBusRequest reqs s
  | .remapWrite m on => Sys2Proof.Machine.execRemapWrite m on s
  | .chCtrlStart m n => Sys2Proof.Machine.execChCtrlStart m n s
  | .descriptorFetched n error bytes => Sys2Proof.Machine.execDescriptorFetched n error bytes s
  | .dmaResponse n r => Sys2Proof.Machine.execDmaResponse n r s
  | .chCtrlAbort m n => Sys2Proof.Machine.execChCtrlAbort m n s
  | .completionTimeout n offset => Sys2Proof.Machine.execCompletionTimeout n offset s
  | .producerEvent code => Sys2Proof.Machine.execProducerEvent code s
  | .taskInputActivation t n => Sys2Proof.Machine.execTaskInputActivation t n s
  | .evtOutPulseEnd k => Sys2Proof.Machine.execEvtOutPulseEnd k s
  | .evtInEdge k => Sys2Proof.Machine.execEvtInEdge k s
  | .mortarCfgWrite m a w => Sys2Proof.Machine.execMortarCfgWrite m a w s
  | .injectSource m block bits => Sys2Proof.Machine.execInjectSource m block bits s
  | .faultEnSevWrite m block sev w => Sys2Proof.Machine.execFaultEnSevWrite m block sev w s
  | .silCtrlWrite m w => Sys2Proof.Machine.execSilCtrlWrite m w s
  | .silArm m => Sys2Proof.Machine.execSilArm m s
  | .silStop m => Sys2Proof.Machine.execSilStop m s
  | .trigCmdFire m => Sys2Proof.Machine.execTrigCmdFire m s
  | .sillageTimeTrigger => Sys2Proof.Machine.execSillageTimeTrigger s
  | .sillageBlockWrite x ago trigAt bus => Sys2Proof.Machine.execSillageBlockWrite x ago trigAt bus s
  | .sillageHoldoffEnd => Sys2Proof.Machine.execSillageHoldoffEnd s
  | .ringRdWrite m r w => Sys2Proof.Machine.execRingRdWrite m r w s
  | .ringEnableWrite m r x w => Sys2Proof.Machine.execRingEnableWrite m r x w s
  | .wideLoRead m a => Sys2Proof.Machine.execWideLoRead m a s
  | .wideLoWrite m a w => Sys2Proof.Machine.execWideLoWrite m a w s
  | .wideHiWrite m a w => Sys2Proof.Machine.execWideHiWrite m a w s
  | .rcRead m a => Sys2Proof.Machine.execRcRead m a s
  | .registerWrite m a w => Sys2Proof.Machine.execRegisterWrite m a w s
  | .refclkCoreReturn => Sys2Proof.Machine.execRefclkCoreReturn s
  | .tripRingEraseDone error => Sys2Proof.Machine.execTripRingEraseDone error s
  | .fullCalDone t r => Sys2Proof.Machine.execFullCalDone t r s
  | .silCalDone coef => Sys2Proof.Machine.execSilCalDone coef s

end Sys2Proof.Machine
end

