-- ==== Sys2Proof/Safety.lean ====
section
/-! DEFINITION. What statements about the machine are said in: the canonical form of its sparse contents. -/

namespace Sys2Proof.Machine

/-- BAR2 memory is in its one canonical form: addresses strictly rising, no entry equal to what an unlisted address reads as. -/
abbrev Memory.wf (m : List Host.Cell) : Prop := SparseWf memDefault m

/-- The register words are in theirs. -/
abbrev Registers.wf (r : List (Nat × Word)) : Prop := SparseWf coldWord r

/-- The canonical form of a state: equal contents are equal data. -/
def Canonical (s : State) : Prop := Registers.wf s.regs ∧ Memory.wf s.mem

/-- The 48-bit counter `w` has counted one more, or stands at all ones. -/
def Counted (w : Wide) (s t : State) : Prop := t.rdW w = min counterMax (s.rdW w + 1)

/-- The SMBus read `c` answers a next state: with VIN in range it counts its transaction and returns exactly the bytes `f` names, and
where that does not bring the counter to all ones it changes nothing else; without VIN nothing answers and nothing changes. -/
def SmbusReadAnswers (c : Instr) (f : State → List Byte) : Prop :=
  ∀ s : State, (s.power.vin = false → exec c s = .next s) ∧ (s.power.vin = true →
    ∃ t, exec c s = .next t ∧ .smbus (f s) ∈ t.outbox ∧ Counted F.TRANSACTIONS s t ∧
      (s.rdW F.TRANSACTIONS + 1 < counterMax →
        t.outbox = s.outbox ++ [.smbus (f s)] ∧
        (∀ a, a ≠ F.TRANSACTIONS.addr → a ≠ F.TRANSACTIONS.addr + 4 → t.word a = s.word a) ∧
        t = { s with regs := t.regs, outbox := t.outbox }))

/-- A message with header `h` reaches the UP lane `n` in order, with its CRC right and within its credit (R225, R228, R231). -/
def InOrder (s : State) (n : Nat) (h : KHeader) : Prop :=
  s.power.mainUp = true ∧ s.rd (F.LANE_STATUS.STATE n) = 2 ∧ h.crcOk = true ∧
    newer h.seq (s.rd (F.RX_SEQ.SEQ n)) = true ∧ s.creditLeft n = true

/-! ## Which commands reach which state -/

/-- Commands that carry a register write of any address, or that reset the main side: these may reach any state. -/
def reachesAll : Instr → Bool
  | .enDeassert | .vinLoss | .mainResetRelease .. | .coldRstRelease .. | .startCmdCold .. | .mainRailFault
  | .tileRegTransaction .. | .winWrite .. | .bar0Request .. | .hostSideReset .. | .busRequest .. | .remapWrite ..
  | .chCtrlStart .. | .chCtrlAbort .. | .completionTimeout .. | .dmaResponse .. | .wideLoWrite .. | .wideHiWrite ..
  | .registerWrite .. => true
  | _ => false

/-- Other commands that may store to BAR2 memory: host writes, ring entries and blocks, and the ageing records. -/
def storesMemory : Instr → Bool
  | .startCmdAbort .. | .timeTick | .laneFrameRx .. | .recircPass | .slowPathFrame | .replanWindowEnd ..
  | .bar2Request .. | .sillageBlockWrite .. => true
  | _ => false

/-- Other commands that switch supplies, rails, pins or the reference. -/
def switchesPower : Instr → Bool
  | .alwaysOnPowerUp .. | .enAssert | .pgoodAssert | .pgoodDeassert | .driveRailGood .. | .driveRailFail ..
  | .refclkCoreLoss | .refclkCoreReturn => true
  | _ => false

/-- Other commands that change what the fuse unit holds. -/
def handlesFuses : Instr → Bool
  | .alwaysOnPowerUp .. | .warmStart .. | .fuseArm .. | .fuseArmExpiry | .fuseCommit .. | .fuseProgramDone .. | .fuseSense .. =>
    true
  | _ => false

/-- Other commands of thermal supervision, telemetry and the trip ring. -/
def supervisesHeat : Instr → Bool
  | .alwaysOnPowerUp .. | .sensorConversion .. | .riseEvaluation | .tripRecordCommit .. | .thermtripRelease | .ringCmdErase ..
  | .telemetryUpdate .. | .tripRingEraseDone .. => true
  | _ => false

/-- Other commands that change the PCIe function's configuration. -/
def configuresPcie : Instr → Bool
  | .bar2Request .. | .unsupportedRequest .. | .poisonedWrite .. | .d3hotEntry | .d0Entry .. => true
  | _ => false

/-- Other commands that change a DMA channel in progress. -/
def drivesDma : Instr → Bool
  | .warmStart .. | .descriptorFetched .. => true
  | _ => false

/-- Other commands that change a re-plan pass. -/
def drivesReplan : Instr → Bool
  | .warmStart .. | .probeEstUpdate | .replanTimer | .replanCmdNow .. | .replanCmdAbort .. | .replanWindowEnd .. => true
  | _ => false

/-- The fuse group `b` holds in `t` what it holds in `s`, copy by copy. -/
def sameFuse (s t : State) (b : Fin 3) : Prop := t.fuses.at_ b = s.fuses.at_ b

end Sys2Proof.Machine
end

