-- ==== Sys2Proof/Certificates/Slice0/Obligations.lean ====
section
/-! DEFINITION. The statements for the provers. Each formalises rules of spec/; OBLIGATIONS.json names them. A completion
statement's hypotheses speak of the state and the operands alone, and its conclusion is that the command answers a next state,
and which. -/

open Sys2Proof Sys2Proof.Machine


/-! ## The block: its queue, its reset, its memories -/

/-- The queue of commands: one step runs exactly the front command, on the state with the queue's rest. -/
def Obligations.StepRunsFrontCommand : Prop :=
  ∀ (c : Instr) (rest : List Instr) (s : State), step { s with pending := c :: rest } = exec c { s with pending := rest }

/-- The state right after the always-on domain has left reset: STATE is OFF, PGOOD is low, the main and drive rails are off,
no SEAL latch is set, no fault source has REAL or INJ set, no vector is pending. That VIN is in range, EN low and REFCLK_CORE
present there is the model's choice (log 2). Registers and BAR2 memory hold their canonical form right after reset. -/
def Obligations.ResetIsOffQuietAndCanonical : Prop :=
  (State.reset.start = 0 ∧ State.reset.power.pgood = false ∧ State.reset.power.rails = false ∧
    State.reset.power.drive = 0 ∧ State.reset.power.mainUp = false ∧ State.reset.seals = [] ∧ State.reset.faultPin = false ∧
    (∀ b ∈ FB.all, ∀ src ∈ b.all, State.reset.flag src.real = false ∧ State.reset.flag src.inj = false) ∧
    ∀ v, v < 222 → State.reset.flag (vecPending v) = false) ∧
  (Canonical State.reset)

/-- Every command leaves registers and BAR2 memory in canonical form (keys strictly rising, no entry equal to what an
unlisted address reads as), from every state that has it. -/
def Obligations.EveryStepKeepsCanonicalForm : Prop :=
  ∀ s t : State, Canonical s → step s = .next t → Canonical t

/-- A step takes exactly one command off the queue's front and adds none; what has crossed the boundary is never taken back;
time and the count of free values never run backwards. The queue, the outbox and the counts are the model's own fields. -/
def Obligations.EveryStepIsFifoAndMonotone : Prop :=
  ∀ s t : State, step s = .next t →
    t.pending = s.pending.tail ∧ s.outbox <+: t.outbox ∧ s.clock ≤ t.clock ∧ s.free ≤ t.free

/-- Frames of the whole machine. Fuses are programmed by FUSE_PROGRAM_DONE alone, and a group's second copy is completed at
power-up alone. Outside the commands that carry a write of any register or reset the main side, BAR2 memory, the supplies,
the fuse unit, thermal supervision, the PCIe function, the DMA channels and the re-plan each change by their own commands
only, and arbitration credits and owners in force by none. -/
def Obligations.StateChangesOnlyByItsCommands : Prop :=
  (∀ (c : Instr) (s t : State) (b : Fin 3), exec c s = .next t → (∀ x y o, c ≠ .fuseProgramDone x y o) →
    (∀ u, c ≠ .alwaysOnPowerUp u) → sameFuse s t b ∧ t.fuses.keyValue = s.fuses.keyValue) ∧
  ∀ (c : Instr) (s t : State), exec c s = .next t → reachesAll c = false →
    (storesMemory c = false → ∀ a, t.memByte a = s.memByte a) ∧
    (switchesPower c = false → t.power = s.power) ∧
    (handlesFuses c = false → t.fuses = s.fuses) ∧
    (supervisesHeat c = false → t.therm = s.therm) ∧
    (configuresPcie c = false → t.pcie = s.pcie) ∧
    (drivesDma c = false → t.dma = s.dma) ∧
    (drivesReplan c = false → t.replan = s.replan) ∧
    t.credits = s.credits ∧ t.ownersLoaded = s.ownersLoaded

/-- BAR2 memory: after a run of bytes is written, each of them reads as written and every other byte as before; no register
changes. Multi-byte values lie little-endian: the value of the bytes written for `v` is `v`. A register field: what is put
into it is what it reads, at every place and width inside a word; a field of another word, and a field of the same word that
shares no bit with it, read as before. -/
def Obligations.StorageReadsWhatWasWritten : Prop :=
  ((∀ (s : State) (a : Nat) (bs : List Byte), (s.setMemBytes a bs).memBytes a bs.length = bs) ∧
    (∀ (s : State) (a x : Nat) (bs : List Byte), (x < a ∨ a + bs.length ≤ x) → (s.setMemBytes a bs).memByte x = s.memByte x) ∧
    (∀ (s : State) (a x : Nat) (bs : List Byte), (s.setMemBytes a bs).word x = s.word x) ∧
    ∀ n v, v < 256 ^ n → leNat (leBytes n v) = v) ∧
  ((∀ (s : State) (f : Field) (v : Nat), f.lsb + f.width ≤ 32 → v < 2 ^ f.width → (s.wr f v).rd f = v) ∧
    ∀ (s : State) (f g : Field) (v : Nat), f.lsb + f.width ≤ 32 → g.lsb + g.width ≤ 32 →
      (f.addr ≠ g.addr ∨ f.lsb + f.width ≤ g.lsb ∨ g.lsb + g.width ≤ f.lsb) → (s.wr f v).rd g = s.rd g)

/-- Counters and numbers. A 48-bit statistics counter counts up to all ones and stays there; reaching all ones raises the
SATURATED source of its block, once. Sequence numbers of 32 bits compare by serial-number arithmetic, and of two that differ
by exactly 2^31 neither is newer. Frame numbers never wrap: a later frame always begins later. -/
def Obligations.CountersSaturateAndNumbersCompare : Prop :=
  (∀ (s : State) (w : Wide) (n : Nat), w.width = 48 → s.rdW w ≤ counterMax →
    (s.addCounter w n).rdW w = min counterMax (s.rdW w + n) ∧
    (s.rdW w = counterMax → s.saturates w n = [] ∧ s.bumpBy w n = s.addCounter w n) ∧
    (s.rdW w < counterMax → counterMax ≤ s.rdW w + n → s.saturates w n = [saturatedSource w.addr])) ∧
  (∀ a b : Nat, a < 2 ^ 32 → b < 2 ^ 32 →
    (newer a b = true ↔ (b < a ∧ a - b < 2 ^ 31) ∨ (a < b ∧ 2 ^ 31 < b - a)) ∧
      (a = b + 2 ^ 31 → newer a b = false ∧ newer b a = false)) ∧
  ∀ (s : State) (f g : Nat), s.frameNs ≠ 0 → f < g → s.frameStart f < s.frameStart g

/-! ## Fault sources -/

/-- Raising a powered fault source sets its REAL bit and no INJ bit; if the source is enabled and of class SEAL, its SEAL
latch sets; the raise stores nothing in memory and takes no latch away. -/
def Obligations.RaisingASourceSetsRealAndLatches : Prop :=
  ∀ (s : State) (src : Source), src.block ∈ FB.all → src ∈ src.block.all → s.srcPowered src = true →
    (s.raise src).flag src.real = true ∧
    (s.flag src.real = false → s.flag src.en = true → s.severity src = 3 → (s.raise src).sealed src = true) ∧
    (∀ a, (s.raise src).memByte a = s.memByte a) ∧
    (∀ x ∈ s.seals, x ∈ (s.raise src).seals) ∧
    ∀ b ∈ FB.all, ∀ o ∈ b.all, (s.raise src).flag o.inj = s.flag o.inj

/-- FAULT# is asserted while a SEAL latch is set, or while an enabled powered source of class ERROR or SEAL has REAL or INJ
set; and only then. A source contributes while its block has power: always-on blocks, and HOSTIF's semaphores and fuses, with
VIN, any other block while the main side is up. -/
def Obligations.FaultPinFollowsClassAndLatch : Prop :=
  (∀ s : State, s.power.vin = true →
    (s.faultPin = true ↔ s.seals ≠ [] ∨ ∃ b ∈ FB.all, ∃ src ∈ b.all,
      s.srcPowered src = true ∧ (s.flag src.real = true ∨ s.flag src.inj = true) ∧ s.flag src.en = true ∧
        2 ≤ s.severity src)) ∧
  ∀ (s : State) (b : FaultBlock) (src : Source), b ∈ FB.all → src ∈ b.all → s.power.vin = true →
    (s.srcPowered src = true ↔ b.alwaysOn = true ∨ s.power.mainUp = true ∨
      (b = FB.HOSTIF ∧ (src.bit = 4 ∨ src.bit = 6 ∨ src.bit = 7 ∨ src.bit = 8)))

/-- A fault write acts at once on every source of its block: EN takes its bit and SEV its class, but a source whose SEAL
latch is set keeps both, and a source fixed at SEAL keeps its class. An INJECT write sets the INJ bit of each source named,
without a SEAL latch. FX_CRC: once latched, a check that finds the fields as they were loaded counts itself and does nothing
else; one that finds them changed raises FORMULA_INTEGRITY. Concludes that these answer a next state: faultEnSevWrite,
injectSource, fxCrcCheck. -/
def Obligations.FaultWritesAndFxCrcCheckTakeEffect : Prop :=
  ((∀ (s : State) (m : Master) (b : Fin 190) (w : Word), s.writeAccess m ((faultBlockAt b).real + 8) = .ok →
    ∃ t, exec (.faultEnSevWrite m b false w) s = .next t ∧
      (∀ src ∈ (faultBlockAt b).all, t.flag src.en = if s.sealed src then s.flag src.en else w.getLsbD src.bit) ∧
      ∀ a, t.memByte a = s.memByte a) ∧
  (∀ (s : State) (m : Master) (b : Fin 190) (w : Word), s.writeAccess m ((faultBlockAt b).real + 12) = .ok →
    ∃ t, exec (.faultEnSevWrite m b true w) s = .next t ∧
      (∀ src ∈ (faultBlockAt b).all, t.rd src.sev =
        if s.sealed src ∨ (faultBlockAt b).sealBit = some src.bit then s.rd src.sev else bitsOf w (2 * src.bit) 2) ∧
      ∀ a, t.memByte a = s.memByte a) ∧
  ∀ (s : State) (m : Master) (b : Fin 190) (w : Word), s.writeAccess m ((faultBlockAt b).real + 16) = .ok →
    s.powered (faultBlockAt b) = true → s.flag F.MORTAR_STATUS.SUSPENDED = false →
    ∃ t, exec (.injectSource m b w) s = .next t ∧
      (∀ src ∈ (faultBlockAt b).all, w.getLsbD src.bit = true → t.flag src.inj = true) ∧
      t.seals = s.seals ∧ ∀ a, t.memByte a = s.memByte a) ∧
  (∀ s : State, s.power.mainUp = true → s.fxLatched = true →
    (s.fxCrc.toNat = s.rd F.FX_CRC.CRC →
      ∃ t, exec .fxCrcCheck s = .next t ∧ Counted F.INTEGRITY_CHECKS s t ∧ t.mem = s.mem ∧
        (s.rdW F.INTEGRITY_CHECKS + 1 < counterMax →
          (∀ a, a ≠ F.INTEGRITY_CHECKS.addr → a ≠ F.INTEGRITY_CHECKS.addr + 4 → t.word a = s.word a) ∧
          t = { s with regs := t.regs })) ∧
    (s.power.vin = true → s.fxCrc.toNat ≠ s.rd F.FX_CRC.CRC →
      ∃ t, exec .fxCrcCheck s = .next t ∧ Counted F.INTEGRITY_CHECKS s t ∧
        t.flag Src.FORMULA.FORMULA_INTEGRITY.real = true ∧ t.mem = s.mem))

/-! ## Power (chapters 01, 13, 15) -/

/-- VIN and EN. The always-on domain comes up with every fuse group's two copies alike and the SMBus address set, counts its
uptime from this clock, and starts the rails if EN is high; VIN loss turns every domain off and clears every SEAL latch, and
keeps fuses; EN high with VIN in range starts the rails and counts one more EN_CYCLES, a low period of at least 500 ms before
it has cleared SEAL and a shorter one has not; EN low puts the main side into reset with STATE OFF and keeps every always-on
register and every SEAL latch; a level that stands already, and a low pulse shorter than 1 µs, change nothing. Rails. PGOOD
rises with every rail good and not otherwise, falls, and is all that changes; a main rail outside its window takes every rail
down, puts the main side into reset with STATE OFF, leaves EN, counts one more RAIL_FAULTS and raises RAIL_FAULT; with the
rails off it changes nothing. Concludes that these answer a next state: alwaysOnPowerUp, vinLoss, enAssert, enDeassert,
enGlitch, pgoodAssert, mainRailFault, pgoodDeassert. -/
def Obligations.SupplyAndRailCommandsTakeEffect : Prop :=
  ((∀ (s : State) (u : Fin 32), s.power.vin = false →
    ∃ t, exec (.alwaysOnPowerUp u) s = .next t ∧ t.power.vin = true ∧ t.power.rails = (s.power.en || s.power.rails) ∧
      t.power.upAt = s.clock ∧
      t.rd F.SB_INFO.ADDR = 0x40 + u ∧ t.fuses.debugLock.copyA = t.fuses.debugLock.copyB ∧
      t.fuses.signRequired.copyA = t.fuses.signRequired.copyB ∧ t.fuses.keyHash.copyA = t.fuses.keyHash.copyB ∧
      ∀ a, t.memByte a = s.memByte a) ∧
  (∀ s : State, ∃ t, exec .vinLoss s = .next t ∧ t.power.vin = false ∧ t.power.rails = false ∧ t.power.drive = 0 ∧
      t.power.mainUp = false ∧ t.power.pgood = false ∧ t.seals = [] ∧ t.regs = [] ∧ t.mem = [] ∧
      t.fuses.debugLock = s.fuses.debugLock ∧ t.fuses.signRequired = s.fuses.signRequired ∧
      t.fuses.keyHash = s.fuses.keyHash ∧ t.fuses.keyValue = s.fuses.keyValue) ∧
  (∀ s : State, s.power.en = false → s.power.vin = true →
    ∃ t, exec .enAssert s = .next t ∧ t.power.en = true ∧ t.power.rails = true ∧ t.power.lowSince = none ∧
      Counted F.EN_CYCLES s t ∧
      (∀ u, s.power.lowSince = some u → u + 500000000 ≤ s.clock → s.rdW F.EN_CYCLES + 1 < counterMax → t.seals = []) ∧
      (∀ u, s.power.lowSince = some u → s.clock < u + 500000000 → ∀ x ∈ s.seals, x ∈ t.seals) ∧
      ∀ a, t.memByte a = s.memByte a) ∧
  (∀ s : State, s.power.en = false → s.power.vin = false →
    ∃ t, exec .enAssert s = .next t ∧ t.power = { s.power with en := true, lowSince := none } ∧ t.regs = s.regs ∧
      t.mem = s.mem) ∧
  (∀ (s : State) (u : Fin 32), (s.power.vin = true → exec (.alwaysOnPowerUp u) s = .next s) ∧
    (s.power.en = true → exec .enAssert s = .next s) ∧ (s.power.en = false → exec .enDeassert s = .next s)) ∧
  (∀ s : State, Canonical s → s.power.en = true → s.power.vin = true →
    ∃ t, exec .enDeassert s = .next t ∧ t.power.en = false ∧ t.power.rails = false ∧ t.power.drive = 0 ∧
      t.power.pgood = false ∧ t.power.mainUp = false ∧ t.power.lowSince = some s.clock ∧ t.start = 0 ∧
      t.seals = s.seals ∧ ∀ a, alwaysOnAddr a = true → t.word a = s.word a) ∧
  ∀ s : State, exec .enGlitch s = .next s) ∧
  ((∀ s : State, s.power.rails = true → s.power.drive = 0xF →
    exec .pgoodAssert s = .next { s with power := { s.power with pgood := true } }) ∧
  (∀ s : State, (s.power.rails = false ∨ s.power.drive ≠ 0xF) → exec .pgoodAssert s = .next s) ∧
  (∀ s : State, s.power.rails = false → exec .mainRailFault s = .next s) ∧
  (∀ s : State, exec .pgoodDeassert s = .next { s with power := { s.power with pgood := false } }) ∧
  ∀ s : State, Canonical s → s.power.rails = true → s.power.vin = true →
    ∃ t, exec .mainRailFault s = .next t ∧ t.power.rails = false ∧ t.power.drive = 0 ∧ t.power.pgood = false ∧
      t.power.mainUp = false ∧ t.power.en = s.power.en ∧ t.start = 0 ∧ Counted F.RAIL_FAULTS s t ∧
      t.flag Src.POWER.RAIL_FAULT.real = true ∧ ∀ x ∈ s.seals, x ∈ t.seals)

/-- A SEAL latch clears only at a power cycle: no command takes a latch away but VIN loss, EN's rise after at least 500 ms
low, and the tick at which EN has been low for 500 ms; these clear every latch, and an EN low period that is shorter, at its
end or at any tick of it, leaves every latch set. Concludes that these answer a next state: vinLoss, enAssert, timeTick. -/
def Obligations.SealLatchesClearOnlyAtAPowerCycle : Prop :=
  (∀ (c : Instr) (s t : State), exec c s = .next t → ∀ x ∈ s.seals, x ∈ t.seals ∨ c = .vinLoss ∨
    (c = .enAssert ∧ s.power.en = false ∧ ∃ u, s.power.lowSince = some u ∧ u + 500000000 ≤ s.clock) ∨
    (c = .timeTick ∧ ∃ u, s.power.lowSince = some u ∧ u + 500000000 ≤ s.clock + 4)) ∧
  (∀ s : State, ∃ t, exec .vinLoss s = .next t ∧ t.seals = []) ∧
  (∀ (s : State) (u : Nat), s.power.en = false → s.rdW F.EN_CYCLES + 1 < counterMax → s.power.lowSince = some u →
    u + 500000000 ≤ s.clock → ∃ t, exec .enAssert s = .next t ∧ t.seals = []) ∧
  (∀ (s : State) (u : Nat), s.power.mainUp = false → s.semForced = false → s.power.lowSince = some u →
    u + 500000000 ≤ s.clock + 4 → ∃ t, exec .timeTick s = .next t ∧ t.seals = []) ∧
  ∀ (s : State) (u : Nat), s.power.lowSince = some u →
    (s.power.en = false → s.clock < u + 500000000 → ∃ t, exec .enAssert s = .next t ∧ ∀ x ∈ s.seals, x ∈ t.seals) ∧
    (s.clock + 4 < u + 500000000 → ∃ t, exec .timeTick s = .next t ∧ ∀ x ∈ s.seals, x ∈ t.seals)

/-! ## Time (chapter 11) -/

/-- TIME_INC: the LO word is held for its master and nothing else changes; the HI word commits both halves together when the
value lies within 4.0 ns ± 500 ppm, else the value in force stays and TIME_REFUSED is raised. ADJ_NS puts the whole offset up
for slewing and shows it. REFCLK_CORE: its loss puts the time PLL into holdover and raises REFCLK_LOST; its return clears
HOLDOVER and changes nothing else. Concludes that these answer a next state: timeIncLoWrite, timeIncHiWrite, adjNsWrite,
refclkCoreLoss, refclkCoreReturn. -/
def Obligations.TimeWritesAndReferenceTakeEffect : Prop :=
  ((∀ (s : State) (m : Master) (w : Word), s.writeAccess m F.TIME_INC_LO.INC.addr = .ok →
    ∃ t, exec (.timeIncLoWrite m w) s = .next t ∧ t.heldLo m F.TIME_INC_LO.INC.addr = w ∧ t.regs = s.regs ∧ t.mem = s.mem ∧
      t.outbox = s.outbox ∧ t.time = s.time) ∧
  (∀ (s : State) (m : Master) (w : Word), s.writeAccess m F.TIME_INC_HI.INC.addr = .ok → s.power.vin = true →
    s.power.mainUp = true →
    ∃ t, exec (.timeIncHiWrite m w) s = .next t ∧ t.time = s.time ∧
      (let v := (s.heldLo m F.TIME_INC_LO.INC.addr).toNat + 2 ^ 32 * bitsOf w 0 16
       if 0x03FF7CED9168 ≤ v ∧ v ≤ 0x040083126E98 then t.timeInc = v ∧ t.seals = s.seals
       else t.timeInc = s.timeInc ∧ t.flag Src.TIME.TIME_REFUSED.real = true)) ∧
  ∀ (s : State) (m : Master) (w : Word), s.writeAccess m F.ADJ_NS.ADJ.addr = .ok →
    ∃ t, exec (.adjNsWrite m w) s = .next t ∧ t.time = { s.time with slew := w.toInt * (2 ^ 40 : Nat) } ∧
      t.rdS F.ADJ_NS.ADJ = w.toInt ∧ (t.flag F.TIME_STATUS.SLEWING = true ↔ w ≠ 0) ∧
      (∀ a, a ≠ F.ADJ_NS.ADJ.addr → a ≠ F.TIME_STATUS.SLEWING.addr → t.word a = s.word a) ∧ t.mem = s.mem) ∧
  ((∀ s : State, s.power.mainUp = true → s.power.vin = true →
    ∃ t, exec .refclkCoreLoss s = .next t ∧ t.power.refclk = false ∧ t.flag F.TIME_STATUS.HOLDOVER = true ∧
      t.flag Src.TIME.REFCLK_LOST.real = true ∧ t.time = s.time ∧ t.mem = s.mem) ∧
  ∀ s : State, s.power.mainUp = true →
    ∃ t, exec .refclkCoreReturn s = .next t ∧ t.power = { s.power with refclk := true } ∧
      t.flag F.TIME_STATUS.HOLDOVER = false ∧ (∀ a, a ≠ F.TIME_STATUS.HOLDOVER.addr → t.word a = s.word a) ∧
      t.time = s.time ∧ t.seals = s.seals ∧ t.mem = s.mem)

/-- PPS: an accepted edge is timestamped with the counter, rounded to whole ns half to even, and timed for the 0.5 s rule;
one nearer is counted and changes no timestamp; a miss is raised where IN_EN is 1 and no edge was accepted for 1.1 s; PPS_OUT
rises where OUT_EN is 1 and the counter passes OUT_OFFSET, and falls OUT_WIDTH after it rose. TPULSE: an output is armed when
its start and width obey the rules, and otherwise left disarmed with TPULSE_REFUSED; DISARM clears only ARMED, so a pulse
already high stands; an armed output due at a time it has not fired at goes to its active level, which POLARITY says; WIDTH
after it fired it leaves it. Concludes that these answer a next state: ppsInEdge, ppsMiss, ppsOutRise, ppsOutFall, tpulseArm,
tpulseDisarm, tpulseFire, tpulseEnd. -/
def Obligations.PulseCommandsTakeEffect : Prop :=
  ((∀ s : State, s.power.mainUp = true → s.time.ns < 10 ^ 9 → s.time.sec + 1 < 2 ^ 64 → s.time.frac < 2 ^ 40 →
    (∀ c, s.time.lastPps = some c → ppsGap ≤ s.clock - c) →
    ∃ t, exec .ppsInEdge s = .next t ∧ t.rd F.PPS_IN_NS.NS = wholeNs s.fineTime % 10 ^ 9 ∧
      t.rdW F.PPS_IN_SEC = wholeNs s.fineTime / 10 ^ 9 ∧
      t.time = { s.time with lastPps := some s.clock } ∧ t.mem = s.mem) ∧
  (∀ (s : State) (c : Nat), s.power.mainUp = true → s.time.lastPps = some c → s.clock - c < ppsGap →
    ∃ t, exec .ppsInEdge s = .next t ∧ Counted F.PPS_IGNORED s t ∧ t.time = s.time ∧
      t.rd F.PPS_IN_NS.NS = s.rd F.PPS_IN_NS.NS ∧ t.mem = s.mem) ∧
  (∀ s : State, s.power.mainUp = true → s.power.vin = true → s.flag F.PPS_CFG.IN_EN = true → s.ppsLate = true →
    ∃ t, exec .ppsMiss s = .next t ∧ t.flag Src.TIME.PPS_MISS.real = true ∧ t.time = s.time ∧ t.mem = s.mem) ∧
  (∀ s : State, s.power.mainUp = true → s.flag F.PPS_CFG.OUT_EN = true → s.time.ppsOut = false → s.ppsPasses = true →
    exec .ppsOutRise s = .next { s with
      time := { s.time with ppsOut := true, ppsRose := s.clock }, outbox := s.outbox ++ [.pps true] }) ∧
  ∀ s : State, s.power.mainUp = true → s.time.ppsOut = true →
    s.time.ppsRose + 1000 * s.rd F.PPS_OUT_WIDTH.WIDTH ≤ s.clock →
    exec .ppsOutFall s = .next { s with time := { s.time with ppsOut := false }, outbox := s.outbox ++ [.pps false] }) ∧
  ((∀ (s : State) (m : Master) (n : Fin 16), s.writeAccess m (F.TP_CTRL.ARM n).addr = .ok → s.tpStartOk n = true →
    s.tpWidthOk n = true →
    ∃ t, exec (.tpulseArm m n) s = .next t ∧ t.flag (F.TP_CTRL.ARMED n) = true ∧ (t.tp n).fired = false ∧
      (t.tp n).last = s.now ∧ (t.tp n).active = (s.tp n).active ∧
      (∀ i, i ≠ n.val → t.tp i = s.tp i) ∧ t.outbox = s.outbox ∧ t.mem = s.mem) ∧
  (∀ (s : State) (m : Master) (n : Fin 16), s.writeAccess m (F.TP_CTRL.ARM n).addr = .ok →
    (s.tpStartOk n = false ∨ s.tpWidthOk n = false) → s.power.vin = true → s.power.mainUp = true →
    ∃ t, exec (.tpulseArm m n) s = .next t ∧ t.flag (F.TP_CTRL.ARMED n) = false ∧
      t.flag Src.TIME.TPULSE_REFUSED.real = true ∧ t.time = s.time) ∧
  (∀ (s : State) (m : Master) (n : Fin 16), s.writeAccess m (F.TP_CTRL.ARM n).addr = .ok →
    ∃ t, exec (.tpulseDisarm m n) s = .next t ∧ t.flag (F.TP_CTRL.ARMED n) = false ∧ t.time = s.time ∧
      t.outbox = s.outbox ∧ (∀ a, a ≠ (F.TP_CTRL.ARMED n).addr → t.word a = s.word a) ∧ t.mem = s.mem) ∧
  (∀ (s : State) (n : Fin 16) (d : Nat), s.power.mainUp = true → s.tpDue n = some d →
    s.flag (F.TP_CTRL.ARMED n) = true → ((s.tp n).last < d ∨ ((s.tp n).fired = false ∧ (s.tp n).last = d)) →
    ∃ t, exec (.tpulseFire n) s = .next t ∧ t.tp n = ⟨d, true, true, s.clock⟩ ∧
      .tpulse n (!s.flag (F.TP_CFG.POLARITY n)) ∈ t.outbox ∧ (∀ i, i ≠ n.val → t.tp i = s.tp i) ∧ t.mem = s.mem) ∧
  ∀ (s : State) (n : Fin 16), s.power.mainUp = true → (s.tp n).active = true →
    (s.tp n).at_ + s.rd (F.TP_WIDTH.NS n) ≤ s.clock →
    ∃ t, exec (.tpulseEnd n) s = .next t ∧ t.tp n = { s.tp n with active := false } ∧
      t.outbox = s.outbox ++ [.tpulse n (s.flag (F.TP_CFG.POLARITY n))] ∧ t.regs = s.regs ∧ t.mem = s.mem)

/-! ## Mortar (chapter 17) -/

/-- Producers: a fault source's event sets its REAL bit; any other producer sends one event onto every enabled channel that
carries it, in the channels' order, and changes nothing else; so does an edge of EVT_IN. Task inputs: an event on its way
that reaches an input outside its re-arm time activates it, at this clock; an EVT_OUT input drives its pin high, and the
pulse's end drives it low; two events or more at once activate the input and set OVERRUN; one within the re-arm time
activates nothing and sets OVERRUN. Concludes that these answer a next state: producerEvent, evtInEdge, taskInputActivation,
evtOutPulseEnd. -/
def Obligations.EventsTravelAndActivateOnce : Prop :=
  ((∀ (s : State) (code : Fin 4096) (src : Source), s.producerAlive code = true → sourceOfCode code = some src →
    s.srcPowered src = true →
    ∃ t, exec (.producerEvent code) s = .next t ∧ t.flag src.real = true ∧ t.mem = s.mem) ∧
  (∀ (s : State) (code : Fin 4096), s.producerAlive code = true → sourceOfCode code = none → plainProducer code = true →
    s.power.mainUp = true → s.flag F.MORTAR_STATUS.SUSPENDED = false →
    exec (.producerEvent code) s = .next { s with mortar := { s.mortar with
      inFlight := s.mortar.inFlight ++ (s.channelsOf code).map (·.2.1) } }) ∧
  ∀ (s : State) (k : Fin 8), s.power.vin = true → s.power.mainUp = true → s.flag F.MORTAR_STATUS.SUSPENDED = false →
    exec (.evtInEdge k) s = .next { s with mortar := { s.mortar with
      inFlight := s.mortar.inFlight ++ (s.channelsOf k).map (·.2.1) } }) ∧
  ((∀ (s : State) (i : Fin 512), inputOk i = true → i.val ∈ s.mortar.inFlight → s.power.mainUp = true → s.inputBusy i = false →
    ∃ t, exec (.taskInputActivation i 1) s = .next t ∧ t.mortar.lastAct.lookup i.val = some s.clock ∧ t.mem = s.mem) ∧
  (∀ (s : State) (k : Fin 8), k.val ∈ s.mortar.inFlight → s.inputBusy k = false →
    ∃ t, exec (.taskInputActivation ⟨k, by omega⟩ 1) s = .next t ∧ t.mortar.evtOut.getLsbD k = true ∧
      .evtOut k true ∈ t.outbox) ∧
  (∀ (s : State) (i : Fin 512) (n : Nat), 2 ≤ n → 2 ≤ (s.mortar.inFlight.filter fun x => x == i.val).length →
    inputOk i = true → s.power.vin = true → s.power.mainUp = true → s.inputBusy i = false →
    ∃ t, exec (.taskInputActivation i n) s = .next t ∧ t.mortar.lastAct.lookup i.val = some s.clock ∧
      t.flag (F.TI_STAT.OVERRUN i) = true ∧ t.flag Src.MORTAR.OVERRUN.real = true ∧ t.mem = s.mem) ∧
  (∀ (s : State) (i : Fin 512) (n : Nat), 1 ≤ n → i.val ∈ s.mortar.inFlight → inputOk i = true →
    s.power.vin = true → s.power.mainUp = true → s.inputBusy i = true →
    ∃ t, exec (.taskInputActivation i n) s = .next t ∧ t.mortar.lastAct = s.mortar.lastAct ∧
      t.flag (F.TI_STAT.OVERRUN i) = true ∧ t.flag Src.MORTAR.OVERRUN.real = true ∧ t.mem = s.mem) ∧
  ∀ (s : State) (k : Fin 8), s.mortar.evtOut.getLsbD k = true →
    ∃ t, exec (.evtOutPulseEnd k) s = .next t ∧ t.mortar.evtOut.getLsbD k = false ∧
      t.outbox = s.outbox ++ [.evtOut k false] ∧ t.regs = s.regs ∧ t.mem = s.mem)

/-- A configuration write that changes no FX bit, whose codes are allowed and whose graph has no cycle stands as the one
pending change, with CFG_BUSY set and the word in force unchanged; one with a code not allowed, one that would make a cycle,
or one that comes while another is pending, is refused: it is counted, raises CFG_REFUSED and changes no configuration.
Concludes that these answer a next state: mortarCfgWrite. -/
def Obligations.MortarConfigurationWrites : Prop :=
  (∀ (s : State) (m : Master) (x : MortarWord) (w : Word), s.writeAccess m (mortarAddr x) = .ok →
    (rowsAt (mortarAddr x)).isEmpty = false → s.mortar.cfg = none → s.fxDiffers (mortarAddr x) w = false →
    (let new := mortarNew (mortarAddr x) (s.word (mortarAddr x)) w false
     mortarCodeOk (mortarAddr x) new = true ∧ s.graphOk (mortarAddr x) new = true) →
    ∃ t, exec (.mortarCfgWrite m x w) s = .next t ∧ t.flag F.MORTAR_STATUS.CFG_BUSY = true ∧
      t.mortar.cfg =
        some (mortarAddr x, mortarNew (mortarAddr x) (s.word (mortarAddr x)) w false, s.clock + 4) ∧
      (∀ a, a ≠ F.MORTAR_STATUS.CFG_BUSY.addr → t.word a = s.word a) ∧ t.mem = s.mem) ∧
  ∀ (s : State) (m : Master) (x : MortarWord) (w : Word), s.writeAccess m (mortarAddr x) = .ok →
    (rowsAt (mortarAddr x)).isEmpty = false → s.power.vin = true → s.power.mainUp = true →
    (let new := mortarNew (mortarAddr x) (s.word (mortarAddr x)) w false
     s.mortar.cfg.isSome = true ∨ mortarCodeOk (mortarAddr x) new = false ∨ s.graphOk (mortarAddr x) new = false) →
    ∃ t, exec (.mortarCfgWrite m x w) s = .next t ∧ t.flag Src.MORTAR.CFG_REFUSED.real = true ∧
      Counted F.CFG_REFUSED_CNT s t ∧
      t.mortar.cfg = s.mortar.cfg ∧ t.word (mortarAddr x) = s.word (mortarAddr x) ∧ t.mem = s.mem

/-! ## Host and sideband (chapter 16) -/

/-- Semaphores: TAKE gives a free one to the writing master, the host also one that the sideband took in the same cycle, GIVE
by its holder frees it, FORCE by another than the holder frees it, and none changes another word; SEM_FORCED is raised at the
tick that ends the cycle of a FORCE, where no GIVE by the former holder came in it; a TAKE of a held one, a GIVE by another
than the holder, and a FORCE of a free or own one change nothing. Fuses: an allowed ARM arms its target, a refused one leaves
nothing armed and raises FUSE_REFUSED; an arm ends; COMMIT of the armed target with the device's response starts programming;
its end fixes the target's two copies, and no other, and raises FUSE_FAIL where they are not both programmed; a sensing that
differs from the one before raises FUSE_TAMPER, an equal one changes nothing. Concludes that these answer a next state:
semTake, semGive, semForce, timeTick, fuseArm, fuseArmExpiry, fuseCommit, fuseProgramDone, fuseSense. -/
def Obligations.SemaphoreAndFuseCommandsTakeEffect : Prop :=
  ((∀ (s : State) (m : Master) (b : Fin 34), s.writeAccess m (F.SEM.HOLDER b).addr = .ok → s.rd (F.SEM.HOLDER b) = 0 →
    ∃ t, exec (.semTake m b) s = .next t ∧ t.rd (F.SEM.HOLDER b) = holderCode m ∧
      (∀ a, a ≠ (F.SEM.HOLDER b).addr → t.word a = s.word a) ∧ t.mem = s.mem ∧ t.seals = s.seals ∧ t.outbox = s.outbox) ∧
  (∀ (s : State) (b : Fin 34), s.writeAccess .m3 (F.SEM.HOLDER b).addr = .ok → s.noted (F.SEM.TAKE b).key = true →
    ∃ t, exec (.semTake .m3 b) s = .next t ∧ t.rd (F.SEM.HOLDER b) = 1 ∧
      (∀ a, a ≠ (F.SEM.HOLDER b).addr → t.word a = s.word a) ∧ t.mem = s.mem ∧ t.seals = s.seals ∧ t.outbox = s.outbox) ∧
  (∀ (s : State) (b : Fin 34), s.writeAccess .m4 (F.SEM.HOLDER b).addr = .ok → s.rd (F.SEM.HOLDER b) = 0 →
    ∃ t, exec (.semTake .m4 b) s = .next t ∧ t.noted (F.SEM.TAKE b).key = true) ∧
  (∀ (s : State) (m : Master) (b : Fin 34), s.writeAccess m (F.SEM.HOLDER b).addr = .ok → s.rd (F.SEM.HOLDER b) ≠ 0 →
    (m ≠ .m3 ∨ s.noted (F.SEM.TAKE b).key = false) → exec (.semTake m b) s = .next s) ∧
  (∀ (s : State) (m : Master) (b : Fin 34), s.writeAccess m (F.SEM.HOLDER b).addr = .ok →
    s.rd (F.SEM.HOLDER b) ≠ holderCode m → s.noted (forceKey b (holderCode m)) = false →
    exec (.semGive m b) s = .next s) ∧
  (∀ (s : State) (m : Master) (b : Fin 34), s.writeAccess m (F.SEM.HOLDER b).addr = .ok →
    s.rd (F.SEM.HOLDER b) ≠ holderCode m → s.noted (forceKey b (holderCode m)) = true →
    ∃ t, exec (.semGive m b) s = .next t ∧ t = { s with fresh := t.fresh } ∧
      t.noted (forceKey b (holderCode m)) = false) ∧
  (∀ (s : State) (m : Master) (b : Fin 34), s.writeAccess m (F.SEM.HOLDER b).addr = .ok →
    (s.rd (F.SEM.HOLDER b) = 0 ∨ s.rd (F.SEM.HOLDER b) = holderCode m) → exec (.semForce m b) s = .next s) ∧
  (∀ (s : State) (m : Master) (b : Fin 34), s.writeAccess m (F.SEM.HOLDER b).addr = .ok →
    s.rd (F.SEM.HOLDER b) = holderCode m →
    ∃ t, exec (.semGive m b) s = .next t ∧ t.rd (F.SEM.HOLDER b) = 0 ∧
      (∀ a, a ≠ (F.SEM.HOLDER b).addr → t.word a = s.word a) ∧ t.mem = s.mem ∧ t.seals = s.seals ∧ t.outbox = s.outbox) ∧
  ∀ (s : State) (m : Master) (b : Fin 34), s.writeAccess m (F.SEM.HOLDER b).addr = .ok → s.power.vin = true →
    s.rd (F.SEM.HOLDER b) ≠ 0 → s.rd (F.SEM.HOLDER b) ≠ holderCode m →
    s.rd (F.SEM.HOLDER b) ≠ 3 →
    ∃ t u, exec (.semForce m b) s = .next t ∧ t.rd (F.SEM.HOLDER b) = 0 ∧
      t.noted (forceKey b (s.rd (F.SEM.HOLDER b))) = true ∧
      (∀ a, a ≠ (F.SEM.HOLDER b).addr → t.word a = s.word a) ∧ t.mem = s.mem ∧ t.outbox = s.outbox ∧
      exec .timeTick t = .next u ∧ u.flag Src.HOSTIF.SEM_FORCED.real = true) ∧
  ((∀ (s : State) (x : Fin 4), s.writeAccess .m3 F.FUSE_CMD.ARM.addr = .ok → s.fuseBarred .m3 x = false →
    ∃ t, exec (.fuseArm .m3 x) s = .next t ∧ t.fuses.arm.map (·.val) = some x.val ∧
      t = { s with fuses := { s.fuses with arm := t.fuses.arm } }) ∧
  (∀ (s : State) (m : Master) (x : Fin 4), s.writeAccess m F.FUSE_CMD.ARM.addr = .ok → s.power.vin = true →
    s.fuseBarred m x = true →
    ∃ t, exec (.fuseArm m x) s = .next t ∧ t.fuses = { s.fuses with arm := none } ∧
      t.flag Src.HOSTIF.FUSE_REFUSED.real = true ∧ t.mem = s.mem) ∧
  (∀ s : State, exec .fuseArmExpiry s = .next { s with fuses := { s.fuses with arm := none } }) ∧
  (∀ (s : State) (a : Fin 3), s.writeAccess .m3 F.FUSE_CMD.COMMIT.addr = .ok → s.fuses.arm = some a →
    s.fuseBarred .m3 a = false → s.rdW F.FUSE_RESPONSE = Config.fuseChallenge.toNat →
    exec (.fuseCommit .m3 (a.castSucc)) s = .next { s with fuses := { s.fuses with arm := none, busy := some a } }) ∧
  (∀ (s : State) (a : Fin 3) (x y : Bool) (o : Option Orphan), s.fuses.busy = some a → s.power.vin = true →
    ∃ t, exec (.fuseProgramDone x y o) s = .next t ∧ t.fuses.busy = none ∧ t.fuses.at_ a = ⟨x, y⟩ ∧
      (∀ b : Fin 3, b ≠ a → t.fuses.at_ b = s.fuses.at_ b) ∧ t.fuses.sensed = t.fuses.array ∧
      ((x && y) = false → t.flag Src.HOSTIF.FUSE_FAIL.real = true) ∧ t.mem = s.mem) ∧
  ∀ (s : State) (x : BitVec 3), s.power.vin = true →
    ∃ t, exec (.fuseSense x) s = .next t ∧ t.fuses = { s.fuses with sensed := x } ∧
      (x = s.fuses.sensed → t = s) ∧ (x ≠ s.fuses.sensed → t.flag Src.HOSTIF.FUSE_TAMPER.real = true) ∧ t.mem = s.mem)

/-- VEC_REARM: a named vector none of whose sources qualifies is armed; one that still has a qualifying source is signalled
again at once: its message leaves, or its pending bit sets while it cannot. One that was signalled in the same cycle stays
disarmed, with the one message. Host-side events: a reset puts the function's configuration at its reset values but for AER's
status and header log (sticky, log 73), frees M3's semaphores, drops the snapshots M3 holds, aborts the DMA channels M3 runs,
counts, and raises FLR or LINK_DOWN; D3hot changes the power state alone; D0 takes the host's configuration and lets messages
that waited leave. Concludes that these answer a next state: vecRearm, hostSideReset, d3hotEntry, d0Entry. -/
def Obligations.VectorsAndHostEventsTakeEffect : Prop :=
  (∀ (s : State) (m : Master) (n : Fin 8) (w : Word) (i : Fin 32), s.writeAccess m (F.VEC_REARM.REARM n).addr = .ok →
    s.power.mainUp = true → w.getLsbD i = true →
    ∃ t, exec (.vecRearm m n w) s = .next t ∧ t.mem = s.mem ∧
      (let v := 32 * n.val + i.val
       (v < 222 → s.noted (vecArmed v).key = false → s.vectorQualifies v = true →
         t.flag (vecArmed v) = false ∧ (s.msixOpen v = true → .msix v ∈ t.outbox) ∧
           (s.msixOpen v = false → t.flag (vecPending v) = true)) ∧
       (v < 222 → s.noted (vecArmed v).key = false → s.vectorQualifies v = false → t.flag (vecArmed v) = true) ∧
       (s.noted (vecArmed v).key = true → t.flag (vecArmed v) = s.flag (vecArmed v) ∧
         t.flag (vecPending v) = s.flag (vecPending v) ∧ t.outbox.count (.msix v) = s.outbox.count (.msix v)))) ∧
  ((∀ (s : State) (flr : Bool) (o : Option Orphan), s.power.mainUp = true → s.power.vin = true →
    (∀ e ∈ s.dma, e.1 < 16 ∧ s.dmaMaster e.1 = .m3) →
    ∃ t, exec (.hostSideReset flr o) s = .next t ∧
      t.pcie = { State.reset.pcie with aer := s.pcie.aer, headerLog := s.pcie.headerLog } ∧ t.dma = [] ∧
      (∀ e ∈ s.dma, t.rd (F.CH_STATUS.RESULT e.1) = 2 ∧ t.rd (F.CH_STATUS.STATE e.1) = 0) ∧
      (∀ b : Fin 34, t.rd (F.SEM.HOLDER b) ≠ 1) ∧ (∀ e ∈ t.snaps.hi, e.1.1 ≠ .m3) ∧
      (if flr then Counted F.FLR_CNT s t ∧ t.flag Src.HOSTIF.FLR.real = true
        else Counted F.LINK_DOWN_CNT s t ∧ t.flag Src.HOSTIF.LINK_DOWN.real = true) ∧ t.mem = s.mem) ∧
  (∀ s : State, s.power.mainUp = true →
    exec .d3hotEntry s = .next { s with pcie := { s.pcie with d3hot := true } }) ∧
  ∀ (s : State) (cfg : PcieCfg), s.power.mainUp = true →
    ∃ t, exec (.d0Entry cfg) s = .next t ∧
      t.pcie =
        { s.pcie with cfg := { cfg with aerClear := 0 }, d3hot := false, aer := s.pcie.aer &&& ~~~cfg.aerClear } ∧
      (∀ v, v < 222 → t.flag (vecPending v) = true → s.flag (vecPending v) = true ∧ t.msixOpen v = false) ∧
      t.time = s.time ∧ t.mem = s.mem)

/-- PMBus and window reads: with VIN in range each counts its transaction and returns exactly its bytes, and, where that does
not bring the counter to all ones, changes nothing else; without VIN nothing changes. Readings are in LINEAR11. Concludes
that these answer a next state: capability, pmbusRevision, mfrId, mfrModel, statusByte, statusWord, statusInput,
statusTemperature, statusCml, readVin, readIin, readTemperature1, readTemperature2, readTemperature3, readPin, winStatus,
winReread. -/
def Obligations.SmbusReadsReturnTheirBytes : Prop :=
  SmbusReadAnswers .capability (fun _ => [0xD0]) ∧
  SmbusReadAnswers .pmbusRevision (fun _ => [0x44]) ∧
  SmbusReadAnswers .mfrId (fun _ => [8, 0x4F, 0x55, 0x56, 0x41, 0x52, 0x41, 0x45, 0x4E]) ∧
  SmbusReadAnswers .mfrModel (fun _ =>
    [9, 0x4F, 0x56, 0x58, 0x35, 0x31, 0x32, 0x30, 0x2D, if Config.orderCodeE then 0x45 else 0x43]) ∧
  SmbusReadAnswers .statusByte (fun s => [BitVec.ofNat 8 ((if s.sb.off then 64 else 0) +
    (if s.sb.statusTemp = 0 then 0 else 4) + (if s.sb.statusCml = 0 then 0 else 2))]) ∧
  SmbusReadAnswers .statusWord (fun s => [BitVec.ofNat 8 ((if s.sb.off then 64 else 0) +
    (if s.sb.statusTemp = 0 then 0 else 4) + (if s.sb.statusCml = 0 then 0 else 2)),
    BitVec.ofNat 8 ((if s.sb.pgBad then 8 else 0) + (if s.sb.statusInput = 0 then 0 else 0x20))]) ∧
  SmbusReadAnswers .statusInput (fun s => [s.sb.statusInput]) ∧
  SmbusReadAnswers .statusTemperature (fun s => [s.sb.statusTemp]) ∧
  SmbusReadAnswers .statusCml (fun s => [s.sb.statusCml]) ∧
  SmbusReadAnswers .readVin (fun s => leBytes 2 (linear11 (s.rd F.VIN.VAL) 100)) ∧
  SmbusReadAnswers .readIin (fun s => leBytes 2 (linear11 (s.rd F.IIN.VAL) 1000)) ∧
  SmbusReadAnswers .readPin (fun s => leBytes 2 (linear11 (s.rd F.PIN.VAL) 100)) ∧
  SmbusReadAnswers .readTemperature1 (fun s => leBytes 2 (linear11 (s.rdS F.PS_TEMP.TEMP) 100)) ∧
  SmbusReadAnswers .readTemperature2 (fun s => leBytes 2 (linear11 (s.rdS F.HOTTEST_CTRL.TEMP) 100)) ∧
  SmbusReadAnswers .readTemperature3 (fun s =>
    if s.validTiles.isEmpty then [0, 0] else leBytes 2 (linear11 (s.rdS F.HOTTEST_PLANE.TEMP) 100)) ∧
  SmbusReadAnswers .winStatus (fun s => leBytes 1 (s.rd F.WIN_RESULT.STATUS)) ∧
  (∀ p, SmbusReadAnswers (.winCount none p) fun s => leBytes 1 (s.rd F.WIN_STATE.COUNT)) ∧
  SmbusReadAnswers .winReread (fun s => BitVec.ofNat 8 s.sb.winData.length :: s.sb.winData)

/-- PMBus writes and faults of the bus: CLEAR_FAULTS clears every status bit, but with a wrong PEC, or none where one is
required, it only sets the CML bit of PEC and raises PEC_ERR; an invalid command sets its CML bit, raises PMBUS_CML and,
read, answers 0xFF bytes; the alert response gives the device's own address while SB_ALERT# is asserted; SB_TIMEOUT is
counted, raised, and drops what M4 holds; with VIN out of range none of them does anything. The register window: WIN_ADDR and
WIN_COUNT take a valid value and refuse any other with WIN_FORMAT; WIN_WRITE of one word is M4's write at WIN_ADDR, which
then goes on by one word; WIN_READ returns four bytes for each of its words and keeps them; data that is no whole number of
one to eight words, and words outside BAR0, are refused with WIN_FORMAT, a read answering 0xFF bytes; without a correct PEC a
write command reports and does nothing. Concludes that these answer a next state: clearFaults, pmbusInvalidCommand,
alertResponse, sbTimeout, winAddr, winCount, winWrite, winRead. -/
def Obligations.SmbusWritesAndWindowTakeEffect : Prop :=
  ((∀ (s : State) (p : Pec), s.power.vin = true → p ≠ .bad →
    (p = .none → s.flag F.SB_CFG.PMBUS_PEC_REQ = false) →
    ∃ t, exec (.clearFaults p) s = .next t ∧
      t.sb = { s.sb with statusInput := 0, statusTemp := 0, statusCml := 0, off := false, pgBad := false } ∧
      Counted F.TRANSACTIONS s t ∧ t.mem = s.mem) ∧
  (∀ (s : State) (p : Pec), s.power.vin = true →
    (p = .bad ∨ (p = .none ∧ s.flag F.SB_CFG.PMBUS_PEC_REQ = true)) →
    ∃ t, exec (.clearFaults p) s = .next t ∧ t.sb = { s.sb with statusCml := s.sb.statusCml ||| 0x20 } ∧
      t.flag Src.SIDEBAND.PEC_ERR.real = true ∧ t.mem = s.mem) ∧
  (∀ (s : State) (n : Nat) (p : Pec), s.power.vin = true →
    ∃ t, exec (.pmbusInvalidCommand (some n) p) s = .next t ∧ .smbus (List.replicate n 0xFF) ∈ t.outbox ∧
      t.sb = { s.sb with statusCml := s.sb.statusCml ||| 0x80 } ∧ t.flag Src.POWER.PMBUS_CML.real = true ∧ t.mem = s.mem) ∧
  (∀ (s : State) (p : Pec), s.power.vin = true → p ≠ .bad → (p = .none → s.flag F.SB_CFG.PMBUS_PEC_REQ = false) →
    ∃ t, exec (.pmbusInvalidCommand none p) s = .next t ∧ t.sb = { s.sb with statusCml := s.sb.statusCml ||| 0x80 } ∧
      t.flag Src.POWER.PMBUS_CML.real = true ∧ t.mem = s.mem) ∧
  (∀ (s : State) (c : Instr), s.power.vin = false → (∃ p, c = .clearFaults p) ∨ (∃ n p, c = .pmbusInvalidCommand n p) ∨
    c = .alertResponse ∨ (∃ o, c = .sbTimeout o) → exec c s = .next s) ∧
  (∀ s : State, s.alertPin = false → exec .alertResponse s = .next s) ∧
  (∀ s : State, s.alertPin = true →
    exec .alertResponse s =
      .next { s with outbox := s.outbox ++ [.smbus [BitVec.ofNat 8 (2 * s.rd F.SB_INFO.ADDR)]] }) ∧
  ∀ (s : State) (o : Option Orphan), s.power.vin = true →
    ∃ t, exec (.sbTimeout o) s = .next t ∧ Counted F.TIMEOUT_CNT s t ∧ t.flag Src.SIDEBAND.SB_TIMEOUT.real = true ∧
      (∀ e ∈ t.snaps.hi, e.1.1 ≠ .m4) ∧ (∀ e ∈ t.snaps.lo, e.1.1 ≠ .m4) ∧ (∀ e ∈ t.snaps.time, e.1 ≠ .m4) ∧
      (∀ e ∈ t.snaps.pps, e.1 ≠ .m4) ∧ t.mem = s.mem) ∧
  ((∀ (s : State) (bs : List Byte), s.power.vin = true → bs.length = 4 →
    leNat bs % 4 = 0 → leNat bs < 0x04000000 →
    ∃ t, exec (.winAddr bs .good) s = .next t ∧ t.rd F.WIN_STATE.ADDR = leNat bs ∧
      t.rd F.WIN_STATE.COUNT = s.rd F.WIN_STATE.COUNT ∧ t.mem = s.mem) ∧
  (∀ (s : State) (bs : List Byte), s.power.vin = true →
    (bs.length ≠ 4 ∨ leNat bs % 4 ≠ 0 ∨ 0x04000000 ≤ leNat bs) →
    ∃ t, exec (.winAddr bs .good) s = .next t ∧ t.rd F.WIN_STATE.ADDR = s.rd F.WIN_STATE.ADDR ∧
      t.rd F.WIN_RESULT.STATUS = 16 ∧ t.flag Src.SIDEBAND.WIN_FORMAT.real = true) ∧
  (∀ (s : State) (b : Byte), s.power.vin = true → b ≠ 0 → b.toNat ≤ 8 →
    ∃ t, exec (.winCount (some b) .good) s = .next t ∧ t.rd F.WIN_STATE.COUNT = b.toNat ∧
      t.rd F.WIN_STATE.ADDR = s.rd F.WIN_STATE.ADDR ∧ t.mem = s.mem) ∧
  (∀ (s : State) (b : Byte), s.power.vin = true → (b = 0 ∨ 8 < b.toNat) →
    ∃ t, exec (.winCount (some b) .good) s = .next t ∧ t.rd F.WIN_STATE.COUNT = s.rd F.WIN_STATE.COUNT ∧
      t.rd F.WIN_RESULT.STATUS = 16 ∧ t.flag Src.SIDEBAND.WIN_FORMAT.real = true ∧ t.mem = s.mem) ∧
  (∀ (s : State) (bs : List Byte), s.power.vin = true → bs.length = 4 →
    (let u := s.bump F.TRANSACTIONS
     let a := u.rd F.WIN_STATE.ADDR
     a + 4 ≤ 0x04000000 → u.writeAccess .m4 a = .ok → u.linkMissing .m4 a = false →
     u.fxDiffers a (BitVec.ofNat 32 (leNat bs)) = false →
     exec (.winWrite bs .good) s = .next
       ((let v := u.busWrite .m4 a (BitVec.ofNat 32 (leNat bs))
         v.wr F.WIN_STATE.ADDR (v.rd F.WIN_STATE.ADDR + 4)).wr F.WIN_RESULT.STATUS 1))) ∧
  (∀ s : State, s.power.vin = true →
    s.rd F.WIN_STATE.ADDR + 4 * s.rd F.WIN_STATE.COUNT ≤ 0x04000000 →
    ∃ t, exec .winRead s = .next t ∧ t.sb.winData.length = 4 * s.rd F.WIN_STATE.COUNT ∧
      .smbus (BitVec.ofNat 8 (4 * s.rd F.WIN_STATE.COUNT) :: t.sb.winData) ∈ t.outbox ∧ t.mem = s.mem) ∧
  (∀ s : State, s.power.vin = true → 0x04000000 < s.rd F.WIN_STATE.ADDR + 4 * s.rd F.WIN_STATE.COUNT →
    ∃ t, exec .winRead s = .next t ∧ t.sb.winData = List.replicate (4 * s.rd F.WIN_STATE.COUNT) 0xFF ∧
      t.rd F.WIN_RESULT.STATUS = 16 ∧ t.flag Src.SIDEBAND.WIN_FORMAT.real = true ∧ t.mem = s.mem) ∧
  (∀ (s : State) (bs : List Byte), s.power.vin = true → (bs.length % 4 ≠ 0 ∨ bs = [] ∨ 32 < bs.length ∨
      0x04000000 < s.rd F.WIN_STATE.ADDR + 4 * (bs.length / 4)) →
    ∃ t, exec (.winWrite bs .good) s = .next t ∧ t.rd F.WIN_STATE.ADDR = s.rd F.WIN_STATE.ADDR ∧
      t.rd F.WIN_RESULT.STATUS = 16 ∧ t.flag Src.SIDEBAND.WIN_FORMAT.real = true ∧ t.mem = s.mem) ∧
  ∀ (s : State) (bs : List Byte) (b : Byte) (p : Pec) (c : Instr), s.power.vin = true → p ≠ .good →
    c = .winWrite bs p ∨ c = .winAddr bs p ∨ c = .winCount (some b) p →
    ∃ t, exec c s = .next t ∧ t.rd F.WIN_RESULT.STATUS = 8 ∧ t.flag Src.SIDEBAND.PEC_ERR.real = true ∧
      t.rd F.WIN_STATE.ADDR = s.rd F.WIN_STATE.ADDR ∧ t.rd F.WIN_STATE.COUNT = s.rd F.WIN_STATE.COUNT ∧ t.mem = s.mem)

/-- PCIe requests: one whole DW to BAR0 is M3's write or read of that word; a partial byte enable discards the whole write
and raises BAR0_PARTIAL; a BAR2 write stores exactly the bytes its enables name outside the restricted region; a BAR2 read
returns what memory holds; what the function does not take, and a QW access to BAR0 outside the MSI-X table and the PBA (the
model's choice, log 40), is answered UR; a poisoned write is discarded; both are reported by their message and bit of AER.
Concludes that these answer a next state: bar0Request, bar2Request, unsupportedRequest, poisonedWrite. -/
def Obligations.HostRequestsTakeEffect : Prop :=
  (∀ (s : State) (cfg : PcieCfg) (a : Nat) (w : Word), s.power.mainUp = true → cfg.memSpace = true →
    s.pcie.d3hot = false → a % 4 = 0 → a + 4 ≤ 0x04000000 →
    exec (.bar0Request cfg ⟨a, true, [(w, 15)]⟩) s = .next ((s.configure cfg).busWrite .m3 a w)) ∧
  (∀ (s : State) (cfg : PcieCfg) (a : Nat) (w : Word) (e : BitVec 4), s.power.mainUp = true → cfg.memSpace = true →
    s.pcie.d3hot = false → a % 4 = 0 → a + 4 ≤ 0x04000000 →
    ∃ t, exec (.bar0Request cfg ⟨a, false, [(w, e)]⟩) s = .next t ∧
      .readData .m3 [((s.configure cfg).busRead .m3 a).1] ∈ t.outbox) ∧
  (∀ (s : State) (cfg : PcieCfg) (a : Nat) (w : Word) (e : BitVec 4), s.power.mainUp = true → s.power.vin = true →
    cfg.memSpace = true → s.pcie.d3hot = false → a + 4 ≤ 0x04000000 → e ≠ 15 →
    ∃ t, exec (.bar0Request cfg ⟨a, true, [(w, e)]⟩) s = .next t ∧ t.flag Src.HOSTIF.BAR0_PARTIAL.real = true ∧
      t.tiles = s.tiles ∧ t.loops = s.loops ∧ t.plane = s.plane ∧
      t.time = s.time ∧ t.mem = s.mem) ∧
  (∀ (s : State) (cfg : PcieCfg) (a : Nat) (x y : Word × BitVec 4) (w : Bool), s.power.mainUp = true → cfg.memSpace = true →
    s.pcie.d3hot = false → a % 8 = 0 → a + 8 ≤ 0x04000000 → (a < 0x38000 ∨ 0x39020 ≤ a) →
    ∃ t, exec (.bar0Request cfg ⟨a, w, [x, y]⟩) s = .next t ∧ .unsupported ∈ t.outbox ∧ t.pcie.aer.getLsbD 20 = true ∧
      t.regs = (s.configure cfg).regs ∧ t.mem = s.mem ∧ t.time = s.time) ∧
  (∀ (s : State) (cfg : PcieCfg) (a : Nat) (w : Word) (e : BitVec 4), s.power.mainUp = true → cfg.memSpace = true →
    s.pcie.d3hot = false → a % 4 = 0 → a + 4 ≤ 0x02780000 →
    ∃ t, exec (.bar2Request cfg ⟨a, true, [(w, e)]⟩) s = .next t ∧
      (∀ i, i < 4 → t.memByte (a + i) = if e.getLsbD i then (w >>> (8 * i)).setWidth 8 else s.memByte (a + i)) ∧
      ∀ x, (x < a ∨ a + 4 ≤ x) → t.memByte x = s.memByte x) ∧
  (∀ (s : State) (cfg : PcieCfg) (a : Nat) (w : Word), s.power.mainUp = true → s.power.vin = true → cfg.memSpace = true →
    s.pcie.d3hot = false → a % 4 = 0 → 0x02780000 ≤ a → a + 4 ≤ 0x02800000 →
    ∃ t, exec (.bar2Request cfg ⟨a, true, [(w, 15)]⟩) s = .next t ∧ t.mem = s.mem ∧
      t.flag Src.FABRIC.REFUSED_WRITE.real = true) ∧
  (∀ (s : State) (cfg : PcieCfg) (a n : Nat), s.power.mainUp = true → cfg.memSpace = true → s.pcie.d3hot = false →
    a % 4 = 0 → a + 4 * n ≤ 0x027A6000 →
    ∃ t, exec (.bar2Request cfg ⟨a, false, List.replicate n (0, 0)⟩) s = .next t ∧
      .memData .m3 (s.memBytes a (4 * n)) ∈ t.outbox ∧ t.mem = s.mem) ∧
  (∀ s : State, s.power.mainUp = true →
    ∃ t, exec .unsupportedRequest s = .next t ∧ t.outbox = s.outbox ++ [.unsupported, .aer "Unsupported Request"] ∧
      t.pcie = { s.pcie with aer := s.pcie.aer ||| 0x100000#32, headerLog := t.pcie.headerLog } ∧
      (s.pcie.aer ≠ 0 → t.pcie.headerLog = s.pcie.headerLog) ∧
      t = { s with outbox := t.outbox, pcie := t.pcie, free := t.free }) ∧
  ∀ s : State, s.power.mainUp = true →
    ∃ t, exec .poisonedWrite s = .next t ∧ t.outbox = s.outbox ++ [.aer "Poisoned TLP Received"] ∧
      t.pcie = { s.pcie with aer := s.pcie.aer ||| 0x1000#32, headerLog := t.pcie.headerLog } ∧
      (s.pcie.aer ≠ 0 → t.pcie.headerLog = s.pcie.headerLog) ∧
      t = { s with outbox := t.outbox, pcie := t.pcie, free := t.free }

/-! ## Bus matrix, DMA and register accesses (chapters 17, 19) -/

/-- Arbitration at a port: the input granted has a requestor and the largest credit after each active input gained its
weight, the lowest index on ties; it pays the total of the weights; an input without a requestor is left with credit 0. A
burst that stands alone: in capture memory, or in working SRAM below the restricted region, its read returns the bytes that
lie there and its write stores exactly its bytes, and its port parks on its master; a write to host memory leaves with its
bytes; where the target fails it ends in an error response, and without a path too, with DECODE_ERR and its record. REMAP is
the housekeeping processors': a write by M0 or M1 sets it and nothing else; by any other master it is refused and counted.
Concludes that these answer a next state: busRequest, remapWrite. -/
def Obligations.BusRequestsAreArbitratedAndServed : Prop :=
  (∀ (s : State) (p : Nat) (reqs : List BusReq), (∃ i, i < 8 ∧ 0 < weightOf reqs i) →
    ∃ j, (s.arbitrate p reqs).2 = some j ∧ j < 8 ∧ 0 < weightOf reqs j ∧
      (∀ i, i < 8 → 0 < weightOf reqs i →
        s.credit p i + weightOf reqs i ≤ s.credit p j + weightOf reqs j ∧
          (i < j → s.credit p i + weightOf reqs i < s.credit p j + weightOf reqs j)) ∧
      ∀ i, i < 8 → (s.arbitrate p reqs).1.credit p i =
        if weightOf reqs i = 0 then 0
        else if i = j then s.credit p i + weightOf reqs i - ((List.range 8).map (weightOf reqs)).sum
        else s.credit p i + weightOf reqs i) ∧
  ((∀ (s : State) (r : BusReq) (p : Nat), s.power.mainUp = true → s.reqTarget r = some p →
    0 < weightOf [r] (masterIndex r.master) → r.fails = false → r.write = false →
    (p = 5 ∧ r.addr + r.len ≤ 0x32000000 ∨ p = 1 ∧ bar2Of r.addr + r.len ≤ 0x02780000) →
    ∃ t, exec (.busRequest [r]) s = .next t ∧ .memData r.master (s.memBytes (bar2Of r.addr) r.len) ∈ t.outbox ∧
      t.rd ⟨F.PARK_STATUS.PARKED.addr, 3 * p, 3⟩ = masterIndex r.master ∧ t.mem = s.mem) ∧
  (∀ (s : State) (r : BusReq) (p : Nat), s.power.mainUp = true → s.reqTarget r = some p →
    0 < weightOf [r] (masterIndex r.master) → r.fails = false → r.write = true → r.bytes.length = r.len →
    (p = 5 ∧ r.addr + r.len ≤ 0x32000000 ∨ p = 1 ∧ bar2Of r.addr + r.len ≤ 0x02780000) →
    ∃ t, exec (.busRequest [r]) s = .next t ∧ t.memBytes (bar2Of r.addr) r.len = r.bytes ∧
      (∀ x, (x < bar2Of r.addr ∨ bar2Of r.addr + r.len ≤ x) → t.memByte x = s.memByte x) ∧
      t.rd ⟨F.PARK_STATUS.PARKED.addr, 3 * p, 3⟩ = masterIndex r.master) ∧
  (∀ (s : State) (r : BusReq), s.power.mainUp = true → s.reqTarget r = some 6 → 0 < weightOf [r] (masterIndex r.master) →
    r.fails = false → r.write = true → r.bytes.length = r.len →
    ∃ t, exec (.busRequest [r]) s = .next t ∧ .hostWrite (r.addr - 2 ^ 63) r.bytes ∈ t.outbox ∧ t.mem = s.mem) ∧
  (∀ (s : State) (r : BusReq) (p : Nat), s.power.mainUp = true → s.reqTarget r = some p →
    0 < weightOf [r] (masterIndex r.master) → r.fails = true →
    ∃ t, exec (.busRequest [r]) s = .next t ∧ .busError r.master ∈ t.outbox ∧ t.mem = s.mem) ∧
  ∀ (s : State) (r : BusReq), s.power.mainUp = true → s.power.vin = true → s.reqTarget r = none → r.addr < 2 ^ 64 →
    ∃ t, exec (.busRequest [r]) s = .next t ∧ .busError r.master ∈ t.outbox ∧
      t.flag Src.FABRIC.DECODE_ERR.real = true ∧ t.rd F.LAST_DECODE.MASTER = masterIndex r.master ∧
      t.flag F.LAST_DECODE.WRITE = r.write ∧ t.rdW F.DECODE_ADDR = r.addr ∧ t.mem = s.mem) ∧
  ((∀ (s : State) (m : Master) (on : Bool), (m = .m0 ∨ m = .m1) → s.power.mainUp = true →
    ∃ t, exec (.remapWrite m on) s = .next t ∧ t.flag F.FABRIC_CFG.REMAP = on ∧
      (∀ a, a ≠ F.FABRIC_CFG.REMAP.addr → t.word a = s.word a) ∧ t.mem = s.mem ∧ t.outbox = s.outbox) ∧
  ∀ (s : State) (m : Master) (on : Bool), m ≠ .m0 → m ≠ .m1 → s.power.mainUp = true → s.power.vin = true →
    s.writeAccess m F.FABRIC_CFG.REMAP.addr = .ok →
    ∃ t, exec (.remapWrite m on) s = .next t ∧ t.flag F.FABRIC_CFG.REMAP = s.flag F.FABRIC_CFG.REMAP ∧
      Counted F.REFUSED_WRITE_CNT s t ∧
      t.flag Src.FABRIC.REFUSED_WRITE.real = true ∧ t.mem = s.mem)

/-- DMA control: START on an IDLE channel records its master and the descriptor to fetch and runs it; on a busy one it is
refused; ABORT of a channel that waits for responses makes it ABORTING, of one that does not ends it ABORTED, of one that has
completed sets ABORT_IGNORED, and a second ABORT changes nothing; a fetched descriptor that passes every check stands, one
that fails, or cannot be read, ends the channel with DESC_ERR; a fetch from host memory that times out does too and is
reported, and a timeout of a channel with nothing outstanding changes nothing. Concludes that these answer a next state:
chCtrlStart, chCtrlAbort, descriptorFetched, completionTimeout. -/
def Obligations.DmaControlTakesEffect : Prop :=
  (∀ (s : State) (m : Master) (n : Fin 16), s.writeAccess m (F.CH_CTRL.START n).addr = .ok →
    s.rd (F.CH_STATUS.STATE n) = 0 →
    ∃ t, exec (.chCtrlStart m n) s = .next t ∧ t.rd (F.CH_STATUS.STATE n) = 1 ∧
      t.rd (F.CH_STATUS.STARTED_BY n) = masterIndex m ∧ t.rdW (F.CH_CUR_DESC n) = s.rdW (F.CH_DESC n) ∧
      t.chan n = some ⟨none, 0, 0⟩ ∧ (∀ k, k ≠ n.val → t.chan k = s.chan k) ∧ t.mem = s.mem ∧ t.outbox = s.outbox) ∧
  (∀ (s : State) (m : Master) (n : Fin 16), s.writeAccess m (F.CH_CTRL.START n).addr = .ok →
    s.rd (F.CH_STATUS.STATE n) ≠ 0 → s.power.vin = true → s.power.mainUp = true →
    ∃ t, exec (.chCtrlStart m n) s = .next t ∧ t.flag Src.DMA.START_REFUSED.real = true ∧ t.dma = s.dma ∧
      t.rd (F.CH_STATUS.STATE n) = s.rd (F.CH_STATUS.STATE n) ∧ t.mem = s.mem) ∧
  (∀ (s : State) (m : Master) (n : Fin 16) (x : DmaChan), s.writeAccess m (F.CH_CTRL.START n).addr = .ok →
    s.chan n = some x → s.rd (F.CH_STATUS.STATE n) = 1 →
    ∃ t, exec (.chCtrlAbort m n) s = .next t ∧ t.mem = s.mem ∧
      (if x.waits then t.rd (F.CH_STATUS.STATE n) = 2 ∧ t.dma = s.dma
       else t.rd (F.CH_STATUS.STATE n) = 0 ∧ t.rd (F.CH_STATUS.RESULT n) = 2 ∧ t.chan n = none)) ∧
  (∀ (s : State) (m : Master) (n : Fin 16), s.writeAccess m (F.CH_CTRL.START n).addr = .ok → s.chan n = none →
    s.rd (F.CH_STATUS.RESULT n) = 1 →
    ∃ t, exec (.chCtrlAbort m n) s = .next t ∧ t.flag (F.CH_STATUS.ABORT_IGNORED n) = true ∧
      (∀ a, a ≠ (F.CH_STATUS.ABORT_IGNORED n).addr → t.word a = s.word a) ∧ t.mem = s.mem ∧ t.dma = s.dma) ∧
  (∀ (s : State) (m : Master) (n : Fin 16) (x : DmaChan), s.writeAccess m (F.CH_CTRL.START n).addr = .ok →
    s.chan n = some x → s.rd (F.CH_STATUS.STATE n) = 2 → exec (.chCtrlAbort m n) s = .next s) ∧
  (∀ (s : State) (n : Fin 16) (e : Bool) (bs b : List Byte), s.power.mainUp = true → s.chan n = some ⟨none, 0, 0⟩ →
    s.rd (F.CH_STATUS.STATE n) = 1 → s.fetched n e bs = some b → descrOk b = true →
    ∃ t, exec (.descriptorFetched n e bs) s = .next t ∧ t.chan n = some ⟨some (descrOf b), 0, 0⟩ ∧ t.regs = s.regs ∧
      t.mem = s.mem ∧ t.outbox = s.outbox) ∧
  (∀ (s : State) (n : Fin 16) (e : Bool) (bs : List Byte), s.power.mainUp = true → s.power.vin = true →
    s.chan n = some ⟨none, 0, 0⟩ → s.rd (F.CH_STATUS.STATE n) = 1 → (∀ b, s.fetched n e bs = some b → descrOk b = false) →
    ∃ t, exec (.descriptorFetched n e bs) s = .next t ∧ t.chan n = none ∧ t.rd (F.CH_STATUS.STATE n) = 0 ∧
      t.rd (F.CH_STATUS.RESULT n) = 5 ∧ t.flag Src.DMA.DESC_ERR.real = true ∧ t.mem = s.mem) ∧
  (∀ (s : State) (n : Fin 16) (o : Nat), s.power.mainUp = true → s.power.vin = true → s.chan n = some ⟨none, 0, 0⟩ →
    s.rd (F.CH_STATUS.STATE n) = 1 → s.fetchesHost n = true →
    ∃ t, exec (.completionTimeout n o) s = .next t ∧ t.chan n = none ∧ t.rd (F.CH_STATUS.STATE n) = 0 ∧
      t.flag Src.DMA.DESC_ERR.real = true ∧ .aer "Completion Timeout" ∈ t.outbox ∧ t.pcie.aer.getLsbD 14 = true ∧
      t.mem = s.mem) ∧
  ∀ (s : State) (n : Fin 16) (o : Nat), s.hostError n o = none → exec (.completionTimeout n o) s = .next s

/-- DMA data: when every beat of a memory-to-memory descriptor, the last of its chain, has issued and been answered, the
destination holds the source's bytes, no other byte of memory has changed, and the channel is IDLE with RESULT 1 and DONE.
Concludes that these answer a next state: dmaResponse. -/
def Obligations.DmaDescriptorCopiesMemory : Prop :=
  ∀ (s : State) (n : Fin 16) (d : Descr), s.power.mainUp = true → s.chan n = some ⟨some d, 0, 0⟩ →
    s.rd (F.CH_STATUS.STATE n) = 1 → 0 < d.len → d.last = true → d.srcFixed = false → d.dstFixed = false →
    (targetOf d.src = some 1 ∨ targetOf d.src = some 5) → (targetOf d.dst = some 1 ∨ targetOf d.dst = some 5) →
    staysIn d.src d.len = true → staysIn d.dst d.len = true → dstBarred d = false →
    ∃ t, exec (.dmaResponse n ⟨d.len, [], .written d.len⟩) s = .next t ∧
      (∀ i, i < d.len → [t.memByte (bar2Of (d.dst + i))] = s.memRead .m2 (bar2Of (d.src + i)) 1) ∧
      (∀ x, (∀ i, i < d.len → x ≠ bar2Of (d.dst + i)) → t.memByte x = s.memByte x) ∧
      t.chan n = none ∧ t.rd (F.CH_STATUS.STATE n) = 0 ∧ t.rd (F.CH_STATUS.RESULT n) = 1 ∧
      t.rd (F.CH_RESIDUE.BYTES n) = 0 ∧ t.flag (F.CH_STATUS.DONE n) = true

/-- Register reads return the word as its master sees it: a read of TIME_NS or PPS_IN_NS snapshots the rest of the time for
that master, of a wide value's LO word its HI half for that master and block, of RC fields clears them, but for bits set in
this cycle. No other word, no memory and no latch changes. A REG transaction of a tile is the access it carries; one whose
CRC fails on a tile whose link is up is discarded and reported, and its read returns a value the spec leaves open. A pop of
the TX timestamp FIFO takes its oldest entry and shows it; of an empty FIFO it reads 0. Concludes that these answer a next
state: timeNsRead, ppsInNsRead, wideLoRead, rcRead, tileRegTransaction, txtsPop. -/
def Obligations.RegisterReadsAndTransactionsAnswer : Prop :=
  ((∀ (s : State) (m : Master), s.power.mainUp = true → s.readAccess m F.TIME_NS.NS.addr = .ok →
    ∃ t, exec (.timeNsRead m) s = .next t ∧ t.outbox = s.outbox ++ [.readData m [BitVec.ofNat 32 s.time.ns]] ∧
      t.timeSeen m = (s.time.sec, s.time.frac / 2 ^ 8) ∧
      (∀ o, o ≠ m → t.snaps.time.lookup o = s.snaps.time.lookup o) ∧ t.regs = s.regs ∧ t.mem = s.mem ∧ t.time = s.time) ∧
  (∀ (s : State) (m : Master), s.power.mainUp = true → s.readAccess m F.PPS_IN_NS.NS.addr = .ok →
    ∃ t, exec (.ppsInNsRead m) s = .next t ∧
      t.outbox = s.outbox ++ [.readData m [s.view m F.PPS_IN_NS.NS.addr]] ∧ t.ppsSeen m = s.rdW F.PPS_IN_SEC ∧
      t.regs = s.regs ∧ t.mem = s.mem ∧ t.time = s.time) ∧
  (∀ (s : State) (m : Master) (a : BitVec 26) (b : Nat), s.power.mainUp = true → s.readAccess m (wordAt a) = .ok →
    s.linkMissing m (wordAt a) = false → isLo (wordAt a) = true → ownSnapshot (wordAt a) = false →
    ownerBlock (wordAt a) = some b →
    ∃ t, exec (.wideLoRead m a) s = .next t ∧ t.outbox = s.outbox ++ [.readData m [s.view m (wordAt a)]] ∧
      t.snaps.hi.lookup (m, b) = some (s.view m (wordAt a + 4)) ∧
      (∀ x, x ≠ wordAt a → t.word x = s.word x) ∧ t.mem = s.mem ∧ t.seals = s.seals) ∧
  ∀ (s : State) (m : Master) (a : BitVec 26), s.power.mainUp = true → s.readAccess m (wordAt a) = .ok →
    s.linkMissing m (wordAt a) = false → isLo (wordAt a) = false → isHi (wordAt a) = false →
    wordAt a ≠ F.TXTS_POP.LANE.addr → wordAt a ≠ F.TIME_NS.NS.addr → wordAt a ≠ F.PPS_IN_NS.NS.addr →
    ∃ t, exec (.rcRead m a) s = .next t ∧ t.outbox = s.outbox ++ [.readData m [s.view m (wordAt a)]] ∧
      t.word (wordAt a) = s.word (wordAt a) &&& ~~~(accMask (wordAt a) [.rc] &&& ~~~s.freshMask (wordAt a)) ∧
      (∀ x, x ≠ wordAt a → t.word x = s.word x) ∧ t.mem = s.mem ∧ t.seals = s.seals) ∧
  ((∀ (s : State) (m : Master) (a : BitVec 26), s.power.mainUp = true → s.readAccess m (wordAt a) = .ok →
    s.linkMissing m (wordAt a) = false → isLo (wordAt a) = false → isHi (wordAt a) = false →
    wordAt a ≠ F.TXTS_POP.LANE.addr → wordAt a ≠ F.TIME_NS.NS.addr → wordAt a ≠ F.PPS_IN_NS.NS.addr →
    ∃ t, exec (.tileRegTransaction m a none true) s = .next t ∧
      t.outbox = s.outbox ++ [.readData m [s.view m (wordAt a)]] ∧ t.mem = s.mem) ∧
  (∀ (s : State) (m : Master) (a : BitVec 26) (w : Word),
    exec (.tileRegTransaction m a (some w) true) s = exec (.registerWrite m a w) s) ∧
  (∀ (s : State) (m : Master) (a : BitVec 26) (x : Fin 76), linkTile m (wordAt a) = some x.val →
    s.readAccess m (wordAt a) = .ok → s.linkUp x = true → s.power.vin = true → s.power.mainUp = true →
    ∃ t v, exec (.tileRegTransaction m a none false) s = .next t ∧ .readData m [v] ∈ t.outbox ∧
      t.flag (Src.SENSE.LINK_CRC x).real = true ∧ t.word (wordAt a) = s.word (wordAt a) ∧ t.tiles = s.tiles ∧ t.mem = s.mem) ∧
  (∀ (s : State) (m : Master) (a : BitVec 26) (w : Word) (x : Fin 76), linkTile m (wordAt a) = some x.val →
    s.writeAccess m (wordAt a) = .ok → s.linkUp x = true → s.power.vin = true → s.power.mainUp = true →
    ∃ t, exec (.tileRegTransaction m a (some w) false) s = .next t ∧ t.flag (Src.SENSE.LINK_CRC x).real = true ∧
      t.word (wordAt a) = s.word (wordAt a) ∧ t.tiles = s.tiles ∧ t.mem = s.mem) ∧
  (∀ (s : State) (m : Master) (e : TxStamp) (rest : List TxStamp), s.power.mainUp = true →
    s.readAccess m F.TXTS_POP.LANE.addr = .ok → s.time.txFifo = e :: rest → e.tag < 2 ^ 16 → e.ns < 2 ^ 30 →
    e.sec < 2 ^ 64 →
    ∃ t, exec (.txtsPop m) s = .next t ∧
      t.outbox = s.outbox ++ [.readData m [BitVec.ofNat 32 (e.lane + 2 ^ 8 * rest.length + 2 ^ 16)]] ∧
      t.time = { s.time with txFifo := rest } ∧ t.rd F.TXTS_TAG.TAG = e.tag ∧ t.rd F.TXTS_NS.NS = e.ns ∧
      t.rdW F.TXTS_SEC = e.sec ∧ t.mem = s.mem) ∧
  ∀ (s : State) (m : Master), s.power.mainUp = true → s.readAccess m F.TXTS_POP.LANE.addr = .ok → s.time.txFifo = [] →
    exec (.txtsPop m) s = .next { s with outbox := s.outbox ++ [.readData m [0]] })

/-- Register writes: the LO word of a writable pair is held for its master and changes no register; the HI word of a TPULSE
start commits both halves; a sideband, fabric or DMA word that only stores takes RW bits as written, clears W1C bits written
with 1 but for those set in this cycle, and keeps every other bit; a host write that would change an FX bit, and one of a
non-owner, is counted and reported, and the non-owner's changes no tile, loop, plane, time or memory; one that cannot reach
its block changes nothing at all. Concludes that these answer a next state: wideLoWrite, wideHiWrite, registerWrite. -/
def Obligations.RegisterWritesFollowAccessCodes : Prop :=
  (∀ (s : State) (m : Master) (a : BitVec 26) (w : Word), s.writeAccess m (wordAt a) = .ok → pairLo (wordAt a) = true →
    s.fxDiffers (wordAt a) w = false →
    ∃ t, exec (.wideLoWrite m a w) s = .next t ∧ t.heldLo m (wordAt a) = w ∧ t.regs = s.regs ∧ t.mem = s.mem ∧
      t.outbox = s.outbox ∧ t.time = s.time) ∧
  (∀ (s : State) (m : Master) (n : Fin 16) (w : Word), s.writeAccess m (0x8020C + 32 * n) = .ok →
    s.flag (F.TP_CTRL.ARMED n) = false →
    ∃ t, exec (.wideHiWrite m (BitVec.ofNat 26 (0x8020C + 32 * n)) w) s = .next t ∧
      t.rdW (F.TP_START_SEC n) = (s.heldLo m (F.TP_START_SEC n).addr).toNat + 2 ^ 32 * w.toNat ∧
      (∀ x, x ≠ 0x80208 + 32 * n.val → x ≠ 0x8020C + 32 * n.val → t.word x = s.word x) ∧ t.mem = s.mem ∧
      t.outbox = s.outbox) ∧
  (∀ (s : State) (m : Master) (a : BitVec 26) (w : Word) (i : Fin 32), s.writeAccess m (wordAt a) = .ok →
    0x40000 ≤ wordAt a → wordAt a < 0x70000 → wordAt a ≠ F.FABRIC_CFG.REMAP.addr →
    (0x60100 ≤ wordAt a → wordAt a < 0x60500 → wordAt a % 64 ≠ 8 ∧ wordAt a % 64 ≠ 0x24) → pairLo (wordAt a) = false →
    pairLo (wordAt a - 4) = false → ringAt (wordAt a) = none → faultWordAt (wordAt a) = none →
    accMask (wordAt a) [.lv] = 0 → s.fxDiffers (wordAt a) w = false →
    ∃ t, exec (.registerWrite m a w) s = .next t ∧
      (t.word (wordAt a)).getLsbD i =
        (if (accMask (wordAt a) [.rw]).getLsbD i then w.getLsbD i
         else (s.word (wordAt a)).getLsbD i && !((accMask (wordAt a) [.w1c]).getLsbD i && w.getLsbD i &&
           !(s.freshMask (wordAt a)).getLsbD i)) ∧
      (∀ x, x ≠ wordAt a → t.word x = s.word x) ∧ t.mem = s.mem ∧ t.outbox = s.outbox) ∧
  (∀ (s : State) (a : BitVec 26) (w : Word), s.writeAccess .m3 (wordAt a) = .nonOwner → s.power.vin = true →
    s.power.mainUp = true →
    ∃ t, exec (.registerWrite .m3 a w) s = .next t ∧ Counted F.HOSTIF_NONOWNER_CNT s t ∧
      t.flag Src.HOSTIF.NONOWNER_WRITE.real = true ∧ t.mem = s.mem ∧
      t.time = s.time ∧ t.tiles = s.tiles ∧ t.loops = s.loops ∧ t.plane = s.plane) ∧
  ∀ (s : State) (m : Master) (a : BitVec 26) (w : Word), s.writeAccess m (wordAt a) = .unreachable →
    exec (.registerWrite m a w) s = .next s

/-! ## Thermal supervision, telemetry (chapter 15), calibration and ageing (chapter 14) -/

/-- A conversion: every sensor that can be converted shows its reading, saturated, and VALID; any other is not VALID. TRIP of
a valid sensor follows its limit on the value used, and a valid sensor at TRIP asserts THERMTRIP#. Supervision's other
commands: the 100 ms evaluation sets RISE of a valid sensor exactly where its value used exceeds that of WINDOW_S ago by more
than the limit, and keeps the value; THERMTRIP# deasserts with EN low, and not with EN high; telemetry shows its readings and
counts the run below VIN_LOW, whose eleventh update raises it. Concludes that these answer a next state: sensorConversion,
riseEvaluation, thermtripRelease, telemetryUpdate. -/
def Obligations.SensorsAndTelemetryAreSupervised : Prop :=
  (∀ (s : State) (rs : List Int), s.power.vin = true →
    ∃ t, exec (.sensorConversion rs) s = .next t ∧
      (∀ n, n < 80 → s.sensorValid n = true →
        t.rdS (F.SENSOR.TEMP n) = satS 16 (rs.getD n 0) ∧ t.flag (F.SENSOR.VALID n) = true ∧
          (t.flag (F.SENSOR.TRIP n) = true ↔ t.rdS (tripLimit n) ≤ t.rdS (F.SENSOR_USED.USED n)) ∧
          (t.flag (F.SENSOR.TRIP n) = true → t.therm.trip = true)) ∧
      (∀ n, n < 80 → s.sensorValid n = false → t.flag (F.SENSOR.VALID n) = false) ∧
      (s.therm.trip = true → t.therm.trip = true) ∧ t.power = s.power ∧ t.mem = s.mem) ∧
  ((∀ (s : State) (n : Nat), s.power.vin = true → n < 80 → s.sensorValid n = true →
    ∃ t, exec .riseEvaluation s = .next t ∧
      (t.sensorMem n).past = (s.rdS (F.SENSOR_USED.USED n) :: (s.sensorMem n).past).take 80 ∧
      (t.flag (F.SENSOR.RISE n) = true ↔ ∃ old, (s.sensorMem n).past[10 * s.rd F.RISE_CFG.WINDOW_S - 1]? = some old ∧
        (s.rd F.RISE_CFG.RISE : Int) < s.rdS (F.SENSOR_USED.USED n) - old) ∧
      t.rd (F.SENSOR.TEMP n) = s.rd (F.SENSOR.TEMP n) ∧ t.mem = s.mem) ∧
  (∀ s : State, s.power.vin = true → s.power.en = false →
    ∃ t, exec .thermtripRelease s = .next t ∧ t.therm = { s.therm with trip := false } ∧
      t.flag F.THERM_STATUS.THERMTRIP = false ∧
      (∀ a, a ≠ F.THERM_STATUS.THERMTRIP.addr → t.word a = s.word a) ∧ t.mem = s.mem ∧ t.outbox = s.outbox) ∧
  (∀ s : State, s.power.en = true → exec .thermtripRelease s = .next s) ∧
  ∀ (s : State) (v i p : Fin 65536) (ps : Int), s.power.vin = true →
    ∃ t, exec (.telemetryUpdate v i p ps) s = .next t ∧ t.rd F.VIN.VAL = v ∧ t.rd F.IIN.VAL = i ∧ t.rd F.PIN.VAL = p ∧
      t.rdS F.PS_TEMP.TEMP = satS 16 ps ∧ t.sb.off = !s.power.mainUp ∧ t.sb.pgBad = !s.power.pgood ∧
      t.therm.vinLowMs = (if v.val < s.rd F.VIN_LIMITS.VIN_LOW then s.therm.vinLowMs + 1 else 0) ∧
      (s.therm.vinLowMs = 10 → v.val < s.rd F.VIN_LIMITS.VIN_LOW → t.flag Src.POWER.VIN_LOW.real = true) ∧
      t.mem = s.mem)

/-- The trip ring: a committed record lies in its slot and the sequence goes on; a program error raises TRIP_RING and moves
the record on to the next slot; a read command shows the slot's 64 bytes and whether they are a record; an erase takes up
every used slot, and at its end those slots are free; an erase error raises TRIP_RING and moves the recorder on; a refused
erase raises TRIP_RING and erases nothing. Concludes that these answer a next state: tripRecordCommit, tripRdCmd,
ringCmdErase, tripRingEraseDone. -/
def Obligations.TripRingCommandsTakeEffect : Prop :=
  (∀ (s : State) (k : Nat) (bs : List Byte), s.power.vin = true → s.therm.part = some (k, bs) → k < 2048 →
    ∃ t, exec (.tripRecordCommit false) s = .next t ∧ t.therm.part = none ∧ t.therm.ring.lookup k = some bs ∧
      t.rd F.THERMAL_RING_STATUS.NEXT = (k + 1) % 2048 ∧ t.rd F.RING_SEQ.SEQ = (s.rd F.RING_SEQ.SEQ + 1) % 2 ^ 32 ∧
      t.therm.trip = s.therm.trip ∧ t.mem = s.mem) ∧
  (∀ (s : State) (k : Nat) (bs : List Byte), s.power.vin = true → s.therm.part = some (k, bs) → k < 2048 →
    ∃ t, exec (.tripRecordCommit true) s = .next t ∧ t.therm.part = some ((k + 1) % 2048, bs) ∧
      t.rd F.THERMAL_RING_STATUS.NEXT = (k + 1) % 2048 ∧ t.rd F.RING_SEQ.SEQ = s.rd F.RING_SEQ.SEQ ∧
      t.flag Src.THERMAL.TRIP_RING.real = true ∧ t.mem = s.mem) ∧
  (∀ (s : State) (m : Master) (k : Fin 2048), s.writeAccess m F.TRIP_RD_CMD.SLOT.addr = .ok →
    ∃ t, exec (.tripRdCmd m k) s = .next t ∧ t.flag F.TRIP_RD_STATUS.DONE = true ∧
      t.flag F.TRIP_RD_STATUS.VALID = recordOk (s.slotBytes k) ∧
      (∀ i, i < 16 → t.rd (F.TRIP_RD_DATA.WORD i) = leNat (((s.slotBytes k).drop (4 * i)).take 4)) ∧
      t.therm = s.therm ∧ t.mem = s.mem ∧ t.outbox = s.outbox) ∧
  (∀ (s : State) (m : Master), s.writeAccess m F.RING_CMD.ERASE.addr = .ok → s.therm.trip = false →
    s.therm.erasing = none →
    ∃ t, exec (.ringCmdErase m) s = .next t ∧ t.therm = { s.therm with erasing := some (s.therm.ring.map (·.1)) } ∧
      t.flag F.THERMAL_RING_STATUS.ERASING = true ∧
      (∀ a, a ≠ F.THERMAL_RING_STATUS.ERASING.addr → t.word a = s.word a) ∧ t.mem = s.mem) ∧
  (∀ (s : State) (m : Master), s.writeAccess m F.RING_CMD.ERASE.addr = .ok → s.power.vin = true →
    (s.therm.trip = true ∨ s.therm.erasing.isSome = true) →
    ∃ t, exec (.ringCmdErase m) s = .next t ∧ t.therm = s.therm ∧ t.flag Src.THERMAL.TRIP_RING.real = true) ∧
  (∀ (s : State) (ks : List Nat), s.power.vin = true → s.therm.erasing = some ks →
    ∃ t, exec (.tripRingEraseDone true) s = .next t ∧ t.therm.erasing = none ∧
      t.flag F.THERMAL_RING_STATUS.ERASING = false ∧
      t.rd F.THERMAL_RING_STATUS.NEXT = (s.rd F.THERMAL_RING_STATUS.NEXT + 1) % 2048 ∧
      t.flag Src.THERMAL.TRIP_RING.real = true ∧ t.mem = s.mem) ∧
  ∀ (s : State) (ks : List Nat), s.power.vin = true → s.therm.erasing = some ks →
    ∃ t, exec (.tripRingEraseDone false) s = .next t ∧ t.therm.erasing = none ∧
      t.therm.ring = s.therm.ring.filter (fun e => !ks.contains e.1) ∧
      t.flag F.THERMAL_RING_STATUS.ERASING = false ∧
      (∀ a, a ≠ F.THERMAL_RING_STATUS.ERASING.addr → t.word a = s.word a) ∧ t.mem = s.mem

/-- Calibration by the device: PERIOD makes a tile with AUTO due; a due tile whose every condition holds starts, where no
tile before it starts at the same scan start; a good measurement is staged and a failed one ends the calibration with
CAL_FAIL; the apply instant, where no strobe is to carry the trims and none is near, loads them and ends it with its result,
and a tile none of whose channels moved is no longer due; a tile due too long is reported; a FULL calibration ends with its
result or fails. Concludes that these answer a next state: calPeriodExpiry, calStart, calMeasurementEnd, calTrimApply,
calLate, fullCalDone. -/
def Obligations.CalibrationRunsToItsResult : Prop :=
  (∀ (s : State) (x : Fin 76), s.power.mainUp = true → s.rd F.CAL_PERIOD.MINUTES ≠ 0 →
    (s.rd (F.CAL_AUTO.AUTO (x / 32))).testBit (x % 32) = true →
    ∃ t, exec (.calPeriodExpiry x) s = .next t ∧ t.flag (F.TILE_CAL_STAT.DUE x) = true ∧
      t.rd (F.TILE_CAL_STAT.CAUSE x) = s.rd (F.TILE_CAL_STAT.CAUSE x) ||| 4 ∧ t.calib = s.calib ∧ t.mem = s.mem) ∧
  (∀ (s : State) (x : Fin 76), s.power.mainUp = true → s.calMayStart x = true →
    (∀ u, u < x.val → (s.tile u).scanAt = some s.clock → s.calMayStart u = false) →
    ∃ t, exec (.calStart x) s = .next t ∧ t.calib.runs.lookup x.val = some ⟨1, s.clock, none, 0⟩ ∧
      t.flag (F.TILE_CAL_STAT.BUSY x) = true ∧ t.flag (F.TILE_CAL_STAT.DUE x) = true ∧ t.tiles = s.tiles ∧ t.mem = s.mem) ∧
  (∀ (s : State) (x : Fin 76) (r : CalMeasure) (run : CalRun), s.power.mainUp = true →
    s.calib.runs.lookup x.val = some run → run.kind = 1 → run.staged = none → r.failed = false →
    ∃ t, exec (.calMeasurementEnd x r) s = .next t ∧
      t.calib.runs.lookup x.val = some { run with staged := some (s.newTrims x run r).1 } ∧
      t.tiles = s.tiles ∧ t.mem = s.mem) ∧
  (∀ (s : State) (x : Fin 76) (r : CalMeasure) (run : CalRun), s.power.mainUp = true → s.power.vin = true →
    s.calib.runs.lookup x.val = some run → run.kind = 1 → run.staged = none → r.failed = true →
    ∃ t, exec (.calMeasurementEnd x r) s = .next t ∧ t.calRunning x = false ∧
      t.rd F.CAL_STATUS.RESULT = 3 ∧ t.flag Src.CALIB.CAL_FAIL.real = true ∧
      t.flag (F.TILE_CAL_STAT.DUE x) = s.flag (F.TILE_CAL_STAT.DUE x)) ∧
  (∀ (s : State) (x : Fin 76) (run : CalRun) (ws : List (Nat × Word)), s.power.mainUp = true →
    s.calib.runs.lookup x.val = some run → run.staged = some ws → run.touched = 0 → s.trimsAtStrobe = false →
    s.strobeNear = false →
    ∃ t, exec (.calTrimApply x) s = .next t ∧ t.calRunning x = false ∧ t.rd F.CAL_STATUS.RESULT = 1 ∧
      t.rd F.CAL_STATUS.LAST_TILE = x ∧ t.flag (F.TILE_CAL_STAT.DUE x) = false ∧
      t.flag (F.TILE_CAL_STAT.BUSY x) = false ∧ t.flag (F.STAGED.PENDING x) = false ∧
      ((ws.map (·.1)).Nodup → (∀ e ∈ ws, e.1 ∈ trimWords) → ∀ e ∈ ws, t.word (calWordAddr x e.1) = e.2) ∧
      t.mem = s.mem) ∧
  (∀ (s : State) (x : Fin 76), s.power.mainUp = true → s.power.vin = true → s.flag (F.TILE_CAL_STAT.DUE x) = true →
    ∃ t, exec (.calLate x) s = .next t ∧ t.flag Src.CALIB.CAL_LATE.real = true ∧ t.calib = s.calib ∧ t.mem = s.mem) ∧
  (∀ (s : State) (x : Fin 76) (r : CalMeasure) (run : CalRun), s.power.mainUp = true → s.power.vin = true →
    s.calib.runs.lookup x.val = some run → run.kind = 0 → r.failed = true →
    ∃ t, exec (.fullCalDone x r) s = .next t ∧ t.calRunning x = false ∧ t.rd F.CAL_STATUS.RESULT = 3 ∧
      t.flag Src.CALIB.CAL_FAIL.real = true ∧ t.mem = s.mem) ∧
  ∀ (s : State) (x : Fin 76) (r : CalMeasure) (run : CalRun), s.power.mainUp = true →
    s.calib.runs.lookup x.val = some run → run.kind = 0 → r.failed = false →
    ∃ t, exec (.fullCalDone x r) s = .next t ∧ t.calRunning x = false ∧ t.rd F.CAL_STATUS.RESULT = 1 ∧
      t.rd (F.TILE_CAL_STAT.KIND x) = 0 ∧ t.flag (F.TILE_CAL_STAT.BUSY x) = false ∧ t.mem = s.mem

/-- Calibration commands: GO makes the named tiles due with cause HOST; FULL starts on a ready tile with both enables 0 and
is refused with either set; LOAD starts on the named tiles that are ready; ABORT ends a running calibration with RESULT 2 and
as RESIDUE the phases not completed, of which, before the trims are staged, the spec gives bounds, and is ignored, and says
so, where none runs; a mirror write is staged, and refused while the tile calibrates; the Sillage pair is calibrated while
sampling is off, is refused while it is on, and its coefficients then take effect. Concludes that these answer a next state:
calCmdGo, calCmdFull, calCmdLoad, calCmdAbort, calMirrorWrite, silCalGo, silCalDone. -/
def Obligations.CalibrationCommandsTakeEffect : Prop :=
  (∀ (s : State) (m : Master) (x u : Fin 76) (all : Bool), s.writeAccess m F.CAL_CMD.GO.addr = .ok →
    (all = true ∨ u = x) → s.calRunning u = false →
    ∃ t, exec (.calCmdGo m x all) s = .next t ∧ t.flag (F.TILE_CAL_STAT.DUE u) = true ∧
      t.rd (F.TILE_CAL_STAT.CAUSE u) = s.rd (F.TILE_CAL_STAT.CAUSE u) ||| 8 ∧ t.calib = s.calib ∧ t.mem = s.mem) ∧
  (∀ (s : State) (m : Master) (x : Fin 76), s.writeAccess m F.CAL_CMD.FULL.addr = .ok →
    s.flag (F.DRV_ENABLE.POCK_EN x) = false → s.flag (F.DRV_ENABLE.HTR_EN x) = false → s.calRunning x = false →
    s.tileReady x = true → s.calBarred = false →
    ∃ t, exec (.calCmdFull m x) s = .next t ∧ t.calib.runs.lookup x.val = some ⟨0, s.clock, none, 0⟩ ∧
      t.flag (F.TILE_CAL_STAT.BUSY x) = true ∧ t.mem = s.mem) ∧
  (∀ (s : State) (m : Master) (x : Fin 76), s.writeAccess m F.CAL_CMD.FULL.addr = .ok → s.power.vin = true →
    s.power.mainUp = true → (s.flag (F.DRV_ENABLE.POCK_EN x) = true ∨ s.flag (F.DRV_ENABLE.HTR_EN x) = true) →
    ∃ t, exec (.calCmdFull m x) s = .next t ∧ t.calib = s.calib ∧ t.flag Src.CALIB.CAL_REFUSED.real = true) ∧
  (∀ (s : State) (m : Master) (x u : Fin 76) (all : Bool), s.writeAccess m F.CAL_CMD.LOAD.addr = .ok →
    (all = true ∨ u = x) → s.calRunning u = false → s.tileReady u = true → s.calBarred = false →
    ∃ t, exec (.calCmdLoad m x all) s = .next t ∧ t.calib.runs.lookup u.val = some ⟨2, s.clock, some [], 0⟩ ∧
      t.flag (F.TILE_CAL_STAT.BUSY u) = true ∧ t.mem = s.mem) ∧
  (∀ (s : State) (m : Master) (x : Fin 76) (run : CalRun), s.writeAccess m F.CAL_CMD.ABORT.addr = .ok →
    s.calib.runs.lookup x.val = some run →
    ∃ t, exec (.calCmdAbort m x) s = .next t ∧ t.calRunning x = false ∧ t.rd F.CAL_STATUS.RESULT = 2 ∧
      (if run.staged.isSome then t.rd F.CAL_STATUS.RESIDUE = 1
       else if run.kind = 1 then 2 ≤ t.rd F.CAL_STATUS.RESIDUE ∧
         t.rd F.CAL_STATUS.RESIDUE ≤ 2 + (phaseBounds.filter fun b => decide (s.clock - run.since < b)).length
       else 1 ≤ t.rd F.CAL_STATUS.RESIDUE ∧ t.rd F.CAL_STATUS.RESIDUE ≤ 7) ∧
      t.flag F.CAL_STATUS.ABORT_IGNORED = false ∧ t.flag (F.TILE_CAL_STAT.BUSY x) = false ∧ t.mem = s.mem) ∧
  (∀ (s : State) (m : Master) (x : Fin 76), s.writeAccess m F.CAL_CMD.ABORT.addr = .ok → s.calRunning x = false →
    ∃ t, exec (.calCmdAbort m x) s = .next t ∧ t.calib = s.calib ∧ t.flag F.CAL_STATUS.ABORT_IGNORED = true ∧
      t.mem = s.mem) ∧
  (∀ (s : State) (m : Master) (x : Fin 76) (k : Fin 131) (w : Word), s.writeAccess m (calWordAddr x k) = .ok →
    s.calRunning x = false →
    ∃ t, exec (.calMirrorWrite m x k w) s = .next t ∧ t.flag (F.STAGED.PENDING x) = true ∧
      t.word (calWordAddr x k) = (if k.val = 0 then withBits (s.word (calWordAddr x k)) 0 16 w.toNat else w) ∧
      t.heldTrim (calWordAddr x k) = s.heldTrim (calWordAddr x k) ∧ t.mem = s.mem ∧ t.outbox = s.outbox) ∧
  (∀ (s : State) (m : Master) (x : Fin 76) (k : Fin 131) (w : Word), s.writeAccess m (calWordAddr x k) = .ok →
    s.power.vin = true → s.power.mainUp = true → s.calRunning x = true →
    ∃ t, exec (.calMirrorWrite m x k w) s = .next t ∧ t.word (calWordAddr x k) = s.word (calWordAddr x k) ∧
      t.calib = s.calib ∧ t.flag Src.CALIB.CAL_REFUSED.real = true ∧ t.mem = s.mem) ∧
  (∀ (s : State) (m : Master), s.writeAccess m F.SIL_CAL.GO.addr = .ok → s.flag F.SIL_CTRL.ENABLE = true →
    s.power.vin = true → s.power.mainUp = true →
    ∃ t, exec (.silCalGo m) s = .next t ∧ t.calib = s.calib ∧ t.flag Src.CALIB.CAL_REFUSED.real = true) ∧
  (∀ (s : State) (m : Master), s.writeAccess m F.SIL_CAL.GO.addr = .ok → s.flag F.SIL_CTRL.ENABLE = false →
    exec (.silCalGo m) s = .next { s with calib := { s.calib with sil := true } }) ∧
  ∀ (s : State) (w : Word), s.power.mainUp = true → s.calib.sil = true →
    ∃ t, exec (.silCalDone w) s = .next t ∧ t.calib = { s.calib with sil := false } ∧ t.word F.SIL_COEF.OFS0.addr = w ∧
      t.flag F.SIL_CAL.DONE = true ∧
      (∀ a, a ≠ F.SIL_COEF.OFS0.addr → a ≠ F.SIL_CAL.DONE.addr → t.word a = s.word a) ∧ t.mem = s.mem

/-- The re-plan: the timer and NOW start a pass in service; NOW out of service or within an hour of the last is refused; in
service a window's end goes on to the next course and counts the loops it evaluated, none where nothing is known of them, and
after course 18 completes the pass; ABORT ends a running pass with the loops not evaluated, and is ignored otherwise.
Concludes that these answer a next state: replanTimer, replanCmdNow, replanCmdAbort, replanWindowEnd. -/
def Obligations.ReplanPassesTakeEffect : Prop :=
  (∀ s : State, s.power.mainUp = true → s.start = 4 → s.replan.running = false →
    ∃ t, exec .replanTimer s = .next t ∧ t.replan.running = true ∧ t.replan.lastStart = some s.clock ∧
      t.flag F.REPLAN_STATUS.RUNNING = true ∧ t.rd F.REPLAN_STATUS.COURSE = 0 ∧ t.replan.done = 0 ∧ t.mem = s.mem) ∧
  (∀ (s : State) (m : Master), s.writeAccess m F.REPLAN_CMD.NOW.addr = .ok → s.start = 4 → s.passRecent = false →
    ∃ t, exec (.replanCmdNow m) s = .next t ∧ t.replan.running = true ∧ t.replan.lastStart = some s.clock ∧
      t.flag F.REPLAN_STATUS.RUNNING = true ∧ t.rd F.REPLAN_STATUS.COURSE = 0 ∧ t.mem = s.mem) ∧
  (∀ (s : State) (m : Master), s.writeAccess m F.REPLAN_CMD.NOW.addr = .ok → (s.start ≠ 4 ∨ s.passRecent = true) → s.power.vin = true →
    s.power.mainUp = true →
    ∃ t, exec (.replanCmdNow m) s = .next t ∧ t.replan = s.replan ∧ t.flag Src.AGEING.REPLAN_REFUSED.real = true) ∧
  (∀ (s : State) (m : Master), s.writeAccess m F.REPLAN_CMD.ABORT.addr = .ok → s.replan.running = true →
    ∃ t, exec (.replanCmdAbort m) s = .next t ∧ t.replan = { s.replan with running := false } ∧
      t.rd F.REPLAN_STATUS.RESULT = 2 ∧ t.rd F.REPLAN_STATUS.RESIDUE = 4864 - s.replan.done ∧
      t.flag F.REPLAN_STATUS.RUNNING = false ∧ t.mem = s.mem) ∧
  (∀ (s : State) (m : Master), s.writeAccess m F.REPLAN_CMD.ABORT.addr = .ok → s.replan.running = false →
    ∃ t, exec (.replanCmdAbort m) s = .next t ∧ t.replan = s.replan ∧ t.flag F.REPLAN_STATUS.ABORT_IGNORED = true ∧
      t.mem = s.mem) ∧
  (∀ (s : State) (obs : List LoopObs), s.power.mainUp = true → s.replan.running = true → s.start = 4 →
    s.rd F.REPLAN_STATUS.COURSE < 18 →
    ∃ t, exec (.replanWindowEnd obs) s = .next t ∧ t.replan.running = true ∧ s.replan.done ≤ t.replan.done ∧
      t.replan.done ≤ s.replan.done + 256 ∧ (obs = [] → t.replan.done = s.replan.done) ∧
      t.rd F.REPLAN_STATUS.COURSE = s.rd F.REPLAN_STATUS.COURSE + 1) ∧
  ∀ (s : State) (obs : List LoopObs), s.power.mainUp = true → s.replan.running = true → s.start = 4 →
    s.rd F.REPLAN_STATUS.COURSE = 18 →
    ∃ t, exec (.replanWindowEnd obs) s = .next t ∧ t.replan.running = false ∧ t.rd F.REPLAN_STATUS.RESULT = 1 ∧
      t.rd F.REPLAN_STATUS.RESIDUE = 0 ∧ t.flag F.REPLAN_STATUS.RUNNING = false

/-! ## Starts and the tick (chapters 11, 13) -/

/-- A cold start begins with STATE COLD, KIND 0, RETAIN_OK and WARM_FAILS cleared, the straps sampled, and the main side up
with nothing of its former work: no transfers, no capture, no message waiting, the host function's configuration reset,
memory that holds nothing (the model's choice, log 61). SEAL latches stay. What begins a cold start. Main-side reset release
with the rails good, a COLD_RST# pulse of at least 10 µs outside PARKED, and an accepted START_CMD.COLD each begin it, once
in a clock cycle: a sideband not alive at the first release parks it at step 2 with cause 1, a flash read that fails more
than three times at step 3 with cause 2, both raising PARKED; an image that passes its checks goes on to step 4. A pulse
under 10 µs changes nothing; in PARKED the pin is ignored and reported; a START_CMD.COLD outside its states or by an internal
master is refused. Concludes that these answer a next state: mainResetRelease, coldRstRelease, startCmdCold. -/
def Obligations.ColdStartBeginsAndIsCommanded : Prop :=
  (∀ (s : State) (env : StartEnv),
    (s.beginCold env).power = { s.power with mainUp := true } ∧ (s.beginCold env).start = 1 ∧
      (s.beginCold env).rd F.START_STATUS.KIND = 0 ∧ (s.beginCold env).rd F.START_STATUS.STEP = 3 ∧
      (s.beginCold env).flag F.START_STATUS.RETAIN_OK = false ∧ (s.beginCold env).rd F.START_STATUS.WARM_FAILS = 0 ∧
      (s.beginCold env).flag F.STRAPS.ROLE = env.role ∧ (s.beginCold env).rd F.STRAPS.UNIT_ID = env.unit ∧
      (s.beginCold env).dma = [] ∧ (s.beginCold env).issueq = [] ∧ (s.beginCold env).sil = State.reset.sil ∧
      (s.beginCold env).pcie = State.reset.pcie ∧ (s.beginCold env).mem = [] ∧
      ∀ x ∈ s.seals, x ∈ (s.beginCold env).seals) ∧
  ((∀ (s : State) (env : StartEnv), s.power.vin = true → s.power.en = true → s.power.rails = true → s.power.pgood = true →
    s.power.mainUp = false → s.power.sideband = false → env.sideband = false →
    ∃ t, exec (.mainResetRelease env) s = .next t ∧ t.power = { s.power with mainUp := true } ∧ t.start = 5 ∧
      t.rd F.PARK_CAUSE.CAUSE = 1 ∧ t.rd F.PARK_CAUSE.STEP = 2 ∧ t.flag Src.START.PARKED.real = true) ∧
  (∀ (s : State) (env : StartEnv), s.power.vin = true → s.power.en = true → s.power.rails = true → s.power.pgood = true →
    s.power.mainUp = false → (s.power.sideband = true ∨ env.sideband = true) → 3 < env.first.errors →
    ∃ t, exec (.mainResetRelease env) s = .next t ∧
      t.power = { s.power with mainUp := true, sideband := true } ∧ t.start = 5 ∧
      t.rd F.PARK_CAUSE.CAUSE = 2 ∧ t.rd F.PARK_CAUSE.STEP = 3 ∧ t.flag Src.START.PARKED.real = true) ∧
  (∀ (s : State) (env : StartEnv) (segs : List Segment), s.power.vin = true → s.power.en = true → s.power.rails = true →
    s.power.pgood = true → s.power.mainUp = false → (s.power.sideband = true ∨ env.sideband = true) → env.first.errors = 0 →
    (let u := { s with power := { s.power with sideband := true } }.coldLoaded env
     u.checkImage (env.first.image env.bootSrc) env.role = .ok segs →
     exec (.mainResetRelease env) s = .next (u.applyStart env))) ∧
  (∀ (s : State) (n : Nat) (env : StartEnv), n < 10000 → exec (.coldRstRelease n env) s = .next s) ∧
  (∀ (s : State) (n : Nat) (env : StartEnv) (segs : List Segment), 10000 ≤ n → s.power.mainUp = true → s.start ≠ 5 →
    s.startedNow true = false → env.first.errors = 0 →
    (let u := (s.noteTrigger true).coldLoaded env
     u.checkImage (env.first.image env.bootSrc) env.role = .ok segs →
     exec (.coldRstRelease n env) s = .next (u.applyStart env))) ∧
  (∀ (s : State) (n : Nat) (env : StartEnv), s.power.mainUp = true → s.startedNow true = true →
    exec (.coldRstRelease n env) s = .next s) ∧
  (∀ (s : State) (n : Nat) (env : StartEnv), 10000 ≤ n → s.power.vin = true → s.power.mainUp = true → s.start = 5 →
    s.startedNow true = false →
    ∃ t, exec (.coldRstRelease n env) s = .next t ∧ t.start = 5 ∧ t.flag Src.START.PIN_IGNORED.real = true ∧
      t.mem = s.mem ∧ t.tiles = s.tiles ∧ t.plane = s.plane) ∧
  (∀ (s : State) (m : Master) (env : StartEnv) (segs : List Segment), (m = .m3 ∨ m = .m4) →
    s.writeAccess m F.START_CMD.COLD.addr = .ok → s.power.mainUp = true → s.coldAccepted = true →
    s.startedNow true = false → env.first.errors = 0 →
    (let u := (s.noteTrigger true).coldLoaded env
     u.checkImage (env.first.image env.bootSrc) env.role = .ok segs →
     exec (.startCmdCold m env) s = .next (u.applyStart env))) ∧
  ∀ (s : State) (m : Master) (env : StartEnv), s.writeAccess m F.START_CMD.COLD.addr = .ok → s.power.vin = true →
    s.power.mainUp = true → s.startedNow true = false → (s.coldAccepted = false ∨ m ≠ .m3 ∧ m ≠ .m4) →
    ∃ t, exec (.startCmdCold m env) s = .next t ∧ t.start = s.start ∧ t.flag Src.START.START_REFUSED.real = true ∧
      t.mem = s.mem ∧ t.tiles = s.tiles ∧ t.plane = s.plane)

/-- What begins a warm start: the pin low for at least 1 µs in GATED or SERVING, or START_CMD.WARM there, makes STATE WARM
with KIND 1 and suspends Mortar's resynchronised channels, from the trigger on. A shorter pulse, and a trigger in the clock
cycle of another that began a start, change nothing; in PARKED the pin is ignored and reported; START_CMD.WARM in COLD or
WARM, in PARKED where a warm start cannot follow, or by an internal master is refused. A warm start stops strobes and drops
what was in flight, whatever its outcome; a header that cannot be read parks it with its outputs frozen and every loop held.
Concludes that these answer a next state: warmRstAssert, startCmdWarm, warmStart. -/
def Obligations.WarmStartIsTriggeredAndStops : Prop :=
  ((∀ (s : State) (n : Nat), 1000 ≤ n → s.power.mainUp = true → s.startedNow false = false →
    (s.start = 3 ∨ s.start = 4) →
    ∃ t, exec (.warmRstAssert n) s = .next t ∧ t.start = 2 ∧ t.rd F.START_STATUS.KIND = 1 ∧
      t.rd F.START_STATUS.STEP = 1 ∧ t.flag F.MORTAR_STATUS.SUSPENDED = true ∧ t.plane = s.plane ∧ t.tiles = s.tiles ∧
      t.mem = s.mem) ∧
  (∀ (s : State) (n : Nat), (n < 1000 ∨ s.startedNow false = true) → exec (.warmRstAssert n) s = .next s) ∧
  (∀ (s : State) (m : Master), s.writeAccess m F.START_CMD.COLD.addr = .ok → s.startedNow false = true →
    exec (.startCmdWarm m) s = .next s) ∧
  (∀ (s : State) (n : Nat), 1000 ≤ n → s.power.mainUp = true → s.power.vin = true →
    s.startedNow false = false → s.start = 5 →
    ∃ t, exec (.warmRstAssert n) s = .next t ∧ t.start = 5 ∧ t.flag Src.START.PIN_IGNORED.real = true ∧ t.mem = s.mem) ∧
  (∀ (s : State) (m : Master), (m = .m3 ∨ m = .m4) → s.writeAccess m F.START_CMD.COLD.addr = .ok → s.power.mainUp = true →
    s.startedNow false = false →
    (s.start = 3 ∨ s.start = 4 ∨
      (s.start = 5 ∧ s.flag F.START_STATUS.RETAIN_OK = true ∧ s.rd F.START_STATUS.WARM_FAILS < 3)) →
    ∃ t, exec (.startCmdWarm m) s = .next t ∧ t.start = 2 ∧ t.rd F.START_STATUS.KIND = 1 ∧
      t.rd F.START_STATUS.STEP = 1 ∧ t.flag F.MORTAR_STATUS.SUSPENDED = true ∧ t.plane = s.plane ∧ t.mem = s.mem) ∧
  ∀ (s : State) (m : Master), s.writeAccess m F.START_CMD.COLD.addr = .ok → s.power.mainUp = true → s.power.vin = true →
    s.startedNow false = false → (m ≠ .m3 ∧ m ≠ .m4 ∨ s.start = 1 ∨ s.start = 2 ∨
      (s.start = 5 ∧ (s.flag F.START_STATUS.RETAIN_OK = false ∨ 3 ≤ s.rd F.START_STATUS.WARM_FAILS))) →
    ∃ t, exec (.startCmdWarm m) s = .next t ∧ t.start = s.start ∧ t.flag Src.START.START_REFUSED.real = true ∧
      t.plane = s.plane ∧ t.mem = s.mem) ∧
  (∀ (s : State) (env : WarmEnv), s.power.mainUp = true → s.start = 2 → s.rd F.START_STATUS.STEP = 1 →
    ∃ t, exec (.warmStart env) s = .next t ∧ t.plane.quiet = true ∧ t.parser.recirc = [] ∧ t.parser.slow = [] ∧
      t.time.txFifo = [] ∧ t.replan.running = false ∧ t.power = s.power ∧
      (3 < env.header.errors → t.start = 5 ∧ t.rd F.PARK_CAUSE.CAUSE = 2 ∧ t.rd F.PARK_CAUSE.STEP = 0x82 ∧
        t.warmHold = BitVec.allOnes 19))

/-- Service: SERVE in GATED runs step 9: with a standing record that obeys the plane's rules and every alternate of ARM_MASK
armed it comes to step 10 with STANDING_SEQ 1, and with a standing record that does not it parks with cause 16; elsewhere it
is refused; the strobe of step 10, or of W5, makes STATE SERVING, lets strobes run and ends Mortar's suspension; ABORT of a
characterisation not complete parks the device with its loops left, of a complete one is ignored, says so and lets the start
go on, and with none changes nothing. Concludes that these answer a next state: startCmdServe, serviceStart, warmResume,
startCmdAbort. -/
def Obligations.ServiceBeginsOrIsAborted : Prop :=
  (∀ (s : State) (m : Master), s.writeAccess m F.START_CMD.COLD.addr = .ok → s.power.mainUp = true → s.start = 3 →
    (let a := { s.record (standRecord 0) with kind := 2, index := 0, seq := 1 }.seal
     let u := ((((s.wr F.START_STATUS.STATE 1).wr F.START_STATUS.STEP 9).setRecord (standRecord 0) a).wr F.STANDING_SEQ.SEQ 1).wr
       F.STANDING_STATUS.ACTIVE 0
     s.standingBad a = false → u.armAll.2 = [] →
     ∃ t, exec (.startCmdServe m) s = .next t ∧ t = u.armAll.1.wr F.START_STATUS.STEP 10 ∧ t.start = 1 ∧
       t.rd F.START_STATUS.STEP = 10 ∧ t.rd F.STANDING_SEQ.SEQ = 1 ∧ t.record (standRecord 0) = a ∧ t.mem = s.mem)) ∧
  (∀ (s : State) (m : Master), s.writeAccess m F.START_CMD.COLD.addr = .ok → s.power.mainUp = true → s.power.vin = true →
    s.start = 3 → s.standingBad { s.record (standRecord 0) with kind := 2, index := 0, seq := 1 }.seal = true →
    ∃ t, exec (.startCmdServe m) s = .next t ∧ t.start = 5 ∧ t.rd F.PARK_CAUSE.CAUSE = 16 ∧ t.rd F.PARK_CAUSE.STEP = 9 ∧
      t.flag Src.START.PARKED.real = true ∧ t.mem = s.mem) ∧
  (∀ (s : State) (m : Master), s.writeAccess m F.START_CMD.COLD.addr = .ok → s.power.mainUp = true → s.power.vin = true →
    s.start ≠ 3 →
    ∃ t, exec (.startCmdServe m) s = .next t ∧ t.start = s.start ∧ t.flag Src.START.START_REFUSED.real = true ∧
      t.plane = s.plane ∧ t.mem = s.mem) ∧
  (∀ s : State, s.power.mainUp = true → s.start = 1 → s.rd F.START_STATUS.STEP = 10 → s.preEpoch = false →
    ∃ t, exec .serviceStart s = .next t ∧ t.start = 4 ∧ t.plane.quiet = false ∧ t.lanesFrom = some s.clock ∧
      t.flag F.MORTAR_STATUS.SUSPENDED = false ∧ t.rd F.START_STATUS.WARM_FAILS = 0 ∧ t.power = s.power) ∧
  (∀ s : State, s.power.mainUp = true → s.start = 2 → s.rd F.START_STATUS.STEP = 5 → s.preEpoch = false →
    ∃ t, exec .warmResume s = .next t ∧ t.start = 4 ∧ t.plane.quiet = false ∧ t.lanesFrom = some s.clock ∧
      t.flag F.MORTAR_STATUS.SUSPENDED = false ∧ t.rd F.START_STATUS.WARM_FAILS = 0 ∧ t.power = s.power) ∧
  (∀ (s : State) (m : Master) (x : Starting), s.writeAccess m F.START_CMD.COLD.addr = .ok → s.power.mainUp = true →
    s.starting = some x → x.char.complete = true →
    exec (.startCmdAbort m) s = .next ((s.setFlag F.CHAR_ABORT.ABORT_IGNORED true).characterise x.char x.init)) ∧
  (∀ (s : State) (m : Master), s.writeAccess m F.START_CMD.COLD.addr = .ok → s.starting = none →
    exec (.startCmdAbort m) s = .next s) ∧
  ∀ (s : State) (m : Master) (x : Starting), s.writeAccess m F.START_CMD.COLD.addr = .ok → s.power.mainUp = true →
    s.power.vin = true → s.starting = some x → x.char.complete = false →
    ∃ t, exec (.startCmdAbort m) s = .next t ∧ t.start = 5 ∧ t.rd F.PARK_CAUSE.CAUSE = 14 ∧
      t.rd F.PARK_CAUSE.STEP = 7 ∧ t.rd F.CHAR_STATUS.RESULT = 2 ∧ t.starting = none ∧
      t.flag Src.START.PARKED.real = true

/-- The 250 MHz tick: 4 ns of the model's clock pass, and the counter of network time gains exactly the increment in force
and the tick's share of a slew, which the slew loses. A step of network time is requested when its conditions hold and
refused otherwise; at the next frame boundary the counter takes the asked time, the slew ends, TIME_STEP is raised and
strobes wait for a later frame. A boundary without a step is taken once, and none before FRAME_EPOCH. Concludes that these
answer a next state: timeTick, stepCmd, frameBoundary. -/
def Obligations.TicksAndTimeStepsMoveTheCounter : Prop :=
  (∀ s : State, s.power.mainUp = true → s.starting = none → 0 ≤ (s.fineTime : Int) + s.timeInc + s.slewShare →
    ∃ t, exec .timeTick s = .next t ∧ t.clock = s.clock + 4 ∧
      (t.fineTime : Int) = s.fineTime + s.timeInc + s.slewShare ∧ t.time.slew = s.time.slew - s.slewShare ∧
      t.time.slew.natAbs ≤ s.time.slew.natAbs ∧ t.time.ns < 10 ^ 9 ∧ t.mem = s.mem) ∧
  ((∀ (s : State) (m : Master) (rel : Bool), s.writeAccess m F.STEP_CMD.GO.addr = .ok →
    s.stepBarred (s.stepAsked rel) = false →
    ∃ t, exec (.stepCmd m rel) s = .next t ∧ t.time = { s.time with step := some (s.stepAsked rel) } ∧
      t.flag F.TIME_STATUS.STEP_PENDING = true ∧
      (∀ a, a ≠ F.TIME_STATUS.STEP_PENDING.addr → t.word a = s.word a) ∧ t.mem = s.mem) ∧
  (∀ (s : State) (m : Master) (rel : Bool), s.writeAccess m F.STEP_CMD.GO.addr = .ok → s.power.vin = true →
    s.power.mainUp = true → s.stepBarred (s.stepAsked rel) = true →
    ∃ t, exec (.stepCmd m rel) s = .next t ∧ t.time = s.time ∧ t.flag Src.TIME.TIME_REFUSED.real = true ∧ t.mem = s.mem) ∧
  (∀ (s : State) (r : StepReq), s.power.mainUp = true → s.power.vin = true → s.preEpoch = false →
    s.plane.lastFrame ≠ some s.frame → s.time.step = some r →
    ∃ t, exec .frameBoundary s = .next t ∧ t.fineTime = r.target s.fineTime ∧ t.time.step = none ∧ t.time.slew = 0 ∧
      t.time.resumeFrame.isSome = true ∧ t.flag Src.TIME.TIME_STEP.real = true ∧ t.power = s.power) ∧
  (∀ s : State, s.power.mainUp = true → s.preEpoch = false → s.plane.lastFrame ≠ some s.frame → s.time.step = none →
    ∃ t, exec .frameBoundary s = .next t ∧ t.plane.lastFrame = some s.frame ∧ t.time.sec = s.time.sec ∧
      t.time.ns = s.time.ns ∧ t.power = s.power) ∧
  ∀ s : State, (s.preEpoch = true ∨ s.plane.lastFrame = some s.frame) → exec .frameBoundary s = .next s)

/-! ## The drive side of the tiles (chapter 03) -/

/-- Drive rails. A rail becoming good, the main rails up, puts every tile of its die at its power-up outputs: enables, active
codes and open shutters 0, outputs clamped, heaters at zero, shutters closed; a rail failing leaves its tiles undriven with
their shutters open, is reported by each of them and ends their calibrations. DRV_ENABLE: the enables take the written bits;
clearing one clamps or zeroes its outputs at once, setting one releases nothing yet. Concludes that these answer a next
state: driveRailGood, driveRailFail, drvEnableWrite. -/
def Obligations.DriveRailsAndEnablesClamp : Prop :=
  ((∀ (s : State) (d : Fin 4) (x : Fin 76), s.power.rails = true → x.val / 19 = d.val →
    ∃ t, exec (.driveRailGood d) s = .next t ∧ t.power.drive.getLsbD d = true ∧
      t.flag (F.DRV_ENABLE.POCK_EN x) = false ∧ t.flag (F.DRV_ENABLE.HTR_EN x) = false ∧ (t.tile x).pockFree = false ∧
      (t.tile x).htrFree = 0 ∧ t.rdW (F.SHUT_ACT x) = 0 ∧
      (∀ ch, ch < 64 → t.rd (F.POCK_ACT.ACT0 x ch) = 0 ∧ t.rd (F.POCK_ACT.ACT1 x ch) = 0 ∧
        t.rd (F.HTR_ACT.ACT_CODE x ch) = 0 ∧ t.pockOutput x ch = 0 ∧ t.heaterOutput x ch = 0 ∧ t.shutterOpen x ch = false) ∧
      t.mem = s.mem ∧ t.outbox = s.outbox) ∧
  (∀ (s : State) (d : Fin 4), s.power.rails = false → exec (.driveRailGood d) s = .next s) ∧
  ∀ (s : State) (d : Fin 4) (x : Fin 76), s.power.vin = true → s.power.mainUp = true → x.val / 19 = d.val →
    ∃ t, exec (.driveRailFail d) s = .next t ∧ t.power.drive.getLsbD d = false ∧ t.calRunning x = false ∧
      t.flag (Src.DRIVE.DRV_RAIL x).real = true ∧
      (∀ ch, t.pockOutput x ch = 0 ∧ t.heaterOutput x ch = 0 ∧ t.shutterOpen x ch = true) ∧ t.mem = s.mem) ∧
  (∀ (s : State) (m : Master) (x : Fin 76) (w : Word), s.writeAccess m (F.DRV_ENABLE.POCK_EN x).addr = .ok →
    s.linkUp x = true →
    ∃ t, exec (.drvEnableWrite m x w) s = .next t ∧ t.flag (F.DRV_ENABLE.POCK_EN x) = w.getLsbD 0 ∧
      t.flag (F.DRV_ENABLE.HTR_EN x) = w.getLsbD 1 ∧
      t.tile x = { s.tile x with
        pockFree := (s.tile x).pockFree && w.getLsbD 0, htrFree := if w.getLsbD 1 then (s.tile x).htrFree else 0 } ∧
      (∀ a, a ≠ (F.DRV_ENABLE.POCK_EN x).addr → t.word a = s.word a) ∧ t.mem = s.mem ∧ t.outbox = s.outbox)

/-- Shadow writes: an allowed write puts its value into the shadow and opens the set, and no active value changes; a host's
write of a code, a range or a heater to a channel whose loop is neither MANUAL nor HELD, its write of a shutter bit that
differs where the loop is not MANUAL, and its write of another SEL, are refused with WRITE_REFUSED and change no shadow.
Seals: an OPEN select, heater or shutter set becomes SEALED; an OPEN ladder set of the selected ladder becomes SEALED, of the
unselected one transfers at once and is EMPTY; the seal of any other set changes nothing, and of a switching tile's shutters.
Concludes that these answer a next state: pockShadowWrite, pockSelShdWrite, htrShdWrite, shutShdWrite, sealSelAll,
sealLadderAll, sealHtrAll, sealShutAll, shutSeal, pockSealL0, pockSealL1, pockSealSel, htrSeal. -/
def Obligations.ShadowWritesOpenAndSealsClose : Prop :=
  ((∀ (s : State) (m : Master) (x : Fin 76) (c : Fin 64) (k : Fin 2) (w : Word), s.writeAccess m (shdCode x c k).addr = .ok →
    s.linkUp x = true → (externalHost m = false ∨ s.hostMayWrite (loopAt x c) = true) →
    ∃ t, exec (.pockShadowWrite m x c k w) s = .next t ∧ t.rd (shdCode x c k) = bitsOf w 0 16 ∧
      t.rd (ladderSet x c k) = 1 ∧ t.rd (actCode x c k) = s.rd (actCode x c k) ∧ t.tiles = s.tiles ∧ t.mem = s.mem ∧
      t.outbox = s.outbox) ∧
  (∀ (s : State) (m : Master) (x : Fin 76) (c : Fin 64) (k : Fin 2) (w : Word), s.writeAccess m (shdCode x c k).addr = .ok →
    s.linkUp x = true → externalHost m = true → s.hostMayWrite (loopAt x c) = false → s.power.vin = true →
    s.power.mainUp = true →
    ∃ t, exec (.pockShadowWrite m x c k w) s = .next t ∧ t.flag (Src.DRIVE.WRITE_REFUSED x).real = true ∧
      t.rd (shdCode x c k) = s.rd (shdCode x c k) ∧ t.rd (ladderSet x c k) = s.rd (ladderSet x c k) ∧ t.mem = s.mem) ∧
  (∀ (s : State) (m : Master) (x : Fin 76) (c : Fin 64) (w : Word), s.writeAccess m (F.POCK_SEL_SHD.SEL x c).addr = .ok →
    s.linkUp x = true →
    (externalHost m = false ∨
      (s.hostMayWrite (loopAt x c) = true ∧ bitsOf w 0 1 = s.rd (F.POCK_SEL_SHD.SEL x c))) →
    ∃ t, exec (.pockSelShdWrite m x c w) s = .next t ∧ t.rd (F.POCK_SEL_SHD.RANGE x c) = bitsOf w 1 1 ∧
      t.rd (F.POCK_STAT.SEL_SET x c) = 1 ∧ t.rd (F.POCK_SEL_SHD.SEL x c) = s.rd (F.POCK_SEL_SHD.SEL x c) ∧
      t.rd (F.POCK_STAT.ACT_RANGE x c) = s.rd (F.POCK_STAT.ACT_RANGE x c) ∧ t.mem = s.mem ∧ t.outbox = s.outbox) ∧
  (∀ (s : State) (m : Master) (x : Fin 76) (c : Fin 64) (w : Word), s.writeAccess m (F.HTR_SHD.CODE x c).addr = .ok →
    s.linkUp x = true → (externalHost m = false ∨ s.hostMayWrite (loopAt x c) = true) →
    ∃ t, exec (.htrShdWrite m x c w) s = .next t ∧ t.rd (F.HTR_SHD.CODE x c) = bitsOf w 0 16 ∧
      t.rd (F.HTR_SHD.RANGE x c) = bitsOf w 16 1 ∧ t.rd (F.HTR_ACT.SET x c) = 1 ∧
      t.rd (F.HTR_ACT.ACT_CODE x c) = s.rd (F.HTR_ACT.ACT_CODE x c) ∧ t.mem = s.mem ∧ t.outbox = s.outbox) ∧
  (∀ (s : State) (m : Master) (x : Fin 76) (c : Fin 64) (w : Word), s.writeAccess m (F.POCK_SEL_SHD.SEL x c).addr = .ok →
    s.linkUp x = true → externalHost m = true → s.power.vin = true → s.power.mainUp = true →
    (s.hostMayWrite (loopAt x c) = false ∨ bitsOf w 0 1 ≠ s.rd (F.POCK_SEL_SHD.SEL x c)) →
    ∃ t, exec (.pockSelShdWrite m x c w) s = .next t ∧ t.flag (Src.DRIVE.WRITE_REFUSED x).real = true ∧
      t.rd (F.POCK_SEL_SHD.SEL x c) = s.rd (F.POCK_SEL_SHD.SEL x c) ∧
      t.rd (F.POCK_SEL_SHD.RANGE x c) =
        (if s.hostMayWrite (loopAt x c) then bitsOf w 1 1 else s.rd (F.POCK_SEL_SHD.RANGE x c)) ∧ t.mem = s.mem) ∧
  (∀ (s : State) (m : Master) (x : Fin 76) (c : Fin 64) (w : Word), s.writeAccess m (F.HTR_SHD.CODE x c).addr = .ok →
    s.linkUp x = true → externalHost m = true → s.hostMayWrite (loopAt x c) = false → s.power.vin = true →
    s.power.mainUp = true →
    ∃ t, exec (.htrShdWrite m x c w) s = .next t ∧ t.flag (Src.DRIVE.WRITE_REFUSED x).real = true ∧
      t.rd (F.HTR_SHD.CODE x c) = s.rd (F.HTR_SHD.CODE x c) ∧ t.rd (F.HTR_ACT.SET x c) = s.rd (F.HTR_ACT.SET x c) ∧
      t.mem = s.mem) ∧
  ∀ (s : State) (m : Master) (x : Fin 76) (h : Fin 2) (w : Word) (i : Fin 32),
    s.writeAccess m ((F.SHUT_SHD x).addr + 4 * h) = .ok → s.linkUp x = true → isTrimTile x = true →
    ∃ t, exec (.shutShdWrite m x h w) s = .next t ∧
      (let k := 32 * h.val + i.val
       let differs := w.getLsbD i ≠ (s.rdW (F.SHUT_SHD x)).testBit k
       if externalHost m = true ∧ s.loopState (loopAt x k) ≠ 1 then
         (t.rdW (F.SHUT_SHD x)).testBit k = (s.rdW (F.SHUT_SHD x)).testBit k ∧
           (differs → s.power.vin = true → s.power.mainUp = true → t.flag (Src.DRIVE.WRITE_REFUSED x).real = true)
       else (t.rdW (F.SHUT_SHD x)).testBit k = w.getLsbD i ∧
         (differs → (t.rdW (F.SHUT_PEND x)).testBit k = false ∧ (t.tile x).shutOpen.getLsbD k = true)) ∧
      t.rdW (F.SHUT_ACT x) = s.rdW (F.SHUT_ACT x) ∧ t.mem = s.mem) ∧
  ((∀ (s : State) (m : Master) (x : Fin 76) (c : Fin 64), s.writeAccess m (F.SEAL_CMD.SEL_ALL x).addr = .ok →
    s.linkUp x = true →
    ∃ t, exec (.sealSelAll m x) s = .next t ∧ t.rd (F.POCK_STAT.SEL_SET x c) =
        (if s.rd (F.POCK_STAT.SEL_SET x c) = 1 then 2 else s.rd (F.POCK_STAT.SEL_SET x c)) ∧ t.mem = s.mem) ∧
  (∀ (s : State) (m : Master) (x : Fin 76) (c : Fin 64) (k : Fin 2), s.writeAccess m (F.SEAL_CMD.LADDER_ALL x).addr = .ok →
    s.linkUp x = true →
    ∃ t, exec (.sealLadderAll m x) s = .next t ∧ t.mem = s.mem ∧
      (if s.rd (ladderSet x c k) = 1 then
        (if s.rd (F.POCK_STAT.ACT_SEL x c) = k then t.rd (ladderSet x c k) = 2 ∧ t.rd (actCode x c k) = s.rd (actCode x c k)
         else t.rd (ladderSet x c k) = 0 ∧ t.rd (actCode x c k) = s.rd (shdCode x c k))
       else t.rd (ladderSet x c k) = s.rd (ladderSet x c k) ∧ t.rd (actCode x c k) = s.rd (actCode x c k))) ∧
  (∀ (s : State) (m : Master) (x : Fin 76) (c : Fin 64), s.writeAccess m (F.SEAL_CMD.HTR_ALL x).addr = .ok →
    s.linkUp x = true →
    ∃ t, exec (.sealHtrAll m x) s = .next t ∧ t.rd (F.HTR_ACT.SET x c) =
        (if s.rd (F.HTR_ACT.SET x c) = 1 then 2 else s.rd (F.HTR_ACT.SET x c)) ∧ t.mem = s.mem) ∧
  (∀ (s : State) (m : Master) (x : Fin 76), s.writeAccess m (F.SEAL_CMD.SHUT_ALL x).addr = .ok → s.linkUp x = true →
    isTrimTile x = true →
    ∃ t, exec (.sealShutAll m x) s = .next t ∧
      t.rdW (F.SHUT_PEND x) = s.rdW (F.SHUT_PEND x) ||| (s.tile x).shutOpen.toNat ∧ (t.tile x).shutOpen = 0 ∧
      t.rdW (F.SHUT_ACT x) = s.rdW (F.SHUT_ACT x) ∧ t.mem = s.mem) ∧
  (∀ (s : State) (m : Master) (x : Fin 76), s.writeAccess m (F.SHUT_SEAL.SEAL x).addr = .ok → s.linkUp x = true →
    isTrimTile x = true →
    ∃ t, exec (.shutSeal m x) s = .next t ∧
      t.rdW (F.SHUT_PEND x) = s.rdW (F.SHUT_PEND x) ||| (s.tile x).shutOpen.toNat ∧ (t.tile x).shutOpen = 0 ∧
      t.rdW (F.SHUT_ACT x) = s.rdW (F.SHUT_ACT x) ∧ t.mem = s.mem) ∧
  (∀ (s : State) (m : Master) (x : Fin 76) (c : Fin 64), s.writeAccess m (F.POCK_SEAL.L0 x c).addr = .ok →
    s.linkUp x = true → s.rd (F.POCK_STAT.L0_SET x c) = 1 →
    ∃ t, exec (.pockSealL0 m x c) s = .next t ∧ t.mem = s.mem ∧
      (if s.rd (F.POCK_STAT.ACT_SEL x c) = 0 then t.rd (F.POCK_STAT.L0_SET x c) = 2
       else t.rd (F.POCK_STAT.L0_SET x c) = 0 ∧ t.rd (F.POCK_ACT.ACT0 x c) = s.rd (F.POCK_SHD0.CODE x c))) ∧
  (∀ (s : State) (m : Master) (x : Fin 76) (c : Fin 64), s.writeAccess m (F.POCK_SEAL.L1 x c).addr = .ok →
    s.linkUp x = true → s.rd (F.POCK_STAT.L1_SET x c) = 1 →
    ∃ t, exec (.pockSealL1 m x c) s = .next t ∧ t.mem = s.mem ∧
      (if s.rd (F.POCK_STAT.ACT_SEL x c) = 1 then t.rd (F.POCK_STAT.L1_SET x c) = 2
       else t.rd (F.POCK_STAT.L1_SET x c) = 0 ∧ t.rd (F.POCK_ACT.ACT1 x c) = s.rd (F.POCK_SHD1.CODE x c))) ∧
  (∀ (s : State) (m : Master) (x : Fin 76) (c : Fin 64), s.writeAccess m (F.POCK_SEAL.SEL x c).addr = .ok →
    s.linkUp x = true → s.rd (F.POCK_STAT.SEL_SET x c) = 1 →
    ∃ t, exec (.pockSealSel m x c) s = .next t ∧ t.rd (F.POCK_STAT.SEL_SET x c) = 2 ∧
      t.rd (F.POCK_STAT.ACT_SEL x c) = s.rd (F.POCK_STAT.ACT_SEL x c) ∧
      (∀ a, a ≠ (F.POCK_STAT.SEL_SET x c).addr → t.word a = s.word a) ∧ t.mem = s.mem) ∧
  (∀ (s : State) (m : Master) (x : Fin 76) (c : Fin 64),
    (s.writeAccess m (F.POCK_SEAL.L0 x c).addr = .ok → s.rd (F.POCK_STAT.L0_SET x c) ≠ 1 →
      exec (.pockSealL0 m x c) s = .next s) ∧
    (s.writeAccess m (F.POCK_SEAL.L1 x c).addr = .ok → s.rd (F.POCK_STAT.L1_SET x c) ≠ 1 →
      exec (.pockSealL1 m x c) s = .next s) ∧
    (s.writeAccess m (F.POCK_SEAL.SEL x c).addr = .ok → s.rd (F.POCK_STAT.SEL_SET x c) ≠ 1 →
      exec (.pockSealSel m x c) s = .next s) ∧
    (s.writeAccess m (F.HTR_SEAL.SEAL x c).addr = .ok → s.rd (F.HTR_ACT.SET x c) ≠ 1 →
      exec (.htrSeal m x c) s = .next s) ∧
    (s.writeAccess m (F.SHUT_SEAL.SEAL x).addr = .ok → isTrimTile x = false → exec (.shutSeal m x) s = .next s) ∧
    (s.writeAccess m (F.SEAL_CMD.SHUT_ALL x).addr = .ok → isTrimTile x = false → exec (.sealShutAll m x) s = .next s)) ∧
  ∀ (s : State) (m : Master) (x : Fin 76) (c : Fin 64), s.writeAccess m (F.HTR_SEAL.SEAL x c).addr = .ok →
    s.linkUp x = true → s.rd (F.HTR_ACT.SET x c) = 1 →
    ∃ t, exec (.htrSeal m x c) s = .next t ∧ t.rd (F.HTR_ACT.SET x c) = 2 ∧
      t.rd (F.HTR_ACT.ACT_CODE x c) = s.rd (F.HTR_ACT.ACT_CODE x c) ∧
      (∀ a, a ≠ (F.HTR_ACT.SET x c).addr → t.word a = s.word a) ∧ t.mem = s.mem)

/-- A strobe's edge at a tile with a good rail. Plane: a SEALED select set makes its select active and is EMPTY, and its
range too unless the change is refused, which is reported; a channel without a SEALED select set keeps its select and misses.
Group: a SEALED heater or shutter set of the group becomes active and is EMPTY, an OPEN heater set misses. The edge is then
no longer on its way. A hold of a range change releases. Concludes that these answer a next state: planeStrobe, groupStrobe,
rangeHoldRelease. -/
def Obligations.StrobeEdgesTransferSealedSets : Prop :=
  (∀ (s : State) (x : Fin 76) (cyc : Nat) (c : Fin 64), s.power.mainUp = true → s.strobes.cmd = false →
    s.strobes.plane.getLsbD x = true → s.railGood x = true → s.frozen = false →
    ∃ t, exec (.planeStrobe x cyc) s = .next t ∧ t.strobes.plane.getLsbD x = false ∧ t.mem = s.mem ∧
      (s.rd (F.POCK_STAT.SEL_SET x c) = 2 →
        t.rd (F.POCK_STAT.ACT_SEL x c) = s.rd (F.POCK_SEL_SHD.SEL x c) ∧ t.rd (F.POCK_STAT.SEL_SET x c) = 0 ∧
        (let u := if s.trimsAtStrobe then s.loadStaged x else s
         if s.rd (F.POCK_SEL_SHD.RANGE x c) ≠ s.rd (F.POCK_STAT.ACT_RANGE x c) ∧ u.rangeRefused x c = true then
           t.rd (F.POCK_STAT.ACT_RANGE x c) = s.rd (F.POCK_STAT.ACT_RANGE x c) ∧
             (s.power.vin = true → t.flag (Src.DRIVE.RANGE_REFUSED x).real = true)
         else t.rd (F.POCK_STAT.ACT_RANGE x c) = s.rd (F.POCK_SEL_SHD.RANGE x c))) ∧
      (s.rd (F.POCK_STAT.SEL_SET x c) ≠ 2 →
        t.rd (F.POCK_STAT.ACT_SEL x c) = s.rd (F.POCK_STAT.ACT_SEL x c) ∧ t.bitW (F.MISSED_POCK x) c = true)) ∧
  (∀ (s : State) (g : Fin 8) (x : Fin 76) (c : Fin 64), s.power.mainUp = true → (s.groupInFlight g).getLsbD x = true →
    s.railGood x = true → s.frozen = false → s.rd (F.CH_CFG.HGRP x c) = g →
    ∃ t, exec (.groupStrobe g x) s = .next t ∧ (t.groupInFlight g).getLsbD x = false ∧ t.mem = s.mem ∧
      (s.rd (F.HTR_ACT.SET x c) = 2 →
        t.rd (F.HTR_ACT.ACT_CODE x c) = s.rd (F.HTR_SHD.CODE x c) ∧
          t.rd (F.HTR_ACT.ACT_RANGE x c) = s.rd (F.HTR_SHD.RANGE x c) ∧ t.rd (F.HTR_ACT.SET x c) = 0) ∧
      (s.rd (F.HTR_ACT.SET x c) = 1 →
        t.rd (F.HTR_ACT.ACT_CODE x c) = s.rd (F.HTR_ACT.ACT_CODE x c) ∧ t.bitW (F.MISSED_HTR x) c = true)) ∧
  (∀ (s : State) (g : Fin 8) (x : Fin 76) (c : Fin 64), s.power.mainUp = true → (s.groupInFlight g).getLsbD x = true →
    s.railGood x = true → s.frozen = false → isTrimTile x = true → s.rd (F.CH_CFG.SGRP x c) = g →
    (s.rdW (F.SHUT_PEND x)).testBit c = true →
    ∃ t, exec (.groupStrobe g x) s = .next t ∧ (t.rdW (F.SHUT_PEND x)).testBit c = false ∧
      (t.rdW (F.SHUT_ACT x)).testBit c = (s.rdW (F.SHUT_SHD x)).testBit c ∧ t.mem = s.mem) ∧
  ∀ (s : State) (x : Fin 76) (c : Fin 64) (h : Bool),
    ∃ t, exec (.rangeHoldRelease x c h) s = .next t ∧
      t.tile x = (if h then { s.tile x with holdH := setBit (s.tile x).holdH c false }
        else { s.tile x with holdP := setBit (s.tile x).holdP c false }) ∧
      t.regs = s.regs ∧ t.mem = s.mem ∧ t.outbox = s.outbox

/-- Supervision: a supervised heater whose current stays too low is OPEN and raises HTR_OPEN; one whose voltage stays too
high is in COMPLIANCE, unless OPEN; both end with their condition; a bad shutter current that has stood for 1 µs is latched
and raised, and any other changes nothing. Strobe commands: STRB_CMD.PLANE in CIRCUIT mode with nothing pending puts a strobe
on its way to every tile; it is refused and counted in another mode, with a commit pending or one on its way, and in
PRE_EPOCH or parked with the outputs frozen (log 72). STRB_CMD.GRP fires a COMMAND group and is refused and counted for any
other. Concludes that these answer a next state: htrOpen, htrCompliance, shutCurrent, strbCmdPlane, strbCmdGrp. -/
def Obligations.StrobeCommandsAndDriveSupervision : Prop :=
  ((∀ (s : State) (x : Fin 76) (c : Fin 64), s.power.vin = true → s.power.mainUp = true → s.detects x c = true →
    100 * 65536 ≤ s.htrCurrent x c →
    ∃ t, exec (.htrOpen x c true) s = .next t ∧ t.flag (F.HTR_SUP.OPEN x c) = true ∧
      t.flag (F.HTR_SUP.COMPLIANCE x c) = false ∧ t.flag (Src.DRIVE.HTR_OPEN x).real = true ∧ t.mem = s.mem) ∧
  (∀ (s : State) (x : Fin 76) (c : Fin 64), s.power.mainUp = true →
    ∃ t, exec (.htrOpen x c false) s = .next t ∧ t.flag (F.HTR_SUP.OPEN x c) = false ∧
      (∀ a, a ≠ (F.HTR_SUP.OPEN x c).addr → t.word a = s.word a) ∧ t.mem = s.mem) ∧
  (∀ (s : State) (x : Fin 76) (c : Fin 64), s.power.vin = true → s.power.mainUp = true → s.detects x c = true →
    s.flag (F.HTR_SUP.OPEN x c) = false →
    ∃ t, exec (.htrCompliance x c true) s = .next t ∧ t.flag (F.HTR_SUP.COMPLIANCE x c) = true ∧
      t.flag (Src.DRIVE.HTR_COMPLIANCE x).real = true ∧ t.mem = s.mem) ∧
  (∀ (s : State) (x : Fin 76) (c : Fin 64), s.power.mainUp = true →
    ∃ t, exec (.htrCompliance x c false) s = .next t ∧ t.flag (F.HTR_SUP.COMPLIANCE x c) = false ∧
      (∀ a, a ≠ (F.HTR_SUP.COMPLIANCE x c).addr → t.word a = s.word a) ∧ t.mem = s.mem) ∧
  (∀ (s : State) (x : Fin 76) (c : Fin 64) (i n : Nat), (n < 1000 ∨ isTrimTile x = false ∨
      (if s.shutterOpen x c then i ≤ 200 else 2000 ≤ i ∧ i ≤ 4500)) →
    exec (.shutCurrent x c i n) s = .next s) ∧
  ∀ (s : State) (x : Fin 76) (c : Fin 64) (i n : Nat), s.power.vin = true → s.power.mainUp = true → isTrimTile x = true →
    1000 ≤ n → (if s.shutterOpen x c then 200 < i else (i < 2000 ∨ 4500 < i)) →
    ∃ t, exec (.shutCurrent x c i n) s = .next t ∧ t.bitW (F.SHUT_CUR x) c = true ∧
      t.flag (Src.DRIVE.SHUT_CURRENT x).real = true ∧ t.mem = s.mem) ∧
  ((∀ (s : State) (m : Master), s.writeAccess m F.STRB_CMD.PLANE.addr = .ok → s.planeMode = 0 → s.commitPending = false →
    s.strobes.cmd = false → s.frozen = false → s.preEpoch = false →
    ∃ t, exec (.strbCmdPlane m) s = .next t ∧ t.strobes.plane = allTiles ∧ t.strobes.cmd = true ∧ t.mem = s.mem ∧
      t.rdW F.STRB_REFUSED_CNT = s.rdW F.STRB_REFUSED_CNT) ∧
  (∀ (s : State) (m : Master), s.writeAccess m F.STRB_CMD.PLANE.addr = .ok →
    (s.planeMode ≠ 0 ∨ s.commitPending = true ∨ s.strobes.cmd = true ∨ s.frozen = true ∨ s.preEpoch = true) →
    ∃ t, exec (.strbCmdPlane m) s = .next t ∧ Counted F.STRB_REFUSED_CNT s t ∧ t.strobes = s.strobes ∧ t.tiles = s.tiles ∧
      t.mem = s.mem ∧ (s.rdW F.STRB_REFUSED_CNT + 1 < counterMax → t.outbox = s.outbox)) ∧
  (∀ (s : State) (m : Master) (g : Fin 8), s.writeAccess m F.STRB_CMD.GRP.addr = .ok → s.rd (F.STRB_GRP.MODE g) = 3 →
    ∃ t, exec (.strbCmdGrp m g) s = .next t ∧ t.groupInFlight g = allTiles ∧ .strobe (g + 1) ∈ t.outbox ∧
      (t.rd F.STRB_FIRED.GRP).testBit g = true ∧ t.strobes.plane = s.strobes.plane ∧ t.mem = s.mem) ∧
  ∀ (s : State) (m : Master) (g : Fin 8), s.writeAccess m F.STRB_CMD.GRP.addr = .ok → s.rd (F.STRB_GRP.MODE g) ≠ 3 →
    ∃ t, exec (.strbCmdGrp m g) s = .next t ∧ Counted F.STRB_REFUSED_CNT s t ∧ t.strobes = s.strobes ∧ t.mem = s.mem ∧
      (s.rdW F.STRB_REFUSED_CNT + 1 < counterMax → t.outbox = s.outbox))

/-! ## The plane: loader, strobes, groups (chapters 02, 03, 07) -/

/-- The loader, 400 ns ahead of a strobe, loads the standing record that will be in force at it with the slot's dynamic
record or REST: a scheduled strobe takes the record pending for it, or that of a switch taken for it; an inserted protection
strobe takes the alternate it switches to. With no strobe that near it loads nothing. Each tile whose link is up and whose
rail is good is sent its own share, last on its way; to any other tile nothing is sent. Boundaries: a slot boundary while
strobes run is taken once, and in SLOT and HYBRID modes the plane strobe fires at it; in CIRCUIT mode it fires where an
update applies. A boundary already taken, or while no strobes run, changes nothing. An inserted protection strobe whose
instant has come applies its switch, which becomes the active record, and fires; before its instant, with none taken, or in
PRE_EPOCH, the command changes nothing. Concludes that these answer a next state: loaderIssue, slotBoundary,
protectionStrobe. -/
def Obligations.LoaderAndBoundariesStrobe : Prop :=
  ((∀ (s : State) (b : Nat), s.power.mainUp = true → s.plane.taken = none → s.nextStrobe s.now = some b → s.now < b →
    b ≤ s.now + 404 →
    exec .loaderIssue s = .next (s.loadStrobeOf (s.standingAt (s.boundaryFrom b)) (s.boundaryFrom b / s.slots)
      (s.boundaryFrom b % s.slots) s.armedRecords)) ∧
  (∀ (s : State) (b : Nat) (x : Taken), s.power.mainUp = true → s.plane.taken = some x → x.inserted = false → x.at_ = b →
    s.nextStrobe s.now = some b → s.now < b → b ≤ s.now + 404 →
    exec .loaderIssue s = .next (s.loadStrobeOf x.index (s.boundaryFrom b / s.slots) (s.boundaryFrom b % s.slots)
      s.armedRecords)) ∧
  (∀ (s : State) (x : Taken), s.power.mainUp = true → s.plane.taken = some x → x.inserted = true → s.now < x.at_ →
    x.at_ ≤ s.now + 404 → exec .loaderIssue s = .next (s.loadStrobeOf x.index s.frame s.slot s.armedRecords)) ∧
  (∀ s : State, s.power.mainUp = true → s.plane.taken = none →
    (∀ b, s.nextStrobe s.now = some b → s.now + 404 < b) → exec .loaderIssue s = .next s) ∧
  ∀ (s : State) (k : Nat) (m : BitVec 4352 × BitVec 512 × BitVec 512) (x : Fin 76),
    ((s.issueMerged k m).tile x).down = (s.tile x).down ++
      (if s.linkUp x && s.railGood x then
        if isTrimTile x then
          [.select k (m.2.1.extractLsb' (64 * (x - 68)) 64), .shutter (m.2.2.extractLsb' (64 * (x - 68)) 64)]
        else [.select k (m.1.extractLsb' (64 * x) 64)]
       else []) ∧
      (s.issueMerged k m).regs = s.regs ∧ (s.issueMerged k m).mem = s.mem) ∧
  ((∀ s : State, s.power.mainUp = true → s.strobing = true → s.plane.lastSlot ≠ some (s.frame, s.slot) →
    s.plane.taken = none → s.plane.updates = [] → s.time.resumeFrame = none → s.planeMode ≠ 0 →
    (s.slot ≠ 0 ∨ (s.hier.serve = none ∧ s.lv.lookup F.FOLLOW_CFG.MODE.addr = none)) →
    ∃ t, exec .slotBoundary s = .next t ∧ t.plane.lastSlot = some (s.frame, s.slot) ∧ .strobe 0 ∈ t.outbox ∧
      t.flag F.STRB_FIRED.PLANE = true ∧ t.strobes.plane = allTiles) ∧
  (∀ (s : State) (u : Update), s.power.mainUp = true → s.strobing = true → s.plane.lastSlot ≠ some (s.frame, s.slot) →
    s.plane.taken = none → s.plane.updates = [u] → s.slotNumber u.frame u.slot ≤ s.slotNow → s.planeMode = 0 →
    s.twin ≠ 3 → u.record < 16 → u.accord.seq < 2 ^ 32 →
    (s.slot ≠ 0 ∨ (s.hier.serve = none ∧ s.lv.lookup F.FOLLOW_CFG.MODE.addr = none)) →
    ∃ t, exec .slotBoundary s = .next t ∧ t.activeIndex = u.record ∧ t.standSeq = u.accord.seq ∧ t.plane.updates = [] ∧
      t.strobes.plane = allTiles ∧ .strobe 0 ∈ t.outbox) ∧
  (∀ s : State, s.power.mainUp = true → (s.plane.lastSlot = some (s.frame, s.slot) ∨ s.strobing = false) →
    (s.slot ≠ 0 ∨ (s.hier.serve = none ∧ s.lv.lookup F.FOLLOW_CFG.MODE.addr = none)) → exec .slotBoundary s = .next s) ∧
  (∀ (s : State) (x : Taken), s.power.mainUp = true → s.power.vin = true → s.plane.taken = some x → x.inserted = true →
    x.at_ ≤ s.now + 3 → x.index < 16 → s.preEpoch = false →
    ∃ t, exec .protectionStrobe s = .next t ∧ t.activeIndex = x.index ∧ t.plane.taken = none ∧ t.strobes.plane = allTiles ∧
      .strobe 0 ∈ t.outbox ∧ t.flag Src.ACCORD.STANDING_SWITCHED.real = true) ∧
  ∀ s : State, s.power.mainUp = true →
    (s.preEpoch = true ∨ ∀ x, s.plane.taken = some x → x.inserted = false ∨ s.now + 3 < x.at_) →
    exec .protectionStrobe s = .next s)

/-! ## The Composer and standing accords (chapters 07, 08) -/

/-- A composition ends once: its commit, or the deadline with every record written, makes the bank COMMITTED with RESULT 1
and RESIDUE 0; the deadline with records missing and an ABORT discard the bank, with RESULT 3 and 2 and the records not
written as RESIDUE; an ABORT once the composition has committed is ignored, and says so. With nothing composing, the commit,
the deadline and an ABORT before any commit change nothing. Concludes that these answer a next state: compositionCommit,
commitDeadline, compCtrlAbort. -/
def Obligations.CompositionEndsCommittedOrDiscarded : Prop :=
  (∀ (s : State) (c : Composition) (pins : Pins), s.power.mainUp = true → s.comp.composing = some c →
    s.plane.nextPins = some pins → s.bank c.frame = 1 →
    ∃ t, exec .compositionCommit s = .next t ∧ t.comp.composing = none ∧ t.bank c.frame = 2 ∧
      t.rd F.COMP_STATUS.PHASE = 4 ∧ t.rd F.COMP_STATUS.RESULT = 1 ∧ t.rd F.COMP_STATUS.RESIDUE = 0 ∧
      t.rdW F.DIGEST_FRAME = c.frame % 2 ^ 64 ∧ t.mem = s.mem) ∧
  (∀ (s : State) (c : Composition) (pins : Pins) (n : Fin 65), s.power.mainUp = true → s.power.vin = true →
    s.comp.composing = some c → s.plane.nextPins = some pins → s.bank c.frame = 1 → n < s.slots → s.slots ≤ 64 →
    ∃ t, exec (.commitDeadline n) s = .next t ∧ t.comp.composing = none ∧ t.bank c.frame = 4 ∧
      t.rd F.COMP_STATUS.PHASE = 0 ∧ t.rd F.COMP_STATUS.RESULT = 3 ∧ t.rd F.COMP_STATUS.RESIDUE = s.slots - n ∧
      t.flag Src.ACCORD.FRAME_DISCARDED.real = true ∧ Counted F.FRAMES_DISCARDED s t ∧ t.mem = s.mem) ∧
  (∀ (s : State) (c : Composition) (pins : Pins) (n : Fin 65), s.power.mainUp = true → s.comp.composing = some c →
    s.plane.nextPins = some pins → s.bank c.frame = 1 → s.slots ≤ n → exec (.commitDeadline n) s = exec .compositionCommit s) ∧
  (∀ (s : State) (m : Master) (c : Composition) (pins : Pins) (n : Fin 65), s.writeAccess m F.COMP_CTRL.ABORT.addr = .ok →
    s.power.vin = true → s.power.mainUp = true → s.comp.composing = some c → s.plane.nextPins = some pins →
    s.bank c.frame = 1 → s.slots ≤ 64 →
    ∃ t, exec (.compCtrlAbort m n) s = .next t ∧ t.comp.composing = none ∧ t.bank c.frame = 4 ∧
      t.rd F.COMP_STATUS.PHASE = 0 ∧ t.rd F.COMP_STATUS.RESULT = 2 ∧ t.rd F.COMP_STATUS.RESIDUE = s.slots - n ∧ t.flag Src.COMPOSER.COMPOSE_ABORTED.real = true ∧
      t.mem = s.mem) ∧
  (∀ (s : State) (m : Master) (n : Fin 65), s.comp.composing = none →
    (s.power.mainUp = true → exec .compositionCommit s = .next s ∧ exec (.commitDeadline n) s = .next s) ∧
    (s.writeAccess m F.COMP_CTRL.ABORT.addr = .ok → s.rd F.COMP_STATUS.PHASE ≠ 4 →
      exec (.compCtrlAbort m n) s = .next s)) ∧
  ∀ (s : State) (m : Master) (n : Fin 65), s.writeAccess m F.COMP_CTRL.ABORT.addr = .ok → s.comp.composing = none →
    s.rd F.COMP_STATUS.PHASE = 4 →
    ∃ t, exec (.compCtrlAbort m n) s = .next t ∧ t.rd F.COMP_STATUS.RESULT = 1 ∧
      t.flag F.COMP_STATUS.ABORT_IGNORED = true ∧ t.comp = s.comp ∧ t.plane = s.plane ∧
      (∀ a, a ≠ F.COMP_STATUS.RESULT.addr → t.word a = s.word a) ∧ t.mem = s.mem ∧ t.outbox = s.outbox

/-- Standing updates: a routed cut commits to a free standing record with its boundary, or in place of the pending update of
the same boundary, whose operations it takes over; with three pending and none replaced it is deferred. A sound alternate is
armed, an unsound one refused and reported, an armed one disarmed; disarming another changes nothing. Concludes that these
answer a next state: standingCommit, altCmdArm, altCmdDisarm. -/
def Obligations.StandingUpdatesAndAlternates : Prop :=
  (∀ (s : State) (u : Update) (n : Nat), s.power.mainUp = true → s.plane.cuts = [u] → s.plane.updates = [] →
    s.freeStanding = some n →
    ∃ t v, exec .standingCommit s = .next t ∧ t.plane.cuts = [] ∧ t.plane.updates = [v] ∧ v.record = n ∧
      v.accord.index = n ∧ v.accord.seq = u.accord.seq ∧ v.ops = u.ops ∧
      v.frame = s.applyFrom (s.commitInstant u) u.rearranged / s.slots ∧
      v.slot = s.applyFrom (s.commitInstant u) u.rearranged % s.slots ∧ t.record (standRecord n) = v.accord ∧
      t.activeIndex = s.activeIndex ∧ t.mem = s.mem) ∧
  (∀ (s : State) (u o : Update) (n : Nat), s.power.mainUp = true → s.plane.cuts = [u] → s.plane.updates = [o] →
    s.applyFrom (s.commitInstant u) u.rearranged ≤ s.slotNumber o.frame o.slot →
    (s.setPlane { s.plane with updates := [] }).freeStanding = some n →
    ∃ t v, exec .standingCommit s = .next t ∧ t.plane.cuts = [] ∧ t.plane.updates = [v] ∧ v.record = n ∧
      v.accord.seq = u.accord.seq ∧ v.ops = o.ops ++ u.ops ∧ v.answers = o.answers ++ u.answers ∧
      v.frame = s.slotNumber o.frame o.slot / s.slots ∧ v.slot = s.slotNumber o.frame o.slot % s.slots ∧
      t.record (standRecord n) = v.accord ∧ t.activeIndex = s.activeIndex ∧ t.mem = s.mem) ∧
  (∀ (s : State) (u : Update), s.power.mainUp = true → s.power.vin = true → s.plane.cuts = [u] →
    3 ≤ s.plane.updates.length →
    (∀ o, s.plane.updates.getLast? = some o →
      s.slotNumber o.frame o.slot < s.applyFrom (s.commitInstant u) u.rearranged) →
    ∃ t, exec .standingCommit s = .next t ∧ t.plane.cuts = [] ∧ t.plane.updates = s.plane.updates ∧
      t.plane.replay = u.ops ++ s.plane.replay ∧ t.flag Src.ACCORD.CUT_DEFERRED.real = true ∧ t.mem = s.mem) ∧
  (∀ (s : State) (m : Master) (n : Fin 16), s.writeAccess m F.ALT_CMD.ARM.addr = .ok → s.armBad n = false →
    ∃ t, exec (.altCmdArm m n) s = .next t ∧ (t.rd F.ALT_ARMED.ARMED).testBit n = true ∧
      (t.rd F.ALT_ELIGIBLE.ELIGIBLE).testBit n = (s.planeMode == 0) ∧
      (t.record (standRecord n)).baseSeq = s.standSeq ∧ t.plane.updates = s.plane.updates ∧
      t.activeIndex = s.activeIndex ∧ t.mem = s.mem) ∧
  (∀ (s : State) (m : Master) (n : Fin 16), s.writeAccess m F.ALT_CMD.ARM.addr = .ok → s.armBad n = true →
    s.power.vin = true → s.power.mainUp = true →
    ∃ t, exec (.altCmdArm m n) s = .next t ∧ t.plane = s.plane ∧ t.rd F.ALT_ARMED.ARMED = s.rd F.ALT_ARMED.ARMED ∧
      t.flag Src.ACCORD.ALT_REFUSED.real = true ∧ t.mem = s.mem) ∧
  (∀ (s : State) (m : Master) (n : Fin 16), s.writeAccess m F.ALT_CMD.ARM.addr = .ok → n.val ∈ s.armed →
    ∃ t, exec (.altCmdDisarm m n) s = .next t ∧ (t.rd F.ALT_ARMED.ARMED).testBit n = false ∧
      (t.rd F.ALT_ELIGIBLE.ELIGIBLE).testBit n = false ∧ t.plane.alternates.lookup n.val = none ∧
      t.plane.records = s.plane.records ∧ t.mem = s.mem) ∧
  ∀ (s : State) (m : Master) (n : Fin 16), s.writeAccess m F.ALT_CMD.ARM.addr = .ok → n.val ∉ s.armed →
    exec (.altCmdDisarm m n) s = .next s

/-- Protection switching by command: a request for an alternate that may be switched to is held and then taken, at a
scheduled strobe in time or 8 µs after its activation; a request for the active record changes nothing; of two requests of
one clock the lower index proceeds and the other is refused; any other request, and one that may no longer be switched to
when it is taken, is refused and reported. A standby of a pair sends its request to the lead. With no request, taking one
changes nothing. Concludes that these answer a next state: switchCmd, switchTake. -/
def Obligations.SwitchRequestsAreTakenOrRefused : Prop :=
  (∀ (s : State) (m : Master) (n : Fin 16), s.writeAccess m F.SWITCH_CMD.GO.addr = .ok → n.val ≠ s.activeIndex →
    s.standby = false → s.switchable n = true → s.plane.taken = none → s.plane.request = none →
    exec (.switchCmd m n) s = .next { s with plane := { s.plane with request := some ⟨n, s.now, s.clock⟩ } }) ∧
  (∀ (s : State) (m : Master) (n : Fin 16), s.writeAccess m F.SWITCH_CMD.GO.addr = .ok →
    (s.standby = false → n.val = s.activeIndex → exec (.switchCmd m n) s = .next s) ∧
    (s.standby = true → exec (.switchCmd m n) s = .next (s.toTwin 0x24 (switchPayload 1 n false 0 0 0)))) ∧
  (∀ (s : State) (m : Master) (n : Fin 16), s.writeAccess m F.SWITCH_CMD.GO.addr = .ok → n.val ≠ s.activeIndex →
    s.standby = false → s.power.vin = true → s.power.mainUp = true →
    (s.switchable n = false ∨ s.plane.taken.isSome = true ∨
      ∃ r, s.plane.request = some r ∧ r.index ≠ n ∧ (r.clock ≠ s.clock ∨ r.index < n)) →
    ∃ t, exec (.switchCmd m n) s = .next t ∧ t.plane = s.plane ∧ t.flag Src.ACCORD.ALT_REFUSED.real = true ∧
      t.mem = s.mem) ∧
  (∀ (s : State) (m : Master) (n : Fin 16) (r : SwitchReq), s.writeAccess m F.SWITCH_CMD.GO.addr = .ok →
    n.val ≠ s.activeIndex → s.standby = false → s.switchable n = true → s.plane.taken = none → s.power.vin = true →
    s.power.mainUp = true → s.plane.request = some r → r.clock = s.clock → n < r.index →
    ∃ t, exec (.switchCmd m n) s = .next t ∧ t.plane.request = some ⟨n, s.now, s.clock⟩ ∧
      t.flag Src.ACCORD.ALT_REFUSED.real = true ∧ t.mem = s.mem) ∧
  (∀ (s : State) (r : SwitchReq), s.power.mainUp = true → s.plane.request = some r → s.switchable r.index = true →
    ∃ t x, exec .switchTake s = .next t ∧ t.plane.taken = some x ∧ t.plane.request = none ∧ x.index = r.index ∧
      (x.inserted = true → x.at_ = (r.activated + 8003) / 4 * 4) ∧
      (x.inserted = false → x.at_ ≤ r.activated + 8400 ∧ (s.slotNs ≠ 0 → s.now + 400 < x.at_)) ∧
      t.flag F.STANDING_STATUS.SWITCH_BUSY = true ∧ t.activeIndex = s.activeIndex ∧ t.plane.records = s.plane.records ∧
      t.mem = s.mem) ∧
  (∀ (s : State) (r : SwitchReq), s.power.mainUp = true → s.power.vin = true → s.plane.request = some r →
    s.switchable r.index = false →
    ∃ t, exec .switchTake s = .next t ∧ t.plane = { s.plane with request := none } ∧
      t.flag Src.ACCORD.ALT_REFUSED.real = true ∧ t.mem = s.mem) ∧
  ∀ s : State, s.power.mainUp = true → s.plane.request = none → exec .switchTake s = .next s

/-- Writes of accord memory: a dynamic record takes a word in CIRCUIT mode, a standing record while it is neither in force,
armed nor pending; any other write is refused, counted, and changes no record. Concludes that these answer a next state:
accordRecordWrite. -/
def Obligations.AccordRecordsTakeWordsOrRefuse : Prop :=
  (∀ (s : State) (m : Master) (r : Fin 144) (w : Fin 200) (v : Word), s.writeAccess m (recordAddr r w) = .ok →
    ((r.val < 128 ∧ s.planeMode = 0) ∨ (128 ≤ r.val ∧ r.val - 128 ≠ s.activeIndex ∧ r.val - 128 ∉ s.armed ∧
      ∀ u ∈ s.plane.updates, u.record ≠ r.val - 128)) →
    ∃ t, exec (.accordRecordWrite m r w v) s = .next t ∧ t.record r = { (s.record r).setWord w v with host := true } ∧
      (∀ k, k ≠ r.val → t.record k = s.record k) ∧ t.regs = s.regs ∧ t.tiles = s.tiles ∧ t.mem = s.mem ∧
      t.outbox = s.outbox) ∧
  ∀ (s : State) (m : Master) (r : Fin 144) (w : Fin 200) (v : Word), s.writeAccess m (recordAddr r w) = .ok →
    ((r.val < 128 ∧ s.planeMode ≠ 0) ∨ (128 ≤ r.val ∧ (r.val - 128 = s.activeIndex ∨ r.val - 128 ∈ s.armed ∨
      ∃ u ∈ s.plane.updates, u.record = r.val - 128))) →
    ∃ t, exec (.accordRecordWrite m r w v) s = .next t ∧ t.plane = s.plane ∧
      Counted F.ACCORD_WRITE_REFUSED_CNT s t ∧ t.mem = s.mem

/-- A record's bytes hold every field: spelling a well-formed record and reading the bytes back gives the record (R165,
R166). -/
def Obligations.AccordBytesReadBack : Prop :=
  ∀ a : Accord, a.kind < 256 → a.index < 256 → a.seq < 2 ^ 32 → a.frame < 2 ^ 64 → a.pairs < 2 ^ 16 → a.removed < 2 ^ 16 →
    a.applySlot < 256 → a.baseSeq < 2 ^ 32 → a.bodyCrc < 2 ^ 32 → a.hcrc < 2 ^ 32 →
    a.bytes.length = 800 ∧ Accord.ofBytes a.bytes = a ∧
      ∀ (n : Nat) (w : Word), 16 ≤ n → n < 200 →
        ∀ k, k < 200 → (a.setWord n w).word k = if k = n then w else a.word k

/-! ## Scans, conversions and tile links (chapter 04) -/

/-- A scan: its start advances SCAN_SEQ; a conversion that the calibration does not suspend leaves its record, of the kind
its slot serves, and a loop conversion shows LAST_SAMPLE too; a suspended one leaves none; the end sends the frame if the
link is up and moves the read-back rotation on where its channel had its turn. With the drive rail not good, none of the
three does anything. Concludes that these answer a next state: tileScanStart, tileConversion, tileFrameTx. -/
def Obligations.ScansConvertAndSendFrames : Prop :=
  (∀ (s : State) (x : Fin 76), s.railGood x = true →
    ∃ t, exec (.tileScanStart x) s = .next t ∧
      t.rd (F.SCAN_STATUS.SCAN_SEQ x) = (s.rd (F.SCAN_STATUS.SCAN_SEQ x) + 1) % 65536 ∧ (t.tile x).strobes = 0 ∧
      (t.tile x).sinceStrobe = (s.tile x).sinceStrobe.map (· + (scanCycles (s.tile x) : Int)) ∧
      (t.tile x).recs = (s.tile x).recs ∧ t.mem = s.mem) ∧
  (∀ (s : State) (x : Fin 76) (k : Fin 64) (a b : Fin 65536), s.railGood x = true → s.purpose x k ≠ .suspended →
    ∃ t r, exec (.tileConversion x k a b) s = .next t ∧ (t.tile x).recs.lookup k.val = some r ∧ r.a = a ∧ r.b = b ∧
      r.kind = kindOf (s.purpose x k) ∧ r.seq = s.rd (F.SCAN_STATUS.SCAN_SEQ x) ∧
      r.guard = guardOf (sampleDelta (s.tile x) (sampleCycle (s.tile x) k (s.purpose x k == .focus)))
        (s.rd (F.SCAN_STATUS.DISCARD_CYC x)) ∧
      (t.tile x).onWay.getLsbD k = s.linkUp x ∧ t.mem = s.mem ∧
      (s.purpose x k = .loop → r.actSel = s.rd (F.POCK_STAT.ACT_SEL x k) ∧ t.rd (F.LAST_SAMPLE.CODE x (2 * k)) = a ∧
        t.rd (F.LAST_SAMPLE.CODE x (2 * k + 1)) = b) ∧
      (s.purpose x k = .readBack → t.rd (F.POCK_RB.RB_SEL x k) = a ∧ t.rd (F.POCK_RB.RB_UNSEL x k) = b)) ∧
  (∀ (s : State) (x : Fin 76) (k : Fin 64) (a b : Fin 65536), s.railGood x = true → s.purpose x k = .suspended →
    exec (.tileConversion x k a b) s =
      .next (s.setTile x ((s.tile x).slotDone k .suspended (s.readsBack x k)))) ∧
  (∀ (s : State) (x : Fin 76), s.railGood x = true →
    ∃ t, exec (.tileFrameTx x) s = .next t ∧
      (t.tile x).frame = (if s.linkUp x then some (s.frameBytes x) else none) ∧
      (t.tile x).rbNext = (if (s.tile x).rbTurn then ((s.tile x).rbNext + 1) % 64 else (s.tile x).rbNext) ∧
      (t.tile x).recs = (s.tile x).recs ∧ t.mem = s.mem ∧
      ((s.tile x).focusClip = none → t.regs = s.regs ∧ t.outbox = s.outbox)) ∧
  ∀ (s : State) (x : Fin 76) (k : Fin 64) (a b : Fin 65536), s.railGood x = false →
    exec (.tileScanStart x) s = .next s ∧ exec (.tileConversion x k a b) s = .next s ∧ exec (.tileFrameTx x) s = .next s

/-- Writes of the sense registers over a tile's link that is up: ranges and the scan mode wait for the next scan start, a
range the host may not change and a reserved mode are refused and counted; a focus starts, or is refused while one runs or
waits, for a ring that is no focus ring, and for one that another tile focuses into; it ends after its scans; a diagnosis
starts, or is refused while one runs; one of no conversions is done at once; FAST_CFG lands unless a capture bus would get a
second driver. With the link down the writes change nothing. Concludes that these answer a next state: tiaRangeWrite,
scanCfgWrite, focusStart, focusEnd, diagCmdGo, fastCfgWrite. -/
def Obligations.SenseWritesTakeEffectOrRefuse : Prop :=
  (∀ (s : State) (m : Master) (x : Fin 76) (n : Fin 8) (w : Word), s.writeAccess m (F.TIA_RANGE.RANGE x n).addr = .ok →
    s.linkUp x = true →
    (∀ i, i < 16 → externalHost m = false ∨ s.hostMayWrite (loopAt x ((16 * n + i) / 2)) = true) →
    ∃ t, exec (.tiaRangeWrite m x n w) s = .next t ∧ t.lvWord (F.TIA_RANGE.RANGE x n).addr = w ∧ t.regs = s.regs ∧
      t.tiles = s.tiles ∧ t.mem = s.mem ∧ t.outbox = s.outbox) ∧
  (∀ (s : State) (m : Master) (x : Fin 76) (n : Fin 8) (w : Word), s.writeAccess m (F.TIA_RANGE.RANGE x n).addr = .ok →
    s.linkUp x = true → externalHost m = true →
    (∀ i, i < 16 → s.hostMayWrite (loopAt x ((16 * n + i) / 2)) = false) →
    ∃ t, exec (.tiaRangeWrite m x n w) s = .next t ∧ t.lv = s.lv ∧ t.tiles = s.tiles ∧ t.mem = s.mem ∧
      t.rdW (F.SENSE_REFUSED_CNT x) = min counterMax (s.rdW (F.SENSE_REFUSED_CNT x) + ((List.range 16).filter fun i =>
        bitsOf w (2 * i) 2 != bitsOf (s.lvWord (F.TIA_RANGE.RANGE x n).addr) (2 * i) 2).length)) ∧
  (∀ (s : State) (m : Master) (x : Fin 76) (w : Word), s.writeAccess m (F.SCAN_CFG.MODE x).addr = .ok → s.linkUp x = true →
    ∃ t, exec (.scanCfgWrite m x w) s = .next t ∧ t.tiles = s.tiles ∧ t.mem = s.mem ∧
      (bitsOf w 0 2 < 2 → bitsOf (t.lvWord (F.SCAN_CFG.MODE x).addr) 0 2 = bitsOf w 0 2 ∧ t.regs = s.regs) ∧
      (2 ≤ bitsOf w 0 2 → t.lv = s.lv ∧
        Counted (F.SENSE_REFUSED_CNT x) s t)) ∧
  (∀ (s : State) (m : Master) (x : Fin 76) (w : Word), s.writeAccess m (F.FOCUS_CFG.PD x).addr = .ok → s.linkUp x = true →
    (s.tile x).focus = none → s.focusRing (bitsOf w 16 3) = true →
    (∀ e ∈ s.tiles, e.1 ≠ x.val → ∀ f, e.2.focus = some f → f.id.ring ≠ bitsOf w 16 3) →
    ∃ t, exec (.focusStart m x w) s = .next t ∧
      (t.tile x).focus = some ⟨⟨(s.tile x).focusNum, bitsOf w 0 7, bitsOf w 16 3⟩, bitsOf w 8 7, false⟩ ∧
      (∀ a, a ≠ (F.FOCUS_CFG.PD x).addr → t.word a = s.word a) ∧ t.mem = s.mem ∧ t.outbox = s.outbox) ∧
  (∀ (s : State) (m : Master) (x : Fin 76) (w : Word), s.writeAccess m (F.FOCUS_CFG.PD x).addr = .ok → s.linkUp x = true →
    ((s.tile x).focus.isSome = true ∨ s.focusRing (bitsOf w 16 3) = false ∨
      ∃ e ∈ s.tiles, e.1 ≠ x.val ∧ ∃ f, e.2.focus = some f ∧ f.id.ring = bitsOf w 16 3) →
    ∃ t, exec (.focusStart m x w) s = .next t ∧ t.tiles = s.tiles ∧
      Counted (F.SENSE_REFUSED_CNT x) s t ∧ t.mem = s.mem) ∧
  (∀ (s : State) (x : Fin 76) (f : Focus), s.power.mainUp = true → (s.tile x).focus = some f → f.running = true →
    f.left = 0 → exec (.focusEnd x) s = .next (s.setTile x { s.tile x with focus := none })) ∧
  (∀ (s : State) (x : Fin 76), s.power.mainUp = true →
    (∀ f, (s.tile x).focus = some f → f.running = false ∨ f.left ≠ 0) → exec (.focusEnd x) s = .next s) ∧
  (∀ (s : State) (m : Master) (x : Fin 76) (w : Word), s.writeAccess m (F.DIAG_CMD.PD x).addr = .ok → s.linkUp x = true →
    s.diagBusy x = false → bitsOf w 10 4 ≠ 0 →
    ∃ t, exec (.diagCmdGo m x w) s = .next t ∧ (t.tile x).diag = some ⟨bitsOf w 0 7, bitsOf w 8 2, bitsOf w 16 10,
        diagConversions (bitsOf w 8 2) (bitsOf w 10 4), []⟩ ∧
      t.flag (F.DIAG_RESULT.BUSY x) = true ∧ t.mem = s.mem ∧ t.outbox = s.outbox) ∧
  (∀ (s : State) (m : Master) (x : Fin 76) (w : Word), s.writeAccess m (F.DIAG_CMD.PD x).addr = .ok → s.linkUp x = true →
    s.diagBusy x = false → bitsOf w 10 4 = 0 →
    ∃ t, exec (.diagCmdGo m x w) s = .next t ∧ (t.tile x).diag = none ∧ t.flag (F.DIAG_RESULT.DONE x) = true ∧
      t.flag (F.DIAG_RESULT.BUSY x) = false ∧ t.free = s.free + 2 ∧ t.mem = s.mem ∧ t.outbox = s.outbox) ∧
  (∀ (s : State) (m : Master) (x : Fin 76) (w : Word), s.writeAccess m (F.DIAG_CMD.PD x).addr = .ok → s.linkUp x = true →
    s.diagBusy x = true →
    ∃ t, exec (.diagCmdGo m x w) s = .next t ∧ t.tiles = s.tiles ∧
      Counted (F.SENSE_REFUSED_CNT x) s t ∧ t.mem = s.mem) ∧
  (∀ (s : State) (m : Master) (x : Fin 76) (w : Word), s.writeAccess m (F.FAST_CFG.BUS_A_PD x).addr = .ok →
    s.linkUp x = true → (w.getLsbD 7 = true → s.busTaken x 0 = false) → (w.getLsbD 15 = true → s.busTaken x 1 = false) →
    exec (.fastCfgWrite m x w) s = .next (s.setWord (F.FAST_CFG.BUS_A_PD x).addr (w &&& 0x1FFFF#32))) ∧
  (∀ (s : State) (m : Master) (x : Fin 76) (n : Fin 8) (w : Word), s.linkUp x = false →
    (s.writeAccess m (F.TIA_RANGE.RANGE x n).addr = .ok → exec (.tiaRangeWrite m x n w) s = .next s) ∧
    (s.writeAccess m (F.SCAN_CFG.MODE x).addr = .ok → exec (.scanCfgWrite m x w) s = .next s) ∧
    (s.writeAccess m (F.FOCUS_CFG.PD x).addr = .ok → exec (.focusStart m x w) s = .next s) ∧
    (s.writeAccess m (F.DIAG_CMD.PD x).addr = .ok → exec (.diagCmdGo m x w) s = .next s) ∧
    (s.writeAccess m (F.FAST_CFG.BUS_A_PD x).addr = .ok → exec (.fastCfgWrite m x w) s = .next s)) ∧
  ∀ (s : State) (m : Master) (x : Fin 76) (w : Word), s.writeAccess m (F.FAST_CFG.BUS_A_PD x).addr = .ok →
    s.linkUp x = true → s.power.vin = true → s.power.mainUp = true →
    ((w.getLsbD 7 = true ∧ s.busTaken x 0 = true) ∨ (w.getLsbD 15 = true ∧ s.busTaken x 1 = true)) →
    ∃ t, exec (.fastCfgWrite m x w) s = .next t ∧
      t.word (F.FAST_CFG.BUS_A_PD x).addr = s.word (F.FAST_CFG.BUS_A_PD x).addr ∧
      t.flag (Src.SENSE.FAST_CONFLICT x).real = true ∧ t.tiles = s.tiles ∧ t.mem = s.mem

/-- The tile link: training brings it up, and counts while the main side is up; its loss takes everything on its way with it
and ends the tile's calibration; a code for the selected ladder lands SEALED, one for the other ladder moves it at once; a
heater code, a select and, on a trim tile, a shutter transaction seal their sets; a transaction whose CRC fails is dropped
and counted; with none on its way nothing lands. Concludes that these answer a next state: tileLinkTrained, tileLinkLoss,
tileCodeTransaction, tileSelectTransaction, tileShutterTransaction. -/
def Obligations.LinkTransactionsLandOrAreDropped : Prop :=
  (∀ (s : State) (x : Fin 76), s.railGood x = true → s.linkUp x = false →
    ∃ t, exec (.tileLinkTrained x) s = .next t ∧ t.linkUp x = true ∧
      t.rd (F.TILE_LINK_STATUS.TRAINS x) = (if s.power.mainUp then min 255 (s.rd (F.TILE_LINK_STATUS.TRAINS x) + 1)
        else s.rd (F.TILE_LINK_STATUS.TRAINS x)) ∧
      (∀ a, a ≠ (F.TILE_LINK_STATUS.UP x).addr → t.word a = s.word a) ∧ t.tiles = s.tiles ∧ t.mem = s.mem) ∧
  (∀ (s : State) (x : Fin 76),
    (s.railGood x = false ∨ s.linkUp x = true → exec (.tileLinkTrained x) s = .next s) ∧
    (s.linkUp x = false → exec (.tileLinkLoss x) s = .next s)) ∧
  (∀ (s : State) (x : Fin 76), s.power.vin = true → s.power.mainUp = true → s.linkUp x = true →
    ∃ t, exec (.tileLinkLoss x) s = .next t ∧ t.linkUp x = false ∧ (t.tile x).down = [] ∧ (t.tile x).frame = none ∧
      (t.tile x).onWay = 0 ∧ (t.tile x).held = [] ∧ (t.tile x).focusHeld = [] ∧ t.calRunning x = false ∧
      t.flag (Src.SENSE.LINK_DOWN x).real = true ∧ t.mem = s.mem) ∧
  (∀ (s : State) (x : Fin 76) (ch k code : Nat) (r : Bool) (rest : List Txn),
    takeFirst isCode (s.tile x).down = some (.code ch k code r, rest) → ch < 64 → k < 2 →
    ∃ t, exec (.tileCodeTransaction x true) s = .next t ∧ (t.tile x).down = rest ∧
      t.rd (shdCode x ch k) = code % 65536 ∧
      (s.rd (F.POCK_STAT.ACT_SEL x ch) = k → t.rd (ladderSet x ch k) = 2 ∧ t.rd (actCode x ch k) = s.rd (actCode x ch k)) ∧
      (s.rd (F.POCK_STAT.ACT_SEL x ch) ≠ k → t.rd (ladderSet x ch k) = 0 ∧ t.rd (actCode x ch k) = code % 65536) ∧
      t.mem = s.mem ∧ t.outbox = s.outbox) ∧
  (∀ (s : State) (x : Fin 76) (ch k code : Nat) (r : Bool) (rest : List Txn),
    takeFirst isCode (s.tile x).down = some (.code ch k code r, rest) → ch < 64 → 2 ≤ k →
    ∃ t, exec (.tileCodeTransaction x true) s = .next t ∧ (t.tile x).down = rest ∧
      t.rd (F.HTR_SHD.CODE x ch) = code % 65536 ∧ t.rd (F.HTR_SHD.RANGE x ch) = r.toNat ∧ t.rd (F.HTR_ACT.SET x ch) = 2 ∧
      t.rd (F.HTR_ACT.ACT_CODE x ch) = s.rd (F.HTR_ACT.ACT_CODE x ch) ∧ t.mem = s.mem ∧ t.outbox = s.outbox) ∧
  (∀ (s : State) (x : Fin 76) (k : Nat) (sel : BitVec 64) (rest : List Txn),
    takeFirst isSelect (s.tile x).down = some (.select k sel, rest) →
    ∃ t, exec (.tileSelectTransaction x true) s = .next t ∧ (t.tile x).down = rest ∧ (t.tile x).slotShadow = k ∧
      (∀ ch, ch < 64 → t.rd (F.POCK_SEL_SHD.SEL x ch) = (sel.getLsbD ch).toNat ∧ t.rd (F.POCK_STAT.SEL_SET x ch) = 2 ∧
        t.rd (F.POCK_STAT.ACT_SEL x ch) = s.rd (F.POCK_STAT.ACT_SEL x ch)) ∧ t.mem = s.mem ∧ t.outbox = s.outbox) ∧
  (∀ (s : State) (x : Fin 76) (bits : BitVec 64) (rest : List Txn),
    takeFirst isShutter (s.tile x).down = some (.shutter bits, rest) → isTrimTile x = true →
    ∃ t, exec (.tileShutterTransaction x true) s = .next t ∧ (t.tile x).down = rest ∧
      t.rdW (F.SHUT_SHD x) = bits.toNat ∧ t.rdW (F.SHUT_PEND x) = 2 ^ 64 - 1 ∧ (t.tile x).shutOpen = 0 ∧
      t.rdW (F.SHUT_ACT x) = s.rdW (F.SHUT_ACT x) ∧ t.mem = s.mem ∧ t.outbox = s.outbox) ∧
  (∀ (s : State) (x : Fin 76) (bits : BitVec 64) (rest : List Txn),
    takeFirst isShutter (s.tile x).down = some (.shutter bits, rest) → isTrimTile x = false →
    exec (.tileShutterTransaction x true) s = .next (s.setTile x { s.tile x with down := rest })) ∧
  (∀ (s : State) (x : Fin 76) (p : Txn → Bool) (c : Instr), (p = isCode ∧ c = .tileCodeTransaction x false) ∨
      (p = isSelect ∧ c = .tileSelectTransaction x false) ∨ (p = isShutter ∧ c = .tileShutterTransaction x false) →
    ∀ (y : Txn) (rest : List Txn), takeFirst p (s.tile x).down = some (y, rest) →
    ∃ t, exec c s = .next t ∧ (t.tile x).down = rest ∧ Counted (F.LINK_CRC_CNT x) s t ∧ t.mem = s.mem) ∧
  ∀ (s : State) (x : Fin 76) (ok : Bool),
    (takeFirst isCode (s.tile x).down = none → exec (.tileCodeTransaction x ok) s = .next s) ∧
    (takeFirst isSelect (s.tile x).down = none → exec (.tileSelectTransaction x ok) s = .next s) ∧
    (takeFirst isShutter (s.tile x).down = none → exec (.tileShutterTransaction x ok) s = .next s)

/-! ## Loop engines (chapters 05, 06) -/

/-- Whatever a record makes of its loop, every ladder code the update issues lies between CODE_MIN and CODE_MAX, every heater
code between HCODE_MIN and HCODE_MAX, on the loop's own channel. -/
def Obligations.UpdatesStayWithinTheCodeLimits : Prop :=
  ∀ (s : State) (l : Nat) (r : Record) (ch k code : Nat) (rng : Bool), r.actSel < 2 →
    (s.loopCfgNext l).codeMin ≤ (s.loopCfgNext l).codeMax → LoopEffect.code (.code ch k code rng) ∈ s.recordEffects l r → ch = loopChan l ∧
      (k < 2 → (s.loopCfgNext l).codeMin ≤ code ∧ code ≤ (s.loopCfgNext l).codeMax) ∧
      (2 ≤ k → (s.loopCfgNext l).hcodeMin ≤ code ∧ code ≤ (s.loopCfgNext l).hcodeMax)

/-- Records and transfers: a loop record waits, with the effects it will have, for its frame, and a focus record with its two
samples; one too late for a loop in AUTO is dropped and counted, and its loop has no part in PROBE_EST; a record of another
kind, and one of a course held by a warm start, has no effect on its loop; the frame's check ends the wait, and a bad CRC
drops every effect and every focus sample of the frame; PROBE_EST goes to every course; a loop leaves AUTO once its codes
have landed, and enters it with its presets armed; a transfer that is not due changes nothing. Concludes that these answer a
next state: loopRecord, tileFrameChecked, probeEstUpdate, transferOutOfAuto, transferIntoAuto. -/
def Obligations.LoopRecordsAndTransfersTakeEffect : Prop :=
  (∀ (s : State) (x : Fin 76) (k : Fin 64) (late : Bool) (d : Nat) (r : Record), s.power.mainUp = true →
    (s.tile x).onWay.getLsbD k = true → (s.tile x).recs.lookup k.val = some r → s.hWarm (loopAt x k) = false → r.kind = 0 →
    (late = false ∨ s.loopState (loopAt x k) ≠ 2) →
    ∃ t es, exec (.loopRecord x k late d) s = .next t ∧ (t.tile x).held = (s.tile x).held ++ [(loopAt x k, es)] ∧
      (s.loopState (loopAt x k) = 0 → es = []) ∧ (t.tile x).onWay.getLsbD k = false ∧
      (∀ a, a ≠ (F.ENGINE_STATUS.QUEUE_MAX (tileCourse x)).addr → t.word a = s.word a) ∧ t.loops = s.loops ∧
      t.mem = s.mem ∧ t.outbox = s.outbox) ∧
  (∀ (s : State) (x : Fin 76) (k : Fin 64) (d : Nat) (r : Record), s.power.mainUp = true →
    (s.tile x).onWay.getLsbD k = true → (s.tile x).recs.lookup k.val = some r → s.hWarm (loopAt x k) = false → r.kind = 0 →
    s.loopState (loopAt x k) = 2 →
    ∃ t, exec (.loopRecord x k true d) s = .next t ∧ (t.tile x).held = (s.tile x).held ∧
      Counted (F.LATE_CNT (tileCourse x)) s t ∧
      t.flag (F.LOOP_STAT.LATE (loopCourse (loopAt x k)) (loopIndex (loopAt x k))) = true ∧
      (t.loopMem (loopAt x k)).latest = none ∧ t.mem = s.mem) ∧
  (∀ (s : State) (x : Fin 76) (k : Fin 64) (late : Bool) (d : Nat) (r : Record) (f : FocusId), s.power.mainUp = true →
    (s.tile x).onWay.getLsbD k = true → (s.tile x).recs.lookup k.val = some r → s.hWarm (loopAt x k) = false → r.kind = 3 →
    r.focus = some f →
    ∃ t, exec (.loopRecord x k late d) s = .next t ∧
      (t.tile x).focusHeld = addSamples (s.tile x).focusHeld ⟨f, [r.a, r.b]⟩ ∧ (t.tile x).held = (s.tile x).held ∧
      t.loops = s.loops ∧ t.mem = s.mem ∧ t.outbox = s.outbox) ∧
  (∀ (s : State) (x : Fin 76) (k : Fin 64) (late : Bool) (d : Nat) (r : Record), s.power.mainUp = true →
    (s.tile x).onWay.getLsbD k = true → (s.tile x).recs.lookup k.val = some r →
    (s.hWarm (loopAt x k) = true ∨ (r.kind ≠ 0 ∧ r.kind ≠ 3)) →
    ∃ t, exec (.loopRecord x k late d) s = .next t ∧ (t.tile x).held = (s.tile x).held ∧
      (t.tile x).focusHeld = (s.tile x).focusHeld ∧ (t.tile x).onWay.getLsbD k = false ∧ t.loops = s.loops ∧
      t.mem = s.mem ∧ t.outbox = s.outbox) ∧
  (∀ (s : State) (x : Fin 76) (k : Fin 64) (late : Bool) (d : Nat), s.power.mainUp = true →
    ((s.tile x).onWay.getLsbD k = false ∨ (s.tile x).recs.lookup k.val = none) →
    exec (.loopRecord x k late d) s = .next s) ∧
  (∀ (s : State) (x : Fin 76), s.power.mainUp = true → (s.tile x).frame.isSome = true →
    ∃ t, exec (.tileFrameChecked x true) s = .next t ∧ (t.tile x).frame = none ∧ (t.tile x).held = [] ∧
      (t.tile x).focusHeld = [] ∧ (t.tile x).focusBuf = (s.tile x).focusHeld.foldl addSamples (s.tile x).focusBuf ∧
      ((s.tile x).held = [] → t.regs = s.regs ∧ t.loops = s.loops) ∧ t.mem = s.mem) ∧
  (∀ (s : State) (x : Fin 76), s.power.mainUp = true → (s.tile x).frame.isSome = true →
    ∃ t, exec (.tileFrameChecked x false) s = .next t ∧ (t.tile x).frame = none ∧ (t.tile x).held = [] ∧
      (t.tile x).focusHeld = [] ∧ (t.tile x).focusBuf = (s.tile x).focusBuf ∧ Counted (F.LINK_CRC_CNT x) s t ∧ t.loops = s.loops ∧ t.mem = s.mem) ∧
  (∀ (s : State) (x : Fin 76) (ok : Bool), s.power.mainUp = true → (s.tile x).frame = none →
    exec (.tileFrameChecked x ok) s = .next s) ∧
  (∀ s : State, s.power.mainUp = true →
    ∃ t, exec .probeEstUpdate s = .next t ∧ (∀ c, c < 19 → t.rd (F.COURSE_PROBE_EST.EST c) = s.probeEst) ∧
      t.rd F.AGEING_PROBE_EST.EST = s.probeEst ∧ t.loops = s.loops ∧ t.tiles = s.tiles ∧ t.mem = s.mem ∧
      t.outbox = s.outbox) ∧
  (∀ (s : State) (l : Fin 4864), s.power.mainUp = true → s.loopState l = 2 → s.loopGoal l ≠ 2 → s.codeInFlight l = false →
    ∃ t, exec (.transferOutOfAuto l) s = .next t ∧ t.loopState l = s.loopGoal l ∧ t.rd (loopStatState l) = s.loopGoal l ∧
      t.loopBusy l = false ∧ (∀ es, (l.val, es) ∉ (t.tile (loopTile l)).held) ∧ (t.loopMem l).repReset = 0 ∧
      t.mem = s.mem ∧ t.outbox = s.outbox) ∧
  (∀ (s : State) (l : Fin 4864), s.power.mainUp = true →
    (s.loopState l ≠ 2 ∨ s.loopGoal l = 2 ∨ s.codeInFlight l = true → exec (.transferOutOfAuto l) s = .next s) ∧
    (s.loopGoal l ≠ 2 ∨ s.loopState l = 2 → exec (.transferIntoAuto l) s = .next s)) ∧
  ∀ (s : State) (l : Fin 4864), s.power.mainUp = true → s.loopGoal l = 2 → s.loopState l ≠ 2 →
    ∃ t, exec (.transferIntoAuto l) s = .next t ∧ t.loopState l = 2 ∧ t.loopBusy l = false ∧
      t.rd (F.HEART.HCODE l) = s.rd (F.HTR_ACT.ACT_CODE (loopTile l) (loopChan l)) ∧
      t.rd (F.LOOP_STAT.PRESET (loopCourse l) (loopIndex l)) = 3 ∧ t.flag (F.STATE.PREV_VALID l) = false ∧
      (t.loopMem l).last0 = s.rd (F.POCK_ACT.ACT0 (loopTile l) (loopChan l)) ∧
      (t.loopMem l).last1 = s.rd (F.POCK_ACT.ACT1 (loopTile l) (loopChan l)) ∧
      t.rd (F.INT0.I0 l) = s.rd (F.INT0.I0 l) ∧ t.rd (F.INT1.I1 l) = s.rd (F.INT1.I1 l) ∧
      (∀ x : Nat, (x ≠ loopTile l ∨ ∀ es, (l.val, es) ∉ (s.tile x).held) → t.tile x = s.tile x) ∧
      t.mem = s.mem ∧ t.outbox = s.outbox

/-- Writes of the loops: TARGET takes its value or is refused and counted; holds and freezes stand as written; H_EVT clears,
unless an event has set it in the same clock cycle; REP_RESET clears the entries at once outside AUTO and waits in AUTO; a
parameter waits in AUTO and acts at once outside it, or is refused and counted; the state words and the repetitive memory are
written where R135 and R153 let the writer, and refused and counted otherwise. Concludes that these answer a next state:
loopTargetWrite, loopHoldWrite, repFreezeWrite, hEvtClear, repReset, loopParamWrite, loopStateWrite, repetitiveWrite. -/
def Obligations.LoopWritesTakeEffectOrRefuse : Prop :=
  (∀ (s : State) (m : Master) (l : Fin 4864) (v : Fin 4), s.writeAccess m (loopCtrlTarget l).addr = .ok → v.val ≠ 3 →
    (v.val = 2 → s.autoRefused l = false) →
    ∃ t, exec (.loopTargetWrite m l v) s = .next t ∧ t.rd (loopCtrlTarget l) = v ∧ t.rd (loopStatState l) = s.loopState l ∧
      t.hHost l = s.hHost l ∧ t.tiles = s.tiles ∧ t.mem = s.mem ∧ t.outbox = s.outbox) ∧
  (∀ (s : State) (m : Master) (l : Fin 4864) (v : Fin 4), s.writeAccess m (loopCtrlTarget l).addr = .ok →
    (v.val = 3 ∨ (v.val = 2 ∧ s.autoRefused l = true)) →
    ∃ t, exec (.loopTargetWrite m l v) s = .next t ∧ t.rd (loopCtrlTarget l) = s.rd (loopCtrlTarget l) ∧
      Counted (F.TRANSFER_REFUSED_CNT (loopCourse l)) s t ∧
      t.tiles = s.tiles ∧ t.mem = s.mem) ∧
  (∀ (s : State) (m : Master) (l : Fin 4864) (on : Bool), s.writeAccess m (loopCtrlTarget l).addr = .ok →
    ∃ t, exec (.loopHoldWrite m (.loop l) on) s = .next t ∧
      t.flag (F.LOOP_CTRL.HOLD (loopCourse l) (loopIndex l)) = on ∧ t.rd (loopCtrlTarget l) = s.rd (loopCtrlTarget l) ∧
      t.tiles = s.tiles ∧ t.mem = s.mem) ∧
  (∀ (s : State) (m : Master) (c : Fin 19) (on : Bool), s.writeAccess m (F.COURSE_CTRL.HOLD_ALL c).addr = .ok →
    ∃ t, exec (.loopHoldWrite m (.course c) on) s = .next t ∧ t.flag (F.COURSE_CTRL.HOLD_ALL c) = on ∧
      t.flag (F.COURSE_CTRL.REP_FREEZE_ALL c) = s.flag (F.COURSE_CTRL.REP_FREEZE_ALL c) ∧ t.loops = s.loops ∧
      t.tiles = s.tiles ∧ t.mem = s.mem ∧ t.outbox = s.outbox) ∧
  (∀ (s : State) (m : Master) (l : Fin 4864) (on : Bool), s.writeAccess m (loopCtrlTarget l).addr = .ok →
    ∃ t, exec (.repFreezeWrite m (.loop l) on) s = .next t ∧
      t.flag (F.LOOP_CTRL.REP_FREEZE (loopCourse l) (loopIndex l)) = on ∧
      t.rd (loopCtrlTarget l) = s.rd (loopCtrlTarget l) ∧ t.tiles = s.tiles ∧ t.mem = s.mem) ∧
  (∀ (s : State) (m : Master) (c : Fin 19) (on : Bool), s.writeAccess m (F.COURSE_CTRL.HOLD_ALL c).addr = .ok →
    ∃ t, exec (.repFreezeWrite m (.course c) on) s = .next t ∧ t.flag (F.COURSE_CTRL.REP_FREEZE_ALL c) = on ∧
      t.flag (F.COURSE_CTRL.HOLD_ALL c) = s.flag (F.COURSE_CTRL.HOLD_ALL c) ∧ t.loops = s.loops ∧ t.tiles = s.tiles ∧
      t.mem = s.mem ∧ t.outbox = s.outbox) ∧
  (∀ (s : State) (m : Master) (l : Fin 4864), s.writeAccess m (loopStatState l).addr = .ok →
    ∃ t, exec (.hEvtClear m l) s = .next t ∧
      t.hEvt l = (s.hEvt l && s.fresh.contains ((F.LOOP_STAT.H_EVT (loopCourse l) (loopIndex l)).addr,
        (F.LOOP_STAT.H_EVT (loopCourse l) (loopIndex l)).lsb)) ∧ t.rd (loopStatState l) = s.loopState l ∧
      (∀ a, a ≠ (loopStatState l).addr → t.word a = s.word a) ∧ t.loops = s.loops ∧ t.tiles = s.tiles ∧ t.mem = s.mem ∧
      t.outbox = s.outbox) ∧
  (∀ (s : State) (m : Master) (l : Fin 4864) (b : Fin 4), s.writeAccess m (loopCtrlTarget l).addr = .ok → b.val ≠ 0 →
    ∃ t, exec (.repReset m l b) s = .next t ∧
      (s.loopState l = 2 → (t.loopMem l).repReset = ((s.loopMem l).repReset ||| b.val) ∧
        ∀ st k, st < 2 → k < 64 → t.rd (F.REP.ENTRY l st k) = s.rd (F.REP.ENTRY l st k)) ∧
      (s.loopState l ≠ 2 → t.loops = s.loops ∧
        ∀ st k, st < 2 → k < 64 → b.val.testBit st = true → t.rd (F.REP.ENTRY l st k) = 0) ∧
      t.tiles = s.tiles ∧ t.mem = s.mem) ∧
  (∀ (s : State) (m : Master) (l : Fin 4864) (n : Fin 11) (w v : Word), s.writeAccess m (loopWordAddr l n) = .ok →
    v = w &&& accMask (loopWordAddr l n) [.lv] →
    s.paramWriteRefused l n (loopCfgOf fun k => if k = n.val then v else s.lvWord (loopWordAddr l k)) = false →
    ∃ t, exec (.loopParamWrite m l n w) s = .next t ∧
      t.lvWord (loopWordAddr l n) = (s.word (loopWordAddr l n) &&& ~~~accMask (loopWordAddr l n) [.lv]) ||| v ∧
      (s.loopState l = 2 → t.regs = s.regs) ∧
      (s.loopState l ≠ 2 →
        t.word (loopWordAddr l n) = (s.word (loopWordAddr l n) &&& ~~~accMask (loopWordAddr l n) [.lv]) ||| v ∧
        t.rd (F.CHK.VAL l) = (loopChk fun k => t.word (loopWordAddr l k)).toNat) ∧
      (s.loopState l = 2 ∨ (s.loopMem l).plNext = none → t.loops = s.loops) ∧ t.tiles = s.tiles ∧ t.mem = s.mem ∧
      t.outbox = s.outbox) ∧
  (∀ (s : State) (m : Master) (l : Fin 4864) (n : Fin 11) (w : Word), s.writeAccess m (loopWordAddr l n) = .ok →
    s.paramWriteRefused l n
      (loopCfgOf fun k => if k = n.val then w &&& accMask (loopWordAddr l n) [.lv] else s.lvWord (loopWordAddr l k)) = true →
    ∃ t, exec (.loopParamWrite m l n w) s = .next t ∧ t.lv = s.lv ∧ t.word (loopWordAddr l n) = s.word (loopWordAddr l n) ∧
      Counted (F.COURSE_PARAM_REFUSED_CNT (loopCourse l)) s t ∧ t.mem = s.mem) ∧
  (∀ (s : State) (m : Master) (l : Fin 4864) (k : Fin 3) (w : Word), s.writeAccess m (loopWordAddr l (12 + k)) = .ok →
    (externalHost m = false ∨ s.hostMayWrite l = true) →
    ∃ t, exec (.loopStateWrite m l k w) s = .next t ∧
      t.word (loopWordAddr l (12 + k)) =
        (if k.val = 2 then withBits (s.word (loopWordAddr l 14)) 0 16 (bitsOf w 0 16) else w) ∧
      (∀ a, a ≠ loopWordAddr l (12 + k) → t.word a = s.word a) ∧ t.loops = s.loops ∧ t.tiles = s.tiles ∧ t.mem = s.mem ∧
      t.outbox = s.outbox) ∧
  (∀ (s : State) (m : Master) (l : Fin 4864) (k : Fin 3) (w : Word), s.writeAccess m (loopWordAddr l (12 + k)) = .ok →
    externalHost m = true → s.hostMayWrite l = false →
    ∃ t, exec (.loopStateWrite m l k w) s = .next t ∧ t.word (loopWordAddr l (12 + k)) = s.word (loopWordAddr l (12 + k)) ∧
      Counted (F.COURSE_PARAM_REFUSED_CNT (loopCourse l)) s t ∧ t.mem = s.mem) ∧
  (∀ (s : State) (m : Master) (l : Fin 4864) (st : Fin 2) (n : Fin 32) (w : Word),
    s.writeAccess m (F.REP.ENTRY l st (2 * n)).addr = .ok → (s.loopState l ≠ 2 ∨ s.repFrozen l = true) →
    exec (.repetitiveWrite m l st n w) s = .next (s.setWord (F.REP.ENTRY l st (2 * n)).addr w)) ∧
  ∀ (s : State) (m : Master) (l : Fin 4864) (st : Fin 2) (n : Fin 32) (w : Word),
    s.writeAccess m (F.REP.ENTRY l st (2 * n)).addr = .ok → s.loopState l = 2 → s.repFrozen l = false →
    ∃ t, exec (.repetitiveWrite m l st n w) s = .next t ∧
      t.word (F.REP.ENTRY l st (2 * n)).addr = s.word (F.REP.ENTRY l st (2 * n)).addr ∧
      Counted (F.COURSE_PARAM_REFUSED_CNT (loopCourse l)) s t ∧ t.mem = s.mem

/-! ## The frame parser (chapter 10) -/

/-- Frames and passes: a bad frame and a PAUSE frame are counted and go no further; a frame no rule decides is counted and,
by a DROP default, dropped; a FIRMWARE rule counts its hit and hands the frame to firmware, a DROP rule drops it, a RECIRC
rule queues it for its second pass, a KOWIN rule delivers it; a walk that stops takes its stop; nothing is received on a lane
that is off or not locked. The recirculation queue's oldest frame takes its second pass; firmware answers what it can and
hands the rest to the host's slow ring, or loses it where that is full or disabled; with nothing queued neither command does
anything. Concludes that these answer a next state: laneFrameRx, recircPass, slowPathFrame. -/
def Obligations.FramesAreCountedAndDecided : Prop :=
  (∀ (s : State) (n : Fin 64) (ago : Nat) (bs : List Byte), s.power.mainUp = true → s.laneOn n = true →
    s.flag (F.LANE_STATUS.PCS_LOCK n) = true →
    ∃ t, exec (.laneFrameRx n ago true bs) s = .next t ∧ Counted (F.PCS_ERR_CNT n) s t ∧ t.parser = s.parser ∧
      t.lanes = s.lanes ∧ t.mem = s.mem) ∧
  (∀ (s : State) (n : Fin 64) (ago : Nat) (bs : List Byte), s.power.mainUp = true → s.laneOn n = true →
    s.flag (F.LANE_STATUS.PCS_LOCK n) = true → isPause bs = true →
    ∃ t, exec (.laneFrameRx n ago false bs) s = .next t ∧ Counted (F.PAUSE_RX_CNT n) s t ∧ t.parser = s.parser ∧
      t.lanes = s.lanes ∧ t.mem = s.mem) ∧
  (∀ (s : State) (n : Fin 64) (ago : Nat) (bs : List Byte) (c : Chain), s.power.mainUp = true → s.laneOn n = true →
    s.flag (F.LANE_STATUS.PCS_LOCK n) = true → isPause bs = false → s.walk bs = .ok c →
    s.decidingRule (s.bankOf (s.stampFrame n ago bs)) (s.ruleKey n 0 c) = none → s.flag (F.LANE_PCFG.DEFAULT n) = false →
    ∃ t, exec (.laneFrameRx n ago false bs) s = .next t ∧ Counted F.FRAMES_PARSED s t ∧ Counted (F.LANE_FRAMES n) s t ∧
      Counted F.NO_MATCH_CNT s t ∧ Counted F.DROP_CNT s t ∧ t.parser = s.parser ∧ t.lanes = s.lanes ∧ t.mem = s.mem) ∧
  (∀ (s : State) (n : Fin 64) (ago : Nat) (bs : List Byte) (c : Chain) (k : Nat) (r : Rule), s.power.mainUp = true →
    s.laneOn n = true → s.flag (F.LANE_STATUS.PCS_LOCK n) = true → isPause bs = false → s.walk bs = .ok c →
    s.decidingRule (s.bankOf (s.stampFrame n ago bs)) (s.ruleKey n 0 c) = some (k, r) → bitsOf r.action 0 5 = 3 →
    s.parser.slow.length < 256 →
    ∃ t, exec (.laneFrameRx n ago false bs) s = .next t ∧ Counted F.FRAMES_PARSED s t ∧ Counted F.SLOW_CNT s t ∧
      t.parser.slow = s.parser.slow ++ [⟨s.stampFrame n ago bs, 0, 0, k % 1024⟩] ∧
      (t.rule k).hits = min counterMax ((s.rule k).hits + 1) ∧ t.parser.recirc = s.parser.recirc ∧ t.lanes = s.lanes ∧
      t.mem = s.mem) ∧
  (∀ (s : State) (n : Fin 64) (ago : Nat) (bs : List Byte) (c : Chain) (k : Nat) (r : Rule), s.power.mainUp = true →
    s.laneOn n = true → s.flag (F.LANE_STATUS.PCS_LOCK n) = true → isPause bs = false → s.walk bs = .ok c →
    s.decidingRule (s.bankOf (s.stampFrame n ago bs)) (s.ruleKey n 0 c) = some (k, r) →
    (bitsOf r.action 0 5 = 0 →
      ∃ t, exec (.laneFrameRx n ago false bs) s = .next t ∧ Counted F.DROP_CNT s t ∧
        (t.rule k).hits = min counterMax ((s.rule k).hits + 1) ∧ t.parser.slow = s.parser.slow ∧
        t.parser.recirc = s.parser.recirc ∧ t.lanes = s.lanes ∧ t.mem = s.mem) ∧
    (bitsOf r.action 0 5 = 4 → s.parser.recirc.length < 32 →
      ∃ t, exec (.laneFrameRx n ago false bs) s = .next t ∧ t.parser.recirc = s.parser.recirc ++ [s.stampFrame n ago bs] ∧
        (t.rule k).hits = min counterMax ((s.rule k).hits + 1) ∧ t.parser.slow = s.parser.slow ∧ t.lanes = s.lanes ∧
        t.mem = s.mem) ∧
    (bitsOf r.action 0 5 = 1 → exec (.laneFrameRx n ago false bs) s =
      .next ((((s.bump F.FRAMES_PARSED).bump (F.LANE_FRAMES n)).hitRule k).actKowin (s.stampFrame n ago bs) 0 c))) ∧
  (∀ (s : State) (n : Fin 64) (ago : Nat) (bs : List Byte) (x : ParseStop), s.power.mainUp = true → s.laneOn n = true →
    s.flag (F.LANE_STATUS.PCS_LOCK n) = true → isPause bs = false → s.walk bs = .error x →
    exec (.laneFrameRx n ago false bs) s =
      .next (((s.bump F.FRAMES_PARSED).bump (F.LANE_FRAMES n)).stopFrame (s.stampFrame n ago bs) 0 x)) ∧
  (∀ (s : State) (n : Fin 64) (ago : Nat) (bad : Bool) (bs : List Byte), s.power.mainUp = true →
    (s.laneOn n = false ∨ s.flag (F.LANE_STATUS.PCS_LOCK n) = false) → exec (.laneFrameRx n ago bad bs) s = .next s) ∧
  (∀ s : State, s.power.mainUp = true → (s.parser.recirc = [] → exec .recircPass s = .next s) ∧
    (s.parser.slow = [] → exec .slowPathFrame s = .next s)) ∧
  (∀ (s : State) (f : RxFrame) (rest : List RxFrame) (c : Chain), s.power.mainUp = true → s.parser.recirc = f :: rest →
    (s.walk f.bytes >>= walkInner f.bytes) = .ok c → s.decidingRule (s.bankOf f) (s.ruleKey f.lane 1 c) = none →
    f.slowDefault = false → f.lane < 64 →
    ∃ t, exec .recircPass s = .next t ∧ t.parser = { s.parser with recirc := rest } ∧ Counted F.RECIRCULATED s t ∧
      Counted F.NO_MATCH_CNT s t ∧ Counted F.DROP_CNT s t ∧ t.lanes = s.lanes ∧ t.mem = s.mem) ∧
  (∀ (s : State) (x : SlowFrame) (rest : List SlowFrame) (a : FwAnswer), s.power.mainUp = true → s.parser.slow = x :: rest →
    s.fwAnswer x = some a → (a.echo = false ∨ s.echoCount x.frame.lane < 1000) →
    ∃ t bs, exec .slowPathFrame s = .next t ∧ t.parser.slow = rest ∧ t.parser.rules = s.parser.rules ∧
      Counted F.FW_ANSWERED_CNT s t ∧ .frame x.frame.lane bs ∈ t.outbox ∧ t.mem = s.mem) ∧
  (∀ (s : State) (x : SlowFrame) (rest : List SlowFrame), s.power.mainUp = true → s.parser.slow = x :: rest →
    (∀ a, s.fwAnswer x = some a → a.echo = true ∧ 1000 ≤ s.echoCount x.frame.lane) → s.ringOn (.parser 0) = true →
    s.ringFull (.parser 0) = false →
    ∃ t, exec .slowPathFrame s = .next t ∧ t.parser.slow = rest ∧
      t.memBytes (s.ringBlock (.parser 0) (s.rd (RingId.parser 0).wr))
        (entryBytes x (sparseGet (fun _ => 0) s.parser.entrySeq 0)).length =
        entryBytes x (sparseGet (fun _ => 0) s.parser.entrySeq 0) ∧
      t.rd (RingId.parser 0).wr =
        (s.ringNext (.parser 0) (s.rd (RingId.parser 0).wr) (s.rd (RingId.parser 0).wrWrap)).1 % 4096) ∧
  ∀ (s : State) (x : SlowFrame) (rest : List SlowFrame), s.power.mainUp = true → s.parser.slow = x :: rest →
    (∀ a, s.fwAnswer x = some a → a.echo = true ∧ 1000 ≤ s.echoCount x.frame.lane) →
    (s.ringOn (.parser 0) = false ∨ s.ringFull (.parser 0) = true) →
    ∃ t, exec .slowPathFrame s = .next t ∧ t.parser = { s.parser with slow := rest } ∧ Counted F.SLOW_DROP_CNT s t ∧
      t.flag (RingId.parser 0).overrun = true ∧ t.mem = s.mem

/-- Rule banks: READ shows the selected rule and its hits; WRITE fills a rule of the inactive bank and is refused for the
active bank, a bad rule or a busy parser; a swap exchanges the banks at once, or at its frame, which may be now and is
refused where it has passed; while the parser is busy it is refused; OLD_BUSY clears once no old frame is left, and not
before. Concludes that these answer a next state: ruleCmdRead, ruleCmdWrite, swapCmd, oldBusyClear. -/
def Obligations.RuleBanksReadWriteAndSwap : Prop :=
  (∀ (s : State) (m : Master), s.writeAccess m F.RULE_CMD.READ.addr = .ok →
    ∃ t, exec (.ruleCmdRead m) s = .next t ∧
      (∀ i, i < 8 → t.word (F.RULE_DATA.WORD i).addr = (s.rule s.ruleSel).words.getD i 0) ∧
      t.rdW F.RULE_HIT = (s.rule s.ruleSel).hits % 2 ^ 48 ∧ t.parser = s.parser ∧ t.mem = s.mem ∧ t.outbox = s.outbox) ∧
  (∀ (s : State) (m : Master), s.writeAccess m F.RULE_CMD.WRITE.addr = .ok →
    s.rd F.RULE_SEL.BANK ≠ s.rd F.PARSER_BANK_STATUS.ACTIVE → s.parserBusy = false →
    (ruleOfWords (fun i => s.word (F.RULE_DATA.WORD i).addr) (s.rule s.ruleSel).hits).bad = false →
    exec (.ruleCmdWrite m) s = .next (s.setRule s.ruleSel
      (ruleOfWords (fun i => s.word (F.RULE_DATA.WORD i).addr) (s.rule s.ruleSel).hits))) ∧
  (∀ (s : State) (m : Master), s.writeAccess m F.RULE_CMD.WRITE.addr = .ok →
    (s.rd F.RULE_SEL.BANK = s.rd F.PARSER_BANK_STATUS.ACTIVE ∨ s.parserBusy = true ∨
      (ruleOfWords (fun i => s.word (F.RULE_DATA.WORD i).addr) (s.rule s.ruleSel).hits).bad = true) →
    ∃ t, exec (.ruleCmdWrite m) s = .next t ∧ t.parser = s.parser ∧ Counted F.PARSER_WRITE_REFUSED_CNT s t ∧ t.mem = s.mem) ∧
  (∀ (s : State) (m : Master), s.writeAccess m F.SWAP_CMD.GO.addr = .ok → s.parserBusy = false →
    ∃ t, exec (.swapCmd m false) s = .next t ∧
      t.rd F.PARSER_BANK_STATUS.ACTIVE = 1 - s.rd F.PARSER_BANK_STATUS.ACTIVE ∧
      t.rd F.PARSER_BANK_STATUS.EPOCH = (s.rd F.PARSER_BANK_STATUS.EPOCH + 1) % 65536 ∧
      t.flag F.PARSER_BANK_STATUS.OLD_BUSY = true ∧ t.parser = { s.parser with swapAt := s.now } ∧
      (∀ a, a ≠ F.PARSER_BANK_STATUS.ACTIVE.addr → t.word a = s.word a) ∧ t.mem = s.mem ∧ t.outbox = s.outbox) ∧
  (∀ (s : State) (m : Master), s.writeAccess m F.SWAP_CMD.GO.addr = .ok → s.parserBusy = false →
    s.now < s.frameStart (s.rdW F.SWAP_FRAME) →
    ∃ t, exec (.swapCmd m true) s = .next t ∧ t.flag F.PARSER_BANK_STATUS.SWAP_PENDING = true ∧
      t.rd F.PARSER_BANK_STATUS.ACTIVE = s.rd F.PARSER_BANK_STATUS.ACTIVE ∧ t.parser = s.parser ∧ t.mem = s.mem) ∧
  (∀ (s : State) (m : Master), s.writeAccess m F.SWAP_CMD.GO.addr = .ok → s.parserBusy = false →
    s.now = s.frameStart (s.rdW F.SWAP_FRAME) →
    ∃ t, exec (.swapCmd m true) s = .next t ∧
      t.rd F.PARSER_BANK_STATUS.ACTIVE = 1 - s.rd F.PARSER_BANK_STATUS.ACTIVE ∧
      t.flag F.PARSER_BANK_STATUS.OLD_BUSY = true ∧ t.flag F.PARSER_BANK_STATUS.SWAP_PENDING = false ∧
      t.parser = { s.parser with swapAt := s.now } ∧ t.mem = s.mem) ∧
  (∀ (s : State) (m : Master), s.writeAccess m F.SWAP_CMD.GO.addr = .ok → s.parserBusy = false →
    s.frameStart (s.rdW F.SWAP_FRAME) < s.now →
    ∃ t, exec (.swapCmd m true) s = .next t ∧ t.parser = s.parser ∧ Counted F.PARSER_WRITE_REFUSED_CNT s t ∧
      t.mem = s.mem) ∧
  (∀ (s : State) (m : Master) (f : Bool), s.writeAccess m F.SWAP_CMD.GO.addr = .ok → s.parserBusy = true →
    ∃ t, exec (.swapCmd m f) s = .next t ∧ t.parser = s.parser ∧
      t.word F.PARSER_BANK_STATUS.ACTIVE.addr = s.word F.PARSER_BANK_STATUS.ACTIVE.addr ∧
      Counted F.PARSER_WRITE_REFUSED_CNT s t ∧ t.mem = s.mem) ∧
  (∀ s : State, s.power.mainUp = true → (∃ f ∈ s.parser.recirc, f.epoch ≠ s.rd F.PARSER_BANK_STATUS.EPOCH) →
    exec .oldBusyClear s = .next s) ∧
  ∀ s : State, s.power.mainUp = true → (∀ f ∈ s.parser.recirc, f.epoch = s.rd F.PARSER_BANK_STATUS.EPOCH) →
    ∃ t, exec .oldBusyClear s = .next t ∧ t.flag F.PARSER_BANK_STATUS.OLD_BUSY = false ∧
      t.rd F.PARSER_BANK_STATUS.ACTIVE = s.rd F.PARSER_BANK_STATUS.ACTIVE ∧
      (∀ a, a ≠ F.PARSER_BANK_STATUS.ACTIVE.addr → t.word a = s.word a) ∧ t.parser = s.parser ∧ t.mem = s.mem ∧
      t.outbox = s.outbox

/-! ## Kowin lanes (chapter 09) -/

/-- Lanes come up and go down: a PCS lock in service opens HELLO_WAIT on a lane that is on and down, and is only noted
elsewhere; a loss closes the lane, and silence sends an UP lane back to HELLO_WAIT, with its queue dropped and LANE_DOWN;
KEEPALIVE queues a HELLO on a lane not down; a HELLO tells of the peer and, in HELLO_WAIT, makes the lane UP once both sides
have seen each other; one of another version is reported; with the lane down neither does anything, and a bad one is
malformed. Concludes that these answer a next state: pcsLock, pcsLoss, peerSilenceExpiry, keepaliveExpiry, hello. -/
def Obligations.LanesComeUpAndGoDown : Prop :=
  (∀ (s : State) (n : Fin 64), s.power.mainUp = true → s.laneOn n = true → s.start = 4 →
    s.rd (F.LANE_STATUS.STATE n) = 0 →
    ∃ t, exec (.pcsLock n) s = .next t ∧ t.rd (F.LANE_STATUS.STATE n) = 1 ∧ t.flag (F.LANE_STATUS.PCS_LOCK n) = true ∧
      t.flag (F.LANE_STATUS.FEC_LOCK n) = (s.rd (F.LANE_CFG.FEC n) != 0) ∧
      (∀ a, a ≠ (F.LANE_STATUS.STATE n).addr → t.word a = s.word a) ∧ (t.lane n).txq = (s.lane n).txq ∧ t.mem = s.mem ∧
      t.outbox = s.outbox) ∧
  (∀ (s : State) (n : Fin 64), s.power.mainUp = true →
    (s.laneOn n = false ∨ s.start ≠ 4 ∨ s.rd (F.LANE_STATUS.STATE n) ≠ 0) →
    ∃ t, exec (.pcsLock n) s = .next t ∧ t.flag (F.LANE_STATUS.PCS_LOCK n) = true ∧
      t.rd (F.LANE_STATUS.STATE n) = s.rd (F.LANE_STATUS.STATE n) ∧ t.lanes = s.lanes ∧ t.mem = s.mem ∧
      t.outbox = s.outbox) ∧
  (∀ (s : State) (n : Fin 64), s.power.mainUp = true → s.power.vin = true →
    ∃ t, exec (.pcsLoss n) s = .next t ∧ t.rd (F.LANE_STATUS.STATE n) = 0 ∧ t.flag (F.LANE_STATUS.PCS_LOCK n) = false ∧
      t.flag (F.LANE_STATUS.PEER_SEEN n) = false ∧
      (s.laneIsUp n = true → (t.lane n).txq = [] ∧ t.flag Src.KOWIN.LANE_DOWN.real = true) ∧ t.mem = s.mem) ∧
  (∀ (s : State) (n : Fin 64), s.power.mainUp = true → s.power.vin = true → s.laneIsUp n = true →
    ∃ t, exec (.peerSilenceExpiry n) s = .next t ∧ t.rd (F.LANE_STATUS.STATE n) = 1 ∧ (t.lane n).txq = [] ∧
      t.flag Src.KOWIN.LANE_DOWN.real = true ∧
      t.flag (F.LANE_STATUS.PCS_LOCK n) = s.flag (F.LANE_STATUS.PCS_LOCK n) ∧ t.mem = s.mem) ∧
  (∀ (s : State) (n : Fin 64), s.power.mainUp = true →
    (s.laneIsUp n = false → exec (.peerSilenceExpiry n) s = .next s) ∧
    (s.rd (F.LANE_STATUS.STATE n) = 0 → exec (.keepaliveExpiry n) s = .next s)) ∧
  (∀ (s : State) (n : Fin 64), s.power.mainUp = true → s.rd (F.LANE_STATUS.STATE n) ≠ 0 →
    ∃ t, exec (.keepaliveExpiry n) s = .next t ∧
      (t.lane n).txq = (s.lane n).txq ++ [⟨if s.isTier n then 0x20 else 1, 0, false, false, none, [], none⟩] ∧
      t.regs = s.regs ∧ t.mem = s.mem ∧ t.outbox = s.outbox) ∧
  (∀ (s : State) (n : Fin 64) (h : KHeader) (p : EpHello), s.power.mainUp = true → s.isCard n = true →
    s.rd (F.LANE_STATUS.STATE n) ≠ 0 → h.crcOk = true → p.version = 1 →
    ∃ t, exec (.hello n h p) s = .next t ∧ Counted F.MSG_RX s t ∧ t.flag (F.LANE_STATUS.PEER_SEEN n) = true ∧
      t.rdW (F.PEER_MAC n) = p.mac % 2 ^ 48 ∧ t.rdW (F.PEER_ID n) = p.epId % 2 ^ 64 ∧ (t.lane n).nextSeq = p.nextSeq ∧
      (s.rd (F.LANE_STATUS.STATE n) = 1 → (s.lane n).sentSeen = true → p.peerSeen = true → t.rd (F.LANE_STATUS.STATE n) = 2 ∧
        t.rd (F.RX_SEQ.SEQ n) = (p.nextSeq + 2 ^ 32 - 1) % 2 ^ 32 ∧ t.rd (F.CREDIT.USED n) = 0 ∧
        t.rd (F.CREDIT.LIMIT n) = s.rd F.CREDIT_CFG.INIT_CREDIT) ∧
      ((s.lane n).sentSeen = false ∨ s.rd (F.LANE_STATUS.STATE n) ≠ 1 →
        t.rd (F.LANE_STATUS.STATE n) = s.rd (F.LANE_STATUS.STATE n)) ∧ t.mem = s.mem) ∧
  (∀ (s : State) (n : Fin 64) (h : KHeader) (p : EpHello), s.power.mainUp = true → s.isCard n = true →
    (s.rd (F.LANE_STATUS.STATE n) = 0 → h.crcOk = true → exec (.hello n h p) s = .next s) ∧
    (h.crcOk = false → ∃ t, exec (.hello n h p) s = .next t ∧ Counted F.MALFORMED_CNT s t ∧ t.lanes = s.lanes ∧
      t.rd (F.LANE_STATUS.STATE n) = s.rd (F.LANE_STATUS.STATE n) ∧ t.mem = s.mem)) ∧
  ∀ (s : State) (n : Fin 64) (h : KHeader) (p : EpHello), s.power.mainUp = true → s.power.vin = true → s.isCard n = true →
    s.rd (F.LANE_STATUS.STATE n) ≠ 0 → h.crcOk = true → p.version ≠ 1 →
    ∃ t, exec (.hello n h p) s = .next t ∧ t.flag Src.KOWIN.VERSION_MISMATCH.real = true ∧ t.lanes = s.lanes ∧
      t.rd (F.LANE_STATUS.STATE n) = s.rd (F.LANE_STATUS.STATE n) ∧ t.mem = s.mem

/-- Sending: the first message that may leave does so as one frame and is counted; a GRANT part that would end too late is
dropped and counted; a lane that is down drops its queue; with nothing that may leave nothing does; ECHO_CMD and the tier
timer ask for an echo with an open token on a lane that is UP, and do nothing elsewhere; an unanswered one is reported;
CTX_SEL shows a context's snapshot. Concludes that these answer a next state: messageTransmit, echoCmd, tierEchoTimer,
echoTimeout, ctxSelWrite. -/
def Obligations.MessagesLeaveOnTheirLane : Prop :=
  (∀ (s : State) (n : Fin 64) (ns : Nat) (x : TxMsg), s.power.mainUp = true → s.rd (F.LANE_STATUS.STATE n) ≠ 0 →
    ((s.lane n).txq.find? fun x => s.maySend n x) = some x → (∀ f, x.grant = some f → s.now + ns < s.frameStart f) →
    (consumesCredit x.type = true → s.laneIsUp n = true) →
    ∃ t bs, exec (.messageTransmit n ns) s = .next t ∧ (s.lane n).txq.erase x <+: (t.lane n).txq ∧
      (s.laneIsUp n = true → (t.lane n).txq = (s.lane n).txq.erase x) ∧ .frame n bs ∈ t.outbox ∧ Counted F.MSG_TX s t ∧ Counted (F.TX_MSG n) s t ∧ t.issueq = s.issueq ∧ t.mem = s.mem) ∧
  (∀ (s : State) (n : Fin 64) (ns : Nat) (x : TxMsg) (f : Nat), s.power.mainUp = true →
    s.rd (F.LANE_STATUS.STATE n) ≠ 0 → ((s.lane n).txq.find? fun x => s.maySend n x) = some x → x.grant = some f →
    x.raw = none → s.frameStart f ≤ s.now + ns →
    ∃ t, exec (.messageTransmit n ns) s = .next t ∧ (t.lane n).txq = (s.lane n).txq.erase x ∧
      Counted (F.GRANT_DROPPED_CNT n) s t ∧ t.mem = s.mem) ∧
  (∀ (s : State) (n : Fin 64) (ns : Nat), s.power.mainUp = true →
    (s.rd (F.LANE_STATUS.STATE n) = 0 → ∃ t, exec (.messageTransmit n ns) s = .next t ∧ (t.lane n).txq = [] ∧
      t.mem = s.mem) ∧
    (s.rd (F.LANE_STATUS.STATE n) ≠ 0 → ((s.lane n).txq.find? fun x => s.maySend n x) = none →
      exec (.messageTransmit n ns) s = .next s)) ∧
  (∀ (s : State) (m : Master) (n : Fin 64),
    (s.writeAccess m F.ECHO_CMD.GO.addr = .ok → s.laneIsUp n = false → exec (.echoCmd m n) s = .next s) ∧
    (s.power.mainUp = true → (s.isTier n = false ∨ s.laneIsUp n = false) → exec (.tierEchoTimer n) s = .next s) ∧
    (s.power.mainUp = true → (s.lane n).echo = [] → exec (.echoTimeout n) s = .next s)) ∧
  (∀ (s : State) (m : Master) (n : Fin 64), s.writeAccess m F.ECHO_CMD.GO.addr = .ok → s.laneIsUp n = true →
    ∃ t, exec (.echoCmd m n) s = .next t ∧ t.free = s.free + 1 ∧
      (t.lane n).echo = (s.lane n).echo ++ [⟨(Config.freeValue s.free).toNat % 2 ^ 32, true⟩] ∧
      (t.lane n).txq.length = (s.lane n).txq.length + 1 ∧ t.regs = s.regs ∧ t.mem = s.mem ∧ t.outbox = s.outbox) ∧
  (∀ (s : State) (n : Fin 64), s.power.mainUp = true → s.isTier n = true → s.laneIsUp n = true →
    ∃ t, exec (.tierEchoTimer n) s = .next t ∧ t.free = s.free + 1 ∧
      (t.lane n).echo = (s.lane n).echo ++ [⟨(Config.freeValue s.free).toNat % 2 ^ 32, false⟩] ∧
      (t.lane n).txq.length = (s.lane n).txq.length + 1 ∧ t.regs = s.regs ∧ t.mem = s.mem ∧ t.outbox = s.outbox) ∧
  (∀ (s : State) (n : Fin 64) (e : EchoWait) (rest : List EchoWait), s.power.mainUp = true → s.power.vin = true →
    (s.lane n).echo = e :: rest →
    ∃ t, exec (.echoTimeout n) s = .next t ∧ (t.lane n).echo = rest ∧ t.flag Src.KOWIN.ECHO_TIMEOUT.real = true ∧
      (e.host = true → t.flag F.ECHO_RESULT.TIMEOUT = true) ∧ t.mem = s.mem) ∧
  ∀ (s : State) (m : Master) (n : Fin 8192), s.writeAccess m F.CTX_SEL.INDEX.addr = .ok →
    ∃ t, exec (.ctxSelWrite m n) s = .next t ∧ t.rd F.CTX_SEL.INDEX = n ∧
      (∀ i, i < 8 → t.word (F.CTX_DATA.WORD i).addr = (s.ctx n).snapshot.getD i 0) ∧ t.plane = s.plane ∧ t.mem = s.mem ∧
      t.outbox = s.outbox

/-- Messages of an endpoint on its card lane, in order and within its credit: a timely DEMAND is held for its cut; one out of
time, a fifth of its frame, and any in CIRCUIT mode goes with its credit back; an acceptable SETUP or RELEASE waits for its
standing cut, an unacceptable one is answered with a NAK, a RETRY of one still open is dropped, of one answered gets its
answer again; STATUS shows its word or counts a divergence; an ECHO request is answered, an awaited reply ends its wait, any
other is only counted. A worker in FOLLOW serves none of them but STATUS's word, and gives the credit back. Concludes that
these answer a next state: demand, setup, release, status, echo. -/
def Obligations.EndpointMessagesAreServed : Prop :=
  (∀ (s : State) (n : Fin 64) (h : KHeader) (p : DemandMsg), InOrder s n h → s.isCard n = true → s.follows = false →
    s.hier.join = none → demandBad h p = false → s.planeMode ≠ 0 → s.nextCutFrame + 1 ≤ p.frame →
    p.frame ≤ s.nextCutFrame + 2 →
    (p.frame = s.nextCutFrame + 1 → s.now + 1000 * s.rd F.COMP_CFG.DEMAND_CLOSE_US ≤ s.frameStart s.nextCutFrame) →
    (s.comp.held.filter fun d => d.source == n.val && d.msg.frame == p.frame).length < 4 →
    ∃ t, exec (.demand n h p) s = .next t ∧ t.comp = { s.comp with held := s.comp.held ++ [⟨n, true, h.seq, p⟩] } ∧
      t.rd (F.RX_SEQ.SEQ n) = h.seq % 2 ^ 32 ∧ t.rd (F.CREDIT.LIMIT n) = s.rd (F.CREDIT.LIMIT n) ∧
      t.rd (F.CREDIT.USED n) = (s.rd (F.CREDIT.USED n) + 1) % 65536 ∧ Counted F.MSG_RX s t ∧ t.mem = s.mem) ∧
  (∀ (s : State) (n : Fin 64) (h : KHeader) (p : DemandMsg), InOrder s n h → s.power.vin = true → s.isCard n = true →
    s.follows = false → s.hier.join = none → demandBad h p = false → s.planeMode ≠ 0 →
    (p.frame < s.nextCutFrame + 1 ∨ s.nextCutFrame + 2 < p.frame ∨ (p.frame = s.nextCutFrame + 1 ∧
      s.frameStart s.nextCutFrame < s.now + 1000 * s.rd F.COMP_CFG.DEMAND_CLOSE_US)) →
    ∃ t, exec (.demand n h p) s = .next t ∧ t.comp = s.comp ∧ t.flag Src.COMPOSER.DEMAND_LATE.real = true ∧
      t.rd (F.CREDIT.LIMIT n) = (s.rd (F.CREDIT.LIMIT n) + 1) % 65536 ∧ t.mem = s.mem) ∧
  (∀ (s : State) (n : Fin 64) (h : KHeader) (p : DemandMsg), InOrder s n h → s.isCard n = true → s.follows = false →
    s.hier.join = none → demandBad h p = false →
    (s.planeMode = 0 ∨ (s.nextCutFrame + 1 ≤ p.frame ∧ p.frame ≤ s.nextCutFrame + 2 ∧
      (p.frame = s.nextCutFrame + 1 → s.now + 1000 * s.rd F.COMP_CFG.DEMAND_CLOSE_US ≤ s.frameStart s.nextCutFrame) ∧
      4 ≤ (s.comp.held.filter fun d => d.source == n.val && d.msg.frame == p.frame).length)) →
    ∃ t, exec (.demand n h p) s = .next t ∧ t.comp = s.comp ∧
      (s.planeMode ≠ 0 → Counted F.DEMAND_REFUSED_CNT s t) ∧
      t.rd (F.CREDIT.LIMIT n) = (s.rd (F.CREDIT.LIMIT n) + 1) % 65536 ∧ t.mem = s.mem) ∧
  (∀ (s : State) (n : Fin 64) (h : KHeader) (p : SetupMsg), InOrder s n h → s.isCard n = true → s.follows = false →
    s.hier.join = none → h.retry = false → s.circuitOpOk n s.now (.setup p) = 0 →
    ∃ t, exec (.setup n h p) s = .next t ∧
      t.plane = { s.plane with ops := s.plane.ops ++ [⟨n, h.seq, agentOf n p.peer, .setup p⟩] } ∧ t.issueq = s.issueq ∧
      t.rd (F.CREDIT.LIMIT n) = (s.rd (F.CREDIT.LIMIT n) + 1) % 65536 ∧ t.mem = s.mem) ∧
  (∀ (s : State) (n : Fin 64) (h : KHeader) (p : SetupMsg), InOrder s n h → s.isCard n = true → s.follows = false →
    s.hier.join = none → h.retry = false → s.circuitOpOk n s.now (.setup p) ≠ 0 →
    ∃ t, exec (.setup n h p) s = .next t ∧ t.plane = s.plane ∧ t.issueq = s.issueq ++
      [⟨n, [2, p.sec * 10 ^ 9 + p.ns, n, h.seq], 6, none,
        (answerOf ⟨n, h.seq, agentOf n p.peer, .setup p⟩ false (s.circuitOpOk n s.now (.setup p))).payload,
        some s.nextBoundary⟩] ∧ Counted F.NAKS s t ∧ t.mem = s.mem) ∧
  (∀ (s : State) (n : Fin 64) (h : KHeader) (p : ReleaseMsg), InOrder s n h → s.isCard n = true → s.follows = false →
    s.hier.join = none → h.retry = false → s.circuitOpOk n s.now (.release p) ≠ 0 →
    ∃ t, exec (.release n h p) s = .next t ∧ t.plane = s.plane ∧ t.issueq.length = s.issueq.length + 1 ∧
      Counted F.NAKS s t ∧ t.mem = s.mem) ∧
  (∀ (s : State) (n : Fin 64) (h : KHeader) (c : Instr) (op : CircuitOp), (∃ p, c = .setup n h p ∧ op = .setup p) ∨
      (∃ p, c = .release n h p ∧ op = .release p) →
    InOrder s n h → s.isCard n = true → s.follows = false → s.hier.join = none → h.retry = true →
    (s.retryOf n op = some none → ∃ t, exec c s = .next t ∧ t.plane = s.plane ∧ t.issueq = s.issueq ∧ t.mem = s.mem) ∧
    ∀ a, s.retryOf n op = some (some a) → a.ack = true →
      ∃ t, exec c s = .next t ∧ t.plane = s.plane ∧ t.mem = s.mem ∧
        t.issueq = s.issueq ++ [⟨a.lane, [2, a.op.issued, a.lane, a.seq], 5, none, a.payload, some s.nextBoundary⟩]) ∧
  (∀ (s : State) (n : Fin 64) (h : KHeader) (p : ReleaseMsg), InOrder s n h → s.isCard n = true → s.follows = false →
    s.hier.join = none → h.retry = false → s.circuitOpOk n s.now (.release p) = 0 →
    ∃ t, exec (.release n h p) s = .next t ∧
      t.plane = { s.plane with ops := s.plane.ops ++ [⟨n, h.seq, s.agentFor n (.release p), .release p⟩] } ∧
      t.issueq = s.issueq ∧ t.rd (F.CREDIT.LIMIT n) = (s.rd (F.CREDIT.LIMIT n) + 1) % 65536 ∧ t.mem = s.mem) ∧
  (∀ (s : State) (n : Fin 64) (h : KHeader) (p : StatusMsg), InOrder s n h → s.isCard n = true → s.follows = false →
    p.code = 0 →
    ∃ t, exec (.status n h p) s = .next t ∧ t.rd (F.PEER_STATUS.WORD n) = p.word % 2 ^ 32 ∧ t.plane = s.plane ∧
      t.comp = s.comp ∧ t.lanes = s.lanes ∧ t.rd (F.CREDIT.LIMIT n) = (s.rd (F.CREDIT.LIMIT n) + 1) % 65536 ∧
      t.mem = s.mem) ∧
  (∀ (s : State) (n : Fin 64) (h : KHeader) (p : StatusMsg), InOrder s n h → s.isCard n = true → s.follows = false →
    p.code = 1 →
    ∃ t, exec (.status n h p) s = .next t ∧ Counted F.DIVERGENCE_CNT s t ∧
      t.rd (F.PEER_STATUS.WORD n) = s.rd (F.PEER_STATUS.WORD n) ∧ t.plane = s.plane ∧ t.comp = s.comp ∧
      t.rd (F.CREDIT.LIMIT n) = (s.rd (F.CREDIT.LIMIT n) + 1) % 65536 ∧ t.mem = s.mem) ∧
  (∀ (s : State) (n : Fin 64) (h : KHeader) (c : Instr), (∃ p, c = .demand n h p ∧ demandBad h p = false) ∨
      (∃ p, c = .setup n h p) ∨ (∃ p, c = .release n h p) ∨ (∃ p, c = .status n h p) →
    InOrder s n h → s.isCard n = true → s.follows = true →
    ∃ t, exec c s = .next t ∧ t.plane = s.plane ∧ t.comp = s.comp ∧
      t.rd (F.CREDIT.LIMIT n) = (s.rd (F.CREDIT.LIMIT n) + 1) % 65536 ∧ t.mem = s.mem) ∧
  (∀ (s : State) (n : Fin 64) (h : KHeader) (p : EchoMsg), s.power.mainUp = true → s.isCard n = true →
    s.rd (F.LANE_STATUS.STATE n) ≠ 0 → h.crcOk = true → p.op ≠ 0 →
    ((s.lane n).echo.find? fun e => e.token == p.token) = none →
    ∃ t, exec (.echo n h p) s = .next t ∧ Counted F.MSG_RX s t ∧ t.lanes = s.lanes ∧ t.mem = s.mem) ∧
  (∀ (s : State) (n : Fin 64) (h : KHeader) (p : EchoMsg), s.power.mainUp = true → s.isCard n = true →
    s.rd (F.LANE_STATUS.STATE n) ≠ 0 → h.crcOk = true → p.op = 0 →
    ∃ t, exec (.echo n h p) s = .next t ∧ (t.lane n).txq = (s.lane n).txq ++
        [⟨0x0A, 0, false, false, none, echoBytes { p with op := 1, t2 := stampOf s.now, t3 := ⟨0, 0⟩ }, none⟩] ∧
      (t.lane n).echo = (s.lane n).echo ∧ Counted F.MSG_RX s t ∧ t.mem = s.mem) ∧
  ∀ (s : State) (n : Fin 64) (h : KHeader) (p : EchoMsg) (e : EchoWait), s.power.mainUp = true → s.isCard n = true →
    s.rd (F.LANE_STATUS.STATE n) ≠ 0 → h.crcOk = true → p.op ≠ 0 →
    ((s.lane n).echo.find? fun e => e.token == p.token) = some e → e.host = true →
    ∃ t, exec (.echo n h p) s = .next t ∧ (t.lane n).echo = (s.lane n).echo.erase e ∧
      t.flag F.ECHO_RESULT.DONE = true ∧ t.rd F.ECHO_RESULT.RTT_NS = unsigned 24 (satS 24 (echoTrip p s.now)) ∧
      (t.lane n).txq = (s.lane n).txq ∧ t.mem = s.mem

/-! ## Managers, workers and twins (chapter 11) -/

/-- Tier messages: a TIER_HELLO of the expected peer is noted, one of another system or unit is reported, one on a lane that
is down is ignored and a bad one malformed; in order and within credit, a worker keeps an ACCORD of the coming frame and
ignores one of another, keeps FRAME_END and a STANDING UPDATE, arms and disarms by the first copy of an ARM or DISARM and not
by the second, takes a SWITCH APPLY, a late one with its report and a repeated one not again, and forwards a RELAY to its
card or drops it; a unit that does not follow has no use for ACCORD and STANDING; a manager notes the twin's FRAME_END and
serves a relayed STATUS. Concludes that these answer a next state: tierHello, accord, standing, frameEnd, switch, relay. -/
def Obligations.TierMessagesAreTaken : Prop :=
  (∀ (s : State) (n : Fin 64) (h : KHeader) (p : TierHello), s.power.mainUp = true → s.isTier n = true →
    s.rd (F.LANE_STATUS.STATE n) = 1 → h.crcOk = true → p.version = 1 → s.tagsAgree n p = true → s.unitExpected n p = true →
    ∃ t, exec (.tierHello n h p) s = .next t ∧ t.flag (F.TIER_PEER.TAG_OK n) = true ∧
      t.flag (F.LANE_STATUS.PEER_SEEN n) = true ∧ (t.lane n).nextSeq = p.nextSeq ∧ (t.lane n).peerClaim = p.claim ∧
      (t.lane n).peerUnit = p.unit ∧
      ((s.lane n).sentSeen = true → p.peerSeen = true → t.rd (F.LANE_STATUS.STATE n) = 2) ∧
      ((s.lane n).sentSeen = false → t.rd (F.LANE_STATUS.STATE n) = 1) ∧ t.mem = s.mem) ∧
  (∀ (s : State) (n : Fin 64) (h : KHeader) (p : TierHello), s.power.mainUp = true → s.power.vin = true →
    s.isTier n = true → s.rd (F.LANE_STATUS.STATE n) = 1 → h.crcOk = true → p.version = 1 → s.tagsAgree n p = false →
    ∃ t, exec (.tierHello n h p) s = .next t ∧ t.flag (F.TIER_PEER.TAG_OK n) = false ∧
      t.flag Src.HIER.SYSTAG_MISMATCH.real = true ∧ t.rd (F.LANE_STATUS.STATE n) = 1 ∧ t.lanes = s.lanes ∧
      t.mem = s.mem) ∧
  (∀ (s : State) (n : Fin 64) (h : KHeader) (p : TierHello), s.power.mainUp = true → s.power.vin = true →
    s.isTier n = true → s.rd (F.LANE_STATUS.STATE n) = 1 → h.crcOk = true → p.version = 1 → s.unitExpected n p = false →
    ∃ t, exec (.tierHello n h p) s = .next t ∧ t.flag Src.HIER.UNIT_CONFLICT.real = true ∧
      t.rd (F.LANE_STATUS.STATE n) = 1 ∧ t.lanes = s.lanes ∧ t.mem = s.mem) ∧
  (∀ (s : State) (n : Fin 64) (h : KHeader) (p : TierHello), InOrder s n h → s.isTier n = true → p.version = 1 →
    ∃ t, exec (.tierHello n h p) s = .next t ∧ (t.lane n).nextSeq = p.nextSeq ∧ (t.lane n).peerClaim = p.claim ∧
      (t.lane n).peerUnit = p.unit ∧ t.laneIsUp n = true ∧ t.mem = s.mem) ∧
  (∀ (s : State) (n : Fin 64) (h : KHeader) (p : TierHello), s.power.mainUp = true → s.isTier n = true →
    (s.rd (F.LANE_STATUS.STATE n) = 0 → h.crcOk = true → exec (.tierHello n h p) s = .next s) ∧
    (h.crcOk = false → ∃ t, exec (.tierHello n h p) s = .next t ∧ Counted F.MALFORMED_CNT s t ∧ t.lanes = s.lanes ∧
      t.mem = s.mem) ∧
    (s.power.vin = true → s.rd (F.LANE_STATUS.STATE n) ≠ 0 → h.crcOk = true → p.version ≠ 1 →
      ∃ t, exec (.tierHello n h p) s = .next t ∧ t.flag Src.KOWIN.VERSION_MISMATCH.real = true ∧ t.lanes = s.lanes ∧
        t.mem = s.mem)) ∧
  (∀ (s : State) (n : Fin 64) (h : KHeader) (c : Instr), (∃ p, c = .accord n h p) ∨ (∃ p, c = .standing n h p) →
    InOrder s n h → s.isTier n = true → s.follows = false →
    ∃ t, exec c s = .next t ∧ Counted F.UNKNOWN_CNT s t ∧ t.plane = s.plane ∧ t.hier = s.hier ∧
      t.rd (F.CREDIT.LIMIT n) = (s.rd (F.CREDIT.LIMIT n) + 1) % 65536 ∧ t.mem = s.mem) ∧
  (∀ (s : State) (n : Fin 64) (h : KHeader) (p : AccordMsg), InOrder s n h → s.isTier n = true → s.follows = true →
    p.frame ≠ s.frame + 1 →
    ∃ t, exec (.accord n h p) s = .next t ∧ t.hier = s.hier ∧ t.plane = s.plane ∧
      t.rd (F.CREDIT.LIMIT n) = (s.rd (F.CREDIT.LIMIT n) + 1) % 65536 ∧ t.mem = s.mem) ∧
  (∀ (s : State) (n : Fin 64) (h : KHeader) (p : AccordMsg), InOrder s n h → s.isTier n = true → s.follows = true →
    p.frame = s.frame + 1 →
    ∃ t, exec (.accord n h p) s = .next t ∧ (t.rxBuf n).records.lookup p.slot = some p.record ∧
      (t.rxBuf n).end_ = (s.rxBuf n).end_ ∧ t.plane = s.plane ∧
      t.rd (F.CREDIT.LIMIT n) = (s.rd (F.CREDIT.LIMIT n) + 1) % 65536 ∧ t.mem = s.mem) ∧
  (∀ (s : State) (n : Fin 64) (h : KHeader) (p : FrameEndMsg), InOrder s n h → s.isTier n = true → s.follows = true →
    p.frame = s.frame + 1 →
    ∃ t, exec (.frameEnd n h p) s = .next t ∧ (t.rxBuf n).end_ = some p ∧ (t.rxBuf n).claim = h.claim ∧
      (t.rxBuf n).unit = h.unit ∧ (t.rxBuf n).records = (s.rxBuf n).records ∧ t.plane = s.plane ∧ t.mem = s.mem) ∧
  (∀ (s : State) (n : Fin 64) (h : KHeader) (p : FrameEndMsg), InOrder s n h → s.isTier n = true →
    s.isManager = true → s.isTwinLane n = true → s.twin ≠ 4 → s.hier.join = none →
    ∃ t, exec (.frameEnd n h p) s = .next t ∧ t.rdW F.PEER_DIGEST_FRAME = p.frame % 2 ^ 64 ∧
      t.rd F.PEER_DIGEST.DIGEST = p.digest % 2 ^ 32 ∧ t.hier = s.hier ∧ t.plane = s.plane ∧ t.mem = s.mem) ∧
  (∀ (s : State) (n : Fin 64) (h : KHeader) (p : StandingMsg), InOrder s n h → s.isTier n = true → s.follows = true →
    p.kind = 0 →
    ∃ t, exec (.standing n h p) s = .next t ∧ ⟨h.claim, h.unit, p⟩ ∈ t.hier.stands ∧ t.hier.arms = s.hier.arms ∧
      t.plane = s.plane ∧ t.mem = s.mem) ∧
  (∀ (s : State) (n : Fin 64) (h : KHeader) (p : StandingMsg), InOrder s n h → s.isTier n = true → s.follows = true →
    (s.hier.arms.find? fun c => c.unit != h.unit && sameArm c.msg p) = none →
    (p.kind = 2 → ∃ t, exec (.standing n h p) s = .next t ∧ (t.rd F.ALT_ARMED.ARMED).testBit (p.index % 16) = false ∧
      t.plane.alternates.lookup (p.index % 16) = none ∧ t.plane.records = s.plane.records ∧ t.hier.stands = s.hier.stands ∧
      t.hier.arms = (if s.flag F.FOLLOW_CFG.B_VALID then s.hier.arms ++ [⟨h.claim, h.unit, p⟩] else s.hier.arms) ∧
      t.mem = s.mem) ∧
    (p.kind = 1 → ∃ t, exec (.standing n h p) s = .next t ∧ (t.rd F.ALT_ARMED.ARMED).testBit (p.index % 16) = true ∧
      t.record (standRecord (p.index % 16)) = Accord.ofBytes p.record ∧ t.hier.stands = s.hier.stands ∧
      t.hier.arms = (if s.flag F.FOLLOW_CFG.B_VALID then s.hier.arms ++ [⟨h.claim, h.unit, p⟩] else s.hier.arms) ∧
      t.mem = s.mem)) ∧
  (∀ (s : State) (n : Fin 64) (h : KHeader) (p : StandingMsg) (c : StandCopy), InOrder s n h → s.isTier n = true →
    s.follows = true → (p.kind = 2 ∨ (p.kind = 1 ∧ c.msg.record = p.record)) →
    (s.hier.arms.find? fun c => c.unit != h.unit && sameArm c.msg p) = some c →
    ∃ t, exec (.standing n h p) s = .next t ∧ t.plane = s.plane ∧ t.rd F.ALT_ARMED.ARMED = s.rd F.ALT_ARMED.ARMED ∧
      t.hier.stands = s.hier.stands ∧ t.mem = s.mem) ∧
  (∀ (s : State) (n : Fin 64) (h : KHeader) (p : SwitchMsg), InOrder s n h → s.isTier n = true → s.follows = true →
    p.op = 0 → s.hier.lastSwitch ≠ some (p.index, p.frame, p.slot, p.offset) →
    s.now + 400 ≤ s.boundaryTime (s.slotNumber p.frame p.slot) + p.offset →
    ∃ t, exec (.switch n h p) s = .next t ∧ t.plane = { s.plane with
        taken := some ⟨p.index % 16, s.boundaryTime (s.slotNumber p.frame p.slot) + p.offset, p.inserted⟩ } ∧
      t.hier = { s.hier with lastSwitch := some (p.index, p.frame, p.slot, p.offset) } ∧
      t.flag F.STANDING_STATUS.SWITCH_BUSY = true ∧ t.mem = s.mem) ∧
  (∀ (s : State) (n : Fin 64) (h : KHeader) (p : SwitchMsg), InOrder s n h → s.isTier n = true → s.follows = true →
    p.op = 0 → s.power.vin = true →
    (s.hier.lastSwitch = some (p.index, p.frame, p.slot, p.offset) →
      ∃ t, exec (.switch n h p) s = .next t ∧ t.plane = s.plane ∧ t.hier = s.hier ∧ t.mem = s.mem) ∧
    (s.hier.lastSwitch ≠ some (p.index, p.frame, p.slot, p.offset) →
      s.boundaryTime (s.slotNumber p.frame p.slot) + p.offset < s.now + 400 →
      ∃ t x, exec (.switch n h p) s = .next t ∧ t.plane = { s.plane with taken := some x } ∧ x.index = p.index % 16 ∧
        t.flag Src.HIER.SWITCH_LATE.real = true ∧ t.flag F.STANDING_STATUS.SWITCH_BUSY = true ∧ t.mem = s.mem)) ∧
  (∀ (s : State) (n : Fin 64) (h : KHeader) (p : RelayMsg), s.power.mainUp = true → s.isTier n = true →
    s.rd (F.LANE_STATUS.STATE n) = 2 → h.crcOk = true → s.creditLeft n = true → s.follows = true → p.dir = 1 →
    (s.isCard p.lane = false ∨ s.laneIsUp p.lane = false) →
    ∃ t, exec (.relay n h p) s = .next t ∧ Counted F.RELAY_DROP_CNT s t ∧
      t.rd (F.CREDIT.LIMIT n) = (s.rd (F.CREDIT.LIMIT n) + 1) % 65536 ∧ t.plane = s.plane ∧ t.mem = s.mem) ∧
  (∀ (s : State) (n : Fin 64) (h : KHeader) (p : RelayMsg), s.power.mainUp = true → s.isTier n = true →
    s.rd (F.LANE_STATUS.STATE n) = 2 → h.crcOk = true → s.creditLeft n = true → s.follows = true → p.dir = 1 →
    p.lane < 64 → s.isCard p.lane = true → s.laneIsUp p.lane = true →
    ∃ t x, exec (.relay n h p) s = .next t ∧ (t.lane p.lane).txq = (s.lane p.lane).txq ++ [x] ∧ x.raw = some p.inner ∧
      x.seq = (headerOf p.inner).seq ∧ t.rd (F.CREDIT.LIMIT n) = (s.rd (F.CREDIT.LIMIT n) + 1) % 65536 ∧ t.mem = s.mem) ∧
  ∀ (s : State) (n : Fin 64) (h : KHeader) (p : RelayMsg) (d : StatusMsg), s.power.mainUp = true → s.isTier n = true →
    s.rd (F.LANE_STATUS.STATE n) = 2 → h.crcOk = true → s.creditLeft n = true → s.isManager = true → p.dir = 0 →
    p.lane < 64 → (headerOf p.inner).crcOk = true → (headerOf p.inner).type = 9 →
    statusOf (slice p.inner 20 ((headerOf p.inner).length - 20)) = some d → d.code = 0 →
    newer (headerOf p.inner).seq (s.rd (F.RX_SEQ.SEQ p.lane)) = true →
    ∃ t, exec (.relay n h p) s = .next t ∧ t.rd (F.PEER_STATUS.WORD p.lane) = d.word % 2 ^ 32 ∧
      t.rd (F.RX_SEQ.SEQ p.lane) = (headerOf p.inner).seq % 2 ^ 32 ∧ t.plane = s.plane ∧ t.mem = s.mem

/-- Workers and twins: a worker commits its complete copy, a survivor's with its report, or discards the bank, and puts a due
STANDING copy in its record; with none due neither changes anything; the twin commands lead, join and withdraw, or are
refused and reported; a resynchronisation is requested, accepted or failed, its image gathered, loaded or found bad, each
frame after it composed, and completed; a CLAIM waits for the frame boundary. Concludes that these answer a next state:
followCommit, workerStandingApply, twinCmdLead, twinCmdResync, twinCmdWithdraw, claimWrite, resync, checkpoint,
catchupCompose. -/
def Obligations.WorkersAndTwinsTakeEffect : Prop :=
  (∀ (s : State) (n : Nat) (r : List Accord), s.power.mainUp = true → s.follows = true → s.bank (s.frame + 1) = 1 →
    s.mgrLanes = [n] → s.completeCopy (s.rxBuf n) = some r →
    ∃ t, exec .followCommit s = .next t ∧ t.bank (s.frame + 1) = 2 ∧
      (∀ k, k < r.length → t.record (bankRecord (s.frame + 1) k) = r.getD k accordEmpty) ∧
      t.rd F.FOLLOW_STATUS.LAST_UNIT = (s.rxBuf n).unit % 32 ∧ t.flag F.FOLLOW_STATUS.SURVIVOR = false ∧
      t.hier = s.hier ∧ t.mem = s.mem ∧ t.outbox = s.outbox) ∧
  (∀ s : State, s.power.mainUp = true → s.power.vin = true → s.follows = true → s.bank (s.frame + 1) = 1 →
    (∀ n ∈ s.mgrLanes, s.completeCopy (s.rxBuf n) = none) →
    ∃ t, exec .followCommit s = .next t ∧ t.bank (s.frame + 1) = 4 ∧ Counted F.FOLLOW_DISCARD_CNT s t ∧
      t.flag Src.HIER.FOLLOW_DISCARD.real = true ∧ t.plane = s.plane ∧ t.mem = s.mem) ∧
  (∀ (s : State) (a b : Nat) (r : List Accord), s.power.mainUp = true → s.power.vin = true → s.follows = true →
    s.bank (s.frame + 1) = 1 → s.mgrLanes = [a, b] → s.completeCopy (s.rxBuf a) = some r →
    s.completeCopy (s.rxBuf b) = none →
    ∃ t, exec .followCommit s = .next t ∧ t.bank (s.frame + 1) = 2 ∧
      (∀ k, k < r.length → t.record (bankRecord (s.frame + 1) k) = r.getD k accordEmpty) ∧
      t.flag F.FOLLOW_STATUS.SURVIVOR = true ∧ Counted F.SURVIVOR_CNT s t ∧ t.flag Src.HIER.SURVIVOR.real = true ∧
      t.hier = s.hier ∧ t.mem = s.mem) ∧
  (∀ s : State, s.power.mainUp = true →
    (s.follows = false ∨ s.bank (s.frame + 1) ≠ 1 → exec .followCommit s = .next s) ∧
    ((s.follows = false ∨ ∀ c ∈ s.hier.stands, s.boundaryTime (s.slotNumber c.msg.frame c.msg.slot) ≤ s.now ∨
      s.now + 1004 < s.boundaryTime (s.slotNumber c.msg.frame c.msg.slot)) → exec .workerStandingApply s = .next s)) ∧
  (∀ (s : State) (c : StandCopy), s.power.mainUp = true → s.follows = true → s.hier.stands = [c] →
    s.now < s.boundaryTime (s.slotNumber c.msg.frame c.msg.slot) →
    s.boundaryTime (s.slotNumber c.msg.frame c.msg.slot) ≤ s.now + 1004 →
    ∃ t u, exec .workerStandingApply s = .next t ∧ t.record (standRecord (c.msg.index % 16)) = Accord.ofBytes c.msg.record ∧
      t.plane.updates = s.plane.updates ++ [u] ∧ u.record = c.msg.index % 16 ∧ u.frame = c.msg.frame ∧
      u.slot = c.msg.slot ∧ t.hier.stands = [] ∧ t.mem = s.mem ∧ t.outbox = s.outbox) ∧
  (∀ (s : State) (m : Master), s.writeAccess m F.TWIN_CMD.LEAD.addr = .ok → s.twin = 1 →
    exec (.twinCmdLead m) s = .next (s.wr F.TWIN_STATUS.STATE 2)) ∧
  (∀ (s : State) (m : Master), s.writeAccess m F.TWIN_CMD.LEAD.addr = .ok → s.power.vin = true → s.power.mainUp = true →
    s.twin ≠ 1 →
    ∃ t, exec (.twinCmdLead m) s = .next t ∧ t.twin = s.twin ∧ t.flag Src.HIER.TWIN_REFUSED.real = true ∧
      t.hier = s.hier ∧ t.mem = s.mem) ∧
  (∀ (s : State) (m : Master), s.writeAccess m F.TWIN_CMD.RESYNC.addr = .ok → s.twin = 1 → s.joinBarred = none →
    ∃ t, exec (.twinCmdResync m) s = .next t ∧ t.twin = 3 ∧ t.rd F.TWIN_STATUS.PHASE = 1 ∧
      t.rd F.TWIN_STATUS.MATCH_RUN = 0 ∧ t.hier = { s.hier with join := some ⟨none, 0, [], none, 0, [], [], s.frame⟩ } ∧
      t.mem = s.mem ∧ t.outbox = s.outbox) ∧
  (∀ (s : State) (m : Master) (cause : Nat), s.writeAccess m F.TWIN_CMD.RESYNC.addr = .ok → s.power.vin = true →
    s.power.mainUp = true → s.twin = 1 → s.joinBarred = some cause →
    ∃ t, exec (.twinCmdResync m) s = .next t ∧ t.twin = 1 ∧ t.rd F.TWIN_STATUS.FAIL_CAUSE = cause ∧
      Counted F.RESYNC_FAILS s t ∧ t.flag Src.HIER.RESYNC_FAIL.real = true ∧ t.hier = s.hier ∧ t.mem = s.mem) ∧
  (∀ (s : State) (m : Master), s.writeAccess m F.TWIN_CMD.WITHDRAW.addr = .ok → (s.twin = 2 ∨ s.twin = 4) →
    ∃ t, exec (.twinCmdWithdraw m) s = .next t ∧ t.twin = 1 ∧ t.rd F.TWIN_STATUS.WAIT_CAUSE = 3 ∧
      t.rd F.ACCORD_BANK_STATUS.BANK0 = 0 ∧ t.rd F.ACCORD_BANK_STATUS.BANK1 = 0 ∧ t.comp.composing = none ∧
      t.hier.join = none ∧ t.hier.serve = none ∧ t.mem = s.mem ∧ t.outbox = s.outbox) ∧
  (∀ (s : State) (m : Master), s.writeAccess m F.TWIN_CMD.RESYNC.addr = .ok → s.power.vin = true →
    s.power.mainUp = true → s.twin ≠ 1 →
    ∃ t, exec (.twinCmdResync m) s = .next t ∧ t.twin = s.twin ∧ t.flag Src.HIER.TWIN_REFUSED.real = true ∧
      t.hier = s.hier ∧ t.mem = s.mem) ∧
  (∀ (s : State) (m : Master), s.writeAccess m F.TWIN_CMD.WITHDRAW.addr = .ok → s.twin = 3 →
    ∃ t, exec (.twinCmdWithdraw m) s = .next t ∧ t.twin = 1 ∧ t.rd F.TWIN_STATUS.WAIT_CAUSE = 3 ∧
      Counted F.RESYNC_FAILS s t ∧ t.hier.join = none ∧ t.comp.composing = none ∧ t.mem = s.mem) ∧
  (∀ (s : State) (m : Master), s.writeAccess m F.TWIN_CMD.WITHDRAW.addr = .ok → s.power.vin = true →
    s.power.mainUp = true → s.twin ≠ 2 → s.twin ≠ 3 → s.twin ≠ 4 →
    ∃ t, exec (.twinCmdWithdraw m) s = .next t ∧ t.twin = s.twin ∧ t.flag Src.HIER.TWIN_REFUSED.real = true ∧
      t.hier = s.hier ∧ t.mem = s.mem) ∧
  (∀ (s : State) (m : Master) (w : Fin 65536), s.writeAccess m F.CLAIM.VAL.addr = .ok →
    exec (.claimWrite m w) s = .next { s with lv := sparseInsert s.lv F.CLAIM.VAL.addr (BitVec.ofNat 32 w) }) ∧
  (∀ (s : State) (n : Fin 64) (h : KHeader) (p : ResyncMsg), InOrder s n h → s.isTier n = true → s.isManager = true →
    s.isTwinLane n = true → p.op = 0 → s.twin = 2 → s.time.step = none →
    ∃ t, exec (.resync n h p) s = .next t ∧ t.hier = { s.hier with serve := some s.checkpointFrame } ∧ t.twin = 2 ∧
      t.rdW F.CKPT_FRAME = s.checkpointFrame % 2 ^ 64 ∧ t.plane = s.plane ∧ t.mem = s.mem) ∧
  (∀ (s : State) (n : Fin 64) (h : KHeader) (p : ResyncMsg), InOrder s n h → s.isTier n = true → s.isManager = true →
    s.isTwinLane n = true →
    (p.op = 0 → (s.twin ≠ 2 ∨ s.time.step ≠ none) → ∃ t, exec (.resync n h p) s = .next t ∧ Counted F.RESYNC_FAILS s t ∧
      t.hier = s.hier ∧ t.twin = s.twin ∧ t.mem = s.mem) ∧
    (∀ j, p.op = 1 → s.hier.join = some j → j.frame = none → ∃ t, exec (.resync n h p) s = .next t ∧
      t.hier = { s.hier with join := some { j with frame := some p.frame } } ∧ t.rd F.TWIN_STATUS.PHASE = 2 ∧
      t.rdW F.CKPT_FRAME = p.frame % 2 ^ 64 ∧ t.mem = s.mem) ∧
    (p.op = 3 → ∃ t, exec (.resync n h p) s = .next t ∧ Counted F.RESYNC_FAILS s t ∧ t.hier.serve = none ∧
      (s.twin = 3 → t.twin = 1 ∧ t.hier.join = none) ∧ (s.twin ≠ 3 → t.twin = s.twin) ∧ t.mem = s.mem)) ∧
  (∀ (s : State) (n : Fin 64) (h : KHeader) (p : ResyncMsg), InOrder s n h → s.isTier n = true → s.isManager = true →
    s.isTwinLane n = true → p.op = 2 → s.twin = 2 →
    ∃ t, exec (.resync n h p) s = .next t ∧ t.twin = 4 ∧
      t.hier = { s.hier with serve := none, ownEnd := none, twinEnd := none } ∧ Counted F.RESYNCS s t ∧
      t.plane = s.plane ∧ t.mem = s.mem) ∧
  (∀ (s : State) (n : Fin 64) (h : KHeader) (p : CheckpointMsg) (j : Join) (fc : Nat), InOrder s n h →
    s.isTier n = true → s.isManager = true → s.isTwinLane n = true → s.hier.join = some j → j.frame = some fc →
    j.composed = none → (j.image.take p.offset ++ p.bytes).length < p.total →
    ∃ t, exec (.checkpoint n h p) s = .next t ∧
      t.hier = { s.hier with join := some { j with image := j.image.take p.offset ++ p.bytes } } ∧ t.plane = s.plane ∧
      t.mem = s.mem) ∧
  (∀ (s : State) (n : Fin 64) (h : KHeader) (p : CheckpointMsg) (j : Join) (fc : Nat), InOrder s n h →
    s.isTier n = true → s.isManager = true → s.isTwinLane n = true → s.hier.join = some j → j.frame = some fc →
    j.composed = none → (j.image.take p.offset ++ p.bytes).length = p.total →
    (crc32 (j.image.take p.offset ++ p.bytes)).toNat = p.crc →
    ∃ t j', exec (.checkpoint n h p) s = .next t ∧ t.hier.join = some j' ∧ j'.composed = some fc ∧ j'.image = [] ∧
      j'.frame = some fc ∧ t.rd F.TWIN_STATUS.PHASE = 3 ∧ t.mem = s.mem) ∧
  (∀ (s : State) (n : Fin 64) (h : KHeader) (p : CheckpointMsg) (j : Join) (fc : Nat), InOrder s n h →
    s.isTier n = true → s.isManager = true → s.isTwinLane n = true → s.hier.join = some j → j.frame = some fc →
    j.composed = none → p.total ≤ (j.image.take p.offset ++ p.bytes).length →
    ((j.image.take p.offset ++ p.bytes).length ≠ p.total ∨ (crc32 (j.image.take p.offset ++ p.bytes)).toNat ≠ p.crc) →
    ∃ t, exec (.checkpoint n h p) s = .next t ∧ t.twin = 1 ∧ t.hier.join = none ∧ Counted F.RESYNC_FAILS s t ∧
      t.mem = s.mem) ∧
  (∀ (s : State), s.power.mainUp = true →
    (∀ j c, s.hier.join = some j → j.composed = some c → s.frame < c ∨ s.planeMode = 0) →
    exec .catchupCompose s = .next s) ∧
  ∀ (s : State) (j : Join) (c : Nat), s.power.mainUp = true → s.twin = 3 → s.hier.join = some j → j.composed = some c →
    j.ends = [] → c ≤ s.frame → s.planeMode ≠ 0 →
    ∃ t j', exec .catchupCompose s = .next t ∧ t.hier.join = some j' ∧ j'.composed = some (c + 1) ∧ j'.ends = [] ∧
      t.twin = 3 ∧ t.mem = s.mem

/-! ## Sillage, rings and the transmit ring (chapters 04, 12) -/

/-- Sillage's registers and triggers: SIL_CTRL sets ENABLE and AUTO_REARM, and MODE and CAPTURE only while off, and clearing
ENABLE stops a record; ARM arms the triggered capture, STOP ends a record, the end of the hold-off ends it; the HOST and TIME
triggers mark the block in progress, begin a record once armed, and are missed and counted during one or where the block is
marked; a trigger that is not selected or not due, one while Sillage is off or not armed, and one in the cycle of a STOP,
before or after it, begins nothing. Concludes that these answer a next state: silCtrlWrite, silArm, silStop, trigCmdFire,
sillageTimeTrigger, sillageHoldoffEnd. -/
def Obligations.SillageCommandsTakeEffect : Prop :=
  (∀ (s : State) (m : Master) (w : Word), s.writeAccess m F.SIL_CTRL.ENABLE.addr = .ok →
    ∃ t, exec (.silCtrlWrite m w) s = .next t ∧ t.flag F.SIL_CTRL.ENABLE = w.getLsbD 0 ∧
      t.flag F.SIL_CTRL.AUTO_REARM = w.getLsbD 3 ∧
      (s.flag F.SIL_CTRL.ENABLE = false → t.flag F.SIL_CTRL.MODE = w.getLsbD 1 ∧ t.flag F.SIL_CTRL.CAPTURE = w.getLsbD 2) ∧
      (s.flag F.SIL_CTRL.ENABLE = true → t.flag F.SIL_CTRL.MODE = s.flag F.SIL_CTRL.MODE ∧
        t.flag F.SIL_CTRL.CAPTURE = s.flag F.SIL_CTRL.CAPTURE) ∧
      (s.flag F.SIL_CTRL.ENABLE = true → w.getLsbD 0 = false → s.flag F.SIL_CTRL.CAPTURE = true →
        s.sil.recording = true → s.noted F.TRIG_CMD.FIRE.key = false → t.sil.stop = true) ∧
      (w.getLsbD 4 = true → t.flag F.SIL_CTRL.CAPTURE = true → t.sil.armed = true) ∧
      (∀ a, a ≠ F.SIL_CTRL.ENABLE.addr → t.word a = s.word a) ∧ t.mem = s.mem ∧ t.outbox = s.outbox) ∧
  (∀ (s : State) (m : Master), s.writeAccess m F.SIL_CTRL.ARM.addr = .ok → s.flag F.SIL_CTRL.CAPTURE = true →
    exec (.silArm m) s = .next { s with sil := { s.sil with armed := true } }) ∧
  (∀ (s : State) (m : Master), s.writeAccess m F.SIL_CTRL.ARM.addr = .ok → s.flag F.SIL_CTRL.CAPTURE = false →
    exec (.silArm m) s = .next s) ∧
  (∀ (s : State) (m : Master), s.writeAccess m F.SIL_CTRL.STOP.addr = .ok → s.flag F.SIL_CTRL.CAPTURE = true →
    s.noted F.TRIG_CMD.FIRE.key = false →
    ∃ t, exec (.silStop m) s = .next t ∧ t.noted F.SIL_CTRL.STOP.key = true ∧
      t = { s with sil := { s.sil with stop := s.sil.recording }, fresh := t.fresh }) ∧
  (∀ (s : State) (m : Master), s.writeAccess m F.SIL_CTRL.STOP.addr = .ok → s.flag F.SIL_CTRL.CAPTURE = true →
    s.noted F.TRIG_CMD.FIRE.key = true →
    ∃ t, exec (.silStop m) s = .next t ∧ t.noted F.SIL_CTRL.STOP.key = true ∧
      t = { s with sil := { s.sil with trig := false, recording := false }, fresh := t.fresh }) ∧
  (∀ (s : State) (m : Master), s.writeAccess m F.SIL_CTRL.STOP.addr = .ok → s.flag F.SIL_CTRL.CAPTURE = false →
    exec (.silStop m) s = .next s) ∧
  (∀ (s : State) (m : Master), s.writeAccess m F.TRIG_CMD.FIRE.addr = .ok → s.rd F.TRIG_CFG.SOURCE = 0 →
    s.flag F.SIL_CTRL.ENABLE = true → s.flag F.SIL_CTRL.CAPTURE = false → s.sil.trig = false →
    s.noted F.SIL_CTRL.STOP.key = false →
    exec (.trigCmdFire m) s = .next { s with sil := { s.sil with trig := true } }) ∧
  (∀ (s : State) (m : Master), s.writeAccess m F.TRIG_CMD.FIRE.addr = .ok → s.rd F.TRIG_CFG.SOURCE = 0 →
    s.flag F.SIL_CTRL.ENABLE = true → s.flag F.SIL_CTRL.CAPTURE = true → s.sil.armed = true → s.sil.recording = false →
    s.sil.holdoff = false → s.noted F.SIL_CTRL.STOP.key = false →
    ∃ t, exec (.trigCmdFire m) s = .next t ∧ t.noted F.TRIG_CMD.FIRE.key = true ∧
      t = { s with
        sil := { s.sil with trig := true, recording := true, postLeft := max 1 (s.rd F.TRIG_WIN.POST_BLK) }
        fresh := t.fresh }) ∧
  (∀ (s : State) (m : Master), s.writeAccess m F.TRIG_CMD.FIRE.addr = .ok → s.rd F.TRIG_CFG.SOURCE = 0 →
    s.flag F.SIL_CTRL.ENABLE = true → s.noted F.SIL_CTRL.STOP.key = false →
    ((s.flag F.SIL_CTRL.CAPTURE = true ∧ (s.sil.recording = true ∨ s.sil.holdoff = true)) ∨
      (s.flag F.SIL_CTRL.CAPTURE = false ∧ s.sil.trig = true)) →
    ∃ t, exec (.trigCmdFire m) s = .next t ∧ t.sil = s.sil ∧ Counted F.TRIG_MISSED_CNT s t ∧ t.mem = s.mem) ∧
  (∀ (s : State) (m : Master), s.writeAccess m F.TRIG_CMD.FIRE.addr = .ok →
    (s.rd F.TRIG_CFG.SOURCE ≠ 0 ∨ s.flag F.SIL_CTRL.ENABLE = false ∨ s.noted F.SIL_CTRL.STOP.key = true ∨ (s.flag F.SIL_CTRL.CAPTURE = true ∧
      s.sil.recording = false ∧ s.sil.holdoff = false ∧ s.sil.armed = false)) → exec (.trigCmdFire m) s = .next s) ∧
  (∀ s : State, s.power.mainUp = true →
    (s.rd F.TRIG_CFG.SOURCE ≠ 6 ∨ s.now < s.trigTime ∨ s.sil.timeDone = true) → exec .sillageTimeTrigger s = .next s) ∧
  (∀ s : State, s.power.mainUp = true → s.rd F.TRIG_CFG.SOURCE = 6 → s.trigTime ≤ s.now → s.sil.timeDone = false →
    s.flag F.SIL_CTRL.ENABLE = true → s.flag F.SIL_CTRL.CAPTURE = true → s.sil.armed = true → s.sil.recording = false →
    s.sil.holdoff = false → s.noted F.SIL_CTRL.STOP.key = false →
    ∃ t, exec .sillageTimeTrigger s = .next t ∧ t.noted F.TRIG_CMD.FIRE.key = true ∧
      t = { s with
        sil := { s.sil with
          timeDone := true, trig := true, recording := true, postLeft := max 1 (s.rd F.TRIG_WIN.POST_BLK) }
        fresh := t.fresh }) ∧
  (∀ s : State, s.power.mainUp = true → s.rd F.TRIG_CFG.SOURCE = 6 → s.trigTime ≤ s.now → s.sil.timeDone = false →
    s.flag F.SIL_CTRL.ENABLE = true → s.flag F.SIL_CTRL.CAPTURE = false → s.sil.trig = false →
    s.noted F.SIL_CTRL.STOP.key = false →
    exec .sillageTimeTrigger s = .next { s with sil := { s.sil with timeDone := true, trig := true } }) ∧
  ∀ s : State, s.power.mainUp = true →
    exec .sillageHoldoffEnd s = .next { s with sil := { s.sil with holdoff := false } }

/-- Blocks, entries and ring writes: a block of the continuous interleaved capture and a focus block go whole to their ring,
or are dropped where the bus stalls or fails; nothing is written while Sillage is off or no focus sample waits; RD takes a
place within the ring or is refused; BASE and SIZE take a value while the ring is off and keep theirs while it is on; ENABLE
is taken where the ring fits and cleared as written; a sound entry of the transmit ring is sent and stamped, one that is
unsound or whose lane is not locked is dropped and counted, one behind its lane's messages waits; from an empty or disabled
ring nothing goes. Concludes that these answer a next state: sillageBlockWrite, ringRdWrite, ringEnableWrite, ptpTxEntry. -/
def Obligations.RingsFillEmptyAndRefuse : Prop :=
  (∀ (s : State) (a b : List (BitVec 12)) (ago k : Nat) (r : Fin 8), s.power.mainUp = true →
    s.flag F.SIL_CTRL.ENABLE = true → s.flag F.SIL_CTRL.MODE = false → s.flag F.SIL_CTRL.CAPTURE = false →
    s.rd F.TRIG_CFG.SOURCE < 4 → s.rd F.SIL_SRC.RING_A = r → s.ringTakes r 2 = true → s.ringFull (.sillage r) = false →
    ∃ t, exec (.sillageBlockWrite (.adc a b) ago k .written) s = .next t ∧ Counted F.BLOCKS_WRITTEN s t ∧
      t.memBytes (s.ringBlock (.sillage r) (s.rd (RingId.sillage r).wr)) 4 = [0x53, 0x49, 0x4C, 0x42] ∧
      t.rd (RingId.sillage r).wr =
        (s.ringNext (.sillage r) (s.rd (RingId.sillage r).wr) (s.rd (RingId.sillage r).wrWrap)).1 % 8192 ∧
      (∀ x, x < s.ringBlock (.sillage r) (s.rd (RingId.sillage r).wr) ∨
        s.ringBlock (.sillage r) (s.rd (RingId.sillage r).wr) + 4096 ≤ x → t.memByte x = s.memByte x) ∧
      t.sil.trig = false) ∧
  (∀ (s : State) (a b : List (BitVec 12)) (ago k : Nat), s.power.mainUp = true → s.flag F.SIL_CTRL.ENABLE = true →
    s.flag F.SIL_CTRL.MODE = false → s.flag F.SIL_CTRL.CAPTURE = false → s.rd F.TRIG_CFG.SOURCE < 4 →
    ∃ t, exec (.sillageBlockWrite (.adc a b) ago k .stalled) s = .next t ∧ Counted F.BLOCKS_DROPPED s t ∧
      t.mem = s.mem ∧ t.sil.trig = false) ∧
  (∀ (s : State) (a b : List (BitVec 12)) (ago k : Nat), s.power.mainUp = true → s.power.vin = true →
    s.flag F.SIL_CTRL.ENABLE = true → s.flag F.SIL_CTRL.MODE = false → s.flag F.SIL_CTRL.CAPTURE = false →
    s.rd F.TRIG_CFG.SOURCE < 4 →
    ∃ t, exec (.sillageBlockWrite (.adc a b) ago k .error) s = .next t ∧ Counted F.BLOCKS_DROPPED s t ∧
      t.flag Src.SILLAGE.WRITE_ERR.real = true ∧ t.mem = s.mem ∧ t.sil.trig = false) ∧
  (∀ (s : State) (a b : List (BitVec 12)) (ago k : Nat) (bus : SilBus) (x : Fin 76), s.power.mainUp = true →
    (s.flag F.SIL_CTRL.ENABLE = false → s.sil.stop = false → exec (.sillageBlockWrite (.adc a b) ago k bus) s = .next s) ∧
    ((s.tile x).focusBuf = [] → exec (.sillageBlockWrite (.focus x) ago k bus) s = .next s)) ∧
  (∀ (s : State) (ago k : Nat) (x : Fin 76) (f : FocusRun) (rest : List FocusRun), s.power.mainUp = true →
    (s.tile x).focusBuf = f :: rest → f.samples.length ≤ 2016 → s.ringTakes (Fin.ofNat 8 f.id.ring) 3 = true →
    s.ringFull (.sillage (Fin.ofNat 8 f.id.ring)) = false →
    ∃ t, exec (.sillageBlockWrite (.focus x) ago k .written) s = .next t ∧ Counted F.BLOCKS_WRITTEN s t ∧
      (t.tile x).focusBuf = rest ∧
      t.rd (RingId.sillage (Fin.ofNat 8 f.id.ring)).wr = (s.ringNext (.sillage (Fin.ofNat 8 f.id.ring))
        (s.rd (RingId.sillage (Fin.ofNat 8 f.id.ring)).wr) (s.rd (RingId.sillage (Fin.ofNat 8 f.id.ring)).wrWrap)).1 % 8192 ∧
      t.memBytes (s.ringBlock (.sillage (Fin.ofNat 8 f.id.ring)) (s.rd (RingId.sillage (Fin.ofNat 8 f.id.ring)).wr)) 4 =
        [0x53, 0x49, 0x4C, 0x42]) ∧
  (∀ (s : State) (m : Master) (r : RingId) (w : Word), s.writeAccess m (r.addr + 12) = .ok →
    bitsOf w 0 r.rd.width < s.rd r.size →
    s.ringDistance r (s.ringPlace r (s.rd r.wr) (s.rd r.wrWrap)) (s.ringPlace r (bitsOf w 0 r.rd.width) (bitsOf w 16 1)) ≤
      s.rd r.size →
    ∃ t, exec (.ringRdWrite m r w) s = .next t ∧ t.rd r.rd = bitsOf w 0 r.rd.width ∧ t.rd r.rdWrap = bitsOf w 16 1 ∧
      t.rd r.fill = t.ringFill r ∧ t.rd r.wr = s.rd r.wr ∧ t.mem = s.mem) ∧
  (∀ (s : State) (m : Master) (r : RingId) (w : Word), s.writeAccess m (r.addr + 12) = .ok →
    (s.rd r.size ≤ bitsOf w 0 r.rd.width ∨ s.rd r.size <
      s.ringDistance r (s.ringPlace r (s.rd r.wr) (s.rd r.wrWrap)) (s.ringPlace r (bitsOf w 0 r.rd.width) (bitsOf w 16 1))) →
    ∃ t, exec (.ringRdWrite m r w) s = .next t ∧ t.rd r.rd = s.rd r.rd ∧ t.rd r.rdWrap = s.rd r.rdWrap ∧ t.mem = s.mem) ∧
  (∀ (s : State) (m : Master) (r : RingId) (w : Word), s.writeAccess m r.addr = .ok → s.ringOn r = false →
    ∃ t, exec (.ringEnableWrite m r .base w) s = .next t ∧ t.rd r.base = bitsOf w r.base.lsb r.base.width ∧
      t.rd r.size = s.rd r.size ∧ t.ringOn r = false ∧ t.mem = s.mem ∧ t.outbox = s.outbox) ∧
  (∀ (s : State) (m : Master) (r : RingId) (w : Word), s.writeAccess m (r.addr + 4) = .ok → s.ringOn r = false →
    ∃ t, exec (.ringEnableWrite m r .size w) s = .next t ∧ t.rd r.size = bitsOf w 0 r.size.width ∧
      t.rd r.base = s.rd r.base ∧ t.ringOn r = false ∧ t.mem = s.mem ∧ t.outbox = s.outbox) ∧
  (∀ (s : State) (m : Master) (r : RingId) (w : Word), s.writeAccess m (r.addr + 20) = .ok → s.ringOn r = false →
    bitsOf w 0 1 = 1 →
    ∃ t, exec (.ringEnableWrite m r .cfg w) s = .next t ∧ t.ringOn r = s.ringFits r ∧ t.rd r.base = s.rd r.base ∧
      t.rd r.size = s.rd r.size ∧ t.mem = s.mem) ∧
  (∀ (s : State) (m : Master) (r : RingId) (w : Word), s.ringOn r = true →
    (s.writeAccess m r.addr = .ok → ∃ t, exec (.ringEnableWrite m r .base w) s = .next t ∧ t.rd r.base = s.rd r.base ∧
      t.ringOn r = true ∧ t.mem = s.mem) ∧
    (s.writeAccess m (r.addr + 4) = .ok → ∃ t, exec (.ringEnableWrite m r .size w) s = .next t ∧
      t.rd r.size = s.rd r.size ∧ t.ringOn r = true ∧ t.mem = s.mem) ∧
    (s.writeAccess m (r.addr + 20) = .ok → ∃ t, exec (.ringEnableWrite m r .cfg w) s = .next t ∧
      t.ringOn r = w.getLsbD 0 ∧ t.rd r.base = s.rd r.base ∧ t.rd r.size = s.rd r.size ∧ t.mem = s.mem)) ∧
  (∀ (s : State) (m : Master) (r : RingId) (w : Word), s.writeAccess m (r.addr + 20) = .ok → s.ringOn r = false →
    w.getLsbD 0 = false →
    ∃ t, exec (.ringEnableWrite m r .cfg w) s = .next t ∧ t.ringOn r = false ∧ t.mem = s.mem) ∧
  (∀ (s : State) (e : PtxEntry), s.power.mainUp = true → s.ringOn .ptx = true → s.ringFill .ptx ≠ 0 →
    e = ptxEntryOf (s.memBytes (s.ringBlock .ptx (s.rd RingId.ptx.rd)) 32) → e.ok = true → s.laneOn e.lane = true →
    s.flag (F.LANE_STATUS.PCS_LOCK e.lane) = true → (s.lane e.lane).txq = [] →
    ∃ t bs, exec .ptpTxEntry s = .next t ∧ .frame e.lane bs ∈ t.outbox ∧ Counted F.PTP_TX s t ∧
      t.rd RingId.ptx.rd = (s.ringNext .ptx (s.rd RingId.ptx.rd) (s.rd RingId.ptx.rdWrap)).1 % 4096 ∧
      (e.twoStep = true → s.time.txFifo.length < 64 →
        ∃ x, t.time.txFifo = s.time.txFifo ++ [x] ∧ x.lane = e.lane ∧ x.tag = e.tag) ∧ t.lanes = s.lanes ∧ t.mem = s.mem) ∧
  (∀ (s : State) (e : PtxEntry), s.power.mainUp = true → s.ringOn .ptx = true → s.ringFill .ptx ≠ 0 →
    e = ptxEntryOf (s.memBytes (s.ringBlock .ptx (s.rd RingId.ptx.rd)) 32) →
    (e.ok = false ∨ s.laneOn e.lane = false ∨ s.flag (F.LANE_STATUS.PCS_LOCK e.lane) = false) →
    ∃ t, exec .ptpTxEntry s = .next t ∧ Counted F.TX_DROP_CNT s t ∧
      t.rd RingId.ptx.rd = (s.ringNext .ptx (s.rd RingId.ptx.rd) (s.rd RingId.ptx.rdWrap)).1 % 4096 ∧
      t.time = s.time ∧ t.mem = s.mem) ∧
  (∀ (s : State) (e : PtxEntry), s.power.mainUp = true → s.ringOn .ptx = true → s.ringFill .ptx ≠ 0 →
    e = ptxEntryOf (s.memBytes (s.ringBlock .ptx (s.rd RingId.ptx.rd)) 32) → e.ok = true → s.laneOn e.lane = true →
    s.flag (F.LANE_STATUS.PCS_LOCK e.lane) = true → (s.lane e.lane).txq ≠ [] → exec .ptpTxEntry s = .next s) ∧
  ∀ s : State, s.power.mainUp = true → (s.ringOn .ptx = false ∨ s.ringFill .ptx = 0) → exec .ptpTxEntry s = .next s
end

