-- ==== Sys2Proof/Laws/Sparse.lean ====
section
/-! SUPPORT. The laws of sparse contents: read after write, and every write keeps the canonical form. -/

namespace Sys2Proof.Machine

variable {α : Type}

theorem sparseGet_insert_same (d : Nat → α) (l : List (Nat × α)) (k : Nat) (v : α) :
    sparseGet d (sparseInsert l k v) k = v := by
  induction l with
  | nil => simp [sparseInsert, sparseGet]
  | cons e rest ih =>
    unfold sparseInsert
    split
    · simp [sparseGet]
    · split
      · simp [sparseGet]
      · simp [sparseGet, *]

theorem sparseGet_insert_other (d : Nat → α) (l : List (Nat × α)) (k j : Nat) (v : α) (h : j ≠ k) :
    sparseGet d (sparseInsert l k v) j = sparseGet d l j := by
  induction l with
  | nil => simp [sparseInsert, sparseGet, Ne.symm h]
  | cons e rest ih =>
    unfold sparseInsert
    split
    · simp [sparseGet, Ne.symm h]
    · split
      next hk => simp [sparseGet, hk, Ne.symm h]
      next => simp [sparseGet, ih]

theorem sparseGet_erase_same (d : Nat → α) (l : List (Nat × α)) (k : Nat) :
    sparseGet d (sparseErase l k) k = d k := by
  induction l with
  | nil => rfl
  | cons e rest ih =>
    unfold sparseErase at ih ⊢
    by_cases hk : e.1 = k
    · simp [List.filter, hk] at ih ⊢; exact ih
    · simp [List.filter, hk, sparseGet] at ih ⊢; exact ih

theorem sparseGet_erase_other (d : Nat → α) (l : List (Nat × α)) (k j : Nat) (h : j ≠ k) :
    sparseGet d (sparseErase l k) j = sparseGet d l j := by
  induction l with
  | nil => rfl
  | cons e rest ih =>
    unfold sparseErase at ih ⊢
    by_cases hk : e.1 = k
    · have hj : ¬ e.1 = j := fun he => h (he ▸ hk)
      simp [List.filter, hk, sparseGet, Ne.symm h] at ih ⊢; exact ih
    · simp [List.filter, hk, sparseGet] at ih ⊢
      rw [ih]

variable [DecidableEq α]

/-- A read after a write to the same place gives the value written. -/
@[simp] theorem sparseGet_put_same (d : Nat → α) (l : List (Nat × α)) (k : Nat) (v : α) :
    sparseGet d (sparsePut d l k v) k = v := by
  unfold sparsePut
  split
  next h => rw [sparseGet_erase_same, h]
  next => exact sparseGet_insert_same d l k v

/-- A write leaves every other place alone. -/
theorem sparseGet_put_other (d : Nat → α) (l : List (Nat × α)) (k j : Nat) (v : α) (h : j ≠ k) :
    sparseGet d (sparsePut d l k v) j = sparseGet d l j := by
  unfold sparsePut
  split
  · exact sparseGet_erase_other d l k j h
  · exact sparseGet_insert_other d l k j v h

omit [DecidableEq α] in
theorem mem_sparseInsert (l : List (Nat × α)) (k : Nat) (v : α) (e : Nat × α) :
    e ∈ sparseInsert l k v → e = (k, v) ∨ e ∈ l := by
  induction l with
  | nil => simp [sparseInsert]
  | cons x rest ih =>
    unfold sparseInsert
    split
    · simp
    · split
      · intro h; rcases List.mem_cons.mp h with h | h
        · exact .inl h
        · exact .inr (List.mem_cons_of_mem _ h)
      · intro h; rcases List.mem_cons.mp h with h | h
        · exact .inr (h ▸ List.mem_cons_self ..)
        · rcases ih h with h | h
          · exact .inl h
          · exact .inr (List.mem_cons_of_mem _ h)

omit [DecidableEq α] in
theorem sparseInsert_sorted (l : List (Nat × α)) (k : Nat) (v : α)
    (h : l.Pairwise (fun x y => x.1 < y.1)) :
    (sparseInsert l k v).Pairwise (fun x y => x.1 < y.1) := by
  induction l with
  | nil => simp [sparseInsert]
  | cons e rest ih =>
    obtain ⟨he, hr⟩ := List.pairwise_cons.mp h
    unfold sparseInsert
    split
    next hk =>
      refine List.pairwise_cons.mpr ⟨?_, h⟩
      intro x hx
      rcases List.mem_cons.mp hx with rfl | hx
      · exact hk
      · exact Nat.lt_trans hk (he x hx)
    next hk =>
      split
      next hek =>
        refine List.pairwise_cons.mpr ⟨?_, hr⟩
        intro x hx
        have := he x hx
        simp only [← hek]; exact this
      next hek =>
        refine List.pairwise_cons.mpr ⟨?_, ih hr⟩
        intro x hx
        rcases mem_sparseInsert rest k v x hx with rfl | hx
        · show e.1 < k
          omega
        · exact he x hx

/-- Every write keeps the canonical form. -/
theorem sparsePut_wf (d : Nat → α) (l : List (Nat × α)) (k : Nat) (v : α) (h : SparseWf d l) :
    SparseWf d (sparsePut d l k v) := by
  obtain ⟨hs, hd⟩ := h
  unfold sparsePut
  split
  · refine ⟨hs.filter _, ?_⟩
    intro e he
    exact hd e (List.mem_of_mem_filter he)
  next hv =>
    refine ⟨sparseInsert_sorted l k v hs, ?_⟩
    intro e he
    rcases mem_sparseInsert l k v e he with rfl | he
    · exact hv
    · exact hd e he

omit [DecidableEq α] in
/-- Keeping only some keys keeps the canonical form. -/
theorem sparse_filter_wf (d : Nat → α) (l : List (Nat × α)) (p : Nat × α → Bool) (h : SparseWf d l) :
    SparseWf d (l.filter p) :=
  ⟨h.1.filter _, fun e he => h.2 e (List.mem_of_mem_filter he)⟩

end Sys2Proof.Machine
end

