-- ==== Sys2Proof/Laws/State.lean ====
section
/-! SUPPORT. What each small update of the state leaves alone: one lemma per update and field, true by unfolding, so that no
later proof unfolds a record update. -/

namespace Sys2Proof.Machine

/-! ### `setWord` changes `regs` only -/

@[simp] theorem State.setWord_pending (s : State) (a : Nat) (w : Word) : (s.setWord a w).pending = s.pending := rfl
@[simp] theorem State.setWord_clock (s : State) (a : Nat) (w : Word) : (s.setWord a w).clock = s.clock := rfl
@[simp] theorem State.setWord_mem (s : State) (a : Nat) (w : Word) : (s.setWord a w).mem = s.mem := rfl
@[simp] theorem State.setWord_outbox (s : State) (a : Nat) (w : Word) : (s.setWord a w).outbox = s.outbox := rfl
@[simp] theorem State.setWord_free (s : State) (a : Nat) (w : Word) : (s.setWord a w).free = s.free := rfl
@[simp] theorem State.setWord_seals (s : State) (a : Nat) (w : Word) : (s.setWord a w).seals = s.seals := rfl
@[simp] theorem State.setWord_fresh (s : State) (a : Nat) (w : Word) : (s.setWord a w).fresh = s.fresh := rfl
@[simp] theorem State.setWord_lv (s : State) (a : Nat) (w : Word) : (s.setWord a w).lv = s.lv := rfl
@[simp] theorem State.setWord_power (s : State) (a : Nat) (w : Word) : (s.setWord a w).power = s.power := rfl
@[simp] theorem State.setWord_pcie (s : State) (a : Nat) (w : Word) : (s.setWord a w).pcie = s.pcie := rfl
@[simp] theorem State.setWord_fuses (s : State) (a : Nat) (w : Word) : (s.setWord a w).fuses = s.fuses := rfl
@[simp] theorem State.setWord_mortar (s : State) (a : Nat) (w : Word) : (s.setWord a w).mortar = s.mortar := rfl
@[simp] theorem State.setWord_dma (s : State) (a : Nat) (w : Word) : (s.setWord a w).dma = s.dma := rfl
@[simp] theorem State.setWord_credits (s : State) (a : Nat) (w : Word) : (s.setWord a w).credits = s.credits := rfl
@[simp] theorem State.setWord_time (s : State) (a : Nat) (w : Word) : (s.setWord a w).time = s.time := rfl
@[simp] theorem State.setWord_snaps (s : State) (a : Nat) (w : Word) : (s.setWord a w).snaps = s.snaps := rfl
@[simp] theorem State.setWord_sb (s : State) (a : Nat) (w : Word) : (s.setWord a w).sb = s.sb := rfl
@[simp] theorem State.setWord_tiles (s : State) (a : Nat) (w : Word) : (s.setWord a w).tiles = s.tiles := rfl
@[simp] theorem State.setWord_loops (s : State) (a : Nat) (w : Word) : (s.setWord a w).loops = s.loops := rfl
@[simp] theorem State.setWord_strobes (s : State) (a : Nat) (w : Word) : (s.setWord a w).strobes = s.strobes := rfl
@[simp] theorem State.setWord_plane (s : State) (a : Nat) (w : Word) : (s.setWord a w).plane = s.plane := rfl
@[simp] theorem State.setWord_comp (s : State) (a : Nat) (w : Word) : (s.setWord a w).comp = s.comp := rfl
@[simp] theorem State.setWord_lanes (s : State) (a : Nat) (w : Word) : (s.setWord a w).lanes = s.lanes := rfl
@[simp] theorem State.setWord_issueq (s : State) (a : Nat) (w : Word) : (s.setWord a w).issueq = s.issueq := rfl
@[simp] theorem State.setWord_hier (s : State) (a : Nat) (w : Word) : (s.setWord a w).hier = s.hier := rfl
@[simp] theorem State.setWord_parser (s : State) (a : Nat) (w : Word) : (s.setWord a w).parser = s.parser := rfl
@[simp] theorem State.setWord_warmHold (s : State) (a : Nat) (w : Word) : (s.setWord a w).warmHold = s.warmHold := rfl
@[simp] theorem State.setWord_calib (s : State) (a : Nat) (w : Word) : (s.setWord a w).calib = s.calib := rfl
@[simp] theorem State.setWord_replan (s : State) (a : Nat) (w : Word) : (s.setWord a w).replan = s.replan := rfl
@[simp] theorem State.setWord_sil (s : State) (a : Nat) (w : Word) : (s.setWord a w).sil = s.sil := rfl
@[simp] theorem State.setWord_therm (s : State) (a : Nat) (w : Word) : (s.setWord a w).therm = s.therm := rfl
@[simp] theorem State.setWord_starting (s : State) (a : Nat) (w : Word) : (s.setWord a w).starting = s.starting := rfl
@[simp] theorem State.setWord_lanesFrom (s : State) (a : Nat) (w : Word) : (s.setWord a w).lanesFrom = s.lanesFrom := rfl
@[simp] theorem State.setWord_trigger (s : State) (a : Nat) (w : Word) : (s.setWord a w).trigger = s.trigger := rfl
@[simp] theorem State.setWord_passport (s : State) (a : Nat) (w : Word) : (s.setWord a w).passport = s.passport := rfl
@[simp] theorem State.setWord_ownersLoaded (s : State) (a : Nat) (w : Word) : (s.setWord a w).ownersLoaded = s.ownersLoaded := rfl

/-! ### `mapWords` changes `regs` only -/

@[simp] theorem State.mapWords_pending (s : State) (f : Nat → Word → Word) : (s.mapWords f).pending = s.pending := rfl
@[simp] theorem State.mapWords_clock (s : State) (f : Nat → Word → Word) : (s.mapWords f).clock = s.clock := rfl
@[simp] theorem State.mapWords_mem (s : State) (f : Nat → Word → Word) : (s.mapWords f).mem = s.mem := rfl
@[simp] theorem State.mapWords_outbox (s : State) (f : Nat → Word → Word) : (s.mapWords f).outbox = s.outbox := rfl
@[simp] theorem State.mapWords_free (s : State) (f : Nat → Word → Word) : (s.mapWords f).free = s.free := rfl
@[simp] theorem State.mapWords_seals (s : State) (f : Nat → Word → Word) : (s.mapWords f).seals = s.seals := rfl
@[simp] theorem State.mapWords_fresh (s : State) (f : Nat → Word → Word) : (s.mapWords f).fresh = s.fresh := rfl
@[simp] theorem State.mapWords_lv (s : State) (f : Nat → Word → Word) : (s.mapWords f).lv = s.lv := rfl
@[simp] theorem State.mapWords_power (s : State) (f : Nat → Word → Word) : (s.mapWords f).power = s.power := rfl
@[simp] theorem State.mapWords_pcie (s : State) (f : Nat → Word → Word) : (s.mapWords f).pcie = s.pcie := rfl
@[simp] theorem State.mapWords_fuses (s : State) (f : Nat → Word → Word) : (s.mapWords f).fuses = s.fuses := rfl
@[simp] theorem State.mapWords_mortar (s : State) (f : Nat → Word → Word) : (s.mapWords f).mortar = s.mortar := rfl
@[simp] theorem State.mapWords_dma (s : State) (f : Nat → Word → Word) : (s.mapWords f).dma = s.dma := rfl
@[simp] theorem State.mapWords_credits (s : State) (f : Nat → Word → Word) : (s.mapWords f).credits = s.credits := rfl
@[simp] theorem State.mapWords_time (s : State) (f : Nat → Word → Word) : (s.mapWords f).time = s.time := rfl
@[simp] theorem State.mapWords_snaps (s : State) (f : Nat → Word → Word) : (s.mapWords f).snaps = s.snaps := rfl
@[simp] theorem State.mapWords_sb (s : State) (f : Nat → Word → Word) : (s.mapWords f).sb = s.sb := rfl
@[simp] theorem State.mapWords_tiles (s : State) (f : Nat → Word → Word) : (s.mapWords f).tiles = s.tiles := rfl
@[simp] theorem State.mapWords_loops (s : State) (f : Nat → Word → Word) : (s.mapWords f).loops = s.loops := rfl
@[simp] theorem State.mapWords_strobes (s : State) (f : Nat → Word → Word) : (s.mapWords f).strobes = s.strobes := rfl
@[simp] theorem State.mapWords_plane (s : State) (f : Nat → Word → Word) : (s.mapWords f).plane = s.plane := rfl
@[simp] theorem State.mapWords_comp (s : State) (f : Nat → Word → Word) : (s.mapWords f).comp = s.comp := rfl
@[simp] theorem State.mapWords_lanes (s : State) (f : Nat → Word → Word) : (s.mapWords f).lanes = s.lanes := rfl
@[simp] theorem State.mapWords_issueq (s : State) (f : Nat → Word → Word) : (s.mapWords f).issueq = s.issueq := rfl
@[simp] theorem State.mapWords_hier (s : State) (f : Nat → Word → Word) : (s.mapWords f).hier = s.hier := rfl
@[simp] theorem State.mapWords_parser (s : State) (f : Nat → Word → Word) : (s.mapWords f).parser = s.parser := rfl
@[simp] theorem State.mapWords_warmHold (s : State) (f : Nat → Word → Word) : (s.mapWords f).warmHold = s.warmHold := rfl
@[simp] theorem State.mapWords_calib (s : State) (f : Nat → Word → Word) : (s.mapWords f).calib = s.calib := rfl
@[simp] theorem State.mapWords_replan (s : State) (f : Nat → Word → Word) : (s.mapWords f).replan = s.replan := rfl
@[simp] theorem State.mapWords_sil (s : State) (f : Nat → Word → Word) : (s.mapWords f).sil = s.sil := rfl
@[simp] theorem State.mapWords_therm (s : State) (f : Nat → Word → Word) : (s.mapWords f).therm = s.therm := rfl
@[simp] theorem State.mapWords_starting (s : State) (f : Nat → Word → Word) : (s.mapWords f).starting = s.starting := rfl
@[simp] theorem State.mapWords_lanesFrom (s : State) (f : Nat → Word → Word) : (s.mapWords f).lanesFrom = s.lanesFrom := rfl
@[simp] theorem State.mapWords_trigger (s : State) (f : Nat → Word → Word) : (s.mapWords f).trigger = s.trigger := rfl
@[simp] theorem State.mapWords_passport (s : State) (f : Nat → Word → Word) : (s.mapWords f).passport = s.passport := rfl
@[simp] theorem State.mapWords_ownersLoaded (s : State) (f : Nat → Word → Word) : (s.mapWords f).ownersLoaded = s.ownersLoaded := rfl

/-! ### `wr` changes `regs` only -/

@[simp] theorem State.wr_pending (s : State) (f : Field) (v : Nat) : (s.wr f v).pending = s.pending := rfl
@[simp] theorem State.wr_clock (s : State) (f : Field) (v : Nat) : (s.wr f v).clock = s.clock := rfl
@[simp] theorem State.wr_mem (s : State) (f : Field) (v : Nat) : (s.wr f v).mem = s.mem := rfl
@[simp] theorem State.wr_outbox (s : State) (f : Field) (v : Nat) : (s.wr f v).outbox = s.outbox := rfl
@[simp] theorem State.wr_free (s : State) (f : Field) (v : Nat) : (s.wr f v).free = s.free := rfl
@[simp] theorem State.wr_seals (s : State) (f : Field) (v : Nat) : (s.wr f v).seals = s.seals := rfl
@[simp] theorem State.wr_fresh (s : State) (f : Field) (v : Nat) : (s.wr f v).fresh = s.fresh := rfl
@[simp] theorem State.wr_lv (s : State) (f : Field) (v : Nat) : (s.wr f v).lv = s.lv := rfl
@[simp] theorem State.wr_power (s : State) (f : Field) (v : Nat) : (s.wr f v).power = s.power := rfl
@[simp] theorem State.wr_pcie (s : State) (f : Field) (v : Nat) : (s.wr f v).pcie = s.pcie := rfl
@[simp] theorem State.wr_fuses (s : State) (f : Field) (v : Nat) : (s.wr f v).fuses = s.fuses := rfl
@[simp] theorem State.wr_mortar (s : State) (f : Field) (v : Nat) : (s.wr f v).mortar = s.mortar := rfl
@[simp] theorem State.wr_dma (s : State) (f : Field) (v : Nat) : (s.wr f v).dma = s.dma := rfl
@[simp] theorem State.wr_credits (s : State) (f : Field) (v : Nat) : (s.wr f v).credits = s.credits := rfl
@[simp] theorem State.wr_time (s : State) (f : Field) (v : Nat) : (s.wr f v).time = s.time := rfl
@[simp] theorem State.wr_snaps (s : State) (f : Field) (v : Nat) : (s.wr f v).snaps = s.snaps := rfl
@[simp] theorem State.wr_sb (s : State) (f : Field) (v : Nat) : (s.wr f v).sb = s.sb := rfl
@[simp] theorem State.wr_tiles (s : State) (f : Field) (v : Nat) : (s.wr f v).tiles = s.tiles := rfl
@[simp] theorem State.wr_loops (s : State) (f : Field) (v : Nat) : (s.wr f v).loops = s.loops := rfl
@[simp] theorem State.wr_strobes (s : State) (f : Field) (v : Nat) : (s.wr f v).strobes = s.strobes := rfl
@[simp] theorem State.wr_plane (s : State) (f : Field) (v : Nat) : (s.wr f v).plane = s.plane := rfl
@[simp] theorem State.wr_comp (s : State) (f : Field) (v : Nat) : (s.wr f v).comp = s.comp := rfl
@[simp] theorem State.wr_lanes (s : State) (f : Field) (v : Nat) : (s.wr f v).lanes = s.lanes := rfl
@[simp] theorem State.wr_issueq (s : State) (f : Field) (v : Nat) : (s.wr f v).issueq = s.issueq := rfl
@[simp] theorem State.wr_hier (s : State) (f : Field) (v : Nat) : (s.wr f v).hier = s.hier := rfl
@[simp] theorem State.wr_parser (s : State) (f : Field) (v : Nat) : (s.wr f v).parser = s.parser := rfl
@[simp] theorem State.wr_warmHold (s : State) (f : Field) (v : Nat) : (s.wr f v).warmHold = s.warmHold := rfl
@[simp] theorem State.wr_calib (s : State) (f : Field) (v : Nat) : (s.wr f v).calib = s.calib := rfl
@[simp] theorem State.wr_replan (s : State) (f : Field) (v : Nat) : (s.wr f v).replan = s.replan := rfl
@[simp] theorem State.wr_sil (s : State) (f : Field) (v : Nat) : (s.wr f v).sil = s.sil := rfl
@[simp] theorem State.wr_therm (s : State) (f : Field) (v : Nat) : (s.wr f v).therm = s.therm := rfl
@[simp] theorem State.wr_starting (s : State) (f : Field) (v : Nat) : (s.wr f v).starting = s.starting := rfl
@[simp] theorem State.wr_lanesFrom (s : State) (f : Field) (v : Nat) : (s.wr f v).lanesFrom = s.lanesFrom := rfl
@[simp] theorem State.wr_trigger (s : State) (f : Field) (v : Nat) : (s.wr f v).trigger = s.trigger := rfl
@[simp] theorem State.wr_passport (s : State) (f : Field) (v : Nat) : (s.wr f v).passport = s.passport := rfl
@[simp] theorem State.wr_ownersLoaded (s : State) (f : Field) (v : Nat) : (s.wr f v).ownersLoaded = s.ownersLoaded := rfl

/-! ### `setFlag` changes `regs` only -/

@[simp] theorem State.setFlag_pending (s : State) (f : Field) (b : Bool) : (s.setFlag f b).pending = s.pending := rfl
@[simp] theorem State.setFlag_clock (s : State) (f : Field) (b : Bool) : (s.setFlag f b).clock = s.clock := rfl
@[simp] theorem State.setFlag_mem (s : State) (f : Field) (b : Bool) : (s.setFlag f b).mem = s.mem := rfl
@[simp] theorem State.setFlag_outbox (s : State) (f : Field) (b : Bool) : (s.setFlag f b).outbox = s.outbox := rfl
@[simp] theorem State.setFlag_free (s : State) (f : Field) (b : Bool) : (s.setFlag f b).free = s.free := rfl
@[simp] theorem State.setFlag_seals (s : State) (f : Field) (b : Bool) : (s.setFlag f b).seals = s.seals := rfl
@[simp] theorem State.setFlag_fresh (s : State) (f : Field) (b : Bool) : (s.setFlag f b).fresh = s.fresh := rfl
@[simp] theorem State.setFlag_lv (s : State) (f : Field) (b : Bool) : (s.setFlag f b).lv = s.lv := rfl
@[simp] theorem State.setFlag_power (s : State) (f : Field) (b : Bool) : (s.setFlag f b).power = s.power := rfl
@[simp] theorem State.setFlag_pcie (s : State) (f : Field) (b : Bool) : (s.setFlag f b).pcie = s.pcie := rfl
@[simp] theorem State.setFlag_fuses (s : State) (f : Field) (b : Bool) : (s.setFlag f b).fuses = s.fuses := rfl
@[simp] theorem State.setFlag_mortar (s : State) (f : Field) (b : Bool) : (s.setFlag f b).mortar = s.mortar := rfl
@[simp] theorem State.setFlag_dma (s : State) (f : Field) (b : Bool) : (s.setFlag f b).dma = s.dma := rfl
@[simp] theorem State.setFlag_credits (s : State) (f : Field) (b : Bool) : (s.setFlag f b).credits = s.credits := rfl
@[simp] theorem State.setFlag_time (s : State) (f : Field) (b : Bool) : (s.setFlag f b).time = s.time := rfl
@[simp] theorem State.setFlag_snaps (s : State) (f : Field) (b : Bool) : (s.setFlag f b).snaps = s.snaps := rfl
@[simp] theorem State.setFlag_sb (s : State) (f : Field) (b : Bool) : (s.setFlag f b).sb = s.sb := rfl
@[simp] theorem State.setFlag_tiles (s : State) (f : Field) (b : Bool) : (s.setFlag f b).tiles = s.tiles := rfl
@[simp] theorem State.setFlag_loops (s : State) (f : Field) (b : Bool) : (s.setFlag f b).loops = s.loops := rfl
@[simp] theorem State.setFlag_strobes (s : State) (f : Field) (b : Bool) : (s.setFlag f b).strobes = s.strobes := rfl
@[simp] theorem State.setFlag_plane (s : State) (f : Field) (b : Bool) : (s.setFlag f b).plane = s.plane := rfl
@[simp] theorem State.setFlag_comp (s : State) (f : Field) (b : Bool) : (s.setFlag f b).comp = s.comp := rfl
@[simp] theorem State.setFlag_lanes (s : State) (f : Field) (b : Bool) : (s.setFlag f b).lanes = s.lanes := rfl
@[simp] theorem State.setFlag_issueq (s : State) (f : Field) (b : Bool) : (s.setFlag f b).issueq = s.issueq := rfl
@[simp] theorem State.setFlag_hier (s : State) (f : Field) (b : Bool) : (s.setFlag f b).hier = s.hier := rfl
@[simp] theorem State.setFlag_parser (s : State) (f : Field) (b : Bool) : (s.setFlag f b).parser = s.parser := rfl
@[simp] theorem State.setFlag_warmHold (s : State) (f : Field) (b : Bool) : (s.setFlag f b).warmHold = s.warmHold := rfl
@[simp] theorem State.setFlag_calib (s : State) (f : Field) (b : Bool) : (s.setFlag f b).calib = s.calib := rfl
@[simp] theorem State.setFlag_replan (s : State) (f : Field) (b : Bool) : (s.setFlag f b).replan = s.replan := rfl
@[simp] theorem State.setFlag_sil (s : State) (f : Field) (b : Bool) : (s.setFlag f b).sil = s.sil := rfl
@[simp] theorem State.setFlag_therm (s : State) (f : Field) (b : Bool) : (s.setFlag f b).therm = s.therm := rfl
@[simp] theorem State.setFlag_starting (s : State) (f : Field) (b : Bool) : (s.setFlag f b).starting = s.starting := rfl
@[simp] theorem State.setFlag_lanesFrom (s : State) (f : Field) (b : Bool) : (s.setFlag f b).lanesFrom = s.lanesFrom := rfl
@[simp] theorem State.setFlag_trigger (s : State) (f : Field) (b : Bool) : (s.setFlag f b).trigger = s.trigger := rfl
@[simp] theorem State.setFlag_passport (s : State) (f : Field) (b : Bool) : (s.setFlag f b).passport = s.passport := rfl
@[simp] theorem State.setFlag_ownersLoaded (s : State) (f : Field) (b : Bool) : (s.setFlag f b).ownersLoaded = s.ownersLoaded := rfl

/-! ### `wrS` changes `regs` only -/

@[simp] theorem State.wrS_pending (s : State) (f : Field) (v : Int) : (s.wrS f v).pending = s.pending := rfl
@[simp] theorem State.wrS_clock (s : State) (f : Field) (v : Int) : (s.wrS f v).clock = s.clock := rfl
@[simp] theorem State.wrS_mem (s : State) (f : Field) (v : Int) : (s.wrS f v).mem = s.mem := rfl
@[simp] theorem State.wrS_outbox (s : State) (f : Field) (v : Int) : (s.wrS f v).outbox = s.outbox := rfl
@[simp] theorem State.wrS_free (s : State) (f : Field) (v : Int) : (s.wrS f v).free = s.free := rfl
@[simp] theorem State.wrS_seals (s : State) (f : Field) (v : Int) : (s.wrS f v).seals = s.seals := rfl
@[simp] theorem State.wrS_fresh (s : State) (f : Field) (v : Int) : (s.wrS f v).fresh = s.fresh := rfl
@[simp] theorem State.wrS_lv (s : State) (f : Field) (v : Int) : (s.wrS f v).lv = s.lv := rfl
@[simp] theorem State.wrS_power (s : State) (f : Field) (v : Int) : (s.wrS f v).power = s.power := rfl
@[simp] theorem State.wrS_pcie (s : State) (f : Field) (v : Int) : (s.wrS f v).pcie = s.pcie := rfl
@[simp] theorem State.wrS_fuses (s : State) (f : Field) (v : Int) : (s.wrS f v).fuses = s.fuses := rfl
@[simp] theorem State.wrS_mortar (s : State) (f : Field) (v : Int) : (s.wrS f v).mortar = s.mortar := rfl
@[simp] theorem State.wrS_dma (s : State) (f : Field) (v : Int) : (s.wrS f v).dma = s.dma := rfl
@[simp] theorem State.wrS_credits (s : State) (f : Field) (v : Int) : (s.wrS f v).credits = s.credits := rfl
@[simp] theorem State.wrS_time (s : State) (f : Field) (v : Int) : (s.wrS f v).time = s.time := rfl
@[simp] theorem State.wrS_snaps (s : State) (f : Field) (v : Int) : (s.wrS f v).snaps = s.snaps := rfl
@[simp] theorem State.wrS_sb (s : State) (f : Field) (v : Int) : (s.wrS f v).sb = s.sb := rfl
@[simp] theorem State.wrS_tiles (s : State) (f : Field) (v : Int) : (s.wrS f v).tiles = s.tiles := rfl
@[simp] theorem State.wrS_loops (s : State) (f : Field) (v : Int) : (s.wrS f v).loops = s.loops := rfl
@[simp] theorem State.wrS_strobes (s : State) (f : Field) (v : Int) : (s.wrS f v).strobes = s.strobes := rfl
@[simp] theorem State.wrS_plane (s : State) (f : Field) (v : Int) : (s.wrS f v).plane = s.plane := rfl
@[simp] theorem State.wrS_comp (s : State) (f : Field) (v : Int) : (s.wrS f v).comp = s.comp := rfl
@[simp] theorem State.wrS_lanes (s : State) (f : Field) (v : Int) : (s.wrS f v).lanes = s.lanes := rfl
@[simp] theorem State.wrS_issueq (s : State) (f : Field) (v : Int) : (s.wrS f v).issueq = s.issueq := rfl
@[simp] theorem State.wrS_hier (s : State) (f : Field) (v : Int) : (s.wrS f v).hier = s.hier := rfl
@[simp] theorem State.wrS_parser (s : State) (f : Field) (v : Int) : (s.wrS f v).parser = s.parser := rfl
@[simp] theorem State.wrS_warmHold (s : State) (f : Field) (v : Int) : (s.wrS f v).warmHold = s.warmHold := rfl
@[simp] theorem State.wrS_calib (s : State) (f : Field) (v : Int) : (s.wrS f v).calib = s.calib := rfl
@[simp] theorem State.wrS_replan (s : State) (f : Field) (v : Int) : (s.wrS f v).replan = s.replan := rfl
@[simp] theorem State.wrS_sil (s : State) (f : Field) (v : Int) : (s.wrS f v).sil = s.sil := rfl
@[simp] theorem State.wrS_therm (s : State) (f : Field) (v : Int) : (s.wrS f v).therm = s.therm := rfl
@[simp] theorem State.wrS_starting (s : State) (f : Field) (v : Int) : (s.wrS f v).starting = s.starting := rfl
@[simp] theorem State.wrS_lanesFrom (s : State) (f : Field) (v : Int) : (s.wrS f v).lanesFrom = s.lanesFrom := rfl
@[simp] theorem State.wrS_trigger (s : State) (f : Field) (v : Int) : (s.wrS f v).trigger = s.trigger := rfl
@[simp] theorem State.wrS_passport (s : State) (f : Field) (v : Int) : (s.wrS f v).passport = s.passport := rfl
@[simp] theorem State.wrS_ownersLoaded (s : State) (f : Field) (v : Int) : (s.wrS f v).ownersLoaded = s.ownersLoaded := rfl

/-! ### `wrW` changes `regs` only -/

@[simp] theorem State.wrW_pending (s : State) (w : Wide) (v : Nat) : (s.wrW w v).pending = s.pending := rfl
@[simp] theorem State.wrW_clock (s : State) (w : Wide) (v : Nat) : (s.wrW w v).clock = s.clock := rfl
@[simp] theorem State.wrW_mem (s : State) (w : Wide) (v : Nat) : (s.wrW w v).mem = s.mem := rfl
@[simp] theorem State.wrW_outbox (s : State) (w : Wide) (v : Nat) : (s.wrW w v).outbox = s.outbox := rfl
@[simp] theorem State.wrW_free (s : State) (w : Wide) (v : Nat) : (s.wrW w v).free = s.free := rfl
@[simp] theorem State.wrW_seals (s : State) (w : Wide) (v : Nat) : (s.wrW w v).seals = s.seals := rfl
@[simp] theorem State.wrW_fresh (s : State) (w : Wide) (v : Nat) : (s.wrW w v).fresh = s.fresh := rfl
@[simp] theorem State.wrW_lv (s : State) (w : Wide) (v : Nat) : (s.wrW w v).lv = s.lv := rfl
@[simp] theorem State.wrW_power (s : State) (w : Wide) (v : Nat) : (s.wrW w v).power = s.power := rfl
@[simp] theorem State.wrW_pcie (s : State) (w : Wide) (v : Nat) : (s.wrW w v).pcie = s.pcie := rfl
@[simp] theorem State.wrW_fuses (s : State) (w : Wide) (v : Nat) : (s.wrW w v).fuses = s.fuses := rfl
@[simp] theorem State.wrW_mortar (s : State) (w : Wide) (v : Nat) : (s.wrW w v).mortar = s.mortar := rfl
@[simp] theorem State.wrW_dma (s : State) (w : Wide) (v : Nat) : (s.wrW w v).dma = s.dma := rfl
@[simp] theorem State.wrW_credits (s : State) (w : Wide) (v : Nat) : (s.wrW w v).credits = s.credits := rfl
@[simp] theorem State.wrW_time (s : State) (w : Wide) (v : Nat) : (s.wrW w v).time = s.time := rfl
@[simp] theorem State.wrW_snaps (s : State) (w : Wide) (v : Nat) : (s.wrW w v).snaps = s.snaps := rfl
@[simp] theorem State.wrW_sb (s : State) (w : Wide) (v : Nat) : (s.wrW w v).sb = s.sb := rfl
@[simp] theorem State.wrW_tiles (s : State) (w : Wide) (v : Nat) : (s.wrW w v).tiles = s.tiles := rfl
@[simp] theorem State.wrW_loops (s : State) (w : Wide) (v : Nat) : (s.wrW w v).loops = s.loops := rfl
@[simp] theorem State.wrW_strobes (s : State) (w : Wide) (v : Nat) : (s.wrW w v).strobes = s.strobes := rfl
@[simp] theorem State.wrW_plane (s : State) (w : Wide) (v : Nat) : (s.wrW w v).plane = s.plane := rfl
@[simp] theorem State.wrW_comp (s : State) (w : Wide) (v : Nat) : (s.wrW w v).comp = s.comp := rfl
@[simp] theorem State.wrW_lanes (s : State) (w : Wide) (v : Nat) : (s.wrW w v).lanes = s.lanes := rfl
@[simp] theorem State.wrW_issueq (s : State) (w : Wide) (v : Nat) : (s.wrW w v).issueq = s.issueq := rfl
@[simp] theorem State.wrW_hier (s : State) (w : Wide) (v : Nat) : (s.wrW w v).hier = s.hier := rfl
@[simp] theorem State.wrW_parser (s : State) (w : Wide) (v : Nat) : (s.wrW w v).parser = s.parser := rfl
@[simp] theorem State.wrW_warmHold (s : State) (w : Wide) (v : Nat) : (s.wrW w v).warmHold = s.warmHold := rfl
@[simp] theorem State.wrW_calib (s : State) (w : Wide) (v : Nat) : (s.wrW w v).calib = s.calib := rfl
@[simp] theorem State.wrW_replan (s : State) (w : Wide) (v : Nat) : (s.wrW w v).replan = s.replan := rfl
@[simp] theorem State.wrW_sil (s : State) (w : Wide) (v : Nat) : (s.wrW w v).sil = s.sil := rfl
@[simp] theorem State.wrW_therm (s : State) (w : Wide) (v : Nat) : (s.wrW w v).therm = s.therm := rfl
@[simp] theorem State.wrW_starting (s : State) (w : Wide) (v : Nat) : (s.wrW w v).starting = s.starting := rfl
@[simp] theorem State.wrW_lanesFrom (s : State) (w : Wide) (v : Nat) : (s.wrW w v).lanesFrom = s.lanesFrom := rfl
@[simp] theorem State.wrW_trigger (s : State) (w : Wide) (v : Nat) : (s.wrW w v).trigger = s.trigger := rfl
@[simp] theorem State.wrW_passport (s : State) (w : Wide) (v : Nat) : (s.wrW w v).passport = s.passport := rfl
@[simp] theorem State.wrW_ownersLoaded (s : State) (w : Wide) (v : Nat) : (s.wrW w v).ownersLoaded = s.ownersLoaded := rfl

/-! ### `setBitW` changes `regs` only -/

@[simp] theorem State.setBitW_pending (s : State) (w : Wide) (n : Nat) (b : Bool) : (s.setBitW w n b).pending = s.pending := rfl
@[simp] theorem State.setBitW_clock (s : State) (w : Wide) (n : Nat) (b : Bool) : (s.setBitW w n b).clock = s.clock := rfl
@[simp] theorem State.setBitW_mem (s : State) (w : Wide) (n : Nat) (b : Bool) : (s.setBitW w n b).mem = s.mem := rfl
@[simp] theorem State.setBitW_outbox (s : State) (w : Wide) (n : Nat) (b : Bool) : (s.setBitW w n b).outbox = s.outbox := rfl
@[simp] theorem State.setBitW_free (s : State) (w : Wide) (n : Nat) (b : Bool) : (s.setBitW w n b).free = s.free := rfl
@[simp] theorem State.setBitW_seals (s : State) (w : Wide) (n : Nat) (b : Bool) : (s.setBitW w n b).seals = s.seals := rfl
@[simp] theorem State.setBitW_fresh (s : State) (w : Wide) (n : Nat) (b : Bool) : (s.setBitW w n b).fresh = s.fresh := rfl
@[simp] theorem State.setBitW_lv (s : State) (w : Wide) (n : Nat) (b : Bool) : (s.setBitW w n b).lv = s.lv := rfl
@[simp] theorem State.setBitW_power (s : State) (w : Wide) (n : Nat) (b : Bool) : (s.setBitW w n b).power = s.power := rfl
@[simp] theorem State.setBitW_pcie (s : State) (w : Wide) (n : Nat) (b : Bool) : (s.setBitW w n b).pcie = s.pcie := rfl
@[simp] theorem State.setBitW_fuses (s : State) (w : Wide) (n : Nat) (b : Bool) : (s.setBitW w n b).fuses = s.fuses := rfl
@[simp] theorem State.setBitW_mortar (s : State) (w : Wide) (n : Nat) (b : Bool) : (s.setBitW w n b).mortar = s.mortar := rfl
@[simp] theorem State.setBitW_dma (s : State) (w : Wide) (n : Nat) (b : Bool) : (s.setBitW w n b).dma = s.dma := rfl
@[simp] theorem State.setBitW_credits (s : State) (w : Wide) (n : Nat) (b : Bool) : (s.setBitW w n b).credits = s.credits := rfl
@[simp] theorem State.setBitW_time (s : State) (w : Wide) (n : Nat) (b : Bool) : (s.setBitW w n b).time = s.time := rfl
@[simp] theorem State.setBitW_snaps (s : State) (w : Wide) (n : Nat) (b : Bool) : (s.setBitW w n b).snaps = s.snaps := rfl
@[simp] theorem State.setBitW_sb (s : State) (w : Wide) (n : Nat) (b : Bool) : (s.setBitW w n b).sb = s.sb := rfl
@[simp] theorem State.setBitW_tiles (s : State) (w : Wide) (n : Nat) (b : Bool) : (s.setBitW w n b).tiles = s.tiles := rfl
@[simp] theorem State.setBitW_loops (s : State) (w : Wide) (n : Nat) (b : Bool) : (s.setBitW w n b).loops = s.loops := rfl
@[simp] theorem State.setBitW_strobes (s : State) (w : Wide) (n : Nat) (b : Bool) : (s.setBitW w n b).strobes = s.strobes := rfl
@[simp] theorem State.setBitW_plane (s : State) (w : Wide) (n : Nat) (b : Bool) : (s.setBitW w n b).plane = s.plane := rfl
@[simp] theorem State.setBitW_comp (s : State) (w : Wide) (n : Nat) (b : Bool) : (s.setBitW w n b).comp = s.comp := rfl
@[simp] theorem State.setBitW_lanes (s : State) (w : Wide) (n : Nat) (b : Bool) : (s.setBitW w n b).lanes = s.lanes := rfl
@[simp] theorem State.setBitW_issueq (s : State) (w : Wide) (n : Nat) (b : Bool) : (s.setBitW w n b).issueq = s.issueq := rfl
@[simp] theorem State.setBitW_hier (s : State) (w : Wide) (n : Nat) (b : Bool) : (s.setBitW w n b).hier = s.hier := rfl
@[simp] theorem State.setBitW_parser (s : State) (w : Wide) (n : Nat) (b : Bool) : (s.setBitW w n b).parser = s.parser := rfl
@[simp] theorem State.setBitW_warmHold (s : State) (w : Wide) (n : Nat) (b : Bool) : (s.setBitW w n b).warmHold = s.warmHold := rfl
@[simp] theorem State.setBitW_calib (s : State) (w : Wide) (n : Nat) (b : Bool) : (s.setBitW w n b).calib = s.calib := rfl
@[simp] theorem State.setBitW_replan (s : State) (w : Wide) (n : Nat) (b : Bool) : (s.setBitW w n b).replan = s.replan := rfl
@[simp] theorem State.setBitW_sil (s : State) (w : Wide) (n : Nat) (b : Bool) : (s.setBitW w n b).sil = s.sil := rfl
@[simp] theorem State.setBitW_therm (s : State) (w : Wide) (n : Nat) (b : Bool) : (s.setBitW w n b).therm = s.therm := rfl
@[simp] theorem State.setBitW_starting (s : State) (w : Wide) (n : Nat) (b : Bool) : (s.setBitW w n b).starting = s.starting := rfl
@[simp] theorem State.setBitW_lanesFrom (s : State) (w : Wide) (n : Nat) (b : Bool) : (s.setBitW w n b).lanesFrom = s.lanesFrom := rfl
@[simp] theorem State.setBitW_trigger (s : State) (w : Wide) (n : Nat) (b : Bool) : (s.setBitW w n b).trigger = s.trigger := rfl
@[simp] theorem State.setBitW_passport (s : State) (w : Wide) (n : Nat) (b : Bool) : (s.setBitW w n b).passport = s.passport := rfl
@[simp] theorem State.setBitW_ownersLoaded (s : State) (w : Wide) (n : Nat) (b : Bool) : (s.setBitW w n b).ownersLoaded = s.ownersLoaded := rfl

/-! ### `addCounter` changes `regs` only -/

@[simp] theorem State.addCounter_pending (s : State) (w : Wide) (n : Nat) : (s.addCounter w n).pending = s.pending := rfl
@[simp] theorem State.addCounter_clock (s : State) (w : Wide) (n : Nat) : (s.addCounter w n).clock = s.clock := rfl
@[simp] theorem State.addCounter_mem (s : State) (w : Wide) (n : Nat) : (s.addCounter w n).mem = s.mem := rfl
@[simp] theorem State.addCounter_outbox (s : State) (w : Wide) (n : Nat) : (s.addCounter w n).outbox = s.outbox := rfl
@[simp] theorem State.addCounter_free (s : State) (w : Wide) (n : Nat) : (s.addCounter w n).free = s.free := rfl
@[simp] theorem State.addCounter_seals (s : State) (w : Wide) (n : Nat) : (s.addCounter w n).seals = s.seals := rfl
@[simp] theorem State.addCounter_fresh (s : State) (w : Wide) (n : Nat) : (s.addCounter w n).fresh = s.fresh := rfl
@[simp] theorem State.addCounter_lv (s : State) (w : Wide) (n : Nat) : (s.addCounter w n).lv = s.lv := rfl
@[simp] theorem State.addCounter_power (s : State) (w : Wide) (n : Nat) : (s.addCounter w n).power = s.power := rfl
@[simp] theorem State.addCounter_pcie (s : State) (w : Wide) (n : Nat) : (s.addCounter w n).pcie = s.pcie := rfl
@[simp] theorem State.addCounter_fuses (s : State) (w : Wide) (n : Nat) : (s.addCounter w n).fuses = s.fuses := rfl
@[simp] theorem State.addCounter_mortar (s : State) (w : Wide) (n : Nat) : (s.addCounter w n).mortar = s.mortar := rfl
@[simp] theorem State.addCounter_dma (s : State) (w : Wide) (n : Nat) : (s.addCounter w n).dma = s.dma := rfl
@[simp] theorem State.addCounter_credits (s : State) (w : Wide) (n : Nat) : (s.addCounter w n).credits = s.credits := rfl
@[simp] theorem State.addCounter_time (s : State) (w : Wide) (n : Nat) : (s.addCounter w n).time = s.time := rfl
@[simp] theorem State.addCounter_snaps (s : State) (w : Wide) (n : Nat) : (s.addCounter w n).snaps = s.snaps := rfl
@[simp] theorem State.addCounter_sb (s : State) (w : Wide) (n : Nat) : (s.addCounter w n).sb = s.sb := rfl
@[simp] theorem State.addCounter_tiles (s : State) (w : Wide) (n : Nat) : (s.addCounter w n).tiles = s.tiles := rfl
@[simp] theorem State.addCounter_loops (s : State) (w : Wide) (n : Nat) : (s.addCounter w n).loops = s.loops := rfl
@[simp] theorem State.addCounter_strobes (s : State) (w : Wide) (n : Nat) : (s.addCounter w n).strobes = s.strobes := rfl
@[simp] theorem State.addCounter_plane (s : State) (w : Wide) (n : Nat) : (s.addCounter w n).plane = s.plane := rfl
@[simp] theorem State.addCounter_comp (s : State) (w : Wide) (n : Nat) : (s.addCounter w n).comp = s.comp := rfl
@[simp] theorem State.addCounter_lanes (s : State) (w : Wide) (n : Nat) : (s.addCounter w n).lanes = s.lanes := rfl
@[simp] theorem State.addCounter_issueq (s : State) (w : Wide) (n : Nat) : (s.addCounter w n).issueq = s.issueq := rfl
@[simp] theorem State.addCounter_hier (s : State) (w : Wide) (n : Nat) : (s.addCounter w n).hier = s.hier := rfl
@[simp] theorem State.addCounter_parser (s : State) (w : Wide) (n : Nat) : (s.addCounter w n).parser = s.parser := rfl
@[simp] theorem State.addCounter_warmHold (s : State) (w : Wide) (n : Nat) : (s.addCounter w n).warmHold = s.warmHold := rfl
@[simp] theorem State.addCounter_calib (s : State) (w : Wide) (n : Nat) : (s.addCounter w n).calib = s.calib := rfl
@[simp] theorem State.addCounter_replan (s : State) (w : Wide) (n : Nat) : (s.addCounter w n).replan = s.replan := rfl
@[simp] theorem State.addCounter_sil (s : State) (w : Wide) (n : Nat) : (s.addCounter w n).sil = s.sil := rfl
@[simp] theorem State.addCounter_therm (s : State) (w : Wide) (n : Nat) : (s.addCounter w n).therm = s.therm := rfl
@[simp] theorem State.addCounter_starting (s : State) (w : Wide) (n : Nat) : (s.addCounter w n).starting = s.starting := rfl
@[simp] theorem State.addCounter_lanesFrom (s : State) (w : Wide) (n : Nat) : (s.addCounter w n).lanesFrom = s.lanesFrom := rfl
@[simp] theorem State.addCounter_trigger (s : State) (w : Wide) (n : Nat) : (s.addCounter w n).trigger = s.trigger := rfl
@[simp] theorem State.addCounter_passport (s : State) (w : Wide) (n : Nat) : (s.addCounter w n).passport = s.passport := rfl
@[simp] theorem State.addCounter_ownersLoaded (s : State) (w : Wide) (n : Nat) : (s.addCounter w n).ownersLoaded = s.ownersLoaded := rfl

/-! ### `holdLv` changes `lv` only -/

@[simp] theorem State.holdLv_pending (s : State) (a : Nat) (w : Word) : (s.holdLv a w).pending = s.pending := rfl
@[simp] theorem State.holdLv_clock (s : State) (a : Nat) (w : Word) : (s.holdLv a w).clock = s.clock := rfl
@[simp] theorem State.holdLv_regs (s : State) (a : Nat) (w : Word) : (s.holdLv a w).regs = s.regs := rfl
@[simp] theorem State.holdLv_mem (s : State) (a : Nat) (w : Word) : (s.holdLv a w).mem = s.mem := rfl
@[simp] theorem State.holdLv_outbox (s : State) (a : Nat) (w : Word) : (s.holdLv a w).outbox = s.outbox := rfl
@[simp] theorem State.holdLv_free (s : State) (a : Nat) (w : Word) : (s.holdLv a w).free = s.free := rfl
@[simp] theorem State.holdLv_seals (s : State) (a : Nat) (w : Word) : (s.holdLv a w).seals = s.seals := rfl
@[simp] theorem State.holdLv_fresh (s : State) (a : Nat) (w : Word) : (s.holdLv a w).fresh = s.fresh := rfl
@[simp] theorem State.holdLv_power (s : State) (a : Nat) (w : Word) : (s.holdLv a w).power = s.power := rfl
@[simp] theorem State.holdLv_pcie (s : State) (a : Nat) (w : Word) : (s.holdLv a w).pcie = s.pcie := rfl
@[simp] theorem State.holdLv_fuses (s : State) (a : Nat) (w : Word) : (s.holdLv a w).fuses = s.fuses := rfl
@[simp] theorem State.holdLv_mortar (s : State) (a : Nat) (w : Word) : (s.holdLv a w).mortar = s.mortar := rfl
@[simp] theorem State.holdLv_dma (s : State) (a : Nat) (w : Word) : (s.holdLv a w).dma = s.dma := rfl
@[simp] theorem State.holdLv_credits (s : State) (a : Nat) (w : Word) : (s.holdLv a w).credits = s.credits := rfl
@[simp] theorem State.holdLv_time (s : State) (a : Nat) (w : Word) : (s.holdLv a w).time = s.time := rfl
@[simp] theorem State.holdLv_snaps (s : State) (a : Nat) (w : Word) : (s.holdLv a w).snaps = s.snaps := rfl
@[simp] theorem State.holdLv_sb (s : State) (a : Nat) (w : Word) : (s.holdLv a w).sb = s.sb := rfl
@[simp] theorem State.holdLv_tiles (s : State) (a : Nat) (w : Word) : (s.holdLv a w).tiles = s.tiles := rfl
@[simp] theorem State.holdLv_loops (s : State) (a : Nat) (w : Word) : (s.holdLv a w).loops = s.loops := rfl
@[simp] theorem State.holdLv_strobes (s : State) (a : Nat) (w : Word) : (s.holdLv a w).strobes = s.strobes := rfl
@[simp] theorem State.holdLv_plane (s : State) (a : Nat) (w : Word) : (s.holdLv a w).plane = s.plane := rfl
@[simp] theorem State.holdLv_comp (s : State) (a : Nat) (w : Word) : (s.holdLv a w).comp = s.comp := rfl
@[simp] theorem State.holdLv_lanes (s : State) (a : Nat) (w : Word) : (s.holdLv a w).lanes = s.lanes := rfl
@[simp] theorem State.holdLv_issueq (s : State) (a : Nat) (w : Word) : (s.holdLv a w).issueq = s.issueq := rfl
@[simp] theorem State.holdLv_hier (s : State) (a : Nat) (w : Word) : (s.holdLv a w).hier = s.hier := rfl
@[simp] theorem State.holdLv_parser (s : State) (a : Nat) (w : Word) : (s.holdLv a w).parser = s.parser := rfl
@[simp] theorem State.holdLv_warmHold (s : State) (a : Nat) (w : Word) : (s.holdLv a w).warmHold = s.warmHold := rfl
@[simp] theorem State.holdLv_calib (s : State) (a : Nat) (w : Word) : (s.holdLv a w).calib = s.calib := rfl
@[simp] theorem State.holdLv_replan (s : State) (a : Nat) (w : Word) : (s.holdLv a w).replan = s.replan := rfl
@[simp] theorem State.holdLv_sil (s : State) (a : Nat) (w : Word) : (s.holdLv a w).sil = s.sil := rfl
@[simp] theorem State.holdLv_therm (s : State) (a : Nat) (w : Word) : (s.holdLv a w).therm = s.therm := rfl
@[simp] theorem State.holdLv_starting (s : State) (a : Nat) (w : Word) : (s.holdLv a w).starting = s.starting := rfl
@[simp] theorem State.holdLv_lanesFrom (s : State) (a : Nat) (w : Word) : (s.holdLv a w).lanesFrom = s.lanesFrom := rfl
@[simp] theorem State.holdLv_trigger (s : State) (a : Nat) (w : Word) : (s.holdLv a w).trigger = s.trigger := rfl
@[simp] theorem State.holdLv_passport (s : State) (a : Nat) (w : Word) : (s.holdLv a w).passport = s.passport := rfl
@[simp] theorem State.holdLv_ownersLoaded (s : State) (a : Nat) (w : Word) : (s.holdLv a w).ownersLoaded = s.ownersLoaded := rfl

/-! ### `setEvent` changes `regs` and `fresh` only -/

@[simp] theorem State.setEvent_pending (s : State) (f : Field) : (s.setEvent f).pending = s.pending := rfl
@[simp] theorem State.setEvent_clock (s : State) (f : Field) : (s.setEvent f).clock = s.clock := rfl
@[simp] theorem State.setEvent_mem (s : State) (f : Field) : (s.setEvent f).mem = s.mem := rfl
@[simp] theorem State.setEvent_outbox (s : State) (f : Field) : (s.setEvent f).outbox = s.outbox := rfl
@[simp] theorem State.setEvent_free (s : State) (f : Field) : (s.setEvent f).free = s.free := rfl
@[simp] theorem State.setEvent_seals (s : State) (f : Field) : (s.setEvent f).seals = s.seals := rfl
@[simp] theorem State.setEvent_lv (s : State) (f : Field) : (s.setEvent f).lv = s.lv := rfl
@[simp] theorem State.setEvent_power (s : State) (f : Field) : (s.setEvent f).power = s.power := rfl
@[simp] theorem State.setEvent_pcie (s : State) (f : Field) : (s.setEvent f).pcie = s.pcie := rfl
@[simp] theorem State.setEvent_fuses (s : State) (f : Field) : (s.setEvent f).fuses = s.fuses := rfl
@[simp] theorem State.setEvent_mortar (s : State) (f : Field) : (s.setEvent f).mortar = s.mortar := rfl
@[simp] theorem State.setEvent_dma (s : State) (f : Field) : (s.setEvent f).dma = s.dma := rfl
@[simp] theorem State.setEvent_credits (s : State) (f : Field) : (s.setEvent f).credits = s.credits := rfl
@[simp] theorem State.setEvent_time (s : State) (f : Field) : (s.setEvent f).time = s.time := rfl
@[simp] theorem State.setEvent_snaps (s : State) (f : Field) : (s.setEvent f).snaps = s.snaps := rfl
@[simp] theorem State.setEvent_sb (s : State) (f : Field) : (s.setEvent f).sb = s.sb := rfl
@[simp] theorem State.setEvent_tiles (s : State) (f : Field) : (s.setEvent f).tiles = s.tiles := rfl
@[simp] theorem State.setEvent_loops (s : State) (f : Field) : (s.setEvent f).loops = s.loops := rfl
@[simp] theorem State.setEvent_strobes (s : State) (f : Field) : (s.setEvent f).strobes = s.strobes := rfl
@[simp] theorem State.setEvent_plane (s : State) (f : Field) : (s.setEvent f).plane = s.plane := rfl
@[simp] theorem State.setEvent_comp (s : State) (f : Field) : (s.setEvent f).comp = s.comp := rfl
@[simp] theorem State.setEvent_lanes (s : State) (f : Field) : (s.setEvent f).lanes = s.lanes := rfl
@[simp] theorem State.setEvent_issueq (s : State) (f : Field) : (s.setEvent f).issueq = s.issueq := rfl
@[simp] theorem State.setEvent_hier (s : State) (f : Field) : (s.setEvent f).hier = s.hier := rfl
@[simp] theorem State.setEvent_parser (s : State) (f : Field) : (s.setEvent f).parser = s.parser := rfl
@[simp] theorem State.setEvent_warmHold (s : State) (f : Field) : (s.setEvent f).warmHold = s.warmHold := rfl
@[simp] theorem State.setEvent_calib (s : State) (f : Field) : (s.setEvent f).calib = s.calib := rfl
@[simp] theorem State.setEvent_replan (s : State) (f : Field) : (s.setEvent f).replan = s.replan := rfl
@[simp] theorem State.setEvent_sil (s : State) (f : Field) : (s.setEvent f).sil = s.sil := rfl
@[simp] theorem State.setEvent_therm (s : State) (f : Field) : (s.setEvent f).therm = s.therm := rfl
@[simp] theorem State.setEvent_starting (s : State) (f : Field) : (s.setEvent f).starting = s.starting := rfl
@[simp] theorem State.setEvent_lanesFrom (s : State) (f : Field) : (s.setEvent f).lanesFrom = s.lanesFrom := rfl
@[simp] theorem State.setEvent_trigger (s : State) (f : Field) : (s.setEvent f).trigger = s.trigger := rfl
@[simp] theorem State.setEvent_passport (s : State) (f : Field) : (s.setEvent f).passport = s.passport := rfl
@[simp] theorem State.setEvent_ownersLoaded (s : State) (f : Field) : (s.setEvent f).ownersLoaded = s.ownersLoaded := rfl

/-! ### `emitOut` changes `outbox` only -/

@[simp] theorem State.emitOut_pending (s : State) (o : Output) : (s.emitOut o).pending = s.pending := rfl
@[simp] theorem State.emitOut_clock (s : State) (o : Output) : (s.emitOut o).clock = s.clock := rfl
@[simp] theorem State.emitOut_regs (s : State) (o : Output) : (s.emitOut o).regs = s.regs := rfl
@[simp] theorem State.emitOut_mem (s : State) (o : Output) : (s.emitOut o).mem = s.mem := rfl
@[simp] theorem State.emitOut_free (s : State) (o : Output) : (s.emitOut o).free = s.free := rfl
@[simp] theorem State.emitOut_seals (s : State) (o : Output) : (s.emitOut o).seals = s.seals := rfl
@[simp] theorem State.emitOut_fresh (s : State) (o : Output) : (s.emitOut o).fresh = s.fresh := rfl
@[simp] theorem State.emitOut_lv (s : State) (o : Output) : (s.emitOut o).lv = s.lv := rfl
@[simp] theorem State.emitOut_power (s : State) (o : Output) : (s.emitOut o).power = s.power := rfl
@[simp] theorem State.emitOut_pcie (s : State) (o : Output) : (s.emitOut o).pcie = s.pcie := rfl
@[simp] theorem State.emitOut_fuses (s : State) (o : Output) : (s.emitOut o).fuses = s.fuses := rfl
@[simp] theorem State.emitOut_mortar (s : State) (o : Output) : (s.emitOut o).mortar = s.mortar := rfl
@[simp] theorem State.emitOut_dma (s : State) (o : Output) : (s.emitOut o).dma = s.dma := rfl
@[simp] theorem State.emitOut_credits (s : State) (o : Output) : (s.emitOut o).credits = s.credits := rfl
@[simp] theorem State.emitOut_time (s : State) (o : Output) : (s.emitOut o).time = s.time := rfl
@[simp] theorem State.emitOut_snaps (s : State) (o : Output) : (s.emitOut o).snaps = s.snaps := rfl
@[simp] theorem State.emitOut_sb (s : State) (o : Output) : (s.emitOut o).sb = s.sb := rfl
@[simp] theorem State.emitOut_tiles (s : State) (o : Output) : (s.emitOut o).tiles = s.tiles := rfl
@[simp] theorem State.emitOut_loops (s : State) (o : Output) : (s.emitOut o).loops = s.loops := rfl
@[simp] theorem State.emitOut_strobes (s : State) (o : Output) : (s.emitOut o).strobes = s.strobes := rfl
@[simp] theorem State.emitOut_plane (s : State) (o : Output) : (s.emitOut o).plane = s.plane := rfl
@[simp] theorem State.emitOut_comp (s : State) (o : Output) : (s.emitOut o).comp = s.comp := rfl
@[simp] theorem State.emitOut_lanes (s : State) (o : Output) : (s.emitOut o).lanes = s.lanes := rfl
@[simp] theorem State.emitOut_issueq (s : State) (o : Output) : (s.emitOut o).issueq = s.issueq := rfl
@[simp] theorem State.emitOut_hier (s : State) (o : Output) : (s.emitOut o).hier = s.hier := rfl
@[simp] theorem State.emitOut_parser (s : State) (o : Output) : (s.emitOut o).parser = s.parser := rfl
@[simp] theorem State.emitOut_warmHold (s : State) (o : Output) : (s.emitOut o).warmHold = s.warmHold := rfl
@[simp] theorem State.emitOut_calib (s : State) (o : Output) : (s.emitOut o).calib = s.calib := rfl
@[simp] theorem State.emitOut_replan (s : State) (o : Output) : (s.emitOut o).replan = s.replan := rfl
@[simp] theorem State.emitOut_sil (s : State) (o : Output) : (s.emitOut o).sil = s.sil := rfl
@[simp] theorem State.emitOut_therm (s : State) (o : Output) : (s.emitOut o).therm = s.therm := rfl
@[simp] theorem State.emitOut_starting (s : State) (o : Output) : (s.emitOut o).starting = s.starting := rfl
@[simp] theorem State.emitOut_lanesFrom (s : State) (o : Output) : (s.emitOut o).lanesFrom = s.lanesFrom := rfl
@[simp] theorem State.emitOut_trigger (s : State) (o : Output) : (s.emitOut o).trigger = s.trigger := rfl
@[simp] theorem State.emitOut_passport (s : State) (o : Output) : (s.emitOut o).passport = s.passport := rfl
@[simp] theorem State.emitOut_ownersLoaded (s : State) (o : Output) : (s.emitOut o).ownersLoaded = s.ownersLoaded := rfl

/-! ### `setMemByte` changes `mem` only -/

@[simp] theorem State.setMemByte_pending (s : State) (a : Nat) (b : Byte) : (s.setMemByte a b).pending = s.pending := rfl
@[simp] theorem State.setMemByte_clock (s : State) (a : Nat) (b : Byte) : (s.setMemByte a b).clock = s.clock := rfl
@[simp] theorem State.setMemByte_regs (s : State) (a : Nat) (b : Byte) : (s.setMemByte a b).regs = s.regs := rfl
@[simp] theorem State.setMemByte_outbox (s : State) (a : Nat) (b : Byte) : (s.setMemByte a b).outbox = s.outbox := rfl
@[simp] theorem State.setMemByte_free (s : State) (a : Nat) (b : Byte) : (s.setMemByte a b).free = s.free := rfl
@[simp] theorem State.setMemByte_seals (s : State) (a : Nat) (b : Byte) : (s.setMemByte a b).seals = s.seals := rfl
@[simp] theorem State.setMemByte_fresh (s : State) (a : Nat) (b : Byte) : (s.setMemByte a b).fresh = s.fresh := rfl
@[simp] theorem State.setMemByte_lv (s : State) (a : Nat) (b : Byte) : (s.setMemByte a b).lv = s.lv := rfl
@[simp] theorem State.setMemByte_power (s : State) (a : Nat) (b : Byte) : (s.setMemByte a b).power = s.power := rfl
@[simp] theorem State.setMemByte_pcie (s : State) (a : Nat) (b : Byte) : (s.setMemByte a b).pcie = s.pcie := rfl
@[simp] theorem State.setMemByte_fuses (s : State) (a : Nat) (b : Byte) : (s.setMemByte a b).fuses = s.fuses := rfl
@[simp] theorem State.setMemByte_mortar (s : State) (a : Nat) (b : Byte) : (s.setMemByte a b).mortar = s.mortar := rfl
@[simp] theorem State.setMemByte_dma (s : State) (a : Nat) (b : Byte) : (s.setMemByte a b).dma = s.dma := rfl
@[simp] theorem State.setMemByte_credits (s : State) (a : Nat) (b : Byte) : (s.setMemByte a b).credits = s.credits := rfl
@[simp] theorem State.setMemByte_time (s : State) (a : Nat) (b : Byte) : (s.setMemByte a b).time = s.time := rfl
@[simp] theorem State.setMemByte_snaps (s : State) (a : Nat) (b : Byte) : (s.setMemByte a b).snaps = s.snaps := rfl
@[simp] theorem State.setMemByte_sb (s : State) (a : Nat) (b : Byte) : (s.setMemByte a b).sb = s.sb := rfl
@[simp] theorem State.setMemByte_tiles (s : State) (a : Nat) (b : Byte) : (s.setMemByte a b).tiles = s.tiles := rfl
@[simp] theorem State.setMemByte_loops (s : State) (a : Nat) (b : Byte) : (s.setMemByte a b).loops = s.loops := rfl
@[simp] theorem State.setMemByte_strobes (s : State) (a : Nat) (b : Byte) : (s.setMemByte a b).strobes = s.strobes := rfl
@[simp] theorem State.setMemByte_plane (s : State) (a : Nat) (b : Byte) : (s.setMemByte a b).plane = s.plane := rfl
@[simp] theorem State.setMemByte_comp (s : State) (a : Nat) (b : Byte) : (s.setMemByte a b).comp = s.comp := rfl
@[simp] theorem State.setMemByte_lanes (s : State) (a : Nat) (b : Byte) : (s.setMemByte a b).lanes = s.lanes := rfl
@[simp] theorem State.setMemByte_issueq (s : State) (a : Nat) (b : Byte) : (s.setMemByte a b).issueq = s.issueq := rfl
@[simp] theorem State.setMemByte_hier (s : State) (a : Nat) (b : Byte) : (s.setMemByte a b).hier = s.hier := rfl
@[simp] theorem State.setMemByte_parser (s : State) (a : Nat) (b : Byte) : (s.setMemByte a b).parser = s.parser := rfl
@[simp] theorem State.setMemByte_warmHold (s : State) (a : Nat) (b : Byte) : (s.setMemByte a b).warmHold = s.warmHold := rfl
@[simp] theorem State.setMemByte_calib (s : State) (a : Nat) (b : Byte) : (s.setMemByte a b).calib = s.calib := rfl
@[simp] theorem State.setMemByte_replan (s : State) (a : Nat) (b : Byte) : (s.setMemByte a b).replan = s.replan := rfl
@[simp] theorem State.setMemByte_sil (s : State) (a : Nat) (b : Byte) : (s.setMemByte a b).sil = s.sil := rfl
@[simp] theorem State.setMemByte_therm (s : State) (a : Nat) (b : Byte) : (s.setMemByte a b).therm = s.therm := rfl
@[simp] theorem State.setMemByte_starting (s : State) (a : Nat) (b : Byte) : (s.setMemByte a b).starting = s.starting := rfl
@[simp] theorem State.setMemByte_lanesFrom (s : State) (a : Nat) (b : Byte) : (s.setMemByte a b).lanesFrom = s.lanesFrom := rfl
@[simp] theorem State.setMemByte_trigger (s : State) (a : Nat) (b : Byte) : (s.setMemByte a b).trigger = s.trigger := rfl
@[simp] theorem State.setMemByte_passport (s : State) (a : Nat) (b : Byte) : (s.setMemByte a b).passport = s.passport := rfl
@[simp] theorem State.setMemByte_ownersLoaded (s : State) (a : Nat) (b : Byte) : (s.setMemByte a b).ownersLoaded = s.ownersLoaded := rfl

/-! ### `setFuses` changes `fuses` only -/

@[simp] theorem State.setFuses_pending (s : State) (f : Fuses) : (s.setFuses f).pending = s.pending := rfl
@[simp] theorem State.setFuses_clock (s : State) (f : Fuses) : (s.setFuses f).clock = s.clock := rfl
@[simp] theorem State.setFuses_regs (s : State) (f : Fuses) : (s.setFuses f).regs = s.regs := rfl
@[simp] theorem State.setFuses_mem (s : State) (f : Fuses) : (s.setFuses f).mem = s.mem := rfl
@[simp] theorem State.setFuses_outbox (s : State) (f : Fuses) : (s.setFuses f).outbox = s.outbox := rfl
@[simp] theorem State.setFuses_free (s : State) (f : Fuses) : (s.setFuses f).free = s.free := rfl
@[simp] theorem State.setFuses_seals (s : State) (f : Fuses) : (s.setFuses f).seals = s.seals := rfl
@[simp] theorem State.setFuses_fresh (s : State) (f : Fuses) : (s.setFuses f).fresh = s.fresh := rfl
@[simp] theorem State.setFuses_lv (s : State) (f : Fuses) : (s.setFuses f).lv = s.lv := rfl
@[simp] theorem State.setFuses_power (s : State) (f : Fuses) : (s.setFuses f).power = s.power := rfl
@[simp] theorem State.setFuses_pcie (s : State) (f : Fuses) : (s.setFuses f).pcie = s.pcie := rfl
@[simp] theorem State.setFuses_mortar (s : State) (f : Fuses) : (s.setFuses f).mortar = s.mortar := rfl
@[simp] theorem State.setFuses_dma (s : State) (f : Fuses) : (s.setFuses f).dma = s.dma := rfl
@[simp] theorem State.setFuses_credits (s : State) (f : Fuses) : (s.setFuses f).credits = s.credits := rfl
@[simp] theorem State.setFuses_time (s : State) (f : Fuses) : (s.setFuses f).time = s.time := rfl
@[simp] theorem State.setFuses_snaps (s : State) (f : Fuses) : (s.setFuses f).snaps = s.snaps := rfl
@[simp] theorem State.setFuses_sb (s : State) (f : Fuses) : (s.setFuses f).sb = s.sb := rfl
@[simp] theorem State.setFuses_tiles (s : State) (f : Fuses) : (s.setFuses f).tiles = s.tiles := rfl
@[simp] theorem State.setFuses_loops (s : State) (f : Fuses) : (s.setFuses f).loops = s.loops := rfl
@[simp] theorem State.setFuses_strobes (s : State) (f : Fuses) : (s.setFuses f).strobes = s.strobes := rfl
@[simp] theorem State.setFuses_plane (s : State) (f : Fuses) : (s.setFuses f).plane = s.plane := rfl
@[simp] theorem State.setFuses_comp (s : State) (f : Fuses) : (s.setFuses f).comp = s.comp := rfl
@[simp] theorem State.setFuses_lanes (s : State) (f : Fuses) : (s.setFuses f).lanes = s.lanes := rfl
@[simp] theorem State.setFuses_issueq (s : State) (f : Fuses) : (s.setFuses f).issueq = s.issueq := rfl
@[simp] theorem State.setFuses_hier (s : State) (f : Fuses) : (s.setFuses f).hier = s.hier := rfl
@[simp] theorem State.setFuses_parser (s : State) (f : Fuses) : (s.setFuses f).parser = s.parser := rfl
@[simp] theorem State.setFuses_warmHold (s : State) (f : Fuses) : (s.setFuses f).warmHold = s.warmHold := rfl
@[simp] theorem State.setFuses_calib (s : State) (f : Fuses) : (s.setFuses f).calib = s.calib := rfl
@[simp] theorem State.setFuses_replan (s : State) (f : Fuses) : (s.setFuses f).replan = s.replan := rfl
@[simp] theorem State.setFuses_sil (s : State) (f : Fuses) : (s.setFuses f).sil = s.sil := rfl
@[simp] theorem State.setFuses_therm (s : State) (f : Fuses) : (s.setFuses f).therm = s.therm := rfl
@[simp] theorem State.setFuses_starting (s : State) (f : Fuses) : (s.setFuses f).starting = s.starting := rfl
@[simp] theorem State.setFuses_lanesFrom (s : State) (f : Fuses) : (s.setFuses f).lanesFrom = s.lanesFrom := rfl
@[simp] theorem State.setFuses_trigger (s : State) (f : Fuses) : (s.setFuses f).trigger = s.trigger := rfl
@[simp] theorem State.setFuses_passport (s : State) (f : Fuses) : (s.setFuses f).passport = s.passport := rfl
@[simp] theorem State.setFuses_ownersLoaded (s : State) (f : Fuses) : (s.setFuses f).ownersLoaded = s.ownersLoaded := rfl

/-! ### `setTile` changes `tiles` only -/

@[simp] theorem State.setTile_pending (s : State) (t : Nat) (x : Tile) : (s.setTile t x).pending = s.pending := rfl
@[simp] theorem State.setTile_clock (s : State) (t : Nat) (x : Tile) : (s.setTile t x).clock = s.clock := rfl
@[simp] theorem State.setTile_regs (s : State) (t : Nat) (x : Tile) : (s.setTile t x).regs = s.regs := rfl
@[simp] theorem State.setTile_mem (s : State) (t : Nat) (x : Tile) : (s.setTile t x).mem = s.mem := rfl
@[simp] theorem State.setTile_outbox (s : State) (t : Nat) (x : Tile) : (s.setTile t x).outbox = s.outbox := rfl
@[simp] theorem State.setTile_free (s : State) (t : Nat) (x : Tile) : (s.setTile t x).free = s.free := rfl
@[simp] theorem State.setTile_seals (s : State) (t : Nat) (x : Tile) : (s.setTile t x).seals = s.seals := rfl
@[simp] theorem State.setTile_fresh (s : State) (t : Nat) (x : Tile) : (s.setTile t x).fresh = s.fresh := rfl
@[simp] theorem State.setTile_lv (s : State) (t : Nat) (x : Tile) : (s.setTile t x).lv = s.lv := rfl
@[simp] theorem State.setTile_power (s : State) (t : Nat) (x : Tile) : (s.setTile t x).power = s.power := rfl
@[simp] theorem State.setTile_pcie (s : State) (t : Nat) (x : Tile) : (s.setTile t x).pcie = s.pcie := rfl
@[simp] theorem State.setTile_fuses (s : State) (t : Nat) (x : Tile) : (s.setTile t x).fuses = s.fuses := rfl
@[simp] theorem State.setTile_mortar (s : State) (t : Nat) (x : Tile) : (s.setTile t x).mortar = s.mortar := rfl
@[simp] theorem State.setTile_dma (s : State) (t : Nat) (x : Tile) : (s.setTile t x).dma = s.dma := rfl
@[simp] theorem State.setTile_credits (s : State) (t : Nat) (x : Tile) : (s.setTile t x).credits = s.credits := rfl
@[simp] theorem State.setTile_time (s : State) (t : Nat) (x : Tile) : (s.setTile t x).time = s.time := rfl
@[simp] theorem State.setTile_snaps (s : State) (t : Nat) (x : Tile) : (s.setTile t x).snaps = s.snaps := rfl
@[simp] theorem State.setTile_sb (s : State) (t : Nat) (x : Tile) : (s.setTile t x).sb = s.sb := rfl
@[simp] theorem State.setTile_loops (s : State) (t : Nat) (x : Tile) : (s.setTile t x).loops = s.loops := rfl
@[simp] theorem State.setTile_strobes (s : State) (t : Nat) (x : Tile) : (s.setTile t x).strobes = s.strobes := rfl
@[simp] theorem State.setTile_plane (s : State) (t : Nat) (x : Tile) : (s.setTile t x).plane = s.plane := rfl
@[simp] theorem State.setTile_comp (s : State) (t : Nat) (x : Tile) : (s.setTile t x).comp = s.comp := rfl
@[simp] theorem State.setTile_lanes (s : State) (t : Nat) (x : Tile) : (s.setTile t x).lanes = s.lanes := rfl
@[simp] theorem State.setTile_issueq (s : State) (t : Nat) (x : Tile) : (s.setTile t x).issueq = s.issueq := rfl
@[simp] theorem State.setTile_hier (s : State) (t : Nat) (x : Tile) : (s.setTile t x).hier = s.hier := rfl
@[simp] theorem State.setTile_parser (s : State) (t : Nat) (x : Tile) : (s.setTile t x).parser = s.parser := rfl
@[simp] theorem State.setTile_warmHold (s : State) (t : Nat) (x : Tile) : (s.setTile t x).warmHold = s.warmHold := rfl
@[simp] theorem State.setTile_calib (s : State) (t : Nat) (x : Tile) : (s.setTile t x).calib = s.calib := rfl
@[simp] theorem State.setTile_replan (s : State) (t : Nat) (x : Tile) : (s.setTile t x).replan = s.replan := rfl
@[simp] theorem State.setTile_sil (s : State) (t : Nat) (x : Tile) : (s.setTile t x).sil = s.sil := rfl
@[simp] theorem State.setTile_therm (s : State) (t : Nat) (x : Tile) : (s.setTile t x).therm = s.therm := rfl
@[simp] theorem State.setTile_starting (s : State) (t : Nat) (x : Tile) : (s.setTile t x).starting = s.starting := rfl
@[simp] theorem State.setTile_lanesFrom (s : State) (t : Nat) (x : Tile) : (s.setTile t x).lanesFrom = s.lanesFrom := rfl
@[simp] theorem State.setTile_trigger (s : State) (t : Nat) (x : Tile) : (s.setTile t x).trigger = s.trigger := rfl
@[simp] theorem State.setTile_passport (s : State) (t : Nat) (x : Tile) : (s.setTile t x).passport = s.passport := rfl
@[simp] theorem State.setTile_ownersLoaded (s : State) (t : Nat) (x : Tile) : (s.setTile t x).ownersLoaded = s.ownersLoaded := rfl

/-! ### `setLoopMem` changes `loops` only -/

@[simp] theorem State.setLoopMem_pending (s : State) (l : Nat) (x : LoopMem) : (s.setLoopMem l x).pending = s.pending := rfl
@[simp] theorem State.setLoopMem_clock (s : State) (l : Nat) (x : LoopMem) : (s.setLoopMem l x).clock = s.clock := rfl
@[simp] theorem State.setLoopMem_regs (s : State) (l : Nat) (x : LoopMem) : (s.setLoopMem l x).regs = s.regs := rfl
@[simp] theorem State.setLoopMem_mem (s : State) (l : Nat) (x : LoopMem) : (s.setLoopMem l x).mem = s.mem := rfl
@[simp] theorem State.setLoopMem_outbox (s : State) (l : Nat) (x : LoopMem) : (s.setLoopMem l x).outbox = s.outbox := rfl
@[simp] theorem State.setLoopMem_free (s : State) (l : Nat) (x : LoopMem) : (s.setLoopMem l x).free = s.free := rfl
@[simp] theorem State.setLoopMem_seals (s : State) (l : Nat) (x : LoopMem) : (s.setLoopMem l x).seals = s.seals := rfl
@[simp] theorem State.setLoopMem_fresh (s : State) (l : Nat) (x : LoopMem) : (s.setLoopMem l x).fresh = s.fresh := rfl
@[simp] theorem State.setLoopMem_lv (s : State) (l : Nat) (x : LoopMem) : (s.setLoopMem l x).lv = s.lv := rfl
@[simp] theorem State.setLoopMem_power (s : State) (l : Nat) (x : LoopMem) : (s.setLoopMem l x).power = s.power := rfl
@[simp] theorem State.setLoopMem_pcie (s : State) (l : Nat) (x : LoopMem) : (s.setLoopMem l x).pcie = s.pcie := rfl
@[simp] theorem State.setLoopMem_fuses (s : State) (l : Nat) (x : LoopMem) : (s.setLoopMem l x).fuses = s.fuses := rfl
@[simp] theorem State.setLoopMem_mortar (s : State) (l : Nat) (x : LoopMem) : (s.setLoopMem l x).mortar = s.mortar := rfl
@[simp] theorem State.setLoopMem_dma (s : State) (l : Nat) (x : LoopMem) : (s.setLoopMem l x).dma = s.dma := rfl
@[simp] theorem State.setLoopMem_credits (s : State) (l : Nat) (x : LoopMem) : (s.setLoopMem l x).credits = s.credits := rfl
@[simp] theorem State.setLoopMem_time (s : State) (l : Nat) (x : LoopMem) : (s.setLoopMem l x).time = s.time := rfl
@[simp] theorem State.setLoopMem_snaps (s : State) (l : Nat) (x : LoopMem) : (s.setLoopMem l x).snaps = s.snaps := rfl
@[simp] theorem State.setLoopMem_sb (s : State) (l : Nat) (x : LoopMem) : (s.setLoopMem l x).sb = s.sb := rfl
@[simp] theorem State.setLoopMem_tiles (s : State) (l : Nat) (x : LoopMem) : (s.setLoopMem l x).tiles = s.tiles := rfl
@[simp] theorem State.setLoopMem_strobes (s : State) (l : Nat) (x : LoopMem) : (s.setLoopMem l x).strobes = s.strobes := rfl
@[simp] theorem State.setLoopMem_plane (s : State) (l : Nat) (x : LoopMem) : (s.setLoopMem l x).plane = s.plane := rfl
@[simp] theorem State.setLoopMem_comp (s : State) (l : Nat) (x : LoopMem) : (s.setLoopMem l x).comp = s.comp := rfl
@[simp] theorem State.setLoopMem_lanes (s : State) (l : Nat) (x : LoopMem) : (s.setLoopMem l x).lanes = s.lanes := rfl
@[simp] theorem State.setLoopMem_issueq (s : State) (l : Nat) (x : LoopMem) : (s.setLoopMem l x).issueq = s.issueq := rfl
@[simp] theorem State.setLoopMem_hier (s : State) (l : Nat) (x : LoopMem) : (s.setLoopMem l x).hier = s.hier := rfl
@[simp] theorem State.setLoopMem_parser (s : State) (l : Nat) (x : LoopMem) : (s.setLoopMem l x).parser = s.parser := rfl
@[simp] theorem State.setLoopMem_warmHold (s : State) (l : Nat) (x : LoopMem) : (s.setLoopMem l x).warmHold = s.warmHold := rfl
@[simp] theorem State.setLoopMem_calib (s : State) (l : Nat) (x : LoopMem) : (s.setLoopMem l x).calib = s.calib := rfl
@[simp] theorem State.setLoopMem_replan (s : State) (l : Nat) (x : LoopMem) : (s.setLoopMem l x).replan = s.replan := rfl
@[simp] theorem State.setLoopMem_sil (s : State) (l : Nat) (x : LoopMem) : (s.setLoopMem l x).sil = s.sil := rfl
@[simp] theorem State.setLoopMem_therm (s : State) (l : Nat) (x : LoopMem) : (s.setLoopMem l x).therm = s.therm := rfl
@[simp] theorem State.setLoopMem_starting (s : State) (l : Nat) (x : LoopMem) : (s.setLoopMem l x).starting = s.starting := rfl
@[simp] theorem State.setLoopMem_lanesFrom (s : State) (l : Nat) (x : LoopMem) : (s.setLoopMem l x).lanesFrom = s.lanesFrom := rfl
@[simp] theorem State.setLoopMem_trigger (s : State) (l : Nat) (x : LoopMem) : (s.setLoopMem l x).trigger = s.trigger := rfl
@[simp] theorem State.setLoopMem_passport (s : State) (l : Nat) (x : LoopMem) : (s.setLoopMem l x).passport = s.passport := rfl
@[simp] theorem State.setLoopMem_ownersLoaded (s : State) (l : Nat) (x : LoopMem) : (s.setLoopMem l x).ownersLoaded = s.ownersLoaded := rfl

/-! ### `setLane` changes `lanes` only -/

@[simp] theorem State.setLane_pending (s : State) (n : Nat) (x : Lane) : (s.setLane n x).pending = s.pending := rfl
@[simp] theorem State.setLane_clock (s : State) (n : Nat) (x : Lane) : (s.setLane n x).clock = s.clock := rfl
@[simp] theorem State.setLane_regs (s : State) (n : Nat) (x : Lane) : (s.setLane n x).regs = s.regs := rfl
@[simp] theorem State.setLane_mem (s : State) (n : Nat) (x : Lane) : (s.setLane n x).mem = s.mem := rfl
@[simp] theorem State.setLane_outbox (s : State) (n : Nat) (x : Lane) : (s.setLane n x).outbox = s.outbox := rfl
@[simp] theorem State.setLane_free (s : State) (n : Nat) (x : Lane) : (s.setLane n x).free = s.free := rfl
@[simp] theorem State.setLane_seals (s : State) (n : Nat) (x : Lane) : (s.setLane n x).seals = s.seals := rfl
@[simp] theorem State.setLane_fresh (s : State) (n : Nat) (x : Lane) : (s.setLane n x).fresh = s.fresh := rfl
@[simp] theorem State.setLane_lv (s : State) (n : Nat) (x : Lane) : (s.setLane n x).lv = s.lv := rfl
@[simp] theorem State.setLane_power (s : State) (n : Nat) (x : Lane) : (s.setLane n x).power = s.power := rfl
@[simp] theorem State.setLane_pcie (s : State) (n : Nat) (x : Lane) : (s.setLane n x).pcie = s.pcie := rfl
@[simp] theorem State.setLane_fuses (s : State) (n : Nat) (x : Lane) : (s.setLane n x).fuses = s.fuses := rfl
@[simp] theorem State.setLane_mortar (s : State) (n : Nat) (x : Lane) : (s.setLane n x).mortar = s.mortar := rfl
@[simp] theorem State.setLane_dma (s : State) (n : Nat) (x : Lane) : (s.setLane n x).dma = s.dma := rfl
@[simp] theorem State.setLane_credits (s : State) (n : Nat) (x : Lane) : (s.setLane n x).credits = s.credits := rfl
@[simp] theorem State.setLane_time (s : State) (n : Nat) (x : Lane) : (s.setLane n x).time = s.time := rfl
@[simp] theorem State.setLane_snaps (s : State) (n : Nat) (x : Lane) : (s.setLane n x).snaps = s.snaps := rfl
@[simp] theorem State.setLane_sb (s : State) (n : Nat) (x : Lane) : (s.setLane n x).sb = s.sb := rfl
@[simp] theorem State.setLane_tiles (s : State) (n : Nat) (x : Lane) : (s.setLane n x).tiles = s.tiles := rfl
@[simp] theorem State.setLane_loops (s : State) (n : Nat) (x : Lane) : (s.setLane n x).loops = s.loops := rfl
@[simp] theorem State.setLane_strobes (s : State) (n : Nat) (x : Lane) : (s.setLane n x).strobes = s.strobes := rfl
@[simp] theorem State.setLane_plane (s : State) (n : Nat) (x : Lane) : (s.setLane n x).plane = s.plane := rfl
@[simp] theorem State.setLane_comp (s : State) (n : Nat) (x : Lane) : (s.setLane n x).comp = s.comp := rfl
@[simp] theorem State.setLane_issueq (s : State) (n : Nat) (x : Lane) : (s.setLane n x).issueq = s.issueq := rfl
@[simp] theorem State.setLane_hier (s : State) (n : Nat) (x : Lane) : (s.setLane n x).hier = s.hier := rfl
@[simp] theorem State.setLane_parser (s : State) (n : Nat) (x : Lane) : (s.setLane n x).parser = s.parser := rfl
@[simp] theorem State.setLane_warmHold (s : State) (n : Nat) (x : Lane) : (s.setLane n x).warmHold = s.warmHold := rfl
@[simp] theorem State.setLane_calib (s : State) (n : Nat) (x : Lane) : (s.setLane n x).calib = s.calib := rfl
@[simp] theorem State.setLane_replan (s : State) (n : Nat) (x : Lane) : (s.setLane n x).replan = s.replan := rfl
@[simp] theorem State.setLane_sil (s : State) (n : Nat) (x : Lane) : (s.setLane n x).sil = s.sil := rfl
@[simp] theorem State.setLane_therm (s : State) (n : Nat) (x : Lane) : (s.setLane n x).therm = s.therm := rfl
@[simp] theorem State.setLane_starting (s : State) (n : Nat) (x : Lane) : (s.setLane n x).starting = s.starting := rfl
@[simp] theorem State.setLane_lanesFrom (s : State) (n : Nat) (x : Lane) : (s.setLane n x).lanesFrom = s.lanesFrom := rfl
@[simp] theorem State.setLane_trigger (s : State) (n : Nat) (x : Lane) : (s.setLane n x).trigger = s.trigger := rfl
@[simp] theorem State.setLane_passport (s : State) (n : Nat) (x : Lane) : (s.setLane n x).passport = s.passport := rfl
@[simp] theorem State.setLane_ownersLoaded (s : State) (n : Nat) (x : Lane) : (s.setLane n x).ownersLoaded = s.ownersLoaded := rfl

/-! ### `queueSys` changes `issueq` only -/

@[simp] theorem State.queueSys_pending (s : State) (x : SysItem) : (s.queueSys x).pending = s.pending := rfl
@[simp] theorem State.queueSys_clock (s : State) (x : SysItem) : (s.queueSys x).clock = s.clock := rfl
@[simp] theorem State.queueSys_regs (s : State) (x : SysItem) : (s.queueSys x).regs = s.regs := rfl
@[simp] theorem State.queueSys_mem (s : State) (x : SysItem) : (s.queueSys x).mem = s.mem := rfl
@[simp] theorem State.queueSys_outbox (s : State) (x : SysItem) : (s.queueSys x).outbox = s.outbox := rfl
@[simp] theorem State.queueSys_free (s : State) (x : SysItem) : (s.queueSys x).free = s.free := rfl
@[simp] theorem State.queueSys_seals (s : State) (x : SysItem) : (s.queueSys x).seals = s.seals := rfl
@[simp] theorem State.queueSys_fresh (s : State) (x : SysItem) : (s.queueSys x).fresh = s.fresh := rfl
@[simp] theorem State.queueSys_lv (s : State) (x : SysItem) : (s.queueSys x).lv = s.lv := rfl
@[simp] theorem State.queueSys_power (s : State) (x : SysItem) : (s.queueSys x).power = s.power := rfl
@[simp] theorem State.queueSys_pcie (s : State) (x : SysItem) : (s.queueSys x).pcie = s.pcie := rfl
@[simp] theorem State.queueSys_fuses (s : State) (x : SysItem) : (s.queueSys x).fuses = s.fuses := rfl
@[simp] theorem State.queueSys_mortar (s : State) (x : SysItem) : (s.queueSys x).mortar = s.mortar := rfl
@[simp] theorem State.queueSys_dma (s : State) (x : SysItem) : (s.queueSys x).dma = s.dma := rfl
@[simp] theorem State.queueSys_credits (s : State) (x : SysItem) : (s.queueSys x).credits = s.credits := rfl
@[simp] theorem State.queueSys_time (s : State) (x : SysItem) : (s.queueSys x).time = s.time := rfl
@[simp] theorem State.queueSys_snaps (s : State) (x : SysItem) : (s.queueSys x).snaps = s.snaps := rfl
@[simp] theorem State.queueSys_sb (s : State) (x : SysItem) : (s.queueSys x).sb = s.sb := rfl
@[simp] theorem State.queueSys_tiles (s : State) (x : SysItem) : (s.queueSys x).tiles = s.tiles := rfl
@[simp] theorem State.queueSys_loops (s : State) (x : SysItem) : (s.queueSys x).loops = s.loops := rfl
@[simp] theorem State.queueSys_strobes (s : State) (x : SysItem) : (s.queueSys x).strobes = s.strobes := rfl
@[simp] theorem State.queueSys_plane (s : State) (x : SysItem) : (s.queueSys x).plane = s.plane := rfl
@[simp] theorem State.queueSys_comp (s : State) (x : SysItem) : (s.queueSys x).comp = s.comp := rfl
@[simp] theorem State.queueSys_lanes (s : State) (x : SysItem) : (s.queueSys x).lanes = s.lanes := rfl
@[simp] theorem State.queueSys_hier (s : State) (x : SysItem) : (s.queueSys x).hier = s.hier := rfl
@[simp] theorem State.queueSys_parser (s : State) (x : SysItem) : (s.queueSys x).parser = s.parser := rfl
@[simp] theorem State.queueSys_warmHold (s : State) (x : SysItem) : (s.queueSys x).warmHold = s.warmHold := rfl
@[simp] theorem State.queueSys_calib (s : State) (x : SysItem) : (s.queueSys x).calib = s.calib := rfl
@[simp] theorem State.queueSys_replan (s : State) (x : SysItem) : (s.queueSys x).replan = s.replan := rfl
@[simp] theorem State.queueSys_sil (s : State) (x : SysItem) : (s.queueSys x).sil = s.sil := rfl
@[simp] theorem State.queueSys_therm (s : State) (x : SysItem) : (s.queueSys x).therm = s.therm := rfl
@[simp] theorem State.queueSys_starting (s : State) (x : SysItem) : (s.queueSys x).starting = s.starting := rfl
@[simp] theorem State.queueSys_lanesFrom (s : State) (x : SysItem) : (s.queueSys x).lanesFrom = s.lanesFrom := rfl
@[simp] theorem State.queueSys_trigger (s : State) (x : SysItem) : (s.queueSys x).trigger = s.trigger := rfl
@[simp] theorem State.queueSys_passport (s : State) (x : SysItem) : (s.queueSys x).passport = s.passport := rfl
@[simp] theorem State.queueSys_ownersLoaded (s : State) (x : SysItem) : (s.queueSys x).ownersLoaded = s.ownersLoaded := rfl

/-! ### `setCtx` changes `plane` only -/

@[simp] theorem State.setCtx_pending (s : State) (n : Nat) (x : Ctx) : (s.setCtx n x).pending = s.pending := rfl
@[simp] theorem State.setCtx_clock (s : State) (n : Nat) (x : Ctx) : (s.setCtx n x).clock = s.clock := rfl
@[simp] theorem State.setCtx_regs (s : State) (n : Nat) (x : Ctx) : (s.setCtx n x).regs = s.regs := rfl
@[simp] theorem State.setCtx_mem (s : State) (n : Nat) (x : Ctx) : (s.setCtx n x).mem = s.mem := rfl
@[simp] theorem State.setCtx_outbox (s : State) (n : Nat) (x : Ctx) : (s.setCtx n x).outbox = s.outbox := rfl
@[simp] theorem State.setCtx_free (s : State) (n : Nat) (x : Ctx) : (s.setCtx n x).free = s.free := rfl
@[simp] theorem State.setCtx_seals (s : State) (n : Nat) (x : Ctx) : (s.setCtx n x).seals = s.seals := rfl
@[simp] theorem State.setCtx_fresh (s : State) (n : Nat) (x : Ctx) : (s.setCtx n x).fresh = s.fresh := rfl
@[simp] theorem State.setCtx_lv (s : State) (n : Nat) (x : Ctx) : (s.setCtx n x).lv = s.lv := rfl
@[simp] theorem State.setCtx_power (s : State) (n : Nat) (x : Ctx) : (s.setCtx n x).power = s.power := rfl
@[simp] theorem State.setCtx_pcie (s : State) (n : Nat) (x : Ctx) : (s.setCtx n x).pcie = s.pcie := rfl
@[simp] theorem State.setCtx_fuses (s : State) (n : Nat) (x : Ctx) : (s.setCtx n x).fuses = s.fuses := rfl
@[simp] theorem State.setCtx_mortar (s : State) (n : Nat) (x : Ctx) : (s.setCtx n x).mortar = s.mortar := rfl
@[simp] theorem State.setCtx_dma (s : State) (n : Nat) (x : Ctx) : (s.setCtx n x).dma = s.dma := rfl
@[simp] theorem State.setCtx_credits (s : State) (n : Nat) (x : Ctx) : (s.setCtx n x).credits = s.credits := rfl
@[simp] theorem State.setCtx_time (s : State) (n : Nat) (x : Ctx) : (s.setCtx n x).time = s.time := rfl
@[simp] theorem State.setCtx_snaps (s : State) (n : Nat) (x : Ctx) : (s.setCtx n x).snaps = s.snaps := rfl
@[simp] theorem State.setCtx_sb (s : State) (n : Nat) (x : Ctx) : (s.setCtx n x).sb = s.sb := rfl
@[simp] theorem State.setCtx_tiles (s : State) (n : Nat) (x : Ctx) : (s.setCtx n x).tiles = s.tiles := rfl
@[simp] theorem State.setCtx_loops (s : State) (n : Nat) (x : Ctx) : (s.setCtx n x).loops = s.loops := rfl
@[simp] theorem State.setCtx_strobes (s : State) (n : Nat) (x : Ctx) : (s.setCtx n x).strobes = s.strobes := rfl
@[simp] theorem State.setCtx_comp (s : State) (n : Nat) (x : Ctx) : (s.setCtx n x).comp = s.comp := rfl
@[simp] theorem State.setCtx_lanes (s : State) (n : Nat) (x : Ctx) : (s.setCtx n x).lanes = s.lanes := rfl
@[simp] theorem State.setCtx_issueq (s : State) (n : Nat) (x : Ctx) : (s.setCtx n x).issueq = s.issueq := rfl
@[simp] theorem State.setCtx_hier (s : State) (n : Nat) (x : Ctx) : (s.setCtx n x).hier = s.hier := rfl
@[simp] theorem State.setCtx_parser (s : State) (n : Nat) (x : Ctx) : (s.setCtx n x).parser = s.parser := rfl
@[simp] theorem State.setCtx_warmHold (s : State) (n : Nat) (x : Ctx) : (s.setCtx n x).warmHold = s.warmHold := rfl
@[simp] theorem State.setCtx_calib (s : State) (n : Nat) (x : Ctx) : (s.setCtx n x).calib = s.calib := rfl
@[simp] theorem State.setCtx_replan (s : State) (n : Nat) (x : Ctx) : (s.setCtx n x).replan = s.replan := rfl
@[simp] theorem State.setCtx_sil (s : State) (n : Nat) (x : Ctx) : (s.setCtx n x).sil = s.sil := rfl
@[simp] theorem State.setCtx_therm (s : State) (n : Nat) (x : Ctx) : (s.setCtx n x).therm = s.therm := rfl
@[simp] theorem State.setCtx_starting (s : State) (n : Nat) (x : Ctx) : (s.setCtx n x).starting = s.starting := rfl
@[simp] theorem State.setCtx_lanesFrom (s : State) (n : Nat) (x : Ctx) : (s.setCtx n x).lanesFrom = s.lanesFrom := rfl
@[simp] theorem State.setCtx_trigger (s : State) (n : Nat) (x : Ctx) : (s.setCtx n x).trigger = s.trigger := rfl
@[simp] theorem State.setCtx_passport (s : State) (n : Nat) (x : Ctx) : (s.setCtx n x).passport = s.passport := rfl
@[simp] theorem State.setCtx_ownersLoaded (s : State) (n : Nat) (x : Ctx) : (s.setCtx n x).ownersLoaded = s.ownersLoaded := rfl

/-! ### `setPlane` changes `plane` only -/

@[simp] theorem State.setPlane_pending (s : State) (p : Plane) : (s.setPlane p).pending = s.pending := rfl
@[simp] theorem State.setPlane_clock (s : State) (p : Plane) : (s.setPlane p).clock = s.clock := rfl
@[simp] theorem State.setPlane_regs (s : State) (p : Plane) : (s.setPlane p).regs = s.regs := rfl
@[simp] theorem State.setPlane_mem (s : State) (p : Plane) : (s.setPlane p).mem = s.mem := rfl
@[simp] theorem State.setPlane_outbox (s : State) (p : Plane) : (s.setPlane p).outbox = s.outbox := rfl
@[simp] theorem State.setPlane_free (s : State) (p : Plane) : (s.setPlane p).free = s.free := rfl
@[simp] theorem State.setPlane_seals (s : State) (p : Plane) : (s.setPlane p).seals = s.seals := rfl
@[simp] theorem State.setPlane_fresh (s : State) (p : Plane) : (s.setPlane p).fresh = s.fresh := rfl
@[simp] theorem State.setPlane_lv (s : State) (p : Plane) : (s.setPlane p).lv = s.lv := rfl
@[simp] theorem State.setPlane_power (s : State) (p : Plane) : (s.setPlane p).power = s.power := rfl
@[simp] theorem State.setPlane_pcie (s : State) (p : Plane) : (s.setPlane p).pcie = s.pcie := rfl
@[simp] theorem State.setPlane_fuses (s : State) (p : Plane) : (s.setPlane p).fuses = s.fuses := rfl
@[simp] theorem State.setPlane_mortar (s : State) (p : Plane) : (s.setPlane p).mortar = s.mortar := rfl
@[simp] theorem State.setPlane_dma (s : State) (p : Plane) : (s.setPlane p).dma = s.dma := rfl
@[simp] theorem State.setPlane_credits (s : State) (p : Plane) : (s.setPlane p).credits = s.credits := rfl
@[simp] theorem State.setPlane_time (s : State) (p : Plane) : (s.setPlane p).time = s.time := rfl
@[simp] theorem State.setPlane_snaps (s : State) (p : Plane) : (s.setPlane p).snaps = s.snaps := rfl
@[simp] theorem State.setPlane_sb (s : State) (p : Plane) : (s.setPlane p).sb = s.sb := rfl
@[simp] theorem State.setPlane_tiles (s : State) (p : Plane) : (s.setPlane p).tiles = s.tiles := rfl
@[simp] theorem State.setPlane_loops (s : State) (p : Plane) : (s.setPlane p).loops = s.loops := rfl
@[simp] theorem State.setPlane_strobes (s : State) (p : Plane) : (s.setPlane p).strobes = s.strobes := rfl
@[simp] theorem State.setPlane_comp (s : State) (p : Plane) : (s.setPlane p).comp = s.comp := rfl
@[simp] theorem State.setPlane_lanes (s : State) (p : Plane) : (s.setPlane p).lanes = s.lanes := rfl
@[simp] theorem State.setPlane_issueq (s : State) (p : Plane) : (s.setPlane p).issueq = s.issueq := rfl
@[simp] theorem State.setPlane_hier (s : State) (p : Plane) : (s.setPlane p).hier = s.hier := rfl
@[simp] theorem State.setPlane_parser (s : State) (p : Plane) : (s.setPlane p).parser = s.parser := rfl
@[simp] theorem State.setPlane_warmHold (s : State) (p : Plane) : (s.setPlane p).warmHold = s.warmHold := rfl
@[simp] theorem State.setPlane_calib (s : State) (p : Plane) : (s.setPlane p).calib = s.calib := rfl
@[simp] theorem State.setPlane_replan (s : State) (p : Plane) : (s.setPlane p).replan = s.replan := rfl
@[simp] theorem State.setPlane_sil (s : State) (p : Plane) : (s.setPlane p).sil = s.sil := rfl
@[simp] theorem State.setPlane_therm (s : State) (p : Plane) : (s.setPlane p).therm = s.therm := rfl
@[simp] theorem State.setPlane_starting (s : State) (p : Plane) : (s.setPlane p).starting = s.starting := rfl
@[simp] theorem State.setPlane_lanesFrom (s : State) (p : Plane) : (s.setPlane p).lanesFrom = s.lanesFrom := rfl
@[simp] theorem State.setPlane_trigger (s : State) (p : Plane) : (s.setPlane p).trigger = s.trigger := rfl
@[simp] theorem State.setPlane_passport (s : State) (p : Plane) : (s.setPlane p).passport = s.passport := rfl
@[simp] theorem State.setPlane_ownersLoaded (s : State) (p : Plane) : (s.setPlane p).ownersLoaded = s.ownersLoaded := rfl

/-! ### `setRecord` changes `plane` only -/

@[simp] theorem State.setRecord_pending (s : State) (n : Nat) (a : Accord) : (s.setRecord n a).pending = s.pending := rfl
@[simp] theorem State.setRecord_clock (s : State) (n : Nat) (a : Accord) : (s.setRecord n a).clock = s.clock := rfl
@[simp] theorem State.setRecord_regs (s : State) (n : Nat) (a : Accord) : (s.setRecord n a).regs = s.regs := rfl
@[simp] theorem State.setRecord_mem (s : State) (n : Nat) (a : Accord) : (s.setRecord n a).mem = s.mem := rfl
@[simp] theorem State.setRecord_outbox (s : State) (n : Nat) (a : Accord) : (s.setRecord n a).outbox = s.outbox := rfl
@[simp] theorem State.setRecord_free (s : State) (n : Nat) (a : Accord) : (s.setRecord n a).free = s.free := rfl
@[simp] theorem State.setRecord_seals (s : State) (n : Nat) (a : Accord) : (s.setRecord n a).seals = s.seals := rfl
@[simp] theorem State.setRecord_fresh (s : State) (n : Nat) (a : Accord) : (s.setRecord n a).fresh = s.fresh := rfl
@[simp] theorem State.setRecord_lv (s : State) (n : Nat) (a : Accord) : (s.setRecord n a).lv = s.lv := rfl
@[simp] theorem State.setRecord_power (s : State) (n : Nat) (a : Accord) : (s.setRecord n a).power = s.power := rfl
@[simp] theorem State.setRecord_pcie (s : State) (n : Nat) (a : Accord) : (s.setRecord n a).pcie = s.pcie := rfl
@[simp] theorem State.setRecord_fuses (s : State) (n : Nat) (a : Accord) : (s.setRecord n a).fuses = s.fuses := rfl
@[simp] theorem State.setRecord_mortar (s : State) (n : Nat) (a : Accord) : (s.setRecord n a).mortar = s.mortar := rfl
@[simp] theorem State.setRecord_dma (s : State) (n : Nat) (a : Accord) : (s.setRecord n a).dma = s.dma := rfl
@[simp] theorem State.setRecord_credits (s : State) (n : Nat) (a : Accord) : (s.setRecord n a).credits = s.credits := rfl
@[simp] theorem State.setRecord_time (s : State) (n : Nat) (a : Accord) : (s.setRecord n a).time = s.time := rfl
@[simp] theorem State.setRecord_snaps (s : State) (n : Nat) (a : Accord) : (s.setRecord n a).snaps = s.snaps := rfl
@[simp] theorem State.setRecord_sb (s : State) (n : Nat) (a : Accord) : (s.setRecord n a).sb = s.sb := rfl
@[simp] theorem State.setRecord_tiles (s : State) (n : Nat) (a : Accord) : (s.setRecord n a).tiles = s.tiles := rfl
@[simp] theorem State.setRecord_loops (s : State) (n : Nat) (a : Accord) : (s.setRecord n a).loops = s.loops := rfl
@[simp] theorem State.setRecord_strobes (s : State) (n : Nat) (a : Accord) : (s.setRecord n a).strobes = s.strobes := rfl
@[simp] theorem State.setRecord_comp (s : State) (n : Nat) (a : Accord) : (s.setRecord n a).comp = s.comp := rfl
@[simp] theorem State.setRecord_lanes (s : State) (n : Nat) (a : Accord) : (s.setRecord n a).lanes = s.lanes := rfl
@[simp] theorem State.setRecord_issueq (s : State) (n : Nat) (a : Accord) : (s.setRecord n a).issueq = s.issueq := rfl
@[simp] theorem State.setRecord_hier (s : State) (n : Nat) (a : Accord) : (s.setRecord n a).hier = s.hier := rfl
@[simp] theorem State.setRecord_parser (s : State) (n : Nat) (a : Accord) : (s.setRecord n a).parser = s.parser := rfl
@[simp] theorem State.setRecord_warmHold (s : State) (n : Nat) (a : Accord) : (s.setRecord n a).warmHold = s.warmHold := rfl
@[simp] theorem State.setRecord_calib (s : State) (n : Nat) (a : Accord) : (s.setRecord n a).calib = s.calib := rfl
@[simp] theorem State.setRecord_replan (s : State) (n : Nat) (a : Accord) : (s.setRecord n a).replan = s.replan := rfl
@[simp] theorem State.setRecord_sil (s : State) (n : Nat) (a : Accord) : (s.setRecord n a).sil = s.sil := rfl
@[simp] theorem State.setRecord_therm (s : State) (n : Nat) (a : Accord) : (s.setRecord n a).therm = s.therm := rfl
@[simp] theorem State.setRecord_starting (s : State) (n : Nat) (a : Accord) : (s.setRecord n a).starting = s.starting := rfl
@[simp] theorem State.setRecord_lanesFrom (s : State) (n : Nat) (a : Accord) : (s.setRecord n a).lanesFrom = s.lanesFrom := rfl
@[simp] theorem State.setRecord_trigger (s : State) (n : Nat) (a : Accord) : (s.setRecord n a).trigger = s.trigger := rfl
@[simp] theorem State.setRecord_passport (s : State) (n : Nat) (a : Accord) : (s.setRecord n a).passport = s.passport := rfl
@[simp] theorem State.setRecord_ownersLoaded (s : State) (n : Nat) (a : Accord) : (s.setRecord n a).ownersLoaded = s.ownersLoaded := rfl

/-! ### `setChan` changes `dma` only -/

@[simp] theorem State.setChan_pending (s : State) (n : Nat) (x : DmaChan) : (s.setChan n x).pending = s.pending := rfl
@[simp] theorem State.setChan_clock (s : State) (n : Nat) (x : DmaChan) : (s.setChan n x).clock = s.clock := rfl
@[simp] theorem State.setChan_regs (s : State) (n : Nat) (x : DmaChan) : (s.setChan n x).regs = s.regs := rfl
@[simp] theorem State.setChan_mem (s : State) (n : Nat) (x : DmaChan) : (s.setChan n x).mem = s.mem := rfl
@[simp] theorem State.setChan_outbox (s : State) (n : Nat) (x : DmaChan) : (s.setChan n x).outbox = s.outbox := rfl
@[simp] theorem State.setChan_free (s : State) (n : Nat) (x : DmaChan) : (s.setChan n x).free = s.free := rfl
@[simp] theorem State.setChan_seals (s : State) (n : Nat) (x : DmaChan) : (s.setChan n x).seals = s.seals := rfl
@[simp] theorem State.setChan_fresh (s : State) (n : Nat) (x : DmaChan) : (s.setChan n x).fresh = s.fresh := rfl
@[simp] theorem State.setChan_lv (s : State) (n : Nat) (x : DmaChan) : (s.setChan n x).lv = s.lv := rfl
@[simp] theorem State.setChan_power (s : State) (n : Nat) (x : DmaChan) : (s.setChan n x).power = s.power := rfl
@[simp] theorem State.setChan_pcie (s : State) (n : Nat) (x : DmaChan) : (s.setChan n x).pcie = s.pcie := rfl
@[simp] theorem State.setChan_fuses (s : State) (n : Nat) (x : DmaChan) : (s.setChan n x).fuses = s.fuses := rfl
@[simp] theorem State.setChan_mortar (s : State) (n : Nat) (x : DmaChan) : (s.setChan n x).mortar = s.mortar := rfl
@[simp] theorem State.setChan_credits (s : State) (n : Nat) (x : DmaChan) : (s.setChan n x).credits = s.credits := rfl
@[simp] theorem State.setChan_time (s : State) (n : Nat) (x : DmaChan) : (s.setChan n x).time = s.time := rfl
@[simp] theorem State.setChan_snaps (s : State) (n : Nat) (x : DmaChan) : (s.setChan n x).snaps = s.snaps := rfl
@[simp] theorem State.setChan_sb (s : State) (n : Nat) (x : DmaChan) : (s.setChan n x).sb = s.sb := rfl
@[simp] theorem State.setChan_tiles (s : State) (n : Nat) (x : DmaChan) : (s.setChan n x).tiles = s.tiles := rfl
@[simp] theorem State.setChan_loops (s : State) (n : Nat) (x : DmaChan) : (s.setChan n x).loops = s.loops := rfl
@[simp] theorem State.setChan_strobes (s : State) (n : Nat) (x : DmaChan) : (s.setChan n x).strobes = s.strobes := rfl
@[simp] theorem State.setChan_plane (s : State) (n : Nat) (x : DmaChan) : (s.setChan n x).plane = s.plane := rfl
@[simp] theorem State.setChan_comp (s : State) (n : Nat) (x : DmaChan) : (s.setChan n x).comp = s.comp := rfl
@[simp] theorem State.setChan_lanes (s : State) (n : Nat) (x : DmaChan) : (s.setChan n x).lanes = s.lanes := rfl
@[simp] theorem State.setChan_issueq (s : State) (n : Nat) (x : DmaChan) : (s.setChan n x).issueq = s.issueq := rfl
@[simp] theorem State.setChan_hier (s : State) (n : Nat) (x : DmaChan) : (s.setChan n x).hier = s.hier := rfl
@[simp] theorem State.setChan_parser (s : State) (n : Nat) (x : DmaChan) : (s.setChan n x).parser = s.parser := rfl
@[simp] theorem State.setChan_warmHold (s : State) (n : Nat) (x : DmaChan) : (s.setChan n x).warmHold = s.warmHold := rfl
@[simp] theorem State.setChan_calib (s : State) (n : Nat) (x : DmaChan) : (s.setChan n x).calib = s.calib := rfl
@[simp] theorem State.setChan_replan (s : State) (n : Nat) (x : DmaChan) : (s.setChan n x).replan = s.replan := rfl
@[simp] theorem State.setChan_sil (s : State) (n : Nat) (x : DmaChan) : (s.setChan n x).sil = s.sil := rfl
@[simp] theorem State.setChan_therm (s : State) (n : Nat) (x : DmaChan) : (s.setChan n x).therm = s.therm := rfl
@[simp] theorem State.setChan_starting (s : State) (n : Nat) (x : DmaChan) : (s.setChan n x).starting = s.starting := rfl
@[simp] theorem State.setChan_lanesFrom (s : State) (n : Nat) (x : DmaChan) : (s.setChan n x).lanesFrom = s.lanesFrom := rfl
@[simp] theorem State.setChan_trigger (s : State) (n : Nat) (x : DmaChan) : (s.setChan n x).trigger = s.trigger := rfl
@[simp] theorem State.setChan_passport (s : State) (n : Nat) (x : DmaChan) : (s.setChan n x).passport = s.passport := rfl
@[simp] theorem State.setChan_ownersLoaded (s : State) (n : Nat) (x : DmaChan) : (s.setChan n x).ownersLoaded = s.ownersLoaded := rfl

/-! ### `setCredit` changes `credits` only -/

@[simp] theorem State.setCredit_pending (s : State) (t i : Nat) (v : Int) : (s.setCredit t i v).pending = s.pending := rfl
@[simp] theorem State.setCredit_clock (s : State) (t i : Nat) (v : Int) : (s.setCredit t i v).clock = s.clock := rfl
@[simp] theorem State.setCredit_regs (s : State) (t i : Nat) (v : Int) : (s.setCredit t i v).regs = s.regs := rfl
@[simp] theorem State.setCredit_mem (s : State) (t i : Nat) (v : Int) : (s.setCredit t i v).mem = s.mem := rfl
@[simp] theorem State.setCredit_outbox (s : State) (t i : Nat) (v : Int) : (s.setCredit t i v).outbox = s.outbox := rfl
@[simp] theorem State.setCredit_free (s : State) (t i : Nat) (v : Int) : (s.setCredit t i v).free = s.free := rfl
@[simp] theorem State.setCredit_seals (s : State) (t i : Nat) (v : Int) : (s.setCredit t i v).seals = s.seals := rfl
@[simp] theorem State.setCredit_fresh (s : State) (t i : Nat) (v : Int) : (s.setCredit t i v).fresh = s.fresh := rfl
@[simp] theorem State.setCredit_lv (s : State) (t i : Nat) (v : Int) : (s.setCredit t i v).lv = s.lv := rfl
@[simp] theorem State.setCredit_power (s : State) (t i : Nat) (v : Int) : (s.setCredit t i v).power = s.power := rfl
@[simp] theorem State.setCredit_pcie (s : State) (t i : Nat) (v : Int) : (s.setCredit t i v).pcie = s.pcie := rfl
@[simp] theorem State.setCredit_fuses (s : State) (t i : Nat) (v : Int) : (s.setCredit t i v).fuses = s.fuses := rfl
@[simp] theorem State.setCredit_mortar (s : State) (t i : Nat) (v : Int) : (s.setCredit t i v).mortar = s.mortar := rfl
@[simp] theorem State.setCredit_dma (s : State) (t i : Nat) (v : Int) : (s.setCredit t i v).dma = s.dma := rfl
@[simp] theorem State.setCredit_time (s : State) (t i : Nat) (v : Int) : (s.setCredit t i v).time = s.time := rfl
@[simp] theorem State.setCredit_snaps (s : State) (t i : Nat) (v : Int) : (s.setCredit t i v).snaps = s.snaps := rfl
@[simp] theorem State.setCredit_sb (s : State) (t i : Nat) (v : Int) : (s.setCredit t i v).sb = s.sb := rfl
@[simp] theorem State.setCredit_tiles (s : State) (t i : Nat) (v : Int) : (s.setCredit t i v).tiles = s.tiles := rfl
@[simp] theorem State.setCredit_loops (s : State) (t i : Nat) (v : Int) : (s.setCredit t i v).loops = s.loops := rfl
@[simp] theorem State.setCredit_strobes (s : State) (t i : Nat) (v : Int) : (s.setCredit t i v).strobes = s.strobes := rfl
@[simp] theorem State.setCredit_plane (s : State) (t i : Nat) (v : Int) : (s.setCredit t i v).plane = s.plane := rfl
@[simp] theorem State.setCredit_comp (s : State) (t i : Nat) (v : Int) : (s.setCredit t i v).comp = s.comp := rfl
@[simp] theorem State.setCredit_lanes (s : State) (t i : Nat) (v : Int) : (s.setCredit t i v).lanes = s.lanes := rfl
@[simp] theorem State.setCredit_issueq (s : State) (t i : Nat) (v : Int) : (s.setCredit t i v).issueq = s.issueq := rfl
@[simp] theorem State.setCredit_hier (s : State) (t i : Nat) (v : Int) : (s.setCredit t i v).hier = s.hier := rfl
@[simp] theorem State.setCredit_parser (s : State) (t i : Nat) (v : Int) : (s.setCredit t i v).parser = s.parser := rfl
@[simp] theorem State.setCredit_warmHold (s : State) (t i : Nat) (v : Int) : (s.setCredit t i v).warmHold = s.warmHold := rfl
@[simp] theorem State.setCredit_calib (s : State) (t i : Nat) (v : Int) : (s.setCredit t i v).calib = s.calib := rfl
@[simp] theorem State.setCredit_replan (s : State) (t i : Nat) (v : Int) : (s.setCredit t i v).replan = s.replan := rfl
@[simp] theorem State.setCredit_sil (s : State) (t i : Nat) (v : Int) : (s.setCredit t i v).sil = s.sil := rfl
@[simp] theorem State.setCredit_therm (s : State) (t i : Nat) (v : Int) : (s.setCredit t i v).therm = s.therm := rfl
@[simp] theorem State.setCredit_starting (s : State) (t i : Nat) (v : Int) : (s.setCredit t i v).starting = s.starting := rfl
@[simp] theorem State.setCredit_lanesFrom (s : State) (t i : Nat) (v : Int) : (s.setCredit t i v).lanesFrom = s.lanesFrom := rfl
@[simp] theorem State.setCredit_trigger (s : State) (t i : Nat) (v : Int) : (s.setCredit t i v).trigger = s.trigger := rfl
@[simp] theorem State.setCredit_passport (s : State) (t i : Nat) (v : Int) : (s.setCredit t i v).passport = s.passport := rfl
@[simp] theorem State.setCredit_ownersLoaded (s : State) (t i : Nat) (v : Int) : (s.setCredit t i v).ownersLoaded = s.ownersLoaded := rfl

/-! ### `setRule` changes `parser` only -/

@[simp] theorem State.setRule_pending (s : State) (k : Nat) (r : Rule) : (s.setRule k r).pending = s.pending := rfl
@[simp] theorem State.setRule_clock (s : State) (k : Nat) (r : Rule) : (s.setRule k r).clock = s.clock := rfl
@[simp] theorem State.setRule_regs (s : State) (k : Nat) (r : Rule) : (s.setRule k r).regs = s.regs := rfl
@[simp] theorem State.setRule_mem (s : State) (k : Nat) (r : Rule) : (s.setRule k r).mem = s.mem := rfl
@[simp] theorem State.setRule_outbox (s : State) (k : Nat) (r : Rule) : (s.setRule k r).outbox = s.outbox := rfl
@[simp] theorem State.setRule_free (s : State) (k : Nat) (r : Rule) : (s.setRule k r).free = s.free := rfl
@[simp] theorem State.setRule_seals (s : State) (k : Nat) (r : Rule) : (s.setRule k r).seals = s.seals := rfl
@[simp] theorem State.setRule_fresh (s : State) (k : Nat) (r : Rule) : (s.setRule k r).fresh = s.fresh := rfl
@[simp] theorem State.setRule_lv (s : State) (k : Nat) (r : Rule) : (s.setRule k r).lv = s.lv := rfl
@[simp] theorem State.setRule_power (s : State) (k : Nat) (r : Rule) : (s.setRule k r).power = s.power := rfl
@[simp] theorem State.setRule_pcie (s : State) (k : Nat) (r : Rule) : (s.setRule k r).pcie = s.pcie := rfl
@[simp] theorem State.setRule_fuses (s : State) (k : Nat) (r : Rule) : (s.setRule k r).fuses = s.fuses := rfl
@[simp] theorem State.setRule_mortar (s : State) (k : Nat) (r : Rule) : (s.setRule k r).mortar = s.mortar := rfl
@[simp] theorem State.setRule_dma (s : State) (k : Nat) (r : Rule) : (s.setRule k r).dma = s.dma := rfl
@[simp] theorem State.setRule_credits (s : State) (k : Nat) (r : Rule) : (s.setRule k r).credits = s.credits := rfl
@[simp] theorem State.setRule_time (s : State) (k : Nat) (r : Rule) : (s.setRule k r).time = s.time := rfl
@[simp] theorem State.setRule_snaps (s : State) (k : Nat) (r : Rule) : (s.setRule k r).snaps = s.snaps := rfl
@[simp] theorem State.setRule_sb (s : State) (k : Nat) (r : Rule) : (s.setRule k r).sb = s.sb := rfl
@[simp] theorem State.setRule_tiles (s : State) (k : Nat) (r : Rule) : (s.setRule k r).tiles = s.tiles := rfl
@[simp] theorem State.setRule_loops (s : State) (k : Nat) (r : Rule) : (s.setRule k r).loops = s.loops := rfl
@[simp] theorem State.setRule_strobes (s : State) (k : Nat) (r : Rule) : (s.setRule k r).strobes = s.strobes := rfl
@[simp] theorem State.setRule_plane (s : State) (k : Nat) (r : Rule) : (s.setRule k r).plane = s.plane := rfl
@[simp] theorem State.setRule_comp (s : State) (k : Nat) (r : Rule) : (s.setRule k r).comp = s.comp := rfl
@[simp] theorem State.setRule_lanes (s : State) (k : Nat) (r : Rule) : (s.setRule k r).lanes = s.lanes := rfl
@[simp] theorem State.setRule_issueq (s : State) (k : Nat) (r : Rule) : (s.setRule k r).issueq = s.issueq := rfl
@[simp] theorem State.setRule_hier (s : State) (k : Nat) (r : Rule) : (s.setRule k r).hier = s.hier := rfl
@[simp] theorem State.setRule_warmHold (s : State) (k : Nat) (r : Rule) : (s.setRule k r).warmHold = s.warmHold := rfl
@[simp] theorem State.setRule_calib (s : State) (k : Nat) (r : Rule) : (s.setRule k r).calib = s.calib := rfl
@[simp] theorem State.setRule_replan (s : State) (k : Nat) (r : Rule) : (s.setRule k r).replan = s.replan := rfl
@[simp] theorem State.setRule_sil (s : State) (k : Nat) (r : Rule) : (s.setRule k r).sil = s.sil := rfl
@[simp] theorem State.setRule_therm (s : State) (k : Nat) (r : Rule) : (s.setRule k r).therm = s.therm := rfl
@[simp] theorem State.setRule_starting (s : State) (k : Nat) (r : Rule) : (s.setRule k r).starting = s.starting := rfl
@[simp] theorem State.setRule_lanesFrom (s : State) (k : Nat) (r : Rule) : (s.setRule k r).lanesFrom = s.lanesFrom := rfl
@[simp] theorem State.setRule_trigger (s : State) (k : Nat) (r : Rule) : (s.setRule k r).trigger = s.trigger := rfl
@[simp] theorem State.setRule_passport (s : State) (k : Nat) (r : Rule) : (s.setRule k r).passport = s.passport := rfl
@[simp] theorem State.setRule_ownersLoaded (s : State) (k : Nat) (r : Rule) : (s.setRule k r).ownersLoaded = s.ownersLoaded := rfl

/-! ### `setSensorMem` changes `therm` only -/

@[simp] theorem State.setSensorMem_pending (s : State) (n : Nat) (x : SensorMem) : (s.setSensorMem n x).pending = s.pending := rfl
@[simp] theorem State.setSensorMem_clock (s : State) (n : Nat) (x : SensorMem) : (s.setSensorMem n x).clock = s.clock := rfl
@[simp] theorem State.setSensorMem_regs (s : State) (n : Nat) (x : SensorMem) : (s.setSensorMem n x).regs = s.regs := rfl
@[simp] theorem State.setSensorMem_mem (s : State) (n : Nat) (x : SensorMem) : (s.setSensorMem n x).mem = s.mem := rfl
@[simp] theorem State.setSensorMem_outbox (s : State) (n : Nat) (x : SensorMem) : (s.setSensorMem n x).outbox = s.outbox := rfl
@[simp] theorem State.setSensorMem_free (s : State) (n : Nat) (x : SensorMem) : (s.setSensorMem n x).free = s.free := rfl
@[simp] theorem State.setSensorMem_seals (s : State) (n : Nat) (x : SensorMem) : (s.setSensorMem n x).seals = s.seals := rfl
@[simp] theorem State.setSensorMem_fresh (s : State) (n : Nat) (x : SensorMem) : (s.setSensorMem n x).fresh = s.fresh := rfl
@[simp] theorem State.setSensorMem_lv (s : State) (n : Nat) (x : SensorMem) : (s.setSensorMem n x).lv = s.lv := rfl
@[simp] theorem State.setSensorMem_power (s : State) (n : Nat) (x : SensorMem) : (s.setSensorMem n x).power = s.power := rfl
@[simp] theorem State.setSensorMem_pcie (s : State) (n : Nat) (x : SensorMem) : (s.setSensorMem n x).pcie = s.pcie := rfl
@[simp] theorem State.setSensorMem_fuses (s : State) (n : Nat) (x : SensorMem) : (s.setSensorMem n x).fuses = s.fuses := rfl
@[simp] theorem State.setSensorMem_mortar (s : State) (n : Nat) (x : SensorMem) : (s.setSensorMem n x).mortar = s.mortar := rfl
@[simp] theorem State.setSensorMem_dma (s : State) (n : Nat) (x : SensorMem) : (s.setSensorMem n x).dma = s.dma := rfl
@[simp] theorem State.setSensorMem_credits (s : State) (n : Nat) (x : SensorMem) : (s.setSensorMem n x).credits = s.credits := rfl
@[simp] theorem State.setSensorMem_time (s : State) (n : Nat) (x : SensorMem) : (s.setSensorMem n x).time = s.time := rfl
@[simp] theorem State.setSensorMem_snaps (s : State) (n : Nat) (x : SensorMem) : (s.setSensorMem n x).snaps = s.snaps := rfl
@[simp] theorem State.setSensorMem_sb (s : State) (n : Nat) (x : SensorMem) : (s.setSensorMem n x).sb = s.sb := rfl
@[simp] theorem State.setSensorMem_tiles (s : State) (n : Nat) (x : SensorMem) : (s.setSensorMem n x).tiles = s.tiles := rfl
@[simp] theorem State.setSensorMem_loops (s : State) (n : Nat) (x : SensorMem) : (s.setSensorMem n x).loops = s.loops := rfl
@[simp] theorem State.setSensorMem_strobes (s : State) (n : Nat) (x : SensorMem) : (s.setSensorMem n x).strobes = s.strobes := rfl
@[simp] theorem State.setSensorMem_plane (s : State) (n : Nat) (x : SensorMem) : (s.setSensorMem n x).plane = s.plane := rfl
@[simp] theorem State.setSensorMem_comp (s : State) (n : Nat) (x : SensorMem) : (s.setSensorMem n x).comp = s.comp := rfl
@[simp] theorem State.setSensorMem_lanes (s : State) (n : Nat) (x : SensorMem) : (s.setSensorMem n x).lanes = s.lanes := rfl
@[simp] theorem State.setSensorMem_issueq (s : State) (n : Nat) (x : SensorMem) : (s.setSensorMem n x).issueq = s.issueq := rfl
@[simp] theorem State.setSensorMem_hier (s : State) (n : Nat) (x : SensorMem) : (s.setSensorMem n x).hier = s.hier := rfl
@[simp] theorem State.setSensorMem_parser (s : State) (n : Nat) (x : SensorMem) : (s.setSensorMem n x).parser = s.parser := rfl
@[simp] theorem State.setSensorMem_warmHold (s : State) (n : Nat) (x : SensorMem) : (s.setSensorMem n x).warmHold = s.warmHold := rfl
@[simp] theorem State.setSensorMem_calib (s : State) (n : Nat) (x : SensorMem) : (s.setSensorMem n x).calib = s.calib := rfl
@[simp] theorem State.setSensorMem_replan (s : State) (n : Nat) (x : SensorMem) : (s.setSensorMem n x).replan = s.replan := rfl
@[simp] theorem State.setSensorMem_sil (s : State) (n : Nat) (x : SensorMem) : (s.setSensorMem n x).sil = s.sil := rfl
@[simp] theorem State.setSensorMem_starting (s : State) (n : Nat) (x : SensorMem) : (s.setSensorMem n x).starting = s.starting := rfl
@[simp] theorem State.setSensorMem_lanesFrom (s : State) (n : Nat) (x : SensorMem) : (s.setSensorMem n x).lanesFrom = s.lanesFrom := rfl
@[simp] theorem State.setSensorMem_trigger (s : State) (n : Nat) (x : SensorMem) : (s.setSensorMem n x).trigger = s.trigger := rfl
@[simp] theorem State.setSensorMem_passport (s : State) (n : Nat) (x : SensorMem) : (s.setSensorMem n x).passport = s.passport := rfl
@[simp] theorem State.setSensorMem_ownersLoaded (s : State) (n : Nat) (x : SensorMem) : (s.setSensorMem n x).ownersLoaded = s.ownersLoaded := rfl

/-! ### `setTp` changes `time` only -/

@[simp] theorem State.setTp_pending (s : State) (n : Nat) (t : Tpulse) : (s.setTp n t).pending = s.pending := rfl
@[simp] theorem State.setTp_clock (s : State) (n : Nat) (t : Tpulse) : (s.setTp n t).clock = s.clock := rfl
@[simp] theorem State.setTp_regs (s : State) (n : Nat) (t : Tpulse) : (s.setTp n t).regs = s.regs := rfl
@[simp] theorem State.setTp_mem (s : State) (n : Nat) (t : Tpulse) : (s.setTp n t).mem = s.mem := rfl
@[simp] theorem State.setTp_outbox (s : State) (n : Nat) (t : Tpulse) : (s.setTp n t).outbox = s.outbox := rfl
@[simp] theorem State.setTp_free (s : State) (n : Nat) (t : Tpulse) : (s.setTp n t).free = s.free := rfl
@[simp] theorem State.setTp_seals (s : State) (n : Nat) (t : Tpulse) : (s.setTp n t).seals = s.seals := rfl
@[simp] theorem State.setTp_fresh (s : State) (n : Nat) (t : Tpulse) : (s.setTp n t).fresh = s.fresh := rfl
@[simp] theorem State.setTp_lv (s : State) (n : Nat) (t : Tpulse) : (s.setTp n t).lv = s.lv := rfl
@[simp] theorem State.setTp_power (s : State) (n : Nat) (t : Tpulse) : (s.setTp n t).power = s.power := rfl
@[simp] theorem State.setTp_pcie (s : State) (n : Nat) (t : Tpulse) : (s.setTp n t).pcie = s.pcie := rfl
@[simp] theorem State.setTp_fuses (s : State) (n : Nat) (t : Tpulse) : (s.setTp n t).fuses = s.fuses := rfl
@[simp] theorem State.setTp_mortar (s : State) (n : Nat) (t : Tpulse) : (s.setTp n t).mortar = s.mortar := rfl
@[simp] theorem State.setTp_dma (s : State) (n : Nat) (t : Tpulse) : (s.setTp n t).dma = s.dma := rfl
@[simp] theorem State.setTp_credits (s : State) (n : Nat) (t : Tpulse) : (s.setTp n t).credits = s.credits := rfl
@[simp] theorem State.setTp_snaps (s : State) (n : Nat) (t : Tpulse) : (s.setTp n t).snaps = s.snaps := rfl
@[simp] theorem State.setTp_sb (s : State) (n : Nat) (t : Tpulse) : (s.setTp n t).sb = s.sb := rfl
@[simp] theorem State.setTp_tiles (s : State) (n : Nat) (t : Tpulse) : (s.setTp n t).tiles = s.tiles := rfl
@[simp] theorem State.setTp_loops (s : State) (n : Nat) (t : Tpulse) : (s.setTp n t).loops = s.loops := rfl
@[simp] theorem State.setTp_strobes (s : State) (n : Nat) (t : Tpulse) : (s.setTp n t).strobes = s.strobes := rfl
@[simp] theorem State.setTp_plane (s : State) (n : Nat) (t : Tpulse) : (s.setTp n t).plane = s.plane := rfl
@[simp] theorem State.setTp_comp (s : State) (n : Nat) (t : Tpulse) : (s.setTp n t).comp = s.comp := rfl
@[simp] theorem State.setTp_lanes (s : State) (n : Nat) (t : Tpulse) : (s.setTp n t).lanes = s.lanes := rfl
@[simp] theorem State.setTp_issueq (s : State) (n : Nat) (t : Tpulse) : (s.setTp n t).issueq = s.issueq := rfl
@[simp] theorem State.setTp_hier (s : State) (n : Nat) (t : Tpulse) : (s.setTp n t).hier = s.hier := rfl
@[simp] theorem State.setTp_parser (s : State) (n : Nat) (t : Tpulse) : (s.setTp n t).parser = s.parser := rfl
@[simp] theorem State.setTp_warmHold (s : State) (n : Nat) (t : Tpulse) : (s.setTp n t).warmHold = s.warmHold := rfl
@[simp] theorem State.setTp_calib (s : State) (n : Nat) (t : Tpulse) : (s.setTp n t).calib = s.calib := rfl
@[simp] theorem State.setTp_replan (s : State) (n : Nat) (t : Tpulse) : (s.setTp n t).replan = s.replan := rfl
@[simp] theorem State.setTp_sil (s : State) (n : Nat) (t : Tpulse) : (s.setTp n t).sil = s.sil := rfl
@[simp] theorem State.setTp_therm (s : State) (n : Nat) (t : Tpulse) : (s.setTp n t).therm = s.therm := rfl
@[simp] theorem State.setTp_starting (s : State) (n : Nat) (t : Tpulse) : (s.setTp n t).starting = s.starting := rfl
@[simp] theorem State.setTp_lanesFrom (s : State) (n : Nat) (t : Tpulse) : (s.setTp n t).lanesFrom = s.lanesFrom := rfl
@[simp] theorem State.setTp_trigger (s : State) (n : Nat) (t : Tpulse) : (s.setTp n t).trigger = s.trigger := rfl
@[simp] theorem State.setTp_passport (s : State) (n : Nat) (t : Tpulse) : (s.setTp n t).passport = s.passport := rfl
@[simp] theorem State.setTp_ownersLoaded (s : State) (n : Nat) (t : Tpulse) : (s.setTp n t).ownersLoaded = s.ownersLoaded := rfl

/-! ### `setTime` changes `time` only -/

@[simp] theorem State.setTime_pending (s : State) (v : Nat) : (s.setTime v).pending = s.pending := rfl
@[simp] theorem State.setTime_clock (s : State) (v : Nat) : (s.setTime v).clock = s.clock := rfl
@[simp] theorem State.setTime_regs (s : State) (v : Nat) : (s.setTime v).regs = s.regs := rfl
@[simp] theorem State.setTime_mem (s : State) (v : Nat) : (s.setTime v).mem = s.mem := rfl
@[simp] theorem State.setTime_outbox (s : State) (v : Nat) : (s.setTime v).outbox = s.outbox := rfl
@[simp] theorem State.setTime_free (s : State) (v : Nat) : (s.setTime v).free = s.free := rfl
@[simp] theorem State.setTime_seals (s : State) (v : Nat) : (s.setTime v).seals = s.seals := rfl
@[simp] theorem State.setTime_fresh (s : State) (v : Nat) : (s.setTime v).fresh = s.fresh := rfl
@[simp] theorem State.setTime_lv (s : State) (v : Nat) : (s.setTime v).lv = s.lv := rfl
@[simp] theorem State.setTime_power (s : State) (v : Nat) : (s.setTime v).power = s.power := rfl
@[simp] theorem State.setTime_pcie (s : State) (v : Nat) : (s.setTime v).pcie = s.pcie := rfl
@[simp] theorem State.setTime_fuses (s : State) (v : Nat) : (s.setTime v).fuses = s.fuses := rfl
@[simp] theorem State.setTime_mortar (s : State) (v : Nat) : (s.setTime v).mortar = s.mortar := rfl
@[simp] theorem State.setTime_dma (s : State) (v : Nat) : (s.setTime v).dma = s.dma := rfl
@[simp] theorem State.setTime_credits (s : State) (v : Nat) : (s.setTime v).credits = s.credits := rfl
@[simp] theorem State.setTime_snaps (s : State) (v : Nat) : (s.setTime v).snaps = s.snaps := rfl
@[simp] theorem State.setTime_sb (s : State) (v : Nat) : (s.setTime v).sb = s.sb := rfl
@[simp] theorem State.setTime_tiles (s : State) (v : Nat) : (s.setTime v).tiles = s.tiles := rfl
@[simp] theorem State.setTime_loops (s : State) (v : Nat) : (s.setTime v).loops = s.loops := rfl
@[simp] theorem State.setTime_strobes (s : State) (v : Nat) : (s.setTime v).strobes = s.strobes := rfl
@[simp] theorem State.setTime_plane (s : State) (v : Nat) : (s.setTime v).plane = s.plane := rfl
@[simp] theorem State.setTime_comp (s : State) (v : Nat) : (s.setTime v).comp = s.comp := rfl
@[simp] theorem State.setTime_lanes (s : State) (v : Nat) : (s.setTime v).lanes = s.lanes := rfl
@[simp] theorem State.setTime_issueq (s : State) (v : Nat) : (s.setTime v).issueq = s.issueq := rfl
@[simp] theorem State.setTime_hier (s : State) (v : Nat) : (s.setTime v).hier = s.hier := rfl
@[simp] theorem State.setTime_parser (s : State) (v : Nat) : (s.setTime v).parser = s.parser := rfl
@[simp] theorem State.setTime_warmHold (s : State) (v : Nat) : (s.setTime v).warmHold = s.warmHold := rfl
@[simp] theorem State.setTime_calib (s : State) (v : Nat) : (s.setTime v).calib = s.calib := rfl
@[simp] theorem State.setTime_replan (s : State) (v : Nat) : (s.setTime v).replan = s.replan := rfl
@[simp] theorem State.setTime_sil (s : State) (v : Nat) : (s.setTime v).sil = s.sil := rfl
@[simp] theorem State.setTime_therm (s : State) (v : Nat) : (s.setTime v).therm = s.therm := rfl
@[simp] theorem State.setTime_starting (s : State) (v : Nat) : (s.setTime v).starting = s.starting := rfl
@[simp] theorem State.setTime_lanesFrom (s : State) (v : Nat) : (s.setTime v).lanesFrom = s.lanesFrom := rfl
@[simp] theorem State.setTime_trigger (s : State) (v : Nat) : (s.setTime v).trigger = s.trigger := rfl
@[simp] theorem State.setTime_passport (s : State) (v : Nat) : (s.setTime v).passport = s.passport := rfl
@[simp] theorem State.setTime_ownersLoaded (s : State) (v : Nat) : (s.setTime v).ownersLoaded = s.ownersLoaded := rfl

/-! ### `holdLo` changes `snaps` only -/

@[simp] theorem State.holdLo_pending (s : State) (m : Master) (a : Nat) (w : Word) : (s.holdLo m a w).pending = s.pending := rfl
@[simp] theorem State.holdLo_clock (s : State) (m : Master) (a : Nat) (w : Word) : (s.holdLo m a w).clock = s.clock := rfl
@[simp] theorem State.holdLo_regs (s : State) (m : Master) (a : Nat) (w : Word) : (s.holdLo m a w).regs = s.regs := rfl
@[simp] theorem State.holdLo_mem (s : State) (m : Master) (a : Nat) (w : Word) : (s.holdLo m a w).mem = s.mem := rfl
@[simp] theorem State.holdLo_outbox (s : State) (m : Master) (a : Nat) (w : Word) : (s.holdLo m a w).outbox = s.outbox := rfl
@[simp] theorem State.holdLo_free (s : State) (m : Master) (a : Nat) (w : Word) : (s.holdLo m a w).free = s.free := rfl
@[simp] theorem State.holdLo_seals (s : State) (m : Master) (a : Nat) (w : Word) : (s.holdLo m a w).seals = s.seals := rfl
@[simp] theorem State.holdLo_fresh (s : State) (m : Master) (a : Nat) (w : Word) : (s.holdLo m a w).fresh = s.fresh := rfl
@[simp] theorem State.holdLo_lv (s : State) (m : Master) (a : Nat) (w : Word) : (s.holdLo m a w).lv = s.lv := rfl
@[simp] theorem State.holdLo_power (s : State) (m : Master) (a : Nat) (w : Word) : (s.holdLo m a w).power = s.power := rfl
@[simp] theorem State.holdLo_pcie (s : State) (m : Master) (a : Nat) (w : Word) : (s.holdLo m a w).pcie = s.pcie := rfl
@[simp] theorem State.holdLo_fuses (s : State) (m : Master) (a : Nat) (w : Word) : (s.holdLo m a w).fuses = s.fuses := rfl
@[simp] theorem State.holdLo_mortar (s : State) (m : Master) (a : Nat) (w : Word) : (s.holdLo m a w).mortar = s.mortar := rfl
@[simp] theorem State.holdLo_dma (s : State) (m : Master) (a : Nat) (w : Word) : (s.holdLo m a w).dma = s.dma := rfl
@[simp] theorem State.holdLo_credits (s : State) (m : Master) (a : Nat) (w : Word) : (s.holdLo m a w).credits = s.credits := rfl
@[simp] theorem State.holdLo_time (s : State) (m : Master) (a : Nat) (w : Word) : (s.holdLo m a w).time = s.time := rfl
@[simp] theorem State.holdLo_sb (s : State) (m : Master) (a : Nat) (w : Word) : (s.holdLo m a w).sb = s.sb := rfl
@[simp] theorem State.holdLo_tiles (s : State) (m : Master) (a : Nat) (w : Word) : (s.holdLo m a w).tiles = s.tiles := rfl
@[simp] theorem State.holdLo_loops (s : State) (m : Master) (a : Nat) (w : Word) : (s.holdLo m a w).loops = s.loops := rfl
@[simp] theorem State.holdLo_strobes (s : State) (m : Master) (a : Nat) (w : Word) : (s.holdLo m a w).strobes = s.strobes := rfl
@[simp] theorem State.holdLo_plane (s : State) (m : Master) (a : Nat) (w : Word) : (s.holdLo m a w).plane = s.plane := rfl
@[simp] theorem State.holdLo_comp (s : State) (m : Master) (a : Nat) (w : Word) : (s.holdLo m a w).comp = s.comp := rfl
@[simp] theorem State.holdLo_lanes (s : State) (m : Master) (a : Nat) (w : Word) : (s.holdLo m a w).lanes = s.lanes := rfl
@[simp] theorem State.holdLo_issueq (s : State) (m : Master) (a : Nat) (w : Word) : (s.holdLo m a w).issueq = s.issueq := rfl
@[simp] theorem State.holdLo_hier (s : State) (m : Master) (a : Nat) (w : Word) : (s.holdLo m a w).hier = s.hier := rfl
@[simp] theorem State.holdLo_parser (s : State) (m : Master) (a : Nat) (w : Word) : (s.holdLo m a w).parser = s.parser := rfl
@[simp] theorem State.holdLo_warmHold (s : State) (m : Master) (a : Nat) (w : Word) : (s.holdLo m a w).warmHold = s.warmHold := rfl
@[simp] theorem State.holdLo_calib (s : State) (m : Master) (a : Nat) (w : Word) : (s.holdLo m a w).calib = s.calib := rfl
@[simp] theorem State.holdLo_replan (s : State) (m : Master) (a : Nat) (w : Word) : (s.holdLo m a w).replan = s.replan := rfl
@[simp] theorem State.holdLo_sil (s : State) (m : Master) (a : Nat) (w : Word) : (s.holdLo m a w).sil = s.sil := rfl
@[simp] theorem State.holdLo_therm (s : State) (m : Master) (a : Nat) (w : Word) : (s.holdLo m a w).therm = s.therm := rfl
@[simp] theorem State.holdLo_starting (s : State) (m : Master) (a : Nat) (w : Word) : (s.holdLo m a w).starting = s.starting := rfl
@[simp] theorem State.holdLo_lanesFrom (s : State) (m : Master) (a : Nat) (w : Word) : (s.holdLo m a w).lanesFrom = s.lanesFrom := rfl
@[simp] theorem State.holdLo_trigger (s : State) (m : Master) (a : Nat) (w : Word) : (s.holdLo m a w).trigger = s.trigger := rfl
@[simp] theorem State.holdLo_passport (s : State) (m : Master) (a : Nat) (w : Word) : (s.holdLo m a w).passport = s.passport := rfl
@[simp] theorem State.holdLo_ownersLoaded (s : State) (m : Master) (a : Nat) (w : Word) : (s.holdLo m a w).ownersLoaded = s.ownersLoaded := rfl

end Sys2Proof.Machine
end

