-- ==== Sys2Proof/Laws/Ops.lean ====
section
/-! SUPPORT. What each shared operation can do, said once: read after write, the canonical form kept, and what reporting a fault,
counting or emitting an event can reach. -/

namespace Sys2Proof.Machine

/-! ## Words and bytes -/

@[simp] theorem State.word_setWord_same (s : State) (a : Nat) (w : Word) : (s.setWord a w).word a = w :=
  sparseGet_put_same coldWord s.regs a w

theorem State.word_setWord_other (s : State) (a b : Nat) (w : Word) (h : b ≠ a) : (s.setWord a w).word b = s.word b :=
  sparseGet_put_other coldWord s.regs a b w h

/-- A field write leaves every other word alone. -/
theorem State.word_wr_other (s : State) (f : Field) (v b : Nat) (h : b ≠ f.addr) : (s.wr f v).word b = s.word b :=
  s.word_setWord_other f.addr b _ h

theorem State.word_setFlag_other (s : State) (f : Field) (v : Bool) (b : Nat) (h : b ≠ f.addr) :
    (s.setFlag f v).word b = s.word b :=
  s.word_wr_other f _ b h

theorem State.word_wrW_other (s : State) (w : Wide) (v b : Nat) (h : b ≠ w.addr) (h4 : b ≠ w.addr + 4) :
    (s.wrW w v).word b = s.word b :=
  (State.word_setWord_other _ _ _ _ h4).trans (s.word_setWord_other _ _ _ h)

@[simp] theorem State.memByte_setMemByte_same (s : State) (a : Nat) (b : Byte) : (s.setMemByte a b).memByte a = b :=
  sparseGet_put_same memDefault s.mem a b

theorem State.memByte_setMemByte_other (s : State) (a x : Nat) (b : Byte) (h : x ≠ a) :
    (s.setMemByte a b).memByte x = s.memByte x :=
  sparseGet_put_other memDefault s.mem a x b h

/-- A run of bytes written changes memory only. -/
theorem State.setMemBytes_eq (bs : List Byte) (s : State) (a : Nat) :
    s.setMemBytes a bs = { s with mem := (s.setMemBytes a bs).mem } := by
  induction bs generalizing s a with
  | nil => rfl
  | cons b rest ih =>
    have h := ih (s.setMemByte a b) (a + 1)
    simp only [State.setMemBytes]
    rw [h]
    rfl

/-! ## The canonical form -/

theorem State.setWord_canonical (s : State) (a : Nat) (w : Word) (h : Canonical s) : Canonical (s.setWord a w) :=
  ⟨sparsePut_wf coldWord s.regs a w h.1, h.2⟩

theorem State.wr_canonical (s : State) (f : Field) (v : Nat) (h : Canonical s) : Canonical (s.wr f v) :=
  s.setWord_canonical _ _ h

theorem State.setFlag_canonical (s : State) (f : Field) (b : Bool) (h : Canonical s) : Canonical (s.setFlag f b) :=
  s.wr_canonical f _ h

theorem State.wrW_canonical (s : State) (w : Wide) (v : Nat) (h : Canonical s) : Canonical (s.wrW w v) :=
  State.setWord_canonical _ _ _ (s.setWord_canonical _ _ h)

theorem State.mapWords_canonical (s : State) (f : Nat → Word → Word) (h : Canonical s) : Canonical (s.mapWords f) := by
  refine ⟨⟨?_, ?_⟩, h.2⟩
  · exact List.Pairwise.filter _ (List.pairwise_map.mpr h.1.1)
  · intro e he
    have := (List.mem_filter.mp he).2
    simpa using this

theorem State.setMemByte_canonical (s : State) (a : Nat) (b : Byte) (h : Canonical s) : Canonical (s.setMemByte a b) :=
  ⟨h.1, sparsePut_wf memDefault s.mem a b h.2⟩

theorem State.setMemBytes_canonical (bs : List Byte) (s : State) (a : Nat) (h : Canonical s) :
    Canonical (s.setMemBytes a bs) := by
  induction bs generalizing s a with
  | nil => exact h
  | cons b rest ih => exact ih _ _ (s.setMemByte_canonical a b h)

theorem State.emitOut_canonical (s : State) (o : Output) (h : Canonical s) : Canonical (s.emitOut o) := h

theorem State.applyLv_canonical (s : State) (a : Nat) (h : Canonical s) : Canonical (s.applyLv a) := by
  unfold State.applyLv
  split
  · exact State.setWord_canonical _ _ _ h
  · exact h

/-! ## What reporting can reach -/

/-- `t` is `s` with something reported: registers in canonical form still, more outputs, more latches and more events on their
way, and nothing else. -/
structure Reports (s t : State) : Prop where
  same : t = { s with regs := t.regs, fresh := t.fresh, outbox := t.outbox, seals := t.seals, mortar := t.mortar }
  regs : Registers.wf s.regs → Registers.wf t.regs
  outbox : s.outbox <+: t.outbox
  seals : ∀ x ∈ s.seals, x ∈ t.seals
  mortar : t.mortar = { s.mortar with inFlight := t.mortar.inFlight }

theorem Reports.refl (s : State) : Reports s s := ⟨rfl, id, List.prefix_refl _, fun _ h => h, rfl⟩

theorem Reports.trans {s t u : State} (a : Reports s t) (b : Reports t u) : Reports s u := by
  refine ⟨?_, fun h => b.regs (a.regs h), a.outbox.trans b.outbox, fun x h => b.seals x (a.seals x h), ?_⟩
  · have h := b.same
    rw [a.same] at h
    rw [h]
  · have h := b.mortar
    rw [a.mortar] at h
    rw [h]

/-- Reporting leaves memory alone. -/
theorem Reports.mem {s t : State} (h : Reports s t) : t.mem = s.mem := by
  have e := congrArg State.mem h.same
  exact e

/-- Reporting keeps the canonical form. -/
theorem Reports.canonical {s t : State} (h : Reports s t) (c : Canonical s) : Canonical t :=
  ⟨h.regs c.1, h.mem ▸ c.2⟩

theorem State.setWord_reports (s : State) (a : Nat) (w : Word) : Reports s (s.setWord a w) :=
  ⟨rfl, sparsePut_wf coldWord s.regs a w, List.prefix_refl _, fun _ h => h, rfl⟩

theorem State.wr_reports (s : State) (f : Field) (v : Nat) : Reports s (s.wr f v) := s.setWord_reports _ _

theorem State.setFlag_reports (s : State) (f : Field) (b : Bool) : Reports s (s.setFlag f b) := s.wr_reports f _

/-- A note of this clock cycle changes nothing else. -/
theorem State.note_reports (s : State) (k : Nat × Nat) : Reports s (s.note k) :=
  ⟨rfl, id, List.prefix_refl _, fun _ h => h, rfl⟩

/-- An event's bit sets and counts as set in this clock cycle. -/
theorem State.setEvent_reports (s : State) (f : Field) : Reports s (s.setEvent f) :=
  (s.setFlag_reports f true).trans (State.note_reports _ _)

theorem State.wrW_reports (s : State) (w : Wide) (v : Nat) : Reports s (s.wrW w v) :=
  (s.setWord_reports _ _).trans (State.setWord_reports _ _ _)

theorem State.addCounter_reports (s : State) (w : Wide) (n : Nat) : Reports s (s.addCounter w n) := s.wrW_reports w _

theorem State.emitOut_reports (s : State) (o : Output) : Reports s (s.emitOut o) :=
  ⟨rfl, id, List.prefix_append _ _, fun _ h => h, rfl⟩

theorem State.latchSeal_reports (s : State) (src : Source) : Reports s (s.latchSeal src) := by
  unfold State.latchSeal
  split
  · exact ⟨rfl, id, List.prefix_refl _, fun _ h => List.mem_append_left _ h, rfl⟩
  · exact Reports.refl s

theorem State.sendVector_reports (s : State) (v : Nat) : Reports s (s.sendVector v) := by
  unfold State.sendVector
  split
  · exact s.emitOut_reports _
  · exact s.setFlag_reports _ _

/-- A vector is signalled by a message or its pending bit. -/
theorem State.signalVector_reports (s : State) (v : Nat) : Reports s (s.signalVector v) := by
  unfold State.signalVector
  split
  · exact ((s.setFlag_reports _ _).trans (State.note_reports _ _)).trans (State.sendVector_reports _ _)
  · exact Reports.refl s

theorem State.deliver_reports (s : State) (code : Nat) (inj : Bool) : Reports s (s.deliver code inj).1 :=
  ⟨rfl, id, List.prefix_refl _, fun _ h => h, rfl⟩

theorem State.raiseOne_reports (s : State) (src : Source) : Reports s (s.raiseOne src).1 := by
  have h : Reports s ((((s.setEvent src.real).latchSeal src).signalVector src.block.vector).deliver src.code false).1 :=
    (((s.setEvent_reports _).trans (State.latchSeal_reports _ _)).trans (State.signalVector_reports _ _)).trans
      (State.deliver_reports _ _ _)
  unfold State.raiseOne
  split
  · exact Reports.refl s
  split
  · exact s.setEvent_reports _
  · dsimp only
    split
    · exact h
    · exact h.trans (State.addCounter_reports _ _ _)

theorem State.raiseAll_reports (n : Nat) (s : State) (l : List Source) : Reports s (State.raiseAll n s l) := by
  induction n generalizing s l with
  | zero => exact Reports.refl s
  | succ n ih =>
    cases l with
    | nil => exact Reports.refl s
    | cons src rest => exact (s.raiseOne_reports src).trans (ih _ _)

/-- Raising a source reports, and does nothing else. -/
theorem State.raise_reports (s : State) (src : Source) : Reports s (s.raise src) := State.raiseAll_reports 8 s [src]

/-- Counting reports, and does nothing else. -/
theorem State.bumpBy_reports (s : State) (w : Wide) (n : Nat) : Reports s (s.bumpBy w n) :=
  (s.addCounter_reports w n).trans (State.raiseAll_reports 8 _ _)

theorem State.bump_reports (s : State) (w : Wide) : Reports s (s.bump w) := s.bumpBy_reports w 1

theorem State.emitCode_reports (s : State) (code : Nat) : Reports s (s.emitCode code) := by
  unfold State.emitCode
  dsimp only
  split
  · exact s.deliver_reports _ _
  · exact ((s.deliver_reports _ _).trans (State.bumpBy_reports _ _ _)).trans (State.raise_reports _ _)

/-- An injection reports, and does nothing else. -/
theorem State.inject_reports (s : State) (src : Source) : Reports s (s.inject src) := by
  have h : Reports s (((s.setEvent src.inj).signalVector src.block.vector).deliver src.code true).1 :=
    ((s.setEvent_reports _).trans (State.signalVector_reports _ _)).trans (State.deliver_reports _ _ _)
  unfold State.inject
  split
  · exact Reports.refl s
  · dsimp only
    split
    · exact h
    · exact (h.trans (State.bumpBy_reports _ _ _)).trans (State.raise_reports _ _)

/-- A fold of reporting operations reports. -/
theorem Reports.foldl {β : Type} (f : State → β → State) (h : ∀ s b, Reports s (f s b)) (l : List β) (s : State) :
    Reports s (l.foldl f s) := by
  induction l generalizing s with
  | nil => exact Reports.refl s
  | cons b rest ih => exact (h s b).trans (ih _)

end Sys2Proof.Machine
end

