-- ==== Sys2Proof/Laws/Access.lean ====
section
/-! SUPPORT. What the gates of a write can do: the write itself, or a report, or nothing. -/

namespace Sys2Proof.Machine

/-- A refused write reports in its master's block, and does nothing else. -/
theorem State.reportNonOwner_reports (s : State) (m : Master) : Reports s (s.reportNonOwner m) := by
  unfold State.reportNonOwner
  split <;> first | exact (s.bump_reports _).trans (State.raise_reports _ _) | exact Reports.refl s

theorem State.reportInsecure_reports (s : State) (m : Master) : Reports s (s.reportInsecure m) := by
  unfold State.reportInsecure
  split <;> first | exact (s.bump_reports _).trans (State.raise_reports _ _) | exact s.raise_reports _ | exact Reports.refl s

/-- An allowed write is made. -/
theorem State.gate_ok (s : State) (m : Master) (a : Nat) (act : State → State) (h : s.writeAccess m a = .ok) :
    s.gate m a act = act s := by
  unfold State.gate
  rw [h]

/-- Any other write reports, and does nothing else. -/
theorem State.gate_reports (s : State) (m : Master) (a : Nat) (act : State → State) (h : s.writeAccess m a ≠ .ok) :
    Reports s (s.gate m a act) := by
  unfold State.gate
  split
  next e => exact absurd e h
  · exact Reports.refl s
  · exact s.reportNonOwner_reports m
  · exact s.reportInsecure_reports m

/-- What holds of a refused write and of the write made holds of a gated write. -/
theorem State.gate_induct {P : State → State → Prop} (s : State) (m : Master) (a : Nat) (act : State → State)
    (report : ∀ t, Reports s t → P s t) (made : P s (act s)) : P s (s.gate m a act) := by
  by_cases h : s.writeAccess m a = .ok
  · rw [s.gate_ok m a act h]
    exact made
  · exact report _ (s.gate_reports m a act h)

/-- A write over a tile's link is made while the link is up. -/
theorem State.gateTile_ok (s : State) (m : Master) (t a : Nat) (act : State → State) (h : s.writeAccess m a = .ok)
    (up : s.linkUp t = true) : s.gateTile m t a act = act s := by
  unfold State.gateTile
  rw [s.gate_ok m a _ h]
  simp [up]

/-- A write over a tile's link that is down changes nothing. -/
theorem State.gateTile_down (s : State) (m : Master) (t a : Nat) (act : State → State) (h : s.writeAccess m a = .ok)
    (down : s.linkUp t = false) : s.gateTile m t a act = s := by
  unfold State.gateTile
  rw [s.gate_ok m a _ h]
  simp [down]

theorem State.onMain_up (s : State) (act : State → State) (h : s.power.mainUp = true) : s.onMain act = act s := by
  simp [State.onMain, h]

theorem State.onMain_down (s : State) (act : State → State) (h : s.power.mainUp = false) : s.onMain act = s := by
  simp [State.onMain, h]

theorem State.onVin_up (s : State) (act : State → State) (h : s.power.vin = true) : s.onVin act = act s := by
  simp [State.onVin, h]

theorem State.onVin_down (s : State) (act : State → State) (h : s.power.vin = false) : s.onVin act = s := by
  simp [State.onVin, h]

end Sys2Proof.Machine
end

