-- ==== Sys2Proof/WellFormed.lean ====
section
/-! DEFINITION. Well-formed commands: every operand that is a plain number, list or byte string lies within the width or length
the spec gives it. Operands of a bounded type are well-formed by their type. The machine answers ill-formed commands too; these
checks say which commands the world can send. -/

namespace Sys2Proof

/-- A header's fields within their widths (R225). -/
def KHeader.wf (h : KHeader) : Bool :=
  decide (h.type < 2 ^ 8) && decide (h.length < 2 ^ 16) && decide (h.seq < 2 ^ 32) && decide (h.unit < 2 ^ 8) &&
    decide (h.claim < 2 ^ 16) && decide (h.credit < 2 ^ 16)

/-- Source addresses of a frame: a MAC address and no, one or four words of IP address (R224). -/
def addressesOk (mac : Nat) (ip : List Word) : Bool :=
  decide (mac < 2 ^ 48) && (ip.length == 0 || ip.length == 1 || ip.length == 4)

def EpHello.wf (p : EpHello) : Bool :=
  decide (p.version < 2 ^ 8) && decide (p.nextSeq < 2 ^ 32) && decide (p.epId < 2 ^ 64) && addressesOk p.mac p.ip

def DemandEntry.wf (e : DemandEntry) : Bool :=
  decide (e.dest < 2 ^ 8) && decide (e.cls < 2 ^ 8) && decide (e.colour < 4) && decide (e.count < 2 ^ 16)

/-- The entries present may differ in number from ENTRIES: that is a rule's to judge (R255). -/
def DemandMsg.wf (p : DemandMsg) : Bool :=
  decide (p.frame < 2 ^ 64) && decide (p.active < 2 ^ 16) && decide (p.number < 2 ^ 16) && p.entries.all DemandEntry.wf

def SetupMsg.wf (p : SetupMsg) : Bool :=
  decide (p.id < 2 ^ 16) && decide (p.peer < 2 ^ 8) && [p.inPort, p.outPort, p.revIn, p.revOut].all (fun x => decide (x < 2 ^ 16)) &&
    decide (p.sec < 2 ^ 64) && decide (p.ns < 2 ^ 32)

def ReleaseMsg.wf (p : ReleaseMsg) : Bool :=
  decide (p.id < 2 ^ 16) && decide (p.owner < 2 ^ 8) && decide (p.sec < 2 ^ 64) && decide (p.ns < 2 ^ 32)

def StatusMsg.wf (p : StatusMsg) : Bool := decide (p.code < 2 ^ 8) && decide (p.word < 2 ^ 32)

def Stamp.wf (x : Stamp) : Bool := decide (x.sec < 2 ^ 64) && decide (x.ns < 2 ^ 32)

def EchoMsg.wf (p : EchoMsg) : Bool :=
  decide (p.op < 2 ^ 8) && decide (p.token < 2 ^ 32) && p.t1.wf && p.t2.wf && p.t3.wf

/-- The inner message is at least a header and at most a frame's payload (R225, R240). -/
def RelayMsg.wf (p : RelayMsg) : Bool :=
  decide (p.unit < 2 ^ 8) && decide (p.lane < 2 ^ 8) && decide (p.dir < 2 ^ 8) && p.rx.wf && decide (20 ≤ p.inner.length) &&
    decide (p.inner.length < 2 ^ 16)

def TierHello.wf (p : TierHello) : Bool :=
  decide (p.version < 2 ^ 8) && decide (p.role < 2) && decide (p.unit < 2 ^ 5) && decide (p.sysTag < 2 ^ 32) &&
    decide (p.composeTag < 2 ^ 32) && decide (p.claim < 2 ^ 16) && decide (p.twinState < 2 ^ 8) && decide (p.mode < 2 ^ 8) &&
    decide (p.matchRun < 2 ^ 16) && decide (p.nextSeq < 2 ^ 32) && addressesOk p.mac p.ip

/-- An ACCORD carries bytes 0 to 799 of a record (R297). -/
def AccordMsg.wf (p : AccordMsg) : Bool := decide (p.frame < 2 ^ 64) && decide (p.slot < 64) && p.record.length == 800

def FrameEndMsg.wf (p : FrameEndMsg) : Bool :=
  decide (p.frame < 2 ^ 64) && decide (p.records ≤ 64) &&
    [p.recordsCrc, p.digest, p.stateCrc, p.standSeq].all (fun x => decide (x < 2 ^ 32))

def StandingMsg.wf (p : StandingMsg) : Bool :=
  decide (p.kind < 3) && decide (p.index < 16) && decide (p.frame < 2 ^ 64) && decide (p.slot < 64) &&
    (p.record.length == 800 || p.record.length == 0)

def SwitchMsg.wf (p : SwitchMsg) : Bool :=
  decide (p.op < 2) && decide (p.index < 16) && decide (p.frame < 2 ^ 64) && decide (p.slot < 64) && decide (p.offset < 2 ^ 32)

def ResyncMsg.wf (p : ResyncMsg) : Bool := decide (p.op < 4) && decide (p.cause < 2 ^ 8) && decide (p.frame < 2 ^ 64)

/-- A piece of the checkpoint image has at most 1,024 bytes and lies inside the image (R297). -/
def CheckpointMsg.wf (p : CheckpointMsg) : Bool :=
  decide (p.total < 2 ^ 32) && decide (p.crc < 2 ^ 32) && decide (p.bytes.length ≤ 1024) && decide (p.offset + p.bytes.length ≤ p.total)

/-- Eight codes of REF_TRIM and CONV_TRIM and 512 of the coefficient array (R352, R371). -/
def CalMeasure.wf (r : CalMeasure) : Bool := r.trims.length == 520

def Orphan.wf (o : Orphan) : Bool := decide (o.beats < 2 ^ 8)

/-- A trim loop's sweep has 64 steps (R337). -/
def CharLoop.wf (l : CharLoop) : Bool := l.sweep.length == 0 || l.sweep.length == 64

/-- One calibration per tile, one characterisation per loop, the passport's 256 KiB. -/
def StartEnv.wf (e : StartEnv) : Bool :=
  e.cal.length == 76 && e.cal.all CalMeasure.wf && e.char.loops.length == 4864 && e.char.loops.all CharLoop.wf &&
    e.passport.length == 262144 && e.orphans.all Orphan.wf

/-- A warm start names each tile without a link once. -/
def WarmEnv.wf (e : WarmEnv) : Bool := decide e.links.Nodup && e.orphans.all Orphan.wf

/-- A memory request starts on a DW and carries 1 to 1,024 DWs (R396, R399). -/
def HostReq.wf (r : HostReq) : Bool :=
  r.offset % 4 == 0 && decide (1 ≤ r.dws.length) && decide (r.dws.length ≤ 1024)

/-- A burst that stands has a requestor; a write carries its bytes (R423). -/
def BusReq.wf (r : BusReq) : Bool :=
  decide (1 ≤ r.active) && decide (r.addr + r.len ≤ 2 ^ 64) && (!r.write || r.bytes.length == r.len)

/-- A block holds at most 2,688 samples of one ADC (R107). -/
def SilStream.wf : SilStream → Bool
  | .adc a b => decide (a.length ≤ 2688) && decide (b.length ≤ a.length)
  | .focus _ => true

/-- The well-formed commands. -/
def Instr.wf : Instr → Bool
  | .mainResetRelease env | .coldRstRelease _ env | .startCmdCold _ env => env.wf
  | .warmStart env => env.wf
  | .planeStrobe _ cyc => decide (cyc < 6400)
  | .laneFrameRx _ _ _ bytes => decide (bytes.length < 2 ^ 16)
  | .hello _ h p => h.wf && p.wf
  | .demand _ h p => h.wf && p.wf
  | .setup _ h p => h.wf && p.wf
  | .release _ h p => h.wf && p.wf
  | .status _ h p => h.wf && p.wf
  | .echo _ h p => h.wf && p.wf
  | .relay _ h p => h.wf && p.wf
  | .tierHello _ h p => h.wf && p.wf
  | .accord _ h p => h.wf && p.wf
  | .frameEnd _ h p => h.wf && p.wf
  | .standing _ h p => h.wf && p.wf
  | .switch _ h p => h.wf && p.wf
  | .resync _ h p => h.wf && p.wf
  | .checkpoint _ h p => h.wf && p.wf
  | .calMeasurementEnd _ r | .fullCalDone _ r => r.wf
  | .replanWindowEnd obs => obs.length == 256
  | .sensorConversion readings => readings.length == 80
  | .pmbusInvalidCommand read _ => match read with | some n => decide (n ≤ 255) | none => true
  | .winAddr bytes _ | .winWrite bytes _ => decide (bytes.length ≤ 255)
  | .sbTimeout orphan | .hostSideReset _ orphan | .fuseProgramDone _ _ orphan => orphan.all Orphan.wf
  | .bar0Request _ r | .bar2Request _ r => r.wf
  | .busRequest reqs => reqs.all BusReq.wf && decide ((reqs.map (·.master)).Nodup)
  | .descriptorFetched _ _ bytes => bytes.length == 32 || bytes.length == 0
  | .taskInputActivation _ n => decide (1 ≤ n)
  | .sillageBlockWrite x _ _ _ => x.wf
  | _ => true

end Sys2Proof
end

