-- ==== Sys2Proof/Tests/Slice0.lean ====
section
/-! SUPPORT. Tests. Ill-formed commands are refused by each check of WellFormed; one-step tests whose expected values come from the
spec; and, for every clause of a statement that has hypotheses, a state and operands that meet them together. -/

open Sys2Proof Sys2Proof.Machine

namespace Sys2Proof.Tests

-- Several hundred small kernel evaluations: one at a time, so that they do not each hold a thread of their own.
set_option Elab.async false

/-! ## Small states -/

/-- Fields put into a state's registers, one after another. -/
def put (s : State) (l : List (Field × Nat)) : State := l.foldl (fun s e => s.wr e.1 e.2) s

/-- No power at all. -/
def dark : State := { State.reset with power := { State.reset.power with vin := false } }

/-- The main side out of reset, its rails and the drive rails good, STATE OFF. -/
def up : State := { State.reset with power := ⟨true, true, true, 0xF, true, true, true, none, 0, true⟩ }

/-- The same in the start state `n`. -/
def inState (n : Nat) : State := up.wr F.START_STATUS.STATE n

def serving : State := inState 4

/-- Owners in force, and block 14 (AGEING) owned by the sideband. -/
def owned : State := { serving.wr ⟨0x30010, 28, 2⟩ 1 with ownersLoaded := true }

/-! ## The hypotheses of the statements can be met: the queue, storage, faults -/

theorem witness_canonical_step :
    Registers.wf serving.regs ∧ Memory.wf serving.mem ∧
      step { serving with pending := [.enGlitch] } = .next { serving with pending := [] } :=
  ⟨by decide +kernel, by decide +kernel, rfl⟩
theorem witness_fifo_step : step { serving with pending := [.enGlitch] } = .next { serving with pending := [] } := rfl
theorem witness_fuse_frame :
    exec .enGlitch serving = .next serving ∧ (∀ x y o, Instr.enGlitch ≠ .fuseProgramDone x y o) ∧
      ∀ u, Instr.enGlitch ≠ .alwaysOnPowerUp u := ⟨rfl, fun _ _ _ h => (nomatch h), fun _ h => (nomatch h)⟩
theorem witness_state_frame :
    exec .enGlitch serving = .next serving ∧ reachesAll .enGlitch = false ∧
      storesMemory .enGlitch = false ∧ switchesPower .enGlitch = false ∧
      handlesFuses .enGlitch = false ∧ supervisesHeat .enGlitch = false ∧
      configuresPcie .enGlitch = false ∧ drivesDma .enGlitch = false ∧
      drivesReplan .enGlitch = false := ⟨rfl, by decide⟩
theorem witness_memory_value : 0xFFFF < 256 ^ 2 := by decide
theorem witness_memory_outside : (3 < 4 ∨ 4 + [1, 2].length ≤ 3) := by decide
theorem witness_field_put : F.DECODE_ADDR.addr % 4 = 0 ∧ 31 + 1 ≤ 32 ∧ 1 < 2 ^ 1 := by decide
theorem witness_field_same : (F.POCK_STAT.SEL_SET 0 0).lsb + (F.POCK_STAT.SEL_SET 0 0).width ≤ 32 ∧ 3 < 2 ^ (F.POCK_STAT.SEL_SET 0 0).width := by
  decide
theorem witness_field_other :
    (F.DRV_ENABLE.POCK_EN 0).lsb + (F.DRV_ENABLE.POCK_EN 0).width ≤ (F.DRV_ENABLE.HTR_EN 0).lsb ∧
      (F.DRV_ENABLE.HTR_EN 0).lsb + (F.DRV_ENABLE.HTR_EN 0).width ≤ 32 := by decide
/-- A counter one below all ones. -/
def nearTop : State := serving.wrW F.EN_CYCLES (counterMax - 1)
theorem witness_counter_reaches :
    F.EN_CYCLES.width = 48 ∧ nearTop.rdW F.EN_CYCLES < counterMax ∧ counterMax ≤ nearTop.rdW F.EN_CYCLES + 1 := by
  decide +kernel
theorem witness_counter_stays :
    F.EN_CYCLES.width = 48 ∧ (serving.wrW F.EN_CYCLES counterMax).rdW F.EN_CYCLES = counterMax := by decide +kernel
theorem witness_newer_wrap : 0 < 2 ^ 32 ∧ 2 ^ 32 - 1 < 2 ^ 32 ∧ newer 0 (2 ^ 32 - 1) = true ∧ newer (2 ^ 32 - 1) 0 = false := by decide
theorem witness_newer_half : newer (5 + 2 ^ 31) 5 = false ∧ newer 5 (5 + 2 ^ 31) = false ∧ 5 + 2 ^ 31 < 2 ^ 32 := by decide
theorem witness_frame_numbers : serving.frameNs ≠ 0 ∧ 0 < 1 := by decide +kernel
theorem witness_raise :
    FB.START ∈ FB.all ∧ Src.START.PARKED ∈ FB.START.all ∧ serving.srcPowered Src.START.PARKED = true := by decide +kernel
/-- A SEAL source enabled, its class SEAL. -/
def sealing : State := put serving [(Src.TIME.TIME_REFUSED.en, 1), (Src.TIME.TIME_REFUSED.sev, 3)]
theorem witness_raise_seal :
    FB.TIME ∈ FB.all ∧ Src.TIME.TIME_REFUSED ∈ FB.TIME.all ∧ sealing.srcPowered Src.TIME.TIME_REFUSED = true ∧
      sealing.flag Src.TIME.TIME_REFUSED.real = false ∧ sealing.flag Src.TIME.TIME_REFUSED.en = true ∧
      sealing.severity Src.TIME.TIME_REFUSED = 3 := by decide +kernel
theorem witness_fault_pin : serving.power.vin = true := by decide
theorem witness_source_power : FB.HOSTIF ∈ FB.all ∧ Src.HOSTIF.SEM_FORCED ∈ FB.HOSTIF.all := by decide +kernel
theorem witness_en_write : serving.writeAccess .m3 ((faultBlockAt 0).real + 8) = .ok := by decide +kernel
theorem witness_sev_write : serving.writeAccess .m3 ((faultBlockAt 189).real + 12) = .ok := by decide +kernel
theorem witness_inject_write :
    serving.writeAccess .m3 ((faultBlockAt 7).real + 16) = .ok ∧ serving.powered (faultBlockAt 7) = true ∧
      serving.flag F.MORTAR_STATUS.SUSPENDED = false ∧ (faultBlockAt 7).all ≠ [] := by decide +kernel

/-- FX_CRC written changes no FX field. -/
theorem fxCrc_setWord (s : State) (w : Word) : (s.setWord F.FX_CRC.CRC.addr w).fxCrc = s.fxCrc := by
  have h : accMask F.FX_CRC.CRC.addr [.fx] = 0 := by decide +kernel
  have e : ∀ a, (s.setWord F.FX_CRC.CRC.addr w).word a &&& accMask a [.fx] = s.word a &&& accMask a [.fx] := by
    intro a
    by_cases ha : a = F.FX_CRC.CRC.addr
    · subst ha
      simp [h]
    · rw [State.word_setWord_other _ _ _ _ ha]
  simp only [State.fxCrc, e]
/-- The FX fields as they were loaded, and changed since. -/
def fxSound : State := serving.setWord F.FX_CRC.CRC.addr serving.fxCrc
def fxChanged : State := serving.setWord F.FX_CRC.CRC.addr (serving.fxCrc + 1)
theorem fx_word (w : Word) : (serving.setWord F.FX_CRC.CRC.addr w).rd F.FX_CRC.CRC = w.toNat := by
  simp [State.rd, bitsOf, F.FX_CRC.CRC, Nat.mod_eq_of_lt w.isLt]
theorem fx_latched (w : Word) : (serving.setWord F.FX_CRC.CRC.addr w).fxLatched = true := by
  have h : serving.start = 4 := by decide +kernel
  have e : (serving.setWord F.FX_CRC.CRC.addr w).start = serving.start := by
    simp only [State.start, State.rd]
    rw [State.word_setWord_other _ _ _ _ (by decide)]
  simp [State.fxLatched, e, h]
theorem witness_fx_sound :
    fxSound.power.mainUp = true ∧ fxSound.fxLatched = true ∧ fxSound.fxCrc.toNat = fxSound.rd F.FX_CRC.CRC ∧
      fxSound.rdW F.INTEGRITY_CHECKS + 1 < counterMax := by
  refine ⟨by decide, fx_latched _, ?_, ?_⟩
  · rw [fxSound, fxCrc_setWord, fx_word]
  · have h : serving.rdW F.INTEGRITY_CHECKS + 1 < counterMax := by decide +kernel
    simpa [fxSound, State.rdW, State.word_setWord_other, F.INTEGRITY_CHECKS, F.FX_CRC.CRC] using h
theorem witness_fx_changed :
    fxChanged.power.mainUp = true ∧ fxChanged.fxLatched = true ∧ fxChanged.power.vin = true ∧ fxChanged.fxCrc.toNat ≠ fxChanged.rd F.FX_CRC.CRC := by
  refine ⟨by decide, fx_latched _, by decide, ?_⟩
  rw [fxChanged, fxCrc_setWord, fx_word]
  bv_omega

/-! ## Supplies, time, Mortar -/

theorem witness_power_up : dark.power.vin = false := by decide
/-- EN low since the state was reset, 600 ms and 1 ms ago. -/
def lowLong : State := { State.reset with power := ⟨true, false, false, 0, false, false, true, some 0, 0, true⟩, clock := 600000000 }
def lowShort : State := { lowLong with clock := 1000000 }
theorem witness_en_rise :
    lowLong.power.en = false ∧ lowLong.power.vin = true ∧ lowLong.rdW F.EN_CYCLES < counterMax ∧
      lowLong.power.lowSince = some 0 ∧ 0 + 500000000 ≤ lowLong.clock := by decide +kernel
theorem witness_en_rise_short :
    lowShort.power.en = false ∧ lowShort.power.vin = true ∧
      lowShort.power.lowSince = some 0 ∧ lowShort.clock < 0 + 500000000 := by decide +kernel
theorem witness_en_rise_dark :
    ({ dark with power := { dark.power with en := false } } : State).power.en = false ∧ dark.power.vin = false := by decide
theorem witness_supply_stands : up.power.vin = true ∧ up.power.en = true ∧ lowLong.power.en = false := by decide
theorem witness_en_fall :
    Registers.wf up.regs ∧ Memory.wf up.mem ∧ up.power.en = true ∧ up.power.vin = true := by decide +kernel
theorem witness_pgood : up.power.rails = true ∧ up.power.drive = 0xF := by decide
theorem witness_pgood_not : lowLong.power.rails = false ∧ ({ up with power := { up.power with drive := 7 } } : State).power.drive ≠ 0xF := by
  decide
theorem witness_rail_fault : up.power.rails = true ∧ up.power.vin = true := by decide
/-- A latch that stands. -/
def latched : State := { lowLong with seals := [(Src.START.PARKED.block.real, 0)] }
theorem witness_seal_cleared :
    latched.seals ≠ [] ∧ latched.power.en = false ∧ latched.rdW F.EN_CYCLES + 1 < counterMax ∧
      latched.power.lowSince = some 0 ∧ 0 + 500000000 ≤ latched.clock ∧ latched.power.mainUp = false ∧
      latched.semForced = false ∧ 0 + 500000000 ≤ ({ latched with clock := 499999996 } : State).clock + 4 ∧
      ({ latched with clock := 499999995 } : State).clock + 4 < 0 + 500000000 := by decide +kernel
theorem witness_seal_kept : exec .enGlitch latched = .next latched := rfl
theorem witness_time_inc_lo : serving.writeAccess .m3 F.TIME_INC_LO.INC.addr = .ok := by decide +kernel
theorem witness_time_inc_hi :
    serving.writeAccess .m3 F.TIME_INC_HI.INC.addr = .ok ∧ serving.power.vin = true ∧ serving.power.mainUp = true := by
  decide +kernel
theorem witness_adj_ns : serving.writeAccess .m3 F.ADJ_NS.ADJ.addr = .ok := by decide +kernel
theorem witness_refclk : serving.power.mainUp = true ∧ serving.power.vin = true := by decide
theorem witness_pps_edge :
    serving.power.mainUp = true ∧ serving.time.ns < 10 ^ 9 ∧ serving.time.sec + 1 < 2 ^ 64 ∧ serving.time.frac < 2 ^ 40 ∧
      serving.time.lastPps = none := by
  decide
/-- A PPS edge 1 ms ago. -/
def ppsSeen : State := { serving with time := { serving.time with lastPps := some 0 }, clock := 1000000 }
theorem witness_pps_near :
    ppsSeen.power.mainUp = true ∧ ppsSeen.time.lastPps = some 0 ∧ ppsSeen.clock - 0 < ppsGap := by decide +kernel
theorem witness_pps_far : ∀ c, ({ ppsSeen with clock := 600000000 } : State).time.lastPps = some c → ppsGap ≤ 600000000 - c := by
  intro c h
  cases h
  decide
def ppsOn : State := put serving [(F.PPS_CFG.IN_EN, 1), (F.PPS_CFG.OUT_EN, 1)]
theorem witness_pps_miss :
    ppsOn.power.mainUp = true ∧ ppsOn.power.vin = true ∧ ppsOn.flag F.PPS_CFG.IN_EN = true ∧ ppsOn.ppsLate = true ∧
      ({ ppsSeen with clock := 1100000000 } : State).ppsLate = true ∧ ({ ppsSeen with clock := 1099999999 } : State).ppsLate = false := by
  decide +kernel
theorem witness_pps_out_rise :
    ppsOn.power.mainUp = true ∧ ppsOn.flag F.PPS_CFG.OUT_EN = true ∧ ppsOn.time.ppsOut = false ∧ ppsOn.ppsPasses = true := by
  decide +kernel
/-- PPS_OUT high for 100 ms, its width as it stands after reset. -/
def ppsHigh : State := { ppsOn with time := { ppsOn.time with ppsOut := true, ppsRose := 0 }, clock := 100000000 }
theorem witness_pps_out_fall :
    ppsHigh.time.ppsOut = true ∧ ppsHigh.power.mainUp = true ∧
      ppsHigh.time.ppsRose + 1000 * ppsHigh.rd F.PPS_OUT_WIDTH.WIDTH ≤ ppsHigh.clock := by decide +kernel
/-- TPULSE 3 in ONESHOT at 10 µs for 8 ns; and set up with a width the rules refuse. -/
def pulsing : State := (put serving [(F.TP_CFG.MODE 3, 1), (F.TP_START_NS.NS 3, 10000), (F.TP_WIDTH.NS 3, 8)])
def pulsingBad : State := pulsing.wr (F.TP_WIDTH.NS 3) 6
theorem witness_tpulse_arm :
    pulsing.writeAccess .m3 (F.TP_CTRL.ARM 3).addr = .ok ∧ pulsing.tpStartOk 3 = true ∧ pulsing.tpWidthOk 3 = true := by
  decide +kernel
theorem witness_tpulse_arm_refused :
    pulsingBad.writeAccess .m3 (F.TP_CTRL.ARM 3).addr = .ok ∧ pulsingBad.tpWidthOk 3 = false ∧ pulsingBad.power.vin = true ∧
      pulsingBad.power.mainUp = true := by decide +kernel
theorem witness_tpulse_disarm : pulsing.writeAccess .m3 (F.TP_CTRL.ARM 3).addr = .ok := by decide +kernel
def pulseDue : State := { (pulsing.setFlag (F.TP_CTRL.ARMED 3) true) with time := { pulsing.time with ns := 10004 } }
theorem witness_tpulse_fire :
    pulseDue.power.mainUp = true ∧ pulseDue.tpDue 3 = some 10000 ∧ pulseDue.flag (F.TP_CTRL.ARMED 3) = true ∧
      (pulseDue.tp 3).last < 10000 := by decide +kernel
theorem witness_tpulse_end :
    ({ pulseDue.setTp 3 ⟨10000, true, true, 0⟩ with clock := 8 } : State).power.mainUp = true ∧
      ((pulseDue.setTp 3 ⟨10000, true, true, 0⟩).tp 3).active = true ∧
      ((pulseDue.setTp 3 ⟨10000, true, true, 0⟩).tp 3).at_ + (pulseDue.setTp 3 ⟨10000, true, true, 0⟩).rd (F.TP_WIDTH.NS 3) ≤ 8 := by
  decide +kernel
theorem witness_producer_source :
    serving.producerAlive Src.START.PARKED.code = true ∧ sourceOfCode Src.START.PARKED.code = some Src.START.PARKED ∧
      serving.srcPowered Src.START.PARKED = true ∧ Src.START.PARKED.code < 4096 := by decide +kernel
theorem witness_producer_plain :
    serving.producerAlive 3 = true ∧ sourceOfCode 3 = none ∧ plainProducer 3 = true ∧ serving.power.mainUp = true ∧
      serving.flag F.MORTAR_STATUS.SUSPENDED = false := by decide +kernel
theorem witness_evt_in :
    serving.power.vin = true ∧ serving.power.mainUp = true ∧ serving.flag F.MORTAR_STATUS.SUSPENDED = false := by
  decide +kernel
/-- Two events on their way to task input 0x81, one to EVT_OUT 2; and EVT_OUT 2 activated a moment ago. -/
def coming : State := { serving with mortar := { serving.mortar with inFlight := [0x81, 2, 0x81] } }
def rearming : State := { coming with mortar := { coming.mortar with lastAct := [(2, 0)] } }
theorem witness_activation :
    inputOk 0x81 = true ∧ 0x81 ∈ coming.mortar.inFlight ∧ coming.power.mainUp = true ∧ coming.inputBusy 0x81 = false := by
  decide +kernel
theorem witness_evt_out : 2 ∈ coming.mortar.inFlight ∧ coming.inputBusy 2 = false := by decide +kernel
theorem witness_activation_merged :
    2 ≤ (coming.mortar.inFlight.filter fun x => x == 0x81).length ∧ inputOk 0x81 = true ∧ coming.power.vin = true ∧
      coming.power.mainUp = true ∧ coming.inputBusy 0x81 = false ∧ 0x80 ≤ 0x81 := by decide +kernel
theorem witness_activation_busy :
    2 ∈ rearming.mortar.inFlight ∧ inputOk 2 = true ∧ rearming.power.vin = true ∧ rearming.power.mainUp = true ∧
      rearming.inputBusy 2 = true := by decide +kernel
theorem witness_evt_out_end :
    ({ serving with mortar := { serving.mortar with evtOut := 4 } } : State).mortar.evtOut.getLsbD 2 = true := by decide
theorem witness_mortar_write :
    serving.writeAccess .m3 (mortarAddr (.channel 5)) = .ok ∧ (rowsAt (mortarAddr (.channel 5))).isEmpty = false ∧
      serving.mortar.cfg = none ∧ serving.fxDiffers (mortarAddr (.channel 5)) 0x01002003 = false ∧
      mortarCodeOk (mortarAddr (.channel 5)) (mortarNew (mortarAddr (.channel 5)) (serving.word (mortarAddr (.channel 5))) 0x01002003 false) = true ∧
      serving.graphOk (mortarAddr (.channel 5)) (mortarNew (mortarAddr (.channel 5)) (serving.word (mortarAddr (.channel 5))) 0x01002003 false) = true := by
  decide +kernel
theorem witness_mortar_refused :
    ({ serving with mortar := { serving.mortar with cfg := some (0x71000, 0, 0) } } : State).mortar.cfg.isSome = true ∧
      serving.writeAccess .m3 (mortarAddr (.input 7)) = .ok ∧ (rowsAt (mortarAddr (.input 7))).isEmpty = false := by
  decide +kernel

/-! ## Host and sideband -/

theorem witness_sem_free :
    serving.writeAccess .m3 (F.SEM.HOLDER 14).addr = .ok ∧ serving.rd (F.SEM.HOLDER 14) = 0 := by decide +kernel
def semHeld : State := serving.wr (F.SEM.HOLDER 14) 1
/-- Taken by the sideband in this cycle, and forced from the host in this cycle. -/
def semTwice : State := (serving.wr (F.SEM.HOLDER 14) 2).note (F.SEM.TAKE 14).key
def semPulled : State := serving.note (forceKey 14 1)
theorem witness_sem_cycle :
    semTwice.writeAccess .m3 (F.SEM.HOLDER 14).addr = .ok ∧ semTwice.noted (F.SEM.TAKE 14).key = true ∧
      serving.writeAccess .m4 (F.SEM.HOLDER 14).addr = .ok ∧ semPulled.writeAccess .m3 (F.SEM.HOLDER 14).addr = .ok ∧
      semPulled.rd (F.SEM.HOLDER 14) ≠ holderCode .m3 ∧ semPulled.noted (forceKey 14 (holderCode .m3)) = true ∧
      serving.noted (forceKey 14 (holderCode .m4)) = false := by decide +kernel
theorem witness_sem_held :
    semHeld.writeAccess .m3 (F.SEM.HOLDER 14).addr = .ok ∧ semHeld.rd (F.SEM.HOLDER 14) = holderCode .m3 ∧
      semHeld.rd (F.SEM.HOLDER 14) ≠ 0 := by decide +kernel
theorem witness_sem_force :
    semHeld.writeAccess .m4 (F.SEM.HOLDER 14).addr = .ok ∧ semHeld.power.vin = true ∧ semHeld.rd (F.SEM.HOLDER 14) ≠ 0 ∧
      semHeld.rd (F.SEM.HOLDER 14) ≠ holderCode .m4 ∧ semHeld.rd (F.SEM.HOLDER 14) ≠ 3 := by decide +kernel
theorem witness_sem_nothing :
    semHeld.rd (F.SEM.HOLDER 14) ≠ 0 ∧ semHeld.rd (F.SEM.HOLDER 14) ≠ holderCode .m4 ∧
      semHeld.rd (F.SEM.HOLDER 14) = holderCode .m3 ∧ semHeld.writeAccess .m4 (F.SEM.HOLDER 14).addr = .ok ∧
      serving.rd (F.SEM.HOLDER 14) = 0 ∧ semHeld.noted (F.SEM.TAKE 14).key = false ∧
      semHeld.noted (forceKey 14 (holderCode .m4)) = false := by decide +kernel
theorem witness_fuse_arm :
    serving.writeAccess .m3 F.FUSE_CMD.ARM.addr = .ok ∧ serving.fuseBarred .m3 1 = false := by decide +kernel
theorem witness_fuse_arm_refused :
    serving.writeAccess .m4 F.FUSE_CMD.ARM.addr = .ok ∧ serving.power.vin = true ∧ serving.fuseBarred .m4 1 = true := by
  decide +kernel
/-- SIGN_REQUIRED armed, and the device's response held. -/
def armed : State :=
  { serving.wrW F.FUSE_RESPONSE Config.fuseChallenge.toNat with fuses := { serving.fuses with arm := some 1 } }
theorem ofNat_lo (v : Nat) : (BitVec.ofNat 32 (v % 2 ^ 32)).toNat + 2 ^ 32 * ((BitVec.ofNat 32 (v / 2 ^ 32 % 2 ^ 32)).toNat % 2 ^ 32) =
    v % 2 ^ 64 := by
  simp only [BitVec.toNat_ofNat]
  omega
theorem armed_response : armed.rdW F.FUSE_RESPONSE = Config.fuseChallenge.toNat := by
  have h : armed.rdW F.FUSE_RESPONSE = Config.fuseChallenge.toNat % 2 ^ 64 := by
    show (serving.wrW F.FUSE_RESPONSE Config.fuseChallenge.toNat).rdW F.FUSE_RESPONSE = _
    rw [State.rdW, State.wrW, State.word_setWord_other _ _ _ _ (by decide), State.word_setWord_same, State.word_setWord_same]
    exact ofNat_lo _
  rw [h]
  exact Nat.mod_eq_of_lt Config.fuseChallenge.isLt
theorem armed_word (a : Nat) (h : a ≠ F.FUSE_RESPONSE.addr) (h4 : a ≠ F.FUSE_RESPONSE.addr + 4) : armed.word a = serving.word a :=
  State.word_wrW_other _ _ _ _ h h4
theorem witness_fuse_commit :
    armed.fuses.arm = some 1 ∧ armed.rdW F.FUSE_RESPONSE = Config.fuseChallenge.toNat ∧
      armed.writeAccess .m3 F.FUSE_CMD.COMMIT.addr = .ok ∧ armed.fuseBarred .m3 1 = false := by
  have hs : armed.start = serving.start := by
    simp only [State.start, State.rd]
    rw [armed_word _ (by decide) (by decide)]
  have h4 : serving.start = 4 := by decide +kernel
  refine ⟨rfl, armed_response, ?_, ?_⟩
  · have hx : F.FUSE_CMD.COMMIT.addr = 0x30200 := rfl
    simp only [hx, State.writeAccess, State.reachable, hs, h4, State.secureWord]
    decide
  · simp only [State.fuseBarred, hs, h4]
    decide
theorem witness_fuse_done :
    ({ serving with fuses := { serving.fuses with busy := some 1 } } : State).fuses.busy = some 1 ∧ serving.power.vin = true := by
  decide
theorem witness_fuse_sense : serving.power.vin = true ∧ (1 : BitVec 3) ≠ serving.fuses.sensed ∧ (0 : BitVec 3) = serving.fuses.sensed := by decide
/-- The function as a host has set it: memory space, bus master, MSI-X on and not masked. -/
def hostCfg : PcieCfg := ⟨true, true, true, false, 0, 2, true, true, false, 0, 0, 0⟩
/-- Vector 1 with a source that qualifies, its messages free to leave. -/
def signalling : State :=
  { put serving [(Src.START.PARKED.real, 1), (F.MSIX_ENTRY.MASK 1, 0)] with
    pcie := { serving.pcie with cfg := hostCfg } }
theorem witness_rearm :
    signalling.writeAccess .m3 (F.VEC_REARM.REARM 0).addr = .ok ∧ signalling.power.mainUp = true ∧
      (2#32).getLsbD 1 = true ∧ signalling.vectorQualifies 1 = true ∧ signalling.msixOpen 1 = true ∧
      signalling.noted (vecArmed 1).key = false := by decide +kernel
/-- Vector 1 signalled in this cycle. -/
def signalled : State := (signalling.setFlag (vecArmed 1) false).note (vecArmed 1).key
theorem witness_rearm_cycle :
    signalled.writeAccess .m3 (F.VEC_REARM.REARM 0).addr = .ok ∧ signalled.power.mainUp = true ∧
      signalled.noted (vecArmed 1).key = true := by decide +kernel
theorem witness_rearm_closed :
    (put serving [(Src.START.PARKED.real, 1)]).vectorQualifies 1 = true ∧
      (put serving [(Src.START.PARKED.real, 1)]).msixOpen 1 = false ∧ serving.vectorQualifies 1 = false := by decide +kernel
/-- Channel 3 started by M3, its descriptor on its way. -/
def dmaRunning : State := { serving.wr (F.CH_STATUS.STARTED_BY 3) 3 with dma := [(3, ⟨none, 0, 0⟩)] }
theorem witness_host_reset : dmaRunning.power.mainUp = true ∧ dmaRunning.power.vin = true ∧ dmaRunning.dma ≠ [] ∧
      (∀ e ∈ dmaRunning.dma, e.1 < 16 ∧ dmaRunning.dmaMaster e.1 = .m3) := by decide +kernel
theorem witness_smbus_read :
    serving.power.vin = true ∧ serving.rdW F.TRANSACTIONS + 1 < counterMax ∧ dark.power.vin = false := by decide +kernel
theorem witness_clear_faults_pec :
    Pec.none ≠ .bad ∧ serving.flag F.SB_CFG.PMBUS_PEC_REQ = false ∧
      (serving.setFlag F.SB_CFG.PMBUS_PEC_REQ true).flag F.SB_CFG.PMBUS_PEC_REQ = true := by decide +kernel
theorem witness_no_alert : serving.alertPin = false := by decide +kernel
theorem witness_alert : ({ serving with sb := { serving.sb with off := true } } : State).alertPin = true := by decide +kernel
theorem witness_win_addr :
    leNat [0x04, 0x00, 0x01, 0x00] % 4 = 0 ∧ leNat [0x04, 0x00, 0x01, 0x00] < 0x04000000 ∧
      ([0x04, 0x00, 0x01, 0x00] : List Byte).length = 4 := by decide
theorem witness_win_addr_bad : leNat [0, 0, 0, 4] % 4 = 0 ∧ 0x04000000 ≤ leNat [0, 0, 0, 4] ∧
      ([0, 0, 4] : List Byte).length ≠ 4 := by decide
theorem witness_win_count : (8 : Byte) ≠ 0 ∧ (8 : Byte).toNat ≤ 8 ∧ 8 < (9 : Byte).toNat := by decide
/-- The window at SB_CFG. -/
def window : State := put serving [(F.WIN_STATE.ADDR, 0x40000), (F.WIN_STATE.COUNT, 2)]
theorem witness_win_write :
    window.power.vin = true ∧ (window.bump F.TRANSACTIONS).rd F.WIN_STATE.ADDR + 4 ≤ 0x04000000 ∧
      (window.bump F.TRANSACTIONS).writeAccess .m4 ((window.bump F.TRANSACTIONS).rd F.WIN_STATE.ADDR) = .ok ∧
      (window.bump F.TRANSACTIONS).linkMissing .m4 ((window.bump F.TRANSACTIONS).rd F.WIN_STATE.ADDR) = false ∧
      (window.bump F.TRANSACTIONS).fxDiffers ((window.bump F.TRANSACTIONS).rd F.WIN_STATE.ADDR) (BitVec.ofNat 32 (leNat [0, 0, 0, 0])) =
        false := by decide +kernel
theorem witness_win_read :
    window.power.vin = true ∧ window.rd F.WIN_STATE.ADDR + 4 * window.rd F.WIN_STATE.COUNT ≤ 0x04000000 := by decide +kernel
/-- The window two words before BAR0's end, for eight words. -/
def windowEnd : State := put serving [(F.WIN_STATE.ADDR, 0x3FFFFF8), (F.WIN_STATE.COUNT, 8)]
theorem witness_win_outside :
    windowEnd.power.vin = true ∧ 0x04000000 < windowEnd.rd F.WIN_STATE.ADDR + 4 * windowEnd.rd F.WIN_STATE.COUNT ∧
      0x04000000 < windowEnd.rd F.WIN_STATE.ADDR + 4 * (12 / 4) := by decide +kernel
theorem witness_win_length :
    ([] : List Byte).length % 4 = 0 ∧ (List.replicate 36 (0 : Byte)).length % 4 = 0 ∧ 32 < (List.replicate 36 (0 : Byte)).length ∧
      ([1, 2, 3] : List Byte).length % 4 ≠ 0 := by decide
theorem witness_win_pec : serving.power.vin = true ∧ Pec.none ≠ .good := by
  decide +kernel
theorem witness_bar0 :
    serving.power.mainUp = true ∧ serving.power.vin = true ∧ hostCfg.memSpace = true ∧
      serving.pcie.d3hot = false ∧ 0x10004 % 4 = 0 ∧ 0x10004 + 4 ≤ 0x04000000 ∧ (3 : BitVec 4) ≠ 15 := by decide
theorem witness_bar0_qw : 0x10008 % 8 = 0 ∧ 0x10008 + 8 ≤ 0x04000000 ∧ 0x10008 < 0x38000 ∧ 0x39020 ≤ 0x39020 ∧ 0x39020 % 8 = 0 := by
  decide
theorem witness_aer : serving.pcie.aer = 0 ∧ serving.power.mainUp = true := by decide
theorem witness_bar2_write : 0x10 % 4 = 0 ∧ 0x10 + 4 ≤ 0x02780000 ∧ serving.pcie.d3hot = false := by decide
theorem witness_bar2_restricted : 0x02780000 % 4 = 0 ∧ 0x02780000 ≤ 0x02780000 ∧ 0x02780000 + 4 ≤ 0x02800000 := by decide
theorem witness_bar2_read : 0x027A5FFC % 4 = 0 ∧ 0x027A5FFC + 4 * 1 ≤ 0x027A6000 := by decide

/-! ## Bus matrix, DMA, register accesses -/

/-- A four-byte request of M0 to capture memory. -/
def capReq (write : Bool) : BusReq := ⟨.m0, 1, write, 0x30000040, 4, [1, 2, 3, 4], false⟩
theorem witness_arbitration : 0 < 8 ∧ 0 < weightOf [capReq false] 0 := by decide +kernel
theorem witness_burst_read :
    serving.power.mainUp = true ∧ serving.reqTarget (capReq false) = some 5 ∧
      0 < weightOf [capReq false] (masterIndex (capReq false).master) ∧ (capReq false).fails = false ∧
      (capReq false).write = false ∧ (capReq false).addr + (capReq false).len ≤ 0x32000000 := by decide +kernel
theorem witness_burst_write :
    serving.reqTarget (capReq true) = some 5 ∧ 0 < weightOf [capReq true] (masterIndex (capReq true).master) ∧
      (capReq true).fails = false ∧ (capReq true).write = true ∧ (capReq true).bytes.length = (capReq true).len := by
  decide +kernel
/-- The end of the capture memory. -/
def capLast : BusReq := { capReq true with addr := 0x31FFFFFC }
theorem witness_burst_last : serving.reqTarget capLast = some 5 ∧ capLast.addr + capLast.len ≤ 0x32000000 := by decide +kernel
/-- A write to host memory, and a burst whose target fails. -/
def hostReq : BusReq := ⟨.m2, 1, true, 2 ^ 63 + 0x1000, 2, [5, 6], false⟩
theorem witness_burst_host :
    serving.reqTarget hostReq = some 6 ∧ 0 < weightOf [hostReq] (masterIndex hostReq.master) ∧ hostReq.fails = false ∧
      hostReq.write = true ∧ hostReq.bytes.length = hostReq.len := by decide +kernel
theorem witness_burst_fails :
    serving.reqTarget { capReq false with fails := true } = some 5 ∧ ({ capReq false with fails := true } : BusReq).fails = true ∧
      0 < weightOf [{ capReq false with fails := true }] (masterIndex .m0) := by decide +kernel
def nowhere : BusReq := { capReq true with addr := 0x40000000 }
theorem witness_decode_error :
    serving.power.mainUp = true ∧ serving.power.vin = true ∧ serving.reqTarget nowhere = none ∧ nowhere.addr < 2 ^ 64 := by
  decide +kernel
theorem witness_remap : serving.power.mainUp = true ∧ Master.m0 = Master.m0 := by decide
theorem witness_remap_refused :
    Master.m3 ≠ .m0 ∧ Master.m3 ≠ .m1 ∧ serving.power.mainUp = true ∧ serving.power.vin = true ∧
      serving.writeAccess .m3 F.FABRIC_CFG.REMAP.addr = .ok := by decide +kernel
/-- Channel 2 running with its descriptor in working SRAM on its way. -/
def fetching : State :=
  { put (serving.wrW (F.CH_CUR_DESC 2) 0x10000000) [(F.CH_STATUS.STATE 2, 1)] with dma := [(2, ⟨none, 0, 0⟩)] }
theorem witness_dma_start :
    serving.writeAccess .m3 (F.CH_CTRL.START 2).addr = .ok ∧ serving.rd (F.CH_STATUS.STATE 2) = 0 := by decide +kernel
theorem witness_dma_start_refused :
    fetching.writeAccess .m3 (F.CH_CTRL.START 2).addr = .ok ∧ fetching.rd (F.CH_STATUS.STATE 2) ≠ 0 ∧
      fetching.power.vin = true ∧ fetching.power.mainUp = true := by decide +kernel
theorem witness_dma_abort_waits :
    fetching.writeAccess .m3 (F.CH_CTRL.START 2).addr = .ok ∧ fetching.chan 2 = some ⟨none, 0, 0⟩ ∧
      fetching.rd (F.CH_STATUS.STATE 2) = 1 ∧ (⟨none, 0, 0⟩ : DmaChan).waits = true := by decide +kernel
/-- Channel 2 completed; and ABORTING. -/
def completed : State := serving.wr (F.CH_STATUS.RESULT 2) 1
def aborting : State := fetching.wr (F.CH_STATUS.STATE 2) 2
theorem witness_dma_abort_nothing :
    completed.writeAccess .m3 (F.CH_CTRL.START 2).addr = .ok ∧ completed.chan 2 = none ∧ completed.rd (F.CH_STATUS.RESULT 2) = 1 ∧
      aborting.writeAccess .m3 (F.CH_CTRL.START 2).addr = .ok ∧ aborting.chan 2 = some ⟨none, 0, 0⟩ ∧
      aborting.rd (F.CH_STATUS.STATE 2) = 2 ∧ fetching.fetchesHost 2 = false ∧ serving.chan 2 = none := by decide +kernel
/-- Eight bytes from capture memory to working SRAM, the last of its chain. -/
def copying : Descr := ⟨0x30000000, 0x10000010, 8, true, false, false, false, 0⟩
def moving : State := { fetching.setMemBytes 0 [1, 2, 3, 4, 5, 6, 7, 8] with dma := [(2, ⟨some copying, 0, 0⟩)] }
theorem witness_dma_abort_ends : moving.chan 2 = some ⟨some copying, 0, 0⟩ ∧ (⟨some copying, 0, 0⟩ : DmaChan).waits = false := by
  decide +kernel
/-- The descriptor's 32 bytes, and 32 that no check passes. -/
def copyBytes : List Byte :=
  [0, 0, 0, 0x30, 0, 0, 0, 0, 0x10, 0, 0, 0x10, 0, 0, 0, 0, 8, 0, 0, 0, 1, 0, 0, 0, 0, 0, 0, 0, 0, 0, 0, 0]
def fetchedOk : State := fetching.setMemBytes 0x02000000 copyBytes
theorem witness_dma_fetched :
    fetchedOk.chan 2 = some ⟨none, 0, 0⟩ ∧ fetchedOk.rd (F.CH_STATUS.STATE 2) = 1 ∧
      fetchedOk.fetched 2 false [] = some copyBytes ∧ descrOk copyBytes = true ∧ descrOf copyBytes = copying := by
  decide +kernel
theorem witness_dma_fetched_bad :
    fetching.chan 2 = some ⟨none, 0, 0⟩ ∧ fetching.fetched 2 false [] = some (List.replicate 32 0) ∧
      descrOk (List.replicate 32 0) = false ∧ fetching.power.vin = true := by decide +kernel
def fetchingHost : State := fetching.wrW (F.CH_CUR_DESC 2) (2 ^ 63)
theorem witness_dma_timeout :
    fetchingHost.chan 2 = some ⟨none, 0, 0⟩ ∧ fetchingHost.rd (F.CH_STATUS.STATE 2) = 1 ∧
      fetchingHost.fetchesHost 2 = true := by decide +kernel
theorem witness_dma_copy :
    moving.power.mainUp = true ∧ moving.rd (F.CH_STATUS.STATE 2) = 1 ∧ 0 < copying.len ∧ copying.last = true ∧
      copying.srcFixed = false ∧ copying.dstFixed = false ∧ targetOf copying.src = some 5 ∧ targetOf copying.dst = some 1 ∧
      staysIn copying.src copying.len = true ∧ staysIn copying.dst copying.len = true ∧ dstBarred copying = false := by
  decide +kernel
theorem witness_time_ns_read :
    serving.readAccess .m3 F.TIME_NS.NS.addr = .ok ∧ serving.readAccess .m3 F.PPS_IN_NS.NS.addr = .ok ∧
      serving.power.mainUp = true := by decide +kernel
/-- The LO word of EN_CYCLES, SB_CFG, and the LO word of the pair TIME_INC. -/
def aLo : BitVec 26 := 0xA0058
def aPlain : BitVec 26 := 0x40004
def aPair : BitVec 26 := 0x80020
theorem witness_wide_lo_read :
    serving.readAccess .m3 (wordAt aLo) = .ok ∧ serving.linkMissing .m3 (wordAt aLo) = false ∧ isLo (wordAt aLo) = true ∧
      ownSnapshot (wordAt aLo) = false ∧ ownerBlock (wordAt aLo) = some 12 := by decide +kernel
theorem witness_plain_read :
    serving.readAccess .m3 (wordAt aPlain) = .ok ∧ serving.linkMissing .m3 (wordAt aPlain) = false ∧
      isLo (wordAt aPlain) = false ∧ isHi (wordAt aPlain) = false ∧ wordAt aPlain ≠ F.TXTS_POP.LANE.addr ∧
      wordAt aPlain ≠ F.TIME_NS.NS.addr ∧ wordAt aPlain ≠ F.PPS_IN_NS.NS.addr := by decide +kernel

theorem witness_pair_lo_write :
    serving.writeAccess .m3 (wordAt aPair) = .ok ∧ pairLo (wordAt aPair) = true ∧ serving.fxDiffers (wordAt aPair) 5 = false := by
  decide +kernel
theorem witness_pair_hi_write :
    serving.writeAccess .m3 (0x8020C + 32 * 15) = .ok ∧ serving.flag (F.TP_CTRL.ARMED 15) = false := by decide +kernel
/-- A word of AGEING; DMA_CH_STATUS of channel 2; and the two statuses a write may clear there. -/
def aAge : BitVec 26 := 0xC0000
def aChan : BitVec 26 := 0x6018C
def doneThere : State := put serving [(F.CH_STATUS.DONE 2, 1), (F.CH_STATUS.ERR 2, 1)]
theorem witness_stored_word :
    doneThere.writeAccess .m3 (wordAt aChan) = .ok ∧ 0x40000 ≤ wordAt aChan ∧ wordAt aChan < 0x70000 ∧
      wordAt aChan ≠ F.FABRIC_CFG.REMAP.addr ∧ (wordAt aChan % 64 ≠ 8 ∧ wordAt aChan % 64 ≠ 0x24) ∧
      pairLo (wordAt aChan) = false ∧ pairLo (wordAt aChan - 4) = false ∧ ringAt (wordAt aChan) = none ∧
      faultWordAt (wordAt aChan) = none ∧ accMask (wordAt aChan) [.lv] = 0 ∧
      doneThere.fxDiffers (wordAt aChan) 0x10000 = false := by decide +kernel
/-- DONE of channel 2 set by an event of this cycle. -/
def doneNow : State := doneThere.setEvent (F.CH_STATUS.DONE 2)
theorem witness_stored_fresh : doneNow.freshMask (wordAt aChan) = 0x10000 ∧ doneThere.freshMask (wordAt aChan) = 0 := by decide +kernel
theorem witness_non_owner :
    owned.writeAccess .m3 (wordAt aAge) = .nonOwner ∧ owned.power.vin = true ∧ owned.power.mainUp = true := by decide +kernel
theorem witness_unreachable : dark.writeAccess .m3 (wordAt aAge) = .unreachable := by decide +kernel
/-- A word of a working tile that travels over its link. -/
def aTile : BitVec 26 := 0x500100
def linked : State := put serving [(F.TILE_LINK_STATUS.UP 0, 1)]
theorem witness_tile_read :
    linked.readAccess .m3 (wordAt aTile) = .ok ∧ linked.linkMissing .m3 (wordAt aTile) = false ∧ isLo (wordAt aTile) = false ∧
      isHi (wordAt aTile) = false ∧ linked.power.mainUp = true := by decide +kernel
theorem witness_tile_crc :
    linkTile .m3 (wordAt aTile) = some 0 ∧ linked.writeAccess .m3 (wordAt aTile) = .ok ∧ linked.linkUp 0 = true ∧
      linked.power.vin = true := by decide +kernel
def stamped : State := { serving with time := { serving.time with txFifo := [⟨2, 7, 3, 5⟩, ⟨1, 8, 4, 5⟩] } }
theorem witness_txts :
    stamped.readAccess .m3 F.TXTS_POP.LANE.addr = .ok ∧ stamped.time.txFifo = [⟨2, 7, 3, 5⟩, ⟨1, 8, 4, 5⟩] ∧
      (⟨2, 7, 3, 5⟩ : TxStamp).tag < 2 ^ 16 ∧ (⟨2, 7, 3, 5⟩ : TxStamp).ns < 2 ^ 30 ∧ (⟨2, 7, 3, 5⟩ : TxStamp).sec < 2 ^ 64 := by
  decide +kernel
theorem witness_txts_empty : serving.time.txFifo = [] ∧ serving.readAccess .m3 F.TXTS_POP.LANE.addr = .ok := by decide +kernel

/-! ## Thermal supervision, calibration, ageing -/

/-- Tile 3 with its link up and its rail good; and with a 120 °C reading first among 80. -/
def tile3 : State := put serving [(F.TILE_LINK_STATUS.UP 3, 1)]
theorem witness_sensor : tile3.power.vin = true ∧ (3 : Nat) < 80 ∧ tile3.sensorValid 3 = true ∧ tile3.sensorValid 79 = true ∧
    tile3.sensorValid 4 = false := by decide +kernel
/-- EN low, THERMTRIP# asserted, a record on its way to slot 2047, slot 0 being erased. -/
def lowVin : State := { State.reset with power := ⟨true, false, false, 0, false, false, true, some 0, 0, true⟩ }
def tripped : State :=
  { lowVin with therm := { lowVin.therm with trip := true, part := some (2047, [1, 2]), erasing := some [0], ring := [(0, [1])] } }
theorem witness_thermtrip : tripped.power.vin = true ∧ tripped.power.en = false ∧ serving.power.en = true := by decide
def vinSinking : State := { serving with therm := { serving.therm with vinLowMs := 10 } }
theorem witness_vin_low : vinSinking.power.vin = true ∧ vinSinking.therm.vinLowMs = 10 ∧ 0 < vinSinking.rd F.VIN_LIMITS.VIN_LOW := by
  decide +kernel
theorem witness_trip_commit : tripped.therm.part = some (2047, [1, 2]) ∧ 2047 < 2048 ∧ tripped.power.vin = true := by decide
theorem witness_trip_read : serving.writeAccess .m3 F.TRIP_RD_CMD.SLOT.addr = .ok := by decide +kernel
theorem witness_erase :
    serving.writeAccess .m3 F.RING_CMD.ERASE.addr = .ok ∧ serving.therm.trip = false ∧ serving.therm.erasing = none := by
  decide +kernel
def hot : State := { serving with therm := { serving.therm with trip := true } }
theorem witness_erase_refused :
    hot.writeAccess .m3 F.RING_CMD.ERASE.addr = .ok ∧ hot.power.vin = true ∧ hot.therm.trip = true ∧ tripped.therm.erasing.isSome = true := by decide +kernel
theorem witness_erase_done : tripped.therm.erasing = some [0] ∧ tripped.power.vin = true := by decide
def calOn : State := put tile3 [(F.CAL_PERIOD.MINUTES, 10), (F.CAL_AUTO.AUTO 0, 8)]
theorem witness_cal_period :
    calOn.power.mainUp = true ∧ calOn.rd F.CAL_PERIOD.MINUTES ≠ 0 ∧ (calOn.rd (F.CAL_AUTO.AUTO 0)).testBit 3 = true := by
  decide +kernel
def calDue : State := put calOn [(F.TILE_CAL_STAT.DUE 3, 1), (F.CAL_CFG.CAL_CONC, 1)]
theorem witness_cal_start : calDue.power.mainUp = true ∧ calDue.calMayStart 3 = true ∧
      (∀ u, u < 3 → (calDue.tile u).scanAt = some calDue.clock → calDue.calMayStart u = false) := by decide +kernel
/-- Tile 3 in a calibration of kind `k` with `st` staged. -/
def calRun (k : Nat) (st : Option (List (Nat × Word))) : CalRun := ⟨k, 0, st, 0⟩
def calBusy (k : Nat) (st : Option (List (Nat × Word))) : State :=
  { (calDue.wr (F.TILE_CAL_STAT.BUSY 3) 1) with calib := { calDue.calib with runs := [(3, calRun k st)] } }
theorem witness_cal_end :
    (calBusy 1 none).power.mainUp = true ∧ (calBusy 1 none).calib.runs.lookup 3 = some (calRun 1 none) ∧
      (calRun 1 none).kind = 1 ∧ (calRun 1 none).staged = none ∧ (⟨false, []⟩ : CalMeasure).failed = false ∧
      (⟨true, []⟩ : CalMeasure).failed = true ∧ (calBusy 1 none).power.vin = true := by decide +kernel
theorem witness_cal_apply :
    (calBusy 1 (some [])).calib.runs.lookup 3 = some (calRun 1 (some [])) ∧ (calRun 1 (some [])).staged = some [] ∧
      (calRun 1 (some [])).touched = 0 ∧ (calBusy 1 (some [])).power.mainUp = true ∧
      (calBusy 1 (some [])).trimsAtStrobe = false ∧ (calBusy 1 (some [])).strobeNear = false := by decide +kernel
theorem witness_cal_late : calDue.flag (F.TILE_CAL_STAT.DUE 3) = true ∧ calDue.power.mainUp = true ∧ calDue.power.vin = true := by
  decide +kernel
theorem witness_cal_full_done :
    (calBusy 0 none).calib.runs.lookup 3 = some (calRun 0 none) ∧ (calRun 0 none).kind = 0 := by decide +kernel
theorem witness_cal_go :
    calOn.writeAccess .m3 F.CAL_CMD.GO.addr = .ok ∧ calOn.calRunning 75 = false ∧ (true = true ∨ (75 : Fin 76) = 3) := by
  decide +kernel
theorem witness_cal_full :
    calOn.writeAccess .m3 F.CAL_CMD.FULL.addr = .ok ∧ calOn.flag (F.DRV_ENABLE.POCK_EN 3) = false ∧
      calOn.flag (F.DRV_ENABLE.HTR_EN 3) = false ∧ calOn.calRunning 3 = false ∧ calOn.tileReady 3 = true ∧ calOn.calBarred = false := by decide +kernel
def driven : State := calOn.wr (F.DRV_ENABLE.HTR_EN 3) 1
theorem witness_cal_full_refused :
    driven.writeAccess .m3 F.CAL_CMD.FULL.addr = .ok ∧ driven.power.vin = true ∧ driven.power.mainUp = true ∧
      driven.flag (F.DRV_ENABLE.HTR_EN 3) = true := by decide +kernel
theorem witness_cal_abort :
    (calBusy 1 none).writeAccess .m3 F.CAL_CMD.ABORT.addr = .ok ∧ (calBusy 1 none).calRunning 3 = true ∧
      calOn.writeAccess .m3 F.CAL_CMD.ABORT.addr = .ok ∧ calOn.writeAccess .m3 F.CAL_CMD.LOAD.addr = .ok := by decide +kernel
theorem witness_cal_mirror :
    calOn.writeAccess .m3 (calWordAddr 3 0) = .ok ∧ calOn.writeAccess .m3 (calWordAddr 3 130) = .ok ∧
      calOn.calRunning 3 = false ∧ (calBusy 1 none).writeAccess .m3 (calWordAddr 3 0) = .ok ∧ (calBusy 1 none).calRunning 3 = true := by
  decide +kernel
def silOn : State := serving.setFlag F.SIL_CTRL.ENABLE true
theorem witness_sil_cal_refused :
    silOn.writeAccess .m3 F.SIL_CAL.GO.addr = .ok ∧ silOn.flag F.SIL_CTRL.ENABLE = true ∧ silOn.power.vin = true ∧
      silOn.power.mainUp = true := by decide +kernel
theorem witness_sil_cal :
    serving.writeAccess .m3 F.SIL_CAL.GO.addr = .ok ∧ serving.flag F.SIL_CTRL.ENABLE = false ∧
      ({ serving with calib := { serving.calib with sil := true } } : State).calib.sil = true := by decide +kernel
theorem witness_replan_start :
    serving.power.mainUp = true ∧ serving.start = 4 ∧ serving.replan.running = false ∧ serving.passRecent = false ∧
      serving.writeAccess .m3 F.REPLAN_CMD.NOW.addr = .ok := by decide +kernel
def passing : State :=
  { serving with replan := { serving.replan with running := true, lastStart := some 0 } }
theorem witness_replan_runs :
    passing.passRecent = true ∧ passing.replan.running = true ∧ passing.rd F.REPLAN_STATUS.COURSE < 18 ∧
      passing.writeAccess .m3 F.REPLAN_CMD.NOW.addr = .ok ∧ passing.writeAccess .m3 F.REPLAN_CMD.ABORT.addr = .ok ∧
      serving.writeAccess .m3 F.REPLAN_CMD.ABORT.addr = .ok ∧ passing.power.mainUp = true ∧ passing.power.vin = true ∧ passing.start = 4 := by
  decide +kernel
def lastCourse : State := passing.wr F.REPLAN_STATUS.COURSE 18
theorem witness_replan_last :
    lastCourse.replan.running = true ∧ lastCourse.rd F.REPLAN_STATUS.COURSE = 18 ∧ lastCourse.power.mainUp = true ∧ lastCourse.start = 4 := by
  decide +kernel

/-! ## Starts and the tick -/

/-- Four bytes of a segment header of type `t` and its empty or zero value. -/
def segHead (t v : Byte) : List Byte := [t, 0, 0, 0, v, 0, 0, 0] ++ List.replicate ((v.toNat + 7) / 8 * 8) 0
/-- The smallest Formula (R331, R333): 18 segments without records. The digest is SHA-384 by another implementation. -/
def formula : List Byte :=
  [79, 86, 70, 77, 1, 0, 0, 0, 168, 1, 0, 0, 18, 0, 0, 0] ++
  [212, 236, 234, 118, 119, 213, 237, 240, 129, 245, 146, 232, 65, 48, 138, 68, 189, 221, 186, 31, 243, 13, 39, 129] ++
  [133, 168, 31, 4, 172, 132, 234, 151, 191, 245, 158, 210, 36, 137, 201, 172, 20, 51, 250, 190, 223, 171, 73, 182] ++
  List.replicate 192 0 ++ segHead 1 16 ++ segHead 2 0 ++ segHead 3 0 ++ segHead 4 0 ++ segHead 5 0 ++ segHead 6 0 ++
  segHead 7 0 ++ segHead 8 0 ++ segHead 9 0 ++ segHead 10 0 ++ segHead 11 0 ++ segHead 12 0 ++ segHead 13 0 ++ segHead 14 4 ++
  segHead 15 0 ++ segHead 16 0 ++ segHead 17 0 ++ segHead 18 0
theorem formula_ok : (State.reset.checkImage formula false).toBool = true := by decide +kernel
theorem checkImage_of_unsigned (s : State) (h : s.signRequired = false) :
    s.checkImage formula false = State.reset.checkImage formula false := by
  have h1 : s.signatureOk formula = State.reset.signatureOk formula := by
    have hs : imageSigned formula = false := by decide
    have hr : State.reset.signRequired = false := by decide
    simp only [State.signatureOk, State.signatureDue, hs, h, hr, Bool.or_self, Bool.not_false, Bool.true_or]
  simp only [State.checkImage, h1]
theorem formula_segments (s : State) (h : s.signRequired = false) : ∃ segs, s.checkImage formula false = .ok segs := by
  rw [checkImage_of_unsigned s h]
  cases hx : State.reset.checkImage formula false with
  | ok x => exact ⟨x, rfl⟩
  | error e =>
    have := formula_ok
    rw [hx] at this
    cases this

/-- A cold start that reads `formula` after `k` failed attempts, as a unit 0 of role 0. -/
def startEnv (k : Nat) : StartEnv :=
  ⟨true, false, 0, false, ⟨k, formula, []⟩, ⟨0, formula, []⟩, none, [], 0, [], ⟨[], false⟩, true, [], []⟩
/-- Rails and PGOOD good, the main side still in reset. -/
def railed : State := { State.reset with power := ⟨true, true, true, 0xF, true, false, true, none, 0, false⟩ }
theorem witness_release_park :
    railed.power.vin = true ∧ railed.power.en = true ∧ railed.power.rails = true ∧ railed.power.pgood = true ∧
      railed.power.mainUp = false ∧ railed.power.sideband = false ∧ (startEnv 4).sideband = true ∧
      ({ startEnv 4 with sideband := false } : StartEnv).sideband = false ∧ 3 < (startEnv 4).first.errors := by decide
theorem witness_release_ok :
    railed.power.mainUp = false ∧ (startEnv 0).sideband = true ∧ (startEnv 0).first.errors = 0 ∧
      ∃ segs, (({ railed with power := { railed.power with sideband := true } } : State).coldLoaded (startEnv 0)).checkImage
        ((startEnv 0).first.image (startEnv 0).bootSrc) (startEnv 0).role = .ok segs :=
  ⟨rfl, rfl, rfl, formula_segments _ (by decide +kernel)⟩
def parkedS : State := inState 5
theorem witness_cold_rst :
    serving.power.mainUp = true ∧ serving.start ≠ 5 ∧ parkedS.start = 5 ∧ parkedS.power.vin = true ∧ 9999 < 10000 ∧
      10000 ≤ 10000 ∧ serving.startedNow true = false ∧ parkedS.startedNow true = false ∧ (startEnv 0).first.errors = 0 ∧
      ∃ segs, ((serving.noteTrigger true).coldLoaded (startEnv 0)).checkImage ((startEnv 0).first.image (startEnv 0).bootSrc)
        (startEnv 0).role = .ok segs :=
  ⟨rfl, by decide +kernel, by decide +kernel, rfl, by decide, by decide, rfl, rfl, rfl, formula_segments _ (by decide +kernel)⟩
/-- A cold start begun at this clock. -/
def begun : State := serving.noteTrigger true
theorem witness_cold_twice : begun.power.mainUp = true ∧ begun.startedNow true = true ∧ begun.startedNow false = true := by decide
theorem witness_start_cold :
    serving.writeAccess .m3 F.START_CMD.COLD.addr = .ok ∧ serving.coldAccepted = true ∧
      (inState 1).writeAccess .m3 F.START_CMD.COLD.addr = .ok ∧ (inState 1).coldAccepted = false ∧
      (inState 1).startedNow true = false ∧ (inState 1).power.vin = true ∧ (inState 1).power.mainUp = true ∧
      serving.writeAccess .m0 F.START_CMD.COLD.addr = .ok := by decide +kernel
theorem witness_warm_rst :
    1000 ≤ 1000 ∧ 999 < 1000 ∧ serving.power.mainUp = true ∧ serving.start = 4 ∧ (inState 3).start = 3 ∧ parkedS.start = 5 ∧
      parkedS.power.vin = true ∧ serving.startedNow false = false ∧ parkedS.startedNow false = false := by decide +kernel
def resumable : State := put parkedS [(F.START_STATUS.RETAIN_OK, 1), (F.START_STATUS.WARM_FAILS, 2)]
theorem witness_start_warm :
    serving.writeAccess .m3 F.START_CMD.COLD.addr = .ok ∧ resumable.start = 5 ∧
      resumable.writeAccess .m3 F.START_CMD.COLD.addr = .ok ∧ resumable.flag F.START_STATUS.RETAIN_OK = true ∧
      resumable.rd F.START_STATUS.WARM_FAILS < 3 ∧ resumable.startedNow false = false ∧
      begun.writeAccess .m3 F.START_CMD.COLD.addr = .ok := by decide +kernel
theorem witness_start_warm_refused :
    parkedS.writeAccess .m3 F.START_CMD.COLD.addr = .ok ∧ parkedS.start = 5 ∧ parkedS.flag F.START_STATUS.RETAIN_OK = false ∧
      (inState 2).writeAccess .m3 F.START_CMD.COLD.addr = .ok ∧ (inState 2).start = 2 ∧
      (inState 1).start = 1 ∧ serving.writeAccess .m0 F.START_CMD.COLD.addr = .ok ∧ (inState 2).power.vin = true := by
  decide +kernel
def warming : State := put (inState 2) [(F.START_STATUS.STEP, 1)]
def warmEnv (k : Nat) : WarmEnv := ⟨⟨k, formula, []⟩, none, none, none, none, none, none, none, [], [], []⟩
theorem witness_warm_start :
    warming.power.mainUp = true ∧ warming.start = 2 ∧ warming.rd F.START_STATUS.STEP = 1 ∧ 3 < (warmEnv 4).header.errors := by
  decide +kernel
def gated : State := inState 3
theorem witness_serve :
    gated.writeAccess .m3 F.START_CMD.COLD.addr = .ok ∧ gated.start = 3 ∧ gated.rd F.START_CFG.ARM_MASK = 0 ∧
      gated.standingBad { gated.record (standRecord 0) with kind := 2, index := 0, seq := 1 }.seal = false := by decide +kernel
theorem witness_serve_arms :
    let a := { gated.record (standRecord 0) with kind := 2, index := 0, seq := 1 }.seal
    let u := ((((gated.wr F.START_STATUS.STATE 1).wr F.START_STATUS.STEP 9).setRecord (standRecord 0) a).wr F.STANDING_SEQ.SEQ 1).wr
      F.STANDING_STATUS.ACTIVE 0
    u.armAll.2 = [] := by decide +kernel
/-- A standing record that opens a shutter of an output no circuit lights. -/
def gatedBad : State :=
  gated.setRecord (standRecord 0) { gated.record (standRecord 0) with shuts := 1 }
theorem witness_serve_bad :
    gatedBad.writeAccess .m3 F.START_CMD.COLD.addr = .ok ∧ gatedBad.start = 3 ∧ gatedBad.power.vin = true ∧
      gatedBad.standingBad { gatedBad.record (standRecord 0) with kind := 2, index := 0, seq := 1 }.seal = true := by decide +kernel
def stepTen : State := put (inState 1) [(F.START_STATUS.STEP, 10)]
def warmFive : State := put (inState 2) [(F.START_STATUS.STEP, 5)]
theorem witness_service :
    stepTen.start = 1 ∧ stepTen.rd F.START_STATUS.STEP = 10 ∧ stepTen.preEpoch = false ∧ warmFive.start = 2 ∧
      warmFive.rd F.START_STATUS.STEP = 5 ∧ warmFive.preEpoch = false := by decide +kernel
def charring : State := { put (inState 1) [(F.START_STATUS.STEP, 7)] with starting := some ⟨⟨[], false⟩, []⟩ }
theorem witness_abort :
    charring.writeAccess .m3 F.START_CMD.COLD.addr = .ok ∧ charring.power.mainUp = true ∧ charring.power.vin = true ∧
      charring.starting = some ⟨⟨[], false⟩, []⟩ ∧ (⟨[], false⟩ : Characterisation).complete = false ∧
      gated.starting = none := by decide +kernel
/-- A characterisation that is complete when the ABORT is sampled. -/
def charred : State := { charring with starting := some ⟨⟨[], true⟩, []⟩ }
theorem witness_abort_late :
    charred.writeAccess .m3 F.START_CMD.COLD.addr = .ok ∧ charred.power.mainUp = true ∧
      charred.starting = some ⟨⟨[], true⟩, []⟩ ∧ (⟨[], true⟩ : Characterisation).complete = true := by decide +kernel
theorem witness_tick :
    serving.power.mainUp = true ∧ serving.starting = none ∧ 0 ≤ (serving.fineTime : Int) + serving.timeInc + serving.slewShare := by
  decide +kernel
theorem witness_step_cmd :
    serving.writeAccess .m3 F.STEP_CMD.GO.addr = .ok ∧ serving.stepBarred (serving.stepAsked false) = false := by decide +kernel
/-- A step asked for; one asked for beside it is refused. -/
def stepping : State := { serving with time := { serving.time with step := some ⟨false, 7, 5⟩ } }
theorem witness_step_refused :
    stepping.writeAccess .m3 F.STEP_CMD.GO.addr = .ok ∧ stepping.power.vin = true ∧ stepping.power.mainUp = true ∧
      stepping.stepBarred (stepping.stepAsked false) = true := by decide +kernel
theorem witness_frame_boundary :
    stepping.preEpoch = false ∧ stepping.plane.lastFrame ≠ some stepping.frame ∧ stepping.time.step = some ⟨false, 7, 5⟩ ∧
      serving.preEpoch = false ∧ serving.plane.lastFrame ≠ some serving.frame ∧ serving.time.step = none := by decide +kernel
def inFrame : State := { serving with plane := { serving.plane with lastFrame := some 0 } }
theorem witness_frame_taken : inFrame.plane.lastFrame = some inFrame.frame := by decide +kernel

/-! ## The drive side of the tiles -/

/-- Tile 20 with its link up; and the trim tile 70. -/
def lit : State := put serving [(F.TILE_LINK_STATUS.UP 20, 1), (F.TILE_LINK_STATUS.UP 70, 1)]
theorem witness_drive_rail : lit.power.rails = true ∧ lit.power.vin = true ∧ lit.power.mainUp = true ∧ 20 / 19 = 1 ∧ State.reset.power.rails = false := by
  decide
theorem witness_drv_enable : lit.writeAccess .m3 (F.DRV_ENABLE.POCK_EN 20).addr = .ok ∧ lit.linkUp 20 = true := by decide +kernel
/-- Channel 5 of tile 20: ladder 0 OPEN with a code, ladder 1 OPEN, select and heater OPEN; shutters 3 OPEN on tile 70. -/
def opened : State :=
  (put lit [(F.POCK_STAT.L0_SET 20 5, 1), (F.POCK_STAT.L1_SET 20 5, 1), (F.POCK_SHD1.CODE 20 5, 77), (F.POCK_STAT.SEL_SET 20 5, 1),
    (F.HTR_ACT.SET 20 5, 1), (F.HTR_SHD.CODE 20 5, 99)]).setTile 70 { lit.tile 70 with shutOpen := 8 }
theorem witness_seal_cmd :
    opened.writeAccess .m3 (F.SEAL_CMD.SEL_ALL 20).addr = .ok ∧ opened.linkUp 20 = true ∧
      opened.writeAccess .m3 (F.SEAL_CMD.SHUT_ALL 70).addr = .ok ∧ opened.linkUp 70 = true ∧ isTrimTile 70 = true ∧
      opened.writeAccess .m3 (F.SHUT_SEAL.SEAL 70).addr = .ok := by decide +kernel
theorem witness_seal_one :
    opened.writeAccess .m3 (F.POCK_SEAL.L0 20 5).addr = .ok ∧ opened.rd (F.POCK_STAT.L0_SET 20 5) = 1 ∧
      opened.rd (F.POCK_STAT.L1_SET 20 5) = 1 ∧ opened.rd (F.POCK_STAT.SEL_SET 20 5) = 1 ∧
      opened.writeAccess .m3 (F.HTR_SEAL.SEAL 20 5).addr = .ok ∧ opened.rd (F.HTR_ACT.SET 20 5) = 1 := by decide +kernel
theorem witness_seal_nothing :
    opened.rd (F.POCK_STAT.L0_SET 20 6) ≠ 1 ∧ opened.rd (F.POCK_STAT.L1_SET 20 6) ≠ 1 ∧ opened.rd (F.POCK_STAT.SEL_SET 20 6) ≠ 1 ∧
      opened.rd (F.HTR_ACT.SET 20 6) ≠ 1 ∧ opened.writeAccess .m3 (F.POCK_SEAL.L0 20 6).addr = .ok ∧ isTrimTile 20 = false ∧
      opened.writeAccess .m3 (F.SHUT_SEAL.SEAL 20).addr = .ok ∧ opened.writeAccess .m3 (F.HTR_SEAL.SEAL 20 6).addr = .ok := by
  decide +kernel
/-- The channel's loop in MANUAL. -/
def manual : State := lit.wr (loopCtrlTarget (loopAt 20 5)) 1
theorem witness_shadow_write :
    manual.writeAccess .m3 (shdCode 20 5 1).addr = .ok ∧ externalHost .m5 = false ∧ manual.hostMayWrite (loopAt 20 5) = true ∧
      manual.writeAccess .m3 (F.POCK_SEL_SHD.SEL 20 5).addr = .ok ∧ bitsOf 2 0 1 = manual.rd (F.POCK_SEL_SHD.SEL 20 5) ∧
      manual.writeAccess .m3 (F.HTR_SHD.CODE 20 5).addr = .ok ∧ manual.writeAccess .m5 ((F.SHUT_SHD 70).addr + 4 * 1) = .ok := by
  decide +kernel
/-- The channel's loop in AUTO. -/
def autoNow : State := put lit [(loopCtrlTarget (loopAt 20 5), 2), (loopStatState (loopAt 20 5), 2)]
theorem witness_shadow_refused :
    autoNow.writeAccess .m3 (shdCode 20 5 1).addr = .ok ∧ externalHost .m3 = true ∧ autoNow.hostMayWrite (loopAt 20 5) = false ∧
      autoNow.linkUp 20 = true ∧ autoNow.writeAccess .m3 (F.POCK_SEL_SHD.SEL 20 5).addr = .ok ∧
      autoNow.writeAccess .m3 (F.HTR_SHD.CODE 20 5).addr = .ok ∧ autoNow.power.vin = true ∧ autoNow.power.mainUp = true ∧
      bitsOf 1 0 1 ≠ manual.rd (F.POCK_SEL_SHD.SEL 20 5) := by decide +kernel
/-- A host's write of trim shutters whose loops are OFF. -/
theorem witness_shut_shadow :
    lit.writeAccess .m3 ((F.SHUT_SHD 70).addr + 4 * 0) = .ok ∧ lit.linkUp 70 = true ∧ isTrimTile 70 = true ∧
      externalHost .m3 = true ∧ lit.loopState (loopAt 70 3) ≠ 1 ∧ lit.power.vin = true ∧
      (8 : Word).getLsbD 3 ≠ (lit.rdW (F.SHUT_SHD 70)).testBit 3 := by decide +kernel
/-- Edges of the plane strobe and of group 0 on their way to tile 20: select SEALED on channel 5, heaters SEALED and OPEN. -/
def striking : State :=
  { put lit [(F.POCK_STAT.SEL_SET 20 5, 2), (F.POCK_SEL_SHD.SEL 20 5, 1), (F.HTR_ACT.SET 20 5, 2), (F.HTR_SHD.CODE 20 5, 99),
      (F.HTR_ACT.SET 20 6, 1)] with strobes := ⟨1#76 <<< 20, [(0, 1#76 <<< 20)], false, none⟩ }
theorem witness_plane_strobe :
    striking.power.mainUp = true ∧ striking.strobes.cmd = false ∧ striking.strobes.plane.getLsbD 20 = true ∧
      striking.railGood 20 = true ∧ striking.frozen = false ∧ striking.rd (F.POCK_STAT.SEL_SET 20 5) = 2 ∧
      striking.rd (F.POCK_SEL_SHD.RANGE 20 5) = striking.rd (F.POCK_STAT.ACT_RANGE 20 5) ∧
      striking.rd (F.POCK_STAT.SEL_SET 20 6) ≠ 2 := by decide +kernel
/-- The same with another range asked for, which the channel's loop, OFF, does not allow. -/
def strikingHeld : State := striking.wr (F.POCK_SEL_SHD.RANGE 20 5) 1
theorem witness_range_refused :
    strikingHeld.strobes.plane.getLsbD 20 = true ∧ strikingHeld.rd (F.POCK_STAT.SEL_SET 20 5) = 2 ∧
      strikingHeld.rd (F.POCK_SEL_SHD.RANGE 20 5) ≠ strikingHeld.rd (F.POCK_STAT.ACT_RANGE 20 5) ∧
      strikingHeld.trimsAtStrobe = false ∧ strikingHeld.rangeRefused 20 5 = true ∧ strikingHeld.power.vin = true := by
  decide +kernel
/-- Shutter 3 of tile 70 SEALED to open, its group's edge on its way. -/
def strikingShut : State :=
  { (lit.wrW (F.SHUT_PEND 70) 8).wrW (F.SHUT_SHD 70) 8 with strobes := ⟨0, [(0, 1#76 <<< 70)], false, none⟩ }
theorem witness_group_shutter :
    (strikingShut.groupInFlight 0).getLsbD 70 = true ∧ strikingShut.railGood 70 = true ∧ strikingShut.frozen = false ∧
      isTrimTile 70 = true ∧ strikingShut.rd (F.CH_CFG.SGRP 70 3) = 0 ∧ (strikingShut.rdW (F.SHUT_PEND 70)).testBit 3 = true := by
  decide +kernel
theorem witness_group_strobe :
    (striking.groupInFlight 0).getLsbD 20 = true ∧ striking.railGood 20 = true ∧ striking.rd (F.CH_CFG.HGRP 20 5) = 0 ∧
      striking.rd (F.HTR_ACT.SET 20 5) = 2 ∧ striking.rd (F.CH_CFG.HGRP 20 6) = 0 ∧ striking.rd (F.HTR_ACT.SET 20 6) = 1 := by
  decide +kernel
/-- A supervised heater of channel 5 at full scale, driven. -/
def heated : State :=
  (put lit [(F.CH_CFG.SUPERVISION 20 5, 3), (F.HTR_ACT.ACT_CODE 20 5, 65535), (F.DRV_ENABLE.HTR_EN 20, 1)]).setTile 20
    { lit.tile 20 with htrFree := BitVec.allOnes 64 }
theorem witness_htr_open :
    heated.power.vin = true ∧ heated.power.mainUp = true ∧ heated.detects 20 5 = true ∧ 100 * 65536 ≤ heated.htrCurrent 20 5 ∧
      heated.flag (F.HTR_SUP.OPEN 20 5) = false := by decide +kernel
theorem witness_shutter :
    lit.power.vin = true ∧ lit.power.mainUp = true ∧ isTrimTile 70 = true ∧ lit.shutterOpen 70 63 = false ∧ 1000 ≤ 1000 ∧
      (lit.rdW (F.SHUT_ACT 70)).testBit 63 = false ∧ 1999 < 2000 ∧ 4500 < 4501 := by decide +kernel
theorem witness_shutter_active : (lit.setWord (F.SHUT_ACT 70).addr 1).shutterOpen 70 0 = true ∧ 200 < 201 := by
  decide +kernel

/-! ## The plane and the Composer -/

/-- Strobes run, in CIRCUIT mode. -/
def circ : State := { put serving [(F.PLANE_MODE.MODE, 0)] with plane := { serving.plane with quiet := false } }
/-- Strobes run, in SLOT mode, 100 ns ahead of the second slot. -/
def slotted : State :=
  { circ.wr F.PLANE_MODE.MODE 1 with time := { circ.time with ns := 1900 } }
/-- The same 1,595 ns into the slot. -/
def onSlotEarly : State := { slotted with time := { slotted.time with ns := 1595 } }
theorem witness_loader :
    slotted.power.mainUp = true ∧ slotted.plane.taken = none ∧ slotted.nextStrobe slotted.now = some 2000 ∧
      slotted.now < 2000 ∧ 2000 ≤ slotted.now + 404 ∧ circ.plane.taken = none ∧ circ.nextStrobe circ.now = none := by
  decide +kernel
/-- A switch taken for that boundary; and an inserted protection strobe 400 ns ahead. -/
def slottedTaken : State := { slotted with plane := { slotted.plane with taken := some ⟨3, 2000, false⟩ } }
def insertedSoon : State := { circ with plane := { circ.plane with taken := some ⟨15, 404, true⟩ } }
theorem witness_loader_taken :
    slottedTaken.plane.taken = some ⟨3, 2000, false⟩ ∧ slottedTaken.nextStrobe slottedTaken.now = some 2000 ∧
      insertedSoon.plane.taken = some ⟨15, 404, true⟩ ∧ insertedSoon.now < 404 ∧ 404 ≤ insertedSoon.now + 404 ∧
      insertedSoon.power.mainUp = true := by decide +kernel
theorem witness_loader_far :
    onSlotEarly.plane.taken = none ∧ onSlotEarly.nextStrobe onSlotEarly.now = some 2000 ∧ onSlotEarly.now + 404 < 2000 := by
  decide +kernel
def linked2 : State := put serving [(F.TILE_LINK_STATUS.UP 20, 1)]
theorem witness_issue : linked2.linkUp 20 = true ∧ linked2.railGood 20 = true := by decide +kernel
theorem witness_strb_cmd :
    circ.writeAccess .m3 F.STRB_CMD.PLANE.addr = .ok ∧ circ.planeMode = 0 ∧ circ.commitPending = false ∧
      circ.strobes.cmd = false ∧ circ.frozen = false ∧ circ.preEpoch = false := by
  decide +kernel
/-- One strobe on its way; parked after a warm start; before FRAME_EPOCH. -/
def circBusy : State := { circ with strobes := { circ.strobes with cmd := true } }
def circParked : State := put circ [(F.START_STATUS.STATE, 5), (F.START_STATUS.KIND, 1)]
def circEarly : State := circ.wrW F.EPOCH_SEC 9
theorem witness_strb_cmd_barred :
    circBusy.writeAccess .m3 F.STRB_CMD.PLANE.addr = .ok ∧ circBusy.strobes.cmd = true ∧
      circParked.writeAccess .m3 F.STRB_CMD.PLANE.addr = .ok ∧ circParked.frozen = true ∧
      circEarly.writeAccess .m3 F.STRB_CMD.PLANE.addr = .ok ∧ circEarly.preEpoch = true := by decide +kernel
theorem witness_strb_cmd_refused :
    slotted.writeAccess .m3 F.STRB_CMD.PLANE.addr = .ok ∧ slotted.planeMode ≠ 0 := by decide +kernel
def grouped : State := circ.wr (F.STRB_GRP.MODE 7) 3
theorem witness_strb_grp :
    grouped.writeAccess .m3 F.STRB_CMD.GRP.addr = .ok ∧ grouped.rd (F.STRB_GRP.MODE 7) = 3 ∧ circ.rd (F.STRB_GRP.MODE 7) ≠ 3 ∧
      circ.writeAccess .m3 F.STRB_CMD.GRP.addr = .ok := by decide +kernel
/-- The same at slot 0 of frame 0, whose boundary has and has not been taken. -/
def onSlot : State := { slotted with time := { slotted.time with ns := 0 } }
def slotTaken : State := { onSlot with plane := { onSlot.plane with lastSlot := some (0, 0) } }
theorem witness_slot_boundary :
    onSlot.power.mainUp = true ∧ onSlot.strobing = true ∧ onSlot.plane.lastSlot ≠ some (onSlot.frame, onSlot.slot) ∧
      onSlot.plane.taken = none ∧ onSlot.plane.updates = [] ∧ onSlot.time.resumeFrame = none ∧ onSlot.planeMode ≠ 0 ∧
      onSlot.hier.serve = none ∧ onSlot.lv.lookup F.FOLLOW_CFG.MODE.addr = none ∧
      slotTaken.plane.lastSlot = some (slotTaken.frame, slotTaken.slot) := by decide +kernel
/-- An update of the standing record, to record 5 with SEQ 9, for the slot in force, in CIRCUIT mode. -/
def upd5 : Update := ⟨{ accordEmpty with seq := 9 }, 5, 0, 0, false, 0, [], [], [], [], []⟩
def updating : State := { circ with plane := { circ.plane with updates := [upd5] } }
theorem witness_slot_update :
    updating.power.mainUp = true ∧ updating.strobing = true ∧ updating.plane.lastSlot ≠ some (updating.frame, updating.slot) ∧
      updating.plane.taken = none ∧ updating.slotNumber upd5.frame upd5.slot ≤ updating.slotNow ∧ updating.planeMode = 0 ∧
      updating.twin ≠ 3 ∧ upd5.record < 16 ∧ upd5.accord.seq < 2 ^ 32 ∧ updating.hier.serve = none ∧
      updating.lv.lookup F.FOLLOW_CFG.MODE.addr = none := by decide +kernel
theorem witness_slot_quiet : serving.strobing = false ∧ serving.hier.serve = none ∧ serving.lv.lookup F.FOLLOW_CFG.MODE.addr = none := by
  decide +kernel
def insertedNow : State := { circ with plane := { circ.plane with taken := some ⟨15, 3, true⟩ } }
theorem witness_protection :
    insertedNow.power.vin = true ∧ insertedNow.plane.taken = some ⟨15, 3, true⟩ ∧ 3 ≤ insertedNow.now + 3 ∧ 15 < 16 ∧
      insertedNow.preEpoch = false ∧ insertedSoon.now + 3 < 404 ∧ circ.plane.taken = none ∧ circEarly.preEpoch = true := by
  decide +kernel
/-- Frame 1 composing over empty pins. -/
def pins0 : Pins := ⟨0, 0, 0, 0⟩
def banked : State := slotted.setBank 1 1
def pinned : State := { banked with plane := { banked.plane with nextPins := some pins0 } }
def composing : State := { pinned with comp := ⟨[], [], some ⟨1, accordEmpty, 0⟩⟩ }
theorem witness_composition :
    composing.power.mainUp = true ∧ composing.power.vin = true ∧ composing.comp.composing = some ⟨1, accordEmpty, 0⟩ ∧
      composing.plane.nextPins = some pins0 ∧ composing.bank 1 = 1 ∧ 5 < composing.slots ∧ composing.slots ≤ 64 ∧
      composing.writeAccess .m3 F.COMP_CTRL.ABORT.addr = .ok := by decide +kernel
theorem witness_composition_none :
    slotted.comp.composing = none ∧ slotted.rd F.COMP_STATUS.PHASE ≠ 4 ∧ slotted.writeAccess .m3 F.COMP_CTRL.ABORT.addr = .ok ∧
      composing.slots ≤ 64 := by decide +kernel
def composed : State := slotted.wr F.COMP_STATUS.PHASE 4
theorem witness_composition_abort_late :
    composed.writeAccess .m3 F.COMP_CTRL.ABORT.addr = .ok ∧ composed.comp.composing = none ∧ composed.rd F.COMP_STATUS.PHASE = 4 := by
  decide +kernel
def cut0 : Update := ⟨accordEmpty, 0, 0, 0, false, 0, [], [], [], [], []⟩
def cutting : State := { slotted with plane := { slotted.plane with cuts := [cut0] } }
theorem witness_standing_commit :
    cutting.power.mainUp = true ∧ cutting.plane.cuts = [cut0] ∧ cutting.plane.updates = [] ∧
      cutting.freeStanding = some 1 := by decide +kernel
/-- The same with an update pending for a later boundary; and with three pending for earlier ones. -/
def later0 : Update := { cut0 with frame := 2 ^ 20, record := 1 }
def replacing : State := { cutting with plane := { cutting.plane with updates := [later0] } }
def crowded : State := { cutting with plane := { cutting.plane with updates := [cut0, cut0, cut0] } }
theorem witness_standing_replace :
    replacing.power.mainUp = true ∧ replacing.plane.cuts = [cut0] ∧ replacing.plane.updates = [later0] ∧
      replacing.applyFrom (replacing.commitInstant cut0) cut0.rearranged ≤ replacing.slotNumber later0.frame later0.slot ∧
      (replacing.setPlane { replacing.plane with updates := [] }).freeStanding = some 1 := by decide +kernel
theorem witness_standing_defer :
    crowded.power.mainUp = true ∧ crowded.power.vin = true ∧ crowded.plane.cuts = [cut0] ∧ 3 ≤ crowded.plane.updates.length ∧
      crowded.plane.updates.getLast? = some cut0 ∧
      crowded.slotNumber cut0.frame cut0.slot < crowded.applyFrom (crowded.commitInstant cut0) cut0.rearranged := by decide +kernel
/-- Standing record 3 sound and empty; and the same record armed. -/
def alt3 : Accord := { accordEmpty with kind := 2, index := 3 }.seal
def sound3 : State := circ.setRecord 131 alt3
theorem witness_arm : sound3.writeAccess .m3 F.ALT_CMD.ARM.addr = .ok ∧ sound3.armBad 3 = false := by decide +kernel
theorem witness_arm_bad :
    circ.writeAccess .m3 F.ALT_CMD.ARM.addr = .ok ∧ circ.armBad 4 = true ∧ circ.power.vin = true ∧ circ.power.mainUp = true := by
  decide +kernel
def armed3 : State := put sound3 [(F.ALT_ARMED.ARMED, 8), (F.ALT_ELIGIBLE.ELIGIBLE, 8)]
theorem witness_disarm : armed3.writeAccess .m3 F.ALT_CMD.ARM.addr = .ok ∧ 3 ∈ armed3.armed ∧ 4 ∉ armed3.armed := by
  decide +kernel
theorem witness_switch :
    armed3.writeAccess .m3 F.SWITCH_CMD.GO.addr = .ok ∧ 3 ≠ armed3.activeIndex ∧ armed3.standby = false ∧
      armed3.switchable 3 = true ∧ armed3.plane.taken = none ∧ armed3.plane.request = none := by decide +kernel
def asked3 : State := { armed3 with plane := { armed3.plane with request := some ⟨3, 0, 0⟩ } }
def asked3s : State := { put sound3 [(F.PLANE_MODE.MODE, 1), (F.ALT_ARMED.ARMED, 8), (F.ALT_ELIGIBLE.ELIGIBLE, 8)] with plane := asked3.plane }
/-- The same with a request for record 5 of this clock; a standby of a pair; and an alternate no longer eligible. -/
def asked5 : State := { armed3 with plane := { armed3.plane with request := some ⟨5, 0, 0⟩ } }
def asked2 : State := { armed3 with plane := { armed3.plane with request := some ⟨2, 0, 0⟩ } }
def standbyNow : State := put armed3 [(F.TWIN_STATUS.STATE, 4)]
def stale3 : State := { circ with plane := asked3.plane }
theorem witness_switch_again :
    asked5.writeAccess .m3 F.SWITCH_CMD.GO.addr = .ok ∧ asked5.switchable 3 = true ∧ asked5.plane.request = some ⟨5, 0, 0⟩ ∧
      asked5.clock = 0 ∧ asked5.power.vin = true ∧ asked5.power.mainUp = true ∧ asked2.plane.request = some ⟨2, 0, 0⟩ ∧
      asked2.standby = false ∧ asked5.plane.taken = none ∧ circ.switchable 4 = false ∧ 4 ≠ circ.activeIndex := by decide +kernel
theorem witness_switch_other :
    standbyNow.writeAccess .m3 F.SWITCH_CMD.GO.addr = .ok ∧ standbyNow.standby = true ∧ armed3.activeIndex = 0 ∧
      stale3.power.vin = true ∧ stale3.plane.request = some ⟨3, 0, 0⟩ ∧ stale3.switchable 3 = false ∧
      circ.plane.request = none := by decide +kernel
theorem witness_switch_take :
    asked3.power.mainUp = true ∧ asked3.plane.request = some ⟨3, 0, 0⟩ ∧ asked3.switchable 3 = true ∧
      asked3s.plane.request = some ⟨3, 0, 0⟩ ∧ asked3s.switchable 3 = true := by decide +kernel
theorem witness_record_write :
    circ.writeAccess .m3 (recordAddr 127 199) = .ok ∧ circ.planeMode = 0 ∧ circ.writeAccess .m3 (recordAddr 143 0) = .ok ∧
      15 ≠ circ.activeIndex ∧ 15 ∉ circ.armed ∧ ∀ u ∈ circ.plane.updates, u.record ≠ 15 := by decide +kernel
theorem witness_record_refused :
    slotted.writeAccess .m3 (recordAddr 127 199) = .ok ∧ slotted.planeMode ≠ 0 ∧ slotted.writeAccess .m3 (recordAddr 128 0) = .ok ∧
      128 - 128 = slotted.activeIndex := by decide +kernel
def full3 : Accord := { alt3 with host := true, flagged := true, cells := BitVec.allOnes 4352, inLit := 5, shuts := 6, trims := 7, frame := 2 ^ 64 - 1, pairs := 512 }
def last : Accord :=
  ⟨255, 255, true, true, 2 ^ 32 - 1, 2 ^ 64 - 1, 65535, 65535, 255, 2 ^ 32 - 1, 2 ^ 32 - 1, 2 ^ 32 - 1, 5, 6, 7, 8⟩
theorem witness_accord :
    last.kind < 256 ∧ last.index < 256 ∧ last.seq < 2 ^ 32 ∧ last.frame < 2 ^ 64 ∧ last.pairs < 2 ^ 16 ∧ last.removed < 2 ^ 16 ∧
      last.applySlot < 256 ∧ last.baseSeq < 2 ^ 32 ∧ last.bodyCrc < 2 ^ 32 ∧ last.hcrc < 2 ^ 32 := by decide

/-! ## Scans, conversions and tile links -/

/-- Tile 20 scanning, its link up, focus ring 0 set up; and the same while it calibrates. -/
def scanning : State :=
  put serving [(F.TILE_LINK_STATUS.UP 20, 1), (F.SILLAGE_RING_CFG.ENABLE 0, 1), (F.SILLAGE_RING_CFG.SOURCE 0, 1)]
def suspended : State := { scanning with calib := { scanning.calib with runs := [(20, ⟨1, 0, none, 0⟩)] } }
theorem witness_scan :
    scanning.railGood 20 = true ∧ scanning.purpose 20 63 = .loop ∧ scanning.purpose 20 63 ≠ .suspended ∧
      suspended.railGood 20 = true ∧ suspended.purpose 20 63 = .suspended ∧ State.reset.railGood 20 = false ∧
      (scanning.tile 20).focusClip = none := by decide +kernel
/-- The read-back rotation at channel 5, which is supervised by read-back. -/
def readingBack : State := (scanning.wr (F.CH_CFG.SUPERVISION 20 5) 1).setTile 20 { scanning.tile 20 with rbNext := 5 }
theorem witness_scan_readback : readingBack.railGood 20 = true ∧ readingBack.purpose 20 5 = .readBack := by decide +kernel
theorem witness_ranges :
    scanning.writeAccess .m5 (F.TIA_RANGE.RANGE 20 7).addr = .ok ∧ externalHost .m5 = false ∧ scanning.linkUp 20 = true ∧
      scanning.writeAccess .m3 (F.SCAN_CFG.MODE 20).addr = .ok ∧ scanning.writeAccess .m3 (F.TIA_RANGE.RANGE 20 7).addr = .ok ∧
      externalHost .m3 = true ∧ bitsOf 1 0 2 < 2 ∧ 2 ≤ bitsOf 2 0 2 := by decide +kernel
/-- The loops of the tile's last eight channels in AUTO, which a host's range may not change. -/
def ranged : State :=
  put scanning ((List.range 8).flatMap fun k => [(loopCtrlTarget (loopAt 20 (56 + k)), 2), (loopStatState (loopAt 20 (56 + k)), 2)])
theorem witness_ranges_refused :
    ranged.writeAccess .m3 (F.TIA_RANGE.RANGE 20 7).addr = .ok ∧ ranged.linkUp 20 = true ∧
      (∀ i, i < 16 → ranged.hostMayWrite (loopAt 20 ((16 * 7 + i) / 2)) = false) := by decide +kernel
theorem witness_link_missing :
    serving.linkUp 20 = false ∧ serving.writeAccess .m3 (F.SCAN_CFG.MODE 20).addr = .ok ∧
      serving.writeAccess .m3 (F.FOCUS_CFG.PD 20).addr = .ok ∧ serving.writeAccess .m3 (F.DIAG_CMD.PD 20).addr = .ok ∧
      serving.writeAccess .m3 (F.FAST_CFG.BUS_A_PD 20).addr = .ok ∧
      serving.writeAccess .m3 (F.TIA_RANGE.RANGE 20 7).addr = .ok := by decide +kernel
theorem witness_focus :
    scanning.writeAccess .m3 (F.FOCUS_CFG.PD 20).addr = .ok ∧ (scanning.tile 20).focus = none ∧
      scanning.focusRing (bitsOf 0x0000027F 16 3) = true ∧ scanning.tiles = [] := by decide +kernel
def focused (left : Nat) : State := scanning.setTile 20 { scanning.tile 20 with focus := some ⟨⟨0, 5, 0⟩, left, true⟩ }
theorem witness_focus_runs :
    (focused 1).writeAccess .m3 (F.FOCUS_CFG.PD 20).addr = .ok ∧ ((focused 1).tile 20).focus.isSome = true ∧
      (focused 1).linkUp 20 = true ∧ ((focused 0).tile 20).focus = some ⟨⟨0, 5, 0⟩, 0, true⟩ ∧
      ((focused 1).tile 20).focus = some ⟨⟨0, 5, 0⟩, 1, true⟩ ∧ scanning.focusRing (bitsOf 0x0001027F 16 3) = false ∧
      (∃ e ∈ (focused 1).tiles, e.1 ≠ (21 : Fin 76).val ∧ ∃ f, e.2.focus = some f ∧ f.id.ring = bitsOf 0x27F 16 3) :=
  ⟨by decide +kernel, by decide +kernel, by decide +kernel, by decide +kernel, by decide +kernel, by decide +kernel,
    _, List.mem_singleton.mpr rfl, by decide, _, rfl, by decide⟩
theorem witness_diag :
    scanning.writeAccess .m3 (F.DIAG_CMD.PD 20).addr = .ok ∧ scanning.diagBusy 20 = false ∧
      bitsOf 0x00000405 10 4 ≠ 0 ∧ bitsOf 5 10 4 = 0 ∧ (scanning.wr (F.DIAG_RESULT.BUSY 20) 1).diagBusy 20 = true := by
  decide +kernel
/-- Another tile of the same course already drives capture bus A. -/
def bussed : State := put scanning [(F.FAST_CFG.A_EN 21, 1)]
theorem witness_fast_cfg :
    scanning.writeAccess .m3 (F.FAST_CFG.BUS_A_PD 20).addr = .ok ∧ scanning.busTaken 20 0 = false ∧ scanning.busTaken 20 1 = false ∧
      bussed.busTaken 20 0 = true ∧ bussed.writeAccess .m3 (F.FAST_CFG.BUS_A_PD 20).addr = .ok ∧ bussed.linkUp 20 = true ∧
      (0x85#32).getLsbD 7 = true := by decide +kernel
theorem witness_link :
    serving.railGood 20 = true ∧ serving.linkUp 20 = false ∧ scanning.linkUp 20 = true ∧ scanning.power.mainUp = true ∧
      scanning.power.vin = true := by decide +kernel
/-- Transactions on their way to tile `x`. -/
def sent (x : Nat) (l : List Txn) : State := scanning.setTile x { scanning.tile x with down := l }
theorem witness_txn_code :
    takeFirst isCode ((sent 20 [.select 1 2, .code 63 1 70000 false, .code 5 2 9 true]).tile 20).down =
        some (.code 63 1 70000 false, [.select 1 2, .code 5 2 9 true]) ∧
      takeFirst isCode ((sent 20 [.code 5 2 9 true]).tile 20).down = some (.code 5 2 9 true, []) ∧
      takeFirst isSelect ((sent 20 [.select 1 2]).tile 20).down = some (.select 1 2, []) ∧
      takeFirst isShutter ((sent 70 [.shutter 3]).tile 70).down = some (.shutter 3, []) ∧ isTrimTile 70 = true ∧
      takeFirst isShutter ((sent 20 [.shutter 3]).tile 20).down = some (.shutter 3, []) ∧ isTrimTile 20 = false ∧
      takeFirst isCode ((sent 20 [.shutter 3]).tile 20).down = none := by decide +kernel

/-! ## Loop engines -/

/-- Loop 1300 (tile 20, channel 20, course 5): its tile driven and its link up; in AUTO; on its way out and into AUTO. -/
def looping : State :=
  put serving [(F.TILE_LINK_STATUS.UP 20, 1), (F.DRV_ENABLE.POCK_EN 20, 1), (F.DRV_ENABLE.HTR_EN 20, 1),
    (F.CODES.CODE_MAX 1300, 65535), (F.HCODES.HCODE_MAX 1300, 65535)]
def inAuto : State := put looping [(loopCtrlTarget 1300, 2), (loopStatState 1300, 2)]
def leaving : State := inAuto.wr (loopCtrlTarget 1300) 1
def entering : State := put looping [(loopCtrlTarget 1300, 2), (loopStatState 1300, 1)]
/-- A record of conversion slot 20 on its way to the engine, with the frame that carried it. -/
def rec0 : Record := ⟨700, 900, 0, 0, false, 0, 0, 0, some 9, 3, false, 0, none⟩
def recorded (s : State) (r : Record) : State :=
  s.setTile 20 { s.tile 20 with recs := [(20, r)], onWay := 1#64 <<< 20, frame := some [] }
theorem witness_record :
    (recorded looping rec0).power.mainUp = true ∧ ((recorded looping rec0).tile 20).onWay.getLsbD 20 = true ∧
      ((recorded looping rec0).tile 20).recs.lookup 20 = some rec0 ∧ (recorded looping rec0).hWarm (loopAt 20 20) = false ∧
      rec0.kind = 0 ∧ (recorded looping rec0).loopState (loopAt 20 20) ≠ 2 ∧
      ((recorded looping rec0).tile 20).frame.isSome = true := by decide +kernel
/-- A record of a focus; of a diagnosis; and no record on its way. -/
def recFocus : Record := { rec0 with kind := 3, focus := some ⟨1, 40, 0⟩ }
theorem witness_record_other :
    ((recorded inAuto recFocus).tile 20).recs.lookup 20 = some recFocus ∧ recFocus.kind = 3 ∧ recFocus.focus = some ⟨1, 40, 0⟩ ∧
      (recorded inAuto recFocus).hWarm (loopAt 20 20) = false ∧ ((recorded inAuto recFocus).tile 20).onWay.getLsbD 20 = true ∧
      ({ rec0 with kind := 2 } : Record).kind ≠ 0 ∧ ({ rec0 with kind := 2 } : Record).kind ≠ 3 ∧
      ((recorded inAuto { rec0 with kind := 2 }).tile 20).recs.lookup 20 = some { rec0 with kind := 2 } ∧
      (inAuto.tile 20).onWay.getLsbD 20 = false ∧ (inAuto.tile 20).frame = none := by decide +kernel
def warmHeld : State := { recorded inAuto rec0 with warmHold := BitVec.allOnes 19 }
theorem witness_record_held : warmHeld.hWarm (loopAt 20 20) = true ∧ (warmHeld.tile 20).recs.lookup 20 = some rec0 := by
  decide +kernel
theorem witness_record_auto :
    (recorded inAuto rec0).hWarm (loopAt 20 20) = false ∧ (recorded inAuto rec0).loopState (loopAt 20 20) = 2 ∧
      ((recorded inAuto rec0).tile 20).recs.lookup 20 = some rec0 := by decide +kernel
/-- NORM set: an update of loop 1300 then issues a ladder code. -/
def midway : State := (recorded inAuto rec0).setWord (F.NORM.NORM_A 1300).addr 0xFFFFFFFF
def issuesCode (e : LoopEffect) : Bool :=
  match e with
  | .code (.code ch _ _ _) => ch == 20
  | _ => false
theorem witness_limits :
    rec0.actSel < 2 ∧ (midway.loopCfgNext 1300).codeMin ≤ (midway.loopCfgNext 1300).codeMax ∧
      (midway.recordEffects 1300 rec0).any issuesCode = true := by decide +kernel
theorem witness_transfers :
    leaving.power.mainUp = true ∧ leaving.loopState 1300 = 2 ∧ leaving.loopGoal 1300 ≠ 2 ∧ leaving.codeInFlight 1300 = false ∧
      entering.power.mainUp = true ∧ entering.loopGoal 1300 = 2 ∧ entering.loopState 1300 ≠ 2 ∧
      inAuto.loopGoal 1300 = 2 ∧ inAuto.loopState 1300 = 2 := by decide +kernel
theorem witness_target :
    looping.writeAccess .m3 (loopCtrlTarget 1300).addr = .ok ∧ (2 : Fin 4).val ≠ 3 ∧ looping.autoRefused 1300 = false ∧
      serving.autoRefused 1300 = true ∧ serving.writeAccess .m3 (loopCtrlTarget 1300).addr = .ok ∧
      looping.writeAccess .m3 (F.COURSE_CTRL.HOLD_ALL 5).addr = .ok ∧ looping.writeAccess .m3 (loopStatState 1300).addr = .ok ∧
      inAuto.writeAccess .m3 (loopCtrlTarget 1300).addr = .ok ∧ inAuto.loopState 1300 = 2 := by decide +kernel
/-- H_EVT set by an event of this clock cycle, which a clear does not reach. -/
def evented : State := inAuto.setEvent (F.LOOP_STAT.H_EVT 5 20)
theorem witness_h_evt :
    evented.hEvt 1300 = true ∧ evented.fresh.contains ((F.LOOP_STAT.H_EVT 5 20).addr, (F.LOOP_STAT.H_EVT 5 20).lsb) = true ∧
      evented.writeAccess .m3 (loopStatState 1300).addr = .ok := by decide +kernel
theorem witness_param :
    looping.writeAccess .m3 (loopWordAddr 1300 6) = .ok ∧
      looping.paramWriteRefused 1300 6 (loopCfgOf fun k => if k = 6 then 0x00050004 &&& accMask (loopWordAddr 1300 6) [.lv]
        else looping.lvWord (loopWordAddr 1300 k)) = false ∧
      looping.paramWriteRefused 1300 6 (loopCfgOf fun k => if k = 6 then 0x00040005 &&& accMask (loopWordAddr 1300 6) [.lv]
        else looping.lvWord (loopWordAddr 1300 k)) = true := by decide +kernel
theorem witness_loop_state :
    looping.writeAccess .m5 (loopWordAddr 1300 14) = .ok ∧ externalHost .m5 = false ∧ externalHost .m3 = true ∧
      looping.writeAccess .m3 (loopWordAddr 1300 12) = .ok ∧ looping.hostMayWrite 1300 = false ∧
      (looping.wr (loopCtrlTarget 1300) 1).hostMayWrite 1300 = true := by decide +kernel
theorem witness_rep_write :
    looping.writeAccess .m3 (F.REP.ENTRY 1300 1 62).addr = .ok ∧ looping.loopState 1300 ≠ 2 ∧
      inAuto.writeAccess .m3 (F.REP.ENTRY 1300 1 62).addr = .ok ∧ inAuto.repFrozen 1300 = false ∧
      (inAuto.setFlag (F.LOOP_CTRL.REP_FREEZE 5 20) true).repFrozen 1300 = true := by decide +kernel

/-! ## The frame parser -/

/-- Lane 7 on, a card lane, its PCS locked; Kowin at EtherType 0x88B5. -/
def laned : State :=
  put serving [(F.LANE_CFG.MODE 7, 3), (F.LANE_STATUS.PCS_LOCK 7, 1), (F.KOWIN_CFG.ETHERTYPE, 0x88B5)]
/-- A frame of EtherType `t` and body `b`, from MAC 2 to MAC 1. -/
def frameOf (t : List Byte) (b : List Byte) : List Byte := [0, 0, 0, 0, 0, 1, 0, 0, 0, 0, 0, 2] ++ t ++ b
def plainFrame : List Byte := frameOf [0x12, 0x34] [9, 9]
def pauseFrame : List Byte := frameOf [0x88, 0x08] [0, 1, 0, 5]
theorem ok_of_some {e : Except ParseStop Chain} {c : Chain} (h : e.toOption = some c) : e = .ok c := by
  cases e with
  | ok x => cases h; rfl
  | error x => cases h
def plainChain : Chain := ⟨0, 0, 0, 0, 0x1234, 0, 0, 0, 14, 2, 2, 0, 0, 0, 0, 0, 0⟩
theorem witness_frame :
    laned.power.mainUp = true ∧ laned.laneOn 7 = true ∧ laned.flag (F.LANE_STATUS.PCS_LOCK 7) = true ∧
      isPause pauseFrame = true ∧ isPause plainFrame = false ∧ laned.walk plainFrame = .ok plainChain :=
  ⟨rfl, by decide +kernel, by decide +kernel, by decide, by decide, ok_of_some (by decide +kernel)⟩
theorem witness_no_rule :
    laned.decidingRule (laned.bankOf (laned.stampFrame 7 0 plainFrame)) (laned.ruleKey 7 0 plainChain) = none ∧
      laned.flag (F.LANE_PCFG.DEFAULT 7) = false := by decide +kernel
/-- Rule 5 of bank 0 sends every frame to firmware. -/
def fwRule : Rule := ⟨0, 0, 3, true, 41⟩
def ruled : State := laned.setRule 5 fwRule
theorem witness_rule :
    ruled.decidingRule (ruled.bankOf (ruled.stampFrame 7 0 plainFrame)) (ruled.ruleKey 7 0 plainChain) = some (5, fwRule) ∧
      bitsOf fwRule.action 0 5 = 3 ∧ ruled.parser.slow.length < 256 := by decide +kernel
/-- Rule 5 with another action. -/
def ruledBy (a : Nat) : State := laned.setRule 5 ⟨0, 0, BitVec.ofNat 32 a, true, 41⟩
theorem witness_rule_actions :
    (ruledBy 0).decidingRule ((ruledBy 0).bankOf ((ruledBy 0).stampFrame 7 0 plainFrame)) ((ruledBy 0).ruleKey 7 0 plainChain) =
        some (5, ⟨0, 0, 0, true, 41⟩) ∧
      (ruledBy 1).decidingRule ((ruledBy 1).bankOf ((ruledBy 1).stampFrame 7 0 plainFrame)) ((ruledBy 1).ruleKey 7 0 plainChain) =
        some (5, ⟨0, 0, 1, true, 41⟩) ∧
      (ruledBy 4).decidingRule ((ruledBy 4).bankOf ((ruledBy 4).stampFrame 7 0 plainFrame)) ((ruledBy 4).ruleKey 7 0 plainChain) =
        some (5, ⟨0, 0, 4, true, 41⟩) ∧
      bitsOf (0 : Word) 0 5 = 0 ∧ bitsOf (1 : Word) 0 5 = 1 ∧ bitsOf (4 : Word) 0 5 = 4 ∧ (ruledBy 4).parser.recirc.length < 32 := by
  decide +kernel
theorem error_of_none {e : Except ParseStop Chain} (h : e.toOption = none) : ∃ x, e = .error x := by
  cases e with
  | ok x => cases h
  | error x => exact ⟨x, rfl⟩
theorem witness_stop : isPause [] = false ∧ ∃ x, laned.walk [] = .error x := ⟨by decide, error_of_none (by decide +kernel)⟩
theorem witness_not_received :
    serving.laneOn 7 = false ∧ laned.parser.recirc = [] ∧ laned.parser.slow = [] ∧
      (laned.wr (F.LANE_STATUS.PCS_LOCK 7) 0).flag (F.LANE_STATUS.PCS_LOCK 7) = false := by decide +kernel
/-- A RELAY of 56 bytes with an inner message of 20. -/
def relayFrame : List Byte :=
  frameOf [0x88, 0xB5] ([1, 0x0B, 0, 56] ++ List.replicate 32 0 ++ [1, 2, 0, 20] ++ List.replicate 16 0)
def relayed : RxFrame := laned.stampFrame 7 0 relayFrame
def recircing : State := { laned with parser := { laned.parser with recirc := [relayed] } }
def innerChain : Chain := ⟨0, 0, 0, 0, 0x88B5, 0, 0, 0, 14, 56, 0, 2, 0, 56, 0, 0, 0⟩
theorem witness_recirc :
    recircing.power.mainUp = true ∧ recircing.parser.recirc = [relayed] ∧
      (recircing.walk relayed.bytes >>= walkInner relayed.bytes) = .ok innerChain ∧
      recircing.decidingRule (recircing.bankOf relayed) (recircing.ruleKey relayed.lane 1 innerChain) = none ∧
      relayed.slowDefault = false ∧ relayed.lane < 64 :=
  ⟨rfl, rfl, ok_of_some (by decide +kernel), by decide +kernel, by decide +kernel, by decide⟩
/-- An ARP request for address 0.0.0.0, the lane's own at reset; and a frame that firmware cannot answer. -/
def arpFrame : List Byte := frameOf [0x08, 0x06] ([0, 1, 8, 0, 6, 4, 0, 1] ++ List.replicate 20 0)
def slowOf (f : List Byte) : SlowFrame := ⟨laned.stampFrame 7 0 f, 0, 0, 5⟩
def answering (f : List Byte) : State := { laned with parser := { laned.parser with slow := [slowOf f] } }
theorem witness_answered :
    (answering arpFrame).parser.slow = [slowOf arpFrame] ∧
      ((answering arpFrame).fwAnswer (slowOf arpFrame)).map (·.echo) = some false := ⟨rfl, by decide +kernel⟩
theorem witness_no_ring :
    (answering plainFrame).parser.slow = [slowOf plainFrame] ∧ (answering plainFrame).fwAnswer (slowOf plainFrame) = none ∧
      (answering plainFrame).ringOn (.parser 0) = false := ⟨rfl, by decide +kernel, by decide +kernel⟩
def ringed : State := (answering plainFrame).setFlag (RingId.parser 0).enable true
theorem witness_to_ring :
    ringed.parser.slow = [slowOf plainFrame] ∧ ringed.fwAnswer (slowOf plainFrame) = none ∧ ringed.ringOn (.parser 0) = true ∧
      ringed.ringFull (.parser 0) = false := ⟨rfl, by decide +kernel, by decide +kernel, by decide +kernel⟩
/-- RULE_SEL at place 3 of the inactive bank 1, RULE_DATA empty; and the parser busy. -/
def selecting : State := put laned [(F.RULE_SEL.BANK, 1), (F.RULE_SEL.INDEX, 3)]
def busy : State := selecting.setFlag F.PARSER_BANK_STATUS.OLD_BUSY true
theorem witness_rule_cmd :
    selecting.writeAccess .m3 F.RULE_CMD.READ.addr = .ok ∧ selecting.rd F.RULE_SEL.BANK ≠ selecting.rd F.PARSER_BANK_STATUS.ACTIVE ∧
      selecting.parserBusy = false ∧
      (ruleOfWords (fun i => selecting.word (F.RULE_DATA.WORD i).addr) (selecting.rule selecting.ruleSel).hits).bad = false ∧
      laned.rd F.RULE_SEL.BANK = laned.rd F.PARSER_BANK_STATUS.ACTIVE ∧ laned.writeAccess .m3 F.RULE_CMD.WRITE.addr = .ok := by
  decide +kernel
theorem witness_swap :
    selecting.writeAccess .m3 F.SWAP_CMD.GO.addr = .ok ∧ busy.writeAccess .m3 F.SWAP_CMD.GO.addr = .ok ∧ busy.parserBusy = true ∧
      (selecting.setWord F.SWAP_FRAME.addr 9).now <
        (selecting.setWord F.SWAP_FRAME.addr 9).frameStart ((selecting.setWord F.SWAP_FRAME.addr 9).rdW F.SWAP_FRAME) ∧
      (selecting.setWord F.SWAP_FRAME.addr 9).parserBusy = false ∧ busy.parser.recirc = [] := by decide +kernel
/-- 5 ns after the swap frame began. -/
def selectingLate : State := { selecting with time := { selecting.time with ns := 5 } }
theorem witness_swap_now :
    selecting.now = selecting.frameStart (selecting.rdW F.SWAP_FRAME) ∧ selecting.parserBusy = false ∧
      selectingLate.frameStart (selectingLate.rdW F.SWAP_FRAME) < selectingLate.now ∧ selectingLate.parserBusy = false ∧
      selectingLate.writeAccess .m3 F.SWAP_CMD.GO.addr = .ok := by decide +kernel
/-- A frame of the old epoch on its way round. -/
def oldFrame : State := { busy with parser := { busy.parser with recirc := [{ relayed with epoch := 7 }] } }
theorem witness_old_busy : oldFrame.power.mainUp = true ∧ ∃ f ∈ oldFrame.parser.recirc, f.epoch ≠ oldFrame.rd F.PARSER_BANK_STATUS.EPOCH :=
  ⟨rfl, _, List.mem_singleton.mpr rfl, by decide +kernel⟩

/-! ## Kowin lanes -/

/-- Lane 7 on, a card lane in state `k`, its limit 8 ahead of its use, the unit composing for itself. -/
def carded (k : Nat) : State :=
  put serving [(F.LANE_CFG.MODE 7, 3), (F.LANE_STATUS.STATE 7, k), (F.CREDIT.LIMIT 7, 8), (F.PLANE_MODE.MODE, 1),
    (F.FOLLOW_CFG.MODE, 1)]
theorem witness_lane :
    (carded 0).laneOn 7 = true ∧ (carded 0).start = 4 ∧ (carded 0).rd (F.LANE_STATUS.STATE 7) = 0 ∧
      (carded 0).power.mainUp = true ∧ (carded 2).power.vin = true ∧ (carded 2).laneIsUp 7 = true ∧
      (carded 2).rd (F.LANE_STATUS.STATE 7) ≠ 0 ∧ serving.laneOn 7 = false ∧ (carded 1).laneIsUp 7 = false := by decide +kernel
/-- A header with its CRC right, of sequence number `n` and length `len`. -/
def headOf (n len : Nat) : KHeader := ⟨0, len, n, false, false, false, 0, 0, 0, true⟩
def hello1 : EpHello := ⟨1, true, 5, 77, 88, []⟩
def helloed : State := (carded 1).setLane 7 { laneIdle with sentSeen := true }
theorem witness_hello :
    (carded 1).isCard 7 = true ∧ (carded 1).rd (F.LANE_STATUS.STATE 7) = 1 ∧ (headOf 0 20).crcOk = true ∧ hello1.version = 1 ∧
      (helloed.lane 7).sentSeen = true ∧ hello1.peerSeen = true ∧ helloed.isCard 7 = true ∧
      helloed.rd (F.LANE_STATUS.STATE 7) = 1 ∧ ((carded 1).lane 7).sentSeen = false ∧ { hello1 with version := 2 }.version ≠ 1 ∧
      (carded 0).isCard 7 = true ∧ (carded 0).rd (F.LANE_STATUS.STATE 7) = 0 ∧
      ({ headOf 0 20 with crcOk := false } : KHeader).crcOk = false := by
  decide +kernel
/-- Messages that wait: an ECHO, and a GRANT part of frame 0. -/
def echoTx : TxMsg := ⟨0x0A, 0, false, false, none, List.replicate 40 0, none⟩
def grantTx : TxMsg := ⟨3, 9, true, false, some 0, List.replicate 16 0, none⟩
def waiting (x : TxMsg) : State := (carded 2).setLane 7 { laneIdle with txq := [x] }
theorem witness_transmit :
    (waiting echoTx).power.mainUp = true ∧ (waiting echoTx).rd (F.LANE_STATUS.STATE 7) ≠ 0 ∧
      (((waiting echoTx).lane 7).txq.find? fun x => (waiting echoTx).maySend 7 x) = some echoTx ∧ echoTx.grant = none ∧
      consumesCredit echoTx.type = false ∧ (waiting echoTx).laneIsUp 7 = true ∧
      (((waiting grantTx).lane 7).txq.find? fun x => (waiting grantTx).maySend 7 x) = some grantTx ∧ grantTx.grant = some 0 ∧
      grantTx.raw = none ∧ (waiting grantTx).frameStart 0 ≤ (waiting grantTx).now + 5 := by decide +kernel
/-- The same with the lane down; and nothing that waits. -/
def waitingDown : State := (carded 0).setLane 7 { laneIdle with txq := [echoTx] }
theorem witness_transmit_none :
    waitingDown.rd (F.LANE_STATUS.STATE 7) = 0 ∧ (carded 2).rd (F.LANE_STATUS.STATE 7) ≠ 0 ∧
      (((carded 2).lane 7).txq.find? fun x => (carded 2).maySend 7 x) = none := by decide +kernel
/-- Lane 7 a tier lane. -/
def tiered : State := (carded 2).setFlag (F.LANE_CFG.ROLE 7) true
def awaited : State := (carded 2).setLane 7 { laneIdle with echo := [⟨42, true⟩, ⟨43, false⟩] }
theorem witness_echo :
    (carded 2).writeAccess .m3 F.ECHO_CMD.GO.addr = .ok ∧ tiered.isTier 7 = true ∧ tiered.laneIsUp 7 = true ∧
      (awaited.lane 7).echo = [⟨42, true⟩, ⟨43, false⟩] ∧ awaited.power.mainUp = true ∧ awaited.power.vin = true ∧
      (carded 2).writeAccess .m3 F.CTX_SEL.INDEX.addr = .ok ∧ (carded 1).writeAccess .m3 F.ECHO_CMD.GO.addr = .ok ∧
      (carded 1).laneIsUp 7 = false ∧ (carded 2).isTier 7 = false ∧ ((carded 2).lane 7).echo = [] := by decide +kernel
def demand2 : DemandMsg := ⟨2, 1, 1, [⟨3, 2, 0, false, 4⟩]⟩
theorem witness_demand :
    InOrder (carded 2) 7 (headOf 1 36) ∧ (carded 2).isCard 7 = true ∧ (carded 2).follows = false ∧ (carded 2).hier.join = none ∧
      demandBad (headOf 1 36) demand2 = false ∧ (carded 2).planeMode ≠ 0 ∧ (carded 2).nextCutFrame + 1 ≤ demand2.frame ∧
      demand2.frame ≤ (carded 2).nextCutFrame + 2 ∧
      (carded 2).now + 1000 * (carded 2).rd F.COMP_CFG.DEMAND_CLOSE_US ≤ (carded 2).frameStart (carded 2).nextCutFrame ∧
      ((carded 2).comp.held.filter fun d => d.source == 7 && d.msg.frame == demand2.frame).length < 4 ∧
      demandBad (headOf 1 36) { demand2 with frame := 1 } = false ∧
      ({ demand2 with frame := 1 } : DemandMsg).frame < (carded 2).nextCutFrame + 1 ∧ (carded 2).power.vin = true := by
  unfold InOrder
  decide +kernel
/-- Four DEMANDs of the frame held already; and CIRCUIT mode. -/
def demanded : State :=
  { carded 2 with comp := { (carded 2).comp with held := List.replicate 4 ⟨7, true, 1, demand2⟩ } }
def circuitMode : State := (carded 2).wr F.PLANE_MODE.MODE 0
theorem witness_demand_refused :
    InOrder demanded 7 (headOf 1 36) ∧ demanded.planeMode ≠ 0 ∧ demanded.nextCutFrame + 1 ≤ demand2.frame ∧
      demand2.frame ≤ demanded.nextCutFrame + 2 ∧
      demanded.now + 1000 * demanded.rd F.COMP_CFG.DEMAND_CLOSE_US ≤ demanded.frameStart demanded.nextCutFrame ∧
      4 ≤ (demanded.comp.held.filter fun d => d.source == 7 && d.msg.frame == demand2.frame).length ∧
      demanded.isCard 7 = true ∧ demanded.follows = false ∧ demanded.hier.join = none ∧ InOrder circuitMode 7 (headOf 1 36) ∧
      circuitMode.planeMode = 0 ∧ circuitMode.isCard 7 = true ∧ circuitMode.follows = false ∧ circuitMode.hier.join = none := by
  unfold InOrder
  decide +kernel
/-- A worker in FOLLOW. -/
def following : State := (carded 2).wr F.FOLLOW_CFG.MODE 0
theorem witness_follow :
    InOrder following 7 (headOf 1 36) ∧ following.isCard 7 = true ∧ following.follows = true := by
  unfold InOrder
  decide +kernel
/-- CIRCUIT mode, ports 0 and 511 owned by lanes 7 and 8. -/
def circuited : State :=
  put (carded 2) [(F.PLANE_MODE.MODE, 0), (F.IN_OWNER.ENDPOINT 0, 7), (F.IN_OWNER.VALID 0, 1), (F.OUT_OWNER.ENDPOINT 511, 8),
    (F.OUT_OWNER.VALID 511, 1)]
def setup1 : SetupMsg := ⟨9, false, 8, 0, 511, 0, 0, 0, 0⟩
def release1 : ReleaseMsg := ⟨9, 7, 0, 0⟩
def status1 : StatusMsg := ⟨0, 0x12345678⟩
theorem witness_circuit :
    InOrder circuited 7 (headOf 1 60) ∧ circuited.isCard 7 = true ∧ circuited.follows = false ∧ circuited.hier.join = none ∧
      (headOf 1 60).retry = false ∧ circuited.circuitOpOk 7 circuited.now (.setup setup1) = 0 ∧
      circuited.circuitOpOk 7 circuited.now (.setup { setup1 with inPort := 1 }) ≠ 0 ∧
      circuited.circuitOpOk 7 circuited.now (.release release1) = 0 ∧ status1.code = 0 := by
  unfold InOrder
  decide +kernel
/-- A RETRY of the SETUP: still open, and answered. -/
def retryHead : KHeader := { headOf 1 60 with retry := true }
def op1 : StandOp := ⟨7, 1, agentOf 7 8, .setup setup1⟩
def answer1 : Answer := ⟨7, 1, .setup setup1, true, 0, 3, 4, some 0⟩
def openNow : State := { circuited with plane := { circuited.plane with ops := [op1] } }
def answered : State :=
  { circuited with plane := { circuited.plane with ctxs := [(0, ⟨2, false, 0, 7, 7, 8, 9, 0, 0, 511, 1, 0, 0, 0, [answer1]⟩)] } }
theorem witness_retry :
    InOrder openNow 7 retryHead ∧ retryHead.retry = true ∧ openNow.retryOf 7 (.setup setup1) = some none ∧
      openNow.isCard 7 = true ∧ openNow.follows = false ∧ openNow.hier.join = none ∧ InOrder answered 7 retryHead ∧
      answered.retryOf 7 (.setup setup1) = some (some answer1) ∧ answer1.ack = true := by
  unfold InOrder
  decide +kernel
theorem witness_release_refused :
    circuited.circuitOpOk 7 circuited.now (.release { release1 with sec := 1 }) ≠ 0 ∧ ({ status1 with code := 1 } : StatusMsg).code = 1 := by
  decide +kernel
def ask : EchoMsg := ⟨0, 42, ⟨0, 1⟩, ⟨0, 0⟩, ⟨0, 0⟩⟩
theorem witness_echo_message :
    (carded 2).isCard 7 = true ∧ (carded 2).rd (F.LANE_STATUS.STATE 7) ≠ 0 ∧ ask.op = 0 ∧ { ask with op := 1 }.op ≠ 0 ∧
      awaited.isCard 7 = true ∧ awaited.rd (F.LANE_STATUS.STATE 7) ≠ 0 ∧
      ((awaited.lane 7).echo.find? fun e => e.token == { ask with op := 1 }.token) = some ⟨42, true⟩ ∧
      (((carded 2).lane 7).echo.find? fun e => e.token == { ask with op := 1 }.token) = none := by decide +kernel

/-! ## Managers, workers and twins -/

/-- Lane 7 a tier lane in state `k`, its limit 8 ahead of its use, one slot a frame; the unit a worker. -/
def worker (k : Nat) : State :=
  put serving [(F.LANE_CFG.MODE 7, 3), (F.LANE_CFG.ROLE 7, 1), (F.LANE_STATUS.STATE 7, k), (F.CREDIT.LIMIT 7, 8),
    (F.PLANE_MODE.MODE, 1), (F.FRAME_CFG.SLOTS, 1), (F.FOLLOW_CFG.MGR_LANE_A, 7), (F.TIER_PEER.UNIT 7, 3)]
/-- The unit a manager, lane 7 its twin lane, in twin state `k`. -/
def manager (k : Nat) : State :=
  put (worker 2) [(F.HIER_INFO.ROLE, 1), (F.HIER_INFO.TWIN_EN, 1), (F.HIER_INFO.TWIN_LANE, 7), (F.TWIN_STATUS.STATE, k)]
def tHead (n : Nat) : KHeader := ⟨0, 60, n, true, true, false, 3, 9, 0, true⟩
def tHello : TierHello := ⟨1, true, false, 1, 3, 0, 0, 9, 0, 0, 0, 5, 88, []⟩
def tHelloed : State := (worker 1).setLane 7 { laneIdle with sentSeen := true }
theorem witness_tier_hello :
    (worker 1).power.mainUp = true ∧ (worker 1).isTier 7 = true ∧ (worker 1).rd (F.LANE_STATUS.STATE 7) = 1 ∧
      tHello.version = 1 ∧ (worker 1).tagsAgree 7 tHello = true ∧ (worker 1).unitExpected 7 tHello = true ∧
      ((worker 1).lane 7).sentSeen = false ∧ tHelloed.tagsAgree 7 tHello = true ∧ tHelloed.unitExpected 7 tHello = true ∧
      (tHelloed.lane 7).sentSeen = true ∧ tHello.peerSeen = true ∧ tHelloed.rd (F.LANE_STATUS.STATE 7) = 1 ∧
      tHelloed.isTier 7 = true ∧ (worker 1).tagsAgree 7 { tHello with sysTag := 1 } = false ∧ (worker 1).power.vin = true := by
  decide +kernel
theorem witness_tier_hello_else :
    (worker 1).unitExpected 7 { tHello with unit := 4 } = false ∧ (worker 2).isTier 7 = true ∧ (worker 2).laneIsUp 7 = true ∧
      (worker 2).power.mainUp = true ∧ (worker 2).power.vin = true ∧ (worker 0).power.mainUp = true ∧
      (worker 0).isTier 7 = true ∧ (worker 0).rd (F.LANE_STATUS.STATE 7) = 0 ∧ (tHead 0).crcOk = true ∧
      ({ tHead 0 with crcOk := false } : KHeader).crcOk = false ∧ ({ tHello with version := 2 } : TierHello).version ≠ 1 ∧
      (worker 2).rd (F.LANE_STATUS.STATE 7) ≠ 0 ∧ InOrder (worker 2) 7 (tHead 1) := by
  unfold InOrder
  decide +kernel
def accord1 : AccordMsg := ⟨1, 0, [1, 2]⟩
def end1 : FrameEndMsg := ⟨1, 1, 2, 3, 4, 5⟩
def stand1 (k : Nat) : StandingMsg := ⟨k, 4, 0, 0, [1]⟩
def switch1 : SwitchMsg := ⟨0, 15, true, 1, 0, 400⟩
theorem witness_tier_messages :
    InOrder (worker 2) 7 (tHead 1) ∧ (worker 2).isTier 7 = true ∧ (worker 2).follows = true ∧
      accord1.frame = (worker 2).frame + 1 ∧ end1.frame = (worker 2).frame + 1 ∧ (stand1 0).kind = 0 ∧ (stand1 2).kind = 2 ∧
      switch1.op = 0 ∧ (worker 2).hier.lastSwitch ≠ some (15, 1, 0, 400) ∧
      (worker 2).now + 400 ≤ (worker 2).boundaryTime ((worker 2).slotNumber 1 0) + 400 := by
  unfold InOrder
  decide +kernel
theorem witness_twin_end :
    InOrder (manager 2) 7 (tHead 1) ∧ (manager 2).isTier 7 = true ∧ (manager 2).isManager = true ∧
      (manager 2).isTwinLane 7 = true ∧ (manager 2).twin ≠ 4 ∧ (manager 2).hier.join = none := by
  unfold InOrder
  decide +kernel
/-- A worker of two managers. -/
def paired : State := put (worker 2) [(F.FOLLOW_CFG.B_VALID, 1), (F.FOLLOW_CFG.MGR_LANE_B, 8)]
/-- One that has already taken the other manager's copy `p`. -/
def copied (p : StandingMsg) : State := { paired with hier := { paired.hier with arms := [⟨9, 5, p⟩] } }
theorem witness_manager_no_use :
    InOrder (manager 2) 7 (tHead 1) ∧ (manager 2).isTier 7 = true ∧ (manager 2).follows = false ∧
      ({ accord1 with frame := 3 } : AccordMsg).frame ≠ (worker 2).frame + 1 := by
  unfold InOrder
  decide +kernel
theorem witness_standing_arm :
    (∀ s ∈ [worker 2, paired, copied (stand1 2), copied (stand1 1)], InOrder s 7 (tHead 1) ∧ s.isTier 7 = true ∧
      s.follows = true) ∧ (stand1 1).kind = 1 ∧
      ((worker 2).hier.arms.find? fun c => c.unit != (tHead 1).unit && sameArm c.msg (stand1 1)) = none ∧
      (paired.hier.arms.find? fun c => c.unit != (tHead 1).unit && sameArm c.msg (stand1 2)) = none ∧
      ((copied (stand1 2)).hier.arms.find? fun c => c.unit != (tHead 1).unit && sameArm c.msg (stand1 2)) =
        some ⟨9, 5, stand1 2⟩ ∧
      ((copied (stand1 1)).hier.arms.find? fun c => c.unit != (tHead 1).unit && sameArm c.msg (stand1 1)) =
        some ⟨9, 5, stand1 1⟩ := by
  unfold InOrder
  decide +kernel
/-- The switch has been taken; and its strobe is too near. -/
def switchedOnce : State := { worker 2 with hier := { (worker 2).hier with lastSwitch := some (15, 1, 0, 400) } }
def switchLate : State :=
  { worker 2 with time := { (worker 2).time with ns := (worker 2).boundaryTime ((worker 2).slotNumber 1 0) } }
theorem witness_switch_else :
    InOrder switchedOnce 7 (tHead 1) ∧ switchedOnce.isTier 7 = true ∧ switchedOnce.follows = true ∧
      switchedOnce.power.vin = true ∧ switchedOnce.hier.lastSwitch = some (switch1.index, switch1.frame, switch1.slot, switch1.offset) ∧
      InOrder switchLate 7 (tHead 1) ∧ switchLate.isTier 7 = true ∧ switchLate.follows = true ∧ switchLate.power.vin = true ∧
      switchLate.hier.lastSwitch ≠ some (15, 1, 0, 399) ∧
      switchLate.boundaryTime (switchLate.slotNumber 1 0) + 399 < switchLate.now + 400 := by
  unfold InOrder
  decide +kernel
/-- Lane 9 a card lane that is UP; an inner STATUS from it. -/
def relaying (s : State) : State := put s [(F.LANE_CFG.MODE 9, 3), (F.LANE_STATUS.STATE 9, 2)]
def inner9 : List Byte := messageBytes 9 (⟨0, 40, 1, false, false, false, 0, 0, 0, true⟩) (statusBytes ⟨0, 77⟩)
theorem witness_relay :
    (relaying (worker 2)).isTier 7 = true ∧ (relaying (worker 2)).rd (F.LANE_STATUS.STATE 7) = 2 ∧
      (relaying (worker 2)).creditLeft 7 = true ∧ (relaying (worker 2)).follows = true ∧ (relaying (worker 2)).isCard 9 = true ∧
      (relaying (worker 2)).laneIsUp 9 = true := by decide +kernel
theorem witness_relay_dropped :
    (worker 2).isTier 7 = true ∧ (worker 2).rd (F.LANE_STATUS.STATE 7) = 2 ∧ (worker 2).creditLeft 7 = true ∧
      (worker 2).follows = true ∧ (worker 2).power.mainUp = true ∧ (worker 2).isCard 9 = false := by decide +kernel
theorem witness_relay_status :
    (manager 2).isTier 7 = true ∧ (manager 2).creditLeft 7 = true ∧ (manager 2).isManager = true ∧
      (headerOf inner9).crcOk = true ∧ (headerOf inner9).type = 9 ∧
      statusOf (slice inner9 20 ((headerOf inner9).length - 20)) = some ⟨0, 77⟩ ∧
      newer (headerOf inner9).seq ((manager 2).rd (F.RX_SEQ.SEQ 9)) = true := by decide +kernel
/-- A worker whose bank composes, with and without a complete copy of the coming frame. -/
def frame1 : Accord := { accordEmpty with kind := 1, frame := 1, bodyCrc := 1515991110, hcrc := 1269258802 }
def starved : State := (worker 2).setBank 1 1
def supplied : State :=
  starved.setRxBuf 7 ⟨1, [(0, frame1.bytes)], some ⟨1, 1, 436598374, 0, 0, 0⟩, 9, 3⟩
theorem witness_starved :
    starved.power.mainUp = true ∧ starved.power.vin = true ∧ starved.follows = true ∧ starved.bank (starved.frame + 1) = 1 ∧
      starved.mgrLanes = [7] ∧ starved.completeCopy (starved.rxBuf 7) = none := by decide +kernel
theorem crc_zeros {m : Nat} {c d e : BitVec 32} (h : (List.replicate 23 (0 : Byte)).foldl crc32Byte c = d)
    (h' : (List.replicate m (0 : Byte)).foldl crc32Byte d = e) : (List.replicate (23 + m) (0 : Byte)).foldl crc32Byte c = e := by
  rw [← List.replicate_append_replicate, List.foldl_append, h, h']
theorem zeros_0 : (List.replicate 23 (0 : Byte)).foldl crc32Byte (BitVec.allOnes 32) = 2371869627#32 := by decide +kernel
theorem zeros_1 : (List.replicate 23 (0 : Byte)).foldl crc32Byte (2371869627#32) = 4236310292#32 := by decide +kernel
theorem zeros_2 : (List.replicate 23 (0 : Byte)).foldl crc32Byte (4236310292#32) = 2240419913#32 := by decide +kernel
theorem zeros_3 : (List.replicate 23 (0 : Byte)).foldl crc32Byte (2240419913#32) = 1028315416#32 := by decide +kernel
theorem zeros_4 : (List.replicate 23 (0 : Byte)).foldl crc32Byte (1028315416#32) = 4199028634#32 := by decide +kernel
theorem zeros_5 : (List.replicate 23 (0 : Byte)).foldl crc32Byte (4199028634#32) = 164802383#32 := by decide +kernel
theorem zeros_6 : (List.replicate 23 (0 : Byte)).foldl crc32Byte (164802383#32) = 4193003459#32 := by decide +kernel
theorem zeros_7 : (List.replicate 23 (0 : Byte)).foldl crc32Byte (4193003459#32) = 2950934601#32 := by decide +kernel
theorem zeros_8 : (List.replicate 23 (0 : Byte)).foldl crc32Byte (2950934601#32) = 3616751328#32 := by decide +kernel
theorem zeros_9 : (List.replicate 23 (0 : Byte)).foldl crc32Byte (3616751328#32) = 3148047338#32 := by decide +kernel
theorem zeros_10 : (List.replicate 23 (0 : Byte)).foldl crc32Byte (3148047338#32) = 3890327969#32 := by decide +kernel
theorem zeros_11 : (List.replicate 23 (0 : Byte)).foldl crc32Byte (3890327969#32) = 2153662743#32 := by decide +kernel
theorem zeros_12 : (List.replicate 23 (0 : Byte)).foldl crc32Byte (2153662743#32) = 349531236#32 := by decide +kernel
theorem zeros_13 : (List.replicate 23 (0 : Byte)).foldl crc32Byte (349531236#32) = 251573720#32 := by decide +kernel
theorem zeros_14 : (List.replicate 23 (0 : Byte)).foldl crc32Byte (251573720#32) = 4207943686#32 := by decide +kernel
theorem zeros_15 : (List.replicate 23 (0 : Byte)).foldl crc32Byte (4207943686#32) = 465934637#32 := by decide +kernel
theorem zeros_16 : (List.replicate 23 (0 : Byte)).foldl crc32Byte (465934637#32) = 1221012125#32 := by decide +kernel
theorem zeros_17 : (List.replicate 23 (0 : Byte)).foldl crc32Byte (1221012125#32) = 2305483168#32 := by decide +kernel
theorem zeros_18 : (List.replicate 23 (0 : Byte)).foldl crc32Byte (2305483168#32) = 574056201#32 := by decide +kernel
theorem zeros_19 : (List.replicate 23 (0 : Byte)).foldl crc32Byte (574056201#32) = 3644567901#32 := by decide +kernel
theorem zeros_20 : (List.replicate 23 (0 : Byte)).foldl crc32Byte (3644567901#32) = 573599962#32 := by decide +kernel
theorem zeros_21 : (List.replicate 23 (0 : Byte)).foldl crc32Byte (573599962#32) = 87807781#32 := by decide +kernel
theorem zeros_22 : (List.replicate 23 (0 : Byte)).foldl crc32Byte (87807781#32) = 2030910824#32 := by decide +kernel
theorem zeros_23 : (List.replicate 23 (0 : Byte)).foldl crc32Byte (2030910824#32) = 1268475731#32 := by decide +kernel
theorem zeros_24 : (List.replicate 23 (0 : Byte)).foldl crc32Byte (1268475731#32) = 1969493681#32 := by decide +kernel
theorem zeros_25 : (List.replicate 23 (0 : Byte)).foldl crc32Byte (1969493681#32) = 3723404564#32 := by decide +kernel
theorem zeros_26 : (List.replicate 23 (0 : Byte)).foldl crc32Byte (3723404564#32) = 119453595#32 := by decide +kernel
theorem zeros_27 : (List.replicate 23 (0 : Byte)).foldl crc32Byte (119453595#32) = 243913205#32 := by decide +kernel
theorem zeros_28 : (List.replicate 23 (0 : Byte)).foldl crc32Byte (243913205#32) = 1023015526#32 := by decide +kernel
theorem zeros_29 : (List.replicate 23 (0 : Byte)).foldl crc32Byte (1023015526#32) = 1348966803#32 := by decide +kernel
theorem zeros_30 : (List.replicate 23 (0 : Byte)).foldl crc32Byte (1348966803#32) = 3951173917#32 := by decide +kernel
theorem zeros_31 : (List.replicate 23 (0 : Byte)).foldl crc32Byte (3951173917#32) = 2778976185#32 := by decide +kernel
theorem crc_736 : (List.replicate 736 (0 : Byte)).foldl crc32Byte (BitVec.allOnes 32) = 2778976185#32 := by
  have h30 : (List.replicate 46 (0 : Byte)).foldl crc32Byte (1348966803#32) = 2778976185#32 :=
    crc_zeros (m := 23) zeros_30 zeros_31
  have h29 : (List.replicate 69 (0 : Byte)).foldl crc32Byte (1023015526#32) = 2778976185#32 :=
    crc_zeros (m := 46) zeros_29 h30
  have h28 : (List.replicate 92 (0 : Byte)).foldl crc32Byte (243913205#32) = 2778976185#32 :=
    crc_zeros (m := 69) zeros_28 h29
  have h27 : (List.replicate 115 (0 : Byte)).foldl crc32Byte (119453595#32) = 2778976185#32 :=
    crc_zeros (m := 92) zeros_27 h28
  have h26 : (List.replicate 138 (0 : Byte)).foldl crc32Byte (3723404564#32) = 2778976185#32 :=
    crc_zeros (m := 115) zeros_26 h27
  have h25 : (List.replicate 161 (0 : Byte)).foldl crc32Byte (1969493681#32) = 2778976185#32 :=
    crc_zeros (m := 138) zeros_25 h26
  have h24 : (List.replicate 184 (0 : Byte)).foldl crc32Byte (1268475731#32) = 2778976185#32 :=
    crc_zeros (m := 161) zeros_24 h25
  have h23 : (List.replicate 207 (0 : Byte)).foldl crc32Byte (2030910824#32) = 2778976185#32 :=
    crc_zeros (m := 184) zeros_23 h24
  have h22 : (List.replicate 230 (0 : Byte)).foldl crc32Byte (87807781#32) = 2778976185#32 :=
    crc_zeros (m := 207) zeros_22 h23
  have h21 : (List.replicate 253 (0 : Byte)).foldl crc32Byte (573599962#32) = 2778976185#32 :=
    crc_zeros (m := 230) zeros_21 h22
  have h20 : (List.replicate 276 (0 : Byte)).foldl crc32Byte (3644567901#32) = 2778976185#32 :=
    crc_zeros (m := 253) zeros_20 h21
  have h19 : (List.replicate 299 (0 : Byte)).foldl crc32Byte (574056201#32) = 2778976185#32 :=
    crc_zeros (m := 276) zeros_19 h20
  have h18 : (List.replicate 322 (0 : Byte)).foldl crc32Byte (2305483168#32) = 2778976185#32 :=
    crc_zeros (m := 299) zeros_18 h19
  have h17 : (List.replicate 345 (0 : Byte)).foldl crc32Byte (1221012125#32) = 2778976185#32 :=
    crc_zeros (m := 322) zeros_17 h18
  have h16 : (List.replicate 368 (0 : Byte)).foldl crc32Byte (465934637#32) = 2778976185#32 :=
    crc_zeros (m := 345) zeros_16 h17
  have h15 : (List.replicate 391 (0 : Byte)).foldl crc32Byte (4207943686#32) = 2778976185#32 :=
    crc_zeros (m := 368) zeros_15 h16
  have h14 : (List.replicate 414 (0 : Byte)).foldl crc32Byte (251573720#32) = 2778976185#32 :=
    crc_zeros (m := 391) zeros_14 h15
  have h13 : (List.replicate 437 (0 : Byte)).foldl crc32Byte (349531236#32) = 2778976185#32 :=
    crc_zeros (m := 414) zeros_13 h14
  have h12 : (List.replicate 460 (0 : Byte)).foldl crc32Byte (2153662743#32) = 2778976185#32 :=
    crc_zeros (m := 437) zeros_12 h13
  have h11 : (List.replicate 483 (0 : Byte)).foldl crc32Byte (3890327969#32) = 2778976185#32 :=
    crc_zeros (m := 460) zeros_11 h12
  have h10 : (List.replicate 506 (0 : Byte)).foldl crc32Byte (3148047338#32) = 2778976185#32 :=
    crc_zeros (m := 483) zeros_10 h11
  have h9 : (List.replicate 529 (0 : Byte)).foldl crc32Byte (3616751328#32) = 2778976185#32 :=
    crc_zeros (m := 506) zeros_9 h10
  have h8 : (List.replicate 552 (0 : Byte)).foldl crc32Byte (2950934601#32) = 2778976185#32 :=
    crc_zeros (m := 529) zeros_8 h9
  have h7 : (List.replicate 575 (0 : Byte)).foldl crc32Byte (4193003459#32) = 2778976185#32 :=
    crc_zeros (m := 552) zeros_7 h8
  have h6 : (List.replicate 598 (0 : Byte)).foldl crc32Byte (164802383#32) = 2778976185#32 :=
    crc_zeros (m := 575) zeros_6 h7
  have h5 : (List.replicate 621 (0 : Byte)).foldl crc32Byte (4199028634#32) = 2778976185#32 :=
    crc_zeros (m := 598) zeros_5 h6
  have h4 : (List.replicate 644 (0 : Byte)).foldl crc32Byte (1028315416#32) = 2778976185#32 :=
    crc_zeros (m := 621) zeros_4 h5
  have h3 : (List.replicate 667 (0 : Byte)).foldl crc32Byte (2240419913#32) = 2778976185#32 :=
    crc_zeros (m := 644) zeros_3 h4
  have h2 : (List.replicate 690 (0 : Byte)).foldl crc32Byte (4236310292#32) = 2778976185#32 :=
    crc_zeros (m := 667) zeros_2 h3
  have h1 : (List.replicate 713 (0 : Byte)).foldl crc32Byte (2371869627#32) = 2778976185#32 :=
    crc_zeros (m := 690) zeros_1 h2
  have h0 : (List.replicate 736 (0 : Byte)).foldl crc32Byte (BitVec.allOnes 32) = 2778976185#32 :=
    crc_zeros (m := 713) zeros_0 h1
  exact h0
theorem frame1_body : frame1.body = List.replicate 736 0 := by decide +kernel
theorem frame1_head : (crc32 frame1.head).toNat = 1269258802 := by decide +kernel
theorem frame1_sound : frame1.sound = true := by
  have hb : (crc32 frame1.body).toNat = 1515991110 := by
    rw [frame1_body, crc32, crc_736]
    decide
  have e1 : frame1.bodyCrc = 1515991110 := rfl
  have e2 : frame1.hcrc = 1269258802 := rfl
  rw [Accord.sound, hb, frame1_head, e1, e2]
  decide
theorem frame1_back : Accord.ofBytes frame1.bytes = frame1 := by decide +kernel
theorem witness_supplied :
    supplied.follows = true ∧ supplied.bank (supplied.frame + 1) = 1 ∧ supplied.mgrLanes = [7] ∧
      supplied.completeCopy (supplied.rxBuf 7) = some [frame1] := by
  refine ⟨by decide +kernel, by decide +kernel, by decide +kernel, ?_⟩
  have hs : supplied.slots = 1 := by decide +kernel
  have hf : supplied.frame = 0 := by decide +kernel
  have hb : supplied.rxBuf 7 = ⟨1, [(0, frame1.bytes)], some ⟨1, 1, 436598374, 0, 0, 0⟩, 9, 3⟩ := by
    simp only [State.rxBuf, hf]
    rfl
  have hc : crcOfNats [frame1.hcrc] = 436598374 := by decide +kernel
  have hl : [(0, frame1.bytes)].lookup 0 = some frame1.bytes := rfl
  have hr : List.range 1 = [0] := rfl
  simp only [State.completeCopy, hb, hs, hf, hr, hl, List.filterMap_cons, List.filterMap_nil, Option.map_some, frame1_back,
    List.all_cons, List.all_nil, frame1_sound, List.map_cons, List.map_nil, hc, List.length_cons, List.length_nil]
  rfl
/-- The same worker of two managers, the second silent. -/
def survived : State := put supplied [(F.FOLLOW_CFG.B_VALID, 1), (F.FOLLOW_CFG.MGR_LANE_B, 8)]
theorem witness_survivor :
    survived.power.mainUp = true ∧ survived.power.vin = true ∧ survived.follows = true ∧
      survived.bank (survived.frame + 1) = 1 ∧ survived.mgrLanes = [7, 8] ∧
      survived.completeCopy (survived.rxBuf 8) = none ∧ (manager 2).follows = false ∧
      (worker 2).bank ((worker 2).frame + 1) ≠ 1 := by decide +kernel
theorem witness_survivor_copy : survived.completeCopy (survived.rxBuf 7) = some [frame1] := by
  have hs : survived.slots = 1 := by decide +kernel
  have hf : survived.frame = 0 := by decide +kernel
  have hb : survived.rxBuf 7 = ⟨1, [(0, frame1.bytes)], some ⟨1, 1, 436598374, 0, 0, 0⟩, 9, 3⟩ := by
    simp only [State.rxBuf, hf]
    rfl
  have hc : crcOfNats [frame1.hcrc] = 436598374 := by decide +kernel
  have hl : [(0, frame1.bytes)].lookup 0 = some frame1.bytes := rfl
  have hr : List.range 1 = [0] := rfl
  simp only [State.completeCopy, hb, hs, hf, hr, hl, List.filterMap_cons, List.filterMap_nil, Option.map_some, frame1_back,
    List.all_cons, List.all_nil, frame1_sound, List.map_cons, List.map_nil, hc, List.length_cons, List.length_nil]
  rfl
def due1 : StandCopy := ⟨9, 3, ⟨0, 4, 0, 0, frame1.bytes⟩⟩
def dueNow : State :=
  { worker 2 with hier := { (worker 2).hier with stands := [{ due1 with msg := { due1.msg with frame := 1 } }] },
                  time := { (worker 2).time with ns := 1500 } }
theorem witness_standing_due :
    dueNow.follows = true ∧ dueNow.hier.stands.map (·.msg.frame) = [1] ∧
      dueNow.now < dueNow.boundaryTime (dueNow.slotNumber 1 0) ∧ dueNow.boundaryTime (dueNow.slotNumber 1 0) ≤ dueNow.now + 1004 := by
  decide +kernel
theorem witness_none_due :
    (worker 2).power.mainUp = true ∧ (∀ c ∈ ({ dueNow with time := (worker 2).time } : State).hier.stands,
      ({ dueNow with time := (worker 2).time } : State).now + 1004 <
        ({ dueNow with time := (worker 2).time } : State).boundaryTime
          (({ dueNow with time := (worker 2).time } : State).slotNumber c.msg.frame c.msg.slot)) := by decide +kernel
def joinable : State := put (manager 1) [(F.PEER_INFO.PEER_CLAIM, 9)]
theorem witness_twin_cmd :
    (manager 1).writeAccess .m3 F.TWIN_CMD.LEAD.addr = .ok ∧ (manager 1).twin = 1 ∧ (manager 4).twin = 4 ∧
      (manager 4).writeAccess .m3 F.TWIN_CMD.LEAD.addr = .ok ∧ (manager 4).power.vin = true ∧ (manager 4).power.mainUp = true ∧
      joinable.writeAccess .m3 F.TWIN_CMD.RESYNC.addr = .ok ∧ joinable.twin = 1 ∧ joinable.joinBarred = none ∧
      (manager 1).joinBarred = some 1 ∧ (manager 1).writeAccess .m3 F.CLAIM.VAL.addr = .ok := by decide +kernel
theorem witness_twin_cmd_refused :
    (manager 4).writeAccess .m3 F.TWIN_CMD.RESYNC.addr = .ok ∧ (manager 4).twin ≠ 1 ∧ (manager 3).twin = 3 ∧
      (manager 3).writeAccess .m3 F.TWIN_CMD.WITHDRAW.addr = .ok ∧ (manager 1).writeAccess .m3 F.TWIN_CMD.WITHDRAW.addr = .ok ∧
      (manager 1).twin ≠ 2 ∧ (manager 1).twin ≠ 3 ∧ (manager 1).twin ≠ 4 ∧ (manager 1).power.vin = true ∧
      (manager 1).power.mainUp = true := by decide +kernel
theorem witness_resync :
    InOrder (manager 2) 7 (tHead 1) ∧ (manager 2).isTier 7 = true ∧ (manager 2).isManager = true ∧
      (manager 2).isTwinLane 7 = true ∧ (manager 2).twin = 2 ∧ (manager 2).time.step = none := by
  unfold InOrder
  decide +kernel
/-- A joiner told of checkpoint frame 0, and one that has composed up to it. -/
def joining : State :=
  { manager 3 with hier := { (manager 3).hier with join := some ⟨some 0, 0, [], none, 0, [], [], 0⟩ } }
def caughtUp : State :=
  { manager 3 with hier := { (manager 3).hier with join := some ⟨some 0, 0, [], some 0, 0, [], [], 0⟩ } }
/-- A joiner whose ACCEPT has not come. -/
def asking : State := { manager 3 with hier := { (manager 3).hier with join := some ⟨none, 0, [], none, 0, [], [], 0⟩ } }
theorem witness_resync_else :
    (∀ s ∈ [manager 4, asking, manager 2], InOrder s 7 (tHead 1) ∧ s.isTier 7 = true ∧ s.isManager = true ∧
      s.isTwinLane 7 = true) ∧ (manager 4).twin ≠ 2 ∧ asking.hier.join = some ⟨none, 0, [], none, 0, [], [], 0⟩ ∧
      asking.twin = 3 ∧ (manager 2).twin ≠ 3 := by
  unfold InOrder
  decide +kernel
theorem witness_checkpoint :
    InOrder joining 7 (tHead 1) ∧ joining.isTier 7 = true ∧ joining.isManager = true ∧ joining.isTwinLane 7 = true ∧
      joining.hier.join = some ⟨some 0, 0, [], none, 0, [], [], 0⟩ ∧ (([] : List Byte).take 0 ++ [7]).length < 2 ∧
      (([] : List Byte).take 0 ++ [7]).length = 1 ∧
      (crc32 (([] : List Byte).take 0 ++ [7])).toNat = (crc32 [7]).toNat ∧ caughtUp.twin = 3 ∧ 0 ≤ caughtUp.frame ∧
      caughtUp.planeMode ≠ 0 ∧ caughtUp.hier.join = some ⟨some 0, 0, [], some 0, 0, [], [], 0⟩ := by
  unfold InOrder
  decide +kernel
theorem witness_checkpoint_bad :
    2 ≤ (([] : List Byte).take 0 ++ [7, 8]).length ∧ (([] : List Byte).take 0 ++ [7, 8, 9]).length ≠ 2 ∧
      (crc32 (([] : List Byte).take 0 ++ [7, 8])).toNat ≠ 5 := by decide +kernel
theorem witness_catch_up_idle :
    joining.power.mainUp = true ∧ joining.hier.join.bind (fun j => j.composed) = none ∧ (manager 2).hier.join = none := by
  decide +kernel

/-! ## Sillage, rings and the transmit ring -/

/-- Sillage enabled, capture CONTINUOUS. -/
def sampling : State := put serving [(F.SIL_CTRL.ENABLE, 1)]
/-- The same with capture TRIGGERED. -/
def trigging : State := put sampling [(F.SIL_CTRL.CAPTURE, 1)]
theorem witness_sil_ctrl :
    serving.writeAccess .m3 F.SIL_CTRL.ENABLE.addr = .ok ∧ serving.flag F.SIL_CTRL.ENABLE = false ∧
      sampling.flag F.SIL_CTRL.ENABLE = true ∧ sampling.writeAccess .m3 F.SIL_CTRL.ENABLE.addr = .ok := by decide +kernel
def armedSil : State := { trigging with sil := { trigging.sil with armed := true } }
def recordingSil : State := { trigging with sil := { trigging.sil with recording := true } }
def heldOff : State := { trigging with sil := { trigging.sil with holdoff := true } }
theorem witness_sil_arm :
    trigging.writeAccess .m3 F.SIL_CTRL.ARM.addr = .ok ∧ trigging.flag F.SIL_CTRL.CAPTURE = true ∧
      recordingSil.writeAccess .m3 F.SIL_CTRL.STOP.addr = .ok ∧ recordingSil.sil.recording = true ∧
      trigging.writeAccess .m3 F.SIL_CTRL.STOP.addr = .ok ∧ trigging.sil.recording = false ∧
      recordingSil.flag F.SIL_CTRL.CAPTURE = true ∧ recordingSil.noted F.TRIG_CMD.FIRE.key = false := by decide +kernel
/-- A record begun in this cycle; and a STOP in this cycle. -/
def begunSil : State := (State.note { recordingSil with sil := { recordingSil.sil with trig := true } } F.TRIG_CMD.FIRE.key)
def stoppedSil : State := armedSil.note F.SIL_CTRL.STOP.key
theorem witness_stop_cycle :
    begunSil.writeAccess .m3 F.SIL_CTRL.STOP.addr = .ok ∧ begunSil.flag F.SIL_CTRL.CAPTURE = true ∧
      begunSil.noted F.TRIG_CMD.FIRE.key = true ∧ stoppedSil.writeAccess .m3 F.TRIG_CMD.FIRE.addr = .ok ∧
      stoppedSil.noted F.SIL_CTRL.STOP.key = true ∧ sampling.writeAccess .m3 F.SIL_CTRL.STOP.addr = .ok ∧
      sampling.flag F.SIL_CTRL.CAPTURE = false := by decide +kernel
theorem witness_trigger :
    sampling.writeAccess .m3 F.TRIG_CMD.FIRE.addr = .ok ∧ sampling.rd F.TRIG_CFG.SOURCE = 0 ∧
      sampling.flag F.SIL_CTRL.CAPTURE = false ∧ sampling.sil.trig = false ∧
      armedSil.writeAccess .m3 F.TRIG_CMD.FIRE.addr = .ok ∧ armedSil.rd F.TRIG_CFG.SOURCE = 0 ∧
      armedSil.flag F.SIL_CTRL.ENABLE = true ∧ armedSil.flag F.SIL_CTRL.CAPTURE = true ∧ armedSil.sil.armed = true ∧
      armedSil.sil.recording = false ∧ armedSil.sil.holdoff = false ∧
      recordingSil.writeAccess .m3 F.TRIG_CMD.FIRE.addr = .ok ∧ recordingSil.rd F.TRIG_CFG.SOURCE = 0 ∧
      recordingSil.flag F.SIL_CTRL.ENABLE = true ∧ recordingSil.flag F.SIL_CTRL.CAPTURE = true ∧ heldOff.sil.holdoff = true ∧
      armedSil.noted F.SIL_CTRL.STOP.key = false ∧ recordingSil.noted F.SIL_CTRL.STOP.key = false ∧
      sampling.noted F.SIL_CTRL.STOP.key = false := by
  decide +kernel
/-- The block in progress is marked; and TRIGGERED with nothing armed. -/
def marked : State := { sampling with sil := { sampling.sil with trig := true } }
theorem witness_no_trigger :
    sampling.flag F.SIL_CTRL.CAPTURE = false ∧ sampling.writeAccess .m3 F.SIL_CTRL.ARM.addr = .ok ∧
      marked.writeAccess .m3 F.TRIG_CMD.FIRE.addr = .ok ∧ marked.rd F.TRIG_CFG.SOURCE = 0 ∧
      marked.flag F.SIL_CTRL.ENABLE = true ∧ marked.flag F.SIL_CTRL.CAPTURE = false ∧ marked.sil.trig = true ∧
      (put sampling [(F.TRIG_CFG.SOURCE, 6)]).rd F.TRIG_CFG.SOURCE ≠ 0 ∧
      (put sampling [(F.TRIG_CFG.SOURCE, 6)]).writeAccess .m3 F.TRIG_CMD.FIRE.addr = .ok ∧
      serving.writeAccess .m3 F.TRIG_CMD.FIRE.addr = .ok ∧ serving.flag F.SIL_CTRL.ENABLE = false ∧
      trigging.writeAccess .m3 F.TRIG_CMD.FIRE.addr = .ok ∧ trigging.flag F.SIL_CTRL.CAPTURE = true ∧
      trigging.sil.recording = false ∧ trigging.sil.holdoff = false ∧ trigging.sil.armed = false := by decide +kernel
def timed : State := put sampling [(F.TRIG_CFG.SOURCE, 6)]
theorem witness_time_trigger :
    timed.power.mainUp = true ∧ timed.rd F.TRIG_CFG.SOURCE = 6 ∧ timed.trigTime ≤ timed.now ∧ timed.sil.timeDone = false ∧
      timed.flag F.SIL_CTRL.ENABLE = true ∧ timed.flag F.SIL_CTRL.CAPTURE = false ∧ timed.sil.trig = false ∧ timed.noted F.SIL_CTRL.STOP.key = false := by decide +kernel
def timedArmed : State := put armedSil [(F.TRIG_CFG.SOURCE, 6)]
def timedOut : State := { timed with sil := { timed.sil with timeDone := true } }
theorem witness_time_else :
    sampling.rd F.TRIG_CFG.SOURCE ≠ 6 ∧ timedOut.sil.timeDone = true ∧
      (put timed [(F.TRIG_TIME_NS.NS, 5)]).now < (put timed [(F.TRIG_TIME_NS.NS, 5)]).trigTime ∧
      timedArmed.power.mainUp = true ∧ timedArmed.rd F.TRIG_CFG.SOURCE = 6 ∧ timedArmed.trigTime ≤ timedArmed.now ∧
      timedArmed.sil.timeDone = false ∧ timedArmed.flag F.SIL_CTRL.ENABLE = true ∧
      timedArmed.flag F.SIL_CTRL.CAPTURE = true ∧ timedArmed.sil.armed = true ∧ timedArmed.sil.recording = false ∧
      timedArmed.sil.holdoff = false ∧ timedArmed.noted F.SIL_CTRL.STOP.key = false := by decide +kernel
/-- Sillage ring 0 of two blocks, enabled and fed by RING_A. -/
def ringedSil : State := put sampling [(RingId.size (.sillage 0), 2), (RingId.enable (.sillage 0), 1)]
theorem witness_block :
    ringedSil.power.mainUp = true ∧ ringedSil.flag F.SIL_CTRL.ENABLE = true ∧ ringedSil.flag F.SIL_CTRL.MODE = false ∧
      ringedSil.flag F.SIL_CTRL.CAPTURE = false ∧ ringedSil.rd F.TRIG_CFG.SOURCE < 4 ∧ ringedSil.rd F.SIL_SRC.RING_A = 0 ∧
      ringedSil.ringTakes 0 2 = true ∧ ringedSil.ringFull (.sillage 0) = false := by decide +kernel
/-- Ring 0 takes focus blocks, and a sample of a focus of photodiode 5 waits at tile 2. -/
def focusWaiting : State :=
  (put ringedSil [(F.SILLAGE_RING_CFG.SOURCE 0, 1)]).setTile 2 { ringedSil.tile 2 with focusBuf := [⟨⟨1, 5, 0⟩, [77]⟩] }
theorem witness_block_else :
    ringedSil.power.vin = true ∧ serving.flag F.SIL_CTRL.ENABLE = false ∧ serving.sil.stop = false ∧
      (ringedSil.tile 2).focusBuf = [] ∧ focusWaiting.power.mainUp = true ∧
      (focusWaiting.tile 2).focusBuf.map (fun f => (f.id.ring, decide (f.samples.length ≤ 2016))) = [(0, true)] ∧
      focusWaiting.ringTakes 0 3 = true ∧ focusWaiting.ringFull (.sillage 0) = false := by decide +kernel
/-- Ring 0 with one block waiting. -/
def filled : State := put ringedSil [(RingId.wr (.sillage 0), 1), (RingId.fill (.sillage 0), 1)]
theorem witness_ring_rd :
    filled.writeAccess .m3 ((RingId.sillage 0).addr + 12) = .ok ∧ bitsOf 1#32 0 (RingId.sillage 0).rd.width < filled.rd (RingId.sillage 0).size ∧
      filled.ringDistance (.sillage 0) (filled.ringPlace (.sillage 0) (filled.rd (RingId.sillage 0).wr) (filled.rd (RingId.sillage 0).wrWrap))
        (filled.ringPlace (.sillage 0) (bitsOf 1#32 0 (RingId.sillage 0).rd.width) (bitsOf 1#32 16 1)) ≤ filled.rd (RingId.sillage 0).size ∧
      filled.rd (RingId.sillage 0).size ≤ bitsOf 2#32 0 (RingId.sillage 0).rd.width := by decide +kernel
/-- Parser ring 1 while off, two blocks long and clear of ring 0. -/
def offRing : State := put serving [(RingId.base (.parser 1), 16), (RingId.size (.parser 1), 2)]
theorem witness_ring_off :
    offRing.writeAccess .m3 (RingId.parser 1).addr = .ok ∧ offRing.writeAccess .m3 ((RingId.parser 1).addr + 4) = .ok ∧
      offRing.writeAccess .m3 ((RingId.parser 1).addr + 20) = .ok ∧ offRing.ringOn (.parser 1) = false ∧
      bitsOf 1#32 0 1 = 1 ∧ offRing.ringFits (.parser 1) = true ∧ (put serving [(RingId.base (.parser 1), 4095), (RingId.size (.parser 1), 2)]).ringFits (.parser 1) = false := by decide +kernel
def offEnd : State := put serving [(RingId.base (.parser 1), 4095), (RingId.size (.parser 1), 2)]
/-- The same ring enabled. -/
def onRing : State := put offRing [(RingId.enable (.parser 1), 1)]
theorem witness_ring_on :
    onRing.ringOn (.parser 1) = true ∧ onRing.writeAccess .m3 (RingId.parser 1).addr = .ok ∧
      onRing.writeAccess .m3 ((RingId.parser 1).addr + 4) = .ok ∧ onRing.writeAccess .m3 ((RingId.parser 1).addr + 20) = .ok ∧
      (0#32).getLsbD 0 = false := by decide +kernel
/-- A transmit ring of two entries, one waiting: 60 bytes of zeros for lane 5, timestamped with tag 7. -/
def sending (len : Byte) : State :=
  (put serving [(RingId.size .ptx, 2), (RingId.enable .ptx, 1), (RingId.wr .ptx, 1), (F.LANE_CFG.MODE 5, 1),
    (F.LANE_STATUS.PCS_LOCK 5, 1)]).setMemBytes 0x2000000 [len, 0, 5, 1, 0, 0, 0, 0, 7]
def entry60 : PtxEntry := ⟨60, 5, true, false, false, 0, 0, 7, 0⟩
theorem witness_ptx :
    (sending 60).power.mainUp = true ∧ (sending 60).ringOn .ptx = true ∧ (sending 60).ringFill .ptx ≠ 0 ∧
      entry60 = ptxEntryOf ((sending 60).memBytes ((sending 60).ringBlock .ptx ((sending 60).rd RingId.ptx.rd)) 32) ∧
      entry60.ok = true ∧ (sending 60).laneOn entry60.lane = true ∧
      (sending 60).flag (F.LANE_STATUS.PCS_LOCK entry60.lane) = true ∧ ((sending 60).lane entry60.lane).txq = [] ∧
      entry60.twoStep = true ∧ (sending 60).time.txFifo.length < 64 ∧
      (ptxEntryOf ((sending 59).memBytes ((sending 59).ringBlock .ptx ((sending 59).rd RingId.ptx.rd)) 32)).ok = false ∧
      (sending 59).ringOn .ptx = true ∧ (sending 59).ringFill .ptx ≠ 0 ∧ (sending 59).power.mainUp = true := by decide +kernel
/-- A message of lane 5 goes before the entry. -/
def behind : State :=
  (sending 60).setLane 5 { (sending 60).lane 5 with txq := [⟨9, 0, true, false, none, [], none⟩] }
theorem witness_ptx_else :
    behind.power.mainUp = true ∧ behind.ringOn .ptx = true ∧ behind.ringFill .ptx ≠ 0 ∧
      entry60 = ptxEntryOf (behind.memBytes (behind.ringBlock .ptx (behind.rd RingId.ptx.rd)) 32) ∧
      behind.laneOn 5 = true ∧ behind.flag (F.LANE_STATUS.PCS_LOCK 5) = true ∧ (behind.lane 5).txq ≠ [] ∧
      serving.ringOn .ptx = false ∧ serving.power.mainUp = true := by decide +kernel

/-! ## Ill-formed commands are refused: one for each check -/

def okHead : KHeader := ⟨1, 40, 1, false, false, false, 3, 9, 0, true⟩
def okStamp : Stamp := ⟨1, 1⟩
theorem test_wf_header_accepts : okHead.wf = true := by decide
theorem test_wf_header_refuses :
    [{ okHead with type := 256 }, { okHead with length := 65536 }, { okHead with seq := 4294967296 }, { okHead with unit := 256 },
      { okHead with claim := 65536 }, { okHead with credit := 65536 }].all (fun h => !(Instr.status 0 h ⟨0, 0⟩).wf) = true := by
  decide
theorem test_wf_hello_refuses :
    (Instr.hello 0 okHead ⟨1, true, 0, 0, 0, []⟩).wf = true ∧
      ([⟨256, true, 0, 0, 0, []⟩, ⟨1, true, 4294967296, 0, 0, []⟩, ⟨1, true, 0, 2 ^ 64, 0, []⟩, ⟨1, true, 0, 0, 2 ^ 48, []⟩,
        ⟨1, true, 0, 0, 0, [0, 0]⟩] : List EpHello).all (fun p => !(Instr.hello 0 okHead p).wf) = true := by decide
theorem test_wf_demand_refuses :
    (Instr.demand 0 okHead ⟨1, 0, 1, [⟨255, 255, 3, true, 65535⟩]⟩).wf = true ∧
      ([⟨2 ^ 64, 0, 0, []⟩, ⟨1, 65536, 0, []⟩, ⟨1, 0, 65536, []⟩, ⟨1, 0, 1, [⟨256, 0, 0, true, 0⟩]⟩, ⟨1, 0, 1, [⟨0, 256, 0, true, 0⟩]⟩,
        ⟨1, 0, 1, [⟨0, 0, 4, true, 0⟩]⟩, ⟨1, 0, 1, [⟨0, 0, 0, true, 65536⟩]⟩] : List DemandMsg).all
          (fun p => !(Instr.demand 0 okHead p).wf) = true := by decide
theorem test_wf_setup_refuses :
    (Instr.setup 0 okHead ⟨1, true, 2, 1, 2, 3, 4, 1, 1⟩).wf = true ∧
      ([⟨65536, true, 2, 1, 2, 3, 4, 1, 1⟩, ⟨1, true, 256, 1, 2, 3, 4, 1, 1⟩, ⟨1, true, 2, 65536, 2, 3, 4, 1, 1⟩,
        ⟨1, true, 2, 1, 65536, 3, 4, 1, 1⟩, ⟨1, true, 2, 1, 2, 65536, 4, 1, 1⟩, ⟨1, true, 2, 1, 2, 3, 65536, 1, 1⟩,
        ⟨1, true, 2, 1, 2, 3, 4, 2 ^ 64, 1⟩, ⟨1, true, 2, 1, 2, 3, 4, 1, 2 ^ 32⟩] : List SetupMsg).all
          (fun p => !(Instr.setup 0 okHead p).wf) = true := by decide
theorem test_wf_release_refuses :
    (Instr.release 0 okHead ⟨1, 2, 1, 1⟩).wf = true ∧
      ([⟨65536, 2, 1, 1⟩, ⟨1, 256, 1, 1⟩, ⟨1, 2, 2 ^ 64, 1⟩, ⟨1, 2, 1, 2 ^ 32⟩] : List ReleaseMsg).all
        (fun p => !(Instr.release 0 okHead p).wf) = true := by decide
theorem test_wf_status_echo_refuse :
    (Instr.echo 0 okHead ⟨0, 1, okStamp, okStamp, okStamp⟩).wf = true ∧ (Instr.status 0 okHead ⟨256, 0⟩).wf = false ∧
      (Instr.status 0 okHead ⟨0, 2 ^ 32⟩).wf = false ∧
      ([⟨256, 1, okStamp, okStamp, okStamp⟩, ⟨0, 2 ^ 32, okStamp, okStamp, okStamp⟩, ⟨0, 1, ⟨2 ^ 64, 0⟩, okStamp, okStamp⟩,
        ⟨0, 1, okStamp, ⟨0, 2 ^ 32⟩, okStamp⟩, ⟨0, 1, okStamp, okStamp, ⟨2 ^ 64, 0⟩⟩] : List EchoMsg).all
          (fun p => !(Instr.echo 0 okHead p).wf) = true := by decide
theorem test_wf_relay_refuses :
    (Instr.relay 0 okHead ⟨1, 2, 0, okStamp, List.replicate 20 0⟩).wf = true ∧
      ([⟨256, 2, 0, okStamp, List.replicate 20 0⟩, ⟨1, 256, 0, okStamp, List.replicate 20 0⟩, ⟨1, 2, 256, okStamp, List.replicate 20 0⟩,
        ⟨1, 2, 0, ⟨2 ^ 64, 0⟩, List.replicate 20 0⟩, ⟨1, 2, 0, okStamp, List.replicate 19 0⟩] : List RelayMsg).all
          (fun p => !(Instr.relay 0 okHead p).wf) = true := by decide
theorem test_wf_relay_too_long (h : KHeader) (x : Stamp) :
    (Instr.relay 0 h ⟨1, 2, 0, x, List.replicate 65536 0⟩).wf = false := by simp [-List.reduceReplicate, Instr.wf, RelayMsg.wf]
theorem test_wf_tier_hello_refuses :
    (Instr.tierHello 0 okHead tHello).wf = true ∧
      ([{ tHello with version := 256 }, { tHello with role := 2 }, { tHello with unit := 32 }, { tHello with sysTag := 2 ^ 32 },
        { tHello with composeTag := 2 ^ 32 }, { tHello with claim := 65536 }, { tHello with twinState := 256 },
        { tHello with mode := 256 }, { tHello with matchRun := 65536 }, { tHello with nextSeq := 2 ^ 32 },
        { tHello with mac := 2 ^ 48 }, { tHello with ip := [0, 0, 0] }] : List TierHello).all
          (fun p => !(Instr.tierHello 0 okHead p).wf) = true := by decide
theorem test_wf_accord_refuses (h : KHeader) :
    (Instr.accord 0 h ⟨2 ^ 64, 0, List.replicate 800 0⟩).wf = false ∧ (Instr.accord 0 h ⟨0, 64, List.replicate 800 0⟩).wf = false ∧
      (Instr.accord 0 h ⟨0, 0, List.replicate 799 0⟩).wf = false := by simp [-List.reduceReplicate, Instr.wf, AccordMsg.wf]
theorem test_wf_frame_end_refuses :
    (Instr.frameEnd 0 okHead end1).wf = true ∧
      ([{ end1 with frame := 2 ^ 64 }, { end1 with records := 65 }, { end1 with recordsCrc := 2 ^ 32 }, { end1 with digest := 2 ^ 32 },
        { end1 with stateCrc := 2 ^ 32 }, { end1 with standSeq := 2 ^ 32 }] : List FrameEndMsg).all
          (fun p => !(Instr.frameEnd 0 okHead p).wf) = true := by decide
theorem test_wf_standing_refuses :
    (Instr.standing 0 okHead ⟨2, 15, 0, 0, []⟩).wf = true ∧
      ([⟨3, 0, 0, 0, []⟩, ⟨2, 16, 0, 0, []⟩, ⟨2, 0, 2 ^ 64, 0, []⟩, ⟨2, 0, 0, 64, []⟩, ⟨2, 0, 0, 0, [0]⟩] : List StandingMsg).all
        (fun p => !(Instr.standing 0 okHead p).wf) = true := by decide
theorem test_wf_switch_resync_refuse :
    (Instr.switch 0 okHead switch1).wf = true ∧ (Instr.resync 0 okHead ⟨3, 0, 0⟩).wf = true ∧
      ([{ switch1 with op := 2 }, { switch1 with index := 16 }, { switch1 with frame := 2 ^ 64 }, { switch1 with slot := 64 },
        { switch1 with offset := 2 ^ 32 }] : List SwitchMsg).all (fun p => !(Instr.switch 0 okHead p).wf) = true ∧
      ([⟨4, 0, 0⟩, ⟨0, 256, 0⟩, ⟨0, 0, 2 ^ 64⟩] : List ResyncMsg).all (fun p => !(Instr.resync 0 okHead p).wf) = true := by decide
theorem test_wf_checkpoint_refuses :
    (Instr.checkpoint 0 okHead ⟨0, 2, 5, [7]⟩).wf = true ∧
      ([⟨0, 2 ^ 32, 0, []⟩, ⟨0, 2, 2 ^ 32, [7]⟩, ⟨2, 2, 0, [7]⟩] : List CheckpointMsg).all
        (fun p => !(Instr.checkpoint 0 okHead p).wf) = true := by decide
theorem test_wf_checkpoint_too_long (h : KHeader) : (Instr.checkpoint 0 h ⟨0, 2000, 0, List.replicate 1025 0⟩).wf = false := by
  simp [-List.reduceReplicate, Instr.wf, CheckpointMsg.wf]
theorem test_wf_calibration_refuses :
    (Instr.fullCalDone 0 ⟨false, [0]⟩).wf = false ∧ (Instr.calMeasurementEnd 0 ⟨false, []⟩).wf = false := by decide
def okChar : CharLoop := ⟨none, [], 0, 0, 0⟩
/-- An environment of every right length. -/
def okEnv : StartEnv :=
  ⟨true, false, 0, false, ⟨0, [], []⟩, ⟨0, [], []⟩, none, List.replicate 76 ⟨false, List.replicate 520 0⟩, 0,
    List.replicate 262144 0, ⟨List.replicate 4864 okChar, false⟩, false, [], []⟩
theorem test_wf_start_env_accepts : (Instr.mainResetRelease okEnv).wf = true := by
  simp [-List.reduceReplicate, Instr.wf, StartEnv.wf, okEnv, CalMeasure.wf, CharLoop.wf, okChar]
theorem test_wf_start_env_refuses :
    ([{ okEnv with cal := [] }, { okEnv with cal := List.replicate 76 ⟨false, []⟩ }, { okEnv with char := ⟨[], false⟩ },
      { okEnv with char := ⟨List.replicate 4864 { okChar with sweep := [0] }, false⟩ }, { okEnv with passport := [] },
      { okEnv with orphans := [⟨.m3, 0, 256⟩] }] : List StartEnv).all
        (fun e => !(Instr.mainResetRelease e).wf) = true := by
  simp [-List.reduceReplicate, Instr.wf, StartEnv.wf, CalMeasure.wf, CharLoop.wf, okChar, Orphan.wf]
def okWarm : WarmEnv := ⟨⟨0, [], []⟩, none, none, none, none, none, none, none, [], [], []⟩
theorem test_wf_warm_env_refuses :
    (Instr.warmStart okWarm).wf = true ∧ (Instr.warmStart { okWarm with links := [3, 3] }).wf = false ∧
      (Instr.warmStart { okWarm with orphans := [⟨.m3, 0, 256⟩] }).wf = false := by decide
/-- A configuration space with memory and bus master on. -/
def okCfg : PcieCfg := ⟨true, true, true, false, 0, 2, false, false, false, 0, 0, 0⟩
theorem test_wf_host_request_refuses :
    (Instr.bar0Request okCfg ⟨4, false, [(0, 15)]⟩).wf = true ∧
      (Instr.bar0Request okCfg ⟨2, false, [(0, 15)]⟩).wf = false ∧
      (Instr.bar2Request okCfg ⟨0, false, []⟩).wf = false := by decide
theorem test_wf_host_request_too_long (cfg : PcieCfg) (w : Word × BitVec 4) :
    (Instr.bar2Request cfg ⟨0, false, List.replicate 1025 w⟩).wf = false := by simp [-List.reduceReplicate, Instr.wf, HostReq.wf]
theorem test_wf_bus_request_refuses :
    (Instr.busRequest [⟨.m3, 1, true, 0, 1, [7], false⟩]).wf = true ∧ (Instr.busRequest [⟨.m3, 0, true, 0, 1, [7], false⟩]).wf = false ∧
      (Instr.busRequest [⟨.m3, 1, true, 2 ^ 64, 1, [7], false⟩]).wf = false ∧
      (Instr.busRequest [⟨.m3, 1, true, 0, 2, [7], false⟩]).wf = false ∧
      (Instr.busRequest [⟨.m3, 1, true, 0, 1, [7], false⟩, ⟨.m3, 1, true, 8, 1, [7], false⟩]).wf = false := by decide
theorem test_wf_small_commands_refuse :
    (Instr.planeStrobe 0 6400).wf = false ∧ (Instr.replanWindowEnd []).wf = false ∧ (Instr.sensorConversion []).wf = false ∧
      (Instr.pmbusInvalidCommand (some 256) .good).wf = false ∧ (Instr.sbTimeout (some ⟨.m4, 0, 256⟩)).wf = false ∧
      (Instr.hostSideReset true (some ⟨.m1, 0, 256⟩)).wf = false ∧ (Instr.fuseProgramDone true true (some ⟨.m4, 0, 256⟩)).wf = false ∧
      (Instr.descriptorFetched 0 false [1]).wf = false ∧ (Instr.taskInputActivation 0 0).wf = false ∧
      (Instr.sillageBlockWrite (.adc [] [1]) 0 0 .written).wf = false := by decide
theorem test_wf_long_strings_refuse :
    (Instr.laneFrameRx 0 0 false (List.replicate 65536 0)).wf = false ∧ (Instr.winAddr (List.replicate 256 0) .good).wf = false ∧
      (Instr.winWrite (List.replicate 256 0) .good).wf = false ∧
      (Instr.sillageBlockWrite (.adc (List.replicate 2689 0) []) 0 0 .written).wf = false := by
  simp [-List.reduceReplicate, Instr.wf, SilStream.wf]

/-! ## One step, with the values the spec states -/

/-- R48: the check value of the CRC-32 of IEEE 802.3 over the nine ASCII digits. -/
theorem test_crc32_check : crc32 [0x31, 0x32, 0x33, 0x34, 0x35, 0x36, 0x37, 0x38, 0x39] = 0xCBF43926#32 := by decide +kernel
/-- R102: the check value of CRC-16/CCITT-FALSE over the same digits. -/
theorem test_crc16_check : crc16 [0x31, 0x32, 0x33, 0x34, 0x35, 0x36, 0x37, 0x38, 0x39] = 0x29B1#16 := by decide +kernel
/-- An empty queue leaves the block as it stands (log 1). -/
theorem test_idle : step State.reset = .next State.reset := rfl
/-- No row of the table gives its word any bits. -/
theorem test_no_words (nbits w : Nat) : Sys2Proof.decodeTableWord nbits w = none := rfl

end Sys2Proof.Tests
end

/-! ## What every operation keeps

One relation, `Keeps E s t`, and one lemma for each operation of the machine: it keeps what it kept before. A command's frame is
then the composition of its operations' lemmas. -/

namespace Sys2Proof.Machine

/-- The parts of the state that only a few commands change. `seals` is the loss of a SEAL latch, `fuseArray` a change of what
the fuses hold. -/
inductive Part where
  | mem | seals | power | pcie | fuses | fuseArray | dma | replan | therm | credits | owners
  deriving DecidableEq

/-- Part `p` is in `t` what it is in `s`; of the SEAL latches, none is lost. -/
def Part.Same (s t : State) : Part → Prop
  | .mem => t.mem = s.mem
  | .seals => s.seals ⊆ t.seals
  | .power => t.power = s.power
  | .pcie => t.pcie = s.pcie
  | .fuses => t.fuses = s.fuses
  | .fuseArray => (∀ b, sameFuse s t b) ∧ t.fuses.keyValue = s.fuses.keyValue
  | .dma => t.dma = s.dma
  | .replan => t.replan = s.replan
  | .therm => t.therm = s.therm
  | .credits => t.credits = s.credits
  | .owners => t.ownersLoaded = s.ownersLoaded

/-- What every operation keeps: the canonical form, the queue, what has crossed the boundary, the order of time and of free
values, and every part of the state that `E` does not name. -/
structure Keeps (E : Part → Prop) (s t : State) : Prop where
  registers : Registers.wf s.regs → Registers.wf t.regs
  memory : Memory.wf s.mem → Memory.wf t.mem
  pending : t.pending = s.pending
  outbox : s.outbox <+: t.outbox
  clock : s.clock ≤ t.clock
  free : s.free ≤ t.free
  same : ∀ p, E p ∨ p.Same s t

/-- `E` names every part of the list. -/
def Allows (E : Part → Prop) (l : List Part) : Prop := ∀ p ∈ l, E p

theorem Allows.of {E : Part → Prop} {l k : List Part} (h : Allows E l) (sub : k.all l.contains = true) : Allows E k :=
  fun p hp => h p (List.contains_iff_mem.mp (List.all_eq_true.mp sub p hp))

theorem Allows.head {E : Part → Prop} {p : Part} {l : List Part} (h : Allows E (p :: l)) : E p := h p List.mem_cons_self

theorem Part.Same.refl (s : State) (p : Part) : p.Same s s := by
  cases p with
  | seals => exact fun _ h => h
  | fuseArray => exact ⟨fun _ => rfl, rfl⟩
  | _ => exact rfl

theorem Part.Same.trans {s t u : State} {p : Part} (a : p.Same s t) (b : p.Same t u) : p.Same s u := by
  cases p with
  | seals => exact fun _ h => b (a h)
  | fuseArray => exact ⟨fun f => (b.1 f).trans (a.1 f), b.2.trans a.2⟩
  | _ => exact Eq.trans b a

namespace Keeps
variable {E : Part → Prop} {s₀ s t : State}

theorem refl (E : Part → Prop) (s : State) : Keeps E s s :=
  ⟨id, id, rfl, List.prefix_refl _, Nat.le_refl _, Nat.le_refl _, fun p => .inr (.refl s p)⟩

theorem trans (a : Keeps E s₀ s) (b : Keeps E s t) : Keeps E s₀ t :=
  ⟨fun h => b.registers (a.registers h), fun h => b.memory (a.memory h), b.pending.trans a.pending,
    a.outbox.trans b.outbox, a.clock.trans b.clock, a.free.trans b.free,
    fun p => (a.same p).elim .inl fun x => (b.same p).imp_right x.trans⟩

/-- Whatever was reported, the rest is kept. -/
theorem reports (h : Keeps E s₀ s) (r : Reports s t) : Keeps E s₀ t := by
  have same : ∀ p : Part, p.Same s t := by
    intro p
    rw [r.same]
    cases p with
    | seals => exact r.seals
    | fuseArray => exact ⟨fun _ => rfl, rfl⟩
    | _ => rfl
  have pending := congrArg State.pending r.same
  have clock := congrArg State.clock r.same
  have free := congrArg State.free r.same
  exact h.trans ⟨r.regs, fun w => r.mem ▸ w, pending, r.outbox, clock.ge, free.ge, fun p => .inr (same p)⟩

/-- Of two branches each keeps. -/
theorem ite {c : Prop} [Decidable c] (a : Keeps E s₀ s) (b : Keeps E s₀ t) : Keeps E s₀ (if c then s else t) := by
  split
  · exact a
  · exact b

/-- A fold of operations that keep; `view` is the state in what the fold carries. -/
theorem foldl_of {α β : Type} (view : α → State) {f : α → β → α} {l : List β} {x : α} (h : Keeps E s₀ (view x))
    (hf : ∀ {x b}, Keeps E s₀ (view x) → Keeps E s₀ (view (f x b))) : Keeps E s₀ (view (l.foldl f x)) := by
  induction l generalizing x with
  | nil => exact h
  | cons b rest ih => exact ih (hf h)

theorem foldl {β : Type} {f : State → β → State} {l : List β} (h : Keeps E s₀ s)
    (hf : ∀ {s b}, Keeps E s₀ s → Keeps E s₀ (f s b)) : Keeps E s₀ (l.foldl f s) :=
  foldl_of id h hf

theorem foldl_fst {α β : Type} {f : State × α → β → State × α} {l : List β} {a : α} (h : Keeps E s₀ s)
    (hf : ∀ {x b}, Keeps E s₀ x.1 → Keeps E s₀ (f x b).1) : Keeps E s₀ (l.foldl f (s, a)).1 :=
  foldl_of Prod.fst h hf

theorem foldl_snd {α β : Type} {f : α × State → β → α × State} {l : List β} {a : α} (h : Keeps E s₀ s)
    (hf : ∀ {x b}, Keeps E s₀ x.2 → Keeps E s₀ (f x b).2) : Keeps E s₀ (l.foldl f (a, s)).2 :=
  foldl_of Prod.snd h hf

/-! ### Updates of single fields -/

/-- An update of fields that no part names. -/
theorem hidden (h : Keeps E s₀ s) {fresh lv mortar time snaps sb tiles loops strobes plane comp lanes issueq hier parser warmHold
    calib sil starting lanesFrom trigger passport} :
    Keeps E s₀ { s with
      fresh := fresh, lv := lv, mortar := mortar, time := time, snaps := snaps, sb := sb, tiles := tiles, loops := loops,
      strobes := strobes, plane := plane, comp := comp, lanes := lanes, issueq := issueq, hier := hier, parser := parser,
      warmHold := warmHold, calib := calib, sil := sil, starting := starting, lanesFrom := lanesFrom, trigger := trigger,
      passport := passport } :=
  ⟨h.registers, h.memory, h.pending, h.outbox, h.clock, h.free, h.same⟩

theorem setOutbox {l} (h : Keeps E s₀ s) (p : s.outbox <+: l) : Keeps E s₀ { s with outbox := l } :=
  h.trans ⟨id, id, rfl, p, le_rfl, le_rfl, fun p => .inr (.refl s p)⟩

theorem setFree {n} (h : Keeps E s₀ s) (le : s.free ≤ n) : Keeps E s₀ { s with free := n } :=
  h.trans ⟨id, id, rfl, List.prefix_refl _, le_rfl, le, fun p => .inr (.refl s p)⟩

theorem newCycle {n f} (h : Keeps E s₀ s) (le : s.clock ≤ n) : Keeps E s₀ { s with clock := n, fresh := f } :=
  h.trans ⟨id, id, rfl, List.prefix_refl _, le, le_rfl, fun p => .inr (.refl s p)⟩

theorem setRegs {l} (h : Keeps E s₀ s) (wf : Registers.wf s.regs → Registers.wf l) : Keeps E s₀ { s with regs := l } :=
  h.trans ⟨wf, id, rfl, List.prefix_refl _, le_rfl, le_rfl, fun p => .inr (.refl s p)⟩

theorem setMem {x} (h : Keeps E s₀ s) (hE : Allows E [.mem]) (wf : Memory.wf s.mem → Memory.wf x) :
    Keeps E s₀ { s with mem := x } := by
  refine h.trans ⟨id, wf, rfl, List.prefix_refl _, le_rfl, le_rfl, fun p => ?_⟩
  cases p with
  | mem => exact .inl hE.head
  | seals => exact .inr fun _ hx => hx
  | fuseArray => exact .inr ⟨fun _ => rfl, rfl⟩
  | _ => exact .inr rfl

theorem setSeals {x} (h : Keeps E s₀ s) (hE : Allows E [.seals]) : Keeps E s₀ { s with seals := x } := by
  refine h.trans ⟨id, id, rfl, List.prefix_refl _, le_rfl, le_rfl, fun p => ?_⟩
  cases p with
  | seals => exact .inl hE.head
  | fuseArray => exact .inr ⟨fun _ => rfl, rfl⟩
  | _ => exact .inr rfl

theorem setPower {x} (h : Keeps E s₀ s) (hE : Allows E [.power]) : Keeps E s₀ { s with power := x } := by
  refine h.trans ⟨id, id, rfl, List.prefix_refl _, le_rfl, le_rfl, fun p => ?_⟩
  cases p with
  | power => exact .inl hE.head
  | seals => exact .inr fun _ hx => hx
  | fuseArray => exact .inr ⟨fun _ => rfl, rfl⟩
  | _ => exact .inr rfl

theorem setPcie {x} (h : Keeps E s₀ s) (hE : Allows E [.pcie]) : Keeps E s₀ { s with pcie := x } := by
  refine h.trans ⟨id, id, rfl, List.prefix_refl _, le_rfl, le_rfl, fun p => ?_⟩
  cases p with
  | pcie => exact .inl hE.head
  | seals => exact .inr fun _ hx => hx
  | fuseArray => exact .inr ⟨fun _ => rfl, rfl⟩
  | _ => exact .inr rfl

theorem setDma {x} (h : Keeps E s₀ s) (hE : Allows E [.dma]) : Keeps E s₀ { s with dma := x } := by
  refine h.trans ⟨id, id, rfl, List.prefix_refl _, le_rfl, le_rfl, fun p => ?_⟩
  cases p with
  | dma => exact .inl hE.head
  | seals => exact .inr fun _ hx => hx
  | fuseArray => exact .inr ⟨fun _ => rfl, rfl⟩
  | _ => exact .inr rfl

theorem setReplan {x} (h : Keeps E s₀ s) (hE : Allows E [.replan]) : Keeps E s₀ { s with replan := x } := by
  refine h.trans ⟨id, id, rfl, List.prefix_refl _, le_rfl, le_rfl, fun p => ?_⟩
  cases p with
  | replan => exact .inl hE.head
  | seals => exact .inr fun _ hx => hx
  | fuseArray => exact .inr ⟨fun _ => rfl, rfl⟩
  | _ => exact .inr rfl

theorem setTherm {x} (h : Keeps E s₀ s) (hE : Allows E [.therm]) : Keeps E s₀ { s with therm := x } := by
  refine h.trans ⟨id, id, rfl, List.prefix_refl _, le_rfl, le_rfl, fun p => ?_⟩
  cases p with
  | therm => exact .inl hE.head
  | seals => exact .inr fun _ hx => hx
  | fuseArray => exact .inr ⟨fun _ => rfl, rfl⟩
  | _ => exact .inr rfl

theorem setCredits {x} (h : Keeps E s₀ s) (hE : Allows E [.credits]) : Keeps E s₀ { s with credits := x } := by
  refine h.trans ⟨id, id, rfl, List.prefix_refl _, le_rfl, le_rfl, fun p => ?_⟩
  cases p with
  | credits => exact .inl hE.head
  | seals => exact .inr fun _ hx => hx
  | fuseArray => exact .inr ⟨fun _ => rfl, rfl⟩
  | _ => exact .inr rfl

theorem setOwners {x} (h : Keeps E s₀ s) (hE : Allows E [.owners]) : Keeps E s₀ { s with ownersLoaded := x } := by
  refine h.trans ⟨id, id, rfl, List.prefix_refl _, le_rfl, le_rfl, fun p => ?_⟩
  cases p with
  | owners => exact .inl hE.head
  | seals => exact .inr fun _ hx => hx
  | fuseArray => exact .inr ⟨fun _ => rfl, rfl⟩
  | _ => exact .inr rfl

/-- An update of the fuse unit that leaves alone what the fuses hold. -/
theorem setFuseUnit {x} (h : Keeps E s₀ s) (hE : Allows E [.fuses])
    (array : (∀ b : Fin 3, x.at_ b = s.fuses.at_ b) ∧ x.keyValue = s.fuses.keyValue) :
    Keeps E s₀ { s with fuses := x } := by
  refine h.trans ⟨id, id, rfl, List.prefix_refl _, le_rfl, le_rfl, fun p => ?_⟩
  cases p with
  | fuses => exact .inl hE.head
  | fuseArray => exact .inr array
  | seals => exact .inr fun _ hx => hx
  | _ => exact .inr rfl

theorem setFuseArray {x} (h : Keeps E s₀ s) (hE : Allows E [.fuses, .fuseArray]) : Keeps E s₀ { s with fuses := x } := by
  refine h.trans ⟨id, id, rfl, List.prefix_refl _, le_rfl, le_rfl, fun p => ?_⟩
  cases p with
  | fuses => exact .inl hE.head
  | fuseArray => exact .inl (hE _ (by decide))
  | seals => exact .inr fun _ hx => hx
  | _ => exact .inr rfl

/-! ### Words, bits and bytes -/

theorem setWord {a w} (h : Keeps E s₀ s) : Keeps E s₀ (s.setWord a w) := h.reports (s.setWord_reports a w)

theorem mapWords {f} (h : Keeps E s₀ s) : Keeps E s₀ (s.mapWords f) :=
  h.setRegs fun w => (State.mapWords_canonical { s with mem := [] } f ⟨w, .nil, nofun⟩).1

theorem wr {f v} (h : Keeps E s₀ s) : Keeps E s₀ (s.wr f v) := h.setWord

theorem wrS {f v} (h : Keeps E s₀ s) : Keeps E s₀ (s.wrS f v) := h.wr

theorem setFlag {f b} (h : Keeps E s₀ s) : Keeps E s₀ (s.setFlag f b) := h.wr

theorem wrW {w v} (h : Keeps E s₀ s) : Keeps E s₀ (s.wrW w v) := h.setWord.setWord

theorem setBitW {w n b} (h : Keeps E s₀ s) : Keeps E s₀ (s.setBitW w n b) := h.wrW

theorem note {k} (h : Keeps E s₀ s) : Keeps E s₀ (s.note k) := h.hidden

theorem setEvent {f} (h : Keeps E s₀ s) : Keeps E s₀ (s.setEvent f) := h.setFlag.note

theorem clearEvent {f} (h : Keeps E s₀ s) : Keeps E s₀ (s.clearEvent f) := .ite h h.setFlag

theorem holdLv {a w} (h : Keeps E s₀ s) : Keeps E s₀ (s.holdLv a w) := h.hidden

theorem applyLv {a} (h : Keeps E s₀ s) : Keeps E s₀ (s.applyLv a) := by
  unfold State.applyLv
  split
  · exact h.hidden.setWord
  · exact h

theorem setMemByte {a b} (h : Keeps E s₀ s) (hE : Allows E [.mem]) : Keeps E s₀ (s.setMemByte a b) :=
  h.setMem hE (sparsePut_wf memDefault s.mem a b)

theorem setMemBytes {a bs} (h : Keeps E s₀ s) (hE : Allows E [.mem]) : Keeps E s₀ (s.setMemBytes a bs) := by
  induction bs generalizing s a with
  | nil => exact h
  | cons b rest ih => exact ih (h.setMemByte hE)

/-! ### Outputs, free values and reports -/

theorem emitOut {o} (h : Keeps E s₀ s) : Keeps E s₀ (s.emitOut o) := h.setOutbox (List.prefix_append _ _)

theorem freshValue (h : Keeps E s₀ s) : Keeps E s₀ s.freshValue.2 := h.setFree (Nat.le_succ _)

theorem latchSeal {src} (h : Keeps E s₀ s) : Keeps E s₀ (s.latchSeal src) := h.reports (s.latchSeal_reports src)

theorem sendVector {v} (h : Keeps E s₀ s) : Keeps E s₀ (s.sendVector v) := h.reports (s.sendVector_reports v)

theorem signalVector {v} (h : Keeps E s₀ s) : Keeps E s₀ (s.signalVector v) := h.reports (s.signalVector_reports v)

theorem deliver {code inj} (h : Keeps E s₀ s) : Keeps E s₀ (s.deliver code inj).1 := h.reports (s.deliver_reports code inj)

theorem addCounter {w n} (h : Keeps E s₀ s) : Keeps E s₀ (s.addCounter w n) := h.wrW

theorem raise {src} (h : Keeps E s₀ s) : Keeps E s₀ (s.raise src) := h.reports (s.raise_reports src)

theorem bumpBy {w n} (h : Keeps E s₀ s) : Keeps E s₀ (s.bumpBy w n) := h.reports (s.bumpBy_reports w n)

theorem bump {w} (h : Keeps E s₀ s) : Keeps E s₀ (s.bump w) := h.bumpBy

theorem emitCode {code} (h : Keeps E s₀ s) : Keeps E s₀ (s.emitCode code) := h.reports (s.emitCode_reports code)

theorem inject {src} (h : Keeps E s₀ s) : Keeps E s₀ (s.inject src) := h.reports (s.inject_reports src)

theorem reportNonOwner {m} (h : Keeps E s₀ s) : Keeps E s₀ (s.reportNonOwner m) := h.reports (s.reportNonOwner_reports m)

theorem reportInsecure {m} (h : Keeps E s₀ s) : Keeps E s₀ (s.reportInsecure m) := h.reports (s.reportInsecure_reports m)

/-! ### Gates -/

theorem gate {m a act} (h : Keeps E s₀ s) (made : Keeps E s₀ (act s)) : Keeps E s₀ (s.gate m a act) :=
  s.gate_induct (P := fun _ t => Keeps E s₀ t) m a act (fun _ => h.reports) made

theorem gateTile {m n a act} (h : Keeps E s₀ s) (made : Keeps E s₀ (act s)) : Keeps E s₀ (s.gateTile m n a act) :=
  h.gate (.ite made h)

theorem onMain {act} (h : Keeps E s₀ s) (made : Keeps E s₀ (act s)) : Keeps E s₀ (s.onMain act) := .ite made h

theorem onVin {act} (h : Keeps E s₀ s) (made : Keeps E s₀ (act s)) : Keeps E s₀ (s.onVin act) := .ite made h

end Keeps
end Sys2Proof.Machine

namespace Sys2Proof.Machine.Keeps
variable {E : Part → Prop} {s₀ s t : State}

/-! ### Operations of `Ops` -/

theorem aerError {error bit} (h : Keeps E s₀ s) (hE : Allows E [.pcie]) : Keeps E s₀ (s.aerError error bit) := by
  unfold State.aerError
  extract_lets s1 _ s2 a b base _
  have h1 : Keeps E s₀ s1 := h.emitOut
  have h2 : Keeps E s₀ s2 := h1.setPcie (hE.of rfl)
  have ha : Keeps E s₀ a.2 := h2.freshValue
  have hb : Keeps E s₀ b.2 := ha.freshValue
  have hbase : Keeps E s₀ base := hb
  exact .ite (hbase.setPcie (hE.of rfl)) h2

theorem flushVector {v} (h : Keeps E s₀ s) : Keeps E s₀ (s.flushVector v) := by
  unfold State.flushVector
  exact .ite h.setFlag.emitOut h

theorem flushVectors (h : Keeps E s₀ s) : Keeps E s₀ s.flushVectors := h.foldl fun h => h.flushVector

theorem raiseOne {src} (h : Keeps E s₀ s) : Keeps E s₀ (s.raiseOne src).1 := by
  unfold State.raiseOne
  extract_lets s1 d
  have h1 : Keeps E s₀ s1 := h.setEvent.latchSeal.signalVector
  have hd : Keeps E s₀ d.1 := h1.deliver
  split
  · exact h
  · split
    · dsimp only
      exact h.setEvent
    · split
      · exact hd
      · dsimp only
        exact hd.addCounter

theorem raiseAll {n l} (h : Keeps E s₀ s) : Keeps E s₀ (State.raiseAll n s l) := h.reports (State.raiseAll_reports n s l)

theorem freshBytes {n} (h : Keeps E s₀ s) : Keeps E s₀ (s.freshBytes n).2 := by
  unfold State.freshBytes
  extract_lets r
  have hr : Keeps E s₀ r.2 := by
    unfold r
    refine h.foldl_snd fun h => ?_
    extract_lets v
    have hv : Keeps E s₀ v.2 := h.freshValue
    exact hv
  exact hr

/-! ### Operations of `Access` -/

theorem reportFx {m a w} (h : Keeps E s₀ s) : Keeps E s₀ (s.reportFx m a w) := by
  unfold State.reportFx
  exact .ite h.reportNonOwner h

/-! ### Operations of `SilTrig` -/

theorem missTrigger (h : Keeps E s₀ s) : Keeps E s₀ s.missTrigger := h.bump.raise

theorem silTrigger (h : Keeps E s₀ s) : Keeps E s₀ s.silTrigger := by
  unfold State.silTrigger
  extract_lets _
  split
  · exact h
  · split
    · exact .ite h.missTrigger h.hidden
    · split
      · exact h.missTrigger
      · exact .ite h.hidden.note h

theorem silTriggerFrom {src} (h : Keeps E s₀ s) : Keeps E s₀ (s.silTriggerFrom src) := by
  unfold State.silTriggerFrom
  exact .ite h.silTrigger h

theorem silGroup {g} (h : Keeps E s₀ s) : Keeps E s₀ (s.silGroup g) := by
  unfold State.silGroup
  exact .ite h.silTriggerFrom h

/-! ### Operations of `TileBase` -/

theorem setTile {t x} (h : Keeps E s₀ s) : Keeps E s₀ (s.setTile t x) := h.hidden

theorem setLoopMem {l x} (h : Keeps E s₀ s) : Keeps E s₀ (s.setLoopMem l x) := h.hidden

theorem settleLoop {l} (h : Keeps E s₀ s) : Keeps E s₀ (s.settleLoop l) := h.wr

theorem settleCourse {c} (h : Keeps E s₀ s) : Keeps E s₀ (s.settleCourse c) := h.foldl fun h => h.settleLoop

theorem markDue {t cause} (h : Keeps E s₀ s) : Keeps E s₀ (s.markDue t cause) := by
  unfold State.markDue
  exact .ite h.wr.setFlag.setFlag h

theorem touchCal {t ch} (h : Keeps E s₀ s) : Keeps E s₀ (s.touchCal t ch) := by
  unfold State.touchCal
  extract_lets _
  split
  · exact .ite h.hidden.markDue h
  · exact h

theorem settleTile {t} (h : Keeps E s₀ s) : Keeps E s₀ (s.settleTile t) := h.foldl fun h => h.settleLoop

theorem endCal {t} (h : Keeps E s₀ s) : Keeps E s₀ (s.endCal t) := by
  unfold State.endCal
  extract_lets s1 _ s2 s3 x
  have h1 : Keeps E s₀ s1 := h.settleTile
  have h2 : Keeps E s₀ s2 := h1.hidden
  have h3 : Keeps E s₀ s3 := h2.setFlag.wr
  exact h3.setTile

theorem abandonCal {t} (h : Keeps E s₀ s) : Keeps E s₀ (s.abandonCal t) := by
  unfold State.abandonCal
  exact .ite h.endCal h

/-! ### Operations of `Drive` -/

theorem stampMove {t ch} (h : Keeps E s₀ s) : Keeps E s₀ (s.stampMove t ch) := h.setTile

theorem transferLadder {t ch k} (h : Keeps E s₀ s) : Keeps E s₀ (s.transferLadder t ch k) := by
  unfold State.transferLadder
  extract_lets s1 x
  have h1 : Keeps E s₀ s1 := h.wr.wr
  exact h1.setTile.stampMove.touchCal

theorem transferIfSealed {t ch k} (h : Keeps E s₀ s) : Keeps E s₀ (s.transferIfSealed t ch k) := by
  unfold State.transferIfSealed
  exact .ite h.transferLadder h

theorem sealLadder {t ch k} (h : Keeps E s₀ s) : Keeps E s₀ (s.sealLadder t ch k) := by
  unfold State.sealLadder
  extract_lets s1
  have h1 : Keeps E s₀ s1 := h.wr
  split
  · exact .ite h1 h1.transferLadder
  · exact h

theorem sealSelect {t ch} (h : Keeps E s₀ s) : Keeps E s₀ (s.sealSelect t ch) := by
  unfold State.sealSelect
  exact .ite h.wr h

theorem sealHeater {t ch} (h : Keeps E s₀ s) : Keeps E s₀ (s.sealHeater t ch) := by
  unfold State.sealHeater
  exact .ite h.wr h

theorem sealShutters {t} (h : Keeps E s₀ s) : Keeps E s₀ (s.sealShutters t) := by
  unfold State.sealShutters
  exact .ite h.wrW.setTile h

theorem refuseWrites {t n} (h : Keeps E s₀ s) : Keeps E s₀ (s.refuseWrites t n) := by
  unfold State.refuseWrites
  exact .ite h h.bumpBy.raise

theorem missStrobe {t w chs} (h : Keeps E s₀ s) : Keeps E s₀ (s.missStrobe t w chs) := by
  unfold State.missStrobe
  exact .ite h (((h.foldl fun h => h.setEvent).bumpBy).raise)

theorem changeRange {t ch} (h : Keeps E s₀ s) : Keeps E s₀ (s.changeRange t ch) := by
  unfold State.changeRange
  extract_lets target s1 x
  have h1 : Keeps E s₀ s1 := h.wr.wr.wr
  exact h1.setTile.touchCal.markDue

theorem transferSelect {t ch} (h : Keeps E s₀ s) : Keeps E s₀ (s.transferSelect t ch) := by
  unfold State.transferSelect
  extract_lets ranged refused s1 sel s2 s3 s4 x
  have h1 : Keeps E s₀ s1 := .ite h.wr.bump.raise h
  have h2 : Keeps E s₀ s2 := .ite h1 h1.transferIfSealed.transferIfSealed
  have h3 : Keeps E s₀ s3 := .ite h2.changeRange h2
  have h4 : Keeps E s₀ s4 := h3.wr.wr
  exact h4.setTile.stampMove

theorem strobeSelect {t ch} (h : Keeps E s₀ s) : Keeps E s₀ (s.strobeSelect t ch) := by
  unfold State.strobeSelect
  exact .ite h.transferSelect h

theorem planeEdge {t cyc} (h : Keeps E s₀ s) : Keeps E s₀ (s.planeEdge t cyc) := by
  unfold State.planeEdge
  extract_lets missed s1 x
  have h1 : Keeps E s₀ s1 := (h.foldl fun h => h.strobeSelect).missStrobe
  exact h1.setTile

theorem transferHeater {t ch} (h : Keeps E s₀ s) : Keeps E s₀ (s.transferHeater t ch) := by
  unfold State.transferHeater
  extract_lets range ranged s1 x s2
  have h1 : Keeps E s₀ s1 := h.wr.wr.wr
  have h2 : Keeps E s₀ s2 := h1.setTile.stampMove.touchCal
  exact .ite h2.markDue h2

theorem heaterStrobe {t chs} (h : Keeps E s₀ s) : Keeps E s₀ (s.heaterStrobe t chs) := by
  unfold State.heaterStrobe
  extract_lets missed s1
  have h1 : Keeps E s₀ s1 := by
    unfold s1
    refine h.foldl fun h => ?_
    extract_lets s1' x
    have h1' : Keeps E s₀ s1' := .ite h.transferHeater h
    exact .ite h1'.setTile h1'
  exact h1.missStrobe

theorem shutterStrobe {t chs follows} (h : Keeps E s₀ s) : Keeps E s₀ (s.shutterStrobe t chs follows) := by
  unfold State.shutterStrobe
  extract_lets pend x missed s1
  have h1 : Keeps E s₀ s1 := h.foldl fun h => .ite h.setBitW.setBitW h
  exact h1.missStrobe

theorem groupEdge {g t} (h : Keeps E s₀ s) : Keeps E s₀ (s.groupEdge g t) := h.heaterStrobe.shutterStrobe

theorem noteGroup {g at_} (h : Keeps E s₀ s) : Keeps E s₀ (s.noteGroup g at_) := h.setEvent.foldl fun h => .ite h.setLoopMem h

theorem loadGroup {t g} (h : Keeps E s₀ s) : Keeps E s₀ (s.loadGroup t g) := by
  unfold State.loadGroup
  extract_lets s1 s2
  have h1 : Keeps E s₀ s1 := h.noteGroup
  have h2 : Keeps E s₀ s2 := .ite h1.silGroup h1
  exact h2.heaterStrobe

theorem loadStrobe {t} (h : Keeps E s₀ s) : Keeps E s₀ (s.loadStrobe t) := by
  unfold State.loadStrobe
  extract_lets sel missed s1
  have h1 : Keeps E s₀ s1 := (h.foldl fun h => h.transferIfSealed).missStrobe
  exact h1.foldl fun h => h.loadGroup

theorem setGroupInFlight {g v} (h : Keeps E s₀ s) : Keeps E s₀ (s.setGroupInFlight g v) := h.hidden

theorem fireGroup {g} (h : Keeps E s₀ s) : Keeps E s₀ (s.fireGroup g) := h.noteGroup.setGroupInFlight.emitOut.silGroup

theorem fireSlotGroups {due} (h : Keeps E s₀ s) : Keeps E s₀ (s.fireSlotGroups due) := h.foldl fun h => .ite h.fireGroup h

theorem firePlane {due} (h : Keeps E s₀ s) : Keeps E s₀ (s.firePlane due) :=
  h.setEvent.hidden.emitOut.silTriggerFrom.fireSlotGroups

theorem writeLadder {m t ch k w} (h : Keeps E s₀ s) : Keeps E s₀ (s.writeLadder m t ch k w) := by
  unfold State.writeLadder
  exact .ite h.refuseWrites h.wr.wr

theorem writeSelShadow {m t ch w} (h : Keeps E s₀ s) : Keeps E s₀ (s.writeSelShadow m t ch w) := by
  unfold State.writeSelShadow
  extract_lets selBad rangeBad s1
  have h1 : Keeps E s₀ s1 := .ite h h.wr.wr
  exact .ite h1.refuseWrites h1

theorem writeHeater {m t ch w} (h : Keeps E s₀ s) : Keeps E s₀ (s.writeHeater m t ch w) := by
  unfold State.writeHeater
  exact .ite h.refuseWrites h.wr.wr.wr

theorem writeShutters {m t i w} (h : Keeps E s₀ s) : Keeps E s₀ (s.writeShutters m t i w) := by
  unfold State.writeShutters
  extract_lets old differ taken s1
  have h1 : Keeps E s₀ s1 := by
    unfold s1
    refine h.foldl fun h => ?_
    extract_lets s1' x
    have h1' : Keeps E s₀ s1' := h.setBitW.setBitW
    exact h1'.setTile
  exact .ite h1.refuseWrites h

theorem writeDrvEnable {t w} (h : Keeps E s₀ s) : Keeps E s₀ (s.writeDrvEnable t w) := by
  unfold State.writeDrvEnable
  extract_lets s1 x
  have h1 : Keeps E s₀ s1 := h.wr.wr
  exact h1.setTile

theorem resetLatches {t} (h : Keeps E s₀ s) : Keeps E s₀ (s.resetLatches t) := h.mapWords.setTile

theorem sealSelAll {t} (h : Keeps E s₀ s) : Keeps E s₀ (s.sealSelAll t) := h.foldl fun h => h.sealSelect

theorem sealLadderAll {t} (h : Keeps E s₀ s) : Keeps E s₀ (s.sealLadderAll t) := h.foldl fun h => h.sealLadder.sealLadder

theorem sealHtrAll {t} (h : Keeps E s₀ s) : Keeps E s₀ (s.sealHtrAll t) := h.foldl fun h => h.sealHeater

theorem commandGroup {g} (h : Keeps E s₀ s) : Keeps E s₀ (s.commandGroup g) := by
  unfold State.commandGroup
  exact .ite h.fireGroup h.bump

theorem groupStrobeAt {g t} (h : Keeps E s₀ s) : Keeps E s₀ (s.groupStrobeAt g t) := by
  unfold State.groupStrobeAt
  extract_lets e s1
  have h1 : Keeps E s₀ s1 := h.setGroupInFlight
  split
  · exact .ite h1.groupEdge h1
  · exact h

theorem releaseHold {t ch heater} (h : Keeps E s₀ s) : Keeps E s₀ (s.releaseHold t ch heater) := h.setTile

theorem heaterOpen {t ch on} (h : Keeps E s₀ s) : Keeps E s₀ (s.heaterOpen t ch on) := by
  unfold State.heaterOpen
  exact .ite h.setFlag.setFlag.raise h.setFlag

theorem heaterCompliance {t ch on} (h : Keeps E s₀ s) : Keeps E s₀ (s.heaterCompliance t ch on) := by
  unfold State.heaterCompliance
  exact .ite h.setFlag.raise h.setFlag

theorem shutterCurrent {t ch microamps ns} (h : Keeps E s₀ s) : Keeps E s₀ (s.shutterCurrent t ch microamps ns) := by
  unfold State.shutterCurrent
  exact .ite h.setEvent.raise h

/-! ### Operations of `Sense` -/

theorem refuseSense {t n} (h : Keeps E s₀ s) : Keeps E s₀ (s.refuseSense t n) := by
  unfold State.refuseSense
  exact .ite h h.bumpBy.raise

theorem applyRanges {t} (h : Keeps E s₀ s) : Keeps E s₀ (s.applyRanges t) := by
  unfold State.applyRanges
  refine h.foldl fun h => ?_
  extract_lets a s1 moved
  have h1 : Keeps E s₀ s1 := h.applyLv
  exact h1.foldl fun h => h.touchCal.markDue

theorem scanStart {t} (h : Keeps E s₀ s) : Keeps E s₀ (s.scanStart t) := by
  unfold State.scanStart
  extract_lets x s1 s2
  have h1 : Keeps E s₀ s1 := h.applyLv.applyRanges.wr
  have h2 : Keeps E s₀ s2 := h1.setTile
  exact .ite h2 h2.loadStrobe

theorem rbCompare {t ch fails} (h : Keeps E s₀ s) : Keeps E s₀ (s.rbCompare t ch fails) := by
  unfold State.rbCompare
  extract_lets x run s1
  have h1 : Keeps E s₀ s1 := h.setTile.bump
  split
  · exact .ite h1.setFlag.raise h1
  · exact h.setFlag.setTile

theorem readBack {t ch sel unsel} (h : Keeps E s₀ s) : Keeps E s₀ (s.readBack t ch sel unsel) := by
  unfold State.readBack
  extract_lets s1 fresh k
  have h1 : Keeps E s₀ s1 := h.wr.wr
  exact .ite h1 h1.rbCompare.rbCompare

theorem endDiag {t mode code readings} (h : Keeps E s₀ s) : Keeps E s₀ (s.endDiag t mode code readings) := by
  unfold State.endDiag
  extract_lets vs x s0 f1 f2 n sum tol bad s1
  have h0 : Keeps E s₀ s0 := h.setTile.setFlag.setEvent
  have hf1 : Keeps E s₀ f1.2 := h0.freshValue
  have hf2 : Keeps E s₀ f2.2 := hf1.freshValue
  have h1 : Keeps E s₀ s1 := h0.wrS.wr
  split
  · exact hf2.wr.wr
  · exact .ite h1.raise h1

theorem diagReading {t d reading} (h : Keeps E s₀ s) : Keeps E s₀ (s.diagReading t d reading) := by
  unfold State.diagReading
  exact .ite h.endDiag h.setTile

theorem noteClip {t pd clipped} (h : Keeps E s₀ s) : Keeps E s₀ (s.noteClip t pd clipped) := by
  unfold State.noteClip
  extract_lets x run s1
  have h1 : Keeps E s₀ s1 := h.setTile
  split
  · exact .ite h1.raise h1
  · exact h.setTile

theorem noteSample {t pd code range guard sel} (h : Keeps E s₀ s) : Keeps E s₀ (s.noteSample t pd code range guard sel) :=
  h.setWord

theorem noteSamples {t r pdA pdB} (h : Keeps E s₀ s) : Keeps E s₀ (s.noteSamples t r pdA pdB) :=
  h.noteSample.noteSample.noteClip.noteClip

theorem convert {t k a b} (h : Keeps E s₀ s) : Keeps E s₀ (s.convert t k a b) := by
  unfold State.convert
  extract_lets p x delta guard focus pdA pdB sel rec1 s1 s2 s3 y s3' y'
  have h1 : Keeps E s₀ s1 := h.setTile
  have h2 : Keeps E s₀ s2 := .ite h1.bump h1
  have h3 : Keeps E s₀ s3 := h2.noteSample
  have h3' : Keeps E s₀ s3' := h2.noteSample
  clear_value p
  split
  · exact h.setTile
  · exact h2.readBack
  · exact h3.setTile
  · split
    · exact h2.noteSamples.diagReading
    · exact h3'.setTile.noteClip
  · exact h2.noteSamples

theorem frameTx {t} (h : Keeps E s₀ s) : Keeps E s₀ (s.frameTx t) := by
  unfold State.frameTx
  extract_lets x displaced s1
  have h1 : Keeps E s₀ s1 := h.setTile
  split
  · exact h1.noteClip
  · exact h1

theorem writeTiaRange {m t n w} (h : Keeps E s₀ s) : Keeps E s₀ (s.writeTiaRange m t n w) := (Keeps.ite h h.holdLv).refuseSense

theorem writeScanCfg {t w} (h : Keeps E s₀ s) : Keeps E s₀ (s.writeScanCfg t w) := by
  unfold State.writeScanCfg
  exact .ite h.refuseSense h.holdLv

theorem writeFocus {t w} (h : Keeps E s₀ s) : Keeps E s₀ (s.writeFocus t w) := by
  unfold State.writeFocus
  extract_lets s1 x
  have h1 : Keeps E s₀ s1 := h.wr.wr.wr
  split
  · exact h1
  · exact .ite h1.refuseSense h1.setTile

theorem focusEnd {t} (h : Keeps E s₀ s) : Keeps E s₀ (s.focusEnd t) := by
  unfold State.focusEnd
  extract_lets x
  split
  · exact .ite h.setTile h
  · exact h

theorem writeDiag {t w} (h : Keeps E s₀ s) : Keeps E s₀ (s.writeDiag t w) := by
  unfold State.writeDiag
  extract_lets mode times s1 x
  have h1 : Keeps E s₀ s1 := h.wr.wr.wr.wr
  split
  · exact h.refuseSense
  · split
    · exact h1
    · exact .ite h1.endDiag h1.setFlag.setTile

theorem writeFastCfg {t w} (h : Keeps E s₀ s) : Keeps E s₀ (s.writeFastCfg t w) := by
  unfold State.writeFastCfg
  exact .ite h.bump.raise h.setWord

theorem linkTrained {t} (h : Keeps E s₀ s) : Keeps E s₀ (s.linkTrained t) := by
  unfold State.linkTrained
  extract_lets s1
  have h1 : Keeps E s₀ s1 := h.setFlag
  exact .ite h1.wr h1

theorem linkLost {t} (h : Keeps E s₀ s) : Keeps E s₀ (s.linkLost t) := by
  unfold State.linkLost
  extract_lets s1 x s2
  have h1 : Keeps E s₀ s1 := h.setFlag
  have h2 : Keeps E s₀ s2 := h1.setTile
  exact h2.abandonCal.raise

theorem linkCrc {t} (h : Keeps E s₀ s) : Keeps E s₀ (s.linkCrc t) := h.bump.raise

theorem landTxn {t a} (h : Keeps E s₀ s) : Keeps E s₀ (s.landTxn t a) := by
  unfold State.landTxn
  extract_lets x
  split
  · exact .ite h.wr.wr.sealLadder h.wr.wr.wr
  · exact h.setTile.foldl fun h => h.wr.wr
  · exact .ite h.wrW.wrW.setTile h

theorem land {t p crcOk} (h : Keeps E s₀ s) : Keeps E s₀ (s.land t p crcOk) := by
  unfold State.land
  extract_lets y
  split
  · extract_lets s1
    have h1 : Keeps E s₀ s1 := h.setTile
    exact .ite h1.landTxn h1.linkCrc
  · exact h

theorem issue {t x} (h : Keeps E s₀ s) : Keeps E s₀ (s.issue t x) := by
  unfold State.issue
  exact .ite h.setTile h

/-! ### Operations of `Accord` -/

theorem setRecord {n a} (h : Keeps E s₀ s) : Keeps E s₀ (s.setRecord n a) := h.hidden

theorem showPending (h : Keeps E s₀ s) : Keeps E s₀ s.showPending := h.wr.wr

theorem setBank {f v} (h : Keeps E s₀ s) : Keeps E s₀ (s.setBank f v) := h.wr

theorem discardFrame {f} (h : Keeps E s₀ s) : Keeps E s₀ (s.discardFrame f) := h.setBank.bump.raise

/-! ### Operations of `KBase` -/

theorem setLane {n x} (h : Keeps E s₀ s) : Keeps E s₀ (s.setLane n x) := h.hidden

theorem queueTx {lane x} (h : Keeps E s₀ s) : Keeps E s₀ (s.queueTx lane x) := h.setLane

theorem sendLocal {lane type payload} (h : Keeps E s₀ s) : Keeps E s₀ (s.sendLocal lane type payload) := h.queueTx

theorem toLanes {lanes type payload} (h : Keeps E s₀ s) : Keeps E s₀ (s.toLanes lanes type payload) :=
  h.foldl fun h => h.sendLocal

theorem toWorkers {type payload} (h : Keeps E s₀ s) : Keeps E s₀ (s.toWorkers type payload) := by
  unfold State.toWorkers
  exact .ite h.toLanes h

theorem toTwin {type payload} (h : Keeps E s₀ s) : Keeps E s₀ (s.toTwin type payload) := by
  unfold State.toTwin
  exact .ite h.sendLocal h

theorem queueSys {x} (h : Keeps E s₀ s) : Keeps E s₀ (s.queueSys x) := h.hidden

theorem dropGrant {lane} (h : Keeps E s₀ s) : Keeps E s₀ (s.dropGrant lane) := h.bump.raise

theorem copyToCard {x seq} (h : Keeps E s₀ s) : Keeps E s₀ (s.copyToCard x seq) := by
  unfold State.copyToCard
  split
  · exact h
  · split
    · exact h.queueTx
    · exact .ite h.dropGrant h

theorem copyToWorker {x seq n} (h : Keeps E s₀ s) : Keeps E s₀ (s.copyToWorker x seq n) := by
  unfold State.copyToWorker
  exact .ite h.queueTx h

theorem issueOne {x} (h : Keeps E s₀ s) : Keeps E s₀ (s.issueOne x) := by
  unfold State.issueOne
  extract_lets seq s1
  have h1 : Keeps E s₀ s1 := h.wr
  exact .ite (h1.copyToCard.foldl fun h => h.copyToWorker) h1

theorem issuePoint {g} (h : Keeps E s₀ s) : Keeps E s₀ (s.issuePoint g) := h.hidden.foldl fun h => h.issueOne

theorem setCtx {n x} (h : Keeps E s₀ s) : Keeps E s₀ (s.setCtx n x) := h.hidden

theorem queueAnswer {a from_} (h : Keeps E s₀ s) : Keeps E s₀ (s.queueAnswer a from_) := by
  unfold State.queueAnswer
  extract_lets s1 s2
  have h1 : Keeps E s₀ s1 := h.queueSys
  have h2 : Keeps E s₀ s2 := h1.bump.raise
  split
  · exact h1
  · exact .ite h2.raise h2

theorem notice {ep n x kind frame slot seq from_} (h : Keeps E s₀ s) : Keeps E s₀ (s.notice ep n x kind frame slot seq from_) :=
  h.queueSys

theorem noticeBoth {n x kind frame slot seq from_} (h : Keeps E s₀ s) :
    Keeps E s₀ (s.noticeBoth n x kind frame slot seq from_) := by
  unfold State.noticeBoth
  extract_lets s1
  have h1 : Keeps E s₀ s1 := h.notice
  exact .ite h1 h1.notice

/-! ### Operations of `Standing` -/

theorem setPlane {p} (h : Keeps E s₀ s) : Keeps E s₀ (s.setPlane p) := h.hidden

theorem cutRelease {here w withdraw o p} (h : Keeps E s₀ s) : Keeps E s₀ (s.cutRelease here w withdraw o p).1 := by
  unfold State.cutRelease
  extract_lets _ ack
  split
  · split
    · dsimp only
      exact h.queueAnswer.queueAnswer
    · dsimp only
      exact h.queueAnswer
  · extract_lets gone s1
    have h1 : Keeps E s₀ s1 := h.foldl fun h => h.setCtx
    exact h1

theorem cutSetup {here w seq o p} (h : Keeps E s₀ s) : Keeps E s₀ (s.cutSetup here w seq o p).1 := by
  unfold State.cutSetup
  extract_lets refuse pairs idx held w1
  have hrefuse : ∀ cause, Keeps E s₀ (refuse cause).1 := fun _ => by
    dsimp only [refuse]
    exact h.queueAnswer
  have hheld : Keeps E s₀ held := h.foldl fun h => h.setCtx
  split
  · exact hrefuse 7
  split
  · exact hrefuse 5
  split
  · exact hrefuse 6
  split
  · exact hheld
  split
  · exact hheld
  · exact hrefuse 3

theorem cutWork {here base seq ops} (h : Keeps E s₀ s) : Keeps E s₀ (s.cutWork here base seq ops).1 := by
  unfold State.cutWork
  extract_lets w0 r
  have hr : Keeps E s₀ r.1 := by
    unfold r
    refine h.foldl_fst fun h => ?_
    split
    · exact h.cutRelease
    · exact h
  refine hr.foldl_fst fun h => ?_
  split
  · exact h.cutSetup
  · exact h

theorem runCut {here ops} (h : Keeps E s₀ s) : Keeps E s₀ (s.runCut here ops) := by
  unfold State.runCut
  extract_lets base seq r w s1 rearr a b moved u _
  have hr : Keeps E s₀ r.1 := h.cutWork
  have h1 : Keeps E s₀ s1 := hr
  exact .ite h1 h1.setPlane

theorem takeCut {here} (h : Keeps E s₀ s) : Keeps E s₀ (s.takeCut here) := by
  unfold State.takeCut
  extract_lets due r _ s1
  have h1 : Keeps E s₀ s1 := h.setPlane
  exact .ite h ((Keeps.ite h1 h1.raise).runCut)

theorem undoUpdate {cancel u} (h : Keeps E s₀ s) : Keeps E s₀ (s.undoUpdate cancel u) := by
  unfold State.undoUpdate
  extract_lets s1 s2 s3 _
  have h1 : Keeps E s₀ s1 := .ite (h.foldl fun h => h.noticeBoth) h
  have h2 : Keeps E s₀ s2 := h1.foldl fun h => h.setCtx
  have h3 : Keeps E s₀ s3 := h2.foldl fun h => .ite h.setCtx h
  exact h3.setPlane

theorem discardUpdates (h : Keeps E s₀ s) : Keeps E s₀ s.discardUpdates := by
  unfold State.discardUpdates
  extract_lets s1 s2 _
  have h1 : Keeps E s₀ s1 := h.foldl fun h => h.undoUpdate
  have h2 : Keeps E s₀ s2 := h1.foldl fun h => h.undoUpdate
  exact h2.setPlane.showPending

theorem tellStanding {kind index frame slot record} (h : Keeps E s₀ s) :
    Keeps E s₀ (s.tellStanding kind index frame slot record) :=
  h.toWorkers

theorem commitTo {u n g old earlier} (h : Keeps E s₀ s) : Keeps E s₀ (s.commitTo u n g old earlier) := by
  unfold State.commitTo
  extract_lets frame slot _ a v _ s1 s2 told s3 s4
  have h1 : Keeps E s₀ s1 := h.setRecord.setPlane
  have h2 : Keeps E s₀ s2 := h1.showPending.foldl fun h => h.setCtx
  have htold : Keeps E s₀ told := by
    unfold told
    split
    · exact h2.hidden
    · exact h2
  have h3 : Keeps E s₀ s3 := htold.foldl fun h => h.noticeBoth
  have h4 : Keeps E s₀ s4 := .ite h3.bump h3
  exact h4.tellStanding

theorem commitStanding (h : Keeps E s₀ s) : Keeps E s₀ s.commitStanding := by
  unfold State.commitStanding
  extract_lets last lastAt _
  split
  · exact h
  · extract_lets g replaces earlier s1
    have h1 : Keeps E s₀ s1 := h.setPlane
    split
    · exact h1.commitTo
    · exact (h.setPlane.foldl fun h => h.undoUpdate).raise

theorem setAlternate {n x} (h : Keeps E s₀ s) : Keeps E s₀ (s.setAlternate n x) := h.setPlane

theorem setArmed {n b} (h : Keeps E s₀ s) : Keeps E s₀ (s.setArmed n b) := h.wr

theorem setEligible {n b} (h : Keeps E s₀ s) : Keeps E s₀ (s.setEligible n b) := h.wr

theorem altRefused (h : Keeps E s₀ s) : Keeps E s₀ s.altRefused := h.raise

theorem armRecord {n} (h : Keeps E s₀ s) : Keeps E s₀ (s.armRecord n) := by
  unfold State.armRecord
  extract_lets base _ a s1
  have h1 : Keeps E s₀ s1 := h.setRecord.setArmed.setEligible
  exact h1.setAlternate

theorem armAlternate {n} (h : Keeps E s₀ s) : Keeps E s₀ (s.armAlternate n) := by
  unfold State.armAlternate
  extract_lets s1
  have h1 : Keeps E s₀ s1 := h.armRecord
  exact .ite h.altRefused h1.tellStanding

theorem dropAlternate {n} (h : Keeps E s₀ s) : Keeps E s₀ (s.dropAlternate n) := h.setArmed.setEligible.setAlternate

theorem disarmAlternate {n} (h : Keeps E s₀ s) : Keeps E s₀ (s.disarmAlternate n) := by
  unfold State.disarmAlternate
  exact .ite h.dropAlternate.tellStanding h

theorem rebuildOne {n} (h : Keeps E s₀ s) : Keeps E s₀ (s.rebuildOne n) := by
  unfold State.rebuildOne
  extract_lets s1 _ old
  have h1 : Keeps E s₀ s1 := h.disarmAlternate
  split
  · exact h
  · split
    · exact h1.setEvent.raise
    · extract_lets b s1' s2
      have h1' : Keeps E s₀ s1' := h.setRecord
      have h2 : Keeps E s₀ s2 := .ite h1' h1'.setEligible.setAlternate
      exact h2.tellStanding

theorem rebuildAlternates (h : Keeps E s₀ s) : Keeps E s₀ s.rebuildAlternates := h.foldl fun h => h.rebuildOne

theorem markEligibleFrom {f} (h : Keeps E s₀ s) : Keeps E s₀ (s.markEligibleFrom f) := h.setPlane

theorem makeEligible {f} (h : Keeps E s₀ s) : Keeps E s₀ (s.makeEligible f) := by
  unfold State.makeEligible
  refine h.foldl fun h => ?_
  split
  · exact .ite h.setEligible h
  · exact h

theorem keepAnswer {a} (h : Keeps E s₀ s) : Keeps E s₀ (s.keepAnswer a) := h.foldl fun h => h.setCtx

theorem answerApplied {u a0} (h : Keeps E s₀ s) : Keeps E s₀ (s.answerApplied u a0) := by
  unfold State.answerApplied
  extract_lets a s1 s2
  have h1 : Keeps E s₀ s1 := h.queueAnswer.keepAnswer
  have h2 : Keeps E s₀ s2 := h1.bump
  split
  · exact .ite h2 h2.notice
  · exact h2

theorem applyUpdate {u} (h : Keeps E s₀ s) : Keeps E s₀ (s.applyUpdate u) := by
  unfold State.applyUpdate
  extract_lets _ a s1 _ s2 s3 s4 s5 s6
  have h1 : Keeps E s₀ s1 := h.setRecord.wr.wr
  have h2 : Keeps E s₀ s2 := h1.setPlane.showPending
  have h3 : Keeps E s₀ s3 := h2.bump
  have h4 : Keeps E s₀ s4 := h3.foldl fun h => h.answerApplied
  have h5 : Keeps E s₀ s5 := h4.foldl fun h => .ite h.setCtx h
  have h6 : Keeps E s₀ s6 := h5.foldl fun h => .ite h.setCtx h
  exact h6.rebuildAlternates

theorem applyDue {g} (h : Keeps E s₀ s) : Keeps E s₀ (s.applyDue g) := h.foldl fun h => .ite h.applyUpdate h

theorem requestSwitch {n} (h : Keeps E s₀ s) : Keeps E s₀ (s.requestSwitch n) := by
  unfold State.requestSwitch
  extract_lets _
  split
  · exact h.toTwin
  · split
    · exact h
    · split
      · exact h.altRefused
      · split
        · exact h.setPlane
        · split
          · exact h.setPlane.altRefused
          · exact .ite h h.altRefused

theorem takeSwitch (h : Keeps E s₀ s) : Keeps E s₀ s.takeSwitch := by
  unfold State.takeSwitch
  extract_lets _ s0 lead _
  have h0 : Keeps E s₀ s0 := h.setPlane
  split
  · exact h
  · extract_lets scheduled t g p s1 s2
    have h1 : Keeps E s₀ s1 := h0.setPlane.setFlag
    have h2 : Keeps E s₀ s2 := h1.toWorkers
    split
    · exact h0.altRefused
    · exact .ite h2.toTwin h2

theorem dropContext {frame slot e} (h : Keeps E s₀ s) : Keeps E s₀ (s.dropContext frame slot e) := by
  unfold State.dropContext
  extract_lets x twice s1
  have h1 : Keeps E s₀ s1 := .ite h h.noticeBoth
  exact h1.setCtx.bump.raise

theorem applySwitch {n} (h : Keeps E s₀ s) : Keeps E s₀ (s.applySwitch n) := by
  unfold State.applySwitch
  extract_lets seq s1 _ a s2 _ s3 pairs gone s4
  have h1 : Keeps E s₀ s1 := h.discardUpdates
  have h2 : Keeps E s₀ s2 := h1.setRecord.dropAlternate.wr.wr
  have h3 : Keeps E s₀ s3 := h2.setPlane.setFlag
  have h4 : Keeps E s₀ s4 := h3.foldl fun h => h.dropContext
  exact h4.bump.rebuildAlternates.raise

theorem refuseAccord (h : Keeps E s₀ s) : Keeps E s₀ s.refuseAccord := h.bump.raise

theorem writeRecord {r w v} (h : Keeps E s₀ s) : Keeps E s₀ (s.writeRecord r w v) := by
  unfold State.writeRecord
  extract_lets n a
  split
  · exact .ite h.setRecord h.refuseAccord
  · exact .ite h.refuseAccord h.setRecord

/-! ### Operations of `Thermal` -/

theorem setSensorMem {n x} (h : Keeps E s₀ s) (hE : Allows E [.therm]) : Keeps E s₀ (s.setSensorMem n x) :=
  h.setTherm (hE.of rfl)

theorem setSensor {f on src} (h : Keeps E s₀ s) : Keeps E s₀ (s.setSensor f on src) := by
  unfold State.setSensor
  exact .ite h.setFlag.raise h.setFlag

theorem setSuspect {n on} (h : Keeps E s₀ s) : Keeps E s₀ (s.setSuspect n on) := by
  unfold State.setSuspect
  exact .ite h.setFlag.bump.raise h.setFlag

theorem showUsed {n} (h : Keeps E s₀ s) : Keeps E s₀ (s.showUsed n) := by
  unfold State.showUsed
  extract_lets med s1
  have h1 : Keeps E s₀ s1 := h.wr
  exact .ite h1.wrS h1

theorem judgeSensor {n} (h : Keeps E s₀ s) : Keeps E s₀ (s.judgeSensor n) := by
  unfold State.judgeSensor
  extract_lets used warn alarm isolated s1 s2 s3 s4
  have h1 : Keeps E s₀ s1 := h.setSensor
  have h2 : Keeps E s₀ s2 := h1.setSensor
  have h3 : Keeps E s₀ s3 := h2.setSensor
  have h4 : Keeps E s₀ s4 := h3.setSensor
  exact h4.setFlag

theorem showHottest (h : Keeps E s₀ s) : Keeps E s₀ s.showHottest := by
  unfold State.showHottest
  extract_lets s1 f
  have h1 : Keeps E s₀ s1 := by
    unfold s1
    split
    · exact h.wr.wr
    · exact h
  have hf : Keeps E s₀ f.2 := h1.freshValue
  split
  · exact h1.wr.wr
  · exact hf.wr.wr

theorem takeReadings {readings} (h : Keeps E s₀ s) (hE : Allows E [.therm]) : Keeps E s₀ (s.takeReadings readings) :=
  h.foldl fun h => .ite h.wrS.setFlag (h.setFlag.setSensorMem (hE.of rfl))

theorem decideSuspects (h : Keeps E s₀ s) (hE : Allows E [.therm]) : Keeps E s₀ s.decideSuspects :=
  h.foldl fun h => (h.setSensorMem (hE.of rfl)).setSuspect

theorem tempCause {t} (h : Keeps E s₀ s) : Keeps E s₀ (s.tempCause t) := by
  unfold State.tempCause
  extract_lets ref used s1
  have h1 : Keeps E s₀ s1 := h.wrS
  exact .ite h1.markDue h1

theorem setSlot {k bytes} (h : Keeps E s₀ s) (hE : Allows E [.therm]) : Keeps E s₀ (s.setSlot k bytes) := h.setTherm (hE.of rfl)

theorem dropPart (h : Keeps E s₀ s) (hE : Allows E [.therm]) : Keeps E s₀ s.dropPart := by
  unfold State.dropPart
  extract_lets _
  split
  · exact ((h.setTherm (hE.of rfl)).setSlot (hE.of rfl)).wr
  · exact h

theorem assertTrip {n} (h : Keeps E s₀ s) (hE : Allows E [.therm]) : Keeps E s₀ (s.assertTrip n) := by
  unfold State.assertTrip
  extract_lets s0 s1 _ s2
  have h0 : Keeps E s₀ s0 := h.dropPart (hE.of rfl)
  have h1 : Keeps E s₀ s1 := .ite (h0.setFree (Nat.le_succ _)) h0
  have h2 : Keeps E s₀ s2 := h1.setTherm (hE.of rfl)
  exact h2.setFlag.bump.raise

theorem judgeTrip (h : Keeps E s₀ s) (hE : Allows E [.therm]) : Keeps E s₀ s.judgeTrip := by
  unfold State.judgeTrip
  split
  · exact .ite h (h.assertTrip (hE.of rfl))
  · exact h

theorem convertSensors {readings} (h : Keeps E s₀ s) (hE : Allows E [.therm]) : Keeps E s₀ (s.convertSensors readings) := by
  unfold State.convertSensors
  extract_lets s1 s2 s3 s4
  have h1 : Keeps E s₀ s1 := (h.takeReadings (hE.of rfl)).decideSuspects (hE.of rfl)
  have h2 : Keeps E s₀ s2 := h1.foldl fun h => h.showUsed
  have h3 : Keeps E s₀ s3 := h2.foldl fun h => h.judgeSensor
  have h4 : Keeps E s₀ s4 := h3.foldl fun h => h.tempCause
  exact h4.showHottest.judgeTrip (hE.of rfl)

theorem evaluateRise {n} (h : Keeps E s₀ s) (hE : Allows E [.therm]) : Keeps E s₀ (s.evaluateRise n) := by
  unfold State.evaluateRise
  exact .ite (h.setSensor.setSensorMem (hE.of rfl)) h

theorem beginErase {slots} (h : Keeps E s₀ s) (hE : Allows E [.therm]) : Keeps E s₀ (s.beginErase slots) :=
  (h.setTherm (hE.of rfl)).setFlag

theorem commitRecord {error} (h : Keeps E s₀ s) (hE : Allows E [.therm]) : Keeps E s₀ (s.commitRecord error) := by
  unfold State.commitRecord
  split
  · exact h
  · extract_lets s1 f base _ _ s2
    have h1 : Keeps E s₀ s1 := h.wr
    have hf : Keeps E s₀ f.2 := h1.freshBytes
    have hbase : Keeps E s₀ base := hf
    have h2 : Keeps E s₀ s2 :=
      .ite (((hbase.setTherm (hE.of rfl)).setSlot (hE.of rfl)).raise) (((h1.setTherm (hE.of rfl)).setSlot (hE.of rfl)).wr)
    exact .ite (h2.beginErase (hE.of rfl)) h2

theorem eraseDone {error} (h : Keeps E s₀ s) (hE : Allows E [.therm]) : Keeps E s₀ (s.eraseDone error) := by
  unfold State.eraseDone
  extract_lets _ s1 _
  have h1 : Keeps E s₀ s1 := (h.setTherm (hE.of rfl)).setFlag
  split
  · exact h
  · split
    · refine Keeps.raise ?_
      refine Keeps.wr ?_
      refine h1.foldl fun h => ?_
      extract_lets f
      have hf : Keeps E s₀ f.2 := h.freshBytes
      exact hf.setSlot (hE.of rfl)
    · exact h1.setTherm (hE.of rfl)

theorem eraseRing (h : Keeps E s₀ s) (hE : Allows E [.therm]) : Keeps E s₀ s.eraseRing := by
  unfold State.eraseRing
  exact .ite h.raise (h.beginErase (hE.of rfl))

theorem readSlot {k} (h : Keeps E s₀ s) : Keeps E s₀ (s.readSlot k) := ((h.foldl fun h => h.wr).setEvent).setFlag

theorem releaseTrip (h : Keeps E s₀ s) (hE : Allows E [.therm]) : Keeps E s₀ s.releaseTrip := by
  unfold State.releaseTrip
  exact .ite h ((h.setTherm (hE.of rfl)).setFlag)

theorem scanRing (h : Keeps E s₀ s) (hE : Allows E [.therm]) : Keeps E s₀ s.scanRing := by
  unfold State.scanRing
  extract_lets s0 lost _ s1 latest active s2 other
  have h0 : Keeps E s₀ s0 := h.dropPart (hE.of rfl)
  have h1 : Keeps E s₀ s1 := (h0.setTherm (hE.of rfl)).foldl fun h => h.wr
  have h2 : Keeps E s₀ s2 := by
    unfold s2
    clear_value latest
    split
    · exact h1.wr.wr
    · exact h1.wr.wr
  exact .ite h2 (h2.beginErase (hE.of rfl))

/-! ### Operations of `Calib` -/

theorem refuseCal (h : Keeps E s₀ s) : Keeps E s₀ s.refuseCal := h.bump.raise

theorem writeMirror {t k w} (h : Keeps E s₀ s) : Keeps E s₀ (s.writeMirror t k w) := by
  unfold State.writeMirror
  extract_lets a old _ s1
  have h1 : Keeps E s₀ s1 := .ite h h.hidden
  exact .ite h.refuseCal h1.setWord.setFlag

theorem revertMirror {t} (h : Keeps E s₀ s) : Keeps E s₀ (s.revertMirror t) := by
  unfold State.revertMirror
  refine h.setFlag.foldl fun h => ?_
  extract_lets a _
  split
  · exact h.hidden.setWord
  · exact h

theorem calResult {t result ignored} (h : Keeps E s₀ s) : Keeps E s₀ (s.calResult t result ignored) := h.wr.wr.setFlag

theorem startCal {t kind staged} (h : Keeps E s₀ s) : Keeps E s₀ (s.startCal t kind staged) := by
  unfold State.startCal
  extract_lets s1 _ s2
  have h1 : Keeps E s₀ s1 := h.settleTile
  have h2 : Keeps E s₀ s2 := h1.hidden
  exact h2.setFlag.wr

theorem failCal {t} (h : Keeps E s₀ s) : Keeps E s₀ (s.failCal t) := h.calResult.bump.raise.endCal

theorem clearDue {t} (h : Keeps E s₀ s) : Keeps E s₀ (s.clearDue t) := h.setFlag.wr.setFlag

theorem forgetLoaded {t} (h : Keeps E s₀ s) : Keeps E s₀ (s.forgetLoaded t) := h.hidden.setFlag

theorem finishCal {t run ws} (h : Keeps E s₀ s) : Keeps E s₀ (s.finishCal t run ws) := by
  unfold State.finishCal
  extract_lets s1 s2 s3 s4
  have h1 : Keeps E s₀ s1 := (h.foldl fun h => h.setWord).forgetLoaded
  have h2 : Keeps E s₀ s2 := .ite h1 h1.wr
  have h3 : Keeps E s₀ s3 := h2.wr.wr.calResult
  have h4 : Keeps E s₀ s4 := h3.bump.clearDue
  exact (Keeps.ite h4 h4.markDue).endCal

theorem measured {t r} (h : Keeps E s₀ s) : Keeps E s₀ (s.measured t r) := by
  unfold State.measured
  extract_lets _
  split
  · extract_lets n s1
    have h1 : Keeps E s₀ s1 := h.hidden
    split
    · exact h
    · split
      · exact h.failCal
      · exact .ite h1 h1.bumpBy.raise
  · exact h

theorem loadStaged {t} (h : Keeps E s₀ s) : Keeps E s₀ (s.loadStaged t) := by
  unfold State.loadStaged
  split
  · split
    · exact h.finishCal
    · exact h
  · exact h

theorem applyTrims {t} (h : Keeps E s₀ s) : Keeps E s₀ (s.applyTrims t) := by
  unfold State.applyTrims
  exact .ite h h.loadStaged

theorem fullDone {t r} (h : Keeps E s₀ s) : Keeps E s₀ (s.fullDone t r) := by
  unfold State.fullDone
  split
  · extract_lets n
    split
    · exact h
    · exact .ite h.failCal ((Keeps.ite h h.bumpBy.raise).finishCal)
  · exact h

theorem calGo {t} (h : Keeps E s₀ s) : Keeps E s₀ (s.calGo t) := by
  unfold State.calGo
  exact .ite h h.markDue

theorem calFull {t} (h : Keeps E s₀ s) : Keeps E s₀ (s.calFull t) := by
  unfold State.calFull
  split
  · exact h.refuseCal
  · exact .ite h h.startCal

theorem calLoad {t} (h : Keeps E s₀ s) : Keeps E s₀ (s.calLoad t) := by
  unfold State.calLoad
  exact .ite h h.startCal

theorem calAbort {t} (h : Keeps E s₀ s) : Keeps E s₀ (s.calAbort t) := by
  unfold State.calAbort
  extract_lets f
  have hf : Keeps E s₀ f.2 := h.freshValue
  split
  · exact hf.calResult.wr.endCal
  · exact h.calResult

theorem writeCalCmd {w} (h : Keeps E s₀ s) : Keeps E s₀ (s.writeCalCmd w) := by
  unfold State.writeCalCmd
  extract_lets t ts s1 s2 s3
  have h1 : Keeps E s₀ s1 := .ite h.calAbort h
  have h2 : Keeps E s₀ s2 := .ite (h1.foldl fun h => h.calGo) h1
  have h3 : Keeps E s₀ s3 := .ite h2.calFull h2
  exact .ite (h3.foldl fun h => h.calLoad) h3

theorem calScan {t} (h : Keeps E s₀ s) : Keeps E s₀ (s.calScan t) := h.foldl fun h => .ite h.startCal h

theorem silCalGo (h : Keeps E s₀ s) : Keeps E s₀ s.silCalGo := by
  unfold State.silCalGo
  exact .ite h.refuseCal h.hidden

theorem silCalDone {coef} (h : Keeps E s₀ s) : Keeps E s₀ (s.silCalDone coef) := by
  unfold State.silCalDone
  exact .ite h.hidden.setWord.setEvent h

/-! ### Operations of `Faults` -/

theorem actOnSources {b} (h : Keeps E s₀ s) : Keeps E s₀ (s.actOnSources b) := (h.foldl fun h => h.latchSeal).signalVector

theorem writeFaultEn {b w} (h : Keeps E s₀ s) : Keeps E s₀ (s.writeFaultEn b w) :=
  (h.foldl fun h => .ite h h.setFlag).actOnSources

theorem writeFaultSev {b w} (h : Keeps E s₀ s) : Keeps E s₀ (s.writeFaultSev b w) := (h.foldl fun h => .ite h h.wr).actOnSources

theorem writeFaultReal {b w} (h : Keeps E s₀ s) : Keeps E s₀ (s.writeFaultReal b w) := h.foldl fun h => .ite h.clearEvent h

theorem writeFaultInj {b w} (h : Keeps E s₀ s) : Keeps E s₀ (s.writeFaultInj b w) := h.foldl fun h => .ite h.clearEvent h

theorem writeInject {b w} (h : Keeps E s₀ s) : Keeps E s₀ (s.writeInject b w) := h.foldl fun h => .ite h.inject h

theorem checkFx (h : Keeps E s₀ s) : Keeps E s₀ s.checkFx := by
  unfold State.checkFx
  extract_lets s1
  have h1 : Keeps E s₀ s1 := h.bump
  split
  · exact .ite h1 h1.raise
  · exact h

/-! ### Operations of `Hostif` -/

theorem rearmVector {v} (h : Keeps E s₀ s) : Keeps E s₀ (s.rearmVector v) := by
  unfold State.rearmVector
  extract_lets s1
  have h1 : Keeps E s₀ s1 := h.setFlag
  split
  · exact h
  · exact .ite h1.signalVector h1

theorem writeRearm {n w} (h : Keeps E s₀ s) : Keeps E s₀ (s.writeRearm n w) := h.foldl fun h => h.rearmVector

theorem semTake {m b} (h : Keeps E s₀ s) : Keeps E s₀ (s.semTake m b) := by
  unfold State.semTake
  extract_lets s1
  have h1 : Keeps E s₀ s1 := h.wr
  split
  · exact .ite h1.note h1
  · exact h

theorem semFree {m b} (h : Keeps E s₀ s) : Keeps E s₀ (s.semFree m b) := by
  unfold State.semFree
  exact .ite h.wr h

theorem semGive {m b} (h : Keeps E s₀ s) : Keeps E s₀ (s.semGive m b) := by
  unfold State.semGive
  exact .ite h.hidden.semFree h.semFree

theorem semForce {m b} (h : Keeps E s₀ s) : Keeps E s₀ (s.semForce m b) := by
  unfold State.semForce
  exact .ite h.wr.note h

theorem raiseForced {forced} (h : Keeps E s₀ s) : Keeps E s₀ (s.raiseForced forced) := by
  unfold State.raiseForced
  exact .ite h.raise h

theorem writeSem {m b w} (h : Keeps E s₀ s) : Keeps E s₀ (s.writeSem m b w) := by
  unfold State.writeSem
  extract_lets s1 s2
  have h1 : Keeps E s₀ s1 := .ite h.semTake h
  have h2 : Keeps E s₀ s2 := .ite h1.semGive h1
  exact .ite h2.semForce h2

theorem releaseSems {m} (h : Keeps E s₀ s) : Keeps E s₀ (s.releaseSems m) := h.foldl fun h => h.semFree

theorem orphan {o} (h : Keeps E s₀ s) : Keeps E s₀ (s.orphan o) := h.wr.wr.wr.bump.raise

theorem orphans {os reset} (h : Keeps E s₀ s) : Keeps E s₀ (s.orphans os reset) := h.foldl fun h => h.orphan

theorem setFuses {f} (h : Keeps E s₀ s) (hE : Allows E [.fuses])
    (array : (∀ b : Fin 3, f.at_ b = s.fuses.at_ b) ∧ f.keyValue = s.fuses.keyValue := by exact ⟨fun _ => rfl, rfl⟩) :
    Keeps E s₀ (s.setFuses f) :=
  h.setFuseUnit hE array

theorem refuseFuse (h : Keeps E s₀ s) (hE : Allows E [.fuses]) : Keeps E s₀ s.refuseFuse := (h.setFuses (hE.of rfl)).raise

theorem fuseArm {m t} (h : Keeps E s₀ s) (hE : Allows E [.fuses]) : Keeps E s₀ (s.fuseArm m t) := by
  unfold State.fuseArm
  extract_lets _
  split
  · exact .ite (h.refuseFuse (hE.of rfl)) (h.setFuses (hE.of rfl))
  · exact h.refuseFuse (hE.of rfl)

theorem fuseCommit {m t} (h : Keeps E s₀ s) (hE : Allows E [.fuses]) : Keeps E s₀ (s.fuseCommit m t) := by
  unfold State.fuseCommit
  extract_lets _
  split
  · exact .ite (h.refuseFuse (hE.of rfl)) (h.setFuses (hE.of rfl))
  · exact h.refuseFuse (hE.of rfl)

theorem writeFuseCmd {m w} (h : Keeps E s₀ s) (hE : Allows E [.fuses]) : Keeps E s₀ (s.writeFuseCmd m w) := by
  unfold State.writeFuseCmd
  split
  · exact h.fuseArm (hE.of rfl)
  · exact h.fuseCommit (hE.of rfl)
  · exact h.refuseFuse (hE.of rfl)
  · exact h

theorem fuseDone {copyA copyB orphan} (h : Keeps E s₀ s) (hE : Allows E [.fuses, .fuseArray]) :
    Keeps E s₀ (s.fuseDone copyA copyB orphan) := by
  unfold State.fuseDone
  split
  · exact h
  · extract_lets x _ f0 f1 s1 s2
    have h1 : Keeps E s₀ s1 := h.setFuseArray (hE.of rfl)
    have h2 : Keeps E s₀ s2 := .ite h1 h1.raise
    exact .ite h2.orphans h2

theorem senseFuses {sensed} (h : Keeps E s₀ s) (hE : Allows E [.fuses]) : Keeps E s₀ (s.senseFuses sensed) := by
  unfold State.senseFuses
  extract_lets _ s1
  have h1 : Keeps E s₀ s1 := h.setFuses (hE.of rfl)
  exact .ite h1 h1.raise

/-! ### Operations of `Plane` -/

theorem issueMerged {slot m} (h : Keeps E s₀ s) : Keeps E s₀ (s.issueMerged slot m) :=
  h.foldl fun h => .ite h.issue.issue h.issue

theorem checkRecord {a} (h : Keeps E s₀ s) : Keeps E s₀ (s.checkRecord a) := by
  unfold State.checkRecord
  exact .ite h h.raise

theorem loadStrobeOf {n f k armed} (h : Keeps E s₀ s) : Keeps E s₀ (s.loadStrobeOf n f k armed) := by
  have h1 : Keeps E s₀ (s.checkRecord (s.record (standRecord n))) := h.checkRecord
  rw [State.loadStrobeOf]
  generalize s.checkRecord (s.record (standRecord n)) = s1 at h1
  split
  · exact h1.checkRecord.issueMerged
  · exact h1.issueMerged

theorem loadScheduled {near t} (h : Keeps E s₀ s) : Keeps E s₀ (s.loadScheduled near t) := by
  unfold State.loadScheduled
  split
  · exact h
  · exact .ite h.loadStrobeOf h

theorem loaderIssue (h : Keeps E s₀ s) : Keeps E s₀ s.loaderIssue := by
  unfold State.loaderIssue
  extract_lets near
  split
  · exact .ite h.loadStrobeOf h.loadScheduled
  · exact h.loadScheduled

theorem slotStrobe {applied} (h : Keeps E s₀ s) : Keeps E s₀ (s.slotStrobe applied) := by
  unfold State.slotStrobe
  exact .ite h.firePlane h

theorem dropDueOps {g} (h : Keeps E s₀ s) : Keeps E s₀ (s.dropDueOps g) := h.setPlane

theorem catchSlots {fuel g} (h : Keeps E s₀ s) : Keeps E s₀ (State.catchSlots fuel s g) := by
  induction fuel generalizing s with
  | zero => exact h
  | succ fuel ih =>
    unfold State.catchSlots
    split
    · split
      · extract_lets _ s1 s2
        have h1 : Keeps E s₀ s1 := h.hidden
        have h2 : Keeps E s₀ s2 := h1.applyDue.issuePoint.takeCut
        exact ih (h2.foldl fun h => h.commitStanding)
      · exact h
    · exact h

theorem joinSlots {g} (h : Keeps E s₀ s) : Keeps E s₀ (s.joinSlots g) := by
  unfold State.joinSlots
  split
  · exact .ite h h.catchSlots
  · exact h

theorem slotBoundary (h : Keeps E s₀ s) : Keeps E s₀ s.slotBoundary := by
  unfold State.slotBoundary
  extract_lets here g _ s0 switch due s1 s2 s3
  have h0 : Keeps E s₀ s0 := h.setPlane
  have h1 : Keeps E s₀ s1 := by
    unfold s1
    clear_value switch
    split
    · exact h0.applySwitch
    · exact .ite h0 h0.applyDue
  have h2 : Keeps E s₀ s2 := h1.slotStrobe
  have h3 : Keeps E s₀ s3 := h2.issuePoint
  split
  · exact h
  · split
    · exact h2.joinSlots
    · split
      · exact h3.takeCut
      · exact .ite h3.dropDueOps h3

theorem protectionStrobe (h : Keeps E s₀ s) : Keeps E s₀ s.protectionStrobe := by
  unfold State.protectionStrobe
  split
  · exact .ite h.applySwitch.firePlane h
  · exact h

theorem planeStrobeAt {t cyc} (h : Keeps E s₀ s) : Keeps E s₀ (s.planeStrobeAt t cyc) := by
  unfold State.planeStrobeAt
  extract_lets s0 _ s1 s2
  have h0 : Keeps E s₀ s0 := .ite h.firePlane h
  have h1 : Keeps E s₀ s1 := h0.hidden
  have h2 : Keeps E s₀ s2 := .ite h1.loadStaged h1
  split
  · exact h0
  · split
    · exact .ite h2.planeEdge h2
    · exact h0

theorem commandPlane (h : Keeps E s₀ s) : Keeps E s₀ s.commandPlane := by
  unfold State.commandPlane
  extract_lets s1 s2 _
  have h1 : Keeps E s₀ s1 := h.checkRecord
  have h2 : Keeps E s₀ s2 := h1.issueMerged
  exact .ite h.bump h2.hidden

/-! ### Operations of `Composer` -/

theorem giveCredit {lane} (h : Keeps E s₀ s) : Keeps E s₀ (s.giveCredit lane) := h.wr

theorem demandLate (h : Keeps E s₀ s) : Keeps E s₀ s.demandLate := h.bump.raise

theorem intakeDemand {a card seq rx p} (h : Keeps E s₀ s) : Keeps E s₀ (s.intakeDemand a card seq rx p) := by
  unfold State.intakeDemand
  extract_lets f leave closed
  have hleave : ∀ {t}, Keeps E s₀ t → Keeps E s₀ (leave t) := fun h => .ite h.giveCredit h
  split
  · exact hleave h
  split
  · exact hleave h.demandLate
  split
  · exact hleave h.bump.raise
  · exact h.hidden

theorem refillPolicer {a} (h : Keeps E s₀ s) : Keeps E s₀ (s.refillPolicer a) := h.wr.wr

theorem police {a n colour} (h : Keeps E s₀ s) : Keeps E s₀ (s.police a n colour).1 := h.wr.wr

theorem meterEntry {new a e} (h : Keeps E s₀ s) : Keeps E s₀ (s.meterEntry new a e).1 := by
  unfold State.meterEntry
  split
  · dsimp only
    exact h.bump.raise
  · extract_lets gf yf wasIdle s1 r g y lost s2 s3 s4
    have h1 : Keeps E s₀ s1 := .ite h.wr.wr h
    have hr : Keeps E s₀ r.1 := h1.police
    have h2 : Keeps E s₀ s2 := hr.wr.wr
    have h3 : Keeps E s₀ s3 := .ite h2 h2.bumpBy.raise
    have h4 : Keeps E s₀ s4 := h3.bumpBy.bumpBy.bumpBy
    dsimp only
    exact h4

theorem cutSource {f1 a} {x : State × List (Nat × Nat × Nat)} (h : Keeps E s₀ x.1) : Keeps E s₀ (State.cutSource x f1 a).1 := by
  unfold State.cutSource
  extract_lets s' mine active
  have h' : Keeps E s₀ s' := h.refillPolicer
  exact h'.wr.foldl_fst fun h => h.meterEntry

theorem refillShaper {a c} (h : Keeps E s₀ s) : Keeps E s₀ (s.refillShaper a c) := by
  unfold State.refillShaper
  exact .ite h.wrS h

theorem renormalise {new b group} (h : Keeps E s₀ s) : Keeps E s₀ (s.renormalise new b group) := by
  unfold State.renormalise
  exact .ite h (h.wr.foldl fun h => h.wr)

theorem applyComposerLv {f1} (h : Keeps E s₀ s) : Keeps E s₀ (s.applyComposerLv f1) := h.hidden.foldl fun h => h.applyLv

theorem holdComposerLv {a w} (h : Keeps E s₀ s) : Keeps E s₀ (s.holdComposerLv a w) := by
  unfold State.holdComposerLv
  extract_lets s1 _
  have h1 : Keeps E s₀ s1 := h.holdLv
  exact h1.hidden

theorem releaseHeld {f1} (h : Keeps E s₀ s) : Keeps E s₀ (s.releaseHeld f1) := by
  unfold State.releaseHeld
  extract_lets gone s1 _
  have h1 : Keeps E s₀ s1 := h.foldl fun h => .ite h.giveCredit h
  exact h1.hidden

theorem cutLive {f1} (h : Keeps E s₀ s) : Keeps E s₀ (s.cutLive f1) := by
  unfold State.cutLive
  extract_lets s1 r s2 s3
  have h1 : Keeps E s₀ s1 := h.applyComposerLv
  have hr : Keeps E s₀ r.1 := h1.foldl_fst fun h => h.cutSource
  have h2 : Keeps E s₀ s2 := hr.foldl fun h => h.foldl fun h => h.refillShaper
  have h3 : Keeps E s₀ s3 := h2.foldl fun h => h.foldl fun h => h.renormalise
  exact h3.releaseHeld.foldl fun h => h.wr

theorem demandCut {f1} (h : Keeps E s₀ s) : Keeps E s₀ (s.demandCut f1) := by
  unfold State.demandCut
  extract_lets s1 base pins _ _ s2
  have h1 : Keeps E s₀ s1 := h.cutLive.bump
  have h2 : Keeps E s₀ s2 := h1.hidden
  exact h2.setBank.wr.wr.markEligibleFrom

theorem movePointers {first} (h : Keeps E s₀ s) : Keeps E s₀ (s.movePointers first) := by
  unfold State.movePointers
  refine h.foldl fun h => ?_
  split
  · exact h.wr
  · exact h

/-! The working state of a match. -/

theorem matchAccept {x : Match} {o} (h : Keeps E s₀ x.s) : Keeps E s₀ (x.accept o).s := by
  unfold Match.accept
  extract_lets s cf vf tag s1 s2
  have h1 : Keeps E s₀ s1 := h.wr.wr.wr
  have h2 : Keeps E s₀ s2 := .ite h1.wrS h1
  exact h2

theorem matchSource {x : Match} {all a} (h : Keeps E s₀ x.s) : Keeps E s₀ (x.acceptSource all a).s := by
  refine h.foldl_of Match.s fun h => ?_
  split
  · exact h.matchAccept
  · exact h

theorem matchIteration {x : Match} (h : Keeps E s₀ x.s) : Keeps E s₀ x.iteration.s :=
  h.foldl_of Match.s fun h => h.matchSource

theorem matchIterate {n} {x : Match} (h : Keeps E s₀ x.s) : Keeps E s₀ (Match.iterate n x).1.s := by
  induction n generalizing x with
  | zero => exact h
  | succ n ih =>
    unfold Match.iterate
    extract_lets y
    split
    · exact h
    · exact ih h.matchIteration

theorem matchSlot {pins} (h : Keeps E s₀ s) : Keeps E s₀ (s.matchSlot pins).1 := by
  unfold State.matchSlot
  extract_lets inc outc x0 first r s1
  have h0 : Keeps E s₀ x0.s := h
  have hr : Keeps E s₀ r.1.s := h0.matchIterate
  have h1 : Keeps E s₀ s1 := .ite hr.bump hr
  dsimp only
  exact h1.movePointers

theorem returnUnit {u} (h : Keeps E s₀ s) : Keeps E s₀ (s.returnUnit u) := by
  unfold State.returnUnit
  extract_lets o cf s1
  have h1 : Keeps E s₀ s1 := h.wr
  exact .ite h1.wrS h1

theorem writeBank {f records} (h : Keeps E s₀ s) : Keeps E s₀ (s.writeBank f records) := by
  unfold State.writeBank
  refine h.foldl fun h => ?_
  extract_lets s1
  have h1 : Keeps E s₀ s1 := h.setRecord
  exact .ite h1 h1.bumpBy.raise

theorem compEnded {phase result residue done_} (h : Keeps E s₀ s) : Keeps E s₀ (s.compEnded phase result residue done_) :=
  h.wr.wr.setFlag.wr.wr

theorem compareEnds (h : Keeps E s₀ s) : Keeps E s₀ s.compareEnds := by
  unfold State.compareEnds
  extract_lets _ s1
  have h1 : Keeps E s₀ s1 := h.hidden
  split
  · split
    · exact .ite h1.wr h1.wr.bump.raise
    · exact h
  · exact h

theorem endWhilePaired {e} (h : Keeps E s₀ s) : Keeps E s₀ (s.endWhilePaired e) := by
  unfold State.endWhilePaired
  extract_lets s1 base _
  have h1 : Keeps E s₀ s1 := .ite h.wr.raise h
  have hbase : Keeps E s₀ base := h1.toTwin
  exact hbase.hidden.compareEnds

theorem endToTwin {e} (h : Keeps E s₀ s) : Keeps E s₀ (s.endToTwin e) := by
  unfold State.endToTwin
  extract_lets serving s1 _
  have h1 : Keeps E s₀ s1 := h.toTwin
  split
  · exact h.endWhilePaired
  · exact .ite h1.hidden h

theorem tellFrame {records e} (h : Keeps E s₀ s) : Keeps E s₀ (s.tellFrame records e) := by
  unfold State.tellFrame
  extract_lets s1
  have h1 : Keeps E s₀ s1 := h.foldl fun h => h.toWorkers
  exact h1.toWorkers.endToTwin

theorem composeSlot {x : Composed} {f pins base k} (h : Keeps E s₀ x.s) : Keeps E s₀ (x.slot f pins base k).s := by
  unfold Composed.slot
  dsimp only
  exact h.matchSlot

theorem composeSlots {f n pins base} (h : Keeps E s₀ s) : Keeps E s₀ (s.composeSlots f n pins base).s := by
  have h0 : Keeps E s₀ (Composed.mk s [] [] []).s := h
  exact h0.foldl_of Composed.s fun h => h.composeSlot

theorem commitFrame {c pins} (h : Keeps E s₀ s) : Keeps E s₀ (s.commitFrame c pins) := by
  unfold State.commitFrame
  extract_lets x s1 s2 s3 _ s4 s5 gs digest s6 s7 e
  have hx : Keeps E s₀ x.s := h.composeSlots
  have h1 : Keeps E s₀ s1 := hx.foldl fun h => h.returnUnit
  have h3 : Keeps E s₀ s3 := h1.bumpBy.bumpBy.writeBank.setBank
  have h5 : Keeps E s₀ s5 := h3.hidden.compEnded.wr
  have h7 : Keeps E s₀ s7 := h5.wrW.wr.foldl fun h => h.queueSys
  exact h7.issuePoint.tellFrame

theorem compositionCommit (h : Keeps E s₀ s) : Keeps E s₀ s.compositionCommit := by
  unfold State.compositionCommit
  split
  · exact .ite h.commitFrame h
  · exact h

theorem tellDiscard {f seq} (h : Keeps E s₀ s) : Keeps E s₀ (s.tellDiscard f seq) := h.toWorkers.endToTwin

theorem dropComposition {c pins result written} (h : Keeps E s₀ s) : Keeps E s₀ (s.dropComposition c pins result written) := by
  unfold State.dropComposition
  extract_lets n f x s1 _ s2
  have hf : Keeps E s₀ f.2 := h.freshValue
  have h1 : Keeps E s₀ s1 := hf.bumpBy.writeBank
  have h2 : Keeps E s₀ s2 := h1.hidden
  exact h2.compEnded.discardFrame.tellDiscard

theorem commitDeadline {written} (h : Keeps E s₀ s) : Keeps E s₀ (s.commitDeadline written) := by
  unfold State.commitDeadline
  split
  · split
    · exact .ite h.commitFrame h.dropComposition
    · exact h
  · exact h

theorem abortComposition {written} (h : Keeps E s₀ s) : Keeps E s₀ (s.abortComposition written) := by
  unfold State.abortComposition
  split
  · exact .ite h.dropComposition.raise h
  · exact .ite h.wr.setFlag h

/-! ### Operations of `Net` -/

theorem ipv4 {proto src dst body} (h : Keeps E s₀ s) : Keeps E s₀ (s.ipv4 proto src dst body).2 := by
  unfold State.ipv4
  extract_lets r f head
  have hr : Keeps E s₀ r.2 := h.freshBytes
  exact hr

theorem ipv6 {next hop src dst body} (h : Keeps E s₀ s) : Keeps E s₀ (s.ipv6 next hop src dst body).2 := by
  unfold State.ipv6
  extract_lets r f
  have hr : Keeps E s₀ r.2 := h.freshBytes
  exact hr

theorem sendFrame {lane bs} (h : Keeps E s₀ s) : Keeps E s₀ (s.sendFrame lane bs) := by
  unfold State.sendFrame
  extract_lets r
  have hr : Keeps E s₀ r.2 := h.freshBytes
  exact hr.emitOut

theorem sendEthernet {n dst etype body} (h : Keeps E s₀ s) : Keeps E s₀ (s.sendEthernet n dst etype body) := h.sendFrame

theorem sendKowin {n m} (h : Keeps E s₀ s) : Keeps E s₀ (s.sendKowin n m) := by
  unfold State.sendKowin
  extract_lets mac src dst r r'
  have hr : Keeps E s₀ r.2 := h.ipv4
  have hr' : Keeps E s₀ r'.2 := h.ipv6
  split
  · exact h.sendEthernet
  · exact hr.sendEthernet
  · exact hr'.sendEthernet

/-! ### Operations of `Kowin` -/

theorem dropTx {n x} (h : Keeps E s₀ s) : Keeps E s₀ (s.dropTx n x) := by
  unfold State.dropTx
  split
  · exact h.bump.raise
  · exact .ite h.dropGrant h

theorem dropQueue {n} (h : Keeps E s₀ s) : Keeps E s₀ (s.dropQueue n) := h.setLane.foldl fun h => h.dropTx

theorem enterWait {cause} (h : Keeps E s₀ s) : Keeps E s₀ (s.enterWait cause) := by
  unfold State.enterWait
  extract_lets s1 s2 _ _ _
  have h1 : Keeps E s₀ s1 := h.wr.wr.wr
  have h2 : Keeps E s₀ s2 := h1.setBank.setBank.wr
  exact h2.hidden

theorem resyncReport {cause} (h : Keeps E s₀ s) : Keeps E s₀ (s.resyncReport cause) := h.wr.bump.raise

theorem joinFails {cause} (h : Keeps E s₀ s) : Keeps E s₀ (s.joinFails cause) := h.toTwin.resyncReport.enterWait

theorem twinLaneLost (h : Keeps E s₀ s) : Keeps E s₀ s.twinLaneLost := by
  unfold State.twinLaneLost
  extract_lets _ s1 base _
  have h1 : Keeps E s₀ s1 := .ite h.hidden.resyncReport h
  have hbase : Keeps E s₀ base := h1.wr
  split
  · exact hbase.hidden.raise
  · exact .ite h1.joinFails h1

theorem laneTo {n st} (h : Keeps E s₀ s) : Keeps E s₀ (s.laneTo n st) := by
  unfold State.laneTo
  extract_lets up s1 _ s2 s3 s4
  have h1 : Keeps E s₀ s1 := h.wr.setFlag
  have h2 : Keeps E s₀ s2 := h1.setLane
  have h3 : Keeps E s₀ s3 := h2.dropQueue.raise
  have h4 : Keeps E s₀ s4 := .ite h3.raise h3
  split
  · exact h2
  · exact .ite h4.twinLaneLost h4

theorem tellHealth {n} (h : Keeps E s₀ s) : Keeps E s₀ (s.tellHealth n) := by
  unfold State.tellHealth
  exact .ite h.sendLocal h

theorem laneUpIfReady {n} (h : Keeps E s₀ s) : Keeps E s₀ (s.laneUpIfReady n) := by
  unfold State.laneUpIfReady
  extract_lets l s1 s2 _
  have h1 : Keeps E s₀ s1 := h.wr.wr
  have h2 : Keeps E s₀ s2 := h1.wr.wr
  exact .ite h2.setLane.tellHealth h

theorem pcsLock {n} (h : Keeps E s₀ s) : Keeps E s₀ (s.pcsLock n) := by
  unfold State.pcsLock
  extract_lets s1
  have h1 : Keeps E s₀ s1 := h.setFlag.setFlag
  exact .ite h1.laneTo h1

theorem pcsLoss {n} (h : Keeps E s₀ s) : Keeps E s₀ (s.pcsLoss n) := h.setFlag.setFlag.laneTo

theorem keepalive {n} (h : Keeps E s₀ s) : Keeps E s₀ (s.keepalive n) := by
  unfold State.keepalive
  exact .ite h h.sendLocal

theorem malformed {n} (h : Keeps E s₀ s) : Keeps E s₀ (s.malformed n) := h.bump.bump.raise

theorem unknownType (h : Keeps E s₀ s) : Keeps E s₀ s.unknownType := h.bump.raise

theorem countAccepted {n} (h : Keeps E s₀ s) : Keeps E s₀ (s.countAccepted n) := h.bump.bump

theorem sequence {n f seq dup ok} (h : Keeps E s₀ s) (hdup : ∀ {t}, Keeps E s₀ t → Keeps E s₀ (dup t))
    (hok : ∀ {t}, Keeps E s₀ t → Keeps E s₀ (ok t)) : Keeps E s₀ (s.sequence n f seq dup ok) := by
  unfold State.sequence
  extract_lets last gap s1
  split
  · exact hok (.ite h.wr h.wr.bumpBy.raise)
  · exact hdup h.bump.raise

theorem noteCredit {n i} (h : Keeps E s₀ s) : Keeps E s₀ (s.noteCredit n i) := by
  unfold State.noteCredit
  exact .ite h.setLane h

theorem acceptMsg {n m dir act} (h : Keeps E s₀ s) (hact : ∀ {t}, Keeps E s₀ t → Keeps E s₀ (act t)) :
    Keeps E s₀ (s.acceptMsg n m dir act) := by
  unfold State.acceptMsg
  extract_lets st counts within s0 s1 back seen
  have h0 : Keeps E s₀ s0 := h.noteCredit
  have h1 : Keeps E s₀ s1 := .ite h0.wr h0
  have hback : ∀ {t}, Keeps E s₀ t → Keeps E s₀ (back t) := fun h => .ite h.giveCredit h
  have hseen : ∀ {t}, Keeps E s₀ t → Keeps E s₀ (seen t) := fun h => .ite (hact h.countAccepted) h.bump.raise
  split
  · exact .ite h h.malformed
  split
  · exact hback h1.malformed
  split
  · exact hback h1.unknownType
  split
  · exact .ite h1 (hseen h1)
  split
  · exact hseen h1
  · exact h1.sequence hback hseen

theorem takeHello {n p} (h : Keeps E s₀ s) : Keeps E s₀ (s.takeHello n p) := by
  unfold State.takeHello
  extract_lets s1 s2 l
  have h1 : Keeps E s₀ s1 := h.setFlag.wrW.wrW
  have h2 : Keeps E s₀ s2 := h1.foldl fun h => h.wr
  exact h2.setLane.laneUpIfReady

theorem serveHello {n i p} (h : Keeps E s₀ s) : Keeps E s₀ (s.serveHello n i p) := by
  unfold State.serveHello
  split
  · exact .ite h h.raise
  · exact h.acceptMsg fun h => h.takeHello

theorem relayUp {n rx m} (h : Keeps E s₀ s) : Keeps E s₀ (s.relayUp n rx m) := by
  unfold State.relayUp
  exact .ite h.bump.raise (h.foldl fun h => h.queueTx)

theorem takeOp {a seq retry rx op} (h : Keeps E s₀ s) : Keeps E s₀ (s.takeOp a seq retry rx op) := by
  unfold State.takeOp
  extract_lets o fresh
  have hfresh : Keeps E s₀ (fresh s) := by
    unfold fresh
    split
    · exact h.setPlane
    · exact h.queueAnswer
  split
  · exact hfresh
  split
  · exact hfresh
  · exact h
  · exact (h.setFree (Nat.le_add_right _ 3)).queueAnswer

theorem takeStatus {a p} (h : Keeps E s₀ s) : Keeps E s₀ (s.takeStatus a p) := by
  unfold State.takeStatus
  split
  · exact h.wr
  · exact .ite h.bump.raise h

theorem logItem {bytes} (h : Keeps E s₀ s) : Keeps E s₀ (s.logItem bytes) := by
  unfold State.logItem
  extract_lets _
  split
  · exact h
  · exact .ite h.joinFails h.hidden

theorem fromCard {n rx m serve} (h : Keeps E s₀ s) (made : ∀ {t}, Keeps E s₀ t → Keeps E s₀ (serve t)) :
    Keeps E s₀ (s.fromCard n rx m serve) :=
  .ite h.relayUp.giveCredit (made h)

theorem takeDemand {a card i rx m p} (h : Keeps E s₀ s) : Keeps E s₀ (s.takeDemand a card i rx m p) := h.intakeDemand.logItem

theorem takeCircuit {a i rx m op} (h : Keeps E s₀ s) : Keeps E s₀ (s.takeCircuit a i rx m op) := h.takeOp.logItem

theorem serveDemand {n i rx m p} (h : Keeps E s₀ s) : Keeps E s₀ (s.serveDemand n i rx m p) :=
  h.acceptMsg fun h => h.fromCard fun h => h.takeDemand

theorem serveOp {n i rx m op} (h : Keeps E s₀ s) : Keeps E s₀ (s.serveOp n i rx m op) :=
  h.acceptMsg fun h => h.fromCard fun h => h.takeCircuit.giveCredit

theorem serveStatus {n i rx m p} (h : Keeps E s₀ s) : Keeps E s₀ (s.serveStatus n i rx m p) :=
  h.acceptMsg fun h => h.takeStatus.fromCard fun h => h.giveCredit

theorem askEcho {n host} (h : Keeps E s₀ s) : Keeps E s₀ (s.askEcho n host) := by
  unfold State.askEcho
  extract_lets r token l
  have hr : Keeps E s₀ r.2 := h.freshValue
  exact hr.setLane.sendLocal

theorem tierEcho {n p t4} (h : Keeps E s₀ s) : Keeps E s₀ (s.tierEcho n p t4) := by
  unfold State.tierEcho
  extract_lets off rtt s1 s2
  have h1 : Keeps E s₀ s1 := h.wrS.wrS
  have h2 : Keeps E s₀ s2 := .ite h1.raise h1
  exact .ite h2.raise h2

theorem takeEcho {n rx p} (h : Keeps E s₀ s) : Keeps E s₀ (s.takeEcho n rx p) := by
  unfold State.takeEcho
  extract_lets _
  split
  · exact h.sendLocal
  · split
    · exact h
    · extract_lets s1 s2
      have h1 : Keeps E s₀ s1 := h.setLane
      have h2 : Keeps E s₀ s2 := .ite h1.tierEcho h1
      exact .ite h2.wrS.setEvent h2

theorem serveEcho {n i rx p} (h : Keeps E s₀ s) : Keeps E s₀ (s.serveEcho n i rx p) := h.acceptMsg fun h => h.takeEcho

theorem echoCmd {n} (h : Keeps E s₀ s) : Keeps E s₀ (s.echoCmd n) := by
  unfold State.echoCmd
  exact .ite h.askEcho h

theorem echoTimeout {n} (h : Keeps E s₀ s) : Keeps E s₀ (s.echoTimeout n) := by
  unfold State.echoTimeout
  extract_lets l
  split
  · exact h
  · extract_lets s1
    have h1 : Keeps E s₀ s1 := h.setLane
    exact (Keeps.ite h1.setEvent h1).raise

theorem helloPayload {n} (h : Keeps E s₀ s) : Keeps E s₀ (s.helloPayload n).2 := by
  unfold State.helloPayload
  extract_lets free answer flags
  have hfree : Keeps E s₀ free.2 := h.freshValue
  split
  · exact h
  · exact hfree

theorem finalPayload {n seq t x} (h : Keeps E s₀ s) : Keeps E s₀ (s.finalPayload n seq t x).2 := by
  unfold State.finalPayload
  split
  · exact h.helloPayload
  · exact h
  · exact h
  · split
    · exact h
    · exact h
  · exact h

theorem sendMsg {n x} (h : Keeps E s₀ s) : Keeps E s₀ (s.sendMsg n x) := by
  unfold State.sendMsg
  extract_lets isLocal seq s1 p s2 l s3
  have h1 : Keeps E s₀ s1 := .ite h.wr h
  have hp : Keeps E s₀ p.2 := h1.finalPayload
  have h2 : Keeps E s₀ s2 := hp.sendKowin
  have h3 : Keeps E s₀ s3 := h2.setLane
  exact h3.laneUpIfReady

theorem sendInner {n m} (h : Keeps E s₀ s) : Keeps E s₀ (s.sendInner n m) := by
  unfold State.sendInner
  extract_lets s1 _
  have h1 : Keeps E s₀ s1 := h.sendKowin.bump
  exact h1.setLane

theorem transmitNext {n ns} (h : Keeps E s₀ s) : Keeps E s₀ (s.transmitNext n ns) := by
  unfold State.transmitNext
  extract_lets l
  split
  · exact h.dropQueue
  · split
    · exact h
    · extract_lets s1 late s2 s3
      have h1 : Keeps E s₀ s1 := h.setLane
      have h2 : Keeps E s₀ s2 := by
        unfold s2
        split
        · exact h1.sendInner
        · exact h1.sendMsg
      have h3 : Keeps E s₀ s3 := .ite h2.bump h2
      exact .ite h1.dropTx h3.bump.bump

theorem snapContext {n} (h : Keeps E s₀ s) : Keeps E s₀ (s.snapContext n) := h.wr.foldl fun h => h.setWord

/-! ### Operations of `Law` -/

theorem takeScale {l} (h : Keeps E s₀ s) : Keeps E s₀ (s.takeScale l) := by
  unfold State.takeScale
  extract_lets _
  split
  · exact h.setLoopMem.wr
  · exact h

theorem applyEffect {l a} (h : Keeps E s₀ s) : Keeps E s₀ (s.applyEffect l a) := by
  unfold State.applyEffect
  extract_lets y
  split
  · exact h.wr
  · exact h.setEvent
  · exact h.setLoopMem
  · exact h.issue
  · exact h.bump
  · exact h.raise
  · extract_lets s1
    have h1 : Keeps E s₀ s1 := h.setWord
    exact .ite h1.hidden h1

theorem applyEffects {l es} (h : Keeps E s₀ s) : Keeps E s₀ (s.applyEffects l es) := h.foldl fun h => h.applyEffect

/-! ### Operations of `Loops` -/

theorem holdFocus {t r} (h : Keeps E s₀ s) : Keeps E s₀ (s.holdFocus t r) := by
  unfold State.holdFocus
  extract_lets x
  split
  · exact h.setTile
  · exact h

theorem forwardFocus {t rs} (h : Keeps E s₀ s) : Keeps E s₀ (s.forwardFocus t rs) := h.setTile

theorem dropLate {l} (h : Keeps E s₀ s) : Keeps E s₀ (s.dropLate l) := by
  unfold State.dropLate
  extract_lets c _ s1
  have h1 : Keeps E s₀ s1 := h.setLoopMem
  exact h1.setEvent.bump.raise

theorem holdRecord {l r} (h : Keeps E s₀ s) : Keeps E s₀ (s.holdRecord l r) := by
  unfold State.holdRecord
  extract_lets t es s1 x
  have h1 : Keeps E s₀ s1 := .ite (h.setFree (Nat.le_add_right _ 2)) h
  exact h1.setTile

theorem recordArrives {t k late depth} (h : Keeps E s₀ s) : Keeps E s₀ (s.recordArrives t k late depth) := by
  unfold State.recordArrives
  extract_lets x l s1 q s2
  have h1 : Keeps E s₀ s1 := h.setTile
  have h2 : Keeps E s₀ s2 := h1.wr
  split
  · exact h
  · split
    · exact h
    · split
      · exact h1
      · split
        · exact .ite h2.dropLate h2.holdRecord
        · exact h2.holdFocus
        · exact h2

theorem frameChecked {t crcOk} (h : Keeps E s₀ s) : Keeps E s₀ (s.frameChecked t crcOk) := by
  unfold State.frameChecked
  extract_lets x s1
  have h1 : Keeps E s₀ s1 := h.setTile
  split
  · exact h
  · exact .ite ((h1.foldl fun h => h.applyEffects).forwardFocus) h1.linkCrc

theorem updateProbe (h : Keeps E s₀ s) (hE : Allows E [.replan]) : Keeps E s₀ s.updateProbe := by
  unfold State.updateProbe
  extract_lets v s1 _
  have h1 : Keeps E s₀ s1 := (h.foldl fun h => h.wr).wr
  exact .ite (h1.setReplan (hE.of rfl)) h1

theorem refuseTransfer {l} (h : Keeps E s₀ s) : Keeps E s₀ (s.refuseTransfer l) := h.bump.raise

theorem clearRep {l bits} (h : Keeps E s₀ s) : Keeps E s₀ (s.clearRep l bits) := h.foldl fun h => .ite (h.foldl fun h => h.wr) h

theorem repReset {l bits} (h : Keeps E s₀ s) : Keeps E s₀ (s.repReset l bits) := by
  unfold State.repReset
  exact .ite h.setLoopMem h.clearRep

theorem setTarget {l v} (h : Keeps E s₀ s) : Keeps E s₀ (s.setTarget l v) := h.settleLoop.wr

theorem writeLoopCtrl {l w} (h : Keeps E s₀ s) : Keeps E s₀ (s.writeLoopCtrl l w) := by
  unfold State.writeLoopCtrl
  extract_lets c j target s0 s1 s2
  have h0 : Keeps E s₀ s0 := h.settleLoop
  have h1 : Keeps E s₀ s1 := .ite h0.refuseTransfer h0.wr
  have h2 : Keeps E s₀ s2 := h1.wr.wr.wr
  exact .ite h2 h2.repReset

theorem writeCourseCtrl {c w} (h : Keeps E s₀ s) : Keeps E s₀ (s.writeCourseCtrl c w) := h.settleCourse.wr.wr

theorem setEvt {l on} (h : Keeps E s₀ s) : Keeps E s₀ (s.setEvt l on) := by
  unfold State.setEvt
  exact .ite h.settleLoop.setEvent h.settleLoop.clearEvent

theorem evtHold {c on} (h : Keeps E s₀ s) : Keeps E s₀ (s.evtHold c on) := h.foldl fun h => h.setEvt

theorem takeNow {l} (h : Keeps E s₀ s) : Keeps E s₀ (s.takeNow l) := by
  unfold State.takeNow
  extract_lets pend s1
  have h1 : Keeps E s₀ s1 := h.takeScale.foldl fun h => h.applyLv
  exact .ite h.takeScale h1.wr

theorem outOfAuto {l} (h : Keeps E s₀ s) : Keeps E s₀ (s.outOfAuto l) := by
  unfold State.outOfAuto
  extract_lets t x s1 y
  have h1 : Keeps E s₀ s1 := h.setTile.wr
  exact .ite h1.setLoopMem.clearRep.takeNow h

theorem intoAuto {l} (h : Keeps E s₀ s) : Keeps E s₀ (s.intoAuto l) := by
  unfold State.intoAuto
  extract_lets t ch fromOff s1 _ y x s2 s3 s4
  have h1 : Keeps E s₀ s1 := h.wr.wr.setFlag
  have h2 : Keeps E s₀ s2 := h1.setLoopMem.setTile
  have h3 : Keeps E s₀ s3 := .ite h2.wr.setFlag.setFlag h2
  have h4 : Keeps E s₀ s4 := .ite h3.wr h3
  exact .ite h4.wr h

theorem refuseParam {l} (h : Keeps E s₀ s) : Keeps E s₀ (s.refuseParam l) := h.bump.raise

theorem writeLoopParam {l n w} (h : Keeps E s₀ s) : Keeps E s₀ (s.writeLoopParam l n w) := by
  unfold State.writeLoopParam
  extract_lets a v c s1
  have h1 : Keeps E s₀ s1 := h.holdLv
  split
  · exact h.refuseParam
  · exact .ite h1 h1.takeNow

theorem writeLoopState {m l k w} (h : Keeps E s₀ s) : Keeps E s₀ (s.writeLoopState m l k w) := by
  unfold State.writeLoopState
  split
  · exact h.refuseParam
  · split
    · exact h.setWord
    · exact h.setWord
    · exact h.wr

theorem writeRepetitive {l st n w} (h : Keeps E s₀ s) : Keeps E s₀ (s.writeRepetitive l st n w) := by
  unfold State.writeRepetitive
  exact .ite h.refuseParam h.setWord

/-! ### Operations of `Mortar` -/

theorem refuseMortar (h : Keeps E s₀ s) : Keeps E s₀ s.refuseMortar := h.bump.raise

theorem writeMortar {a w} (h : Keeps E s₀ s) : Keeps E s₀ (s.writeMortar a w) := by
  unfold State.writeMortar
  extract_lets new _
  split
  · exact h
  · exact .ite h.refuseMortar h.hidden.setFlag

theorem takeMortar (h : Keeps E s₀ s) : Keeps E s₀ s.takeMortar := by
  unfold State.takeMortar
  extract_lets _
  split
  · exact .ite h.hidden.setWord.setFlag h
  · exact h

theorem overrun {t} (h : Keeps E s₀ s) : Keeps E s₀ (s.overrun t) := h.setEvent.raise

theorem inputAction {t} (h : Keeps E s₀ s) : Keeps E s₀ (s.inputAction t) := by
  unfold State.inputAction
  extract_lets _ _
  split
  · exact h.hidden.emitOut
  · split
    · exact h.emitCode
    · split
      · exact h.setEvent.signalVector
      · split
        · exact h.evtHold
        · split
          · exact .ite h h.evtHold
          · split
            · exact h.requestSwitch
            · split
              · exact h.commandGroup
              · exact .ite h.silTriggerFrom h.emitCode

theorem activate {t} (h : Keeps E s₀ s) : Keeps E s₀ (s.activate t) := h.hidden.bump.inputAction

theorem eventsReach {t n} (h : Keeps E s₀ s) : Keeps E s₀ (s.eventsReach t n) := by
  unfold State.eventsReach
  extract_lets k _ s1
  have h1 : Keeps E s₀ s1 := h.hidden
  split
  · exact h1
  · split
    · exact h1.bump.overrun
    · exact .ite h1.activate.bump.overrun h1.activate

theorem endPulse {k} (h : Keeps E s₀ s) : Keeps E s₀ (s.endPulse k) := by
  unfold State.endPulse
  exact .ite h.hidden.emitOut h

theorem produce {code} (h : Keeps E s₀ s) : Keeps E s₀ (s.produce code) := by
  unfold State.produce
  split
  · split
    · exact h.raise
    · exact .ite h.emitCode h
  · exact h

/-! ### Operations of `Time` -/

theorem setTime {v} (h : Keeps E s₀ s) : Keeps E s₀ (s.setTime v) := h.hidden

theorem showSlew (h : Keeps E s₀ s) : Keeps E s₀ s.showSlew := h.wrS.setFlag

theorem tickCounter (h : Keeps E s₀ s) : Keeps E s₀ s.tickCounter := by
  unfold State.tickCounter
  extract_lets share s1 _
  have h1 : Keeps E s₀ s1 := h.setTime
  exact .ite h1 h1.hidden.showSlew

theorem commitTimeInc {lo hi} (h : Keeps E s₀ s) : Keeps E s₀ (s.commitTimeInc lo hi) := by
  unfold State.commitTimeInc
  exact .ite h.wr.wr h.raise

theorem holdLo {m a w} (h : Keeps E s₀ s) : Keeps E s₀ (s.holdLo m a w) := h.hidden

theorem dropLo {m a} (h : Keeps E s₀ s) : Keeps E s₀ (s.dropLo m a) := h.hidden

theorem writeTimeIncHi {m w} (h : Keeps E s₀ s) : Keeps E s₀ (s.writeTimeIncHi m w) := h.commitTimeInc.dropLo

theorem startSlew {w} (h : Keeps E s₀ s) : Keeps E s₀ (s.startSlew w) := h.hidden.showSlew

theorem snapTime {m} (h : Keeps E s₀ s) : Keeps E s₀ (s.snapTime m) := h.hidden

theorem snapPps {m} (h : Keeps E s₀ s) : Keeps E s₀ (s.snapPps m) := h.hidden

theorem ppsEdge (h : Keeps E s₀ s) : Keeps E s₀ s.ppsEdge := by
  unfold State.ppsEdge
  extract_lets near t s1 _
  have h1 : Keeps E s₀ s1 := h.wr.wrW
  exact .ite h.bump h1.hidden.emitCode

theorem drivePps {high} (h : Keeps E s₀ s) : Keeps E s₀ (s.drivePps high) := h.hidden.emitOut

theorem setTp {n t} (h : Keeps E s₀ s) : Keeps E s₀ (s.setTp n t) := h.hidden

theorem armTpulse {n} (h : Keeps E s₀ s) : Keeps E s₀ (s.armTpulse n) := by
  unfold State.armTpulse
  exact .ite h.setFlag.setTp h.setFlag.raise

theorem disarmTpulse {n} (h : Keeps E s₀ s) : Keeps E s₀ (s.disarmTpulse n) := h.setFlag

theorem fireTpulse {n} (h : Keeps E s₀ s) : Keeps E s₀ (s.fireTpulse n) := by
  unfold State.fireTpulse
  extract_lets t
  split
  · exact .ite h.setTp.emitOut.emitCode h
  · exact h

theorem endTpulse {n} (h : Keeps E s₀ s) : Keeps E s₀ (s.endTpulse n) := by
  unfold State.endTpulse
  exact .ite h.setTp.emitOut h

/-! ### Operations of `Hier` -/

theorem rerank (h : Keeps E s₀ s) : Keeps E s₀ s.rerank := by
  unfold State.rerank
  extract_lets s1 s2
  have h1 : Keeps E s₀ s1 := h.setFlag
  have h2 : Keeps E s₀ s2 := .ite h1.raise h1
  exact .ite h2 h2.raise

theorem notePeer {n p} (h : Keeps E s₀ s) : Keeps E s₀ (s.notePeer n p) := by
  unfold State.notePeer
  extract_lets l s1 s2 s3
  have h1 : Keeps E s₀ s1 := h.setLane
  have h2 : Keeps E s₀ s2 := h1.setFlag.wrW
  have h3 : Keeps E s₀ s3 := h2.foldl fun h => h.wr
  exact .ite h3.wr.wr.wr.rerank h3

theorem takeTierHello {n p} (h : Keeps E s₀ s) : Keeps E s₀ (s.takeTierHello n p) := by
  unfold State.takeTierHello
  extract_lets tags s1 unit s2
  have h1 : Keeps E s₀ s1 := h.setFlag
  have h2 : Keeps E s₀ s2 := .ite h1 h1.raise
  split
  · exact h.notePeer
  · split
    · exact h1.notePeer.laneUpIfReady
    · exact .ite h2 h2.raise

theorem serveTierHello {n i p} (h : Keeps E s₀ s) : Keeps E s₀ (s.serveTierHello n i p) := by
  unfold State.serveTierHello
  split
  · exact .ite h h.raise
  · exact h.acceptMsg fun h => h.takeTierHello

theorem serveTier {n type m act} (h : Keeps E s₀ s) (made : ∀ {t}, Keeps E s₀ t → Keeps E s₀ (act t)) :
    Keeps E s₀ (s.serveTier n type m act) :=
  h.acceptMsg fun h => (made h).giveCredit

theorem setRxBuf {n b} (h : Keeps E s₀ s) : Keeps E s₀ (s.setRxBuf n b) := h.hidden

theorem takeAccord {n p} (h : Keeps E s₀ s) : Keeps E s₀ (s.takeAccord n p) := by
  unfold State.takeAccord
  extract_lets b
  split
  · exact h.unknownType
  · exact .ite h.setRxBuf h

theorem commitCopy {b records survivor} (h : Keeps E s₀ s) : Keeps E s₀ (s.commitCopy b records survivor) := by
  unfold State.commitCopy
  extract_lets f s1 s2
  have h1 : Keeps E s₀ s1 := h.foldl fun h => h.setRecord
  have h2 : Keeps E s₀ s2 := h1.setBank.wr.setFlag
  exact .ite h2.bump.raise h2

theorem followCommit (h : Keeps E s₀ s) : Keeps E s₀ s.followCommit := by
  unfold State.followCommit
  extract_lets f copies
  clear_value copies
  split
  · exact h
  split
  · exact h.discardFrame.bump.raise
  · exact h.commitCopy
  · exact .ite h.commitCopy h.commitCopy.raise

theorem joinPhase (h : Keeps E s₀ s) : Keeps E s₀ s.joinPhase := by
  unfold State.joinPhase
  split
  · exact h.wr
  · exact h

theorem compareJoin (h : Keeps E s₀ s) : Keeps E s₀ s.compareJoin := by
  unfold State.compareJoin
  extract_lets _
  split
  · exact h
  · split
    · exact h
    · extract_lets same s1
      have h1 : Keeps E s₀ s1 := h.hidden
      exact .ite h1.wr.joinPhase h1.wr.bump.raise.joinFails

theorem twinFrameEnd {p} (h : Keeps E s₀ s) : Keeps E s₀ (s.twinFrameEnd p) := by
  unfold State.twinFrameEnd
  extract_lets s1 _
  have h1 : Keeps E s₀ s1 := h.wrW.wr
  split
  · exact h1.hidden.compareEnds
  · split
    · exact h1.hidden.compareJoin
    · exact h1

theorem takeFrameEnd {n i p} (h : Keeps E s₀ s) : Keeps E s₀ (s.takeFrameEnd n i p) := by
  unfold State.takeFrameEnd
  extract_lets b
  split
  · exact h.twinFrameEnd
  · exact .ite h.setRxBuf h

theorem armCopy {p} (h : Keeps E s₀ s) : Keeps E s₀ (s.armCopy p) := by
  unfold State.armCopy
  extract_lets n s1 base mine
  have h1 : Keeps E s₀ s1 := h.setRecord
  exact h1.setArmed.setEligible.setAlternate

theorem applyArm {p} (h : Keeps E s₀ s) : Keeps E s₀ (s.applyArm p) := by
  unfold State.applyArm
  exact .ite h.armCopy h.dropAlternate

theorem setArms {l} (h : Keeps E s₀ s) : Keeps E s₀ (s.setArms l) := h.hidden

theorem takeArm {i p} (h : Keeps E s₀ s) : Keeps E s₀ (s.takeArm i p) := by
  unfold State.takeArm
  extract_lets l s1
  have h1 : Keeps E s₀ s1 := h.applyArm
  split
  · exact .ite h1.setArms h1
  · extract_lets mine later s1' s2
    have h1' : Keeps E s₀ s1' := h.setArms
    have h2 : Keeps E s₀ s2 := .ite h1'.armCopy h1'
    exact .ite h1' h2.raise

theorem takeStanding {i p} (h : Keeps E s₀ s) : Keeps E s₀ (s.takeStanding i p) := by
  unfold State.takeStanding
  extract_lets others _
  split
  · exact h.unknownType
  · split
    · exact h.hidden
    · exact h.takeArm
    · exact h.takeArm
    · exact h

theorem workerStanding (h : Keeps E s₀ s) : Keeps E s₀ s.workerStanding := by
  unfold State.workerStanding
  extract_lets at_ due next
  split
  · exact h
  · extract_lets n a u s1 _ s2 _
    have h1 : Keeps E s₀ s1 := h.setRecord
    have h2 : Keeps E s₀ s2 := h1.hidden
    exact h2.setPlane.showPending

theorem takeApply {p} (h : Keeps E s₀ s) : Keeps E s₀ (s.takeApply p) := by
  unfold State.takeApply
  extract_lets key b late t _ s1 _ s2
  have h1 : Keeps E s₀ s1 := h.setPlane.setFlag
  have h2 : Keeps E s₀ s2 := h1.hidden
  split
  · exact h
  · exact .ite h2.raise h2

theorem takeSwitchMsg {p} (h : Keeps E s₀ s) : Keeps E s₀ (s.takeSwitchMsg p) := by
  unfold State.takeSwitchMsg
  split
  · split
    · exact .ite h.takeApply h
    · split
      · exact .ite h.requestSwitch h
      · exact h
  · exact .ite h.unknownType h.takeApply

theorem twinRefused (h : Keeps E s₀ s) : Keeps E s₀ s.twinRefused := h.raise

theorem twinLead (h : Keeps E s₀ s) : Keeps E s₀ s.twinLead := by
  unfold State.twinLead
  exact .ite h.wr h.twinRefused

theorem twinResync (h : Keeps E s₀ s) : Keeps E s₀ s.twinResync := by
  unfold State.twinResync
  extract_lets s1 j _
  have h1 : Keeps E s₀ s1 := h.wr.wr.wr
  split
  · exact h.twinRefused
  · split
    · exact h.toTwin.resyncReport
    · exact h1.hidden.toTwin

theorem twinWithdraw (h : Keeps E s₀ s) : Keeps E s₀ s.twinWithdraw := by
  unfold State.twinWithdraw
  split
  · exact h.enterWait
  · exact h.enterWait
  · exact h.toTwin.resyncReport.enterWait
  · exact h.twinRefused

theorem takeResync {p} (h : Keeps E s₀ s) : Keeps E s₀ (s.takeResync p) := by
  unfold State.takeResync
  extract_lets fc _ base
  have hbase : Keeps E s₀ base := h.wr
  split
  · exact .ite h.hidden.wrW.toTwin h.toTwin.resyncReport
  · split
    · exact .ite h.hidden.wrW.wr h
    · exact h
  · exact .ite hbase.hidden.bump h
  · exact .ite h.resyncReport.enterWait h.hidden.resyncReport
  · exact h

theorem sendCheckpoint {fc} (h : Keeps E s₀ s) : Keeps E s₀ (s.sendCheckpoint fc) := by
  unfold State.sendCheckpoint
  extract_lets s1 image crc
  have h1 : Keeps E s₀ s1 := h.foldl fun h => h.commitStanding
  exact h1.foldl fun h => h.toTwin

theorem loadWords {bs l} (h : Keeps E s₀ s) : Keeps E s₀ (s.loadWords bs l) := h.foldl fun h => h.setWord

theorem loadStanding {b} (h : Keeps E s₀ s) : Keeps E s₀ (s.loadStanding b) := by
  unfold State.loadStanding
  extract_lets status one s1 _ s2 s3
  have h1 : Keeps E s₀ s1 := h.setWord
  have h2 : Keeps E s₀ s2 := h1.setRecord.setPlane
  have h3 : Keeps E s₀ s3 := h2.foldl fun h => h.setRecord.setPlane
  exact h3.showPending

theorem loadPendingLv {b} (h : Keeps E s₀ s) : Keeps E s₀ (s.loadPendingLv b) := by
  unfold State.loadPendingLv
  extract_lets _
  refine h.hidden.foldl fun h => ?_
  extract_lets off s1 _
  have h1 : Keeps E s₀ s1 := h.holdLv
  exact h1.hidden

theorem loadImage {fc j} (h : Keeps E s₀ s) : Keeps E s₀ (s.loadImage fc j) := by
  unfold State.loadImage
  extract_lets b s1 s2 s3 s4 s5 s6 ctxs _ s7 s8 s9 s10 _ s11 s12 _ s13
  have h1 : Keeps E s₀ s1 := h.loadWords
  have h2 : Keeps E s₀ s2 := h1.loadWords
  have h3 : Keeps E s₀ s3 := h2.loadWords
  have h4 : Keeps E s₀ s4 := h3.loadWords
  have h5 : Keeps E s₀ s5 := h4.loadWords
  have h6 : Keeps E s₀ s6 := h5.loadPendingLv
  have h7 : Keeps E s₀ s7 := h6.setPlane
  have h8 : Keeps E s₀ s8 := h7.foldl fun h => h.setCtx
  have h9 : Keeps E s₀ s9 := h8.loadStanding.wr
  have h10 : Keeps E s₀ s10 := h9.loadWords
  have h11 : Keeps E s₀ s11 := h10.hidden.setPlane
  have h12 : Keeps E s₀ s12 := h11.releaseHeld.wr
  have h13 : Keeps E s₀ s13 := h12.hidden
  exact .ite h13.raise h13

theorem takeCheckpoint {p} (h : Keeps E s₀ s) : Keeps E s₀ (s.takeCheckpoint p) := by
  unfold State.takeCheckpoint
  extract_lets _
  split
  · exact h
  · extract_lets image j1 s1
    have h1 : Keeps E s₀ s1 := h.hidden
    split
    · split
      · exact h1
      · exact .ite h1.loadImage h1.joinFails
    · exact h

theorem ownJoinEnd {f} (h : Keeps E s₀ s) : Keeps E s₀ (s.ownJoinEnd f) := h.hidden.joinPhase.compareJoin

theorem catchUp (h : Keeps E s₀ s) : Keeps E s₀ s.catchUp := by
  unfold State.catchUp
  split
  · exact h
  · extract_lets f s1 keep s2 _ s3
    have h1 : Keeps E s₀ s1 := h.catchSlots
    have h2 : Keeps E s₀ s2 := h1.demandCut.compositionCommit
    have h3 : Keeps E s₀ s3 := .ite h2 h2.setBank.setBank.setPlane
    exact .ite h h3.ownJoinEnd

theorem serveInner {n p} (h : Keeps E s₀ s) : Keeps E s₀ (s.serveInner n p) := by
  unfold State.serveInner
  extract_lets m a body rx take
  have htake : ∀ {act}, (∀ {t}, Keeps E s₀ t → Keeps E s₀ (act t)) → Keeps E s₀ (take act) := fun hact => h.sequence id hact
  split
  · exact h.malformed
  split
  · split
    · exact .ite h.malformed (htake fun h => h.takeDemand)
    · exact h.malformed
  · split
    · exact htake fun h => h.takeCircuit
    · exact h.malformed
  · split
    · exact htake fun h => h.takeCircuit
    · exact h.malformed
  · split
    · exact htake fun h => h.takeStatus
    · exact h.malformed
  · exact h.unknownType

theorem forwardInner {p} (h : Keeps E s₀ s) : Keeps E s₀ (s.forwardInner p) := by
  unfold State.forwardInner
  extract_lets h'
  split
  · exact h
  · exact .ite h.queueTx h.bump.raise

theorem serveRelay {n i p} (h : Keeps E s₀ s) : Keeps E s₀ (s.serveRelay n i p) :=
  h.acceptMsg fun h => (Keeps.ite h.serveInner h.forwardInner).giveCredit

/-! ### Operations of `Rings` -/

theorem ringMoved {r before} (h : Keeps E s₀ s) : Keeps E s₀ (s.ringMoved r before) := by
  unfold State.ringMoved
  extract_lets fill mark s1 s2
  have h1 : Keeps E s₀ s1 := h.wr
  have h2 : Keeps E s₀ s2 := h1.setEvent
  split
  · split
    · exact h2.emitCode
    · exact h2
  · exact h1

theorem ringPush {r} (h : Keeps E s₀ s) : Keeps E s₀ (s.ringPush r) := h.wr.wr.ringMoved

theorem ringPop {r} (h : Keeps E s₀ s) : Keeps E s₀ (s.ringPop r) := h.wr.wr.ringMoved

theorem ringRefused {a} (h : Keeps E s₀ s) : Keeps E s₀ (s.ringRefused a) := by
  unfold State.ringRefused
  split
  · exact h.raise
  · exact h.bump.raise
  · exact h.raise

theorem writeRingPtr {r isRd w} (h : Keeps E s₀ s) : Keeps E s₀ (s.writeRingPtr r isRd w) := by
  unfold State.writeRingPtr
  exact .ite h.ringRefused h.wr.wr.ringMoved

theorem writeRingField {r f w} (h : Keeps E s₀ s) : Keeps E s₀ (s.writeRingField r f w) := by
  unfold State.writeRingField
  extract_lets s1
  have h1 : Keeps E s₀ s1 := h.wr
  exact .ite h.ringRefused h1.wr

theorem writeRingPolicy {r w} (h : Keeps E s₀ s) : Keeps E s₀ (s.writeRingPolicy r w) := by
  unfold State.writeRingPolicy
  extract_lets policy source p q changes s1 s2
  have h1 : Keeps E s₀ s1 := .ite h.wr h
  have h2 : Keeps E s₀ s2 := .ite h1.wr h1
  split
  · exact h
  · exact .ite h2.ringRefused h2

theorem writeRingCfg {r w} (h : Keeps E s₀ s) : Keeps E s₀ (s.writeRingCfg r w) := by
  unfold State.writeRingCfg
  extract_lets s1
  have h1 : Keeps E s₀ s1 := h.writeRingPolicy
  split
  · exact h1.setFlag
  · exact .ite h1.setFlag h1.ringRefused

theorem writeRingWord {r w a} (h : Keeps E s₀ s) : Keeps E s₀ (s.writeRingWord r w a) := by
  unfold State.writeRingWord
  split
  · exact h.writeRingField
  · exact h.writeRingField
  · exact h.writeRingCfg

/-! ### Operations of `Sillage` -/

theorem dropBlock {n} (h : Keeps E s₀ s) : Keeps E s₀ (s.dropBlock n) := h.hidden.bump

theorem ringOverrun {n} (h : Keeps E s₀ s) : Keeps E s₀ (s.ringOverrun n) := h.setEvent.raise.emitCode

theorem putBlock {n b k} (h : Keeps E s₀ s) (hE : Allows E [.mem]) : Keeps E s₀ (s.putBlock n b k) := by
  unfold State.putBlock
  extract_lets r seq gap f g s1 _ s2
  have hf : Keeps E s₀ f.2 := h.freshBytes
  have hg : Keeps E s₀ g.2 := hf.freshBytes
  have h1 : Keeps E s₀ s1 := hg.setMemBytes (hE.of rfl)
  have h2 : Keeps E s₀ s2 := h1.hidden
  exact h2.bump.ringPush

theorem blockReady {n b k bus} (h : Keeps E s₀ s) (hE : Allows E [.mem]) : Keeps E s₀ (s.blockReady n b k bus) := by
  unfold State.blockReady
  extract_lets r
  split
  · exact h.dropBlock
  · exact h.dropBlock.raise
  · split
    · exact h.dropBlock
    · split
      · exact h.putBlock (hE.of rfl)
      · exact .ite (h.ringPop.ringOverrun.putBlock (hE.of rfl)) h.dropBlock.ringOverrun

theorem adcBlock {source line first xs} (h : Keeps E s₀ s) : Keeps E s₀ (s.adcBlock source line first xs).2 := by
  unfold State.adcBlock
  extract_lets v r pad ns
  have hr : Keeps E s₀ r.2 := h.freshValue
  exact hr

theorem keepLast {ch xs} (h : Keeps E s₀ s) : Keeps E s₀ (s.keepLast ch xs) := by
  unfold State.keepLast
  extract_lets _
  split
  · exact h.hidden
  · exact h

theorem recordDone (h : Keeps E s₀ s) : Keeps E s₀ s.recordDone := h.hidden.emitCode

theorem recordBlock {n b trigAt bus last} (h : Keeps E s₀ s) (hE : Allows E [.mem]) :
    Keeps E s₀ (s.recordBlock n b trigAt bus last) := by
  unfold State.recordBlock
  extract_lets dual pre _ marks s1
  have h1 : Keeps E s₀ s1 := h.foldl fun h => h.blockReady (hE.of rfl)
  exact h1.blockReady (hE.of rfl)

theorem keepBlocks {bs} (h : Keeps E s₀ s) : Keeps E s₀ (s.keepBlocks bs) := h.hidden

theorem captureBlocks {bs trigAt bus} (h : Keeps E s₀ s) (hE : Allows E [.mem]) :
    Keeps E s₀ (s.captureBlocks bs trigAt bus) := by
  unfold State.captureBlocks
  extract_lets s0 _ marks s1 _ last s1' _
  have h0 : Keeps E s₀ s0 := .ite h.raise h
  have h1 : Keeps E s₀ s1 := h0.foldl fun h => h.blockReady (hE.of rfl)
  have h1' : Keeps E s₀ s1' := (h0.foldl fun h => h.recordBlock (hE.of rfl)).keepBlocks
  split
  · exact h1.hidden
  · split
    · exact h0.keepBlocks
    · exact .ite h1'.recordDone h1'.hidden

theorem adcComplete {a b first trigAt bus} (h : Keeps E s₀ s) (hE : Allows E [.mem]) :
    Keeps E s₀ (s.adcComplete a b first trigAt bus) := by
  unfold State.adcComplete
  extract_lets dual ch hits s1 ringA ringB x s2 at_ y
  have h1 : Keeps E s₀ s1 := h.foldl fun h => h.silTrigger
  have hx : Keeps E s₀ x.2 := h1.adcBlock
  have h2 : Keeps E s₀ s2 := hx.keepLast
  have hy : Keeps E s₀ y.2 := h2.adcBlock
  split
  · exact h
  · exact .ite (hy.keepLast.captureBlocks (hE.of rfl)) (h2.captureBlocks (hE.of rfl))

theorem focusComplete {t first bus} (h : Keeps E s₀ s) (hE : Allows E [.mem]) : Keeps E s₀ (s.focusComplete t first bus) := by
  unfold State.focusComplete
  extract_lets x ns _
  split
  · exact h
  · exact h.setTile.blockReady (hE.of rfl)

theorem blockComplete {x ago trigAt bus} (h : Keeps E s₀ s) (hE : Allows E [.mem]) :
    Keeps E s₀ (s.blockComplete x ago trigAt bus) := by
  unfold State.blockComplete
  extract_lets first
  split
  · exact h.adcComplete (hE.of rfl)
  · exact h.focusComplete (hE.of rfl)

theorem silArm (h : Keeps E s₀ s) : Keeps E s₀ s.silArm := by
  unfold State.silArm
  exact .ite h.hidden h

theorem silStop (h : Keeps E s₀ s) : Keeps E s₀ s.silStop := by
  unfold State.silStop
  extract_lets _
  split
  · exact h
  · exact .ite h.hidden.note h.hidden.note

theorem silOff (h : Keeps E s₀ s) : Keeps E s₀ s.silOff := by
  unfold State.silOff
  extract_lets s1 _
  have h1 : Keeps E s₀ s1 := h.silStop
  exact h1.hidden

theorem writeSilCtrl {w} (h : Keeps E s₀ s) : Keeps E s₀ (s.writeSilCtrl w) := by
  unfold State.writeSilCtrl
  extract_lets on s1 s2 s3 s4
  have h1 : Keeps E s₀ s1 := h.setFlag.setFlag
  have h2 : Keeps E s₀ s2 := .ite h1 h1.setFlag.setFlag
  have h3 : Keeps E s₀ s3 := .ite h2.silOff h2
  have h4 : Keeps E s₀ s4 := .ite h3.silStop h3
  exact .ite h4.silArm h4

theorem writeSilSrc {w} (h : Keeps E s₀ s) : Keeps E s₀ (s.writeSilSrc w) := by
  unfold State.writeSilSrc
  extract_lets s1 s2
  have h1 : Keeps E s₀ s1 := .ite h.wr h
  have h2 : Keeps E s₀ s2 := .ite h1.wr h1
  exact h2.wr.wr

theorem timeTrigger (h : Keeps E s₀ s) : Keeps E s₀ s.timeTrigger := by
  unfold State.timeTrigger
  exact .ite h.hidden.silTrigger h

theorem newTrigTime (h : Keeps E s₀ s) : Keeps E s₀ s.newTrigTime := h.hidden

/-! ### Operations of `Frame` -/

theorem swapBanks {at_} (h : Keeps E s₀ s) : Keeps E s₀ (s.swapBanks at_) := by
  unfold State.swapBanks
  extract_lets s1 s2 s3 _
  have h1 : Keeps E s₀ s1 := h.wr
  have h2 : Keeps E s₀ s2 := h1.wr
  have h3 : Keeps E s₀ s3 := h2.setFlag.setFlag
  exact h3.hidden

theorem dueSwap (h : Keeps E s₀ s) : Keeps E s₀ s.dueSwap := by
  unfold State.dueSwap
  exact .ite h.swapBanks h

theorem discardBegun {f} (h : Keeps E s₀ s) : Keeps E s₀ (s.discardBegun f) := by
  unfold State.discardBegun
  split
  · exact .ite h.freshValue.dropComposition h.discardFrame
  · exact h.discardFrame

theorem discardNext {f} (h : Keeps E s₀ s) : Keeps E s₀ (s.discardNext f) := by
  unfold State.discardNext
  split
  · exact h.discardBegun
  · exact h.discardFrame.tellDiscard
  · exact h.discardFrame
  · exact h

theorem discardEnded {f} (h : Keeps E s₀ s) : Keeps E s₀ (s.discardEnded f) := by
  unfold State.discardEnded
  exact .ite h.discardFrame h

theorem disarmAll (h : Keeps E s₀ s) : Keeps E s₀ s.disarmAll := (h.foldl fun h => h.setFlag).raise

theorem stepEndsJoin (h : Keeps E s₀ s) : Keeps E s₀ s.stepEndsJoin := by
  unfold State.stepEndsJoin
  extract_lets _
  split
  · exact h.hidden.toTwin.resyncReport
  · exact .ite h.joinFails h

theorem dueClaim (h : Keeps E s₀ s) : Keeps E s₀ s.dueClaim := by
  unfold State.dueClaim
  extract_lets s1 s2
  have h1 : Keeps E s₀ s1 := h.applyLv
  have h2 : Keeps E s₀ s2 := .ite h1.rerank h1
  exact .ite (h2.foldl fun h => h.tellHealth) h

theorem enterFollow (h : Keeps E s₀ s) : Keeps E s₀ s.enterFollow := by
  unfold State.enterFollow
  extract_lets s1 _ _
  have h1 : Keeps E s₀ s1 := h.discardUpdates
  exact h1.hidden.setPlane

theorem enterOwn (h : Keeps E s₀ s) : Keeps E s₀ s.enterOwn := h.foldl fun h => h.setCtx

theorem dueMode {f} (h : Keeps E s₀ s) : Keeps E s₀ (s.dueMode f) := by
  unfold State.dueMode
  extract_lets s1
  have h1 : Keeps E s₀ s1 := h.applyLv
  split
  · split
    · exact h1.enterFollow
    · exact .ite h1.enterOwn h1
  · exact h

theorem dropStale {f1} (h : Keeps E s₀ s) : Keeps E s₀ (s.dropStale f1) := by
  unfold State.dropStale
  extract_lets stale s1
  have h1 : Keeps E s₀ s1 := h.releaseHeld
  split
  · exact h
  · exact .ite h1 (h1.foldl fun h => h.demandLate)

theorem dueActs {f} (h : Keeps E s₀ s) : Keeps E s₀ (s.dueActs f) := h.dueClaim.dueMode.dueSwap.timeTrigger.applyComposerLv

theorem passOver (h : Keeps E s₀ s) : Keeps E s₀ s.passOver := by
  unfold State.passOver
  extract_lets s1
  have h1 : Keeps E s₀ s1 := h.dueActs.makeEligible.dropStale
  split
  · exact h
  · exact .ite h1.takeCut h1

theorem newTimeline (h : Keeps E s₀ s) : Keeps E s₀ s.newTimeline := by
  unfold State.newTimeline
  extract_lets here _ s1 s2 _
  have h1 : Keeps E s₀ s1 := h.setPlane
  have h2 : Keeps E s₀ s2 := h1.hidden
  exact .ite h2.hidden h2

theorem applyStep {r} (h : Keeps E s₀ s) : Keeps E s₀ (s.applyStep r) := by
  unfold State.applyStep
  extract_lets f s1 s2 _ _ _ s3 s4 _ s5
  have h1 : Keeps E s₀ s1 := h.discardNext.discardEnded.dueActs
  have h2 : Keeps E s₀ s2 := h1.setTime
  have h3 : Keeps E s₀ s3 := h2.hidden.showSlew
  have h4 : Keeps E s₀ s4 := h3.setFlag.newTimeline
  have h5 : Keeps E s₀ s5 := h4.hidden
  exact h5.disarmAll.bump.raise.stepEndsJoin.passOver

theorem turnBanks {f} (h : Keeps E s₀ s) : Keeps E s₀ (s.turnBanks f) := by
  unfold State.turnBanks
  extract_lets s1 active s2 s3 _
  have h1 : Keeps E s₀ s1 := .ite h.discardBegun h
  have h2 : Keeps E s₀ s2 := .ite h1.setBank.bump h1
  have h3 : Keeps E s₀ s3 := h2.setBank
  exact h3.setPlane

theorem joinBoundary {f} (h : Keeps E s₀ s) : Keeps E s₀ (s.joinBoundary f) := by
  unfold State.joinBoundary
  extract_lets caught s1 _
  have hcaught : Keeps E s₀ caught := h.catchSlots
  have h1 : Keeps E s₀ s1 := hcaught.toTwin.wr.wr
  split
  · exact h
  · split
    · split
      · exact h1.hidden.bump
      · exact .ite h.joinFails h.joinPhase
    · exact .ite h.joinFails h
    · exact .ite h.joinFails h

theorem dueCheckpoint (h : Keeps E s₀ s) : Keeps E s₀ s.dueCheckpoint := by
  unfold State.dueCheckpoint
  exact .ite h.sendCheckpoint h

theorem beginFrame {f} (h : Keeps E s₀ s) : Keeps E s₀ (s.beginFrame f) := by
  unfold State.beginFrame
  extract_lets waits _ s1 base _ s2
  have h1 : Keeps E s₀ s1 := h.hidden
  have h2 : Keeps E s₀ s2 := h1.setPlane
  split
  · exact h
  · split
    · exact h1.demandCut
    · exact .ite h2.setBank.markEligibleFrom h1

theorem frameBoundary (h : Keeps E s₀ s) : Keeps E s₀ s.frameBoundary := by
  unfold State.frameBoundary
  extract_lets f s0 _ s1 s2 s3 s4
  have h0 : Keeps E s₀ s0 := h.dueCheckpoint
  have h1 : Keeps E s₀ s1 := h0.setPlane
  have h2 : Keeps E s₀ s2 := .ite h1 h1.turnBanks
  have h3 : Keeps E s₀ s3 := h2.dueClaim.dueMode.dueSwap.joinBoundary
  have h4 : Keeps E s₀ s4 := h3.makeEligible.beginFrame
  split
  · exact h
  · split
    · exact h.applyStep
    · exact h4.dropStale

theorem slotInstant (h : Keeps E s₀ s) : Keeps E s₀ s.slotInstant := by
  unfold State.slotInstant
  exact .ite h.dueCheckpoint.dueMode.slotBoundary h.slotBoundary

theorem stepCmd {rel} (h : Keeps E s₀ s) : Keeps E s₀ (s.stepCmd rel) := by
  unfold State.stepCmd
  exact .ite h.raise h.hidden.setFlag

/-! ### Operations of `Parser` -/

theorem setRule {k r} (h : Keeps E s₀ s) : Keeps E s₀ (s.setRule k r) := h.hidden

theorem hitRule {k} (h : Keeps E s₀ s) : Keeps E s₀ (s.hitRule k) := by
  unfold State.hitRule
  extract_lets r s1
  have h1 : Keeps E s₀ s1 := h.setRule
  exact .ite h1.raise h1

theorem parserRefused (h : Keeps E s₀ s) : Keeps E s₀ s.parserRefused := h.ringRefused

theorem readRule (h : Keeps E s₀ s) : Keeps E s₀ s.readRule := by
  unfold State.readRule
  extract_lets r s1
  have h1 : Keeps E s₀ s1 := h.foldl fun h => h.wr
  exact h1.wrW

theorem writeRule (h : Keeps E s₀ s) : Keeps E s₀ s.writeRule := by
  unfold State.writeRule
  exact .ite h.parserRefused h.setRule

theorem swapCmd {atFrame} (h : Keeps E s₀ s) : Keeps E s₀ (s.swapCmd atFrame) := by
  unfold State.swapCmd
  split
  · exact h.parserRefused
  · split
    · exact h.swapBanks
    · exact .ite h.parserRefused h.setFlag.dueSwap

theorem clearOldBusy (h : Keeps E s₀ s) : Keeps E s₀ s.clearOldBusy := by
  unfold State.clearOldBusy
  exact .ite h h.setFlag

theorem toRing {n x} (h : Keeps E s₀ s) (hE : Allows E [.mem]) : Keeps E s₀ (s.toRing n x) := by
  unfold State.toRing
  extract_lets r seq s1 _ s2 s3 s1'
  have h1 : Keeps E s₀ s1 := h.setMemBytes (hE.of rfl)
  have h2 : Keeps E s₀ s2 := h1.hidden
  have h3 : Keeps E s₀ s3 := .ite h2.bump h2
  have h1' : Keeps E s₀ s1' := h.setEvent
  split
  · exact h3.ringPush
  · exact .ite h1'.bump.raise h1'.bump.raise

theorem toFirmware {x} (h : Keeps E s₀ s) : Keeps E s₀ (s.toFirmware x) := by
  unfold State.toFirmware
  extract_lets s1 _
  have h1 : Keeps E s₀ s1 := h.bump
  exact .ite h1.hidden h1.bump.raise

theorem defaultAction {f cause pass rule} (h : Keeps E s₀ s) : Keeps E s₀ (s.defaultAction f cause pass rule) := by
  unfold State.defaultAction
  exact .ite h.toFirmware h.bump

theorem deliverShort {n m} (h : Keeps E s₀ s) : Keeps E s₀ (s.deliverShort n m) := h.acceptMsg id

theorem deliverAs {α : Type} {n m} {p : Option α} {act : α → State} (h : Keeps E s₀ s) (made : ∀ {x}, Keeps E s₀ (act x)) :
    Keeps E s₀ (s.deliverAs n m p act) := by
  unfold State.deliverAs
  split
  · exact made
  · exact h.deliverShort

theorem deliverKowin {n rx f c m} (h : Keeps E s₀ s) : Keeps E s₀ (s.deliverKowin n rx f c m) := by
  unfold State.deliverKowin
  extract_lets k b mac ip ip'
  clear_value k
  split
  · exact h.deliverAs h.serveHello
  · exact h.deliverAs h.serveDemand
  · exact h.deliverAs h.serveOp
  · exact h.deliverAs h.serveOp
  · exact h.deliverAs h.serveStatus
  · exact h.deliverAs h.serveEcho
  · exact h.acceptMsg id
  · exact h.deliverAs h.serveTierHello
  · exact h.deliverAs (h.serveTier fun h => h.takeAccord)
  · exact h.deliverAs (h.serveTier fun h => h.takeFrameEnd)
  · exact h.deliverAs (h.serveTier fun h => h.takeStanding)
  · exact h.deliverAs (h.serveTier fun h => h.takeSwitchMsg)
  · exact h.deliverAs (h.serveTier fun h => h.takeResync)
  · exact h.deliverAs (h.serveTier fun h => h.takeCheckpoint)
  · exact h.acceptMsg id

theorem actKowin {f pass c} (h : Keeps E s₀ s) : Keeps E s₀ (s.actKowin f pass c) := by
  unfold State.actKowin
  extract_lets m
  split
  · exact h.malformed
  · exact .ite h.deliverKowin (h.deliverAs h.serveRelay)

theorem actRecirc {f i} (h : Keeps E s₀ s) : Keeps E s₀ (s.actRecirc f i) := by
  unfold State.actRecirc
  exact .ite h.hidden h.bump.raise.defaultAction

theorem decideFrame {f pass c} (h : Keeps E s₀ s) (hE : Allows E [.mem]) : Keeps E s₀ (s.decideFrame f pass c) := by
  unfold State.decideFrame
  split
  · exact h.bump.bump.raise.defaultAction
  · extract_lets s1 i s2 s3
    have h1 : Keeps E s₀ s1 := h.hitRule
    have h2 : Keeps E s₀ s2 := .ite h1.toFirmware h1
    have h3 : Keeps E s₀ s3 := .ite h2.emitCode h2
    split
    · exact h3.actKowin
    · exact h3.toRing (hE.of rfl)
    · exact h3.toFirmware
    · exact .ite h3.actRecirc h3.bump
    · exact h3.bump

theorem stopFrame {f pass a} (h : Keeps E s₀ s) : Keeps E s₀ (s.stopFrame f pass a) := by
  unfold State.stopFrame
  split
  · exact h.malformed.defaultAction
  · exact h.bump.raise.toFirmware

theorem pass0 {f} (h : Keeps E s₀ s) (hE : Allows E [.mem]) : Keeps E s₀ (s.pass0 f) := by
  unfold State.pass0
  extract_lets s1
  have h1 : Keeps E s₀ s1 := h.bump.bump
  split
  · exact h1.decideFrame (hE.of rfl)
  · exact h1.stopFrame

theorem pass1 {f} (h : Keeps E s₀ s) (hE : Allows E [.mem]) : Keeps E s₀ (s.pass1 f) := by
  unfold State.pass1
  extract_lets s1
  have h1 : Keeps E s₀ s1 := h.bump
  split
  · exact h1.decideFrame (hE.of rfl)
  · exact h1.stopFrame

theorem recircPass (h : Keeps E s₀ s) (hE : Allows E [.mem]) : Keeps E s₀ s.recircPass := by
  unfold State.recircPass
  extract_lets _
  split
  · exact h
  · extract_lets s1
    have h1 : Keeps E s₀ s1 := h.hidden
    exact h1.pass1 (hE.of rfl)

theorem laneFrame {n ago bad bytes} (h : Keeps E s₀ s) (hE : Allows E [.mem]) : Keeps E s₀ (s.laneFrame n ago bad bytes) := by
  unfold State.laneFrame
  split
  · exact h
  · split
    · exact h.bump
    · exact .ite h.bump (h.pass0 (hE.of rfl))

/-! ### Operations of `Passport` -/

theorem derive {l} (h : Keeps E s₀ s) : Keeps E s₀ (s.derive l) := by
  unfold State.derive
  extract_lets s1
  have h1 : Keeps E s₀ s1 := h.setWord.setWord
  exact .ite h1 h1.wr

theorem setAgeing {l off n v} (h : Keeps E s₀ s) (hE : Allows E [.mem]) : Keeps E s₀ (s.setAgeing l off n v) :=
  h.setMemBytes (hE.of rfl)

/-! ### Operations of `Replan` -/

theorem measureHeaters {c} (h : Keeps E s₀ s) : Keeps E s₀ (s.measureHeaters c) := h.foldl fun h => h.setTile

theorem startPass (h : Keeps E s₀ s) (hE : Allows E [.replan]) : Keeps E s₀ s.startPass := by
  unfold State.startPass
  extract_lets _ s1
  have h1 : Keeps E s₀ s1 := h.setReplan (hE.of rfl)
  exact h1.setFlag.wr.wrW.measureHeaters

theorem replanTimer (h : Keeps E s₀ s) (hE : Allows E [.replan]) : Keeps E s₀ s.replanTimer := by
  unfold State.replanTimer
  exact .ite (h.startPass (hE.of rfl)) h

theorem replanNow (h : Keeps E s₀ s) (hE : Allows E [.replan]) : Keeps E s₀ s.replanNow := by
  unfold State.replanNow
  exact .ite h.bump.raise (h.startPass (hE.of rfl))

theorem endPass {result residue} (h : Keeps E s₀ s) (hE : Allows E [.replan]) : Keeps E s₀ (s.endPass result residue) :=
  ((((h.measureHeaters.setReplan (hE.of rfl)).setFlag).wr).setFlag).wr

theorem replanAbort (h : Keeps E s₀ s) (hE : Allows E [.replan]) : Keeps E s₀ s.replanAbort := by
  unfold State.replanAbort
  exact .ite (h.endPass (hE.of rfl)) h.wr.setFlag

theorem writeReplanCmd {w} (h : Keeps E s₀ s) (hE : Allows E [.replan]) : Keeps E s₀ (s.writeReplanCmd w) := by
  unfold State.writeReplanCmd
  extract_lets s1
  have h1 : Keeps E s₀ s1 := .ite (h.replanAbort (hE.of rfl)) h
  exact .ite (h1.replanNow (hE.of rfl)) h1

theorem skipLoop {l} (h : Keeps E s₀ s) (hE : Allows E [.mem]) : Keeps E s₀ (s.skipLoop l) := (h.setAgeing (hE.of rfl)).bump

theorem applyProposal {l p} (h : Keeps E s₀ s) : Keeps E s₀ (s.applyProposal l p) := by
  unfold State.applyProposal
  extract_lets mask c fold shift d a s1 s2 g _ s3
  have h1 : Keeps E s₀ s1 := .ite h.holdLv h
  have h2 : Keeps E s₀ s2 := .ite h1.holdLv.holdLv h1
  have hg : Keeps E s₀ g := h2.holdLv
  have h3 : Keeps E s₀ s3 := by
    unfold s3
    split
    · exact .ite hg.holdLv hg.setLoopMem
    · exact h2
  exact h3.bump

theorem writeAgeing {l e p headroom limiter flags} (h : Keeps E s₀ s) (hE : Allows E [.mem]) :
    Keeps E s₀ (s.writeAgeing l e p headroom limiter flags) := by
  unfold State.writeAgeing
  extract_lets s1 s2 sp
  have h1 : Keeps E s₀ s1 :=
    ((((h.setAgeing (hE.of rfl)).setAgeing (hE.of rfl)).setAgeing (hE.of rfl)).setAgeing (hE.of rfl)).setAgeing (hE.of rfl)
  have h2 : Keeps E s₀ s2 := ((h1.setAgeing (hE.of rfl)).setAgeing (hE.of rfl)).setAgeing (hE.of rfl)
  exact (((h2.setAgeing (hE.of rfl)).setAgeing (hE.of rfl)).setAgeing (hE.of rfl)).setAgeing (hE.of rfl)

theorem evaluateLoop {l o} (h : Keeps E s₀ s) (hE : Allows E [.mem]) : Keeps E s₀ (s.evaluateLoop l o) := by
  unfold State.evaluateLoop
  extract_lets e p age least headroom apply flags s1 s2 s3 s4
  have h1 : Keeps E s₀ s1 := .ite h.applyProposal h
  have h2 : Keeps E s₀ s2 := h1.writeAgeing (hE.of rfl)
  have h3 : Keeps E s₀ s3 := .ite h2.raise h2
  have h4 : Keeps E s₀ s4 := .ite h3.raise h3
  exact .ite h4.raise h4

theorem windowLoop {l o} (h : Keeps E s₀ s) (hE : Allows E [.replan, .mem]) : Keeps E s₀ (s.windowLoop l o) := by
  unfold State.windowLoop
  extract_lets _
  split
  · exact .ite ((h.setReplan (hE.of rfl)).evaluateLoop (hE.of rfl)) (h.skipLoop (hE.of rfl))
  · exact h.skipLoop (hE.of rfl)

theorem probeMargin {mean} (h : Keeps E s₀ s) : Keeps E s₀ (s.probeMargin mean) := by
  unfold State.probeMargin
  extract_lets f v share
  have hf : Keeps E s₀ f.2 := h.freshValue
  exact .ite hf.wr h.wrS

theorem completePass (h : Keeps E s₀ s) (hE : Allows E [.replan]) : Keeps E s₀ s.completePass := by
  unfold State.completePass
  extract_lets mean s1 s2 s3 limited s4 s5 s6 _ s7
  have h1 : Keeps E s₀ s1 := h.wr
  have h2 : Keeps E s₀ s2 := .ite h1.wr h1
  have h3 : Keeps E s₀ s3 := h2.probeMargin
  have h4 : Keeps E s₀ s4 := by
    unfold s4
    split
    · exact h3.wr.wr
    · exact h3
  have h5 : Keeps E s₀ s5 := h4.wr
  have h6 : Keeps E s₀ s6 := by
    unfold s6
    split
    · exact h5.wr.wr
    · exact h5
  have h7 : Keeps E s₀ s7 := h6.setReplan (hE.of rfl)
  exact (h7.endPass (hE.of rfl)).bump

theorem windowEnd {obs} (h : Keeps E s₀ s) (hE : Allows E [.replan, .mem]) : Keeps E s₀ (s.windowEnd obs) := by
  unfold State.windowEnd
  extract_lets c s1 s2
  have h1 : Keeps E s₀ s1 := h.foldl fun h => h.wr
  have h2 : Keeps E s₀ s2 := h1.foldl fun h => h.windowLoop (hE.of rfl)
  split
  · exact .ite (h2.completePass (hE.of rfl)) h2.wr.measureHeaters
  · exact h

/-! ### Operations of `Write` -/

theorem storeWord {a w} (h : Keeps E s₀ s) : Keeps E s₀ (s.storeWord a w) := by
  unfold State.storeWord
  extract_lets rw lv s1
  have h1 : Keeps E s₀ s1 := h.setWord
  exact .ite h1 h1.holdLv

theorem writeFault {b k w} (h : Keeps E s₀ s) : Keeps E s₀ (s.writeFault b k w) := by
  unfold State.writeFault
  split
  · exact h.writeFaultReal
  · exact h.writeFaultInj
  · exact h.writeFaultEn
  · exact h.writeFaultSev
  · exact h.writeInject

theorem writeHostif {m a w} (h : Keeps E s₀ s) (hE : Allows E [.fuses]) : Keeps E s₀ (s.writeHostif m a w) := by
  unfold State.writeHostif
  split
  · exact h.writeRearm
  · split
    · exact h.writeSem
    · split
      · exact h.writeFuseCmd (hE.of rfl)
      · exact .ite h.storeWord.flushVectors h.storeWord

theorem writeMortarBlock {a w} (h : Keeps E s₀ s) : Keeps E s₀ (s.writeMortarBlock a w) := by
  unfold State.writeMortarBlock
  split
  · exact h.writeMortar
  · exact .ite (h.storeWord.foldl fun h => h.signalVector) h.storeWord

theorem writeStrbCmd {w} (h : Keeps E s₀ s) : Keeps E s₀ (s.writeStrbCmd w) := by
  unfold State.writeStrbCmd
  extract_lets s1
  have h1 : Keeps E s₀ s1 := .ite h.commandPlane h
  exact h1.foldl fun h => h.commandGroup

theorem writeTpulse {a w} (h : Keeps E s₀ s) : Keeps E s₀ (s.writeTpulse a w) := by
  unfold State.writeTpulse
  extract_lets n s1 s1'
  have h1 : Keeps E s₀ s1 := .ite h.armTpulse h
  have h1' : Keeps E s₀ s1' := h.storeWord
  split
  · exact .ite h1.disarmTpulse h1
  · split
    · exact h.raise
    · exact .ite h1' h1'.emitOut

theorem writeRing {r off w} (h : Keeps E s₀ s) : Keeps E s₀ (s.writeRing r off w) := by
  unfold State.writeRing
  split
  · exact h.writeRingWord
  · exact h.writeRingWord
  · exact .ite h.writeRingPtr h
  · exact h.writeRingPtr
  · exact h.writeRingWord
  · exact h.storeWord

theorem writeTime {a w} (h : Keeps E s₀ s) : Keeps E s₀ (s.writeTime a w) := by
  unfold State.writeTime
  split
  · exact h.startSlew
  · split
    · exact .ite h.stepCmd h
    · split
      · exact h.writeTpulse
      · exact .ite h.writeStrbCmd h.storeWord

theorem writeThermal {a w} (h : Keeps E s₀ s) (hE : Allows E [.therm]) : Keeps E s₀ (s.writeThermal a w) := by
  unfold State.writeThermal
  split
  · exact .ite h.readSlot h
  · split
    · exact .ite (h.eraseRing (hE.of rfl)) h
    · exact h.storeWord

theorem writeCalAuto {a w} (h : Keeps E s₀ s) : Keeps E s₀ (s.writeCalAuto a w) := by
  unfold State.writeCalAuto
  extract_lets s1 k set
  have h1 : Keeps E s₀ s1 := h.storeWord
  exact h1.foldl fun h => h.tempCause

theorem writeCalib {a w} (h : Keeps E s₀ s) : Keeps E s₀ (s.writeCalib a w) := by
  unfold State.writeCalib
  split
  · exact h.writeCalCmd
  · split
    · exact .ite h.silCalGo h
    · split
      · exact h.writeMirror
      · exact .ite h.writeCalAuto h.storeWord

theorem writeTwinCmd {w} (h : Keeps E s₀ s) : Keeps E s₀ (s.writeTwinCmd w) := by
  unfold State.writeTwinCmd
  extract_lets s1 s2
  have h1 : Keeps E s₀ s1 := .ite h.twinLead h
  have h2 : Keeps E s₀ s2 := .ite h1.twinResync h1
  exact .ite h2.twinWithdraw h2

theorem writeParser {a w} (h : Keeps E s₀ s) : Keeps E s₀ (s.writeParser a w) := by
  unfold State.writeParser
  extract_lets s1
  have h1 : Keeps E s₀ s1 := .ite h.readRule h
  split
  · exact .ite h.swapCmd h
  · split
    · exact .ite h1.writeRule h1
    · exact h.storeWord

theorem writeComposer {a w} (h : Keeps E s₀ s) : Keeps E s₀ (s.writeComposer a w) := by
  unfold State.writeComposer
  extract_lets lv f
  have hf : Keeps E s₀ f.2 := h.freshValue
  split
  · exact .ite hf.abortComposition h
  · split
    · exact h.storeWord
    · exact .ite h.bump.raise h.holdComposerLv

theorem writeAltCmd {w} (h : Keeps E s₀ s) : Keeps E s₀ (s.writeAltCmd w) := by
  unfold State.writeAltCmd
  extract_lets n
  split
  · exact h.altRefused
  · exact h.armAlternate
  · exact h.disarmAlternate
  · exact h

theorem writeAccordBlock {a w} (h : Keeps E s₀ s) : Keeps E s₀ (s.writeAccordBlock a w) := by
  unfold State.writeAccordBlock
  split
  · exact h.writeAltCmd
  · split
    · exact .ite h.requestSwitch h
    · split
      · exact h.writeRecord
      · exact h.storeWord

theorem writeCourse {a w} (h : Keeps E s₀ s) : Keeps E s₀ (s.writeCourse a w) := by
  unfold State.writeCourse
  extract_lets c off s1
  have h1 : Keeps E s₀ s1 := .ite h.setEvt h
  split
  · exact h.writeCourseCtrl
  · split
    · exact h.writeLoopCtrl
    · exact .ite h1.storeWord h.storeWord

theorem writeSealCmd {t w} (h : Keeps E s₀ s) : Keeps E s₀ (s.writeSealCmd t w) := by
  unfold State.writeSealCmd
  extract_lets s1 s2 s3
  have h1 : Keeps E s₀ s1 := .ite h.sealSelAll h
  have h2 : Keeps E s₀ s2 := .ite h1.sealLadderAll h1
  have h3 : Keeps E s₀ s3 := .ite h2.sealHtrAll h2
  exact .ite h3.sealShutters h3

theorem writePock {m t ch k w} (h : Keeps E s₀ s) : Keeps E s₀ (s.writePock m t ch k w) := by
  unfold State.writePock
  extract_lets s1 s2
  have h1 : Keeps E s₀ s1 := .ite h.sealLadder h
  have h2 : Keeps E s₀ s2 := .ite h1.sealLadder h1
  split
  · exact h.writeLadder
  · exact h.writeLadder
  · exact h.writeSelShadow
  · exact .ite h2.sealSelect h2
  · exact h

theorem writeHtr {m t ch k w} (h : Keeps E s₀ s) : Keeps E s₀ (s.writeHtr m t ch k w) := by
  unfold State.writeHtr
  split
  · exact h.writeHeater
  · exact .ite h.sealHeater h
  · exact h

theorem writeShut {m t off w} (h : Keeps E s₀ s) : Keeps E s₀ (s.writeShut m t off w) := by
  unfold State.writeShut
  split
  · exact h
  · split
    · exact h.writeShutters
    · exact h.writeShutters
    · exact .ite h.sealShutters h
    · exact h.storeWord

theorem writeTile {m t off w} (h : Keeps E s₀ s) : Keeps E s₀ (s.writeTile m t off w) := by
  unfold State.writeTile
  split
  · exact h.writeTiaRange
  · split
    · exact h.writePock
    · split
      · exact h.writeHtr
      · split
        · exact h.writeShut
        · split
          · exact h.writeDrvEnable
          · exact h.writeSealCmd
          · exact h.writeScanCfg
          · exact h.writeFocus
          · exact h.writeDiag
          · exact h.writeFastCfg
          · exact h.storeWord

theorem writeLoopWord {m a w} (h : Keeps E s₀ s) : Keeps E s₀ (s.writeLoopWord m a w) := by
  unfold State.writeLoopWord
  extract_lets l n
  split
  · exact h.writeLoopParam
  · exact .ite h.writeLoopState h

theorem writeRepWord {a w} (h : Keeps E s₀ s) : Keeps E s₀ (s.writeRepWord a w) := h.writeRepetitive

theorem writeSillage {a w} (h : Keeps E s₀ s) : Keeps E s₀ (s.writeSillage a w) := by
  unfold State.writeSillage
  split
  · exact h.writeSilCtrl
  · exact h.writeSilSrc
  · exact .ite h.silTriggerFrom h
  · exact h.storeWord.newTrigTime
  · exact h.storeWord

theorem commitPair {m a hi} (h : Keeps E s₀ s) : Keeps E s₀ (s.commitPair m a hi) := by
  unfold State.commitPair
  extract_lets lo s1 done
  have h1 : Keeps E s₀ s1 := h.dropLo
  have hdone : Keeps E s₀ done := h1.storeWord.storeWord
  split
  · exact h.writeTimeIncHi
  · split
    · exact .ite h1.raise hdone
    · split
      · exact .ite hdone h1
      · exact .ite hdone.newTrigTime hdone

theorem writeBlock {m a w} (h : Keeps E s₀ s) (hE : Allows E [.fuses, .therm, .replan]) : Keeps E s₀ (s.writeBlock m a w) :=
  .ite (h.writeHostif (hE.of rfl)) <| .ite h.storeWord <| .ite h.writeMortarBlock <| .ite h.writeTime <|
  .ite (h.writeThermal (hE.of rfl)) <| .ite h.storeWord <| .ite h.writeCalib <| .ite (h.writeReplanCmd (hE.of rfl)) <|
  .ite h.writeTwinCmd <| .ite h.storeWord <| .ite h.writeParser <| .ite (.ite h.echoCmd h) <| .ite h.snapContext <|
  .ite h.storeWord <| .ite h.writeComposer <| .ite h.writeAccordBlock <| .ite h.writeCourse <| .ite h.writeTile <|
  .ite h.writeLoopWord <| .ite h.writeRepWord h.writeSillage

theorem writeWord {m a w} (h : Keeps E s₀ s) (hE : Allows E [.fuses, .therm, .replan]) : Keeps E s₀ (s.writeWord m a w) := by
  unfold State.writeWord
  split
  · exact h.holdLo
  · split
    · exact h.commitPair
    · split
      · exact h.writeRing
      · exact h.writeFault
      · exact h.writeBlock (hE.of rfl)

/-! ### Operations of `DmaBase` -/

theorem setChan {n x} (h : Keeps E s₀ s) (hE : Allows E [.dma]) : Keeps E s₀ (s.setChan n x) := h.setDma (hE.of rfl)

theorem dmaDone {n} (h : Keeps E s₀ s) : Keeps E s₀ (s.dmaDone n) := h.setEvent.signalVector.emitCode

theorem dmaErr {n} (h : Keeps E s₀ s) : Keeps E s₀ (s.dmaErr n) := h.setEvent.signalVector.emitCode.raise

theorem endDma {n result residue} (h : Keeps E s₀ s) (hE : Allows E [.dma]) : Keeps E s₀ (s.endDma n result residue) :=
  (((h.setDma (hE.of rfl)).wr).wr).wr

theorem failDma {n result residue addr} (h : Keeps E s₀ s) (hE : Allows E [.dma]) :
    Keeps E s₀ (s.failDma n result residue addr) :=
  ((h.endDma (hE.of rfl)).wrW).dmaErr

theorem badDescriptor {n residue} (h : Keeps E s₀ s) (hE : Allows E [.dma]) : Keeps E s₀ (s.badDescriptor n residue) :=
  (h.endDma (hE.of rfl)).raise

theorem refuseStart (h : Keeps E s₀ s) : Keeps E s₀ s.refuseStart := h.raise

theorem startDma {m n} (h : Keeps E s₀ s) (hE : Allows E [.dma]) : Keeps E s₀ (s.startDma m n) := by
  unfold State.startDma
  extract_lets s1
  have h1 : Keeps E s₀ s1 := h.wr.wr.setFlag.wr
  exact .ite h.refuseStart (h1.wrW.setChan (hE.of rfl))

theorem endAbort {n x} (h : Keeps E s₀ s) (hE : Allows E [.dma]) : Keeps E s₀ (s.endAbort n x) := h.endDma (hE.of rfl)

theorem abortDma {n} (h : Keeps E s₀ s) (hE : Allows E [.dma]) : Keeps E s₀ (s.abortDma n) := by
  unfold State.abortDma
  split
  · split
    · exact h
    · exact .ite h.wr (h.endAbort (hE.of rfl))
  · exact .ite h.setFlag h

theorem writeChCtrl {m n w} (h : Keeps E s₀ s) (hE : Allows E [.dma]) : Keeps E s₀ (s.writeChCtrl m n w) := by
  unfold State.writeChCtrl
  split
  · exact h.refuseStart
  · exact h.startDma (hE.of rfl)
  · exact h.abortDma (hE.of rfl)
  · exact h

theorem abortAllDma (h : Keeps E s₀ s) (hE : Allows E [.dma]) : Keeps E s₀ s.abortAllDma :=
  h.foldl fun h => h.endAbort (hE.of rfl)

theorem completeDescriptor {n d} (h : Keeps E s₀ s) (hE : Allows E [.dma]) : Keeps E s₀ (s.completeDescriptor n d) := by
  unfold State.completeDescriptor
  extract_lets s1
  have h1 : Keeps E s₀ s1 := h.bump
  split
  · exact (Keeps.ite h1.dmaDone h1).endDma (hE.of rfl)
  · exact .ite ((h1.endDma (hE.of rfl)).dmaDone) (((Keeps.ite h1.dmaDone h1).wrW).setChan (hE.of rfl))

/-! ### Operations of `Formula` -/

theorem showImage {img} (h : Keeps E s₀ s) : Keeps E s₀ (s.showImage img) := by
  unfold State.showImage
  extract_lets s1
  have h1 : Keeps E s₀ s1 := h.wr.wr
  split
  · exact .ite h1.setFlag.setFlag.setFlag h1
  · exact h

theorem loadStore {a w} (h : Keeps E s₀ s) (hE : Allows E [.fuses, .therm, .replan]) : Keeps E s₀ (s.loadStore a w) := by
  unfold State.loadStore
  extract_lets m done
  have hdone : Keeps E s₀ done := h.hidden.setWord
  exact .ite hdone (h.writeWord (hE.of rfl))

theorem loadIdentity {segs} (h : Keeps E s₀ s) : Keeps E s₀ (s.loadIdentity segs) := by
  unfold State.loadIdentity
  split
  · exact h.setFlag.wrW
  · exact h

theorem setTags {segs} (h : Keeps E s₀ s) : Keeps E s₀ (s.setTags segs) := h.hidden

theorem checkLoops (h : Keeps E s₀ s) : Keeps E s₀ s.checkLoops := h.foldl fun h => h.wr

theorem finishLoad {img segs} (h : Keeps E s₀ s) (hE : Allows E [.owners]) : Keeps E s₀ (s.finishLoad img segs) := by
  unfold State.finishLoad
  extract_lets s1 s2 d s2' s3 base
  have h1 : Keeps E s₀ s1 := h.foldl fun h => h.wr.wr
  have h2 : Keeps E s₀ s2 := h1.foldl fun h => h.foldl fun h => h.wr
  have h2' : Keeps E s₀ s2' := h2.foldl fun h => h.wr
  have h3 : Keeps E s₀ s3 := h2'.checkLoops.setTags.foldl fun h => h.wr
  have hbase : Keeps E s₀ base := h3.wr
  exact hbase.setOwners (hE.of rfl)

theorem loadAsked {segs} (h : Keeps E s₀ s) : Keeps E s₀ (s.loadAsked segs) := h.hidden

/-! ### Operations of `Power` -/

theorem dropMainSnaps (h : Keeps E s₀ s) : Keeps E s₀ s.dropMainSnaps := h.hidden

theorem dropPulses (h : Keeps E s₀ s) : Keeps E s₀ s.dropPulses := by
  unfold State.dropPulses
  extract_lets s1
  have h1 : Keeps E s₀ s1 := .ite h.emitOut h
  exact h1.foldl fun h => h.emitOut

theorem forgetMain (h : Keeps E s₀ s) (hE : Allows E [.mem, .pcie, .fuses, .dma, .credits, .replan]) :
    Keeps E s₀ s.forgetMain := by
  refine h.trans ⟨id, fun _ => ⟨.nil, nofun⟩, rfl, List.prefix_refl _, le_rfl, le_rfl, fun p => ?_⟩
  cases p with
  | mem | pcie | fuses | dma | credits | replan => exact .inl (hE _ (by decide))
  | seals => exact .inr fun _ hx => hx
  | fuseArray => exact .inr ⟨fun _ => rfl, rfl⟩
  | _ => exact .inr rfl

theorem keepSealBits (h : Keeps E s₀ s) : Keeps E s₀ s.keepSealBits := h.foldl fun h => h.setFlag

theorem coldMain (h : Keeps E s₀ s) (hE : Allows E [.mem, .pcie, .fuses, .dma, .credits, .replan]) : Keeps E s₀ s.coldMain :=
  (h.dropPulses.mapWords.dropMainSnaps.forgetMain (hE.of rfl)).keepSealBits

theorem mainOff (h : Keeps E s₀ s) (hE : Allows E [.mem, .pcie, .fuses, .dma, .credits, .replan, .power]) :
    Keeps E s₀ s.mainOff := by
  have h1 := (h.dropPulses.mapWords (f :=
    fun a w => if alwaysOnAddr a then w else coldWord a)).dropMainSnaps.forgetMain (hE.of rfl)
  exact (h1.hidden (tiles := [])).setPower (hE.of rfl)

theorem clearSealsIfCycled (h : Keeps E s₀ s) (hE : Allows E [.seals]) : Keeps E s₀ s.clearSealsIfCycled := by
  unfold State.clearSealsIfCycled
  split
  · exact .ite (h.setSeals (hE.of rfl)) h
  · exact h

theorem unpowered (h : Keeps E s₀ s)
    (hE : Allows E [.mem, .seals, .power, .pcie, .fuses, .dma, .replan, .therm, .credits, .owners]) : Keeps E s₀ s.unpowered :=
      by
  unfold State.unpowered
  extract_lets s1
  have h1 : Keeps E s₀ s1 := h.dropPulses.eraseDone (hE.of rfl)
  refine ⟨fun _ => ⟨.nil, nofun⟩, fun _ => ⟨.nil, nofun⟩, h1.pending, h1.outbox, h1.clock, h1.free, fun p => ?_⟩
  by_cases a : p = .fuseArray
  · subst a
    exact h1.same .fuseArray
  · exact .inl (hE p (by cases p <;> simp at a ⊢))

theorem completeFuses (h : Keeps E s₀ s) (hE : Allows E [.fuses, .fuseArray]) : Keeps E s₀ s.completeFuses :=
  h.setFuseArray (hE.of rfl)

theorem startRails (h : Keeps E s₀ s) (hE : Allows E [.power]) : Keeps E s₀ s.startRails := by
  unfold State.startRails
  exact .ite ((h.setPower (hE.of rfl)).bump) h

theorem alwaysOnUp {unit} (h : Keeps E s₀ s) (hE : Allows E [.power, .fuses, .fuseArray, .therm]) :
    Keeps E s₀ (s.alwaysOnUp unit) := by
  unfold State.alwaysOnUp
  extract_lets _ s1
  have h1 : Keeps E s₀ s1 := h.setPower (hE.of rfl)
  exact (((h1.completeFuses (hE.of rfl)).wr).scanRing (hE.of rfl)).startRails (hE.of rfl)

theorem enAssert (h : Keeps E s₀ s) (hE : Allows E [.seals, .power]) : Keeps E s₀ s.enAssert := by
  unfold State.enAssert
  extract_lets s1 _
  have h1 : Keeps E s₀ s1 := h.clearSealsIfCycled (hE.of rfl)
  exact .ite h ((h1.setPower (hE.of rfl)).startRails (hE.of rfl))

theorem enDeassert (h : Keeps E s₀ s) (hE : Allows E [.mem, .pcie, .fuses, .dma, .credits, .replan, .power]) :
    Keeps E s₀ s.enDeassert := by
  unfold State.enDeassert
  extract_lets s1 _
  have h1 : Keeps E s₀ s1 := .ite (h.mainOff (hE.of rfl)) h
  exact .ite h (h1.setPower (hE.of rfl))

theorem pgoodAssert (h : Keeps E s₀ s) (hE : Allows E [.power]) : Keeps E s₀ s.pgoodAssert := by
  unfold State.pgoodAssert
  exact .ite (h.setPower (hE.of rfl)) h

theorem mainRailFault (h : Keeps E s₀ s) (hE : Allows E [.mem, .pcie, .fuses, .dma, .credits, .replan, .power]) :
    Keeps E s₀ s.mainRailFault := by
  unfold State.mainRailFault
  exact .ite (((h.mainOff (hE.of rfl)).bump).raise) h

/-! ### Operations of `Cold` -/

theorem park {cause step detail index count} (h : Keeps E s₀ s) : Keeps E s₀ (s.park cause step detail index count) := by
  unfold State.park
  extract_lets s1
  have h1 : Keeps E s₀ s1 := h.wr.wr.wr.wr
  exact h1.wr.wr.bump.raise

theorem resetOutputs (h : Keeps E s₀ s) : Keeps E s₀ s.resetOutputs := h.foldl fun h => h.resetLatches

theorem coldPark {cause step detail index count} (h : Keeps E s₀ s) : Keeps E s₀ (s.coldPark cause step detail index count) :=
  h.hidden.resetOutputs.park

theorem failLoad {f step} (h : Keeps E s₀ s) : Keeps E s₀ (s.failLoad f step) := by
  unfold State.failLoad
  extract_lets s1
  have h1 : Keeps E s₀ s1 := h.wr.wr.wr
  exact h1.wr.coldPark

theorem readFlash {r} (h : Keeps E s₀ s) : Keeps E s₀ (s.readFlash r).1 := by
  unfold State.readFlash
  split
  · exact h
  · dsimp only
    exact h.bumpBy.raise

theorem noteSteps {first us} (h : Keeps E s₀ s) : Keeps E s₀ (s.noteSteps first us) := h.foldl fun h => h.wr

theorem landAll {t} (h : Keeps E s₀ s) : Keeps E s₀ (s.landAll t) := h.setTile.foldl fun h => h.landTxn

theorem edgeEverywhere (h : Keeps E s₀ s) : Keeps E s₀ s.edgeEverywhere := by
  unfold State.edgeEverywhere
  extract_lets s1 _
  have h1 : Keeps E s₀ s1 := by
    unfold s1
    refine h.foldl fun h => ?_
    extract_lets f
    have hf : Keeps E s₀ f.2 := h.freshValue
    exact hf.planeEdge
  exact h1.hidden

theorem strobeThrough {m} (h : Keeps E s₀ s) : Keeps E s₀ (s.strobeThrough m) := by
  unfold State.strobeThrough
  extract_lets s1
  have h1 : Keeps E s₀ s1 := h.issueMerged.foldl fun h => h.landAll
  exact h1.firePlane.edgeEverywhere

theorem armAll (h : Keeps E s₀ s) : Keeps E s₀ s.armAll.1 := by
  unfold State.armAll
  refine h.foldl_fst fun h => ?_
  split
  · dsimp only
    exact h.altRefused
  · dsimp only
    exact h.armRecord

/-- The records compared in step 9 are large: the state behind each step is generalised before its branches are split, so that
no comparison of two such states has to compute. -/
theorem commitStart (h : Keeps E s₀ s) : Keeps E s₀ s.commitStart := by
  have h1 : Keeps E s₀ ((s.wr F.START_STATUS.STATE 1).wr F.START_STATUS.STEP 9) := h.wr.wr
  rw [State.commitStart]
  generalize (s.wr F.START_STATUS.STATE 1).wr F.START_STATUS.STEP 9 = s1 at h1
  split
  · exact h1.coldPark
  generalize e : State.armAll _ = x
  have hx : Keeps E s₀ x.1 := e ▸ h1.setRecord.wr.wr.armAll
  dsimp only
  split
  · exact hx.coldPark
  · exact hx.wr

theorem setInit {e} {x : State × List Nat} (h : Keeps E s₀ x.1) : Keeps E s₀ (setInit x e).1 := by
  unfold Machine.setInit
  extract_lets s'
  have h' : Keeps E s₀ s' := h.setTarget
  split
  · dsimp only
    exact h.refuseTransfer
  · dsimp only
    exact .ite h'.intoAuto h'.wr

theorem setLoops {init} (h : Keeps E s₀ s) : Keeps E s₀ (s.setLoops init) := by
  unfold State.setLoops
  extract_lets x
  have hx : Keeps E s₀ x.1 := h.wr.checkLoops.foldl_fst fun h => h.setInit
  split
  · exact hx.coldPark
  · exact .ite hx.wr hx.commitStart

theorem setNulls {l vpi n freeSp} (h : Keeps E s₀ s) : Keeps E s₀ (s.setNulls l vpi n freeSp) := by
  unfold State.setNulls
  extract_lets x s1 s2
  have h1 : Keeps E s₀ s1 := h.wr.wr
  have h2 : Keeps E s₀ s2 := h1.wr.wr.setFlag
  exact h2.setFlag.wr.raise

theorem setSweep {l sweep} (h : Keeps E s₀ s) : Keeps E s₀ (s.setSweep l sweep) := h.wr.wr

theorem noteFull {l c} (h : Keeps E s₀ s) (hE : Allows E [.mem]) : Keeps E s₀ (s.noteFull l c) := by
  unfold State.noteFull
  extract_lets s1 f r base _
  have h1 : Keeps E s₀ s1 := ((h.setAgeing (hE.of rfl)).setAgeing (hE.of rfl)).setAgeing (hE.of rfl)
  have hf : Keeps E s₀ f.2 := h1.freshBytes
  have hbase : Keeps E s₀ base := hf
  split
  · exact .ite h1 hbase.hidden.derive
  · exact h

theorem charOne {c l} {x : State × List Nat} (h : Keeps E s₀ x.1) (hE : Allows E [.mem]) : Keeps E s₀ (charOne c x l).1 := by
  unfold Machine.charOne
  extract_lets f1 f2 t ch v1 v2 me s1 ends s2 predicted vpi y s3
  have hf1 : Keeps E s₀ f1.2 := h.freshValue
  have hf2 : Keeps E s₀ f2.2 := hf1.freshValue
  have h1 : Keeps E s₀ s1 := hf2.wr.noteFull (hE.of rfl)
  have h2 : Keeps E s₀ s2 := h1.wr.wr
  have hy : Keeps E s₀ y.1 := by
    unfold y
    split
    · dsimp only
      exact .ite h2.setSweep h2.setNulls
    · dsimp only
      exact h2.wr.wr
  have h3 : Keeps E s₀ s3 := hy
  dsimp only
  exact ((h3.setAgeing (hE.of rfl)).setAgeing (hE.of rfl)).setAgeing (hE.of rfl)

theorem noteChar {failed} (h : Keeps E s₀ s) : Keeps E s₀ (s.noteChar failed) := by
  unfold State.noteChar
  extract_lets s1 s2
  have h1 : Keeps E s₀ s1 := h.wr.wr.setFlag.wr
  have h2 : Keeps E s₀ s2 := h1.foldl fun h => h.setFlag
  exact .ite h2 h2.raise

theorem characterise {c init} (h : Keeps E s₀ s) (hE : Allows E [.mem]) : Keeps E s₀ (s.characterise c init) := by
  have hx : Keeps E s₀ ((List.range 4864).foldl (Machine.charOne c) ({ s with starting := none }, [])).1 :=
    h.hidden.foldl_fst fun h => h.charOne (hE.of rfl)
  unfold State.characterise
  generalize (List.range 4864).foldl (Machine.charOne c) ({ s with starting := none }, []) = x at hx ⊢
  exact .ite hx.noteChar.coldPark hx.noteChar.setLoops

theorem driveAll (h : Keeps E s₀ s) : Keeps E s₀ s.driveAll := by
  unfold State.driveAll
  refine h.foldl fun h => ?_
  extract_lets s1 _
  have h1 : Keeps E s₀ s1 := h.setFlag.setFlag
  exact h1.setTile

theorem startChar {c stand init} (h : Keeps E s₀ s) (hE : Allows E [.mem]) : Keeps E s₀ (s.startChar c stand init) := by
  unfold State.startChar
  extract_lets s1
  have h1 : Keeps E s₀ s1 := h.wr.driveAll.strobeThrough.strobeThrough
  exact .ite h1.hidden (h1.characterise (hE.of rfl))

theorem loadRule {w} (h : Keeps E s₀ s) (e : s.loadRule w = some t) : Keeps E s₀ t := by
  revert e
  unfold State.loadRule
  extract_lets r s1
  have h1 : Keeps E s₀ s1 := .ite h.readRule h
  intro e
  split at e
  · split at e
    · contradiction
    · cases e
      exact h1.setRule
  · exact Option.some.inj e ▸ h1

theorem loadWord {x y : Loading} {a w} (h : Keeps E s₀ x.1) (hE : Allows E [.fuses, .therm, .replan])
    (e : loadWord x a w = some y) : Keeps E s₀ y.1 := by
  revert e
  unfold Machine.loadWord
  intro e
  split at e
  · split at e
    · contradiction
    · cases e
      exact h.setWord
  · cases e
    exact h.setRecord
  · cases e
    exact h.writeFault
  · split at e
    · obtain ⟨t, et, rfl⟩ := Option.map_eq_some_iff.mp e
      exact h.loadRule et
    · dsimp only at e
      split at e
      · contradiction
      · cases e
        exact h.loadStore (hE.of rfl)

theorem loadRecord {type} {x : Loading × Option LoadFail} {r} (h : Keeps E s₀ x.1.1) (hE : Allows E [.fuses, .therm, .replan]) :
    Keeps E s₀ (loadRecord type x r).1.1 := by
  refine h.foldl_of (fun x : Loading × Option LoadFail => x.1.1) fun h => ?_
  split
  · exact h
  · split
    next e => exact h.loadWord (hE.of rfl) e
    · exact h

theorem applyFormula {img segs} (h : Keeps E s₀ s) (hE : Allows E [.fuses, .therm, .replan, .owners]) :
    Keeps E s₀ (s.applyFormula img segs).1.1 := by
  unfold State.applyFormula
  extract_lets s1 x
  have h1 : Keeps E s₀ s1 := h.loadIdentity.loadAsked
  have hx : Keeps E s₀ x.1.1 := h1.foldl_of (fun x : Loading × Option LoadFail => x.1.1) fun h =>
    h.foldl_of (fun x : Loading × Option LoadFail => x.1.1) fun h => h.loadRecord (hE.of rfl)
  clear_value x
  split
  · exact hx
  split
  · exact hx
  · exact hx
  · exact hx
  · exact hx.finishLoad (hE.of rfl)

theorem calOne {cal t} {x : State × List Nat} (h : Keeps E s₀ x.1) : Keeps E s₀ (calOne cal x t).1 := by
  unfold Machine.calOne
  split
  · extract_lets run n
    split
    · exact h.failCal
    · dsimp only
      exact (Keeps.ite h h.bumpBy.raise).finishCal
  · exact h.failCal

theorem loadPassport {p next} (h : Keeps E s₀ s) (hE : Allows E [.mem]) (made : ∀ {t}, Keeps E s₀ t → Keeps E s₀ (next t)) :
    Keeps E s₀ (s.loadPassport p next) := by
  unfold State.loadPassport
  extract_lets s1 s2 bad
  have h1 : Keeps E s₀ s1 := h.wr
  have h2 : Keeps E s₀ s2 := h1.setMemBytes (hE.of rfl)
  split
  · exact h1.coldPark
  split
  · exact h2.coldPark
  · exact made (h2.foldl fun h => h.derive)

theorem calibrateAll {cal coef next} (h : Keeps E s₀ s) (made : ∀ {t}, Keeps E s₀ t → Keeps E s₀ (next t)) :
    Keeps E s₀ (s.calibrateAll cal coef next) := by
  unfold State.calibrateAll
  extract_lets x
  have hx : Keeps E s₀ x.1 := h.wr.foldl_fst fun h => h.calOne
  split
  · exact hx.coldPark
  · exact made hx.setWord

theorem twinWait {cause} (h : Keeps E s₀ s) : Keeps E s₀ (s.twinWait cause) := by
  unfold State.twinWait
  exact .ite h.enterWait h

theorem applyStart {env} (h : Keeps E s₀ s) (hE : Allows E [.fuses, .therm, .replan, .owners, .mem]) :
    Keeps E s₀ (s.applyStart env) := by
  unfold State.applyStart
  extract_lets s1 r img
  have h1 : Keeps E s₀ s1 := h.wr
  have hr : Keeps E s₀ r.1 := h1.readFlash
  split
  · exact h1.coldPark
  · split
    · exact hr.coldPark
    · split
      · exact hr.failLoad
      · split
        · exact hr.failLoad
        · extract_lets x
          have hx : Keeps E s₀ x.1.1 := hr.applyFormula (hE.of rfl)
          split
          · exact hx.failLoad
          · exact hx.twinWait.calibrateAll fun h => h.loadPassport (hE.of rfl) fun h => h.startChar (hE.of rfl)

theorem beginCold {env} (h : Keeps E s₀ s) (hE : Allows E [.mem, .pcie, .fuses, .dma, .credits, .replan, .power]) :
    Keeps E s₀ (s.beginCold env) := by
  unfold State.beginCold
  extract_lets s0 _ s1 s2 s3 s4 s5
  have h0 : Keeps E s₀ s0 := h.coldMain (hE.of rfl)
  have h1 : Keeps E s₀ s1 := h0.setPower (hE.of rfl)
  have h2 : Keeps E s₀ s2 := h1.wr.wr.wr.wr.wr.bump
  have h3 : Keeps E s₀ s3 := h2.setFlag.wr.setFlag
  have h4 : Keeps E s₀ s4 := h3.setFlag.wr
  have h5 : Keeps E s₀ s5 := h4.orphans.noteSteps
  exact (Keeps.ite h5.raise h5).resetOutputs

theorem showPassport {p} (h : Keeps E s₀ s) : Keeps E s₀ (s.showPassport p) := h.hidden

theorem coldRun {env}
    (h : Keeps E s₀ s) (hE : Allows E [.mem, .pcie, .fuses, .dma, .credits, .replan, .power, .therm, .owners]) : Keeps E s₀ (s.coldRun env) := by
  unfold State.coldRun
  extract_lets r s1
  have hr : Keeps E s₀ r.1 := (h.showPassport.beginCold (hE.of rfl)).readFlash
  have h1 : Keeps E s₀ s1 := hr.showImage
  split
  · exact hr.coldPark
  · split
    · exact h1.failLoad
    · exact h1.applyStart (hE.of rfl)

theorem powerRun {env}
    (h : Keeps E s₀ s) (hE : Allows E [.power, .mem, .pcie, .fuses, .dma, .credits, .replan, .therm, .owners]) : Keeps E s₀ (s.powerRun env) := by
  unfold State.powerRun
  exact .ite ((h.setPower (hE.of rfl)).coldRun (hE.of rfl)) ((h.showPassport.beginCold (hE.of rfl)).coldPark)

theorem releaseMain {env}
    (h : Keeps E s₀ s) (hE : Allows E [.power, .mem, .pcie, .fuses, .dma, .credits, .replan, .therm, .owners]) : Keeps E s₀ (s.releaseMain env) := by
  unfold State.releaseMain
  exact .ite (h.powerRun (hE.of rfl)) h

theorem noteTrigger {cold} (h : Keeps E s₀ s) : Keeps E s₀ (s.noteTrigger cold) := h.hidden

theorem coldRst {lowNs env}
    (h : Keeps E s₀ s) (hE : Allows E [.power, .mem, .pcie, .fuses, .dma, .credits, .replan, .therm, .owners]) : Keeps E s₀ (s.coldRst lowNs env) := by
  unfold State.coldRst
  split
  · exact h
  · split
    · exact h.releaseMain (hE.of rfl)
    · split
      · exact h
      · exact .ite h.raise (h.noteTrigger.coldRun (hE.of rfl))

theorem startRefused (h : Keeps E s₀ s) : Keeps E s₀ s.startRefused := h.bump.raise

theorem cmdServe (h : Keeps E s₀ s) : Keeps E s₀ s.cmdServe := by
  unfold State.cmdServe
  exact .ite h.commitStart h.startRefused

theorem resumeChar (h : Keeps E s₀ s) (hE : Allows E [.mem]) : Keeps E s₀ s.resumeChar := by
  unfold State.resumeChar
  split
  · exact h.characterise (hE.of rfl)
  · exact h

theorem cmdAbort (h : Keeps E s₀ s) (hE : Allows E [.mem]) : Keeps E s₀ s.cmdAbort := by
  unfold State.cmdAbort
  split
  · exact .ite (h.setFlag.resumeChar (hE.of rfl)) h.wr.wr.coldPark
  · exact h

/-! ### Operations of `Ptp` -/

theorem pushTxStamp {e t} (h : Keeps E s₀ s) : Keeps E s₀ (s.pushTxStamp e t) := by
  unfold State.pushTxStamp
  extract_lets q ns _ s1
  have h1 : Keeps E s₀ s1 := h.hidden
  split
  · exact h.raise
  · exact .ite h1.emitCode h1

theorem dropPtx (h : Keeps E s₀ s) : Keeps E s₀ s.dropPtx := h.bump.raise

theorem sendPtx {e f} (h : Keeps E s₀ s) : Keeps E s₀ (s.sendPtx e f) := by
  unfold State.sendPtx
  extract_lets t s1
  have h1 : Keeps E s₀ s1 := h.sendFrame.bump
  exact .ite h1.pushTxStamp h1

theorem ptxEntry (h : Keeps E s₀ s) : Keeps E s₀ s.ptxEntry := by
  unfold State.ptxEntry
  extract_lets r at_ e
  split
  · exact h
  · split
    · exact h.dropPtx.ringPop
    · exact .ite h h.sendPtx.ringPop

theorem popTxStamp (h : Keeps E s₀ s) : Keeps E s₀ s.popTxStamp.1 := by
  unfold State.popTxStamp
  extract_lets _
  split
  · exact h
  · extract_lets s1
    have h1 : Keeps E s₀ s1 := h.hidden
    dsimp only
    exact h1.wr.wr.wrW

/-! ### Operations of `Warm` -/

theorem releaseLanes (h : Keeps E s₀ s) : Keeps E s₀ s.releaseLanes := h.foldl fun h => .ite h.laneTo h

theorem releaseDue (h : Keeps E s₀ s) : Keeps E s₀ s.releaseDue := by
  unfold State.releaseDue
  split
  · split
    · exact h.hidden
    · exact .ite h.hidden.releaseLanes h
  · exact h

theorem loadRest (h : Keeps E s₀ s) : Keeps E s₀ s.loadRest := by
  unfold State.loadRest
  extract_lets s1
  have h1 : Keeps E s₀ s1 := h.checkRecord
  exact h1.issueMerged.foldl fun h => h.landAll

theorem beginService (h : Keeps E s₀ s) : Keeps E s₀ s.beginService := by
  unfold State.beginService
  extract_lets s1 fresh _ p s2
  have h1 : Keeps E s₀ s1 := h.loadRest
  have h2 : Keeps E s₀ s2 := h1.hidden
  exact h2.wr.wr.setFlag.firePlane

theorem serviceStart (h : Keeps E s₀ s) : Keeps E s₀ s.serviceStart := by
  unfold State.serviceStart
  exact .ite h.beginService h

theorem warmResume (h : Keeps E s₀ s) : Keeps E s₀ s.warmResume := by
  unfold State.warmResume
  exact .ite h.beginService h

theorem triggerWarm (h : Keeps E s₀ s) : Keeps E s₀ s.triggerWarm := by
  unfold State.triggerWarm
  extract_lets s1
  have h1 : Keeps E s₀ s1 := h.noteTrigger.wr.wr.wr
  exact h1.setFlag.bump

theorem warmRst {lowNs} (h : Keeps E s₀ s) : Keeps E s₀ (s.warmRst lowNs) := by
  unfold State.warmRst
  split
  · exact h
  · split
    · exact h.triggerWarm
    · exact h.triggerWarm
    · exact h.raise
    · exact h.startRefused
    · exact h.startRefused
    · exact h

theorem cmdWarm {m} (h : Keeps E s₀ s) : Keeps E s₀ (s.cmdWarm m) := by
  unfold State.cmdWarm
  split
  · exact h
  · exact .ite h.triggerWarm h.startRefused

theorem cmdCold {m act} (h : Keeps E s₀ s) (made : ∀ {t}, Keeps E s₀ t → Keeps E s₀ (act t)) : Keeps E s₀ (s.cmdCold m act) :=
  .ite h <| .ite (made h.noteTrigger) h.startRefused

theorem startCmd {m act} (h : Keeps E s₀ s) (made : ∀ {t}, Keeps E s₀ t → Keeps E s₀ (act t)) : Keeps E s₀ (s.startCmd m act) :=
  h.gate (h.onMain (made h))

theorem writeStartCmd {m w} (h : Keeps E s₀ s) (hE : Allows E [.mem, .pcie, .fuses, .dma, .credits, .replan, .power]) :
    Keeps E s₀ (s.writeStartCmd m w) := by
  unfold State.writeStartCmd
  split
  · refine h.cmdCold fun h => ?_
    extract_lets s1 _
    have h1 : Keeps E s₀ s1 := h.coldMain (hE.of rfl)
    exact h1.setPower (hE.of rfl)
  · split
    · exact h.cmdWarm
    · split
      · exact h.cmdServe
      · exact .ite (h.cmdAbort (hE.of rfl)) h

theorem holdLoops (h : Keeps E s₀ s) : Keeps E s₀ s.holdLoops := by
  unfold State.holdLoops
  extract_lets s1 s2 held
  have h1 : Keeps E s₀ s1 := h.hidden
  have h2 : Keeps E s₀ s2 := h1.foldl fun h => h.settleCourse
  exact h2.foldl fun h => h.takeNow

theorem warmTile {t} (h : Keeps E s₀ s) : Keeps E s₀ (s.warmTile t) := by
  unfold State.warmTile
  extract_lets s1 x
  have h1 : Keeps E s₀ s1 := h.landAll.abandonCal.revertMirror
  exact h1.setTile

theorem dropUnsent (h : Keeps E s₀ s) : Keeps E s₀ s.dropUnsent := by
  unfold State.dropUnsent
  exact .ite (h.foldl fun h => h.dropPtx.ringPop) h

theorem warmPlane (h : Keeps E s₀ s) : Keeps E s₀ s.warmPlane := by
  unfold State.warmPlane
  extract_lets s1 s2 _ p _ _ s3
  have h1 : Keeps E s₀ s1 := h.discardUpdates
  have h2 : Keeps E s₀ s2 := .ite h1.altRefused h1
  have h3 : Keeps E s₀ s3 := h2.hidden
  exact h3.setBank.setBank.twinWait

theorem warmStop (h : Keeps E s₀ s) (hE : Allows E [.dma, .fuses, .replan]) : Keeps E s₀ s.warmStop := by
  unfold State.warmStop
  extract_lets s1
  have h1 : Keeps E s₀ s1 := ((h.foldl fun h => .ite h.laneTo h).dropUnsent).abortAllDma (hE.of rfl)
  refine h1.dropMainSnaps.trans ⟨id, id, rfl, List.prefix_refl _, le_rfl, le_rfl, fun p => ?_⟩
  cases p with
  | fuses | replan => exact .inl (hE _ (by decide))
  | seals => exact .inr fun _ hx => hx
  | fuseArray => exact .inr ⟨fun _ => rfl, rfl⟩
  | _ => exact .inr rfl

theorem groupsEverywhere (h : Keeps E s₀ s) : Keeps E s₀ s.groupsEverywhere := by
  unfold State.groupsEverywhere
  extract_lets gs s1 _
  have h1 : Keeps E s₀ s1 := h.foldl fun h => h.foldl fun h => h.groupEdge
  exact h1.hidden

theorem lastStrobe (h : Keeps E s₀ s) : Keeps E s₀ s.lastStrobe := by
  unfold State.lastStrobe
  extract_lets s1 _
  have h1 : Keeps E s₀ s1 := .ite h.loadRest.firePlane.edgeEverywhere.groupsEverywhere h
  exact h1.hidden

theorem warmEntry {env} (h : Keeps E s₀ s) (hE : Allows E [.dma, .fuses, .replan]) : Keeps E s₀ (s.warmEntry env) := by
  unfold State.warmEntry
  extract_lets s1 s2
  have h1 : Keeps E s₀ s1 := h.holdLoops.foldl fun h => h.warmTile
  have h2 : Keeps E s₀ s2 := ((h1.warmPlane.warmStop (hE.of rfl)).mapWords).setFlag
  exact h2.orphans.noteSteps.lastStrobe

theorem warmPark {cause step index count} (h : Keeps E s₀ s) : Keeps E s₀ (s.warmPark cause step index count) := h.wr.park

theorem releaseCourse {c} (h : Keeps E s₀ s) : Keeps E s₀ (s.releaseCourse c) := by
  unfold State.releaseCourse
  extract_lets s1
  have h1 : Keeps E s₀ s1 := h.hidden
  exact h1.foldl fun h => h.intoAuto

theorem warmReenter {env} (h : Keeps E s₀ s) : Keeps E s₀ (s.warmReenter env) := by
  unfold State.warmReenter
  extract_lets s1 down lost s2
  have h1 : Keeps E s₀ s1 := h.wr
  have h2 : Keeps E s₀ s2 := h1.foldl fun h => h.linkTrained
  split
  · exact h2.warmPark
  · exact (h2.foldl fun h => h.releaseCourse).wr

theorem retentionFault {cause} (h : Keeps E s₀ s) : Keeps E s₀ (s.retentionFault cause) := by
  unfold State.retentionFault
  split
  · exact h.raise
  · exact h.raise
  · exact h

theorem warmCheck {env} (h : Keeps E s₀ s) : Keeps E s₀ (s.warmCheck env) := by
  have h1 : Keeps E s₀ (s.wr F.START_STATUS.STEP 3) := h.wr
  rw [State.warmCheck]
  split
  · exact h1.retentionFault.setFlag.warmPark
  · exact h1.setFlag.warmReenter

theorem warmRun {env} (h : Keeps E s₀ s) (hE : Allows E [.dma, .fuses, .replan]) : Keeps E s₀ (s.warmRun env) := by
  unfold State.warmRun
  extract_lets r img
  have hr : Keeps E s₀ r.1 := ((h.warmEntry (hE.of rfl)).wr).readFlash
  split
  · exact hr.warmPark
  · exact .ite hr.warmPark hr.warmCheck

theorem tick (h : Keeps E s₀ s) (hE : Allows E [.seals, .mem]) : Keeps E s₀ s.tick := by
  unfold State.tick
  extract_lets s1
  have hc := h.newCycle (f := []) (Nat.le_add_right s.clock 4)
  have hm := hc.onMain hc.tickCounter
  have h1 : Keeps E s₀ s1 := hm.onVin hm.takeMortar
  exact ((h1.onMain (h1.resumeChar (hE.of rfl)).releaseDue).clearSealsIfCycled (hE.of rfl)).raiseForced

/-! ### Operations of `Bus` -/

theorem snapHi {m a} (h : Keeps E s₀ s) : Keeps E s₀ (s.snapHi m a) := by
  unfold State.snapHi
  extract_lets _
  split
  · exact h.hidden
  · exact h

theorem clearRc {a} (h : Keeps E s₀ s) : Keeps E s₀ (s.clearRc a) := by
  unfold State.clearRc
  exact .ite h h.setWord

theorem readWord {m a} (h : Keeps E s₀ s) : Keeps E s₀ (s.readWord m a).2 := by
  unfold State.readWord
  extract_lets f r
  have hf : Keeps E s₀ f.2 := h.freshValue
  have hr : Keeps E s₀ r.1 := h.popTxStamp
  split
  · exact hf
  · split
    · exact hr
    · split
      · dsimp only
        exact h.snapTime
      · split
        · dsimp only
          exact h.snapPps
        · split
          · dsimp only
            exact h.snapHi.clearRc
          · split
            · exact h
            · dsimp only
              exact h.clearRc

theorem busRead {m a} (h : Keeps E s₀ s) : Keeps E s₀ (s.busRead m a).2 := by
  unfold State.busRead
  split
  · exact h.readWord
  · dsimp only
    exact h.reportInsecure
  · exact h

theorem refuseBus (h : Keeps E s₀ s) : Keeps E s₀ s.refuseBus := h.bump.raise

theorem writeRemap {m w} (h : Keeps E s₀ s) : Keeps E s₀ (s.writeRemap m w) := by
  unfold State.writeRemap
  split
  · exact h.setFlag
  · exact h.setFlag
  · exact h.refuseBus

theorem writeChIrq {n w} (h : Keeps E s₀ s) : Keeps E s₀ (s.writeChIrq n w) := h.storeWord.signalVector

theorem writeAny {m a w} (h : Keeps E s₀ s) (hE : Allows E [.mem, .pcie, .fuses, .dma, .credits, .replan, .power, .therm]) :
    Keeps E s₀ (s.writeAny m a w) := by
  unfold State.writeAny
  split
  · exact h.onMain (h.writeStartCmd (hE.of rfl))
  · split
    · exact h.writeRemap
    · split
      · exact h.writeChCtrl (hE.of rfl)
      · exact .ite h.writeChIrq (h.writeWord (hE.of rfl))

theorem writeAllowed {m a w} (h : Keeps E s₀ s) (hE : Allows E [.mem, .pcie, .fuses, .dma, .credits, .replan, .power, .therm]) :
    Keeps E s₀ (s.writeAllowed m a w) := by
  unfold State.writeAllowed
  exact .ite h (h.reportFx.writeAny (hE.of rfl))

theorem busWrite {m a w} (h : Keeps E s₀ s) (hE : Allows E [.mem, .pcie, .fuses, .dma, .credits, .replan, .power, .therm]) :
    Keeps E s₀ (s.busWrite m a w) :=
  h.gate (h.writeAllowed (hE.of rfl))

theorem readOut {m a} (h : Keeps E s₀ s) : Keeps E s₀ (s.readOut m a) := by
  unfold State.readOut
  extract_lets r
  have hr : Keeps E s₀ r.2 := h.busRead
  exact .ite hr.emitOut h

theorem regTransaction {m a write crcOk}
    (h : Keeps E s₀ s) (hE : Allows E [.mem, .pcie, .fuses, .dma, .credits, .replan, .power, .therm]) : Keeps E s₀ (s.regTransaction m a write crcOk) := by
  unfold State.regTransaction
  extract_lets f
  have hf : Keeps E s₀ f.2 := h.freshValue
  split
  · exact h.gate (.ite h.linkCrc h)
  · split
    · exact (Keeps.ite hf.linkCrc hf).emitOut
    · exact h.readOut
  · exact h.busWrite (hE.of rfl)
  · exact h.readOut

theorem memWriteBytes {m bs} (h : Keeps E s₀ s) (hE : Allows E [.mem]) : Keeps E s₀ (s.memWriteBytes m bs) := by
  unfold State.memWriteBytes
  extract_lets barred s1
  have h1 : Keeps E s₀ s1 := h.foldl fun h => h.setMemByte (hE.of rfl)
  exact .ite h1.refuseBus h1

theorem memWrite {m off bs} (h : Keeps E s₀ s) (hE : Allows E [.mem]) : Keeps E s₀ (s.memWrite m off bs) :=
  h.memWriteBytes (hE.of rfl)

/-! ### Operations of `Fabric` -/

theorem decodeError {r} (h : Keeps E s₀ s) : Keeps E s₀ (s.decodeError r) := by
  unfold State.decodeError
  extract_lets s1
  have h1 : Keeps E s₀ s1 := h.wr.setFlag.wrW
  exact h1.bump.raise.emitOut

theorem setCredit {t i v} (h : Keeps E s₀ s) (hE : Allows E [.credits]) : Keeps E s₀ (s.setCredit t i v) :=
  h.setCredits (hE.of rfl)

theorem arbitrate {t reqs} (h : Keeps E s₀ s) (hE : Allows E [.credits]) : Keeps E s₀ (s.arbitrate t reqs).1 := by
  unfold State.arbitrate
  extract_lets w total s1
  have h1 : Keeps E s₀ s1 := h.foldl fun h => h.setCredit (hE.of rfl)
  split
  · extract_lets s2
    have h2 : Keeps E s₀ s2 := h1.setCredit (hE.of rfl)
    dsimp only
    exact h2.wr.bump
  · exact h1

theorem readWords {m addrs} (h : Keeps E s₀ s) : Keeps E s₀ (s.readWords m addrs).2 := by
  unfold State.readWords
  refine h.foldl_snd fun h => ?_
  extract_lets r
  have hr : Keeps E s₀ r.2 := h.busRead
  exact hr

theorem writeWords {m a bs} (h : Keeps E s₀ s) (hE : Allows E [.mem, .pcie, .fuses, .dma, .credits, .replan, .power, .therm]) :
    Keeps E s₀ (s.writeWords m a bs) :=
  h.foldl fun h => h.busWrite (hE.of rfl)

theorem bootAccess {r} (h : Keeps E s₀ s) (hE : Allows E [.mem]) : Keeps E s₀ (s.bootAccess r) := by
  unfold State.bootAccess
  split
  · exact .ite (h.memWrite (hE.of rfl)) h.emitOut
  · exact .ite h.refuseBus h.emitOut

theorem performBurst {t r} (h : Keeps E s₀ s) (hE : Allows E [.mem, .pcie, .fuses, .dma, .credits, .replan, .power, .therm]) :
    Keeps E s₀ (s.performBurst t r) := by
  unfold State.performBurst
  extract_lets a x
  have hx : Keeps E s₀ x.2 := h.readWords
  split
  · exact h.emitOut
  · split
    · exact h.bootAccess (hE.of rfl)
    · exact .ite (h.writeWords (hE.of rfl)) hx.emitOut
    · exact .ite (h.writeWords (hE.of rfl)) hx.emitOut
    · exact .ite (h.writeWords (hE.of rfl)) hx.emitOut
    · exact .ite h.emitOut h.emitOut
    · exact h.emitOut
    · exact .ite (h.memWrite (hE.of rfl)) h.emitOut

theorem busRequest {reqs} (h : Keeps E s₀ s) (hE : Allows E [.credits, .mem, .pcie, .fuses, .dma, .replan, .power, .therm]) :
    Keeps E s₀ (s.busRequest reqs) := by
  unfold State.busRequest
  extract_lets s1
  have h1 : Keeps E s₀ s1 := h.foldl fun h => h.decodeError
  split
  · exact h1
  · extract_lets here x
    have hx : Keeps E s₀ x.1 := h1.arbitrate (hE.of rfl)
    split
    · split
      · exact hx.performBurst (hE.of rfl)
      · exact hx
    · exact hx

/-! ### Operations of `Dma` -/

theorem descriptorFetched {n error bytes} (h : Keeps E s₀ s) (hE : Allows E [.dma]) :
    Keeps E s₀ (s.descriptorFetched n error bytes) := by
  unfold State.descriptorFetched
  extract_lets aborting
  split
  · split
    · split
      · exact .ite (h.failDma (hE.of rfl)) (h.endDma (hE.of rfl))
      · exact h.badDescriptor (hE.of rfl)
    · split
      · exact h.endDma (hE.of rfl)
      · exact .ite (h.setChan (hE.of rfl)) (h.badDescriptor (hE.of rfl))
  · exact h

theorem sourceBytes {m d i k given} (h : Keeps E s₀ s) : Keeps E s₀ (s.sourceBytes m d i k given).2 := by
  unfold State.sourceBytes
  extract_lets x
  have hx : Keeps E s₀ x.2 := h.readWords
  split
  · exact h
  · exact h
  · exact h
  · exact h
  · exact hx

theorem putBytes {m d i bs} (h : Keeps E s₀ s) (hE : Allows E [.mem, .pcie, .fuses, .dma, .credits, .replan, .power, .therm]) :
    Keeps E s₀ (s.putBytes m d i bs) := by
  unfold State.putBytes
  split
  · exact .ite (h.foldl fun h => h.emitOut) h.emitOut
  · exact h.memWriteBytes (hE.of rfl)
  · exact h.memWriteBytes (hE.of rfl)
  · exact h.foldl fun h => h.busWrite (hE.of rfl)

theorem issueBeats {n d x new given}
    (h : Keeps E s₀ s) (hE : Allows E [.mem, .pcie, .fuses, .dma, .credits, .replan, .power, .therm]) : Keeps E s₀ (s.issueBeats n d x new given) := by
  unfold State.issueBeats
  extract_lets m b t
  have hb : Keeps E s₀ b.2 := h.sourceBytes
  have ht : Keeps E s₀ t := hb.putBytes (hE.of rfl)
  split
  · exact h
  · exact .ite (ht.setChan (hE.of rfl)) ht

theorem undefineFrom {n d i} (h : Keeps E s₀ s) (hE : Allows E [.mem, .pcie, .fuses, .dma, .credits, .replan, .power, .therm]) :
    Keeps E s₀ (s.undefineFrom n d i) := by
  unfold State.undefineFrom
  extract_lets k f
  have hf : Keeps E s₀ f.2 := h.freshBytes
  split
  · exact hf.putBytes (hE.of rfl)
  · exact hf.putBytes (hE.of rfl)
  · exact h
  · refine h.foldl fun h => ?_
    extract_lets f'
    have hf' : Keeps E s₀ f'.2 := h.freshValue
    exact .ite (hf'.busWrite (hE.of rfl)) hf'

theorem beatError {n d issued i source}
    (h : Keeps E s₀ s) (hE : Allows E [.mem, .pcie, .fuses, .dma, .credits, .replan, .power, .therm]) : Keeps E s₀ (s.beatError n d issued i source) := by
  unfold State.beatError
  extract_lets b s1
  have h1 : Keeps E s₀ s1 := h.undefineFrom (hE.of rfl)
  split
  · exact h1.failDma (hE.of rfl)
  · split
    · exact h1.failDma (hE.of rfl)
    · exact .ite (h1.failDma (hE.of rfl)) (h1.failDma (hE.of rfl))

theorem confirmBytes {n d x k} (h : Keeps E s₀ s) (hE : Allows E [.dma]) : Keeps E s₀ (s.confirmBytes n d x k) := by
  unfold State.confirmBytes
  extract_lets done s1
  have h1 : Keeps E s₀ s1 := h.bumpBy.setChan (hE.of rfl)
  split
  · exact h
  · split
    · exact h1.completeDescriptor (hE.of rfl)
    · exact .ite (h1.endAbort (hE.of rfl)) h1

theorem flushReturns {n d x} (h : Keeps E s₀ s) (hE : Allows E [.dma]) : Keeps E s₀ (s.flushReturns n d x) := by
  unfold State.flushReturns
  exact .ite (h.bumpBy.completeDescriptor (hE.of rfl)) h

theorem dmaResponse {n r} (h : Keeps E s₀ s) (hE : Allows E [.mem, .pcie, .fuses, .dma, .credits, .replan, .power, .therm]) :
    Keeps E s₀ (s.dmaResponse n r) := by
  unfold State.dmaResponse
  split
  · extract_lets new s1
    have h1 : Keeps E s₀ s1 := h.issueBeats (hE.of rfl)
    split
    · exact h1.confirmBytes (hE.of rfl)
    · exact h1.flushReturns (hE.of rfl)
    · exact .ite (h1.beatError (hE.of rfl)) h1
    · exact h1
  · exact h

theorem fetchFails {n} (h : Keeps E s₀ s) (hE : Allows E [.dma]) : Keeps E s₀ (s.fetchFails n) :=
  h.descriptorFetched (hE.of rfl)

theorem hostError {n i} (h : Keeps E s₀ s) (hE : Allows E [.mem, .power, .pcie, .fuses, .dma, .replan, .therm, .credits])
    (e : s.hostError n i = some t) : Keeps E s₀ t := by
  unfold State.hostError at e
  split at e
  · split at e
    · cases e
      exact h.fetchFails (hE.of rfl)
    · contradiction
  · split at e
    · cases e
      exact h.beatError (hE.of rfl)
    · split at e
      · cases e
        exact h.beatError (hE.of rfl)
      · contradiction
  · contradiction

theorem completionTimeout {n offset} (h : Keeps E s₀ s)
    (hE : Allows E [.mem, .power, .pcie, .fuses, .dma, .replan, .therm, .credits]) : Keeps E s₀
      (s.completionTimeout n offset) := by
  unfold State.completionTimeout
  split
  next e => exact (h.hostError hE e).aerError (hE.of rfl)
  · exact h

theorem resetChannel {n} (h : Keeps E s₀ s) (hE : Allows E [.mem, .power, .pcie, .fuses, .dma, .replan, .therm, .credits]) :
    Keeps E s₀ (s.resetChannel n) := by
  unfold State.resetChannel
  split
  · exact h
  split
  · exact h.endAbort (hE.of rfl)
  split
  next e => exact h.hostError hE e
  · exact .ite (h.beatError (hE.of rfl)) h
  · exact h

/-! ### Operations of `Pmbus` -/

theorem raiseAt {run dwell src} (h : Keeps E s₀ s) : Keeps E s₀ (s.raiseAt run dwell src) := by
  unfold State.raiseAt
  exact .ite h.raise h

theorem mirrorStatus (h : Keeps E s₀ s) : Keeps E s₀ s.mirrorStatus := h.hidden

theorem countEnergy (h : Keeps E s₀ s) (hE : Allows E [.therm]) : Keeps E s₀ s.countEnergy := (h.setTherm (hE.of rfl)).bumpBy

theorem updateTelemetry {vin iin pin ps} (h : Keeps E s₀ s) (hE : Allows E [.therm]) :
    Keeps E s₀ (s.updateTelemetry vin iin pin ps) := by
  unfold State.updateTelemetry
  extract_lets s1 _ s2 s3 s4 _
  have h1 : Keeps E s₀ s1 := h.wr.wr.wr.wrS
  have h2 : Keeps E s₀ s2 := h1.setTherm (hE.of rfl)
  have h3 : Keeps E s₀ s3 := h2.raiseAt.raiseAt.raiseAt
  have h4 : Keeps E s₀ s4 := .ite h3.raise h3
  exact ((h4.setTherm (hE.of rfl)).countEnergy (hE.of rfl)).mirrorStatus

theorem transaction {act} (h : Keeps E s₀ s) (made : ∀ {t}, Keeps E s₀ t → Keeps E s₀ (act t)) :
    Keeps E s₀ (s.transaction act) :=
  .ite (made h.bump) h

theorem answer {bytes} (h : Keeps E s₀ s) : Keeps E s₀ (s.answer bytes) := h.emitOut

theorem pecError (h : Keeps E s₀ s) : Keeps E s₀ s.pecError := h.bump.raise

theorem pmbusWrite {pec act} (h : Keeps E s₀ s) (made : ∀ {t}, Keeps E s₀ t → Keeps E s₀ (act t)) :
    Keeps E s₀ (s.pmbusWrite pec act) :=
  .ite h.hidden.pecError (made h)

theorem clearStatus (h : Keeps E s₀ s) : Keeps E s₀ s.clearStatus := h.hidden

theorem answerLinear {num den} (h : Keeps E s₀ s) : Keeps E s₀ (s.answerLinear num den) := h.answer

theorem answerBlock {bytes} (h : Keeps E s₀ s) : Keeps E s₀ (s.answerBlock bytes) := h.answer

theorem invalidCommand (h : Keeps E s₀ s) : Keeps E s₀ s.invalidCommand := h.hidden.raise

/-! ### Operations of `Window` -/

theorem winOutcome {v} (h : Keeps E s₀ s) : Keeps E s₀ (s.winOutcome v) := h.wr

theorem windowWrite {pec act} (h : Keeps E s₀ s) (made : ∀ {t}, Keeps E s₀ t → Keeps E s₀ (act t)) :
    Keeps E s₀ (s.windowWrite pec act) :=
  .ite (made h) h.winOutcome.pecError

theorem winFormat (h : Keeps E s₀ s) : Keeps E s₀ s.winFormat := h.winOutcome.raise

theorem noteDown {x} (h : Keeps E s₀ s) : Keeps E s₀ (s.noteDown x) := by
  unfold State.noteDown
  exact .ite h.raise h

theorem winStep (h : Keeps E s₀ s) : Keeps E s₀ s.winStep := h.wr

theorem winWriteWord {w} {x : State × Nat}
    (h : Keeps E s₀ x.1) (hE : Allows E [.mem, .pcie, .fuses, .dma, .credits, .replan, .power, .therm]) : Keeps E s₀ (State.winWriteWord x w).1 :=
  ((h.busWrite (hE.of rfl)).noteDown).winStep

theorem winWrite {bytes} (h : Keeps E s₀ s) (hE : Allows E [.mem, .pcie, .fuses, .dma, .credits, .replan, .power, .therm]) :
    Keeps E s₀ (s.winWrite bytes) := by
  unfold State.winWrite
  extract_lets n x
  have hx : Keeps E s₀ x.1 := h.foldl_fst fun h => h.winWriteWord (hE.of rfl)
  exact .ite h.winFormat hx.winOutcome

theorem winReadWord {x : List Word × State × Nat} (h : Keeps E s₀ x.2.1) : Keeps E s₀ (State.winReadWord x).2.1 := by
  unfold State.winReadWord
  extract_lets s' a access r
  have h' : Keeps E s₀ s' := h
  have hr : Keeps E s₀ r.2 := h'.busRead
  dsimp only
  exact hr.noteDown.winStep

theorem answerWindow {bytes} (h : Keeps E s₀ s) : Keeps E s₀ (s.answerWindow bytes) := h.hidden.answer

theorem winRead (h : Keeps E s₀ s) :
    Keeps E s₀ s.winRead := by
  unfold State.winRead
  extract_lets n x
  have hx : Keeps E s₀ x.2.1 := h.foldl_of (fun x : List Word × State × Nat => x.2.1) fun h => h.winReadWord
  exact .ite hx.winOutcome.answerWindow h.winFormat.answerWindow

theorem setWinAddr {bytes} (h : Keeps E s₀ s) : Keeps E s₀ (s.setWinAddr bytes) := by
  unfold State.setWinAddr
  exact .ite h.winFormat h.wr

theorem setWinCount {b} (h : Keeps E s₀ s) : Keeps E s₀ (s.setWinCount b) := by
  unfold State.setWinCount
  exact .ite h.winFormat h.wr

theorem dropSnapsOf {m} (h : Keeps E s₀ s) : Keeps E s₀ (s.dropSnapsOf m) := h.hidden

theorem sbTimeout {orphan} (h : Keeps E s₀ s) : Keeps E s₀ (s.sbTimeout orphan) := by
  unfold State.sbTimeout
  extract_lets s1
  have h1 : Keeps E s₀ s1 := h.dropSnapsOf.bump.raise
  exact h1.onMain h1.orphans

/-! ### Operations of `Pcie` -/

theorem unsupported (h : Keeps E s₀ s) (hE : Allows E [.pcie]) : Keeps E s₀ s.unsupported := h.emitOut.aerError (hE.of rfl)

theorem configure {c} (h : Keeps E s₀ s) (hE : Allows E [.pcie]) : Keeps E s₀ (s.configure c) :=
  (h.setPcie (hE.of rfl)).flushVectors

theorem barRequest {cfg r act} (h : Keeps E s₀ s) (hE : Allows E [.pcie])
    (made : ∀ {t}, Keeps E s₀ t → Keeps E s₀ (act t)) : Keeps E s₀ (s.barRequest cfg r act) := by
  unfold State.barRequest
  extract_lets s1
  have h1 : Keeps E s₀ s1 := h.configure (hE.of rfl)
  exact .ite (h1.unsupported (hE.of rfl)) (made h1)

theorem bar0Write {r} (h : Keeps E s₀ s) (hE : Allows E [.mem, .pcie, .fuses, .dma, .credits, .replan, .power, .therm]) :
    Keeps E s₀ (s.bar0Write r) := by
  unfold State.bar0Write
  exact .ite h.bump.raise (h.foldl fun h => h.busWrite (hE.of rfl))

theorem bar0Read {r} (h : Keeps E s₀ s) : Keeps E s₀ (s.bar0Read r) := by
  unfold State.bar0Read
  extract_lets x
  have hx : Keeps E s₀ x.2 := h.readWords
  exact hx.emitOut

theorem bar2Read {r} (h : Keeps E s₀ s) : Keeps E s₀ (s.bar2Read r) := h.emitOut

theorem hostReset {flr orphan}
    (h : Keeps E s₀ s) (hE : Allows E [.pcie, .mem, .power, .fuses, .dma, .replan, .therm, .credits]) : Keeps E s₀ (s.hostReset flr orphan) := by
  unfold State.hostReset
  extract_lets base _ s1 s2 s3
  have hbase : Keeps E s₀ base := h.mapWords
  have h1 : Keeps E s₀ s1 := hbase.setPcie (hE.of rfl)
  have h2 : Keeps E s₀ s2 := h1.dropSnapsOf.releaseSems.foldl fun h => h.resetChannel (hE.of rfl)
  have h3 : Keeps E s₀ s3 := h2.orphans
  exact .ite h3.bump.raise h3.bump.raise

/-! ### Operations of `SlowPath` -/

theorem noteEchoAnswer {n} (h : Keeps E s₀ s) : Keeps E s₀ (s.noteEchoAnswer n) := h.hidden

theorem sendAnswer {n a} (h : Keeps E s₀ s) : Keeps E s₀ (s.sendAnswer n a) := by
  unfold State.sendAnswer
  extract_lets r
  have hr : Keeps E s₀ r.2 := by
    unfold r
    split
    · exact h.ipv4
    · exact h.ipv6
  exact .ite h.sendEthernet hr.sendEthernet

theorem serveSlow {x} (h : Keeps E s₀ s) (hE : Allows E [.mem]) : Keeps E s₀ (s.serveSlow x) := by
  unfold State.serveSlow
  extract_lets n
  split
  · extract_lets s1
    have h1 : Keeps E s₀ s1 := .ite h.noteEchoAnswer h
    exact .ite (h.toRing (hE.of rfl)) h1.bump.sendAnswer
  · exact h.toRing (hE.of rfl)

theorem slowPath (h : Keeps E s₀ s) (hE : Allows E [.mem]) : Keeps E s₀ s.slowPath := by
  unfold State.slowPath
  extract_lets _
  split
  · exact h
  · extract_lets s1
    have h1 : Keeps E s₀ s1 := h.hidden
    exact h1.serveSlow (hE.of rfl)

end Sys2Proof.Machine.Keeps

namespace Sys2Proof.Machine

/-! ## What each command may touch

The classes of commands of `Obligations.StateChangesOnlyByItsCommands`, as one function, and the frame they give for every
command at once. -/

/-- Commands that drop the SEAL latches: the supplies' own, and the tick at which the main side has been off long enough. -/
def dropsSeals : Instr → Bool
  | .vinLoss | .enAssert | .timeTick => true
  | _ => false

/-- Commands that program fuses, or complete what an interrupted programming left. -/
def programsFuses : Instr → Bool
  | .fuseProgramDone .. | .alwaysOnPowerUp .. => true
  | _ => false

/-- Whether command `c` may change part `p`. -/
def touches (c : Instr) : Part → Bool
  | .mem => reachesAll c || storesMemory c
  | .seals => dropsSeals c
  | .power => reachesAll c || switchesPower c
  | .pcie => reachesAll c || configuresPcie c
  | .fuses => reachesAll c || handlesFuses c
  | .fuseArray => programsFuses c
  | .dma => reachesAll c || drivesDma c
  | .replan => reachesAll c || drivesReplan c
  | .therm => reachesAll c || supervisesHeat c
  | .credits => reachesAll c
  | .owners => reachesAll c

/-- The parts that `c` may change, as a predicate. -/
def Touched (c : Instr) (p : Part) : Prop := touches c p = true

theorem Allows.touched {c : Instr} {l : List Part} (h : l.all (touches c) = true) : Allows (Touched c) l :=
  fun p hp => List.all_eq_true.mp h p hp

/-- Command `c` answers `o`: a next state, with every part that `c` may not change as it was. -/
def Answers (c : Instr) (s : State) (o : Host.Outcome State Fault Refusal) : Prop :=
  ∃ t, o = .next t ∧ Keeps (Touched c) s t

theorem Answers.next {c : Instr} {s t : State} (h : Keeps (Touched c) s t) : Answers c s (.next t) := ⟨t, rfl, h⟩

/-- Every command answers a next state, and keeps what it may not change. -/
theorem exec_keeps (c : Instr) (s : State) : Answers c s (exec c s) := by
  have h : Keeps (Touched c) s s := .refl _ s
  cases c with
  | alwaysOnPowerUp => exact .next (.ite h (h.alwaysOnUp (.touched rfl)))
  | vinLoss => exact .next (h.unpowered (.touched rfl))
  | enAssert => exact .next (h.enAssert (.touched rfl))
  | enDeassert => exact .next (h.enDeassert (.touched rfl))
  | enGlitch => exact .next h
  | pgoodAssert => exact .next (h.pgoodAssert (.touched rfl))
  | pgoodDeassert => exact .next (h.setPower (.touched rfl))
  | mainResetRelease => exact .next (h.releaseMain (.touched rfl))
  | coldRstRelease => exact .next (h.coldRst (.touched rfl))
  | warmRstAssert => exact .next (h.onMain h.warmRst)
  | startCmdCold => exact .next (h.startCmd fun h => (h.cmdCold fun h => (h.coldRun (.touched rfl))))
  | startCmdWarm => exact .next (h.startCmd fun h => h.cmdWarm)
  | startCmdServe => exact .next (h.startCmd fun h => h.cmdServe)
  | startCmdAbort => exact .next (h.startCmd fun h => (h.cmdAbort (.touched rfl)))
  | warmStart => exact .next (h.onMain (.ite (h.warmRun (.touched rfl)) h))
  | warmResume => exact .next (h.onMain h.warmResume)
  | serviceStart => exact .next (h.onMain h.serviceStart)
  | mainRailFault => exact .next (h.mainRailFault (.touched rfl))
  | driveRailGood =>
    refine .next (.ite ?_ h)
    exact (h.setPower (.touched rfl)).foldl fun h => h.resetLatches
  | driveRailFail => exact .next ((h.setPower (.touched rfl)).foldl fun h => h.abandonCal.raise)
  | refclkCoreLoss => exact .next ((h.setPower (.touched rfl)).onMain (h.setPower (.touched rfl)).setFlag.raise)
  | timeTick => exact .next (h.tick (.touched rfl))
  | timeIncLoWrite => exact .next (h.gate h.holdLo)
  | timeIncHiWrite => exact .next (h.gate h.writeTimeIncHi)
  | adjNsWrite => exact .next (h.gate h.startSlew)
  | stepCmd => exact .next (h.gate h.stepCmd)
  | timeNsRead => exact .next h.readOut
  | ppsInEdge => exact .next (h.onMain h.ppsEdge)
  | ppsInNsRead => exact .next h.readOut
  | ppsMiss => exact .next (h.onMain (.ite h.raise h))
  | ppsOutRise => exact .next (h.onMain (.ite h.drivePps h))
  | ppsOutFall => exact .next (h.onMain (.ite h.drivePps h))
  | tpulseArm => exact .next (h.gate h.armTpulse)
  | tpulseDisarm => exact .next (h.gate h.disarmTpulse)
  | tpulseFire => exact .next (h.onMain h.fireTpulse)
  | tpulseEnd => exact .next (h.onMain h.endTpulse)
  | ptpTxEntry => exact .next (h.onMain h.ptxEntry)
  | txtsPop => exact .next h.readOut
  | frameBoundary => exact .next (h.onMain h.frameBoundary)
  | loaderIssue => exact .next (h.onMain h.loaderIssue)
  | slotBoundary => exact .next (h.onMain h.slotInstant)
  | planeStrobe => exact .next (h.onMain h.planeStrobeAt)
  | groupStrobe => exact .next (h.onMain h.groupStrobeAt)
  | rangeHoldRelease => exact .next h.releaseHold
  | protectionStrobe => exact .next (h.onMain h.protectionStrobe)
  | commitDeadline => exact .next (h.onMain h.commitDeadline)
  | compositionCommit => exact .next (h.onMain h.compositionCommit)
  | compCtrlAbort => exact .next (h.gate h.abortComposition)
  | standingCommit => exact .next (h.onMain h.commitStanding)
  | altCmdArm => exact .next (h.gate h.armAlternate)
  | altCmdDisarm => exact .next (h.gate h.disarmAlternate)
  | switchCmd => exact .next (h.gate h.requestSwitch)
  | switchTake => exact .next (h.onMain h.takeSwitch)
  | accordRecordWrite => exact .next (h.gate h.writeRecord)
  | drvEnableWrite => exact .next (h.gateTile h.writeDrvEnable)
  | sealSelAll => exact .next (h.gateTile h.sealSelAll)
  | sealLadderAll => exact .next (h.gateTile h.sealLadderAll)
  | sealHtrAll => exact .next (h.gateTile h.sealHtrAll)
  | sealShutAll => exact .next (h.gateTile h.sealShutters)
  | pockSealL0 => exact .next (h.gateTile h.sealLadder)
  | pockSealL1 => exact .next (h.gateTile h.sealLadder)
  | pockSealSel => exact .next (h.gateTile h.sealSelect)
  | htrSeal => exact .next (h.gateTile h.sealHeater)
  | shutSeal => exact .next (h.gateTile h.sealShutters)
  | pockShadowWrite => exact .next (h.gateTile h.writeLadder)
  | pockSelShdWrite => exact .next (h.gateTile h.writeSelShadow)
  | htrShdWrite => exact .next (h.gateTile h.writeHeater)
  | shutShdWrite => exact .next (h.gateTile h.writeShutters)
  | strbCmdPlane => exact .next (h.gate h.commandPlane)
  | strbCmdGrp => exact .next (h.gate h.commandGroup)
  | tileScanStart => exact .next (.ite h.scanStart h)
  | tileConversion => exact .next (.ite h.convert h)
  | tileFrameTx => exact .next (.ite h.frameTx h)
  | htrOpen => exact .next (h.onMain h.heaterOpen)
  | htrCompliance => exact .next (h.onMain h.heaterCompliance)
  | shutCurrent => exact .next (h.onMain h.shutterCurrent)
  | tiaRangeWrite => exact .next (h.gateTile h.writeTiaRange)
  | scanCfgWrite => exact .next (h.gateTile h.writeScanCfg)
  | focusStart => exact .next (h.gateTile h.writeFocus)
  | focusEnd => exact .next (h.onMain h.focusEnd)
  | diagCmdGo => exact .next (h.gateTile h.writeDiag)
  | fastCfgWrite => exact .next (h.gateTile h.writeFastCfg)
  | tileLinkTrained => exact .next (.ite h.linkTrained h)
  | tileLinkLoss => exact .next (.ite h.linkLost h)
  | tileCodeTransaction => exact .next h.land
  | tileSelectTransaction => exact .next h.land
  | tileShutterTransaction => exact .next h.land
  | tileRegTransaction => exact .next (h.regTransaction (.touched rfl))
  | loopRecord => exact .next (h.onMain h.recordArrives)
  | tileFrameChecked => exact .next (h.onMain h.frameChecked)
  | probeEstUpdate => exact .next (h.onMain (h.updateProbe (.touched rfl)))
  | loopTargetWrite => exact .next (h.gate h.writeLoopCtrl)
  | loopHoldWrite m scope on =>
    cases scope with
    | loop l => exact .next (h.gate h.writeLoopCtrl)
    | course c => exact .next (h.gate h.writeCourseCtrl)
  | hEvtClear => exact .next (h.gate h.setEvt)
  | transferOutOfAuto => exact .next (h.onMain h.outOfAuto)
  | transferIntoAuto => exact .next (h.onMain h.intoAuto)
  | repReset => exact .next (h.gate h.writeLoopCtrl)
  | repFreezeWrite m scope on =>
    cases scope with
    | loop l => exact .next (h.gate h.writeLoopCtrl)
    | course c => exact .next (h.gate h.writeCourseCtrl)
  | loopParamWrite => exact .next (h.gate h.writeLoopParam)
  | loopStateWrite => exact .next (h.gate h.writeLoopState)
  | repetitiveWrite => exact .next (h.gate h.writeRepetitive)
  | laneFrameRx => exact .next (h.onMain (h.laneFrame (.touched rfl)))
  | recircPass => exact .next (h.onMain (h.recircPass (.touched rfl)))
  | slowPathFrame => exact .next (h.onMain (h.slowPath (.touched rfl)))
  | ruleCmdRead => exact .next (h.gate h.readRule)
  | ruleCmdWrite => exact .next (h.gate h.writeRule)
  | swapCmd => exact .next (h.gate h.swapCmd)
  | oldBusyClear => exact .next (h.onMain h.clearOldBusy)
  | pcsLock => exact .next (h.onMain h.pcsLock)
  | pcsLoss => exact .next (h.onMain h.pcsLoss)
  | keepaliveExpiry => exact .next (h.onMain h.keepalive)
  | peerSilenceExpiry => exact .next (h.onMain (.ite h.laneTo h))
  | hello => exact .next (h.onMain h.serveHello)
  | demand => exact .next (h.onMain h.serveDemand)
  | setup => exact .next (h.onMain h.serveOp)
  | release => exact .next (h.onMain h.serveOp)
  | status => exact .next (h.onMain h.serveStatus)
  | echo => exact .next (h.onMain h.serveEcho)
  | relay => exact .next (h.onMain h.serveRelay)
  | messageTransmit => exact .next (h.onMain h.transmitNext)
  | echoCmd => exact .next (h.gate h.echoCmd)
  | echoTimeout => exact .next (h.onMain h.echoTimeout)
  | ctxSelWrite => exact .next (h.gate h.snapContext)
  | tierEchoTimer => exact .next (h.onMain (.ite h.askEcho h))
  | tierHello => exact .next (h.onMain h.serveTierHello)
  | accord => exact .next (h.onMain (h.serveTier fun h => h.takeAccord))
  | frameEnd => exact .next (h.onMain (h.serveTier fun h => h.takeFrameEnd))
  | standing => exact .next (h.onMain (h.serveTier fun h => h.takeStanding))
  | switch => exact .next (h.onMain (h.serveTier fun h => h.takeSwitchMsg))
  | resync => exact .next (h.onMain (h.serveTier fun h => h.takeResync))
  | checkpoint => exact .next (h.onMain (h.serveTier fun h => h.takeCheckpoint))
  | catchupCompose => exact .next (h.onMain h.catchUp)
  | followCommit => exact .next (h.onMain h.followCommit)
  | workerStandingApply => exact .next (h.onMain (.ite h.workerStanding h))
  | twinCmdLead => exact .next (h.gate h.twinLead)
  | twinCmdResync => exact .next (h.gate h.twinResync)
  | twinCmdWithdraw => exact .next (h.gate h.twinWithdraw)
  | claimWrite => exact .next (h.gate h.holdLv)
  | calPeriodExpiry => exact .next (h.onMain (.ite h h.markDue))
  | calStart => exact .next (h.onMain h.calScan)
  | calMeasurementEnd => exact .next (h.onMain h.measured)
  | calTrimApply => exact .next (h.onMain h.applyTrims)
  | calLate => exact .next (h.onMain (.ite h.raise h))
  | calCmdGo => exact .next (h.gate h.writeCalCmd)
  | calCmdFull => exact .next (h.gate h.writeCalCmd)
  | calCmdLoad => exact .next (h.gate h.writeCalCmd)
  | calCmdAbort => exact .next (h.gate h.writeCalCmd)
  | calMirrorWrite => exact .next (h.gate h.writeMirror)
  | silCalGo => exact .next (h.gate h.silCalGo)
  | replanTimer => exact .next (h.onMain (h.replanTimer (.touched rfl)))
  | replanCmdNow => exact .next (h.gate (h.writeReplanCmd (.touched rfl)))
  | replanCmdAbort => exact .next (h.gate (h.writeReplanCmd (.touched rfl)))
  | replanWindowEnd => exact .next (h.onMain (h.windowEnd (.touched rfl)))
  | sensorConversion => exact .next (h.onVin (h.convertSensors (.touched rfl)))
  | riseEvaluation => exact .next (h.onVin (h.foldl fun h => (h.evaluateRise (.touched rfl))))
  | tripRecordCommit => exact .next (h.onVin (h.commitRecord (.touched rfl)))
  | thermtripRelease => exact .next (h.onVin (h.releaseTrip (.touched rfl)))
  | tripRdCmd => exact .next (h.gate h.readSlot)
  | ringCmdErase => exact .next (h.gate (h.eraseRing (.touched rfl)))
  | telemetryUpdate => exact .next (h.onVin (h.updateTelemetry (.touched rfl)))
  | clearFaults => exact .next (h.transaction fun h => (h.pmbusWrite fun h => h.clearStatus))
  | capability => exact .next (h.transaction fun h => h.answer)
  | statusByte => exact .next (h.transaction fun h => h.answer)
  | statusWord => exact .next (h.transaction fun h => h.answer)
  | statusInput => exact .next (h.transaction fun h => h.answer)
  | statusTemperature => exact .next (h.transaction fun h => h.answer)
  | statusCml => exact .next (h.transaction fun h => h.answer)
  | readVin => exact .next (h.transaction fun h => h.answerLinear)
  | readIin => exact .next (h.transaction fun h => h.answerLinear)
  | readTemperature1 => exact .next (h.transaction fun h => h.answerLinear)
  | readTemperature2 => exact .next (h.transaction fun h => h.answerLinear)
  | readTemperature3 => exact .next (h.transaction fun h => .ite h.answer h.answerLinear)
  | readPin => exact .next (h.transaction fun h => h.answerLinear)
  | pmbusRevision => exact .next (h.transaction fun h => h.answer)
  | mfrId => exact .next (h.transaction fun h => h.answerBlock)
  | mfrModel => exact .next (h.transaction fun h => h.answerBlock)
  | pmbusInvalidCommand =>
    refine .next (h.transaction fun h => ?_)
    split
    · exact h.invalidCommand.answer
    · exact h.pmbusWrite fun h => h.invalidCommand
  | winAddr => exact .next (h.transaction fun h => (h.windowWrite fun h => h.setWinAddr))
  | winWrite => exact .next (h.transaction fun h => (h.windowWrite fun h => (h.winWrite (.touched rfl))))
  | winRead => exact .next (h.transaction fun h => h.winRead)
  | winStatus => exact .next (h.transaction fun h => h.answer)
  | winCount =>
    refine .next (h.transaction fun h => ?_)
    split
    · exact h.windowWrite fun h => h.setWinCount
    · exact h.answer
  | winReread => exact .next (h.transaction fun h => h.answer)
  | sbTimeout => exact .next (h.onVin h.sbTimeout)
  | alertResponse => exact .next (.ite h.answer h)
  | bar0Request =>
    refine .next (h.onMain ?_)
    refine h.barRequest (.touched rfl) fun h => ?_
    split
    · exact h.unsupported (.touched rfl)
    · exact .ite (h.bar0Write (.touched rfl)) h.bar0Read
  | bar2Request =>
    exact .next (h.onMain (h.barRequest (.touched rfl) fun h => .ite (h.memWriteBytes (.touched rfl)) h.bar2Read))
  | unsupportedRequest => exact .next (h.onMain (h.unsupported (.touched rfl)))
  | poisonedWrite => exact .next (h.onMain (h.aerError (.touched rfl)))
  | hostSideReset => exact .next (h.onMain (h.hostReset (.touched rfl)))
  | d3hotEntry => exact .next (h.onMain (h.setPcie (.touched rfl)))
  | d0Entry => exact .next (h.onMain ((h.setPcie (.touched rfl)).configure (.touched rfl)))
  | vecRearm => exact .next (h.gate h.writeRearm)
  | semTake => exact .next (h.gate h.writeSem)
  | semGive => exact .next (h.gate h.writeSem)
  | semForce => exact .next (h.gate h.writeSem)
  | fuseArm => exact .next (h.gate (h.writeFuseCmd (.touched rfl)))
  | fuseArmExpiry => exact .next (h.setFuses (.touched rfl))
  | fuseCommit => exact .next (h.gate (h.writeFuseCmd (.touched rfl)))
  | fuseProgramDone => exact .next (h.fuseDone (.touched rfl))
  | fuseSense => exact .next (.ite (h.senseFuses (.touched rfl)) h)
  | fxCrcCheck => exact .next (h.onMain h.checkFx)
  | busRequest => exact .next (h.onMain (h.busRequest (.touched rfl)))
  | remapWrite => exact .next (h.busWrite (.touched rfl))
  | chCtrlStart => exact .next (h.busWrite (.touched rfl))
  | descriptorFetched => exact .next (h.onMain (h.descriptorFetched (.touched rfl)))
  | dmaResponse => exact .next (h.onMain (h.dmaResponse (.touched rfl)))
  | chCtrlAbort => exact .next (h.busWrite (.touched rfl))
  | completionTimeout => exact .next (h.onMain (h.completionTimeout (.touched rfl)))
  | producerEvent => exact .next h.produce
  | taskInputActivation => exact .next h.eventsReach
  | evtOutPulseEnd => exact .next h.endPulse
  | evtInEdge => exact .next (.ite h.emitCode h)
  | mortarCfgWrite => exact .next (h.gate h.reportFx.writeMortar)
  | injectSource => exact .next (h.gate h.writeInject)
  | faultEnSevWrite => exact .next (.ite (h.gate h.writeFaultSev) (h.gate h.writeFaultEn))
  | silCtrlWrite => exact .next (h.gate h.writeSilCtrl)
  | silArm => exact .next (h.gate h.silArm)
  | silStop => exact .next (h.gate h.silStop)
  | trigCmdFire => exact .next (h.gate h.silTriggerFrom)
  | sillageTimeTrigger => exact .next (h.onMain h.timeTrigger)
  | sillageBlockWrite => exact .next (h.onMain (h.blockComplete (.touched rfl)))
  | sillageHoldoffEnd => exact .next (h.onMain h.hidden)
  | ringRdWrite => exact .next (h.gate h.writeRingPtr)
  | ringEnableWrite => exact .next (h.gate h.writeRingWord)
  | wideLoRead => exact .next h.readOut
  | wideLoWrite => exact .next (h.busWrite (.touched rfl))
  | wideHiWrite => exact .next (h.busWrite (.touched rfl))
  | rcRead => exact .next h.readOut
  | registerWrite => exact .next (h.busWrite (.touched rfl))
  | refclkCoreReturn => exact .next ((h.setPower (.touched rfl)).onMain (h.setPower (.touched rfl)).setFlag)
  | tripRingEraseDone => exact .next (h.onVin (h.eraseDone (.touched rfl)))
  | fullCalDone => exact .next (h.onMain h.fullDone)
  | silCalDone => exact .next (h.onMain h.silCalDone)

/-- Whatever command ran, the canonical form stays. -/
theorem Keeps.canonical {E : Part → Prop} {s t : State} (h : Keeps E s t) (c : Canonical s) : Canonical t :=
  ⟨h.registers c.1, h.memory c.2⟩

/-- Settles O3: every operation keeps both canonical forms (`exec_keeps`), and an idle step changes nothing. -/
theorem everyStepKeepsCanonicalForm : Obligations.EveryStepKeepsCanonicalForm := by
  unfold Obligations.EveryStepKeepsCanonicalForm
  intro s t canonical stepped
  unfold step at stepped
  split at stepped
  · cases stepped
    exact canonical
  · next c rest _ =>
    obtain ⟨u, answered, kept⟩ := exec_keeps c { s with pending := rest }
    rw [answered] at stepped
    cases stepped
    exact kept.canonical canonical

end Sys2Proof.Machine

namespace Sys2Proof.Machine

/-! ## Memory bytes and register fields

What a byte of BAR2 memory or a register field reads after a write: bit by bit for fields, byte by byte for memory. -/

/-! ### Bits of a word -/

/-- The number that `withBits` forms: the bits of `v` between, those of `x` around. -/
theorem testBit_splice (x lsb width v i : Nat) :
    (x / 2 ^ (lsb + width) * 2 ^ (lsb + width) + v % 2 ^ width * 2 ^ lsb + x % 2 ^ lsb).testBit i =
      if i < lsb then x.testBit i else if i < lsb + width then v.testBit (i - lsb) else x.testBit i := by
  have low : x % 2 ^ lsb < 2 ^ lsb := Nat.mod_lt _ (Nat.two_pow_pos _)
  have mid : 2 ^ lsb * (v % 2 ^ width) + x % 2 ^ lsb < 2 ^ (lsb + width) := by
    have := Nat.mul_le_mul_left (2 ^ lsb) (Nat.mod_lt v (Nat.two_pow_pos width))
    rw [pow_add]
    exact (Nat.add_lt_add_left low _).trans_le this
  have parts : x / 2 ^ (lsb + width) * 2 ^ (lsb + width) + v % 2 ^ width * 2 ^ lsb + x % 2 ^ lsb =
      2 ^ (lsb + width) * (x / 2 ^ (lsb + width)) + (2 ^ lsb * (v % 2 ^ width) + x % 2 ^ lsb) := by ring
  rw [parts, Nat.testBit_two_pow_mul_add _ mid, Nat.testBit_two_pow_mul_add _ low]
  by_cases below : i < lsb
  · simp [below, show i < lsb + width by omega]
  · by_cases inside : i < lsb + width
    · simp [below, inside, show i - lsb < width by omega]
    · simp [below, inside, Nat.testBit_div_two_pow, Nat.sub_add_cancel (Nat.le_of_not_lt inside)]

/-- The bits of a word in which a field was replaced. -/
theorem testBit_withBits (w : Word) {lsb width : Nat} (v i : Nat) (fits : lsb + width ≤ 32) :
    (withBits w lsb width v).toNat.testBit i =
      if i < lsb then w.toNat.testBit i else if i < lsb + width then v.testBit (i - lsb) else w.toNat.testBit i := by
  have small : w.toNat / 2 ^ (lsb + width) * 2 ^ (lsb + width) + v % 2 ^ width * 2 ^ lsb + w.toNat % 2 ^ lsb < 2 ^ 32 := by
    refine Nat.lt_pow_two_of_testBit _ fun j hj => ?_
    rw [testBit_splice, if_neg (by omega), if_neg (by omega)]
    exact Nat.testBit_lt_two_pow (w.isLt.trans_le (Nat.pow_le_pow_right two_pos hj))
  rw [withBits, BitVec.toNat_ofNat, Nat.mod_eq_of_lt small, testBit_splice]

theorem testBit_bitsOf (w : Word) (lsb width i : Nat) :
    (bitsOf w lsb width).testBit i = (decide (i < width) && w.toNat.testBit (lsb + i)) := by
  rw [bitsOf, Nat.testBit_mod_two_pow, Nat.testBit_div_two_pow, Nat.add_comm i]

/-- A replaced field reads what was put into it. -/
theorem bitsOf_withBits_same (w : Word) {lsb width v : Nat} (fits : lsb + width ≤ 32) (small : v < 2 ^ width) :
    bitsOf (withBits w lsb width v) lsb width = v := by
  refine Nat.eq_of_testBit_eq fun i => ?_
  rw [testBit_bitsOf, testBit_withBits w v _ fits]
  by_cases inside : i < width
  · simp [inside]
  · simp [inside, Nat.testBit_lt_two_pow (small.trans_le (Nat.pow_le_pow_right two_pos (Nat.le_of_not_lt inside)))]

/-- A field that shares no bit with the replaced one reads as before. -/
theorem bitsOf_withBits_disjoint (w : Word) {lsb width lsb' width' : Nat} (v : Nat) (fits : lsb + width ≤ 32)
    (apart : lsb + width ≤ lsb' ∨ lsb' + width' ≤ lsb) :
    bitsOf (withBits w lsb width v) lsb' width' = bitsOf w lsb' width' := by
  refine Nat.eq_of_testBit_eq fun i => ?_
  rw [testBit_bitsOf, testBit_bitsOf, testBit_withBits w v _ fits]
  by_cases inside : i < width'
  · rcases apart with above | below
    · rw [if_neg (by omega), if_neg (by omega)]
    · rw [if_pos (by omega)]
  · simp [inside]

/-! ### Register fields -/

theorem State.rd_wr_same (s : State) (f : Field) {v : Nat} (fits : f.lsb + f.width ≤ 32) (small : v < 2 ^ f.width) :
    (s.wr f v).rd f = v := by
  rw [State.rd, State.wr, State.word_setWord_same, bitsOf_withBits_same _ fits small]

theorem State.rd_wr_disjoint (s : State) {f g : Field} (v : Nat) (fits : f.lsb + f.width ≤ 32)
    (apart : f.addr ≠ g.addr ∨ f.lsb + f.width ≤ g.lsb ∨ g.lsb + g.width ≤ f.lsb) : (s.wr f v).rd g = s.rd g := by
  rw [State.rd, State.rd]
  by_cases sameWord : g.addr = f.addr
  · rw [sameWord, State.wr, State.word_setWord_same]
    exact bitsOf_withBits_disjoint _ v fits (apart.resolve_left fun differ => differ sameWord.symm)
  · rw [State.word_wr_other s f v g.addr sameWord]

/-! ### BAR2 memory -/

theorem State.memByte_setMemBytes_outside (s : State) (a x : Nat) (bs : List Byte) (outside : x < a ∨ a + bs.length ≤ x) :
    (s.setMemBytes a bs).memByte x = s.memByte x := by
  induction bs generalizing s a with
  | nil => rfl
  | cons b rest ih =>
    rw [List.length_cons] at outside
    rw [State.setMemBytes, ih _ _ (by omega), State.memByte_setMemByte_other s a x b (by omega)]

theorem State.memBytes_succ (s : State) (a n : Nat) : s.memBytes a (n + 1) = s.memByte a :: s.memBytes (a + 1) n := by
  simp [State.memBytes, List.range_succ_eq_map, Nat.add_assoc, Nat.add_comm 1]

theorem State.memBytes_setMemBytes_same (s : State) (a : Nat) (bs : List Byte) :
    (s.setMemBytes a bs).memBytes a bs.length = bs := by
  induction bs generalizing s a with
  | nil => rfl
  | cons b rest ih =>
    rw [List.length_cons, State.memBytes_succ, State.setMemBytes, ih,
      State.memByte_setMemBytes_outside _ _ _ _ (.inl (Nat.lt_succ_self a)), State.memByte_setMemByte_same]

theorem State.word_setMemBytes (s : State) (a x : Nat) (bs : List Byte) : (s.setMemBytes a bs).word x = s.word x := by
  rw [State.setMemBytes_eq]
  rfl

theorem leNat_leBytes {n v : Nat} (small : v < 256 ^ n) : leNat (leBytes n v) = v := by
  induction n generalizing v with
  | zero =>
    rw [pow_zero, Nat.lt_one_iff] at small
    rw [small]
    rfl
  | succ n ih =>
    have rest : v / 256 < 256 ^ n := Nat.div_lt_of_lt_mul (by rwa [← pow_succ'])
    rw [leBytes, leNat, ih rest, BitVec.toNat_ofNat]
    exact Nat.mod_add_div v 256

/-- Settles O6: `withBits` and `bitsOf` compared bit by bit, runs of bytes by induction on the bytes. -/
theorem storageReadsWhatWasWritten : Obligations.StorageReadsWhatWasWritten := by
  unfold Obligations.StorageReadsWhatWasWritten
  refine ⟨⟨State.memBytes_setMemBytes_same, State.memByte_setMemBytes_outside, ?_, fun _ _ => leNat_leBytes⟩, ?_, ?_⟩
  · exact fun s a x bs => s.word_setMemBytes a x bs
  · exact fun s f _ fits small => s.rd_wr_same f fits small
  · exact fun s _ _ v fits _ apart => s.rd_wr_disjoint v fits apart

end Sys2Proof.Machine

namespace Sys2Proof.Machine

/-! ## Register reads and REG transactions -/

theorem lookup_filter_ne {κ β : Type} [DecidableEq κ] {k o : κ} (l : List (κ × β)) (h : o ≠ k) :
    (l.filter fun e => decide (e.1 ≠ k)).lookup o = l.lookup o := by
  induction l with
  | nil => rfl
  | cons e rest ih =>
    by_cases other : e.1 = k
    · rw [List.filter_cons_of_neg (by simpa using other), ih, List.lookup_cons, beq_false_of_ne (other ▸ h)]
    · rw [List.filter_cons_of_pos (by simpa using other), List.lookup_cons, List.lookup_cons, ih]

/-! ### Wide values -/

/-- A wide value reads what was put into it. -/
theorem State.rdW_wrW_same (s : State) (w : Wide) {v : Nat} (wide : 32 ≤ w.width ∧ w.width ≤ 64) (small : v < 2 ^ w.width) :
    (s.wrW w v).rdW w = v := by
  have split64 : 2 ^ w.width = 2 ^ 32 * 2 ^ (w.width - 32) := by rw [← pow_add, Nat.add_sub_cancel' wide.1]
  have hi : v / 2 ^ 32 < 2 ^ (w.width - 32) := Nat.div_lt_of_lt_mul (split64 ▸ small)
  have hi32 : v / 2 ^ 32 < 2 ^ 32 := hi.trans_le (Nat.pow_le_pow_right two_pos (by omega))
  rw [State.rdW, State.wrW, State.word_setWord_same, State.word_setWord_other _ _ _ _ (by omega), State.word_setWord_same,
    BitVec.toNat_ofNat, BitVec.toNat_ofNat, Nat.mod_mod, Nat.mod_eq_of_lt hi, Nat.mod_eq_of_lt hi32, Nat.mod_eq_of_lt hi]
  exact Nat.mod_add_div v (2 ^ 32)

/-- A field elsewhere does not see a wide value change. -/
theorem State.rd_wrW_other (s : State) (w : Wide) (v : Nat) {f : Field} (lo : f.addr ≠ w.addr) (hi : f.addr ≠ w.addr + 4) :
    (s.wrW w v).rd f = s.rd f := by
  rw [State.rd, State.word_wrW_other s w v f.addr lo hi, State.rd]

/-! ### An output changes no register -/

theorem State.word_emitOut (s : State) (o : Output) (a : Nat) : (s.emitOut o).word a = s.word a := rfl

theorem State.flag_emitOut (s : State) (o : Output) (f : Field) : (s.emitOut o).flag f = s.flag f := rfl

theorem State.rd_emitOut (s : State) (o : Output) (f : Field) : (s.emitOut o).rd f = s.rd f := rfl

theorem State.rdW_emitOut (s : State) (o : Output) (w : Wide) : (s.emitOut o).rdW w = s.rdW w := rfl

theorem State.outbox_emitOut (s : State) (o : Output) : (s.emitOut o).outbox = s.outbox ++ [o] := rfl

/-! ### What a read does -/

/-- A read clears RC bits of its own word, and nothing else. -/
theorem State.clearRc_eq (s : State) (a : Nat) : s.clearRc a = { s with regs := (s.clearRc a).regs } := by
  unfold State.clearRc
  extract_lets m
  split <;> rfl

theorem State.word_clearRc_same (s : State) (a : Nat) :
    (s.clearRc a).word a = s.word a &&& ~~~(accMask a [.rc] &&& ~~~s.freshMask a) := by
  unfold State.clearRc
  extract_lets m
  split
  · next none =>
    rw [show accMask a [.rc] &&& ~~~s.freshMask a = 0#32 from none, BitVec.not_zero, BitVec.and_allOnes]
  · exact s.word_setWord_same a _

theorem State.word_clearRc_other (s : State) {a x : Nat} (h : x ≠ a) : (s.clearRc a).word x = s.word x := by
  unfold State.clearRc
  extract_lets m
  split
  · rfl
  · exact s.word_setWord_other a x _ h

/-- A read that reaches its word returns the value to its master. -/
theorem State.readOut_ok (s : State) (m : Master) (a : Nat) (up : s.power.mainUp = true) (ok : s.readAccess m a = .ok) :
    s.readOut m a = (s.readWord m a).2.emitOut (.readData m [(s.readWord m a).1]) := by
  unfold State.readOut State.busRead
  rw [up, ok]
  rfl

theorem State.readWord_timeNs (s : State) (m : Master) :
    s.readWord m F.TIME_NS.NS.addr = (BitVec.ofNat 32 s.time.ns, s.snapTime m) := by
  cases m <;> rfl

theorem State.readWord_ppsInNs (s : State) (m : Master) :
    s.readWord m F.PPS_IN_NS.NS.addr = (s.view m F.PPS_IN_NS.NS.addr, s.snapPps m) := by
  cases m <;> rfl

theorem State.readWord_txtsPop (s : State) (m : Master) :
    s.readWord m F.TXTS_POP.LANE.addr = (s.popTxStamp.2, s.popTxStamp.1) := by
  cases m <;> rfl

/-- A LO word is no word that a read of its own kind meets first. -/
theorem State.readWord_lo (s : State) (m : Master) (a : Nat) (linked : s.linkMissing m a = false) (lo : isLo a = true)
    (shared : ownSnapshot a = false) : s.readWord m a = (s.view m a, (s.snapHi m a).clearRc a) := by
  have pop : a ≠ F.TXTS_POP.LANE.addr := by
    rintro rfl
    exact absurd lo (by decide)
  have time : a ≠ F.TIME_NS.NS.addr := by
    rintro rfl
    exact absurd lo (by decide)
  have pps : a ≠ F.PPS_IN_NS.NS.addr := by
    rintro rfl
    exact absurd lo (by decide)
  simp [State.readWord, linked, pop, time, pps, lo, shared]

/-- A word that is neither half of a wide value nor read in its own way. -/
theorem State.readWord_plain (s : State) (m : Master) (a : Nat) (linked : s.linkMissing m a = false) (lo : isLo a = false)
    (hi : isHi a = false) (pop : a ≠ F.TXTS_POP.LANE.addr) (time : a ≠ F.TIME_NS.NS.addr) (pps : a ≠ F.PPS_IN_NS.NS.addr) :
    s.readWord m a = (s.view m a, s.clearRc a) := by
  simp [State.readWord, linked, pop, time, pps, lo, hi]

theorem State.timeSeen_snapTime (s : State) (m : Master) : (s.snapTime m).timeSeen m = (s.time.sec, s.time.frac / 2 ^ 8) := by
  simp [State.timeSeen, State.snapTime]

theorem State.ppsSeen_snapPps (s : State) (m : Master) : (s.snapPps m).ppsSeen m = s.rdW F.PPS_IN_SEC := by
  simp [State.ppsSeen, State.snapPps]

theorem State.lookup_snapTime_other (s : State) {m o : Master} (h : o ≠ m) :
    (s.snapTime m).snaps.time.lookup o = s.snaps.time.lookup o := by
  rw [State.snapTime]
  exact (by rw [List.lookup_cons, beq_false_of_ne h] : _ = _).trans (lookup_filter_ne _ h)

/-! ### The reads of the interface -/

theorem timeNsRead_answers (s : State) (m : Master) (up : s.power.mainUp = true)
    (ok : s.readAccess m F.TIME_NS.NS.addr = .ok) :
    ∃ t, exec (.timeNsRead m) s = .next t ∧ t.outbox = s.outbox ++ [.readData m [BitVec.ofNat 32 s.time.ns]] ∧
      t.timeSeen m = (s.time.sec, s.time.frac / 2 ^ 8) ∧
      (∀ o, o ≠ m → t.snaps.time.lookup o = s.snaps.time.lookup o) ∧ t.regs = s.regs ∧ t.mem = s.mem ∧ t.time = s.time := by
  refine ⟨s.readOut m F.TIME_NS.NS.addr, rfl, ?_⟩
  rw [s.readOut_ok m _ up ok, s.readWord_timeNs m]
  exact ⟨rfl, s.timeSeen_snapTime m, fun o other => s.lookup_snapTime_other other, rfl, rfl, rfl⟩

theorem ppsInNsRead_answers (s : State) (m : Master) (up : s.power.mainUp = true)
    (ok : s.readAccess m F.PPS_IN_NS.NS.addr = .ok) :
    ∃ t, exec (.ppsInNsRead m) s = .next t ∧
      t.outbox = s.outbox ++ [.readData m [s.view m F.PPS_IN_NS.NS.addr]] ∧ t.ppsSeen m = s.rdW F.PPS_IN_SEC ∧
      t.regs = s.regs ∧ t.mem = s.mem ∧ t.time = s.time := by
  refine ⟨s.readOut m F.PPS_IN_NS.NS.addr, rfl, ?_⟩
  rw [s.readOut_ok m _ up ok, s.readWord_ppsInNs m]
  exact ⟨rfl, s.ppsSeen_snapPps m, rfl, rfl, rfl⟩

theorem wideLoRead_answers (s : State) (m : Master) (a : BitVec 26) (b : Nat) (up : s.power.mainUp = true)
    (ok : s.readAccess m (wordAt a) = .ok) (linked : s.linkMissing m (wordAt a) = false) (lo : isLo (wordAt a) = true)
    (shared : ownSnapshot (wordAt a) = false) (block : ownerBlock (wordAt a) = some b) :
    ∃ t, exec (.wideLoRead m a) s = .next t ∧ t.outbox = s.outbox ++ [.readData m [s.view m (wordAt a)]] ∧
      t.snaps.hi.lookup (m, b) = some (s.view m (wordAt a + 4)) ∧
      (∀ x, x ≠ wordAt a → t.word x = s.word x) ∧ t.mem = s.mem ∧ t.seals = s.seals := by
  have snapped : s.snapHi m (wordAt a) = { s with snaps := { s.snaps with
      hi := ((m, b), s.view m (wordAt a + 4)) :: s.snaps.hi.filter fun e => decide (e.1 ≠ (m, b)) } } := by
    rw [State.snapHi, block]
  have words : ∀ x, x ≠ wordAt a → ((s.snapHi m (wordAt a)).clearRc (wordAt a)).word x = s.word x := by
    intro x other
    rw [State.word_clearRc_other _ other, snapped]
    rfl
  refine ⟨s.readOut m (wordAt a), rfl, ?_⟩
  rw [s.readOut_ok m _ up ok, s.readWord_lo m _ linked lo shared]
  refine ⟨?_, ?_, words, ?_, ?_⟩ <;> rw [State.clearRc_eq, snapped]
  · rfl
  · exact List.lookup_cons_self
  · rfl
  · rfl

/-- A plain read returns the word, and clears RC bits of that word alone. -/
theorem State.readOut_plain (s : State) (m : Master) (a : Nat) (up : s.power.mainUp = true) (ok : s.readAccess m a = .ok)
    (linked : s.linkMissing m a = false) (lo : isLo a = false) (hi : isHi a = false) (pop : a ≠ F.TXTS_POP.LANE.addr)
    (time : a ≠ F.TIME_NS.NS.addr) (pps : a ≠ F.PPS_IN_NS.NS.addr) :
    s.readOut m a = (s.clearRc a).emitOut (.readData m [s.view m a]) := by
  rw [s.readOut_ok m a up ok, s.readWord_plain m a linked lo hi pop time pps]

theorem State.readOut_plain_frame (s : State) (m : Master) (a : Nat) :
    let t := (s.clearRc a).emitOut (.readData m [s.view m a])
    t.outbox = s.outbox ++ [.readData m [s.view m a]] ∧
      t.word a = s.word a &&& ~~~(accMask a [.rc] &&& ~~~s.freshMask a) ∧
      (∀ x, x ≠ a → t.word x = s.word x) ∧ t.mem = s.mem ∧ t.seals = s.seals := by
  refine ⟨?_, s.word_clearRc_same a, fun x => s.word_clearRc_other, ?_, ?_⟩ <;> rw [State.clearRc_eq] <;> rfl

end Sys2Proof.Machine

namespace Sys2Proof.Machine

/-! ## What a report writes

Raising sources and counting write the REAL words of the sources raised, the counters, and words of blocks that lie below the
tiles' windows: a tile's own words stay. -/

/-- Where the tiles' windows begin (R465). -/
def tilesFrom : Nat := 0x500000

theorem State.word_setEvent_other (s : State) {f : Field} {a : Nat} (h : a ≠ f.addr) : (s.setEvent f).word a = s.word a :=
  s.word_setFlag_other f true a h

theorem State.word_latchSeal (s : State) (src : Source) (a : Nat) : (s.latchSeal src).word a = s.word a := by
  unfold State.latchSeal
  split <;> rfl

theorem State.word_sendVector_tile (s : State) (v : Nat) {a : Nat} (tile : tilesFrom ≤ a) :
    (s.sendVector v).word a = s.word a := by
  have apart : a ≠ (vecPending v).addr := by
    simp only [vecPending, F.PBA.PENDING, tilesFrom] at *
    omega
  unfold State.sendVector
  split
  · rfl
  · exact s.word_setFlag_other _ _ a apart

theorem State.word_signalVector_tile (s : State) (v : Nat) {a : Nat} (tile : tilesFrom ≤ a) :
    (s.signalVector v).word a = s.word a := by
  have apart : a ≠ (vecArmed v).addr := by
    simp only [vecArmed, F.VEC_ARMED.ARMED, tilesFrom] at *
    omega
  unfold State.signalVector
  split
  · exact (State.word_sendVector_tile _ v tile).trans (s.word_setFlag_other _ _ a apart)
  · rfl

theorem State.word_addCounter_other (s : State) (w : Wide) (n : Nat) {a : Nat} (lo : a ≠ w.addr) (hi : a ≠ w.addr + 4) :
    (s.addCounter w n).word a = s.word a :=
  s.word_wrW_other w _ a lo hi

theorem saturatedSource_below (a : Nat) : (saturatedSource a).block.real < tilesFrom := by
  unfold saturatedSource
  split <;> decide

theorem State.saturates_below (s : State) (w : Wide) (n : Nat) : ∀ x ∈ s.saturates w n, x.block.real < tilesFrom := by
  intro x hx
  unfold State.saturates at hx
  split at hx
  · rw [List.mem_singleton.mp hx]
    exact saturatedSource_below _
  · cases hx

/-- The sources that a raise raises in turn are Mortar's. -/
theorem State.raiseOne_raises_below (s : State) (src : Source) : ∀ x ∈ (s.raiseOne src).2, x.block.real < tilesFrom := by
  unfold State.raiseOne
  split
  · exact nofun
  split
  · exact nofun
  dsimp only
  split
  · exact nofun
  · intro x hx
    rcases List.mem_cons.mp hx with rfl | later
    · decide
    · exact State.saturates_below _ _ _ x later

/-- A source that has just been signalled has written, of the words from the tiles' windows up, only its REAL word. -/
theorem State.word_signalled_tile (s : State) (src : Source) {a : Nat} (tile : tilesFrom ≤ a) :
    (((((s.setEvent src.real).latchSeal src).signalVector src.block.vector).deliver src.code false).1).word a =
      (s.setEvent src.real).word a :=
  (State.word_signalVector_tile _ _ tile).trans (State.word_latchSeal _ _ _)

theorem State.word_raiseOne_tile (s : State) (src : Source) {a : Nat} (tile : tilesFrom ≤ a) (h : a ≠ src.block.real) :
    (s.raiseOne src).1.word a = s.word a := by
  have signalled := (s.word_signalled_tile src tile).trans (s.word_setEvent_other (f := src.real) h)
  unfold State.raiseOne
  split
  · rfl
  split
  · exact s.word_setEvent_other h
  dsimp only
  split
  · exact signalled
  · refine (State.word_addCounter_other _ F.WARM_LOST_CNT _ ?_ ?_).trans signalled <;>
      exact fun same => absurd tile (by rw [same]; decide)

theorem State.word_raiseAll_tile (n : Nat) (s : State) (l : List Source) {a : Nat} (tile : tilesFrom ≤ a)
    (h : ∀ x ∈ l, a ≠ x.block.real) : (State.raiseAll n s l).word a = s.word a := by
  induction n generalizing s l with
  | zero => rfl
  | succ n ih =>
    cases l with
    | nil => rfl
    | cons src rest =>
      refine (ih _ _ fun x hx => ?_).trans (s.word_raiseOne_tile src tile (h src List.mem_cons_self))
      rcases List.mem_append.mp hx with raised | later
      · exact fun same => absurd (same ▸ tile) (Nat.not_le_of_lt (s.raiseOne_raises_below src x raised))
      · exact h x (List.mem_cons_of_mem _ later)

theorem State.word_bump_tile (s : State) (w : Wide) {a : Nat} (tile : tilesFrom ≤ a) (lo : a ≠ w.addr) (hi : a ≠ w.addr + 4) :
    (s.bump w).word a = s.word a := by
  refine (State.word_raiseAll_tile 8 _ _ tile fun x hx same => ?_).trans (s.word_addCounter_other w 1 lo hi)
  exact absurd (same ▸ tile) (Nat.not_le_of_lt (s.saturates_below w 1 x hx))

/-- A powered source of a tile shows its REAL bit once raised. -/
theorem State.flag_raise_tile (s : State) (src : Source) (tile : tilesFrom ≤ src.block.real) (bit : src.bit < 32)
    (powered : s.srcPowered src = true) : (s.raise src).flag src.real = true := by
  have set : (s.setEvent src.real).flag src.real = true := by
    have small : 1 < 2 ^ src.real.width := Nat.one_lt_two
    exact beq_iff_eq.mpr (s.rd_wr_same src.real bit small)
  have shown : (s.raiseOne src).1.flag src.real = true := by
    have signalled := s.word_signalled_tile src tile
    unfold State.raiseOne
    rw [powered]
    split
    · contradiction
    split
    · exact set
    dsimp only
    split
    · rw [State.flag, State.rd, show src.real.addr = src.block.real from rfl, signalled]
      exact set
    · rw [State.flag, State.rd, show src.real.addr = src.block.real from rfl, State.word_addCounter_other, signalled]
      · exact set
      · exact fun same => absurd tile (by rw [same]; decide)
      · exact fun same => absurd tile (by rw [same]; decide)
  have kept : (s.raise src).word src.block.real = (s.raiseOne src).1.word src.block.real :=
    State.word_raiseAll_tile 7 _ _ tile fun x hx same => absurd (same ▸ tile) (Nat.not_le_of_lt <|
      s.raiseOne_raises_below src x (by rwa [List.append_nil] at hx))
  rw [State.flag, State.rd, show src.real.addr = src.block.real from rfl, kept]
  exact shown

/-! ### A REG transaction whose CRC fails -/

/-- A word that travels over a tile's link is one that the tile itself holds. -/
theorem linkTile_held {m : Master} {a t : Nat} (h : linkTile m a = some t) :
    tilesFrom ≤ a ∧ tileHolds ((a - tilesFrom) % 16384) = true := by
  unfold linkTile at h
  split at h
  · next held =>
    simp only [Bool.and_eq_true, decide_eq_true_eq] at held
    obtain ⟨⟨⟨_, from_⟩, _⟩, holds⟩ := held
    exact ⟨from_, holds⟩
  · cases h

/-- It is not at an offset that the control die holds. -/
theorem ne_of_tileHolds {a off : Nat} (k : Nat) (holds : tileHolds ((a - tilesFrom) % 16384) = true) (small : off < 16384)
    (other : tileHolds off = false) : a ≠ tilesFrom + off + 16384 * k := by
  rintro rfl
  rw [show (tilesFrom + off + 16384 * k - tilesFrom) % 16384 = off by omega, other] at holds
  cases holds

theorem Reports.power {s t : State} (h : Reports s t) : t.power = s.power := by rw [h.same]

theorem Reports.tiles {s t : State} (h : Reports s t) : t.tiles = s.tiles := by rw [h.same]

theorem State.linkCrc_reports (s : State) (t : Nat) : Reports s (s.linkCrc t) :=
  (s.bump_reports _).trans (State.raise_reports _ _)

/-- The report of a failed CRC changes no word that the tile holds. -/
theorem State.word_linkCrc_held (s : State) (t : Nat) {m : Master} {a x : Nat} (held : linkTile m a = some x) :
    (s.linkCrc t).word a = s.word a := by
  obtain ⟨tile, holds⟩ := linkTile_held held
  have real : a ≠ (Src.SENSE.LINK_CRC t).block.real := ne_of_tileHolds (off := 0x2020) (t % 76) holds (by decide) (by decide)
  have lo : a ≠ (F.LINK_CRC_CNT t).addr := ne_of_tileHolds (off := 0x2088) (t % 76) holds (by decide) (by decide)
  have hi : a ≠ (F.LINK_CRC_CNT t).addr + 4 := by
    have := ne_of_tileHolds (off := 0x208C) (t % 76) holds (by decide) (by decide)
    simp only [F.LINK_CRC_CNT, tilesFrom] at *
    omega
  refine (State.word_raiseAll_tile 8 _ _ tile fun src hx => ?_).trans (s.word_bump_tile _ tile lo hi)
  rw [List.mem_singleton.mp hx]
  exact real

/-- A failed CRC of a tile shows in its REAL bit while the tile's blocks have power. -/
theorem State.flag_linkCrc (s : State) (t : Nat) (vin : s.power.vin = true) (up : s.power.mainUp = true) :
    (s.linkCrc t).flag (Src.SENSE.LINK_CRC t).real = true := by
  have power : (s.bump (F.LINK_CRC_CNT t)).power = s.power := (s.bump_reports _).power
  refine State.flag_raise_tile _ _ ?_ (show 1 < 32 by decide) ?_
  · simp only [Src.SENSE.LINK_CRC, FB.SENSE, tilesFrom]
    omega
  · simp [State.srcPowered, State.powered, power, vin, up]

theorem tileRegRead_crcFailed (s : State) (m : Master) (a : BitVec 26) (x : Fin 76)
    (held : linkTile m (wordAt a) = some x.val) (ok : s.readAccess m (wordAt a) = .ok) (linked : s.linkUp x = true)
    (vin : s.power.vin = true) (up : s.power.mainUp = true) :
    ∃ t v, exec (.tileRegTransaction m a none false) s = .next t ∧ .readData m [v] ∈ t.outbox ∧
      t.flag (Src.SENSE.LINK_CRC x).real = true ∧ t.word (wordAt a) = s.word (wordAt a) ∧ t.tiles = s.tiles ∧
      t.mem = s.mem := by
  have answered : s.regTransaction m (wordAt a) none false =
      (s.freshValue.2.linkCrc x).emitOut (.readData m [s.freshValue.1.setWidth 32]) := by
    have still : s.freshValue.2.linkUp x = true := linked
    simp only [State.regTransaction, held, ok, still, if_true]
  have reported := s.freshValue.2.linkCrc_reports x
  refine ⟨_, _, congrArg Host.Outcome.next answered, List.mem_append_right _ List.mem_cons_self, ?_, ?_, ?_, ?_⟩
  · rw [State.flag_emitOut]
    exact s.freshValue.2.flag_linkCrc x vin up
  · rw [State.word_emitOut]
    exact s.freshValue.2.word_linkCrc_held x held
  · exact (State.emitOut_tiles _ _).trans reported.tiles
  · exact (State.emitOut_mem _ _).trans reported.mem

theorem tileRegWrite_crcFailed (s : State) (m : Master) (a : BitVec 26) (w : Word) (x : Fin 76)
    (held : linkTile m (wordAt a) = some x.val) (ok : s.writeAccess m (wordAt a) = .ok) (linked : s.linkUp x = true)
    (vin : s.power.vin = true) (up : s.power.mainUp = true) :
    ∃ t, exec (.tileRegTransaction m a (some w) false) s = .next t ∧ t.flag (Src.SENSE.LINK_CRC x).real = true ∧
      t.word (wordAt a) = s.word (wordAt a) ∧ t.tiles = s.tiles ∧ t.mem = s.mem := by
  have answered : s.regTransaction m (wordAt a) (some w) false = s.linkCrc x := by
    simp only [State.regTransaction, held, s.gate_ok m _ _ ok, linked, if_true]
  have reported := s.linkCrc_reports x
  exact ⟨_, congrArg Host.Outcome.next answered, s.flag_linkCrc x vin up, s.word_linkCrc_held x held,
    reported.tiles, reported.mem⟩

/-! ### Transactions that pass, and the TX timestamp FIFO -/

/-- A transaction that passes is the read it carries. -/
theorem State.regTransaction_read (s : State) (m : Master) (a : Nat) : s.regTransaction m a none true = s.readOut m a := by
  unfold State.regTransaction
  cases linkTile m a <;> rfl

/-- A transaction that passes is the write it carries. -/
theorem State.regTransaction_write (s : State) (m : Master) (a : Nat) (w : Word) :
    s.regTransaction m a (some w) true = s.busWrite m a w := by
  unfold State.regTransaction
  cases linkTile m a <;> rfl

/-! ### The TX timestamp FIFO -/

/-- Show a stamp in TXTS_TAG, TXTS_NS and TXTS_SEC, as a pop of it does. -/
def State.showStamp (s : State) (e : TxStamp) : State :=
  ((s.wr F.TXTS_TAG.TAG e.tag).wr F.TXTS_NS.NS e.ns).wrW F.TXTS_SEC e.sec

theorem State.showStamp_outbox (s : State) (e : TxStamp) : (s.showStamp e).outbox = s.outbox := by
  rw [State.showStamp, State.wrW_outbox, State.wr_outbox, State.wr_outbox]

theorem State.showStamp_time (s : State) (e : TxStamp) : (s.showStamp e).time = s.time := by
  rw [State.showStamp, State.wrW_time, State.wr_time, State.wr_time]

theorem State.showStamp_mem (s : State) (e : TxStamp) : (s.showStamp e).mem = s.mem := by
  rw [State.showStamp, State.wrW_mem, State.wr_mem, State.wr_mem]

theorem State.rd_tag_showStamp (s : State) (e : TxStamp) (small : e.tag < 2 ^ 16) :
    (s.showStamp e).rd F.TXTS_TAG.TAG = e.tag := by
  rw [State.showStamp, State.rd_wrW_other _ _ _ (by decide) (by decide),
    State.rd_wr_disjoint _ _ (by decide) (.inl (by decide))]
  exact s.rd_wr_same F.TXTS_TAG.TAG (by decide) small

theorem State.rd_ns_showStamp (s : State) (e : TxStamp) (small : e.ns < 2 ^ 30) :
    (s.showStamp e).rd F.TXTS_NS.NS = e.ns := by
  rw [State.showStamp, State.rd_wrW_other _ _ _ (by decide) (by decide)]
  exact State.rd_wr_same _ F.TXTS_NS.NS (by decide) small

theorem State.rdW_sec_showStamp (s : State) (e : TxStamp) (small : e.sec < 2 ^ 64) :
    (s.showStamp e).rdW F.TXTS_SEC = e.sec :=
  State.rdW_wrW_same _ F.TXTS_SEC (by decide) small

theorem State.popTxStamp_nil (s : State) (fifo : s.time.txFifo = []) : s.popTxStamp = (s, 0) := by
  rw [State.popTxStamp, fifo]

theorem State.popTxStamp_cons (s : State) {e : TxStamp} {rest : List TxStamp} (fifo : s.time.txFifo = e :: rest) :
    s.popTxStamp = (({ s with time := { s.time with txFifo := rest } } : State).showStamp e,
      BitVec.ofNat 32 (e.lane + 2 ^ 8 * rest.length + 2 ^ 16)) := by
  rw [State.popTxStamp, fifo, State.showStamp]

theorem txtsPop_oldest (s : State) (m : Master) (e : TxStamp) (rest : List TxStamp) (up : s.power.mainUp = true)
    (ok : s.readAccess m F.TXTS_POP.LANE.addr = .ok) (fifo : s.time.txFifo = e :: rest) (tag : e.tag < 2 ^ 16)
    (ns : e.ns < 2 ^ 30) (sec : e.sec < 2 ^ 64) :
    ∃ t, exec (.txtsPop m) s = .next t ∧
      t.outbox = s.outbox ++ [.readData m [BitVec.ofNat 32 (e.lane + 2 ^ 8 * rest.length + 2 ^ 16)]] ∧
      t.time = { s.time with txFifo := rest } ∧ t.rd F.TXTS_TAG.TAG = e.tag ∧ t.rd F.TXTS_NS.NS = e.ns ∧
      t.rdW F.TXTS_SEC = e.sec ∧ t.mem = s.mem := by
  refine ⟨s.readOut m F.TXTS_POP.LANE.addr, rfl, ?_⟩
  rw [s.readOut_ok m _ up ok, s.readWord_txtsPop m, s.popTxStamp_cons fifo]
  refine ⟨?_, ?_, ?_, ?_, ?_, ?_⟩
  · rw [State.outbox_emitOut, State.showStamp_outbox]
  · rw [State.emitOut_time, State.showStamp_time]
  · rw [State.rd_emitOut, State.rd_tag_showStamp _ e tag]
  · rw [State.rd_emitOut, State.rd_ns_showStamp _ e ns]
  · rw [State.rdW_emitOut, State.rdW_sec_showStamp _ e sec]
  · rw [State.emitOut_mem, State.showStamp_mem]

theorem txtsPop_empty (s : State) (m : Master) (up : s.power.mainUp = true) (ok : s.readAccess m F.TXTS_POP.LANE.addr = .ok)
    (fifo : s.time.txFifo = []) :
    exec (.txtsPop m) s = .next { s with outbox := s.outbox ++ [.readData m [0]] } := by
  change Host.Outcome.next (s.readOut m F.TXTS_POP.LANE.addr) = _
  rw [s.readOut_ok m _ up ok, s.readWord_txtsPop m, s.popTxStamp_nil fifo]
  rfl

/-- Settles O25: each access is taken back to the read it makes (`readWord_…`), a failed CRC to the words its report can
write. -/
theorem registerReadsAndTransactionsAnswer : Obligations.RegisterReadsAndTransactionsAnswer := by
  unfold Obligations.RegisterReadsAndTransactionsAnswer
  refine ⟨⟨timeNsRead_answers, ppsInNsRead_answers, wideLoRead_answers, ?_⟩,
    ?_, ?_, tileRegRead_crcFailed, tileRegWrite_crcFailed, txtsPop_oldest, txtsPop_empty⟩
  · intro s m a up ok linked lo hi pop time pps
    refine ⟨s.readOut m (wordAt a), rfl, ?_⟩
    rw [s.readOut_plain m _ up ok linked lo hi pop time pps]
    exact s.readOut_plain_frame m (wordAt a)
  · intro s m a up ok linked lo hi pop time pps
    refine ⟨s.readOut m (wordAt a), congrArg Host.Outcome.next (s.regTransaction_read m (wordAt a)), ?_⟩
    rw [s.readOut_plain m _ up ok linked lo hi pop time pps]
    obtain ⟨returned, _, _, memory, _⟩ := s.readOut_plain_frame m (wordAt a)
    exact ⟨returned, memory⟩
  · exact fun s m a w => congrArg Host.Outcome.next (s.regTransaction_write m (wordAt a) w)

end Sys2Proof.Machine

namespace Sys2Proof.Machine

/-! ## Where an operation writes

`Writes P s t` says at which addresses words were put between `s` and `t`, whatever else of the state changed. A report puts its
REAL word and `SharedWord`s; every other word, and every entry of the register list at another address, stays. -/

/-- One word put into the register list, at an address that `P` allows. -/
def RegPut (P : Nat → Prop) (before after : List (Nat × Word)) : Prop :=
  ∃ a w, P a ∧ after = sparsePut coldWord before a w

/-- The registers of `t` are those of `s` after some words were put, each at an address that `P` allows. -/
def Writes (P : Nat → Prop) (s t : State) : Prop := Relation.ReflTransGen (RegPut P) s.regs t.regs

/-- No listed register word equals its Cold value: that half of the canonical form (`SparseWf`) that every operation restores. -/
def State.NoColdEntry (s : State) : Prop := ∀ e ∈ s.regs, e.2 ≠ coldWord e.1

/-- Words that any report may write besides its own REAL word lie from HOSTIF's block up and below the tiles' windows. -/
abbrev SharedWord (a : Nat) : Prop := 0x30000 ≤ a ∧ a < tilesFrom

theorem sparsePut_noDefault {α : Type} [DecidableEq α] {d : Nat → α} {l : List (Nat × α)} (k : Nat) (v : α)
    (h : ∀ e ∈ l, e.2 ≠ d e.1) : ∀ e ∈ sparsePut d l k v, e.2 ≠ d e.1 := by
  intro e he
  unfold sparsePut at he
  split at he
  · exact h e (List.mem_of_mem_filter he)
  · next other =>
    rcases mem_sparseInsert l k v e he with rfl | old
    · exact other
    · exact h e old

namespace Writes
variable {P Q : Nat → Prop} {s₀ s t : State}

theorem refl (P : Nat → Prop) (s : State) : Writes P s s := Relation.ReflTransGen.refl

theorem trans (h : Writes P s₀ s) (k : Writes P s t) : Writes P s₀ t := Relation.ReflTransGen.trans h k

theorem mono (h : Writes P s t) (le : ∀ a, P a → Q a) : Writes Q s t :=
  Relation.ReflTransGen.mono (fun _ _ ⟨a, w, ha, e⟩ => ⟨a, w, le a ha, e⟩) _ _ h

/-- A word at an address that `P` excludes stays. -/
theorem word (h : Writes P s t) {a : Nat} (apart : ¬ P a) : t.word a = s.word a := by
  suffices ∀ regs, Relation.ReflTransGen (RegPut P) s.regs regs → sparseGet coldWord regs a = s.word a from this _ h
  intro regs puts
  induction puts with
  | refl => rfl
  | tail _ put ih =>
    obtain ⟨b, w, allowed, rfl⟩ := put
    rw [sparseGet_put_other coldWord _ b a w fun same => apart (same ▸ allowed), ih]

theorem rd (h : Writes P s t) {f : Field} (apart : ¬ P f.addr) : t.rd f = s.rd f := by
  rw [State.rd, h.word apart, State.rd]

theorem noColdEntry (h : Writes P s t) (none : s.NoColdEntry) : t.NoColdEntry := by
  suffices ∀ regs, Relation.ReflTransGen (RegPut P) s.regs regs → ∀ e ∈ regs, e.2 ≠ coldWord e.1 from this _ h
  intro regs puts
  induction puts with
  | refl => exact none
  | tail _ put ih =>
    obtain ⟨b, w, _, rfl⟩ := put
    exact sparsePut_noDefault b w ih

/-- What leaves the registers alone writes nothing. -/
theorem regs_eq (h : Writes P s₀ s) (e : t.regs = s.regs) : Writes P s₀ t := by
  unfold Writes
  rw [e]
  exact h

theorem setWord {a w} (h : Writes P s₀ s) (ha : P a) : Writes P s₀ (s.setWord a w) := h.tail ⟨a, w, ha, rfl⟩

theorem wr {f v} (h : Writes P s₀ s) (ha : P f.addr) : Writes P s₀ (s.wr f v) := h.setWord ha

theorem setFlag {f b} (h : Writes P s₀ s) (ha : P f.addr) : Writes P s₀ (s.setFlag f b) := h.wr ha

theorem setEvent {f} (h : Writes P s₀ s) (ha : P f.addr) : Writes P s₀ (s.setEvent f) := (h.setFlag ha).regs_eq rfl

theorem addCounter {w n} (h : Writes P s₀ s) (lo : P w.addr) (hi : P (w.addr + 4)) : Writes P s₀ (s.addCounter w n) :=
  (h.setWord lo).setWord hi

theorem foldl {β : Type} {f : State → β → State} {l : List β} (h : Writes P s₀ s)
    (step : ∀ {s b}, Writes P s₀ s → Writes P s₀ (f s b)) : Writes P s₀ (l.foldl f s) := by
  induction l generalizing s with
  | nil => exact h
  | cons b rest ih => exact ih (step h)

theorem latchSeal {src} (h : Writes P s₀ s) : Writes P s₀ (s.latchSeal src) := by
  refine h.regs_eq ?_
  unfold State.latchSeal
  split <;> rfl

/-! ### What a report writes -/

section
variable (shared : ∀ a, SharedWord a → P a)
include shared

theorem signalVector {v} (h : Writes P s₀ s) : Writes P s₀ (s.signalVector v) := by
  have armed : P (vecArmed v).addr := shared _ (by simp only [SharedWord, vecArmed, F.VEC_ARMED.ARMED, tilesFrom]; omega)
  have pending : P (vecPending v).addr := shared _ (by simp only [SharedWord, vecPending, F.PBA.PENDING, tilesFrom]; omega)
  unfold State.signalVector
  split
  · have disarmed : Writes P s₀ ((s.setFlag (vecArmed v) false).note (vecArmed v).key) := (h.setFlag armed).regs_eq rfl
    unfold State.sendVector
    split
    · exact disarmed.regs_eq rfl
    · exact disarmed.setFlag pending
  · exact h

/-- A powered source that is raised sets its REAL bit; all else that it writes is shared. -/
theorem raiseOne_setEvent {src} (powered : s.srcPowered src = true) : Writes P (s.setEvent src.real) (s.raiseOne src).1 := by
  have signalled : Writes P (s.setEvent src.real)
      ((((s.setEvent src.real).latchSeal src).signalVector src.block.vector).deliver src.code false).1 :=
    ((Writes.refl P _).latchSeal.signalVector shared).regs_eq rfl
  unfold State.raiseOne
  rw [powered]
  split
  · contradiction
  split
  · exact Writes.refl P _
  dsimp only
  split
  · exact signalled
  · exact signalled.addCounter (shared _ (by decide)) (shared _ (by decide))

theorem raiseOne {src} (h : Writes P s₀ s) (real : P src.block.real) : Writes P s₀ (s.raiseOne src).1 := by
  cases powered : s.srcPowered src with
  | true => exact (h.setEvent real).trans (raiseOne_setEvent shared powered)
  | false =>
    refine h.regs_eq ?_
    simp [State.raiseOne, powered]

end
end Writes

theorem saturatedSource_shared (a : Nat) : SharedWord (saturatedSource a).block.real := by
  unfold saturatedSource
  split <;> decide

theorem State.saturates_shared (s : State) (w : Wide) (n : Nat) : ∀ x ∈ s.saturates w n, SharedWord x.block.real := by
  intro x hx
  unfold State.saturates at hx
  split at hx
  · rw [List.mem_singleton.mp hx]
    exact saturatedSource_shared _
  · cases hx

/-- The sources that a raise raises in turn are Mortar's. -/
theorem State.raiseOne_raises_shared (s : State) (src : Source) : ∀ x ∈ (s.raiseOne src).2, SharedWord x.block.real := by
  intro x hx
  refine ⟨?_, s.raiseOne_raises_below src x hx⟩
  unfold State.raiseOne at hx
  split at hx
  · cases hx
  split at hx
  · cases hx
  dsimp only at hx
  split at hx
  · cases hx
  rcases List.mem_cons.mp hx with rfl | later
  · decide
  · exact (State.saturates_shared _ _ _ x later).1

namespace Writes
variable {P : Nat → Prop} {s₀ s : State} (shared : ∀ a, SharedWord a → P a)
include shared

theorem raiseAll {n : Nat} {l : List Source} (h : Writes P s₀ s) (real : ∀ x ∈ l, P x.block.real) :
    Writes P s₀ (State.raiseAll n s l) := by
  induction n generalizing s l with
  | zero => exact h
  | succ n ih =>
    cases l with
    | nil => exact h
    | cons src rest =>
      refine ih (h.raiseOne shared (real src List.mem_cons_self)) fun x hx => ?_
      rcases List.mem_append.mp hx with raised | later
      · exact shared _ (s.raiseOne_raises_shared src x raised)
      · exact real x (List.mem_cons_of_mem _ later)

theorem raise {src} (h : Writes P s₀ s) (real : P src.block.real) : Writes P s₀ (s.raise src) :=
  h.raiseAll shared fun _ hx => List.mem_singleton.mp hx ▸ real

theorem bumpBy {w n} (h : Writes P s₀ s) (lo : P w.addr) (hi : P (w.addr + 4)) : Writes P s₀ (s.bumpBy w n) :=
  (h.addCounter lo hi).raiseAll shared fun x hx => shared _ (s.saturates_shared w n x hx)

theorem bump {w} (h : Writes P s₀ s) (lo : P w.addr) (hi : P (w.addr + 4)) : Writes P s₀ (s.bump w) :=
  h.bumpBy shared lo hi

end Writes

/-- A powered source of a block below HOSTIF's shows its REAL bit once raised. -/
theorem State.flag_raise_low (s : State) (src : Source) (low : src.block.real < 0x30000) (bit : src.bit < 32)
    (powered : s.srcPowered src = true) : (s.raise src).flag src.real = true := by
  have set : (s.setEvent src.real).flag src.real = true :=
    beq_iff_eq.mpr (s.rd_wr_same src.real bit (show 1 < 2 ^ src.real.width from Nat.one_lt_two))
  have writes : Writes SharedWord (s.setEvent src.real) (s.raise src) := by
    refine (Writes.raiseOne_setEvent (fun _ => id) powered).raiseAll (fun _ => id) fun x hx => ?_
    rw [List.append_nil] at hx
    exact s.raiseOne_raises_shared src x hx
  have apart : ¬ SharedWord src.real.addr := fun within => Nat.not_le_of_lt low within.1
  rw [State.flag, writes.rd apart]
  exact set

end Sys2Proof.Machine

namespace Sys2Proof.Machine

/-! ## The drive rails and DRV_ENABLE

What drive-rail-good clears in a tile's words stays clear through the resets of the other tiles, whatever the register list looks
like: so the invariant speaks of every listed entry (`LatchClear`). -/

theorem mem_dieTiles {d : Fin 4} {x : Fin 76} (die : x.val / 19 = d.val) : x.val ∈ dieTiles d :=
  List.mem_map.mpr ⟨x.val % 19, List.mem_range.mpr (Nat.mod_lt _ (by decide)), by omega⟩

theorem lt_of_mem_dieTiles {d : Fin 4} {y : Nat} (h : y ∈ dieTiles d) : y < 76 := by
  obtain ⟨n, hn, rfl⟩ := List.mem_map.mp h
  have := List.mem_range.mp hn
  omega

theorem getLsbD_setBit_same {w : Nat} (m : BitVec w) {n : Nat} (b : Bool) (h : n < w) : (setBit m n b).getLsbD n = b := by
  have bit : (BitVec.ofNat w (2 ^ n)).getLsbD n = true := by
    rw [BitVec.getLsbD_ofNat, Nat.testBit_two_pow_self, decide_eq_true h, Bool.and_self]
  cases b with
  | true => rw [setBit, if_pos rfl, BitVec.getLsbD_or, bit, Bool.or_true]
  | false => rw [setBit, if_neg Bool.false_ne_true, BitVec.getLsbD_and, BitVec.getLsbD_not, bit, Bool.not_true, Bool.and_false,
      Bool.and_false]

/-- A fold does at `x` what its step at `x` does, where every later step keeps that; `I` holds all along. -/
theorem foldl_reaches {β : Type} {I P : State → Prop} {f : State → β → State} {l : List β} {x : β} (hx : x ∈ l)
    (inv : ∀ s y, y ∈ l → I s → I (f s y)) (reach : ∀ s, I s → P (f s x))
    (keep : ∀ s y, y ∈ l → I s → P s → P (f s y)) {s : State} (h : I s) : P (l.foldl f s) := by
  obtain ⟨before, after, rfl⟩ := List.append_of_mem hx
  have early : I (before.foldl f s) := List.foldlRecOn before f h fun t ht y hy => inv t y (by simp [hy]) ht
  rw [List.foldl_append, List.foldl_cons]
  refine (List.foldlRecOn (motive := fun t => I t ∧ P t) after f ⟨inv _ x hx early, reach _ early⟩ fun t ht y hy => ?_).2
  have hy' : y ∈ before ++ x :: after := by simp [hy]
  exact ⟨inv t y hy' ht.1, keep t y hy' ht.1 ht.2⟩

/-! ### What the latches hold at the Cold values -/

/-- Rows of the tiles' tables with another Cold value than 0 are those of words that no analogue latch holds. -/
theorem coldRows_unlatched : (regTables.all fun e => decide (e.2.1 < 0x500000) || decide (0x630000 ≤ e.1) ||
    e.2.2.all fun r => r.cold == 0 ||
      (r.dims == [(16384, 76)] && decide (0x500000 ≤ r.addr) && decide (r.addr < 0x504000) && latchMask r.addr == 0)) = true := by
  decide

theorem latchMask_outside {a : Nat} (h : a < 0x500000 ∨ 0x630000 ≤ a) : latchMask a = 0 := by
  unfold latchMask
  exact if_pos (by omega)

theorem latchMask_repeats {a k : Nat} (lo : 0x500000 ≤ a) (hi : a + 16384 * k < 0x630000) :
    latchMask (a + 16384 * k) = latchMask a := by
  have same : (a + 16384 * k - 0x500000) % 16384 = (a - 0x500000) % 16384 := by omega
  have outside : (a + 16384 * k < 0x500000 ∨ 0x630000 ≤ a + 16384 * k ∨ 0x2000 ≤ (a - 0x500000) % 16384) ↔
      (a < 0x500000 ∨ 0x630000 ≤ a ∨ 0x2000 ≤ (a - 0x500000) % 16384) := by omega
  simp only [latchMask, same, outside]

/-- A row that covers a latched word has the Cold value 0. -/
theorem cold_of_latched {a : Nat} (latched : latchMask a ≠ 0) : ∀ r ∈ rowsAt a, r.cold = 0 := by
  have inside : 0x500000 ≤ a ∧ a < 0x630000 := by
    by_contra outside
    exact latched (latchMask_outside (by omega))
  intro r hr
  obtain ⟨⟨lo, hi, rows⟩, table, within⟩ := List.mem_flatMap.mp hr
  dsimp only at within
  split at within
  · next range =>
    obtain ⟨member, covers⟩ := List.mem_filter.mp within
    have checked := List.all_eq_true.mp coldRows_unlatched _ table
    simp only [Bool.or_eq_true, decide_eq_true_eq] at checked
    rcases checked with (below | above) | checked
    · omega
    · omega
    have row := List.all_eq_true.mp checked r member
    simp only [Bool.or_eq_true, Bool.and_eq_true, decide_eq_true_eq, beq_iff_eq] at row
    rcases row with cold | ⟨⟨⟨dims, from_⟩, _⟩, unlatched⟩
    · exact cold
    · simp only [RegRow.covers, dims, hitDims, Bool.and_eq_true, decide_eq_true_eq, beq_iff_eq] at covers
      obtain ⟨le, _, whole⟩ := covers
      have place : a = r.addr + 16384 * ((a - r.addr) / 16384) := by omega
      rw [place, latchMask_repeats from_ (by omega)] at latched
      exact absurd unlatched latched
  · cases within

theorem coldWord_latched (a : Nat) : coldWord a &&& latchMask a = 0 := by
  by_cases latched : latchMask a = 0
  · rw [latched]
    exact BitVec.and_zero
  · have thermal : ¬ (a = 0x90020 ∧ Config.orderCodeE = true) := by
      rintro ⟨rfl, _⟩
      exact latched (latchMask_outside (by decide))
    have zero : (rowsAt a).foldl (fun acc r => acc + r.cold * 2 ^ r.lsb) 0 = 0 := by
      refine List.foldlRecOn (motive := (· = 0)) _ _ rfl fun acc hacc r hr => ?_
      rw [hacc, cold_of_latched latched r hr, Nat.zero_mul]
    rw [coldWord, if_neg thermal, zero]
    exact BitVec.zero_and

/-! ### What drive-rail-good clears -/

/-- Every entry that the register list holds for the word at `a` has its latched bits clear. -/
def State.LatchClear (s : State) (a : Nat) : Prop := ∀ e ∈ s.regs, e.1 = a → e.2 &&& latchMask a = 0

theorem sparseGet_of_forall {α : Type} {d : Nat → α} {l : List (Nat × α)} {k : Nat} {C : α → Prop} (default : C (d k))
    (listed : ∀ e ∈ l, e.1 = k → C e.2) : C (sparseGet d l k) := by
  induction l with
  | nil => exact default
  | cons e rest ih =>
    unfold sparseGet
    split
    · next here => exact listed e List.mem_cons_self here
    · exact ih fun x hx => listed x (List.mem_cons_of_mem _ hx)

theorem State.LatchClear.word {s : State} {a : Nat} (h : s.LatchClear a) : s.word a &&& latchMask a = 0 :=
  sparseGet_of_forall (C := fun w => w &&& latchMask a = 0) (coldWord_latched a) h

theorem State.LatchClear.word_eq_zero {s : State} {a : Nat} (h : s.LatchClear a) (all : latchMask a = 0xFFFFFFFF) :
    s.word a = 0 := by
  have := h.word
  rwa [all, show (0xFFFFFFFF : Word) = BitVec.allOnes 32 from rfl, BitVec.and_allOnes] at this

/-- An entry after a reset of a tile's latches is what the reset makes of an entry before it. -/
theorem State.mem_resetLatches {s : State} {t : Nat} {e : Nat × Word} (h : e ∈ (s.resetLatches t).regs) :
    ∃ w, (e.1, w) ∈ s.regs ∧ e.2 = latchReset t e.1 w := by
  obtain ⟨old, listed, rfl⟩ := List.mem_map.mp (List.mem_of_mem_filter h)
  exact ⟨old.2, listed, rfl⟩

/-- The reset of a tile clears the latched bits of the words in its window. -/
theorem latchReset_clears {t a : Nat} (own : 0x500000 + 16384 * t ≤ a ∧ a < 0x504000 + 16384 * t) (w : Word) :
    latchReset t a w &&& latchMask a = 0 := by
  rw [latchReset, if_pos own, BitVec.and_assoc, BitVec.not_and_self]
  exact BitVec.and_zero

theorem State.resetLatches_clears (s : State) {t a : Nat} (own : 0x500000 + 16384 * t ≤ a ∧ a < 0x504000 + 16384 * t) :
    (s.resetLatches t).LatchClear a := by
  intro e he ha
  obtain ⟨w, _, reset⟩ := State.mem_resetLatches he
  rw [reset, ha, latchReset_clears own]

theorem State.LatchClear.resetLatches {s : State} {a : Nat} (h : s.LatchClear a) (t : Nat) :
    (s.resetLatches t).LatchClear a := by
  intro e he ha
  obtain ⟨w, listed, reset⟩ := State.mem_resetLatches he
  have clear : w &&& latchMask a = 0 := h _ listed ha
  rw [reset, ha]
  by_cases own : 0x500000 + 16384 * t ≤ a ∧ a < 0x504000 + 16384 * t
  · exact latchReset_clears own w
  · rw [latchReset, if_neg own, clear]

/-- Resets of the latches touch registers and tiles only. -/
theorem State.foldl_resetLatches_eq (l : List Nat) (s : State) : l.foldl State.resetLatches s =
    { s with regs := (l.foldl State.resetLatches s).regs, tiles := (l.foldl State.resetLatches s).tiles } := by
  induction l generalizing s with
  | nil => rfl
  | cons t rest ih => exact ih (s.resetLatches t)

theorem State.tile_setTile_same (s : State) (t : Nat) (x : Tile) : (s.setTile t x).tile t = x :=
  sparseGet_put_same _ s.tiles t x

theorem State.tile_setTile_other (s : State) {t u : Nat} (x : Tile) (h : u ≠ t) : (s.setTile t x).tile u = s.tile u :=
  sparseGet_put_other _ s.tiles t u x h

/-- Tile `x` stands at its power-up outputs: clamped, forced to zero, every latch clear. -/
structure State.AtPowerUp (s : State) (x : Nat) : Prop where
  pockFree : (s.tile x).pockFree = false
  htrFree : (s.tile x).htrFree = 0
  latches : ∀ a, 0x500000 + 16384 * x ≤ a → a < 0x504000 + 16384 * x → s.LatchClear a

theorem State.resetLatches_atPowerUp (s : State) (x : Nat) : (s.resetLatches x).AtPowerUp x where
  pockFree := by rw [State.resetLatches, State.tile_setTile_same]
  htrFree := by rw [State.resetLatches, State.tile_setTile_same]
  latches _ lo hi := s.resetLatches_clears ⟨lo, hi⟩

theorem State.AtPowerUp.resetLatches {s : State} {x : Nat} (h : s.AtPowerUp x) (y : Nat) :
    (s.resetLatches y).AtPowerUp x := by
  by_cases other : x = y
  · exact other ▸ s.resetLatches_atPowerUp x
  · have tile : (s.resetLatches y).tile x = s.tile x := State.tile_setTile_other _ _ other
    exact ⟨tile ▸ h.pockFree, tile ▸ h.htrFree, fun a lo hi => (h.latches a lo hi).resetLatches y⟩

end Sys2Proof.Machine

namespace Sys2Proof.Machine

/-! ### The outputs of a tile at power-up -/

theorem latchMask_at {x o : Nat} (hx : x < 76) (ho : o < 0x2000) : latchMask (0x500000 + 16384 * x + o) =
    if o = 4 ∨ o = 0xD14 ∨ o = 0xD18 then 0xFFFFFFFF
    else if 0x100 ≤ o ∧ o < 0x900 ∧ o % 32 = 0x10 then 0xFFFFFFFF
    else if 0x100 ≤ o ∧ o < 0x900 ∧ o % 32 = 0x14 then 0x3
    else if 0x900 ≤ o ∧ o < 0xD00 ∧ o % 16 = 8 then 0x1FFFF
    else 0 := by
  have offset : (0x500000 + 16384 * x + o - 0x500000) % 16384 = o := by omega
  rw [latchMask, offset, if_neg (by omega)]

theorem bitsOf_zero_of_clear {w m : Word} {lsb width : Nat} (clear : w &&& m = 0)
    (held : ∀ i < width, m.getLsbD (lsb + i) = true) : bitsOf w lsb width = 0 := by
  refine Nat.eq_of_testBit_eq fun i => ?_
  rw [testBit_bitsOf, Nat.zero_testBit]
  by_cases inside : i < width
  · have bit := congrArg (BitVec.getLsbD · (lsb + i)) clear
    simp only [BitVec.getLsbD_and, held i inside, Bool.and_true] at bit
    rw [BitVec.testBit_toNat, bit]
    simp
  · simp [inside]

section
variable {s : State} {x : Nat} (h : s.AtPowerUp x) (hx : x < 76)
include h

/-- Bits that the latches of the tile hold read 0. -/
theorem State.AtPowerUp.bitsOf_eq_zero {o : Nat} {m : Word} (lsb width : Nat) (inside : o < 0x2000)
    (mask : latchMask (0x500000 + 16384 * x + o) = m) (held : ∀ i < width, m.getLsbD (lsb + i) = true) :
    bitsOf (s.word (0x500000 + 16384 * x + o)) lsb width = 0 :=
  bitsOf_zero_of_clear (mask ▸ (h.latches _ (by omega) (by omega)).word) held

include hx

theorem State.AtPowerUp.enables : s.flag (F.DRV_ENABLE.POCK_EN x) = false ∧ s.flag (F.DRV_ENABLE.HTR_EN x) = false := by
  have mask : latchMask (0x500000 + 16384 * x + 4) = 0xFFFFFFFF := latchMask_at hx (by decide)
  have place : (F.DRV_ENABLE.POCK_EN x).addr = 0x500000 + 16384 * x + 4 := by
    simp only [F.DRV_ENABLE.POCK_EN]
    omega
  have pock : s.rd (F.DRV_ENABLE.POCK_EN x) = 0 :=
    (congrArg (fun a => bitsOf (s.word a) 0 1) place).trans (h.bitsOf_eq_zero 0 1 (by decide) mask (by decide))
  have heater : s.rd (F.DRV_ENABLE.HTR_EN x) = 0 :=
    (congrArg (fun a => bitsOf (s.word a) 1 1) place).trans (h.bitsOf_eq_zero 1 1 (by decide) mask (by decide))
  rw [State.flag, State.flag, pock, heater]
  exact ⟨rfl, rfl⟩

theorem State.AtPowerUp.codes {ch : Nat} (hch : ch < 64) : s.rd (F.POCK_ACT.ACT0 x ch) = 0 ∧
    s.rd (F.POCK_ACT.ACT1 x ch) = 0 ∧ s.rd (F.HTR_ACT.ACT_CODE x ch) = 0 := by
  have pockMask : latchMask (0x500000 + 16384 * x + (0x110 + 32 * ch)) = 0xFFFFFFFF := by
    rw [latchMask_at hx (by omega), if_neg (by omega), if_pos (by omega)]
  have heaterMask : latchMask (0x500000 + 16384 * x + (0x908 + 16 * ch)) = 0x1FFFF := by
    rw [latchMask_at hx (by omega), if_neg (by omega), if_neg (by omega), if_neg (by omega), if_pos (by omega)]
  have pock : (F.POCK_ACT.ACT0 x ch).addr = 0x500000 + 16384 * x + (0x110 + 32 * ch) := by
    simp only [F.POCK_ACT.ACT0]
    omega
  have heater : (F.HTR_ACT.ACT_CODE x ch).addr = 0x500000 + 16384 * x + (0x908 + 16 * ch) := by
    simp only [F.HTR_ACT.ACT_CODE]
    omega
  exact ⟨(congrArg (fun a => bitsOf (s.word a) 0 16) pock).trans (h.bitsOf_eq_zero 0 16 (by omega) pockMask (by decide)),
    (congrArg (fun a => bitsOf (s.word a) 16 16) pock).trans (h.bitsOf_eq_zero 16 16 (by omega) pockMask (by decide)),
    (congrArg (fun a => bitsOf (s.word a) 0 16) heater).trans (h.bitsOf_eq_zero 0 16 (by omega) heaterMask (by decide))⟩

theorem State.AtPowerUp.shutters : s.rdW (F.SHUT_ACT x) = 0 := by
  have word : ∀ o, o = 0xD14 ∨ o = 0xD18 → s.word (0x500000 + 16384 * x + o) = 0 := fun o ho =>
    (h.latches _ (by omega) (by omega)).word_eq_zero <| (latchMask_at hx (by omega)).trans (if_pos (.inr ho))
  have place : (F.SHUT_ACT x).addr = 0x500000 + 16384 * x + 0xD14 := by
    simp only [F.SHUT_ACT]
    omega
  rw [State.rdW, place, word _ (.inl rfl), show 0x500000 + 16384 * x + 0xD14 + 4 = 0x500000 + 16384 * x + 0xD18 from rfl,
    word _ (.inr rfl)]
  rfl

end

theorem driveRailGood_powersUp (s : State) (d : Fin 4) (x : Fin 76) (rails : s.power.rails = true)
    (die : x.val / 19 = d.val) :
    ∃ t, exec (.driveRailGood d) s = .next t ∧ t.power.drive.getLsbD d = true ∧
      t.flag (F.DRV_ENABLE.POCK_EN x) = false ∧ t.flag (F.DRV_ENABLE.HTR_EN x) = false ∧ (t.tile x).pockFree = false ∧
      (t.tile x).htrFree = 0 ∧ t.rdW (F.SHUT_ACT x) = 0 ∧
      (∀ ch, ch < 64 → t.rd (F.POCK_ACT.ACT0 x ch) = 0 ∧ t.rd (F.POCK_ACT.ACT1 x ch) = 0 ∧
        t.rd (F.HTR_ACT.ACT_CODE x ch) = 0 ∧ t.pockOutput x ch = 0 ∧ t.heaterOutput x ch = 0 ∧ t.shutterOpen x ch = false) ∧
      t.mem = s.mem ∧ t.outbox = s.outbox := by
  refine ⟨_, congrArg Host.Outcome.next (if_pos rails), ?_⟩
  generalize entered : { s with power := { s.power with drive := setBit s.power.drive d true } } = u
  have good : u.power.drive.getLsbD d = true := entered ▸ getLsbD_setBit_same _ true d.isLt
  have up : ((dieTiles d).foldl State.resetLatches u).AtPowerUp x :=
    foldl_reaches (I := fun _ => True) (P := fun t => t.AtPowerUp x) (mem_dieTiles die) (fun _ _ _ _ => trivial)
      (fun s _ => s.resetLatches_atPowerUp x)
      (fun _ y _ _ h => h.resetLatches y) trivial
  have frame := u.foldl_resetLatches_eq (dieTiles d)
  generalize (dieTiles d).foldl State.resetLatches u = t at up frame
  have drive : t.power.drive.getLsbD d = true := by
    rw [frame]
    exact good
  have railGood : t.railGood x = true := by
    rw [State.railGood, tileDie, die, drive]
  obtain ⟨pockOff, heaterOff⟩ := up.enables x.isLt
  refine ⟨drive, pockOff, heaterOff, up.pockFree, up.htrFree, up.shutters x.isLt, fun ch hch => ?_, ?_, ?_⟩
  · obtain ⟨act0, act1, code⟩ := up.codes x.isLt hch
    refine ⟨act0, act1, code, ?_, ?_, ?_⟩
    · rw [State.pockOutput, up.pockFree, Bool.and_false]
      rfl
    · rw [State.heaterOutput, up.htrFree]
      simp
    · rw [State.shutterOpen, railGood, up.shutters x.isLt, Nat.zero_testBit]
      rfl
  · rw [frame, ← entered]
  · rw [frame, ← entered]

/-! ### A drive rail fails -/

/-- What a failing drive rail does to one of its tiles. -/
def State.railLost (s : State) (t : Nat) : State := (s.abandonCal t).raise (Src.DRIVE.DRV_RAIL t)

theorem State.railLost_keeps (s : State) (t : Nat) : Keeps (fun _ => False) s (s.railLost t) :=
  (Keeps.refl _ s).abandonCal.raise

theorem State.railLost_power (s : State) (t : Nat) : (s.railLost t).power = s.power :=
  ((s.railLost_keeps t).same .power).resolve_left id

theorem State.railLost_mem (s : State) (t : Nat) : (s.railLost t).mem = s.mem :=
  ((s.railLost_keeps t).same .mem).resolve_left id

theorem lookup_filter_same {κ β : Type} [DecidableEq κ] (l : List (κ × β)) (k : κ) :
    (l.filter fun e => decide (e.1 ≠ k)).lookup k = none := by
  refine List.lookup_eq_none_iff.mpr fun e he => ?_
  have other := (List.mem_filter.mp he).2
  simpa using Ne.symm (of_decide_eq_true other)

theorem State.settleTile_reports (s : State) (t : Nat) : Reports s (s.settleTile t) :=
  Reports.foldl _ (fun s l => s.wr_reports (loopStatState l) (s.loopState l)) _ s

theorem Reports.calib {s t : State} (h : Reports s t) : t.calib = s.calib := by rw [h.same]

theorem State.endCal_calib (s : State) (t : Nat) :
    (s.endCal t).calib = { s.calib with runs := s.calib.runs.filter fun e => decide (e.1 ≠ t) } := by
  rw [← (s.settleTile_reports t).calib]
  simp only [State.endCal, State.setTile_calib, State.wr_calib, State.setFlag_calib]

theorem State.calRunning_abandonCal_same (s : State) (t : Nat) : (s.abandonCal t).calRunning t = false := by
  unfold State.abandonCal State.calRunning
  split
  · rw [State.endCal_calib, lookup_filter_same]
    rfl
  · next idle => exact Bool.eq_false_iff.mpr idle

theorem State.calRunning_abandonCal_other (s : State) {t x : Nat} (other : x ≠ t) :
    (s.abandonCal t).calRunning x = s.calRunning x := by
  unfold State.abandonCal State.calRunning
  split
  · rw [State.endCal_calib, lookup_filter_ne _ other]
  · rfl

theorem State.calRunning_raise (s : State) (src : Source) (x : Nat) : (s.raise src).calRunning x = s.calRunning x := by
  rw [State.calRunning, (s.raise_reports src).same]
  rfl

theorem loopStatState_shared (l : Nat) : SharedWord (loopStatState l).addr := by
  simp only [SharedWord, loopStatState, F.LOOP_STAT.STATE, tilesFrom]
  omega

theorem calBusy_shared (t : Nat) : SharedWord (F.TILE_CAL_STAT.BUSY t).addr := by
  simp only [SharedWord, F.TILE_CAL_STAT.BUSY, tilesFrom]
  omega

theorem State.settleTile_writes (s : State) (t : Nat) : Writes SharedWord s (s.settleTile t) :=
  (Writes.refl _ s).foldl fun h => h.wr (loopStatState_shared _)

/-- Abandoning a calibration writes the states of the tile's loops and CALIB's words. -/
theorem State.abandonCal_writes (s : State) (t : Nat) : Writes SharedWord s (s.abandonCal t) := by
  unfold State.abandonCal
  split
  · unfold State.endCal
    extract_lets settled _ ended shown _
    have h1 : Writes SharedWord s settled := s.settleTile_writes t
    have h2 : Writes SharedWord s ended := h1.regs_eq rfl
    have h3 : Writes SharedWord s shown := (h2.setFlag (calBusy_shared t)).wr (by decide)
    exact h3.regs_eq (State.setTile_regs _ _ _)
  · exact Writes.refl _ s

/-- The drive rail's failure shows at the tile, and its calibration is over. -/
structure State.RailReported (s : State) (x : Nat) : Prop where
  idle : s.calRunning x = false
  shown : s.flag (Src.DRIVE.DRV_RAIL x).real = true

theorem driveReal_above (x : Nat) : tilesFrom ≤ (FB.DRIVE x).real := by
  simp only [FB.DRIVE, tilesFrom]
  omega

theorem State.railLost_reports (s : State) (x : Nat) (vin : s.power.vin = true) (up : s.power.mainUp = true) :
    (s.railLost x).RailReported x where
  idle := (State.calRunning_raise _ _ x).trans (s.calRunning_abandonCal_same x)
  shown := by
    have power : (s.abandonCal x).power = s.power :=
      ((Keeps.refl (fun _ => False) s).abandonCal.same .power).resolve_left id
    refine State.flag_raise_tile _ _ (driveReal_above x) (show 6 < 32 by decide) ?_
    simp [State.srcPowered, State.powered, power, vin, up]

theorem State.RailReported.railLost {s : State} {x y : Nat} (h : s.RailReported x) (hx : x < 76) (hy : y < 76)
    (other : x ≠ y) : (s.railLost y).RailReported x where
  idle := (State.calRunning_raise _ _ x).trans ((s.calRunning_abandonCal_other other).trans h.idle)
  shown := by
    have apart : (FB.DRIVE x).real ≠ (FB.DRIVE y).real := by
      simp only [FB.DRIVE]
      omega
    have abandoned : (s.abandonCal y).word (FB.DRIVE x).real = s.word (FB.DRIVE x).real :=
      (s.abandonCal_writes y).word fun within => Nat.not_le_of_lt within.2 (driveReal_above x)
    have raised : (s.railLost y).word (FB.DRIVE x).real = (s.abandonCal y).word (FB.DRIVE x).real :=
      State.word_raiseAll_tile 8 _ _ (driveReal_above x) fun src hsrc => List.mem_singleton.mp hsrc ▸ apart
    rw [State.flag, State.rd, show (Src.DRIVE.DRV_RAIL x).real.addr = (FB.DRIVE x).real from rfl, raised, abandoned]
    exact h.shown

/-- After the failures of a die's tiles each of them has reported; power and memory stand as before. -/
theorem State.foldl_railLost (s : State) {d : Fin 4} {x : Fin 76} (vin : s.power.vin = true) (up : s.power.mainUp = true)
    (die : x.val / 19 = d.val) :
    ((dieTiles d).foldl State.railLost s).power = s.power ∧ ((dieTiles d).foldl State.railLost s).mem = s.mem ∧
      ((dieTiles d).foldl State.railLost s).RailReported x := by
  have reports : ∀ u : State, u.power = s.power → (u.railLost x).RailReported x := fun u h =>
    u.railLost_reports x (h ▸ vin) (h ▸ up)
  refine ⟨List.foldlRecOn (motive := fun u : State => u.power = s.power) _ _ rfl fun u h y _ => (u.railLost_power y).trans h,
    List.foldlRecOn (motive := fun u : State => u.mem = s.mem) _ _ rfl fun u h y _ => (u.railLost_mem y).trans h, ?_⟩
  refine foldl_reaches (I := fun u => u.power = s.power) (P := fun u => u.RailReported x) (mem_dieTiles die)
    (fun u y _ h => (u.railLost_power y).trans h) reports (fun u y hy h reported => ?_) rfl
  by_cases other : x.val = y
  · exact other ▸ reports u h
  · exact reported.railLost x.isLt (lt_of_mem_dieTiles hy) other

theorem driveRailFail_undrives (s : State) (d : Fin 4) (x : Fin 76) (vin : s.power.vin = true) (up : s.power.mainUp = true)
    (die : x.val / 19 = d.val) :
    ∃ t, exec (.driveRailFail d) s = .next t ∧ t.power.drive.getLsbD d = false ∧ t.calRunning x = false ∧
      t.flag (Src.DRIVE.DRV_RAIL x).real = true ∧
      (∀ ch, t.pockOutput x ch = 0 ∧ t.heaterOutput x ch = 0 ∧ t.shutterOpen x ch = true) ∧ t.mem = s.mem := by
  refine ⟨(dieTiles d).foldl State.railLost { s with power := { s.power with drive := setBit s.power.drive d false } }, rfl, ?_⟩
  obtain ⟨power, mem, reported⟩ := State.foldl_railLost
    { s with power := { s.power with drive := setBit s.power.drive d false } } vin up die
  generalize (dieTiles d).foldl State.railLost _ = t at power mem reported ⊢
  have drive : t.power.drive.getLsbD d = false := by
    rw [power]
    exact getLsbD_setBit_same _ false d.isLt
  have rail : t.railGood x = false := by
    rw [State.railGood, tileDie, die, drive]
  refine ⟨drive, reported.idle, reported.shown, fun ch => ?_, mem⟩
  simp [State.pockOutput, State.heaterOutput, State.shutterOpen, rail]

/-! ### DRV_ENABLE -/

theorem bitsOf_one_beq (w : Word) (n : Nat) : (bitsOf w n 1 == 1) = w.getLsbD n := by
  rw [bitsOf, pow_one, BitVec.getLsbD, Nat.testBit_eq_decide_div_mod_eq]
  rfl

theorem bitsOf_lt (w : Word) (lsb width : Nat) : bitsOf w lsb width < 2 ^ width := Nat.mod_lt _ (Nat.two_pow_pos _)

/-- The two bits of DRV_ENABLE as a write leaves them. -/
def State.putEnables (s : State) (x : Nat) (w : Word) : State :=
  (s.wr (F.DRV_ENABLE.POCK_EN x) (bitsOf w 0 1)).wr (F.DRV_ENABLE.HTR_EN x) (bitsOf w 1 1)

theorem State.flag_putEnables (s : State) (x : Nat) (w : Word) :
    (s.putEnables x w).flag (F.DRV_ENABLE.POCK_EN x) = w.getLsbD 0 ∧
      (s.putEnables x w).flag (F.DRV_ENABLE.HTR_EN x) = w.getLsbD 1 := by
  have pock : (s.putEnables x w).rd (F.DRV_ENABLE.POCK_EN x) = bitsOf w 0 1 := by
    rw [State.putEnables, State.rd_wr_disjoint _ _ (show 1 + 1 ≤ 32 by decide) (.inr (.inr (show 0 + 1 ≤ 1 by decide)))]
    exact s.rd_wr_same _ (show 0 + 1 ≤ 32 by decide) (bitsOf_lt w 0 1)
  have heater : (s.putEnables x w).rd (F.DRV_ENABLE.HTR_EN x) = bitsOf w 1 1 :=
    State.rd_wr_same _ _ (show 1 + 1 ≤ 32 by decide) (bitsOf_lt w 1 1)
  rw [State.flag, State.flag, pock, heater]
  exact ⟨bitsOf_one_beq w 0, bitsOf_one_beq w 1⟩

theorem State.word_putEnables_other (s : State) (x : Nat) (w : Word) {a : Nat} (other : a ≠ (F.DRV_ENABLE.POCK_EN x).addr) :
    (s.putEnables x w).word a = s.word a := by
  have heater : a ≠ (F.DRV_ENABLE.HTR_EN x).addr := other
  rw [State.putEnables, State.word_wr_other _ _ _ a heater, s.word_wr_other _ _ a other]

/-- A write of DRV_ENABLE: the two bits, then what the tile's clamps make of them. -/
theorem State.writeDrvEnable_eq (s : State) (x : Nat) (w : Word) : s.writeDrvEnable x w =
    (s.putEnables x w).setTile x { s.tile x with
      pockFree := (s.tile x).pockFree && w.getLsbD 0, htrFree := if w.getLsbD 1 then (s.tile x).htrFree else 0 } := by
  have tile : (s.putEnables x w).tile x = s.tile x := by
    rw [State.tile, State.putEnables, State.wr_tiles, State.wr_tiles, State.tile]
  rw [← tile]
  rfl

theorem drvEnableWrite_takes (s : State) (m : Master) (x : Fin 76) (w : Word)
    (ok : s.writeAccess m (F.DRV_ENABLE.POCK_EN x).addr = .ok) (linked : s.linkUp x = true) :
    ∃ t, exec (.drvEnableWrite m x w) s = .next t ∧ t.flag (F.DRV_ENABLE.POCK_EN x) = w.getLsbD 0 ∧
      t.flag (F.DRV_ENABLE.HTR_EN x) = w.getLsbD 1 ∧
      t.tile x = { s.tile x with
        pockFree := (s.tile x).pockFree && w.getLsbD 0, htrFree := if w.getLsbD 1 then (s.tile x).htrFree else 0 } ∧
      (∀ a, a ≠ (F.DRV_ENABLE.POCK_EN x).addr → t.word a = s.word a) ∧ t.mem = s.mem ∧ t.outbox = s.outbox := by
  refine ⟨_, congrArg Host.Outcome.next (s.gateTile_ok m x _ _ ok linked), ?_⟩
  obtain ⟨pock, heater⟩ := s.flag_putEnables x w
  rw [s.writeDrvEnable_eq]
  refine ⟨pock, heater, State.tile_setTile_same _ _ _, fun a => s.word_putEnables_other x w, ?_, ?_⟩
  · rw [State.setTile_mem, State.putEnables, State.wr_mem, State.wr_mem]
  · rw [State.setTile_outbox, State.putEnables, State.wr_outbox, State.wr_outbox]

/-- Settles O36: a rail that comes up resets every tile of its die (`AtPowerUp`), one that fails is reported by each
(`RailReported`), and neither undoes what it did to another tile. -/
theorem driveRailsAndEnablesClamp : Obligations.DriveRailsAndEnablesClamp := by
  unfold Obligations.DriveRailsAndEnablesClamp
  exact ⟨⟨driveRailGood_powersUp, fun s d off => congrArg Host.Outcome.next (if_neg (Bool.eq_false_iff.mp off)),
    driveRailFail_undrives⟩, drvEnableWrite_takes⟩

end Sys2Proof.Machine

namespace Sys2Proof.Machine

/-! ## What begins a cold start

`beginCold` is a chain of reports over the main side as its reset leaves it (`coldEntered`), then the tiles' outputs. Every word
that a report or a later step writes lies above START_STATUS and STRAPS, so both read what they were given. -/

/-! ### Words below the tiles through the reset of the outputs -/

theorem State.mapWords_noColdEntry (s : State) (f : Nat → Word → Word) : (s.mapWords f).NoColdEntry := fun _ he =>
  of_decide_eq_true (List.mem_filter.mp he).2

/-- A word that a map over the registers leaves as it is, where no entry equals its Cold value. -/
theorem State.word_mapWords_same {s : State} (none : s.NoColdEntry) {f : Nat → Word → Word} {a : Nat} (same : ∀ w, f a w = w) :
    (s.mapWords f).word a = s.word a := by
  suffices ∀ l : List (Nat × Word), (∀ e ∈ l, e.2 ≠ coldWord e.1) →
      sparseGet coldWord ((l.map fun e => (e.1, f e.1 e.2)).filter fun e => decide (e.2 ≠ coldWord e.1)) a =
        sparseGet coldWord l a from this s.regs none
  intro l hl
  induction l with
  | nil => rfl
  | cons e rest ih =>
    have tail := ih fun x hx => hl x (List.mem_cons_of_mem _ hx)
    obtain ⟨k, w⟩ := e
    rw [List.map_cons, List.filter_cons]
    by_cases here : k = a
    · subst here
      rw [same, if_pos (decide_eq_true (hl _ List.mem_cons_self)), sparseGet, if_pos rfl, sparseGet, if_pos rfl]
    · rw [sparseGet.eq_2 _ a, if_neg here, ← tail]
      split
      · rw [sparseGet, if_neg here]
      · rfl

theorem latchReset_below {t a : Nat} (below : a < tilesFrom) (w : Word) : latchReset t a w = w := by
  unfold latchReset tilesFrom at *
  exact if_neg (by omega)

theorem State.word_resetOutputs_below {s : State} (none : s.NoColdEntry) {a : Nat} (below : a < tilesFrom) :
    s.resetOutputs.word a = s.word a :=
  (List.foldlRecOn (motive := fun t : State => t.NoColdEntry ∧ t.word a = s.word a) s.goodTiles State.resetLatches
    ⟨none, rfl⟩ fun t h u _ => ⟨t.mapWords_noColdEntry (latchReset u),
      (State.word_mapWords_same h.1 (latchReset_below below)).trans h.2⟩).2

theorem State.resetOutputs_eq (s : State) :
    s.resetOutputs = { s with regs := s.resetOutputs.regs, tiles := s.resetOutputs.tiles } :=
  s.foldl_resetLatches_eq s.goodTiles

/-! ### The main side as its reset leaves it -/

theorem State.keepSealBits_reports (s : State) : Reports s s.keepSealBits := by
  unfold State.keepSealBits
  exact Reports.foldl _ (fun s _ => s.setFlag_reports _ _) s.seals s

theorem State.keepSealBits_writes (s : State) : Writes (fun _ => True) s s.keepSealBits :=
  (Writes.refl _ s).foldl fun h => h.setFlag trivial

theorem State.coldMain_noColdEntry (s : State) : s.coldMain.NoColdEntry := by
  refine (State.keepSealBits_writes _).noColdEntry ?_
  exact s.dropPulses.mapWords_noColdEntry coldKeep

/-- What a reset of the main side leaves of it. -/
structure State.MainForgotten (s t : State) : Prop where
  power : t.power = s.power
  dma : t.dma = []
  issueq : t.issueq = []
  sil : t.sil = State.reset.sil
  pcie : t.pcie = State.reset.pcie
  mem : t.mem = []
  seals : ∀ x ∈ s.seals, x ∈ t.seals

theorem State.MainForgotten.reports {s t u : State} (h : State.MainForgotten s t) (r : Reports t u) :
    State.MainForgotten s u := by
  obtain ⟨power, dma, issueq, sil, pcie, mem, seals⟩ := h
  refine ⟨?_, ?_, ?_, ?_, ?_, ?_, fun x hx => r.seals x (seals x hx)⟩
  · rw [r.same, power]
  · rw [r.same, dma]
  · rw [r.same, issueq]
  · rw [r.same, sil]
  · rw [r.same, pcie]
  · rw [r.same, mem]

theorem State.coldMain_forgets (s : State) : State.MainForgotten s s.coldMain := by
  have pulses := (Keeps.refl (fun _ => False) s).dropPulses.same
  have forgotten : State.MainForgotten s (((s.dropPulses).mapWords coldKeep).dropMainSnaps).forgetMain :=
    ⟨(pulses .power).resolve_left id, rfl, rfl, rfl, rfl, rfl, (pulses .seals).resolve_left id⟩
  exact forgotten.reports (State.keepSealBits_reports _)

/-- The main side out of reset, with nothing of its former work. -/
def State.coldEntered (s : State) : State := { s.coldMain with power := { s.coldMain.power with mainUp := true } }

/-- START_STATUS as a cold start sets it, and the count of cold starts. -/
def State.stampCold (s : State) : State :=
  (((((s.wr F.START_STATUS.STATE 1).wr F.START_STATUS.KIND 0).wr F.START_STATUS.STEP 3).wr
    F.START_STATUS.RETAIN_OK 0).wr F.START_STATUS.WARM_FAILS 0)

def State.sampleStraps (s : State) (env : StartEnv) : State :=
  ((s.setFlag F.STRAPS.ROLE env.role).wr F.STRAPS.UNIT_ID env.unit).setFlag F.STRAPS.BOOT_SRC env.bootSrc

/-- What follows the straps at main-side reset release, up to the tiles' outputs. -/
def State.coldReport (s : State) (env : StartEnv) : State :=
  let s1 := (s.setFlag F.HIER_INFO.ROLE env.role).wr F.HIER_INFO.UNIT_ID env.unit
  let s2 := (s1.orphans env.orphans fun m => m == .m5).noteSteps 1 env.stepUs
  if s2.therm.lost then s2.raise Src.START.TRIP_UNRECORDED else s2

theorem State.beginCold_eq (s : State) (env : StartEnv) : s.beginCold env =
    (((s.coldEntered.stampCold.bump F.COLD_STARTS).sampleStraps env).coldReport env).resetOutputs := by
  rfl

theorem State.stampCold_reports (s : State) : Reports s s.stampCold :=
  ((((s.wr_reports _ _).trans (State.wr_reports _ _ _)).trans (State.wr_reports _ _ _)).trans
    (State.wr_reports _ _ _)).trans (State.wr_reports _ _ _)

theorem State.sampleStraps_reports (s : State) (env : StartEnv) : Reports s (s.sampleStraps env) :=
  ((s.setFlag_reports _ _).trans (State.wr_reports _ _ _)).trans (State.setFlag_reports _ _ _)

theorem State.orphan_reports (s : State) (o : Orphan) : Reports s (s.orphan o) :=
  ((((s.wr_reports _ _).trans (State.wr_reports _ _ _)).trans (State.wr_reports _ _ _)).trans
    (State.bump_reports _ _)).trans (State.raise_reports _ _)

theorem State.orphans_reports (s : State) (os : List Orphan) (reset : Master → Bool) : Reports s (s.orphans os reset) :=
  Reports.foldl _ State.orphan_reports _ s

theorem State.noteSteps_reports (s : State) (first : Nat) (us : List Nat) : Reports s (s.noteSteps first us) :=
  Reports.foldl _ (fun s _ => s.wr_reports _ _) _ s

theorem State.coldReport_reports (s : State) (env : StartEnv) : Reports s (s.coldReport env) := by
  unfold State.coldReport
  extract_lets s1 s2
  have h1 : Reports s s1 := (s.setFlag_reports _ _).trans (State.wr_reports _ _ _)
  have h2 : Reports s s2 := (h1.trans (State.orphans_reports _ _ _)).trans (State.noteSteps_reports _ _ _)
  split
  · exact h2.trans (State.raise_reports _ _)
  · exact h2

/-! ### The words it writes, in the order of their addresses -/

theorem above_of_shared {n : Nat} (low : n < 0x30000) : ∀ a, SharedWord a → n < a := fun _ h => Nat.lt_of_lt_of_le low h.1

theorem State.coldReport_writes (s : State) (env : StartEnv) : Writes (0x1001C < ·) s (s.coldReport env) := by
  have shared : ∀ a, SharedWord a → 0x1001C < a := above_of_shared (by decide)
  unfold State.coldReport
  extract_lets s1 s2
  have h1 : Writes (0x1001C < ·) s s1 := ((Writes.refl _ s).setFlag (by decide)).wr (by decide)
  have burst : ∀ {u : State} {o : Orphan}, Writes (0x1001C < ·) s u → Writes (0x1001C < ·) s (u.orphan o) := fun h =>
    ((((h.wr (by decide)).wr (by decide)).wr (by decide)).bump shared (by decide) (by decide)).raise shared (by decide)
  have step : ∀ n, 0x1001C < (F.STEP_US.US n).addr := fun n => by
    simp only [F.STEP_US.US]
    omega
  have h2 : Writes (0x1001C < ·) s s2 := (h1.foldl burst).foldl fun h => h.wr (step _)
  split
  · exact h2.raise shared (by decide)
  · exact h2

theorem State.sampleStraps_writes (s : State) (env : StartEnv) : Writes (0x10004 < ·) s (s.sampleStraps env) :=
  (((Writes.refl _ s).setFlag (by decide)).wr (by decide)).setFlag (by decide)

end Sys2Proof.Machine

namespace Sys2Proof.Machine

/-! ### What START_STATUS and STRAPS read after the beginning -/

/-- The cold start's beginning up to the tiles' outputs. -/
def State.coldBegun (s : State) (env : StartEnv) : State :=
  ((s.coldEntered.stampCold.bump F.COLD_STARTS).sampleStraps env).coldReport env

theorem State.stampCold_writes {P : Nat → Prop} (s : State) (status : P F.START_STATUS.STATE.addr) :
    Writes P s s.stampCold := by
  refine (((((Writes.refl P s).wr ?_).wr ?_).wr ?_).wr ?_).wr ?_ <;> exact status

theorem State.coldBegun_writes (s : State) (env : StartEnv) :
    Writes (0x10004 < ·) s.coldEntered.stampCold (s.coldBegun env) := by
  have counted := (Writes.refl (0x10004 < ·) s.coldEntered.stampCold).bump (w := F.COLD_STARTS)
    (above_of_shared (by decide)) (by decide) (by decide)
  exact (counted.trans (State.sampleStraps_writes _ _)).trans
    ((State.coldReport_writes _ _).mono fun _ h => Nat.lt_trans (by decide) h)

theorem State.coldBegun_noColdEntry (s : State) (env : StartEnv) : (s.coldBegun env).NoColdEntry := by
  have entered : s.coldEntered.NoColdEntry := s.coldMain_noColdEntry
  exact (s.coldBegun_writes env).noColdEntry ((State.stampCold_writes (P := fun _ => True) _ trivial).noColdEntry entered)

theorem State.rd_beginCold (s : State) (env : StartEnv) {f : Field} (below : f.addr < tilesFrom) :
    (s.beginCold env).rd f = (s.coldBegun env).rd f := by
  rw [State.rd, s.beginCold_eq, ← State.coldBegun, State.word_resetOutputs_below (s.coldBegun_noColdEntry env) below, State.rd]

theorem State.rd_stampCold (s : State) : s.stampCold.rd F.START_STATUS.STATE = 1 ∧ s.stampCold.rd F.START_STATUS.KIND = 0 ∧
    s.stampCold.rd F.START_STATUS.STEP = 3 ∧ s.stampCold.rd F.START_STATUS.RETAIN_OK = 0 ∧
    s.stampCold.rd F.START_STATUS.WARM_FAILS = 0 := by
  unfold State.stampCold
  refine ⟨?_, ?_, ?_, ?_, ?_⟩ <;> simp (disch := decide) only [State.rd_wr_same, State.rd_wr_disjoint]

theorem State.straps_sampleStraps (s : State) (env : StartEnv) : (s.sampleStraps env).flag F.STRAPS.ROLE = env.role ∧
    (s.sampleStraps env).rd F.STRAPS.UNIT_ID = env.unit := by
  have role : (s.sampleStraps env).rd F.STRAPS.ROLE = if env.role then 1 else 0 := by
    rw [State.sampleStraps, State.setFlag, State.rd_wr_disjoint _ _ (by decide) (by decide),
      State.rd_wr_disjoint _ _ (by decide) (by decide), State.setFlag, State.rd_wr_same _ _ (by decide) (by split <;> decide)]
  have unit : (s.sampleStraps env).rd F.STRAPS.UNIT_ID = env.unit := by
    rw [State.sampleStraps, State.setFlag, State.rd_wr_disjoint _ _ (by decide) (by decide),
      State.rd_wr_same _ _ (by decide) env.unit.isLt]
  refine ⟨?_, unit⟩
  rw [State.flag, role]
  cases env.role <;> rfl

theorem State.rd_beginCold_status (s : State) (env : StartEnv) (f : Field) (status : f.addr = F.START_STATUS.STATE.addr) :
    (s.beginCold env).rd f = s.coldEntered.stampCold.rd f := by
  rw [s.rd_beginCold env (by rw [status]; decide), (s.coldBegun_writes env).rd (by rw [status]; decide)]

theorem State.rd_beginCold_straps (s : State) (env : StartEnv) (f : Field) (straps : f.addr = F.STRAPS.ROLE.addr) :
    (s.beginCold env).rd f = ((s.coldEntered.stampCold.bump F.COLD_STARTS).sampleStraps env).rd f := by
  rw [s.rd_beginCold env (by rw [straps]; decide), State.coldBegun, (State.coldReport_writes _ env).rd (by rw [straps]; decide)]

theorem State.beginCold_forgets (s : State) (env : StartEnv) :
    State.MainForgotten { s with power := { s.power with mainUp := true } } (s.beginCold env) := by
  have entered : State.MainForgotten { s with power := { s.power with mainUp := true } } s.coldEntered := by
    obtain ⟨power, dma, issueq, sil, pcie, mem, seals⟩ := s.coldMain_forgets
    exact ⟨congrArg (fun p : Power => { p with mainUp := true }) power, dma, issueq, sil, pcie, mem, seals⟩
  have begun : Reports s.coldEntered (s.coldBegun env) :=
    (((State.stampCold_reports _).trans (State.bump_reports _ _)).trans (State.sampleStraps_reports _ _)).trans
      (State.coldReport_reports _ _)
  obtain ⟨power, dma, issueq, sil, pcie, mem, seals⟩ := entered.reports begun
  rw [s.beginCold_eq, ← State.coldBegun, State.resetOutputs_eq]
  exact ⟨power, dma, issueq, sil, pcie, mem, seals⟩

theorem beginCold_startsAfresh (s : State) (env : StartEnv) :
    (s.beginCold env).power = { s.power with mainUp := true } ∧ (s.beginCold env).start = 1 ∧
      (s.beginCold env).rd F.START_STATUS.KIND = 0 ∧ (s.beginCold env).rd F.START_STATUS.STEP = 3 ∧
      (s.beginCold env).flag F.START_STATUS.RETAIN_OK = false ∧ (s.beginCold env).rd F.START_STATUS.WARM_FAILS = 0 ∧
      (s.beginCold env).flag F.STRAPS.ROLE = env.role ∧ (s.beginCold env).rd F.STRAPS.UNIT_ID = env.unit ∧
      (s.beginCold env).dma = [] ∧ (s.beginCold env).issueq = [] ∧ (s.beginCold env).sil = State.reset.sil ∧
      (s.beginCold env).pcie = State.reset.pcie ∧ (s.beginCold env).mem = [] ∧
      ∀ x ∈ s.seals, x ∈ (s.beginCold env).seals := by
  obtain ⟨power, dma, issueq, sil, pcie, mem, seals⟩ := s.beginCold_forgets env
  obtain ⟨state, kind, step, retain, fails⟩ := s.coldEntered.rd_stampCold
  obtain ⟨role, unit⟩ := State.straps_sampleStraps (s.coldEntered.stampCold.bump F.COLD_STARTS) env
  refine ⟨power, ?_, ?_, ?_, ?_, ?_, ?_, ?_, dma, issueq, sil, pcie, mem, seals⟩
  · rw [State.start, s.rd_beginCold_status env F.START_STATUS.STATE rfl, state]
  · rw [s.rd_beginCold_status env F.START_STATUS.KIND rfl, kind]
  · rw [s.rd_beginCold_status env F.START_STATUS.STEP rfl, step]
  · rw [State.flag, s.rd_beginCold_status env F.START_STATUS.RETAIN_OK rfl, retain]
    rfl
  · rw [s.rd_beginCold_status env F.START_STATUS.WARM_FAILS rfl, fails]
  · rw [State.flag, s.rd_beginCold_straps env F.STRAPS.ROLE rfl, ← State.flag, role]
  · rw [s.rd_beginCold_straps env F.STRAPS.UNIT_ID rfl, unit]

/-! ### Reports of START, and PARKED -/

/-- The device stands in PARKED with this cause and step, and has raised PARKED. -/
structure State.ParkedAt (s : State) (cause step : Nat) : Prop where
  state : s.start = 5
  cause : s.rd F.PARK_CAUSE.CAUSE = cause
  step : s.rd F.PARK_CAUSE.STEP = step
  shown : s.flag Src.START.PARKED.real = true

/-- Every source of START has power while the main side is up. -/
theorem State.srcPowered_start {s : State} (vin : s.power.vin = true) (up : s.power.mainUp = true) (bit : Nat) :
    s.srcPowered ⟨FB.START, bit⟩ = true := by
  simp [State.srcPowered, State.powered, vin, up]

/-- A report of START shows its bit and leaves STATE as it is. -/
theorem State.raise_start (s : State) {bit : Nat} (small : bit < 32) (vin : s.power.vin = true) (up : s.power.mainUp = true) :
    (s.raise ⟨FB.START, bit⟩).start = s.start ∧
      (s.raise ⟨FB.START, bit⟩).flag (Source.real ⟨FB.START, bit⟩) = true := by
  have writes : Writes (0x10004 < ·) s (s.raise ⟨FB.START, bit⟩) :=
    (Writes.refl _ s).raise (above_of_shared (by decide)) (show 0x10004 < 0x10030 by decide)
  have powered := State.srcPowered_start vin up bit
  exact ⟨writes.rd (by decide), s.flag_raise_low _ (show 0x10030 < 0x30000 by decide) small powered⟩

/-- PARK_CAUSE as a parking writes it, after STATE. -/
def State.noteCause (s : State) (cause step detail : Nat) : State :=
  (((s.wr F.START_STATUS.STATE 5).wr F.PARK_CAUSE.CAUSE cause).wr F.PARK_CAUSE.STEP step).wr F.PARK_CAUSE.DETAIL detail

theorem State.rd_noteCause (s : State) {cause step : Nat} (detail : Nat) (hc : cause < 2 ^ 8) (hs : step < 2 ^ 8) :
    (s.noteCause cause step detail).rd F.START_STATUS.STATE = 5 ∧
      (s.noteCause cause step detail).rd F.PARK_CAUSE.CAUSE = cause ∧
      (s.noteCause cause step detail).rd F.PARK_CAUSE.STEP = step := by
  unfold State.noteCause
  refine ⟨?_, ?_, ?_⟩
  · simp (disch := decide) only [State.rd_wr_same, State.rd_wr_disjoint]
  · simp (disch := decide) only [State.rd_wr_disjoint]
    exact State.rd_wr_same _ _ (by decide) hc
  · simp (disch := decide) only [State.rd_wr_disjoint]
    exact State.rd_wr_same _ _ (by decide) hs

/-- PARK_INDEX and PARK_COUNT follow, and the count of parkings. -/
def State.countPark (s : State) (index count : Nat) : State :=
  ((s.wr F.PARK_INDEX.INDEX index).wr F.PARK_COUNT.COUNT (min count 65535)).bump F.PARKS

theorem State.park_eq (s : State) (cause step detail index count : Nat) : s.park cause step detail index count =
    ((s.noteCause cause step detail).countPark index count).raise Src.START.PARKED := by
  rfl

theorem State.countPark_writes (s : State) (index count : Nat) : Writes (0x10010 < ·) s (s.countPark index count) :=
  (((Writes.refl _ s).wr (by decide)).wr (by decide)).bump (above_of_shared (by decide)) (by decide) (by decide)

theorem State.countPark_power (s : State) (index count : Nat) : (s.countPark index count).power = s.power :=
  (((s.wr_reports _ _).trans (State.wr_reports _ _ _)).trans (State.bump_reports _ _)).power

theorem State.noteCause_power (s : State) (cause step detail : Nat) : (s.noteCause cause step detail).power = s.power := by
  rw [State.noteCause, State.wr_power, State.wr_power, State.wr_power, State.wr_power]

theorem State.countPark_raise_shown (s : State) (index count : Nat) (vin : s.power.vin = true) (up : s.power.mainUp = true) :
    ((s.countPark index count).raise Src.START.PARKED).flag Src.START.PARKED.real = true := by
  have power := s.countPark_power index count
  exact (State.raise_start _ (bit := 0) (by decide) (by rw [power, vin]) (by rw [power, up])).2

theorem State.countPark_raise_writes (s : State) (index count : Nat) :
    Writes (0x10010 < ·) s ((s.countPark index count).raise Src.START.PARKED) :=
  (s.countPark_writes index count).raise (above_of_shared (by decide)) (by decide)

theorem State.park_parkedAt (s : State) {cause step : Nat} (detail index count : Nat) (vin : s.power.vin = true)
    (up : s.power.mainUp = true) (hc : cause < 2 ^ 8) (hs : step < 2 ^ 8) :
    (s.park cause step detail index count).ParkedAt cause step := by
  obtain ⟨state, cause', step'⟩ := s.rd_noteCause detail hc hs
  have power := s.noteCause_power cause step detail
  rw [State.park_eq]
  generalize s.noteCause cause step detail = u at state cause' step' power
  have writes := u.countPark_raise_writes index count
  refine ⟨?_, ?_, ?_, u.countPark_raise_shown index count (by rw [power, vin]) (by rw [power, up])⟩
  · rw [State.start, writes.rd (by decide), state]
  · rw [writes.rd (by decide), cause']
  · rw [writes.rd (by decide), step']

theorem State.coldPark_power (s : State) (cause step detail index count : Nat) :
    (s.coldPark cause step detail index count).power = s.power :=
  ((Keeps.refl (fun _ => False) s).coldPark.same .power).resolve_left id

theorem State.coldPark_parkedAt (s : State) {cause step : Nat} (detail index count : Nat) (vin : s.power.vin = true)
    (up : s.power.mainUp = true) (hc : cause < 2 ^ 8) (hs : step < 2 ^ 8) :
    (s.coldPark cause step detail index count).ParkedAt cause step := by
  have power : ({ s with starting := none } : State).resetOutputs.power = s.power := by rw [State.resetOutputs_eq]
  exact State.park_parkedAt _ detail index count ((congrArg Power.vin power).trans vin) ((congrArg Power.mainUp power).trans up)
    hc hs

/-! ### Where a cold start leads -/

/-- The beginning of a cold start, once the passport's memory is known. -/
theorem State.beginCold_power (s : State) (env : StartEnv) :
    ((s.showPassport env.passport).beginCold env).power = { s.power with mainUp := true } :=
  ((s.showPassport env.passport).beginCold_forgets env).power

theorem State.releaseMain_good {s : State} (env : StartEnv) (vin : s.power.vin = true) (en : s.power.en = true)
    (rails : s.power.rails = true) (pgood : s.power.pgood = true) (down : s.power.mainUp = false) :
    s.releaseMain env = s.powerRun env := by
  simp [State.releaseMain, vin, en, rails, pgood, down]

theorem State.powerRun_alive {s : State} {env : StartEnv} (alive : s.power.sideband = true ∨ env.sideband = true) :
    s.powerRun env = ({ s with power := { s.power with sideband := true } } : State).coldRun env :=
  if_pos (Bool.or_eq_true _ _ ▸ alive)

theorem State.coldRun_unread (s : State) {env : StartEnv} (errors : 3 < env.first.errors) :
    s.coldRun env = (((s.showPassport env.passport).beginCold env).readFlash env.first).1.coldPark 2 3 0 0 1 := by
  have failed : ∀ u : State, (u.readFlash env.first).2 = false := fun u => by
    rw [State.readFlash, if_neg (by omega)]
    exact decide_eq_false (by omega)
  simp only [State.coldRun, failed, Bool.not_false, if_true]

theorem State.coldRun_passes (s : State) {env : StartEnv} {segs : List Segment} (errors : env.first.errors = 0)
    (passes : (s.coldLoaded env).checkImage (env.first.image env.bootSrc) env.role = .ok segs) :
    s.coldRun env = (s.coldLoaded env).applyStart env := by
  have read : ∀ u : State, u.readFlash env.first = (u, true) := fun u => if_pos errors
  rw [State.coldLoaded] at passes ⊢
  rw [State.coldRun, read]
  simp only [Bool.not_true, Bool.false_eq_true, if_false, passes]

theorem mainResetRelease_deadSideband (s : State) (env : StartEnv) (vin : s.power.vin = true) (en : s.power.en = true)
    (rails : s.power.rails = true) (pgood : s.power.pgood = true) (down : s.power.mainUp = false)
    (dead : s.power.sideband = false) (deadNow : env.sideband = false) :
    ∃ t, exec (.mainResetRelease env) s = .next t ∧ t.power = { s.power with mainUp := true } ∧ t.start = 5 ∧
      t.rd F.PARK_CAUSE.CAUSE = 1 ∧ t.rd F.PARK_CAUSE.STEP = 2 ∧ t.flag Src.START.PARKED.real = true := by
  have begun := s.beginCold_power env
  have ran : s.releaseMain env = ((s.showPassport env.passport).beginCold env).coldPark 1 2 0 0 1 := by
    rw [State.releaseMain_good env vin en rails pgood down, State.powerRun, dead, deadNow, Bool.or_self,
      if_neg Bool.false_ne_true]
  have parked := ((s.showPassport env.passport).beginCold env).coldPark_parkedAt (cause := 1) (step := 2) 0 0 1
    ((congrArg Power.vin begun).trans vin) (congrArg Power.mainUp begun) (by decide) (by decide)
  exact ⟨_, congrArg Host.Outcome.next ran, (State.coldPark_power _ _ _ _ _ _).trans begun, parked.state, parked.cause,
    parked.step, parked.shown⟩

theorem mainResetRelease_unread (s : State) (env : StartEnv) (vin : s.power.vin = true) (en : s.power.en = true)
    (rails : s.power.rails = true) (pgood : s.power.pgood = true) (down : s.power.mainUp = false)
    (alive : s.power.sideband = true ∨ env.sideband = true) (errors : 3 < env.first.errors) :
    ∃ t, exec (.mainResetRelease env) s = .next t ∧
      t.power = { s.power with mainUp := true, sideband := true } ∧ t.start = 5 ∧
      t.rd F.PARK_CAUSE.CAUSE = 2 ∧ t.rd F.PARK_CAUSE.STEP = 3 ∧ t.flag Src.START.PARKED.real = true := by
  have ran := (State.releaseMain_good env vin en rails pgood down).trans
    ((State.powerRun_alive alive).trans (State.coldRun_unread _ errors))
  have begun := ({ s with power := { s.power with sideband := true } } : State).beginCold_power env
  generalize (State.showPassport _ env.passport).beginCold env = u at ran begun
  have read : (u.readFlash env.first).1.power = u.power :=
    ((Keeps.refl (fun _ => False) u).readFlash.same .power).resolve_left id
  have power := read.trans begun
  have parked := (u.readFlash env.first).1.coldPark_parkedAt (cause := 2) (step := 3) 0 0 1
    ((congrArg Power.vin power).trans vin) (congrArg Power.mainUp power) (by decide) (by decide)
  exact ⟨_, congrArg Host.Outcome.next ran, (State.coldPark_power _ _ _ _ _ _).trans power, parked.state, parked.cause,
    parked.step, parked.shown⟩

/-! ### The pin and the command -/

theorem Reports.plane {s t : State} (h : Reports s t) : t.plane = s.plane := by rw [h.same]

theorem coldRstRelease_ignored (s : State) (n : Nat) (env : StartEnv) (long : 10000 ≤ n) (vin : s.power.vin = true)
    (up : s.power.mainUp = true) (parked : s.start = 5) (first : s.startedNow true = false) :
    ∃ t, exec (.coldRstRelease n env) s = .next t ∧ t.start = 5 ∧ t.flag Src.START.PIN_IGNORED.real = true ∧
      t.mem = s.mem ∧ t.tiles = s.tiles ∧ t.plane = s.plane := by
  have ignored : s.coldRst n env = s.raise Src.START.PIN_IGNORED := by
    rw [State.coldRst, if_neg (Nat.not_lt.mpr long), up, first, if_pos parked]
    rfl
  have reported := s.raise_reports Src.START.PIN_IGNORED
  obtain ⟨state, shown⟩ := s.raise_start (bit := 3) (by decide) vin up
  exact ⟨_, congrArg Host.Outcome.next ignored, state.trans parked, shown, reported.mem, reported.tiles, reported.plane⟩

theorem State.coldRst_begins {s : State} {n : Nat} (env : StartEnv) (long : 10000 ≤ n) (up : s.power.mainUp = true)
    (unparked : s.start ≠ 5) (first : s.startedNow true = false) :
    s.coldRst n env = (s.noteTrigger true).coldRun env := by
  rw [State.coldRst, if_neg (Nat.not_lt.mpr long), up, first, if_neg unparked]
  rfl

theorem State.coldRst_again {s : State} (n : Nat) (env : StartEnv) (up : s.power.mainUp = true)
    (again : s.startedNow true = true) : s.coldRst n env = s := by
  rw [State.coldRst, up, again]
  exact ite_self s

theorem externalHost_iff (m : Master) : externalHost m = true ↔ m = .m3 ∨ m = .m4 := by
  cases m <;> decide

theorem State.startCmdCold_ok {s : State} {m : Master} (env : StartEnv) (ok : s.writeAccess m F.START_CMD.COLD.addr = .ok)
    (up : s.power.mainUp = true) :
    exec (.startCmdCold m env) s = .next (s.cmdCold m fun s => s.coldRun env) :=
  congrArg Host.Outcome.next ((s.gate_ok m _ _ ok).trans (s.onMain_up _ up))

theorem State.cmdCold_accepted {s : State} {m : Master} (act : State → State) (host : m = .m3 ∨ m = .m4)
    (accepted : s.coldAccepted = true) (first : s.startedNow true = false) :
    s.cmdCold m act = act (s.noteTrigger true) := by
  rw [State.cmdCold, first, (externalHost_iff m).mpr host, accepted]
  rfl

theorem State.cmdCold_refused {s : State} {m : Master} (act : State → State)
    (refused : s.coldAccepted = false ∨ m ≠ .m3 ∧ m ≠ .m4) (first : s.startedNow true = false) :
    s.cmdCold m act = s.startRefused := by
  have barred : ¬ (externalHost m && s.coldAccepted) = true := by
    rw [Bool.and_eq_true, externalHost_iff]
    rintro ⟨host, accepted⟩
    rcases refused with state | ⟨notHost, notSideband⟩
    · exact Bool.false_ne_true (state.symm.trans accepted)
    · exact host.elim notHost notSideband
  rw [State.cmdCold, first, if_neg Bool.false_ne_true, if_neg barred]

theorem startCmdCold_refused (s : State) (m : Master) (env : StartEnv) (ok : s.writeAccess m F.START_CMD.COLD.addr = .ok)
    (vin : s.power.vin = true) (up : s.power.mainUp = true) (first : s.startedNow true = false)
    (refused : s.coldAccepted = false ∨ m ≠ .m3 ∧ m ≠ .m4) :
    ∃ t, exec (.startCmdCold m env) s = .next t ∧ t.start = s.start ∧ t.flag Src.START.START_REFUSED.real = true ∧
      t.mem = s.mem ∧ t.tiles = s.tiles ∧ t.plane = s.plane := by
  have ran := (State.startCmdCold_ok env ok up).trans (congrArg Host.Outcome.next (State.cmdCold_refused _ refused first))
  have counted := s.bump_reports F.START_REFUSED_CNT
  have state : (s.bump F.START_REFUSED_CNT).start = s.start :=
    ((Writes.refl (0x10004 < ·) s).bump (above_of_shared (by decide)) (by decide) (by decide)).rd (by decide)
  obtain ⟨kept, shown⟩ := (s.bump F.START_REFUSED_CNT).raise_start (bit := 2) (by decide)
    (counted.power ▸ vin) (counted.power ▸ up)
  have reported : Reports s s.startRefused := counted.trans (State.raise_reports _ _)
  exact ⟨_, ran, kept.trans state, shown, reported.mem, reported.tiles, reported.plane⟩

/-- Settles O32: the beginning word by word (`beginCold_startsAfresh`), then each trigger taken to the run, the parking or the
report it makes. -/
theorem coldStartBeginsAndIsCommanded : Obligations.ColdStartBeginsAndIsCommanded := by
  unfold Obligations.ColdStartBeginsAndIsCommanded
  refine ⟨beginCold_startsAfresh, mainResetRelease_deadSideband, mainResetRelease_unread, ?_, ?_, ?_, ?_,
    coldRstRelease_ignored, ?_, startCmdCold_refused⟩
  · intro s env segs vin en rails pgood down alive errors u passes
    exact congrArg Host.Outcome.next ((State.releaseMain_good env vin en rails pgood down).trans
      ((State.powerRun_alive alive).trans (State.coldRun_passes _ errors passes)))
  · exact fun s n env short => congrArg Host.Outcome.next (if_pos short)
  · intro s n env segs long up unparked first errors u passes
    exact congrArg Host.Outcome.next ((State.coldRst_begins env long up unparked first).trans
      (State.coldRun_passes _ errors passes))
  · exact fun s n env up again => congrArg Host.Outcome.next (State.coldRst_again n env up again)
  · intro s m env segs host ok up accepted first errors u passes
    exact (State.startCmdCold_ok env ok up).trans (congrArg Host.Outcome.next
      ((State.cmdCold_accepted _ host accepted first).trans (State.coldRun_passes _ errors passes)))

end Sys2Proof.Machine

namespace Sys2Proof.Machine

/-! ## Fields, event bits and bits of wide values -/

/-- A field reads the low bits of what was put into it. -/
theorem State.rd_wr_mod (s : State) (f : Field) (v : Nat) (fits : f.lsb + f.width ≤ 32) :
    (s.wr f v).rd f = v % 2 ^ f.width := by
  have low : s.wr f v = s.wr f (v % 2 ^ f.width) := by rw [State.wr, State.wr, withBits, withBits, Nat.mod_mod]
  rw [low, s.rd_wr_same f fits (Nat.mod_lt _ (Nat.two_pow_pos _))]

theorem State.flag_setFlag_same (s : State) {f : Field} (b : Bool) (fits : f.lsb + 1 ≤ 32) (one : f.width = 1) :
    (s.setFlag f b).flag f = b := by
  have small : (if b = true then 1 else 0) < 2 ^ f.width := by
    rw [one]
    cases b <;> decide
  rw [State.flag, State.setFlag, s.rd_wr_same f (by omega) small]
  cases b <;> rfl

/-- An event never clears a bit. -/
theorem State.flag_setEvent_mono (s : State) {f g : Field} (one : f.width = 1) (fits : g.lsb + 1 ≤ 32) (gone : g.width = 1)
    (h : s.flag f = true) : (s.setEvent g).flag f = true := by
  by_cases same : g = f
  · exact same ▸ s.flag_setFlag_same true fits gone
  · have apart : g.addr ≠ f.addr ∨ g.lsb + g.width ≤ f.lsb ∨ f.lsb + f.width ≤ g.lsb := by
      by_contra near
      exact same (by cases f; cases g; simp_all)
    exact (congrArg (· == 1) (s.rd_wr_disjoint 1 (by omega) apart)).trans h

theorem State.rdW_congr {s t : State} {w : Wide} (lo : t.word w.addr = s.word w.addr)
    (hi : t.word (w.addr + 4) = s.word (w.addr + 4)) : t.rdW w = s.rdW w := by
  rw [State.rdW, lo, hi, State.rdW]

theorem State.rdW_lt (s : State) {w : Wide} (wide : 32 ≤ w.width) : s.rdW w < 2 ^ w.width := by
  have lo := (s.word w.addr).isLt
  have hi := Nat.mod_lt (s.word (w.addr + 4)).toNat (Nat.two_pow_pos (w.width - 32))
  have whole : 2 ^ w.width = 2 ^ 32 * 2 ^ (w.width - 32) := by rw [← pow_add, Nat.add_sub_cancel' wide]
  rw [State.rdW, whole]
  nlinarith

/-- Bit `n` of a 64-bit value is the field that shows it. -/
theorem State.bitW_eq_flag (s : State) {w : Wide} (full : w.width = 64) {n : Nat} (hn : n < 64) :
    s.bitW w n = s.flag (bitField w n) := by
  have split : s.rdW w = 2 ^ 32 * ((s.word (w.addr + 4)).toNat % 2 ^ 32) + (s.word w.addr).toNat := by
    rw [State.rdW, full, Nat.add_comm]
  rw [State.flag, State.rd, show (bitField w n).width = 1 from rfl, bitsOf_one_beq, State.bitW, split,
    Nat.testBit_two_pow_mul_add _ (s.word w.addr).isLt]
  by_cases low : n < 32
  · have place : (bitField w n).addr = w.addr := by simp only [bitField]; omega
    rw [if_pos low, place, show (bitField w n).lsb = n from Nat.mod_eq_of_lt low]
    rfl
  · have place : (bitField w n).addr = w.addr + 4 := by simp only [bitField]; omega
    have bit : n % 32 = n - 32 := by omega
    rw [if_neg low, place, show (bitField w n).lsb = n - 32 from bit, Nat.testBit_mod_two_pow,
      decide_eq_true (show n - 32 < 32 by omega)]
    rfl

/-- The value that `setBitW` stores. -/
theorem testBit_put (v n i : Nat) (b : Bool) :
    (if b then v ||| 2 ^ n else v - (v &&& 2 ^ n)).testBit i = if i = n then b else v.testBit i := by
  cases b with
  | true =>
    rw [if_pos rfl, Nat.testBit_or, Nat.testBit_two_pow]
    by_cases here : i = n
    · simp [here]
    · simp [here, Ne.symm here]
  | false =>
    have halves : v / 2 ^ n = v / 2 ^ (n + 1) * 2 + v / 2 ^ n % 2 := by
      rw [pow_succ, ← Nat.div_div_eq_div_mul]
      omega
    have cleared : v - (v &&& 2 ^ n) = v / 2 ^ (n + 1) * 2 ^ (n + 1) + 0 % 2 ^ 1 * 2 ^ n + v % 2 ^ n := by
      have whole : v = v / 2 ^ (n + 1) * 2 ^ (n + 1) + v / 2 ^ n % 2 * 2 ^ n + v % 2 ^ n := by
        calc v = v / 2 ^ n * 2 ^ n + v % 2 ^ n := (Nat.div_add_mod' v _).symm
          _ = _ := by rw [halves, add_mul, mul_assoc, ← pow_succ', ← halves]
      rw [Nat.and_two_pow, Nat.toNat_testBit]
      omega
    rw [if_neg Bool.false_ne_true, cleared, testBit_splice]
    by_cases here : i = n
    · simp [here]
    · rcases Nat.lt_or_gt_of_ne here with below | above
      · simp [here, below]
      · simp [here, Nat.not_lt_of_gt above, show ¬ i < n + 1 by omega]

theorem State.rdW_wrW_apart (s : State) {w u : Wide} (v : Nat) (apart : w.addr + 4 < u.addr ∨ u.addr + 4 < w.addr) :
    (s.wrW w v).rdW u = s.rdW u :=
  State.rdW_congr (s.word_wrW_other w v _ (by omega) (by omega)) (s.word_wrW_other w v _ (by omega) (by omega))

theorem State.testBit_setBitW (s : State) {w : Wide} (full : w.width = 64) {n : Nat} (hn : n < 64) (b : Bool) (i : Nat) :
    ((s.setBitW w n b).rdW w).testBit i = if i = n then b else (s.rdW w).testBit i := by
  have small : (if b then s.rdW w ||| 2 ^ n else s.rdW w - (s.rdW w &&& 2 ^ n)) < 2 ^ w.width := by
    have old : s.rdW w < 2 ^ w.width := s.rdW_lt (by omega)
    have bit : 2 ^ n < 2 ^ w.width := Nat.pow_lt_pow_right (by decide) (by omega)
    split
    · exact Nat.or_lt_two_pow old bit
    · omega
  rw [State.setBitW, s.rdW_wrW_same w (by omega) small, testBit_put]

end Sys2Proof.Machine

namespace Sys2Proof.Machine

/-! ## What a report writes, more exactly

Besides its own REAL word a raise writes MSI-X words and Mortar's, and a counter of the tiles raises FABRIC's SATURATED: all of
them words between HOSTIF's block and TIME's, so neither a loop's words nor TIME's strobe words change. -/

/-- The words of HOSTIF, the sideband, FABRIC, DMA and Mortar (R465). -/
abbrev CascadeWord (a : Nat) : Prop := 0x30000 ≤ a ∧ a < 0x80000

/-- Raising the sources `l` writes their REAL words and what follows from raising any source. -/
abbrev RaiseWord (l : List Source) (a : Nat) : Prop := CascadeWord a ∨ ∃ x ∈ l, a = x.block.real

theorem State.signalVector_cascades (s : State) (v : Nat) : Writes CascadeWord s (s.signalVector v) := by
  have armed : CascadeWord (vecArmed v).addr := by
    simp only [CascadeWord, vecArmed, F.VEC_ARMED.ARMED]
    omega
  have pending : CascadeWord (vecPending v).addr := by
    simp only [CascadeWord, vecPending, F.PBA.PENDING]
    omega
  unfold State.signalVector
  split
  · have disarmed : Writes CascadeWord s ((s.setFlag (vecArmed v) false).note (vecArmed v).key) :=
      ((Writes.refl _ s).setFlag armed).regs_eq rfl
    unfold State.sendVector
    split
    · exact disarmed.regs_eq rfl
    · exact disarmed.setFlag pending
  · exact Writes.refl _ s

/-- What raising one source writes after its REAL bit. -/
theorem State.raiseOne_cascades (s : State) (src : Source) :
    Writes CascadeWord (if s.srcPowered src then s.setEvent src.real else s) (s.raiseOne src).1 := by
  cases powered : s.srcPowered src with
  | false =>
    refine (Writes.refl _ s).regs_eq ?_
    simp [State.raiseOne, powered]
  | true =>
    have signalled : Writes CascadeWord (s.setEvent src.real)
        ((((s.setEvent src.real).latchSeal src).signalVector src.block.vector).deliver src.code false).1 :=
      (((Writes.refl _ _).latchSeal).trans (State.signalVector_cascades _ _)).regs_eq rfl
    unfold State.raiseOne
    rw [powered, if_pos rfl]
    split
    · contradiction
    split
    · exact Writes.refl _ _
    dsimp only
    split
    · exact signalled
    · exact signalled.addCounter (by decide) (by decide)

/-- The sources that a raise raises in turn are Mortar's. -/
theorem State.raiseOne_raises_mortar (s : State) (src : Source) : ∀ x ∈ (s.raiseOne src).2, CascadeWord x.block.real := by
  intro x hx
  unfold State.raiseOne at hx
  split at hx
  · cases hx
  split at hx
  · cases hx
  dsimp only at hx
  split at hx
  · cases hx
  rcases List.mem_cons.mp hx with rfl | later
  · decide
  · unfold State.saturates at later
    split at later
    · rw [List.mem_singleton.mp later]
      decide
    · cases later

theorem State.raiseAll_writes (n : Nat) (s : State) (l : List Source) : Writes (RaiseWord l) s (State.raiseAll n s l) := by
  induction n generalizing s l with
  | zero => exact Writes.refl _ s
  | succ n ih =>
    cases l with
    | nil => exact Writes.refl _ s
    | cons src rest =>
      have set : Writes (RaiseWord (src :: rest)) s (if s.srcPowered src then s.setEvent src.real else s) := by
        split
        · exact (Writes.refl _ s).setEvent (.inr ⟨src, List.mem_cons_self, rfl⟩)
        · exact Writes.refl _ s
      refine (set.trans ((s.raiseOne_cascades src).mono fun a => .inl)).trans ((ih _ _).mono ?_)
      rintro a (cascade | ⟨x, hx, rfl⟩)
      · exact .inl cascade
      · rcases List.mem_append.mp hx with raised | later
        · exact .inl (s.raiseOne_raises_mortar src x raised)
        · exact .inr ⟨x, List.mem_cons_of_mem _ later, rfl⟩

theorem State.raise_writes (s : State) (src : Source) : Writes (RaiseWord [src]) s (s.raise src) := State.raiseAll_writes 8 s _

/-- After its REAL bit a source that is raised writes cascade words only. -/
theorem State.raise_cascades (s : State) (src : Source) :
    Writes CascadeWord (if s.srcPowered src then s.setEvent src.real else s) (s.raise src) := by
  refine (s.raiseOne_cascades src).trans ((State.raiseAll_writes 7 _ _).mono ?_)
  rintro a (cascade | ⟨x, hx, rfl⟩)
  · exact cascade
  · rw [List.append_nil] at hx
    exact s.raiseOne_raises_mortar src x hx

/-- A fault bit that stands outside the cascade words stays through any raise. -/
theorem State.flag_raise_mono (s : State) (src : Source) {f : Field} (one : f.width = 1) (bit : src.bit + 1 ≤ 32)
    (apart : ¬ CascadeWord f.addr) (h : s.flag f = true) : (s.raise src).flag f = true := by
  rw [State.flag, (s.raise_cascades src).rd apart]
  split
  · exact s.flag_setEvent_mono one bit rfl h
  · exact h

/-- What counting on a counter writes whose saturation FABRIC reports (R463). -/
abbrev CountWord (w : Wide) (a : Nat) : Prop := a = w.addr ∨ a = w.addr + 4 ∨ CascadeWord a

theorem State.saturates_fabric (s : State) {w : Wide} (fabric : saturatedSource w.addr = Src.FABRIC.SATURATED) (n : Nat) :
    ∀ x ∈ s.saturates w n, CascadeWord x.block.real := by
  intro x hx
  unfold State.saturates at hx
  split at hx
  · rw [List.mem_singleton.mp hx, fabric]
    decide
  · cases hx

theorem State.saturation_cascades (s u : State) {w : Wide} (fabric : saturatedSource w.addr = Src.FABRIC.SATURATED) (n : Nat) :
    Writes CascadeWord u (State.raiseAll 8 u (s.saturates w n)) :=
  (State.raiseAll_writes 8 u _).mono fun _ h => h.elim id fun ⟨x, hx, e⟩ => e ▸ s.saturates_fabric fabric n x hx

theorem State.bumpBy_writes (s : State) {w : Wide} (fabric : saturatedSource w.addr = Src.FABRIC.SATURATED) (n : Nat) :
    Writes (CountWord w) s (s.bumpBy w n) :=
  ((Writes.refl _ s).addCounter (.inl rfl) (.inr (.inl rfl))).trans
    ((s.saturation_cascades _ fabric n).mono fun _ h => .inr (.inr h))

/-- A counter outside the cascade words has counted after a bump. -/
theorem State.bump_counted (s : State) {w : Wide} (fabric : saturatedSource w.addr = Src.FABRIC.SATURATED)
    (width : w.width = 48) (lo : ¬ CascadeWord w.addr) (hi : ¬ CascadeWord (w.addr + 4)) : Counted w s (s.bump w) := by
  have raised := s.saturation_cascades (s.addCounter w 1) fabric 1
  have small : min counterMax (s.rdW w + 1) < 2 ^ w.width := by
    rw [width]
    exact (Nat.min_le_left _ _).trans_lt (by decide)
  exact (State.rdW_congr (raised.word lo) (raised.word hi)).trans (s.rdW_wrW_same w (by omega) small)

/-- A count that does not reach all ones reports nothing. -/
theorem State.bump_outbox (s : State) (w : Wide) (room : s.rdW w + 1 < counterMax) : (s.bump w).outbox = s.outbox := by
  have silent : s.saturates w 1 = [] := if_neg fun full => absurd full.2 (Nat.not_le_of_lt room)
  rw [State.bump, State.bumpBy, silent]
  rfl

end Sys2Proof.Machine

namespace Sys2Proof.Machine

/-! ## A channel's words and the moves of a drive side

`Moves P x s t` says what an operation on the drive side of tile `x` may do: write the words that `P` names, tiles, the calibration
records and reports; no calibration begins or ends, and no drive fault of the tile is forgotten. -/

/-- The words of channel `ch` of tile `x` (R81, R82). -/
abbrev ChannelWord (x ch a : Nat) : Prop :=
  (0x500100 + 16384 * (x % 76) + 32 * (ch % 64) ≤ a ∧ a < 0x500120 + 16384 * (x % 76) + 32 * (ch % 64)) ∨
    (0x500900 + 16384 * (x % 76) + 16 * (ch % 64) ≤ a ∧ a < 0x500910 + 16384 * (x % 76) + 16 * (ch % 64))

/-- CALIB's words, in which a tile becomes due (R350). -/
abbrev MarkWord (a : Nat) : Prop := 0xB0000 ≤ a ∧ a < 0xC0000

/-- The missed, fault and counter words of tile `x` (R80). -/
abbrev FaultWord (x a : Nat) : Prop := 0x500010 + 16384 * (x % 76) ≤ a ∧ a < 0x500100 + 16384 * (x % 76)

/-- What a report of tile `x`'s drive side may write. -/
abbrev ReportWord (x a : Nat) : Prop := CascadeWord a ∨ FaultWord x a

/-- What an operation on channel `ch` of tile `x` may write. -/
abbrev DriveWord (x ch a : Nat) : Prop := ChannelWord x ch a ∨ MarkWord a ∨ ReportWord x a

/-- The words of channel `ch` and of the loops: an operation on another channel of the tile does not write them. -/
abbrev AsideWord (x ch a : Nat) : Prop := ¬ (ChannelWord x ch a ∨ (0x300000 ≤ a ∧ a < tilesFrom))

theorem DriveWord.aside {x ch other a : Nat} (h : DriveWord x other a) (hch : ch < 64) (ho : other < 64) (apart : other ≠ ch) :
    AsideWord x ch a := by
  simp only [DriveWord, AsideWord, ReportWord, ChannelWord, CascadeWord, MarkWord, FaultWord, tilesFrom] at *
  omega

/-- The REAL bit of drive source `n` of tile `x`. -/
abbrev driveReal (x n : Nat) : Field := Source.real ⟨FB.DRIVE x, n⟩

/-- An operation on the drive side of tile `x` that writes only the words `P` names; see the section's introduction. -/
structure Moves (P : Nat → Prop) (x : Nat) (s t : State) : Prop where
  same : t = { s with
    regs := t.regs, fresh := t.fresh, outbox := t.outbox, seals := t.seals, mortar := t.mortar, tiles := t.tiles, calib := t.calib }
  writes : Writes P s t
  running : ∀ y, t.calRunning y = s.calRunning y
  shown : ∀ n, s.flag (driveReal x n) = true → t.flag (driveReal x n) = true

namespace Moves
variable {P Q : Nat → Prop} {x ch : Nat} {s₀ s t : State}

theorem refl (P : Nat → Prop) (x : Nat) (s : State) : Moves P x s s := ⟨rfl, .refl P s, fun _ => rfl, fun _ h => h⟩

theorem trans (h : Moves P x s₀ s) (k : Moves P x s t) : Moves P x s₀ t := by
  refine ⟨?_, h.writes.trans k.writes, fun y => (k.running y).trans (h.running y), fun n r => k.shown n (h.shown n r)⟩
  have e := k.same
  rw [h.same] at e
  rw [e]

theorem mono (h : Moves P x s t) (le : ∀ a, P a → Q a) : Moves Q x s t := ⟨h.same, h.writes.mono le, h.running, h.shown⟩

theorem power (h : Moves P x s t) : t.power = s.power := by rw [h.same]

theorem mem (h : Moves P x s t) : t.mem = s.mem := by rw [h.same]

theorem strobes (h : Moves P x s t) : t.strobes = s.strobes := by rw [h.same]

theorem warmHold (h : Moves P x s t) : t.warmHold = s.warmHold := by rw [h.same]

theorem rd (h : Moves P x s t) {f : Field} (apart : ¬ P f.addr) : t.rd f = s.rd f := h.writes.rd apart

theorem ite {c : Prop} [Decidable c] (a : Moves P x s₀ s) (b : Moves P x s₀ t) : Moves P x s₀ (if c then s else t) := by
  split
  · exact a
  · exact b

theorem foldl {β : Type} {f : State → β → State} {l : List β} (h : Moves P x s₀ s)
    (step : ∀ s, ∀ b ∈ l, Moves P x s₀ s → Moves P x s₀ (f s b)) : Moves P x s₀ (l.foldl f s) :=
  List.foldlRecOn l f h fun s hs b hb => step s b hb hs

/-- Whatever was reported, if its words are allowed and no drive fault is forgotten. -/
theorem reports (h : Moves P x s₀ s) (r : Reports s t) (w : Writes P s t)
    (shown : ∀ n, s.flag (driveReal x n) = true → t.flag (driveReal x n) = true) : Moves P x s₀ t := by
  refine h.trans ⟨?_, w, fun y => ?_, shown⟩
  · rw [r.same]
  · rw [State.calRunning, r.calib, State.calRunning]

theorem wr {f v} (h : Moves P x s₀ s) (ha : P f.addr) (other : f.addr ≠ (FB.DRIVE x).real) : Moves P x s₀ (s.wr f v) :=
  h.reports (s.wr_reports f v) ((Writes.refl P s).wr ha) fun _ r =>
    (congrArg (bitsOf · _ _ == 1) (s.word_wr_other f v _ (Ne.symm other))).trans r

theorem setTile {y z} (h : Moves P x s₀ s) : Moves P x s₀ (s.setTile y z) :=
  h.trans ⟨rfl, .refl P s, fun _ => rfl, fun _ r => r⟩

theorem setCalib {c} (h : Moves P x s₀ s) (running : ∀ y, (c.runs.lookup y).isSome = s.calRunning y) :
    Moves P x s₀ { s with calib := c } :=
  h.trans ⟨rfl, .refl P s, running, fun _ r => r⟩

end Moves

theorem driveReal_fault (x : Nat) : FaultWord x (FB.DRIVE x).real := by
  simp only [FaultWord, FB.DRIVE]
  omega

theorem ChannelWord.ne_real {x ch a : Nat} (h : ChannelWord x ch a) : a ≠ (FB.DRIVE x).real := by
  simp only [ChannelWord, FB.DRIVE] at *
  omega

/-- A counter in a tile's window saturates with FABRIC's SATURATED (R463). -/
theorem saturatedSource_tile {a : Nat} (lo : tilesFrom ≤ a) (hi : a < 0x630000) : saturatedSource a = Src.FABRIC.SATURATED := by
  have owner : ownerBlock a = some 27 ∨ ownerBlock a = some 28 ∨ ownerBlock a = some 29 ∨ ownerBlock a = some 30 := by
    unfold tilesFrom at lo
    simp (disch := omega) only [ownerBlock, if_neg]
    split_ifs <;> simp
  rcases owner with h | h | h | h <;> simp [saturatedSource, h]

theorem FaultWord.saturates {x a : Nat} (h : FaultWord x a) : saturatedSource a = Src.FABRIC.SATURATED := by
  simp only [FaultWord] at h
  exact saturatedSource_tile (by simp only [tilesFrom]; omega) (by omega)

/-! ### Where the fields of a channel lie -/

section
variable (x c k : Nat)

theorem shdCode_word : ChannelWord x c (shdCode x c k).addr := by
  unfold shdCode
  split
  all_goals
    simp only [ChannelWord, F.POCK_SHD0.CODE, F.POCK_SHD1.CODE]
    omega

theorem ladderSet_addr : (ladderSet x c k).addr = (F.POCK_STAT.SEL_SET x c).addr := by
  unfold ladderSet
  split <;> rfl

theorem actCode_addr : (actCode x c k).addr = (F.POCK_ACT.ACT0 x c).addr := by
  unfold actCode
  split <;> rfl

theorem pockStat_word : ChannelWord x c (F.POCK_STAT.SEL_SET x c).addr := by
  simp only [ChannelWord, F.POCK_STAT.SEL_SET]
  omega

theorem pockAct_word : ChannelWord x c (F.POCK_ACT.ACT0 x c).addr := by
  simp only [ChannelWord, F.POCK_ACT.ACT0]
  omega

theorem pockSelShd_word : ChannelWord x c (F.POCK_SEL_SHD.SEL x c).addr := by
  simp only [ChannelWord, F.POCK_SEL_SHD.SEL]
  omega

theorem htrAct_word : ChannelWord x c (F.HTR_ACT.SET x c).addr := by
  simp only [ChannelWord, F.HTR_ACT.SET]
  omega

theorem htrShd_word : ChannelWord x c (F.HTR_SHD.CODE x c).addr := by
  simp only [ChannelWord, F.HTR_SHD.CODE]
  omega

theorem ladderSet_word : ChannelWord x c (ladderSet x c k).addr := ladderSet_addr x c k ▸ pockStat_word x c

theorem actCode_word : ChannelWord x c (actCode x c k).addr := actCode_addr x c k ▸ pockAct_word x c

end

end Sys2Proof.Machine

namespace Sys2Proof.Machine

/-! ### What the operations on one channel may write -/

theorem State.markDue_marks (s : State) (x cause : Nat) : Writes MarkWord s (s.markDue x cause) := by
  have stat : MarkWord (F.TILE_CAL_STAT.DUE x).addr := by
    simp only [MarkWord, F.TILE_CAL_STAT.DUE]
    omega
  have due : MarkWord (F.CAL_DUE.DUE (x / 32)).addr := by
    simp only [MarkWord, F.CAL_DUE.DUE]
    omega
  unfold State.markDue
  extract_lets auto f
  split
  · have caused : Writes MarkWord s (s.wr f (s.rd f ||| 2 ^ cause)) := (Writes.refl _ s).wr (f := f) stat
    exact (caused.setFlag (f := F.TILE_CAL_STAT.DUE x) stat).setFlag due
  · exact Writes.refl _ s

theorem State.markDue_reports (s : State) (x cause : Nat) : Reports s (s.markDue x cause) := by
  unfold State.markDue
  extract_lets auto f
  split
  · exact ((s.wr_reports _ _).trans (State.setFlag_reports _ _ _)).trans (State.setFlag_reports _ _ _)
  · exact Reports.refl s

theorem State.markDue_outbox (s : State) (x cause : Nat) : (s.markDue x cause).outbox = s.outbox := by
  unfold State.markDue
  extract_lets auto f
  split <;> rfl

/-- An update of one calibration's record begins and ends none. -/
theorem lookup_update_isSome {β : Type} (l : List (Nat × β)) (k y : Nat) (v : β) :
    ((l.map fun e => if e.1 = k then (k, v) else e).lookup y).isSome = (l.lookup y).isSome := by
  induction l with
  | nil => rfl
  | cons e rest ih =>
    rw [List.map_cons]
    by_cases here : e.1 = k
    · rw [if_pos here, List.lookup_cons, List.lookup_cons, here]
      cases y == k
      · exact ih
      · rfl
    · rw [if_neg here, List.lookup_cons, List.lookup_cons]
      cases y == e.1
      · exact ih
      · rfl

/-- What a move of the channel notes about a calibration in progress: marks, and a record. -/
theorem State.touchCal_cases (s : State) (x ch : Nat) : s.touchCal x ch = s ∨
    ∃ c : Calib, (∀ y, (c.runs.lookup y).isSome = s.calRunning y) ∧ s.touchCal x ch = { s with calib := c }.markDue x 1 := by
  unfold State.touchCal
  split
  · next run _ =>
    extract_lets run'
    split
    · exact .inr ⟨_, fun y => lookup_update_isSome _ x y run', rfl⟩
    · exact .inl rfl
  · exact .inl rfl

theorem State.touchCal_marks (s : State) (x ch : Nat) : Writes MarkWord s (s.touchCal x ch) := by
  rcases s.touchCal_cases x ch with same | ⟨c, _, marked⟩
  · rw [same]
    exact Writes.refl _ s
  · rw [marked]
    exact State.markDue_marks { s with calib := c } x 1

theorem State.touchCal_tiles (s : State) (x ch : Nat) : (s.touchCal x ch).tiles = s.tiles := by
  rcases s.touchCal_cases x ch with same | ⟨c, _, marked⟩
  · rw [same]
  · rw [marked, (State.markDue_reports _ x 1).tiles]

theorem State.touchCal_outbox (s : State) (x ch : Nat) : (s.touchCal x ch).outbox = s.outbox := by
  rcases s.touchCal_cases x ch with same | ⟨c, _, marked⟩
  · rw [same]
  · rw [marked, State.markDue_outbox]

theorem MarkWord.ne_real {x a : Nat} (h : MarkWord a) : a ≠ (FB.DRIVE x).real := by
  simp only [MarkWord, FB.DRIVE] at *
  omega

/-- A field of a tile's window is not where marks go. -/
theorem not_markWord {a : Nat} (tile : tilesFrom ≤ a) : ¬ MarkWord a := by
  simp only [MarkWord, tilesFrom] at *
  omega

theorem not_cascadeWord {a : Nat} (tile : tilesFrom ≤ a) : ¬ CascadeWord a := by
  simp only [CascadeWord, tilesFrom] at *
  omega

theorem ChannelWord.tile {x ch a : Nat} (h : ChannelWord x ch a) : tilesFrom ≤ a := by
  simp only [ChannelWord, tilesFrom] at *
  omega

theorem FaultWord.tile {x a : Nat} (h : FaultWord x a) : tilesFrom ≤ a := by
  simp only [FaultWord, tilesFrom] at *
  omega

theorem ChannelWord.not_fault {x ch a : Nat} (h : ChannelWord x ch a) : ¬ FaultWord x a := by
  simp only [ChannelWord, FaultWord] at *
  omega

namespace Moves
variable {P : Nat → Prop} {x ch k : Nat} {s₀ s : State}

theorem markDue {cause} (h : Moves (DriveWord x ch) x s₀ s) : Moves (DriveWord x ch) x s₀ (s.markDue x cause) :=
  h.reports (s.markDue_reports x cause) ((s.markDue_marks x cause).mono fun _ m => .inr (.inl m)) fun _ r =>
    (congrArg (· == 1) ((s.markDue_marks x cause).rd fun m => m.ne_real rfl)).trans r

theorem touchCal {y} (h : Moves (DriveWord x ch) x s₀ s) : Moves (DriveWord x ch) x s₀ (s.touchCal x y) := by
  rcases s.touchCal_cases x y with same | ⟨c, running, marked⟩
  · rw [same]
    exact h
  · rw [marked]
    exact (h.setCalib running).markDue

/-- A field of a word of the channel takes a value; the word may be given by another of its fields. -/
theorem put {f v a} (h : Moves (DriveWord x ch) x s₀ s) (own : ChannelWord x ch a) (place : f.addr = a := by rfl) :
    Moves (DriveWord x ch) x s₀ (s.wr f v) :=
  h.wr (.inl (place ▸ own)) (place ▸ own.ne_real)

theorem raise {n} (h : Moves P x s₀ s) (cov : ∀ a, ReportWord x a → P a) (hn : n + 1 ≤ 32) :
    Moves P x s₀ (s.raise ⟨FB.DRIVE x, n⟩) := by
  refine h.reports (s.raise_reports _) ((s.raise_writes _).mono fun a => ?_) fun m => s.flag_raise_mono _ rfl hn
    (not_cascadeWord (driveReal_fault x).tile)
  rintro (cascade | ⟨y, hy, rfl⟩)
  · exact cov a (.inl cascade)
  · exact cov _ (.inr (List.mem_singleton.mp hy ▸ driveReal_fault x))

theorem bumpBy {w n} (h : Moves P x s₀ s) (cov : ∀ a, ReportWord x a → P a) (lo : FaultWord x w.addr)
    (hi : FaultWord x (w.addr + 4)) (apart : w.addr ≠ (FB.DRIVE x).real ∧ w.addr + 4 ≠ (FB.DRIVE x).real) :
    Moves P x s₀ (s.bumpBy w n) := by
  have writes := s.bumpBy_writes lo.saturates n
  refine h.reports (s.bumpBy_reports w n) (writes.mono fun a => ?_) fun m r => (congrArg (· == 1) (writes.rd ?_)).trans r
  · rintro (rfl | rfl | cascade)
    · exact cov _ (.inr lo)
    · exact cov _ (.inr hi)
    · exact cov a (.inl cascade)
  · rintro (same | same | cascade)
    · exact apart.1 same.symm
    · exact apart.2 same.symm
    · exact not_cascadeWord (driveReal_fault x).tile cascade

theorem bumpRefused {n} (h : Moves P x s₀ s) (cov : ∀ a, ReportWord x a → P a) :
    Moves P x s₀ (s.bumpBy (F.TILE_REFUSED_CNT x) n) := by
  refine h.bumpBy cov ?_ ?_ ?_ <;>
  · simp only [FaultWord, FB.DRIVE, F.TILE_REFUSED_CNT]
    omega

theorem bumpMissed {n} (h : Moves P x s₀ s) (cov : ∀ a, ReportWord x a → P a) :
    Moves P x s₀ (s.bumpBy (F.MISSED_CNT x) n) := by
  refine h.bumpBy cov ?_ ?_ ?_ <;>
  · simp only [FaultWord, FB.DRIVE, F.MISSED_CNT]
    omega

theorem refuseWrites {n} (h : Moves P x s₀ s) (cov : ∀ a, ReportWord x a → P a) : Moves P x s₀ (s.refuseWrites x n) :=
  .ite h ((h.bumpRefused cov).raise cov (by decide))

theorem stampMove (h : Moves (DriveWord x ch) x s₀ s) : Moves (DriveWord x ch) x s₀ (s.stampMove x ch) := h.setTile

theorem transferLadder (h : Moves (DriveWord x ch) x s₀ s) : Moves (DriveWord x ch) x s₀ (s.transferLadder x ch k) := by
  unfold State.transferLadder
  extract_lets s1 y
  have h1 : Moves (DriveWord x ch) x s₀ s1 := (h.put (actCode_word x ch k)).put (ladderSet_word x ch k)
  exact h1.setTile.stampMove.touchCal

theorem transferIfSealed (h : Moves (DriveWord x ch) x s₀ s) : Moves (DriveWord x ch) x s₀ (s.transferIfSealed x ch k) :=
  .ite h.transferLadder h

theorem sealLadder (h : Moves (DriveWord x ch) x s₀ s) : Moves (DriveWord x ch) x s₀ (s.sealLadder x ch k) := by
  unfold State.sealLadder
  extract_lets s1
  have h1 : Moves (DriveWord x ch) x s₀ s1 := h.put (ladderSet_word x ch k)
  exact .ite (.ite h1 h1.transferLadder) h

theorem sealSelect (h : Moves (DriveWord x ch) x s₀ s) : Moves (DriveWord x ch) x s₀ (s.sealSelect x ch) :=
  .ite (h.put (pockStat_word x ch)) h

theorem sealHeater (h : Moves (DriveWord x ch) x s₀ s) : Moves (DriveWord x ch) x s₀ (s.sealHeater x ch) :=
  .ite (h.put (htrAct_word x ch)) h

theorem changeRange (h : Moves (DriveWord x ch) x s₀ s) : Moves (DriveWord x ch) x s₀ (s.changeRange x ch) := by
  unfold State.changeRange
  extract_lets target s1 y
  have h1 : Moves (DriveWord x ch) x s₀ s1 := ((h.put (pockAct_word x ch)).put (pockAct_word x ch)).put (pockStat_word x ch)
  exact h1.setTile.touchCal.markDue

theorem transferSelect (h : Moves (DriveWord x ch) x s₀ s) : Moves (DriveWord x ch) x s₀ (s.transferSelect x ch) := by
  unfold State.transferSelect
  extract_lets ranged refused s1 sel s2 s3 s4 y
  have cov : ∀ a, ReportWord x a → DriveWord x ch a := fun _ r => .inr (.inr r)
  have h1 : Moves (DriveWord x ch) x s₀ s1 := .ite (((h.put (pockSelShd_word x ch)).bumpRefused cov).raise cov (by decide)) h
  have h2 : Moves (DriveWord x ch) x s₀ s2 := .ite h1 h1.transferIfSealed.transferIfSealed
  have h3 : Moves (DriveWord x ch) x s₀ s3 := .ite h2.changeRange h2
  have h4 : Moves (DriveWord x ch) x s₀ s4 := (h3.put (pockStat_word x ch)).put (pockStat_word x ch)
  exact h4.setTile.stampMove

theorem strobeSelect (h : Moves (DriveWord x ch) x s₀ s) : Moves (DriveWord x ch) x s₀ (s.strobeSelect x ch) :=
  .ite h.transferSelect h

theorem transferHeater (h : Moves (DriveWord x ch) x s₀ s) : Moves (DriveWord x ch) x s₀ (s.transferHeater x ch) := by
  unfold State.transferHeater
  extract_lets range ranged s1 y s2
  have h1 : Moves (DriveWord x ch) x s₀ s1 := ((h.put (htrAct_word x ch)).put (htrAct_word x ch)).put (htrAct_word x ch)
  have h2 : Moves (DriveWord x ch) x s₀ s2 := h1.setTile.stampMove.touchCal
  exact .ite h2.markDue h2

end Moves

/-! ### One channel among those of a fold -/

/-- A fold over distinct items is its step at `c` between steps that `R` relates. -/
theorem foldl_focus {β : Type} {R : State → State → Prop} (refl : ∀ s, R s s) (trans : ∀ {s t u}, R s t → R t u → R s u)
    {f : State → β → State} {l : List β} {c : β} (hc : c ∈ l) (distinct : l.Nodup)
    (other : ∀ s, ∀ y ∈ l, y ≠ c → R s (f s y)) (s : State) : ∃ u, R s u ∧ R (f u c) (l.foldl f s) := by
  obtain ⟨before, after, rfl⟩ := List.append_of_mem hc
  have parts := List.nodup_append.mp distinct
  have notBefore : c ∉ before := fun h => parts.2.2 c h c List.mem_cons_self rfl
  have notAfter : c ∉ after := (List.nodup_cons.mp parts.2.1).1
  have run : ∀ (part : List β) (u : State), (∀ y ∈ part, y ∈ before ++ c :: after ∧ y ≠ c) → R u (part.foldl f u) :=
    fun part u hp => List.foldlRecOn part f (refl u) fun v hv y hy => trans hv (other v y (hp y hy).1 (hp y hy).2)
  rw [List.foldl_append, List.foldl_cons]
  refine ⟨before.foldl f s, run before s fun y hy => ⟨by simp [hy], ?_⟩, run after _ fun y hy => ⟨by simp [hy], ?_⟩⟩
  · rintro rfl
    exact notBefore hy
  · rintro rfl
    exact notAfter hy

theorem mem_channels {c : Nat} (h : c < 64) : c ∈ channels := List.mem_range.mpr h

theorem lt_of_mem_channels {c : Nat} (h : c ∈ channels) : c < 64 := List.mem_range.mp h

/-- A fold of channel operations over channels of a tile, seen from channel `c`. -/
theorem foldl_channel {f : State → Nat → State} {l : List Nat} {x c : Nat} (hc : c ∈ l) (distinct : l.Nodup)
    (inside : ∀ y ∈ l, y < 64) (step : ∀ s ch, Moves (DriveWord x ch) x s (f s ch)) (s : State) :
    ∃ u, Moves (AsideWord x c) x s u ∧ Moves (AsideWord x c) x (f u c) (l.foldl f s) :=
  foldl_focus (R := Moves (AsideWord x c) x) (.refl _ x) .trans hc distinct (fun s y hy other =>
    (step s y).mono fun _ h => h.aside (inside c hc) (inside y hy) other) s

theorem foldl_channels {f : State → Nat → State} {x c : Nat} (hc : c < 64)
    (step : ∀ s ch, Moves (DriveWord x ch) x s (f s ch)) (s : State) :
    ∃ u, Moves (AsideWord x c) x s u ∧ Moves (AsideWord x c) x (f u c) (channels.foldl f s) :=
  foldl_channel (mem_channels hc) List.nodup_range (fun _ => lt_of_mem_channels) step s

/-- A channel's field reads the same before and after what happens to the others; its word may be given by another field. -/
theorem Moves.own {x c : Nat} {s t : State} (h : Moves (AsideWord x c) x s t) {f : Field} {a : Nat} (own : ChannelWord x c a)
    (place : f.addr = a := by rfl) : t.rd f = s.rd f :=
  h.rd fun aside => aside (.inl (place ▸ own))

/-- A word of a channel is not where reports go. -/
theorem ChannelWord.not_report {x ch a : Nat} (h : ChannelWord x ch a) : ¬ ReportWord x a := by
  rintro (cascade | fault)
  · exact not_cascadeWord h.tile cascade
  · exact h.not_fault fault

/-- A channel's field reads the same before and after a report. -/
theorem Moves.unreported {x c : Nat} {s t : State} (h : Moves (ReportWord x) x s t) {f : Field} {a : Nat}
    (own : ChannelWord x c a) (place : f.addr = a := by rfl) : t.rd f = s.rd f :=
  h.rd (place ▸ own.not_report)

end Sys2Proof.Machine

namespace Sys2Proof.Machine

/-! ## Shadow writes and seals

What a write or a seal leaves in the fields of its own channel; the others of a SEAL_CMD leave that channel alone
(`foldl_channels`). -/

/-! ### The fields of the ladders -/

section
variable (x c k : Nat)

theorem shdCode_range : (shdCode x c k).lsb = 0 ∧ (shdCode x c k).width = 16 := by
  unfold shdCode
  split <;> exact ⟨rfl, rfl⟩

theorem ladderSet_range : 2 ≤ (ladderSet x c k).lsb ∧ (ladderSet x c k).lsb + 2 ≤ 6 ∧ (ladderSet x c k).width = 2 := by
  unfold ladderSet
  split <;> simp [F.POCK_STAT.L0_SET, F.POCK_STAT.L1_SET]

theorem actCode_range : (actCode x c k).lsb + 16 ≤ 32 ∧ (actCode x c k).width = 16 := by
  unfold actCode
  split <;> simp [F.POCK_ACT.ACT0, F.POCK_ACT.ACT1]

theorem shdCode_addr_lt : (shdCode x c k).addr < (F.POCK_SEL_SHD.SEL x c).addr := by
  unfold shdCode
  split
  all_goals
    simp only [F.POCK_SHD0.CODE, F.POCK_SHD1.CODE, F.POCK_SEL_SHD.SEL]
    omega

theorem pockSelShd_addr_lt : (F.POCK_SEL_SHD.SEL x c).addr < (F.POCK_ACT.ACT0 x c).addr := by
  simp only [F.POCK_SEL_SHD.SEL, F.POCK_ACT.ACT0]
  omega

theorem pockAct_addr_lt : (F.POCK_ACT.ACT0 x c).addr < (F.POCK_STAT.SEL_SET x c).addr := by
  simp only [F.POCK_ACT.ACT0, F.POCK_STAT.SEL_SET]
  omega

end

/-- No bit of one field is a bit of the other. -/
abbrev Field.Apart (f g : Field) : Prop := f.addr ≠ g.addr ∨ f.lsb + f.width ≤ g.lsb ∨ g.lsb + g.width ≤ f.lsb

theorem Field.Apart.symm {f g : Field} (h : f.Apart g) : g.Apart f := h.imp Ne.symm Or.symm

/-- The set states and the active codes of the two ladders are different fields. -/
theorem ladders_apart {x c k j : Nat} (differ : (k = 0) ≠ (j = 0)) :
    (ladderSet x c k).Apart (ladderSet x c j) ∧ (actCode x c k).Apart (actCode x c j) := by
  unfold ladderSet actCode
  by_cases first : k = 0
  · have second : ¬ j = 0 := fun h => differ (by simp [first, h])
    rw [if_pos first, if_pos first, if_neg second, if_neg second]
    exact ⟨.inr (.inl (show 2 + 2 ≤ 4 by decide)), .inr (.inl (show 0 + 16 ≤ 16 by decide))⟩
  · have second : j = 0 := by
      by_contra h
      exact differ (by simp [first, h])
    rw [if_neg first, if_neg first, if_pos second, if_pos second]
    exact ⟨.inr (.inr (show 2 + 2 ≤ 4 by decide)), .inr (.inr (show 0 + 16 ≤ 16 by decide))⟩

/-! ### Transfers and seals of a ladder -/

/-- What a transfer of a ladder leaves in the tile's fields. -/
theorem State.rd_transferLadder (s : State) (x c k : Nat) {f : Field} (tile : tilesFrom ≤ f.addr) :
    (s.transferLadder x c k).rd f = ((s.wr (actCode x c k) (s.rd (shdCode x c k))).wr (ladderSet x c k) 0).rd f :=
  (State.touchCal_marks _ x c).rd (not_markWord tile)

theorem State.rd_transferLadder_other (s : State) (x c k : Nat) {f : Field} (tile : tilesFrom ≤ f.addr)
    (act : (actCode x c k).Apart f) (set : (ladderSet x c k).Apart f) : (s.transferLadder x c k).rd f = s.rd f := by
  obtain ⟨_, setEnd, setWidth⟩ := ladderSet_range x c k
  obtain ⟨actEnd, actWidth⟩ := actCode_range x c k
  rw [s.rd_transferLadder x c k tile, State.rd_wr_disjoint _ _ (by omega) set, State.rd_wr_disjoint _ _ (by omega) act]

theorem State.rd_transferLadder_set (s : State) (x c k : Nat) : (s.transferLadder x c k).rd (ladderSet x c k) = 0 := by
  obtain ⟨_, setEnd, setWidth⟩ := ladderSet_range x c k
  rw [s.rd_transferLadder x c k (ladderSet_word x c k).tile, State.rd_wr_mod _ _ _ (by omega), Nat.zero_mod]

theorem State.rd_transferLadder_act (s : State) (x c k : Nat) :
    (s.transferLadder x c k).rd (actCode x c k) = s.rd (shdCode x c k) := by
  obtain ⟨_, setEnd, setWidth⟩ := ladderSet_range x c k
  obtain ⟨actEnd, actWidth⟩ := actCode_range x c k
  have apart : (ladderSet x c k).addr ≠ (actCode x c k).addr := by
    rw [ladderSet_addr, actCode_addr]
    exact (pockAct_addr_lt x c).ne'
  have small : s.rd (shdCode x c k) < 2 ^ (actCode x c k).width := by
    rw [actWidth, ← (shdCode_range x c k).2]
    exact bitsOf_lt _ _ _
  rw [s.rd_transferLadder x c k (actCode_word x c k).tile, State.rd_wr_disjoint _ _ (by omega) (.inl apart),
    s.rd_wr_same _ (by omega) small]

theorem actSel_apart (x c k : Nat) :
    (actCode x c k).Apart (F.POCK_STAT.ACT_SEL x c) ∧ (ladderSet x c k).Apart (F.POCK_STAT.ACT_SEL x c) := by
  refine ⟨.inl ?_, .inr (.inr ?_)⟩
  · rw [actCode_addr]
    exact (pockAct_addr_lt x c).ne
  · exact (show 0 + 1 ≤ 2 by decide).trans (ladderSet_range x c k).1

/-- What the seal of a ladder set does (R59, R61): the OPEN set of the selected ladder becomes SEALED, the OPEN set of the
unselected one transfers, and any other stays. -/
def LadderSealed (s t : State) (x c k : Nat) : Prop :=
  if s.rd (ladderSet x c k) = 1 then
    (if s.rd (F.POCK_STAT.ACT_SEL x c) = k then t.rd (ladderSet x c k) = 2 ∧ t.rd (actCode x c k) = s.rd (actCode x c k)
     else t.rd (ladderSet x c k) = 0 ∧ t.rd (actCode x c k) = s.rd (shdCode x c k))
  else t.rd (ladderSet x c k) = s.rd (ladderSet x c k) ∧ t.rd (actCode x c k) = s.rd (actCode x c k)

/-- SEALED put into a set state changes no other field. -/
theorem State.rd_sealed_other (s : State) {x c k : Nat} {f : Field} (set : (ladderSet x c k).Apart f) :
    (s.wr (ladderSet x c k) 2).rd f = s.rd f := by
  obtain ⟨_, setEnd, setWidth⟩ := ladderSet_range x c k
  exact s.rd_wr_disjoint 2 (by omega) set

theorem State.sealLadder_seals (s : State) (x c k : Nat) : LadderSealed s (s.sealLadder x c k) x c k := by
  obtain ⟨_, setEnd, setWidth⟩ := ladderSet_range x c k
  have act : (ladderSet x c k).Apart (actCode x c k) := by
    refine .inl ?_
    rw [ladderSet_addr, actCode_addr]
    exact (pockAct_addr_lt x c).ne'
  have shd : (ladderSet x c k).Apart (shdCode x c k) := by
    refine .inl ?_
    rw [ladderSet_addr]
    exact (((shdCode_addr_lt x c k).trans (pockSelShd_addr_lt x c)).trans (pockAct_addr_lt x c)).ne'
  unfold LadderSealed State.sealLadder
  split
  · split
    · exact ⟨s.rd_wr_same _ (by omega) (by rw [setWidth]; decide), s.rd_sealed_other act⟩
    · exact ⟨State.rd_transferLadder_set _ x c k, (State.rd_transferLadder_act _ x c k).trans (s.rd_sealed_other shd)⟩
  · exact ⟨rfl, rfl⟩

theorem State.rd_sealLadder_other (s : State) (x c k : Nat) {f : Field} (tile : tilesFrom ≤ f.addr)
    (act : (actCode x c k).Apart f) (set : (ladderSet x c k).Apart f) : (s.sealLadder x c k).rd f = s.rd f := by
  unfold State.sealLadder
  dsimp only
  split
  · split
    · exact s.rd_sealed_other set
    · exact (State.rd_transferLadder_other _ x c k tile act set).trans (s.rd_sealed_other set)
  · rfl

/-- A seal of one ladder does not touch what the other's seal does. -/
theorem State.sealLadder_keeps (s : State) {x c k j : Nat} (differ : (k = 0) ≠ (j = 0)) :
    (s.sealLadder x c k).rd (ladderSet x c j) = s.rd (ladderSet x c j) ∧
      (s.sealLadder x c k).rd (actCode x c j) = s.rd (actCode x c j) ∧
      (s.sealLadder x c k).rd (shdCode x c j) = s.rd (shdCode x c j) ∧
      (s.sealLadder x c k).rd (F.POCK_STAT.ACT_SEL x c) = s.rd (F.POCK_STAT.ACT_SEL x c) := by
  obtain ⟨sets, acts⟩ := ladders_apart (x := x) (c := c) differ
  obtain ⟨actSel, setSel⟩ := actSel_apart x c k
  have actStat := pockAct_addr_lt x c
  have shdAct := (shdCode_addr_lt x c j).trans (pockSelShd_addr_lt x c)
  have setAt := ladderSet_addr x c
  have actAt := actCode_addr x c
  refine ⟨s.rd_sealLadder_other x c k (ladderSet_word x c j).tile (.inl ?_) sets,
    s.rd_sealLadder_other x c k (actCode_word x c j).tile acts (.inl ?_),
    s.rd_sealLadder_other x c k (shdCode_word x c j).tile (.inl ?_) (.inl ?_),
    s.rd_sealLadder_other x c k (pockStat_word x c).tile actSel setSel⟩
  · rw [setAt, actAt]
    exact actStat.ne
  · rw [setAt, actAt]
    exact actStat.ne'
  · rw [actAt]
    exact shdAct.ne'
  · rw [setAt]
    exact (shdAct.trans actStat).ne'

/-- Both ladders of a channel sealed, each as if alone. -/
theorem State.sealLadders_seal (s : State) (x c : Nat) (k : Fin 2) :
    LadderSealed s ((s.sealLadder x c 0).sealLadder x c 1) x c k := by
  match k with
  | 0 =>
    obtain ⟨set, act, _, _⟩ := (s.sealLadder x c 0).sealLadder_keeps (x := x) (c := c) (k := 1) (j := 0) (by decide)
    have sealed := s.sealLadder_seals x c 0
    unfold LadderSealed at sealed ⊢
    simpa only [set, act, Fin.val_zero] using sealed
  | 1 =>
    obtain ⟨set, act, shd, sel⟩ := s.sealLadder_keeps (x := x) (c := c) (k := 0) (j := 1) (by decide)
    have sealed := (s.sealLadder x c 0).sealLadder_seals x c 1
    unfold LadderSealed at sealed ⊢
    simpa only [set, act, shd, sel, Fin.val_one] using sealed

end Sys2Proof.Machine

namespace Sys2Proof.Machine

/-! ### The seals of one tile -/

theorem State.sealSelect_set (s : State) (x c : Nat) : (s.sealSelect x c).rd (F.POCK_STAT.SEL_SET x c) =
    if s.rd (F.POCK_STAT.SEL_SET x c) = 1 then 2 else s.rd (F.POCK_STAT.SEL_SET x c) := by
  unfold State.sealSelect
  split
  · exact s.rd_wr_same _ (show 6 + 2 ≤ 32 by decide) (show 2 < 2 ^ 2 by decide)
  · rfl

theorem State.sealHeater_set (s : State) (x c : Nat) : (s.sealHeater x c).rd (F.HTR_ACT.SET x c) =
    if s.rd (F.HTR_ACT.SET x c) = 1 then 2 else s.rd (F.HTR_ACT.SET x c) := by
  unfold State.sealHeater
  split
  · exact s.rd_wr_same _ (show 17 + 2 ≤ 32 by decide) (show 2 < 2 ^ 2 by decide)
  · rfl

theorem sealSelAll_seals (s : State) (m : Master) (x : Fin 76) (c : Fin 64)
    (ok : s.writeAccess m (F.SEAL_CMD.SEL_ALL x).addr = .ok) (linked : s.linkUp x = true) :
    ∃ t, exec (.sealSelAll m x) s = .next t ∧ t.rd (F.POCK_STAT.SEL_SET x c) =
        (if s.rd (F.POCK_STAT.SEL_SET x c) = 1 then 2 else s.rd (F.POCK_STAT.SEL_SET x c)) ∧ t.mem = s.mem := by
  have step : ∀ u ch, Moves (DriveWord x ch) x u (u.sealSelect x ch) := fun u ch => (Moves.refl _ x u).sealSelect
  obtain ⟨u, before, after⟩ := foldl_channels c.isLt step s
  refine ⟨_, congrArg Host.Outcome.next (s.gateTile_ok m x _ _ ok linked), ?_, ?_⟩
  · rw [State.sealSelAll, after.own (f := F.POCK_STAT.SEL_SET x c) (pockStat_word x c), u.sealSelect_set,
      before.own (f := F.POCK_STAT.SEL_SET x c) (pockStat_word x c)]
  · exact after.mem.trans ((step u c).mem.trans before.mem)

theorem sealHtrAll_seals (s : State) (m : Master) (x : Fin 76) (c : Fin 64)
    (ok : s.writeAccess m (F.SEAL_CMD.HTR_ALL x).addr = .ok) (linked : s.linkUp x = true) :
    ∃ t, exec (.sealHtrAll m x) s = .next t ∧ t.rd (F.HTR_ACT.SET x c) =
        (if s.rd (F.HTR_ACT.SET x c) = 1 then 2 else s.rd (F.HTR_ACT.SET x c)) ∧ t.mem = s.mem := by
  have step : ∀ u ch, Moves (DriveWord x ch) x u (u.sealHeater x ch) := fun u ch => (Moves.refl _ x u).sealHeater
  obtain ⟨u, before, after⟩ := foldl_channels c.isLt step s
  refine ⟨_, congrArg Host.Outcome.next (s.gateTile_ok m x _ _ ok linked), ?_, ?_⟩
  · rw [State.sealHtrAll, after.own (f := F.HTR_ACT.SET x c) (htrAct_word x c), u.sealHeater_set,
      before.own (f := F.HTR_ACT.SET x c) (htrAct_word x c)]
  · exact after.mem.trans ((step u c).mem.trans before.mem)

theorem sealLadderAll_seals (s : State) (m : Master) (x : Fin 76) (c : Fin 64) (k : Fin 2)
    (ok : s.writeAccess m (F.SEAL_CMD.LADDER_ALL x).addr = .ok) (linked : s.linkUp x = true) :
    ∃ t, exec (.sealLadderAll m x) s = .next t ∧ t.mem = s.mem ∧ LadderSealed s t x c k := by
  have step : ∀ u ch, Moves (DriveWord x ch) x u ((u.sealLadder x ch 0).sealLadder x ch 1) := fun u ch =>
    (Moves.refl _ x u).sealLadder.sealLadder
  obtain ⟨u, before, after⟩ := foldl_channels c.isLt step s
  refine ⟨_, congrArg Host.Outcome.next (s.gateTile_ok m x _ _ ok linked),
    after.mem.trans ((step u c).mem.trans before.mem), ?_⟩
  have sealed := u.sealLadders_seal x c k
  unfold LadderSealed at sealed ⊢
  rwa [before.own (f := ladderSet x c k) (ladderSet_word x c k), before.own (f := actCode x c k) (actCode_word x c k),
    before.own (f := shdCode x c k) (shdCode_word x c k),
    before.own (f := F.POCK_STAT.ACT_SEL x c) (pockStat_word x c), ← after.own (f := ladderSet x c k) (ladderSet_word x c k),
    ← after.own (f := actCode x c k) (actCode_word x c k)] at sealed

theorem pockSealL0_seals (s : State) (m : Master) (x : Fin 76) (c : Fin 64)
    (ok : s.writeAccess m (F.POCK_SEAL.L0 x c).addr = .ok) (linked : s.linkUp x = true)
    (opened : s.rd (F.POCK_STAT.L0_SET x c) = 1) :
    ∃ t, exec (.pockSealL0 m x c) s = .next t ∧ t.mem = s.mem ∧
      (if s.rd (F.POCK_STAT.ACT_SEL x c) = 0 then t.rd (F.POCK_STAT.L0_SET x c) = 2
       else t.rd (F.POCK_STAT.L0_SET x c) = 0 ∧ t.rd (F.POCK_ACT.ACT0 x c) = s.rd (F.POCK_SHD0.CODE x c)) := by
  refine ⟨_, congrArg Host.Outcome.next (s.gateTile_ok m x _ _ ok linked), (Moves.refl _ x s).sealLadder.mem, ?_⟩
  have sealed := s.sealLadder_seals x c 0
  rw [LadderSealed, if_pos (show s.rd (ladderSet x c 0) = 1 from opened)] at sealed
  split
  · next selected => exact ((if_pos selected).mp sealed).1
  · next unselected => exact (if_neg unselected).mp sealed

theorem pockSealL1_seals (s : State) (m : Master) (x : Fin 76) (c : Fin 64)
    (ok : s.writeAccess m (F.POCK_SEAL.L1 x c).addr = .ok) (linked : s.linkUp x = true)
    (opened : s.rd (F.POCK_STAT.L1_SET x c) = 1) :
    ∃ t, exec (.pockSealL1 m x c) s = .next t ∧ t.mem = s.mem ∧
      (if s.rd (F.POCK_STAT.ACT_SEL x c) = 1 then t.rd (F.POCK_STAT.L1_SET x c) = 2
       else t.rd (F.POCK_STAT.L1_SET x c) = 0 ∧ t.rd (F.POCK_ACT.ACT1 x c) = s.rd (F.POCK_SHD1.CODE x c)) := by
  refine ⟨_, congrArg Host.Outcome.next (s.gateTile_ok m x _ _ ok linked), (Moves.refl _ x s).sealLadder.mem, ?_⟩
  have sealed := s.sealLadder_seals x c 1
  rw [LadderSealed, if_pos (show s.rd (ladderSet x c 1) = 1 from opened)] at sealed
  split
  · next selected => exact ((if_pos selected).mp sealed).1
  · next unselected => exact (if_neg unselected).mp sealed

theorem pockSealSel_seals (s : State) (m : Master) (x : Fin 76) (c : Fin 64)
    (ok : s.writeAccess m (F.POCK_SEAL.SEL x c).addr = .ok) (linked : s.linkUp x = true)
    (opened : s.rd (F.POCK_STAT.SEL_SET x c) = 1) :
    ∃ t, exec (.pockSealSel m x c) s = .next t ∧ t.rd (F.POCK_STAT.SEL_SET x c) = 2 ∧
      t.rd (F.POCK_STAT.ACT_SEL x c) = s.rd (F.POCK_STAT.ACT_SEL x c) ∧
      (∀ a, a ≠ (F.POCK_STAT.SEL_SET x c).addr → t.word a = s.word a) ∧ t.mem = s.mem := by
  refine ⟨_, congrArg Host.Outcome.next ((s.gateTile_ok m x _ _ ok linked).trans (if_pos opened)), ?_, ?_, ?_, s.wr_mem _ _⟩
  · exact s.rd_wr_same _ (show 6 + 2 ≤ 32 by decide) (show 2 < 2 ^ 2 by decide)
  · exact s.rd_wr_disjoint 2 (show 6 + 2 ≤ 32 by decide) (.inr (.inr (show 0 + 1 ≤ 6 by decide)))
  · exact fun a => s.word_wr_other _ 2 a

theorem htrSeal_seals (s : State) (m : Master) (x : Fin 76) (c : Fin 64)
    (ok : s.writeAccess m (F.HTR_SEAL.SEAL x c).addr = .ok) (linked : s.linkUp x = true)
    (opened : s.rd (F.HTR_ACT.SET x c) = 1) :
    ∃ t, exec (.htrSeal m x c) s = .next t ∧ t.rd (F.HTR_ACT.SET x c) = 2 ∧
      t.rd (F.HTR_ACT.ACT_CODE x c) = s.rd (F.HTR_ACT.ACT_CODE x c) ∧
      (∀ a, a ≠ (F.HTR_ACT.SET x c).addr → t.word a = s.word a) ∧ t.mem = s.mem := by
  refine ⟨_, congrArg Host.Outcome.next ((s.gateTile_ok m x _ _ ok linked).trans (if_pos opened)), ?_, ?_, ?_, s.wr_mem _ _⟩
  · exact s.rd_wr_same _ (show 17 + 2 ≤ 32 by decide) (show 2 < 2 ^ 2 by decide)
  · exact s.rd_wr_disjoint 2 (show 17 + 2 ≤ 32 by decide) (.inr (.inr (show 0 + 16 ≤ 17 by decide)))
  · exact fun a => s.word_wr_other _ 2 a

/-- A write over a tile's link that would change nothing changes nothing, whether the link is up or not. -/
theorem State.gateTile_same (s : State) (m : Master) (x a : Nat) (act : State → State) (ok : s.writeAccess m a = .ok)
    (same : act s = s) : s.gateTile m x a act = s := by
  cases linked : s.linkUp x with
  | true => exact (s.gateTile_ok m x a act ok linked).trans same
  | false => exact s.gateTile_down m x a act ok linked

theorem seals_ignored (s : State) (m : Master) (x : Fin 76) (c : Fin 64) :
    (s.writeAccess m (F.POCK_SEAL.L0 x c).addr = .ok → s.rd (F.POCK_STAT.L0_SET x c) ≠ 1 →
      exec (.pockSealL0 m x c) s = .next s) ∧
    (s.writeAccess m (F.POCK_SEAL.L1 x c).addr = .ok → s.rd (F.POCK_STAT.L1_SET x c) ≠ 1 →
      exec (.pockSealL1 m x c) s = .next s) ∧
    (s.writeAccess m (F.POCK_SEAL.SEL x c).addr = .ok → s.rd (F.POCK_STAT.SEL_SET x c) ≠ 1 →
      exec (.pockSealSel m x c) s = .next s) ∧
    (s.writeAccess m (F.HTR_SEAL.SEAL x c).addr = .ok → s.rd (F.HTR_ACT.SET x c) ≠ 1 →
      exec (.htrSeal m x c) s = .next s) ∧
    (s.writeAccess m (F.SHUT_SEAL.SEAL x).addr = .ok → isTrimTile x = false → exec (.shutSeal m x) s = .next s) ∧
    (s.writeAccess m (F.SEAL_CMD.SHUT_ALL x).addr = .ok → isTrimTile x = false → exec (.sealShutAll m x) s = .next s) := by
  refine ⟨fun ok closed => ?_, fun ok closed => ?_, fun ok closed => ?_, fun ok closed => ?_, fun ok switching => ?_,
    fun ok switching => ?_⟩
  · exact congrArg Host.Outcome.next (s.gateTile_same m x _ _ ok (if_neg closed))
  · exact congrArg Host.Outcome.next (s.gateTile_same m x _ _ ok (if_neg closed))
  · exact congrArg Host.Outcome.next (s.gateTile_same m x _ _ ok (if_neg closed))
  · exact congrArg Host.Outcome.next (s.gateTile_same m x _ _ ok (if_neg closed))
  · exact congrArg Host.Outcome.next (s.gateTile_same m x _ _ ok (if_neg (Bool.eq_false_iff.mp switching)))
  · exact congrArg Host.Outcome.next (s.gateTile_same m x _ _ ok (if_neg (Bool.eq_false_iff.mp switching)))

/-! ### Writes to the shadows of one channel -/

theorem State.srcPowered_of_up (s : State) (src : Source) (vin : s.power.vin = true) (up : s.power.mainUp = true) :
    s.srcPowered src = true := by
  simp [State.srcPowered, State.powered, vin, up]

/-- Refused host writes are reported (R63). -/
theorem State.flag_refuseWrites (s : State) (x : Nat) {n : Nat} (any : n ≠ 0) (vin : s.power.vin = true)
    (up : s.power.mainUp = true) : (s.refuseWrites x n).flag (Src.DRIVE.WRITE_REFUSED x).real = true := by
  have power := (s.bumpBy_reports (F.TILE_REFUSED_CNT x) n).power
  rw [State.refuseWrites, if_neg any]
  exact State.flag_raise_tile _ _ (driveReal_above x) (show 7 < 32 by decide)
    (State.srcPowered_of_up _ _ (power ▸ vin) (power ▸ up))

theorem State.refuseWrites_moves (s : State) (x n : Nat) : Moves (ReportWord x) x s (s.refuseWrites x n) :=
  (Moves.refl _ x s).refuseWrites fun _ => id

/-- Whether a master's write of a loop's codes is refused (R63). -/
theorem hostBarred_eq {m : Master} {free : Bool} (allowed : externalHost m = false ∨ free = true) :
    (externalHost m && !free) = false := by
  rcases allowed with h | h
  · rw [h, Bool.false_and]
  · rw [h, Bool.not_true, Bool.and_false]

theorem pockShadowWrite_opens (s : State) (m : Master) (x : Fin 76) (c : Fin 64) (k : Fin 2) (w : Word)
    (ok : s.writeAccess m (shdCode x c k).addr = .ok) (linked : s.linkUp x = true)
    (allowed : externalHost m = false ∨ s.hostMayWrite (loopAt x c) = true) :
    ∃ t, exec (.pockShadowWrite m x c k w) s = .next t ∧ t.rd (shdCode x c k) = bitsOf w 0 16 ∧
      t.rd (ladderSet x c k) = 1 ∧ t.rd (actCode x c k) = s.rd (actCode x c k) ∧ t.tiles = s.tiles ∧ t.mem = s.mem ∧
      t.outbox = s.outbox := by
  obtain ⟨shdLsb, shdWidth⟩ := shdCode_range x c k
  obtain ⟨_, setEnd, setWidth⟩ := ladderSet_range x c k
  have shdAct : (shdCode x c k).addr < (F.POCK_ACT.ACT0 x c).addr := (shdCode_addr_lt x c k).trans (pockSelShd_addr_lt x c)
  have actStat := pockAct_addr_lt x c
  have setAt := ladderSet_addr x c k
  have actAt := actCode_addr x c k
  refine ⟨_, congrArg Host.Outcome.next ((s.gateTile_ok m x _ _ ok linked).trans
    (if_neg (Bool.eq_false_iff.mp (hostBarred_eq allowed)))), ?_, ?_, ?_, ?_, ?_, ?_⟩
  · rw [State.rd_wr_disjoint _ _ (by omega) (.inl (by omega)), s.rd_wr_same _ (by omega) (by rw [shdWidth]; exact bitsOf_lt w 0 16)]
  · rw [State.rd_wr_same _ _ (by omega) (by rw [setWidth]; decide)]
  · rw [State.rd_wr_disjoint _ _ (by omega) (.inl (by omega)), State.rd_wr_disjoint _ _ (by omega) (.inl (by omega))]
  · rw [State.wr_tiles, State.wr_tiles]
  · rw [State.wr_mem, State.wr_mem]
  · rw [State.wr_outbox, State.wr_outbox]

theorem pockShadowWrite_refused (s : State) (m : Master) (x : Fin 76) (c : Fin 64) (k : Fin 2) (w : Word)
    (ok : s.writeAccess m (shdCode x c k).addr = .ok) (linked : s.linkUp x = true) (host : externalHost m = true)
    (barred : s.hostMayWrite (loopAt x c) = false) (vin : s.power.vin = true) (up : s.power.mainUp = true) :
    ∃ t, exec (.pockShadowWrite m x c k w) s = .next t ∧ t.flag (Src.DRIVE.WRITE_REFUSED x).real = true ∧
      t.rd (shdCode x c k) = s.rd (shdCode x c k) ∧ t.rd (ladderSet x c k) = s.rd (ladderSet x c k) ∧ t.mem = s.mem := by
  have moves := s.refuseWrites_moves x 1
  have refused : s.writeLadder m x c k w = s.refuseWrites x 1 := if_pos (by rw [host, barred]; rfl)
  exact ⟨_, congrArg Host.Outcome.next ((s.gateTile_ok m x _ _ ok linked).trans refused),
    s.flag_refuseWrites x Nat.one_ne_zero vin up, moves.unreported (shdCode_word x c k),
    moves.unreported (ladderSet_word x c k), moves.mem⟩

theorem htrShdWrite_opens (s : State) (m : Master) (x : Fin 76) (c : Fin 64) (w : Word)
    (ok : s.writeAccess m (F.HTR_SHD.CODE x c).addr = .ok) (linked : s.linkUp x = true)
    (allowed : externalHost m = false ∨ s.hostMayWrite (loopAt x c) = true) :
    ∃ t, exec (.htrShdWrite m x c w) s = .next t ∧ t.rd (F.HTR_SHD.CODE x c) = bitsOf w 0 16 ∧
      t.rd (F.HTR_SHD.RANGE x c) = bitsOf w 16 1 ∧ t.rd (F.HTR_ACT.SET x c) = 1 ∧
      t.rd (F.HTR_ACT.ACT_CODE x c) = s.rd (F.HTR_ACT.ACT_CODE x c) ∧ t.mem = s.mem ∧ t.outbox = s.outbox := by
  refine ⟨_, congrArg Host.Outcome.next ((s.gateTile_ok m x _ _ ok linked).trans
    (if_neg (Bool.eq_false_iff.mp (hostBarred_eq allowed)))), ?_⟩
  simp only [F.HTR_SHD.CODE, F.HTR_SHD.RANGE, F.HTR_ACT.SET, F.HTR_ACT.ACT_CODE]
  refine ⟨?_, ?_, ?_, ?_, ?mem, ?outbox⟩
  case mem => rw [State.wr_mem, State.wr_mem, State.wr_mem]
  case outbox => rw [State.wr_outbox, State.wr_outbox, State.wr_outbox]
  all_goals simp [State.rd_wr_disjoint, State.rd_wr_mod, bitsOf]

theorem htrShdWrite_refused (s : State) (m : Master) (x : Fin 76) (c : Fin 64) (w : Word)
    (ok : s.writeAccess m (F.HTR_SHD.CODE x c).addr = .ok) (linked : s.linkUp x = true) (host : externalHost m = true)
    (barred : s.hostMayWrite (loopAt x c) = false) (vin : s.power.vin = true) (up : s.power.mainUp = true) :
    ∃ t, exec (.htrShdWrite m x c w) s = .next t ∧ t.flag (Src.DRIVE.WRITE_REFUSED x).real = true ∧
      t.rd (F.HTR_SHD.CODE x c) = s.rd (F.HTR_SHD.CODE x c) ∧ t.rd (F.HTR_ACT.SET x c) = s.rd (F.HTR_ACT.SET x c) ∧
      t.mem = s.mem := by
  have moves := s.refuseWrites_moves x 1
  have refused : s.writeHeater m x c w = s.refuseWrites x 1 := if_pos (by rw [host, barred]; rfl)
  exact ⟨_, congrArg Host.Outcome.next ((s.gateTile_ok m x _ _ ok linked).trans refused),
    s.flag_refuseWrites x Nat.one_ne_zero vin up, moves.unreported (htrShd_word x c),
    moves.unreported (htrAct_word x c), moves.mem⟩

/-- RANGE and the set state as an allowed write of POCK_SEL_SHD leaves them; SEL is no write's (R63). -/
def State.putRange (s : State) (x c : Nat) (w : Word) : State :=
  (s.wr (F.POCK_SEL_SHD.RANGE x c) (bitsOf w 1 1)).wr (F.POCK_STAT.SEL_SET x c) 1

theorem State.putRange_fields (s : State) (x c : Nat) (w : Word) :
    (s.putRange x c w).rd (F.POCK_SEL_SHD.RANGE x c) = bitsOf w 1 1 ∧ (s.putRange x c w).rd (F.POCK_STAT.SEL_SET x c) = 1 ∧
      (s.putRange x c w).rd (F.POCK_SEL_SHD.SEL x c) = s.rd (F.POCK_SEL_SHD.SEL x c) ∧
      (s.putRange x c w).rd (F.POCK_STAT.ACT_RANGE x c) = s.rd (F.POCK_STAT.ACT_RANGE x c) ∧ (s.putRange x c w).mem = s.mem ∧
      (s.putRange x c w).outbox = s.outbox ∧ (s.putRange x c w).power = s.power := by
  simp only [State.putRange, F.POCK_SEL_SHD.RANGE, F.POCK_STAT.SEL_SET, F.POCK_SEL_SHD.SEL, F.POCK_STAT.ACT_RANGE]
  refine ⟨?_, ?_, ?_, ?_, ?mem, ?outbox, ?power⟩
  case mem => rw [State.wr_mem, State.wr_mem]
  case outbox => rw [State.wr_outbox, State.wr_outbox]
  case power => rw [State.wr_power, State.wr_power]
  all_goals simp [State.rd_wr_disjoint, State.rd_wr_mod, bitsOf]

theorem pockSelShdWrite_opens (s : State) (m : Master) (x : Fin 76) (c : Fin 64) (w : Word)
    (ok : s.writeAccess m (F.POCK_SEL_SHD.SEL x c).addr = .ok) (linked : s.linkUp x = true)
    (allowed : externalHost m = false ∨
      (s.hostMayWrite (loopAt x c) = true ∧ bitsOf w 0 1 = s.rd (F.POCK_SEL_SHD.SEL x c))) :
    ∃ t, exec (.pockSelShdWrite m x c w) s = .next t ∧ t.rd (F.POCK_SEL_SHD.RANGE x c) = bitsOf w 1 1 ∧
      t.rd (F.POCK_STAT.SEL_SET x c) = 1 ∧ t.rd (F.POCK_SEL_SHD.SEL x c) = s.rd (F.POCK_SEL_SHD.SEL x c) ∧
      t.rd (F.POCK_STAT.ACT_RANGE x c) = s.rd (F.POCK_STAT.ACT_RANGE x c) ∧ t.mem = s.mem ∧ t.outbox = s.outbox := by
  have range : (externalHost m && !s.hostMayWrite (loopAt x c)) = false := hostBarred_eq (allowed.imp_right And.left)
  have sel : (externalHost m && bitsOf w 0 1 != s.rd (F.POCK_SEL_SHD.SEL x c)) = false := by
    rcases allowed with inside | ⟨_, same⟩
    · rw [inside, Bool.false_and]
    · rw [same, bne_self_eq_false, Bool.and_false]
  have written : s.writeSelShadow m x c w = s.putRange x c w := by
    simp [State.writeSelShadow, State.putRange, range, sel]
  obtain ⟨putRange, putSet, selKept, actKept, mem, outbox, _⟩ := s.putRange_fields x c w
  exact ⟨_, congrArg Host.Outcome.next ((s.gateTile_ok m x _ _ ok linked).trans written), putRange, putSet, selKept, actKept,
    mem, outbox⟩

theorem pockSelShdWrite_refused (s : State) (m : Master) (x : Fin 76) (c : Fin 64) (w : Word)
    (ok : s.writeAccess m (F.POCK_SEL_SHD.SEL x c).addr = .ok) (linked : s.linkUp x = true) (host : externalHost m = true)
    (vin : s.power.vin = true) (up : s.power.mainUp = true)
    (barred : s.hostMayWrite (loopAt x c) = false ∨ bitsOf w 0 1 ≠ s.rd (F.POCK_SEL_SHD.SEL x c)) :
    ∃ t, exec (.pockSelShdWrite m x c w) s = .next t ∧ t.flag (Src.DRIVE.WRITE_REFUSED x).real = true ∧
      t.rd (F.POCK_SEL_SHD.SEL x c) = s.rd (F.POCK_SEL_SHD.SEL x c) ∧
      t.rd (F.POCK_SEL_SHD.RANGE x c) =
        (if s.hostMayWrite (loopAt x c) then bitsOf w 1 1 else s.rd (F.POCK_SEL_SHD.RANGE x c)) ∧ t.mem = s.mem := by
  have refused : s.writeSelShadow m x c w =
      (if s.hostMayWrite (loopAt x c) then s.putRange x c w else s).refuseWrites x 1 := by
    cases free : s.hostMayWrite (loopAt x c) with
    | false => simp [State.writeSelShadow, host, free]
    | true =>
      have differs : bitsOf w 0 1 ≠ s.rd (F.POCK_SEL_SHD.SEL x c) := barred.resolve_left (by rw [free]; decide)
      simp [State.writeSelShadow, State.putRange, host, free, differs]
  obtain ⟨putRange, _, selKept, _, mem, _, power⟩ := s.putRange_fields x c w
  have taken := (if s.hostMayWrite (loopAt x c) then s.putRange x c w else s).refuseWrites_moves x 1
  refine ⟨_, congrArg Host.Outcome.next ((s.gateTile_ok m x _ _ ok linked).trans refused),
    State.flag_refuseWrites _ x Nat.one_ne_zero ?_ ?_, ?_, ?_, ?_⟩
  · split
    · exact power ▸ vin
    · exact vin
  · split
    · exact power ▸ up
    · exact up
  · rw [taken.unreported (f := F.POCK_SEL_SHD.SEL x c) (pockSelShd_word x c)]
    split
    · exact selKept
    · rfl
  · rw [taken.unreported (f := F.POCK_SEL_SHD.RANGE x c) (pockSelShd_word x c)]
    split
    · exact putRange
    · rfl
  · rw [taken.mem]
    split
    · exact mem
    · rfl

end Sys2Proof.Machine

namespace Sys2Proof.Machine

/-! ### Shutters

The shutters of a trim tile are bits of three wide values and of `Tile.shutOpen`. -/

/-- The shutter words of a tile lie above its reports (R80, R83). -/
theorem shutWord_not_report {x a : Nat} (lo : 0x500D00 + 16384 * (x % 76) ≤ a) : ¬ ReportWord x a := by
  simp only [ReportWord, CascadeWord, FaultWord]
  omega

theorem State.rdW_setBitW_apart (s : State) {w u : Wide} (n : Nat) (b : Bool)
    (apart : w.addr + 4 < u.addr ∨ u.addr + 4 < w.addr) : (s.setBitW w n b).rdW u = s.rdW u :=
  s.rdW_wrW_apart _ apart

theorem getLsbD_setBit_other {w : Nat} (m : BitVec w) {n i : Nat} (b : Bool) (other : i ≠ n) :
    (setBit m n b).getLsbD i = m.getLsbD i := by
  have bit : (BitVec.ofNat w (2 ^ n)).getLsbD i = false := by
    rw [BitVec.getLsbD_ofNat, Nat.testBit_two_pow_of_ne (Ne.symm other), Bool.and_false]
  cases b with
  | true => rw [setBit, if_pos rfl, BitVec.getLsbD_or, bit, Bool.or_false]
  | false =>
    rw [setBit, if_neg Bool.false_ne_true, BitVec.getLsbD_and, BitVec.getLsbD_not, bit]
    by_cases inside : i < w
    · simp [inside]
    · simp [BitVec.getLsbD_of_ge _ _ (Nat.le_of_not_lt inside)]

theorem shutters_apart (x : Nat) : (F.SHUT_SHD x).addr + 4 < (F.SHUT_PEND x).addr ∧
    (F.SHUT_PEND x).addr + 4 < (F.SHUT_ACT x).addr ∧ (F.SHUT_SHD x).addr + 4 < (F.SHUT_ACT x).addr := by
  simp only [F.SHUT_SHD, F.SHUT_PEND, F.SHUT_ACT]
  omega

/-- A write of one shutter's shadow bit that is taken: its set opens (R59, R83). -/
def State.takeShutter (s : State) (x ch : Nat) (b : Bool) : State :=
  let s1 := (s.setBitW (F.SHUT_SHD x) ch b).setBitW (F.SHUT_PEND x) ch false
  s1.setTile x { s1.tile x with shutOpen := setBit (s1.tile x).shutOpen ch true }

/-- What taking writes of the shadow bits `l`, each to its value `b`, makes of bit `i` of tile `x`'s shutters. -/
structure ShuttersTaken (x : Nat) (b : Nat → Bool) (l : List Nat) (i : Nat) (s t : State) : Prop where
  shd : (t.rdW (F.SHUT_SHD x)).testBit i = if i ∈ l then b i else (s.rdW (F.SHUT_SHD x)).testBit i
  pend : (t.rdW (F.SHUT_PEND x)).testBit i = if i ∈ l then false else (s.rdW (F.SHUT_PEND x)).testBit i
  opened : (t.tile x).shutOpen.getLsbD i = if i ∈ l then true else (s.tile x).shutOpen.getLsbD i
  act : t.rdW (F.SHUT_ACT x) = s.rdW (F.SHUT_ACT x)
  mem : t.mem = s.mem
  power : t.power = s.power

theorem State.takeShutter_takes (s : State) (x : Nat) {ch : Nat} (b : Nat → Bool) (i : Nat) (hch : ch < 64) :
    ShuttersTaken x b [ch] i s (s.takeShutter x ch (b ch)) := by
  obtain ⟨shdPend, pendAct, shdAct⟩ := shutters_apart x
  generalize stored : (s.setBitW (F.SHUT_SHD x) ch (b ch)).setBitW (F.SHUT_PEND x) ch false = u
  have taken : s.takeShutter x ch (b ch) = u.setTile x { u.tile x with shutOpen := setBit (u.tile x).shutOpen ch true } := by
    rw [← stored, State.takeShutter]
  have tiles : u.tile x = s.tile x := by rw [← stored, State.tile, State.setBitW_tiles, State.setBitW_tiles, State.tile]
  have word (w : Wide) : (s.takeShutter x ch (b ch)).rdW w = u.rdW w := by
    rw [taken]
    rfl
  refine ⟨?_, ?_, ?_, ?_, ?_, ?_⟩
  · rw [word, ← stored, State.rdW_setBitW_apart _ ch false (.inr shdPend), s.testBit_setBitW rfl hch]
    by_cases here : i = ch <;> simp [here]
  · rw [word, ← stored, State.testBit_setBitW _ rfl hch, s.rdW_setBitW_apart ch _ (.inl shdPend)]
    by_cases here : i = ch <;> simp [here]
  · rw [taken, State.tile_setTile_same, tiles]
    by_cases here : i = ch
    · simp [here, getLsbD_setBit_same _ _ hch]
    · simp [here, getLsbD_setBit_other _ _ here]
  · rw [word, ← stored, State.rdW_setBitW_apart _ ch false (.inl pendAct), s.rdW_setBitW_apart ch _ (.inl shdAct)]
  · rw [taken, ← stored, State.setTile_mem, State.setBitW_mem, State.setBitW_mem]
  · rw [taken, ← stored, State.setTile_power, State.setBitW_power, State.setBitW_power]

theorem ShuttersTaken.cons {x : Nat} {b : Nat → Bool} {ch : Nat} {rest : List Nat} {i : Nat} {s u t : State}
    (first : ShuttersTaken x b [ch] i s u) (later : ShuttersTaken x b rest i u t) : ShuttersTaken x b (ch :: rest) i s t := by
  refine ⟨later.shd.trans ?_, later.pend.trans ?_, later.opened.trans ?_, later.act.trans first.act, later.mem.trans first.mem,
    later.power.trans first.power⟩
  · rw [first.shd]
    by_cases here : i = ch <;> simp [here]
  · rw [first.pend]
    by_cases here : i = ch <;> simp [here]
  · rw [first.opened]
    by_cases here : i = ch <;> simp [here]

theorem State.foldl_takeShutter (s : State) (x : Nat) (b : Nat → Bool) {l : List Nat} (inside : ∀ y ∈ l, y < 64) (i : Nat) :
    ShuttersTaken x b l i s (l.foldl (fun s ch => s.takeShutter x ch (b ch)) s) := by
  induction l generalizing s with
  | nil => exact ⟨by simp, by simp, by simp, rfl, rfl, rfl⟩
  | cons ch rest ih =>
    exact (s.takeShutter_takes x b i (inside ch List.mem_cons_self)).cons
      (ih (s.takeShutter x ch (b ch)) fun y hy => inside y (List.mem_cons_of_mem _ hy))

/-- The channels of half `h` at which a write of SHUT_SHD differs from what stands there. -/
def State.shutDiffer (s : State) (x h : Nat) (w : Word) : List Nat :=
  ((List.range 32).map (32 * h + ·)).filter fun ch => w.getLsbD (ch - 32 * h) != (s.rdW (F.SHUT_SHD x)).testBit ch

/-- The master's write of the channel's shadow bit is taken (R63). -/
def State.shutTaken (s : State) (m : Master) (x ch : Nat) : Bool := !externalHost m || s.loopState (loopAt x ch) == 1

theorem State.writeShutters_trim (s : State) (m : Master) {x : Nat} (h : Nat) (w : Word) (trim : isTrimTile x = true) :
    s.writeShutters m x h w =
      (((s.shutDiffer x h w).filter (s.shutTaken m x)).foldl (fun s ch => s.takeShutter x ch (w.getLsbD (ch - 32 * h)))
        s).refuseWrites x ((s.shutDiffer x h w).filter fun ch => !s.shutTaken m x ch).length :=
  if_pos trim

theorem State.mem_shutDiffer (s : State) (x : Nat) (h : Nat) (w : Word) (i : Fin 32) :
    32 * h + i.val ∈ s.shutDiffer x h w ↔ w.getLsbD i ≠ (s.rdW (F.SHUT_SHD x)).testBit (32 * h + i.val) := by
  rw [State.shutDiffer, List.mem_filter, Nat.add_sub_cancel_left, bne_iff_ne]
  exact and_iff_right (List.mem_map.mpr ⟨i, List.mem_range.mpr i.isLt, rfl⟩)

theorem State.shutDiffer_lt (s : State) (x : Nat) (h : Fin 2) (w : Word) : ∀ y ∈ s.shutDiffer x h w, y < 64 := by
  intro y hy
  obtain ⟨n, hn, rfl⟩ := List.mem_map.mp (List.mem_of_mem_filter hy)
  have := List.mem_range.mp hn
  omega

theorem State.shutTaken_eq_false (s : State) (m : Master) (x ch : Nat) :
    s.shutTaken m x ch = false ↔ externalHost m = true ∧ s.loopState (loopAt x ch) ≠ 1 := by
  rw [State.shutTaken, Bool.or_eq_false_iff, Bool.not_eq_false', beq_eq_false_iff_ne]

theorem State.refuseWrites_reports (s : State) (x n : Nat) : Reports s (s.refuseWrites x n) := by
  unfold State.refuseWrites
  split
  · exact Reports.refl s
  · exact (s.bumpBy_reports _ n).trans (State.raise_reports _ _)

theorem State.rdW_refuseWrites (s : State) (x n : Nat) {w : Wide} (shut : 0x500D00 + 16384 * (x % 76) ≤ w.addr) :
    (s.refuseWrites x n).rdW w = s.rdW w :=
  have writes := (s.refuseWrites_moves x n).writes
  State.rdW_congr (writes.word (shutWord_not_report shut)) (writes.word (shutWord_not_report (shut.trans (Nat.le_add_right _ 4))))

theorem shutShdWrite_opens (s : State) (m : Master) (x : Fin 76) (h : Fin 2) (w : Word) (i : Fin 32)
    (ok : s.writeAccess m ((F.SHUT_SHD x).addr + 4 * h) = .ok) (linked : s.linkUp x = true) (trim : isTrimTile x = true) :
    ∃ t, exec (.shutShdWrite m x h w) s = .next t ∧
      (let k := 32 * h.val + i.val
       let differs := w.getLsbD i ≠ (s.rdW (F.SHUT_SHD x)).testBit k
       if externalHost m = true ∧ s.loopState (loopAt x k) ≠ 1 then
         (t.rdW (F.SHUT_SHD x)).testBit k = (s.rdW (F.SHUT_SHD x)).testBit k ∧
           (differs → s.power.vin = true → s.power.mainUp = true → t.flag (Src.DRIVE.WRITE_REFUSED x).real = true)
       else (t.rdW (F.SHUT_SHD x)).testBit k = w.getLsbD i ∧
         (differs → (t.rdW (F.SHUT_PEND x)).testBit k = false ∧ (t.tile x).shutOpen.getLsbD k = true)) ∧
      t.rdW (F.SHUT_ACT x) = s.rdW (F.SHUT_ACT x) ∧ t.mem = s.mem := by
  refine ⟨_, congrArg Host.Outcome.next ((s.gateTile_ok m x _ _ ok linked).trans (s.writeShutters_trim m h w trim)), ?_⟩
  have inside := s.shutDiffer_lt x h w
  obtain ⟨shd, pend, opened, act, mem, power⟩ := s.foldl_takeShutter x (fun ch => w.getLsbD (ch - 32 * h))
    (l := (s.shutDiffer x h w).filter (s.shutTaken m x)) (fun y hy => inside y (List.mem_of_mem_filter hy)) (32 * h + i)
  generalize List.foldl _ s _ = u at shd pend opened act mem power ⊢
  have refused := u.refuseWrites_reports x ((s.shutDiffer x h w).filter fun ch => !s.shutTaken m x ch).length
  have shdAt : 0x500D00 + 16384 * (x.val % 76) ≤ (F.SHUT_SHD x).addr := Nat.le_refl _
  have pendAt : 0x500D00 + 16384 * (x.val % 76) ≤ (F.SHUT_PEND x).addr := by
    simp only [F.SHUT_PEND]
    omega
  have actAt : 0x500D00 + 16384 * (x.val % 76) ≤ (F.SHUT_ACT x).addr := by
    simp only [F.SHUT_ACT]
    omega
  have differs := s.mem_shutDiffer x h w i
  have barred := s.shutTaken_eq_false m x (32 * h + i)
  simp only [List.mem_filter, differs, Nat.add_sub_cancel_left] at shd pend opened
  rw [u.rdW_refuseWrites x _ shdAt, u.rdW_refuseWrites x _ pendAt, u.rdW_refuseWrites x _ actAt,
    show (u.refuseWrites x _).tile x = u.tile x by rw [State.tile, refused.tiles, State.tile]]
  refine ⟨?_, act, refused.mem.trans mem⟩
  dsimp only
  split
  · next refusal =>
    have untaken := barred.mpr refusal
    rw [if_neg (by rw [untaken]; simp)] at shd
    refine ⟨shd, fun differ vin up => u.flag_refuseWrites x ?_ (power ▸ vin) (power ▸ up)⟩
    exact (List.length_pos_of_mem (List.mem_filter.mpr ⟨differs.mpr differ, by rw [untaken]; rfl⟩)).ne'
  · next free =>
    have taken : s.shutTaken m x (32 * h + i) = true := by
      by_contra untaken
      exact free (barred.mp (Bool.eq_false_iff.mpr untaken))
    simp only [taken, and_true] at shd pend opened
    refine ⟨?_, fun differ => ⟨pend.trans (if_pos differ), opened.trans (if_pos differ)⟩⟩
    rw [shd]
    split
    · rfl
    · next same => exact (not_not.mp same).symm

/-- Every OPEN shutter set of a trim tile sealed. -/
theorem State.sealShutters_seals (s : State) {x : Nat} (trim : isTrimTile x = true) :
    (s.sealShutters x).rdW (F.SHUT_PEND x) = s.rdW (F.SHUT_PEND x) ||| (s.tile x).shutOpen.toNat ∧
      ((s.sealShutters x).tile x).shutOpen = 0 ∧ (s.sealShutters x).rdW (F.SHUT_ACT x) = s.rdW (F.SHUT_ACT x) ∧
      (s.sealShutters x).mem = s.mem := by
  have sealed : s.sealShutters x = (s.wrW (F.SHUT_PEND x) (s.rdW (F.SHUT_PEND x) ||| (s.tile x).shutOpen.toNat)).setTile x
    { s.tile x with shutOpen := 0 } := if_pos trim
  have small : s.rdW (F.SHUT_PEND x) ||| (s.tile x).shutOpen.toNat < 2 ^ (F.SHUT_PEND x).width :=
    Nat.or_lt_two_pow (s.rdW_lt (w := F.SHUT_PEND x) (show 32 ≤ 64 by decide)) (s.tile x).shutOpen.isLt
  rw [sealed]
  refine ⟨s.rdW_wrW_same (F.SHUT_PEND x) (show 32 ≤ 64 ∧ 64 ≤ 64 by decide) small, ?_, ?_, ?_⟩
  · rw [State.tile_setTile_same]
  · exact s.rdW_wrW_apart _ (.inl (shutters_apart x).2.1)
  · rw [State.setTile_mem, State.wrW_mem]

/-- Settles O37: each write and seal by what it leaves in the fields of its own channel; SEAL_CMD by a fold whose other channels
stand aside (`foldl_channels`). -/
theorem shadowWritesOpenAndSealsClose : Obligations.ShadowWritesOpenAndSealsClose := by
  unfold Obligations.ShadowWritesOpenAndSealsClose
  refine ⟨⟨pockShadowWrite_opens, pockShadowWrite_refused, pockSelShdWrite_opens, htrShdWrite_opens, pockSelShdWrite_refused,
    htrShdWrite_refused, shutShdWrite_opens⟩, sealSelAll_seals, sealLadderAll_seals, sealHtrAll_seals, ?_, ?_,
    pockSealL0_seals, pockSealL1_seals, pockSealSel_seals, seals_ignored, htrSeal_seals⟩
  · exact fun s m x ok linked trim =>
      ⟨_, congrArg Host.Outcome.next (s.gateTile_ok m x _ _ ok linked), s.sealShutters_seals trim⟩
  · exact fun s m x ok linked trim =>
      ⟨_, congrArg Host.Outcome.next (s.gateTile_ok m x _ _ ok linked), s.sealShutters_seals trim⟩

end Sys2Proof.Machine

namespace Sys2Proof.Machine

/-! ## The tile link

Training and loss, and what a transaction that lands leaves in the tile's fields. -/

/-! ### Training and loss -/

/-- The link is up after a training, and TRAINS counts it while the main side is up (R99). -/
theorem State.linkTrained_fields (s : State) (x : Nat) :
    (s.linkTrained x).linkUp x = true ∧
      (s.linkTrained x).rd (F.TILE_LINK_STATUS.TRAINS x) =
        (if s.power.mainUp then min 255 (s.rd (F.TILE_LINK_STATUS.TRAINS x) + 1) else s.rd (F.TILE_LINK_STATUS.TRAINS x)) ∧
      (∀ a, a ≠ (F.TILE_LINK_STATUS.UP x).addr → (s.linkTrained x).word a = s.word a) ∧
      (s.linkTrained x).tiles = s.tiles ∧ (s.linkTrained x).mem = s.mem := by
  have up : (s.setFlag (F.TILE_LINK_STATUS.UP x) true).linkUp x = true := s.flag_setFlag_same true (show 0 + 1 ≤ 32 by decide) rfl
  have apart : (F.TILE_LINK_STATUS.UP x).Apart (F.TILE_LINK_STATUS.TRAINS x) := .inr (.inl (show 0 + 1 ≤ 8 by decide))
  cases main : s.power.mainUp with
  | false =>
    have trained : s.linkTrained x = s.setFlag (F.TILE_LINK_STATUS.UP x) true := if_neg (Bool.eq_false_iff.mp main)
    rw [trained, if_neg Bool.false_ne_true]
    exact ⟨up, s.rd_wr_disjoint 1 (show 0 + 1 ≤ 32 by decide) apart, fun a => s.word_setFlag_other _ true a,
      s.setFlag_tiles _ _, s.setFlag_mem _ _⟩
  | true =>
    have trained : s.linkTrained x = (s.setFlag (F.TILE_LINK_STATUS.UP x) true).wr (F.TILE_LINK_STATUS.TRAINS x)
        (min 255 (s.rd (F.TILE_LINK_STATUS.TRAINS x) + 1)) := if_pos main
    rw [trained, if_pos rfl]
    refine ⟨?_, ?_, fun a other => ?_, ?_, ?_⟩
    · rw [State.linkUp, State.flag, State.rd_wr_disjoint _ _ (show 8 + 8 ≤ 32 by decide) apart.symm]
      exact up
    · exact State.rd_wr_same _ _ (show 8 + 8 ≤ 32 by decide) ((Nat.min_le_left _ _).trans_lt (show 255 < 2 ^ 8 by decide))
    · exact (State.word_wr_other _ (F.TILE_LINK_STATUS.TRAINS x) _ a other).trans (s.word_setFlag_other _ true a other)
    · rw [State.wr_tiles, State.setFlag_tiles]
    · rw [State.wr_mem, State.setFlag_mem]

theorem tileLinkTrained_up (s : State) (x : Fin 76) (good : s.railGood x = true) (down : s.linkUp x = false) :
    ∃ t, exec (.tileLinkTrained x) s = .next t ∧ t.linkUp x = true ∧
      t.rd (F.TILE_LINK_STATUS.TRAINS x) = (if s.power.mainUp then min 255 (s.rd (F.TILE_LINK_STATUS.TRAINS x) + 1)
        else s.rd (F.TILE_LINK_STATUS.TRAINS x)) ∧
      (∀ a, a ≠ (F.TILE_LINK_STATUS.UP x).addr → t.word a = s.word a) ∧ t.tiles = s.tiles ∧ t.mem = s.mem :=
  ⟨_, congrArg Host.Outcome.next (if_pos (by rw [good, down]; rfl)), s.linkTrained_fields x⟩

theorem tileLink_ignored (s : State) (x : Fin 76) :
    (s.railGood x = false ∨ s.linkUp x = true → exec (.tileLinkTrained x) s = .next s) ∧
    (s.linkUp x = false → exec (.tileLinkLoss x) s = .next s) := by
  refine ⟨fun idle => congrArg Host.Outcome.next (if_neg ?_), fun down =>
    congrArg Host.Outcome.next (if_neg (Bool.eq_false_iff.mp down))⟩
  rcases idle with bad | up
  · rw [bad, Bool.false_and]
    exact Bool.false_ne_true
  · rw [up, Bool.not_true, Bool.and_false]
    exact Bool.false_ne_true

/-- The end of a calibration changes of its tile only when its channels moved last (R75). -/
theorem State.abandonCal_tile (s : State) (x : Nat) : ∃ m, (s.abandonCal x).tile x = { s.tile x with moved := m } := by
  unfold State.abandonCal
  split
  · have settled : (s.settleTile x).tiles = s.tiles := (s.settleTile_reports x).tiles
    unfold State.endCal
    extract_lets s1 _ s2 s3 y
    have same : y = s.tile x := by
      unfold y s3
      rw [State.tile, State.wr_tiles, State.setFlag_tiles, State.tile]
      exact congrArg (sparseGet _ · x) settled
    refine ⟨(List.range 64).map fun ch => (ch, s3.clock), ?_⟩
    rw [State.tile_setTile_same, same]
  · exact ⟨_, rfl⟩

theorem senseReal_tile (x : Nat) : tilesFrom ≤ (FB.SENSE x).real := by
  simp only [FB.SENSE, tilesFrom]
  omega

theorem tileLinkLoss_drops (s : State) (x : Fin 76) (vin : s.power.vin = true) (up : s.power.mainUp = true)
    (linked : s.linkUp x = true) :
    ∃ t, exec (.tileLinkLoss x) s = .next t ∧ t.linkUp x = false ∧ (t.tile x).down = [] ∧ (t.tile x).frame = none ∧
      (t.tile x).onWay = 0 ∧ (t.tile x).held = [] ∧ (t.tile x).focusHeld = [] ∧ t.calRunning x = false ∧
      t.flag (Src.SENSE.LINK_DOWN x).real = true ∧ t.mem = s.mem := by
  refine ⟨s.linkLost x, congrArg Host.Outcome.next (if_pos linked), ?_⟩
  generalize fell : s.setFlag (F.TILE_LINK_STATUS.UP x) false = s1
  generalize dropped : s1.setTile x { s1.tile x with down := [], frame := none, onWay := 0, held := [], focusHeld := [] } = s2
  have lost : s.linkLost x = (s2.abandonCal x).raise (Src.SENSE.LINK_DOWN x) := by rw [← dropped, ← fell, State.linkLost]
  have power : (s2.abandonCal x).power = s.power := by
    have kept : (s2.abandonCal x).power = s2.power := ((Keeps.refl (fun _ => False) s2).abandonCal.same .power).resolve_left id
    rw [kept, ← dropped, ← fell, State.setTile_power, State.setFlag_power]
  have mem : (s2.abandonCal x).mem = s.mem := by
    have kept : (s2.abandonCal x).mem = s2.mem := ((Keeps.refl (fun _ => False) s2).abandonCal.same .mem).resolve_left id
    rw [kept, ← dropped, ← fell, State.setTile_mem, State.setFlag_mem]
  have reported := (s2.abandonCal x).raise_reports (Src.SENSE.LINK_DOWN x)
  obtain ⟨m, tile⟩ := s2.abandonCal_tile x
  have shown : (s.linkLost x).tile x =
      { s1.tile x with down := [], frame := none, onWay := 0, held := [], focusHeld := [], moved := m } := by
    rw [lost, State.tile, reported.tiles]
    refine tile.trans ?_
    rw [← dropped, State.tile_setTile_same]
  have place : (F.TILE_LINK_STATUS.UP x).addr = 0x502034 + 16384 * (x.val % 76) := rfl
  have down : (s.linkLost x).linkUp x = false := by
    have raised : ¬ RaiseWord [Src.SENSE.LINK_DOWN x] (F.TILE_LINK_STATUS.UP x).addr := by
      rintro (cascade | ⟨src, hsrc, same⟩)
      · simp only [CascadeWord] at cascade
        omega
      · rw [List.mem_singleton.mp hsrc] at same
        simp only [Src.SENSE.LINK_DOWN, FB.SENSE] at same
        omega
    have marked : ¬ SharedWord (F.TILE_LINK_STATUS.UP x).addr := by
      simp only [SharedWord, tilesFrom]
      omega
    rw [lost, State.linkUp, State.flag, ((s2.abandonCal x).raise_writes _).rd raised, (s2.abandonCal_writes x).rd marked,
      ← dropped, ← fell]
    exact s.flag_setFlag_same false (show 0 + 1 ≤ 32 by decide) rfl
  refine ⟨down, ?_, ?_, ?_, ?_, ?_, ?_, ?_, ?_⟩
  · rw [shown]
  · rw [shown]
  · rw [shown]
  · rw [shown]
  · rw [shown]
  · rw [lost, State.calRunning_raise, State.calRunning_abandonCal_same]
  · rw [lost]
    exact State.flag_raise_tile _ _ (senseReal_tile x) (show 2 < 32 by decide)
      (State.srcPowered_of_up _ _ (power ▸ vin) (power ▸ up))
  · rw [lost, reported.mem, mem]

/-! ### Transactions -/

/-- The oldest transaction of a kind is off the link. -/
def State.takeOff (s : State) (x : Nat) (rest : List Txn) : State := s.setTile x { s.tile x with down := rest }

theorem State.land_ok {s : State} {x : Nat} {p : Txn → Bool} {y : Txn} {rest : List Txn}
    (first : takeFirst p (s.tile x).down = some (y, rest)) : s.land x p true = (s.takeOff x rest).landTxn x y := by
  rw [State.land, first]
  rfl

theorem State.land_crc {s : State} {x : Nat} {p : Txn → Bool} {y : Txn} {rest : List Txn}
    (first : takeFirst p (s.tile x).down = some (y, rest)) : s.land x p false = (s.takeOff x rest).linkCrc x := by
  rw [State.land, first]
  rfl

theorem State.land_none {s : State} {x : Nat} {p : Txn → Bool} (ok : Bool) (none : takeFirst p (s.tile x).down = .none) :
    s.land x p ok = s := by
  rw [State.land, none]

theorem State.takeOff_down (s : State) (x : Nat) (rest : List Txn) : ((s.takeOff x rest).tile x).down = rest := by
  rw [State.takeOff, State.tile_setTile_same]

theorem State.takeOff_mem (s : State) (x : Nat) (rest : List Txn) : (s.takeOff x rest).mem = s.mem := State.setTile_mem _ _ _

theorem State.takeOff_outbox (s : State) (x : Nat) (rest : List Txn) : (s.takeOff x rest).outbox = s.outbox :=
  State.setTile_outbox _ _ _

theorem State.stampMove_down (s : State) (x c : Nat) : ((s.stampMove x c).tile x).down = (s.tile x).down := by
  rw [State.stampMove, State.tile_setTile_same]

theorem State.touchCal_tile (s : State) (x c y : Nat) : (s.touchCal x c).tile y = s.tile y := by
  rw [State.tile, State.touchCal_tiles, State.tile]

/-- A transfer of a ladder changes nothing of what is on its way to the tile, and sends nothing out. -/
theorem State.transferLadder_aside (s : State) (x c k : Nat) :
    ((s.transferLadder x c k).tile x).down = (s.tile x).down ∧ (s.transferLadder x c k).outbox = s.outbox := by
  unfold State.transferLadder
  extract_lets s1 y
  have tile : y = s.tile x := by
    unfold y s1
    rw [State.tile, State.wr_tiles, State.wr_tiles, State.tile]
  refine ⟨?_, ?_⟩
  · rw [State.touchCal_tile, State.stampMove_down, State.tile_setTile_same, tile]
  · rw [State.touchCal_outbox, State.stampMove, State.setTile_outbox, State.setTile_outbox]
    unfold s1
    rw [State.wr_outbox, State.wr_outbox]

theorem State.sealLadder_aside (s : State) (x c k : Nat) :
    ((s.sealLadder x c k).tile x).down = (s.tile x).down ∧ (s.sealLadder x c k).outbox = s.outbox := by
  have tile : (s.wr (ladderSet x c k) 2).tile x = s.tile x := by rw [State.tile, State.wr_tiles, State.tile]
  have outbox : (s.wr (ladderSet x c k) 2).outbox = s.outbox := State.wr_outbox _ _ _
  obtain ⟨down, out⟩ := (s.wr (ladderSet x c k) 2).transferLadder_aside x c k
  unfold State.sealLadder
  dsimp only
  split
  · split
    · exact ⟨by rw [tile], outbox⟩
    · exact ⟨by rw [down, tile], out.trans outbox⟩
  · exact ⟨rfl, rfl⟩

end Sys2Proof.Machine

namespace Sys2Proof.Machine

/-! ### What lands -/

theorem State.rd_takeOff (s : State) (x : Nat) (rest : List Txn) (f : Field) : (s.takeOff x rest).rd f = s.rd f := rfl

theorem State.rdW_takeOff (s : State) (x : Nat) (rest : List Txn) (w : Wide) : (s.takeOff x rest).rdW w = s.rdW w := rfl

theorem State.tile_wr (s : State) (f : Field) (v y : Nat) : (s.wr f v).tile y = s.tile y := by
  rw [State.tile, State.wr_tiles, State.tile]

/-- A code in the shadow of a ladder, its set OPEN, as a code transaction puts it before its seal (R59, R102). -/
def State.putCode (s : State) (x c k v : Nat) : State := (s.wr (shdCode x c k) v).wr (ladderSet x c k) 1

theorem shdCode_addr_ne (x c k j : Nat) :
    (shdCode x c k).addr ≠ (ladderSet x c j).addr ∧ (shdCode x c k).addr ≠ (actCode x c j).addr := by
  have below := (shdCode_addr_lt x c k).trans (pockSelShd_addr_lt x c)
  rw [ladderSet_addr, actCode_addr]
  exact ⟨(below.trans (pockAct_addr_lt x c)).ne, below.ne⟩

theorem State.putCode_fields (s : State) (x c k v : Nat) :
    (s.putCode x c k v).rd (shdCode x c k) = v % 65536 ∧ (s.putCode x c k v).rd (ladderSet x c k) = 1 ∧
      (s.putCode x c k v).rd (actCode x c k) = s.rd (actCode x c k) ∧
      (s.putCode x c k v).rd (F.POCK_STAT.ACT_SEL x c) = s.rd (F.POCK_STAT.ACT_SEL x c) := by
  obtain ⟨shdLsb, shdWidth⟩ := shdCode_range x c k
  obtain ⟨_, setEnd, setWidth⟩ := ladderSet_range x c k
  obtain ⟨shdSet, shdAct⟩ := shdCode_addr_ne x c k k
  have actSet : (ladderSet x c k).addr ≠ (actCode x c k).addr := by
    rw [ladderSet_addr, actCode_addr]
    exact (pockAct_addr_lt x c).ne'
  have selSet := (actSel_apart x c k).2
  have shdSel : (shdCode x c k).addr ≠ (F.POCK_STAT.ACT_SEL x c).addr := by
    rw [ladderSet_addr] at shdSet
    exact shdSet
  have setFits : (ladderSet x c k).lsb + (ladderSet x c k).width ≤ 32 := by omega
  have shdFits : (shdCode x c k).lsb + (shdCode x c k).width ≤ 32 := by omega
  unfold State.putCode
  refine ⟨?_, ?_, ?_, ?_⟩
  · rw [State.rd_wr_disjoint _ _ setFits (.inl shdSet.symm), s.rd_wr_mod _ _ shdFits, shdWidth]
    rfl
  · rw [State.rd_wr_mod _ _ _ setFits, setWidth]
    rfl
  · rw [State.rd_wr_disjoint _ _ setFits (.inl actSet), s.rd_wr_disjoint _ shdFits (.inl shdAct)]
  · rw [State.rd_wr_disjoint _ _ setFits selSet, s.rd_wr_disjoint _ shdFits (.inl shdSel)]

theorem tileCodeTransaction_ladder (s : State) (x : Fin 76) (ch k code : Nat) (r : Bool) (rest : List Txn)
    (first : takeFirst isCode (s.tile x).down = some (.code ch k code r, rest)) (ladder : k < 2) :
    ∃ t, exec (.tileCodeTransaction x true) s = .next t ∧ (t.tile x).down = rest ∧
      t.rd (shdCode x ch k) = code % 65536 ∧
      (s.rd (F.POCK_STAT.ACT_SEL x ch) = k → t.rd (ladderSet x ch k) = 2 ∧ t.rd (actCode x ch k) = s.rd (actCode x ch k)) ∧
      (s.rd (F.POCK_STAT.ACT_SEL x ch) ≠ k → t.rd (ladderSet x ch k) = 0 ∧ t.rd (actCode x ch k) = code % 65536) ∧
      t.mem = s.mem ∧ t.outbox = s.outbox := by
  generalize taken : s.takeOff x rest = u
  have landed : s.land x isCode true = (u.putCode x ch k code).sealLadder x ch k :=
    (State.land_ok first).trans (taken ▸ if_pos ladder)
  obtain ⟨shd, opened, act, sel⟩ := u.putCode_fields x ch k code
  have sealed := (u.putCode x ch k code).sealLadder_seals x ch k
  rw [LadderSealed, if_pos opened, act, shd, sel] at sealed
  obtain ⟨down, outbox⟩ := (u.putCode x ch k code).sealLadder_aside x ch k
  obtain ⟨shdSet, shdAct⟩ := shdCode_addr_ne x ch k k
  refine ⟨_, congrArg Host.Outcome.next landed, ?_, ?_, fun selected => ?_, fun unselected => ?_, ?_, ?_⟩
  · rw [down, State.putCode, State.tile_wr, State.tile_wr, ← taken, s.takeOff_down]
  · rw [State.rd_sealLadder_other _ x ch k (shdCode_word x ch k).tile (.inl shdAct.symm) (.inl shdSet.symm), shd]
  · rw [← taken, s.rd_takeOff, s.rd_takeOff, if_pos selected] at sealed
    rw [← taken]
    exact sealed
  · rw [← taken, s.rd_takeOff, if_neg unselected] at sealed
    rw [← taken]
    exact sealed
  · rw [(Moves.refl _ x (u.putCode x ch k code)).sealLadder.mem, State.putCode, State.wr_mem, State.wr_mem, ← taken,
      s.takeOff_mem]
  · rw [outbox, State.putCode, State.wr_outbox, State.wr_outbox, ← taken, s.takeOff_outbox]

theorem tileCodeTransaction_heater (s : State) (x : Fin 76) (ch k code : Nat) (r : Bool) (rest : List Txn)
    (first : takeFirst isCode (s.tile x).down = some (.code ch k code r, rest)) (heater : 2 ≤ k) :
    ∃ t, exec (.tileCodeTransaction x true) s = .next t ∧ (t.tile x).down = rest ∧
      t.rd (F.HTR_SHD.CODE x ch) = code % 65536 ∧ t.rd (F.HTR_SHD.RANGE x ch) = r.toNat ∧ t.rd (F.HTR_ACT.SET x ch) = 2 ∧
      t.rd (F.HTR_ACT.ACT_CODE x ch) = s.rd (F.HTR_ACT.ACT_CODE x ch) ∧ t.mem = s.mem ∧ t.outbox = s.outbox := by
  have landed : s.land x isCode true = (((s.takeOff x rest).wr (F.HTR_SHD.CODE x ch) code).wr (F.HTR_SHD.RANGE x ch)
      r.toNat).wr (F.HTR_ACT.SET x ch) 2 := (State.land_ok first).trans (if_neg (Nat.not_lt_of_le heater))
  refine ⟨_, congrArg Host.Outcome.next landed, ?down, ?_, ?_, ?_, ?_, ?mem, ?outbox⟩
  case down => rw [State.tile_wr, State.tile_wr, State.tile_wr, s.takeOff_down]
  case mem => rw [State.wr_mem, State.wr_mem, State.wr_mem, s.takeOff_mem]
  case outbox => rw [State.wr_outbox, State.wr_outbox, State.wr_outbox, s.takeOff_outbox]
  all_goals simp only [F.HTR_SHD.CODE, F.HTR_SHD.RANGE, F.HTR_ACT.SET, F.HTR_ACT.ACT_CODE]
  all_goals simp [State.rd_wr_disjoint, State.rd_wr_mod, State.rd_takeOff, Nat.mod_eq_of_lt r.toNat_lt]

/-- One channel of a select transaction: its SEL bit, and its set SEALED. -/
def State.putSelect (s : State) (x c : Nat) (b : Bool) : State :=
  (s.wr (F.POCK_SEL_SHD.SEL x c) b.toNat).wr (F.POCK_STAT.SEL_SET x c) 2

theorem State.putSelect_fields (s : State) (x c : Nat) (b : Bool) :
    (s.putSelect x c b).rd (F.POCK_SEL_SHD.SEL x c) = b.toNat ∧ (s.putSelect x c b).rd (F.POCK_STAT.SEL_SET x c) = 2 ∧
      (s.putSelect x c b).rd (F.POCK_STAT.ACT_SEL x c) = s.rd (F.POCK_STAT.ACT_SEL x c) := by
  have small : b.toNat % 2 = b.toNat := Nat.mod_eq_of_lt b.toNat_lt
  simp only [State.putSelect, F.POCK_SEL_SHD.SEL, F.POCK_STAT.SEL_SET, F.POCK_STAT.ACT_SEL]
  refine ⟨?_, ?_, ?_⟩ <;> simp [State.rd_wr_disjoint, State.rd_wr_mod, small]

theorem State.putSelect_aside (s : State) (x c : Nat) (b : Bool) :
    (s.putSelect x c b).tiles = s.tiles ∧ (s.putSelect x c b).outbox = s.outbox := by
  rw [State.putSelect, State.wr_tiles, State.wr_tiles, State.wr_outbox, State.wr_outbox]
  exact ⟨rfl, rfl⟩

theorem tileSelectTransaction_seals (s : State) (x : Fin 76) (k : Nat) (sel : BitVec 64) (rest : List Txn)
    (first : takeFirst isSelect (s.tile x).down = some (.select k sel, rest)) :
    ∃ t, exec (.tileSelectTransaction x true) s = .next t ∧ (t.tile x).down = rest ∧ (t.tile x).slotShadow = k ∧
      (∀ ch, ch < 64 → t.rd (F.POCK_SEL_SHD.SEL x ch) = (sel.getLsbD ch).toNat ∧ t.rd (F.POCK_STAT.SEL_SET x ch) = 2 ∧
        t.rd (F.POCK_STAT.ACT_SEL x ch) = s.rd (F.POCK_STAT.ACT_SEL x ch)) ∧ t.mem = s.mem ∧ t.outbox = s.outbox := by
  generalize shadowed : (s.takeOff x rest).setTile x { (s.takeOff x rest).tile x with slotShadow := k } = u
  have landed : s.land x isSelect true = channels.foldl (fun s ch => s.putSelect x ch (sel.getLsbD ch)) u := by
    rw [State.land_ok first, ← shadowed]
    rfl
  have aside : (channels.foldl (fun s ch => s.putSelect x ch (sel.getLsbD ch)) u).tiles = u.tiles ∧
      (channels.foldl (fun s ch => s.putSelect x ch (sel.getLsbD ch)) u).outbox = u.outbox :=
    List.foldlRecOn (motive := fun t : State => t.tiles = u.tiles ∧ t.outbox = u.outbox) channels _ ⟨rfl, rfl⟩
      fun t ht ch _ => ⟨(t.putSelect_aside x ch _).1.trans ht.1, (t.putSelect_aside x ch _).2.trans ht.2⟩
  have step : ∀ t ch, Moves (DriveWord x ch) x t (t.putSelect x ch (sel.getLsbD ch)) := fun t ch =>
    ((Moves.refl _ x t).put (pockSelShd_word x ch)).put (pockStat_word x ch)
  have tile : (channels.foldl (fun s ch => s.putSelect x ch (sel.getLsbD ch)) u).tile x =
      { s.tile x with down := rest, slotShadow := k } := by
    rw [State.tile, aside.1, ← shadowed]
    refine (State.tile_setTile_same _ x _).trans ?_
    rw [State.takeOff, State.tile_setTile_same]
  have mem : u.mem = s.mem := by rw [← shadowed, State.setTile_mem, s.takeOff_mem]
  have outbox : u.outbox = s.outbox := by rw [← shadowed, State.setTile_outbox, s.takeOff_outbox]
  have read (f : Field) : u.rd f = s.rd f := by
    rw [← shadowed]
    rfl
  refine ⟨_, congrArg Host.Outcome.next landed, ?_, ?_, fun ch hch => ?_, ?_, aside.2.trans outbox⟩
  · rw [tile]
  · rw [tile]
  · obtain ⟨v, before, after⟩ := foldl_channels hch step u
    obtain ⟨put, set, kept⟩ := v.putSelect_fields x ch (sel.getLsbD ch)
    refine ⟨?_, ?_, ?_⟩
    · rw [after.own (f := F.POCK_SEL_SHD.SEL x ch) (pockSelShd_word x ch), put]
    · rw [after.own (f := F.POCK_STAT.SEL_SET x ch) (pockStat_word x ch), set]
    · rw [after.own (f := F.POCK_STAT.ACT_SEL x ch) (pockStat_word x ch), kept,
        before.own (f := F.POCK_STAT.ACT_SEL x ch) (pockStat_word x ch), read]
  · exact ((Moves.refl (fun _ => True) x u).foldl fun t ch _ h => h.trans ((step t ch).mono fun _ _ => trivial)).mem.trans mem

theorem State.rdW_setTile (s : State) (x : Nat) (y : Tile) (w : Wide) : (s.setTile x y).rdW w = s.rdW w := rfl

/-- The bits of a shutter transaction in the shadow of a trim tile, every set SEALED (R59, R102). -/
def State.putShutters (s : State) (x : Nat) (bits : BitVec 64) : State :=
  (s.wrW (F.SHUT_SHD x) bits.toNat).wrW (F.SHUT_PEND x) (2 ^ 64 - 1)

theorem State.putShutters_values (s : State) (x : Nat) (bits : BitVec 64) :
    (s.putShutters x bits).rdW (F.SHUT_SHD x) = bits.toNat ∧ (s.putShutters x bits).rdW (F.SHUT_PEND x) = 2 ^ 64 - 1 ∧
      (s.putShutters x bits).rdW (F.SHUT_ACT x) = s.rdW (F.SHUT_ACT x) := by
  obtain ⟨shdPend, pendAct, shdAct⟩ := shutters_apart x
  have full : 32 ≤ 64 ∧ 64 ≤ 64 := by decide
  have ones : 2 ^ 64 - 1 < 2 ^ (F.SHUT_PEND x).width := show 2 ^ 64 - 1 < 2 ^ 64 by decide
  unfold State.putShutters
  refine ⟨?_, State.rdW_wrW_same _ (F.SHUT_PEND x) full ones, ?_⟩
  · rw [State.rdW_wrW_apart _ _ (.inr shdPend)]
    exact s.rdW_wrW_same (F.SHUT_SHD x) full bits.isLt
  · rw [State.rdW_wrW_apart _ _ (.inl pendAct), s.rdW_wrW_apart _ (.inl shdAct)]

theorem State.landTxn_shutter (s : State) {x : Nat} (bits : BitVec 64) (trim : isTrimTile x = true) :
    s.landTxn x (.shutter bits) = (s.putShutters x bits).setTile x { s.tile x with shutOpen := 0 } := if_pos trim

theorem tileShutterTransaction_seals (s : State) (x : Fin 76) (bits : BitVec 64) (rest : List Txn)
    (first : takeFirst isShutter (s.tile x).down = some (.shutter bits, rest)) (trim : isTrimTile x = true) :
    ∃ t, exec (.tileShutterTransaction x true) s = .next t ∧ (t.tile x).down = rest ∧
      t.rdW (F.SHUT_SHD x) = bits.toNat ∧ t.rdW (F.SHUT_PEND x) = 2 ^ 64 - 1 ∧ (t.tile x).shutOpen = 0 ∧
      t.rdW (F.SHUT_ACT x) = s.rdW (F.SHUT_ACT x) ∧ t.mem = s.mem ∧ t.outbox = s.outbox := by
  obtain ⟨shd, pend, act⟩ := (s.takeOff x rest).putShutters_values x bits
  refine ⟨_, congrArg Host.Outcome.next ((State.land_ok first).trans (State.landTxn_shutter _ bits trim)), ?_⟩
  rw [State.tile_setTile_same, State.rdW_setTile, State.rdW_setTile, State.rdW_setTile, State.setTile_mem, State.setTile_outbox,
    shd, pend, act, State.putShutters, State.wrW_mem, State.wrW_mem, State.wrW_outbox, State.wrW_outbox, s.takeOff_mem,
    s.takeOff_outbox]
  exact ⟨s.takeOff_down x rest, rfl, rfl, rfl, s.rdW_takeOff x rest _, rfl, rfl⟩

/-- A link CRC that fails is counted (R103). -/
theorem State.linkCrc_counted (s : State) (x : Nat) : Counted (F.LINK_CRC_CNT x) s (s.linkCrc x) := by
  have place : (F.LINK_CRC_CNT x).addr = 0x502088 + 16384 * (x % 76) := rfl
  have tile : tilesFrom ≤ (F.LINK_CRC_CNT x).addr := by
    simp only [tilesFrom]
    omega
  have apart (a : Nat) (ha : a = (F.LINK_CRC_CNT x).addr ∨ a = (F.LINK_CRC_CNT x).addr + 4) :
      ¬ RaiseWord [Src.SENSE.LINK_CRC x] a := by
    rintro (cascade | ⟨src, hsrc, same⟩)
    · simp only [CascadeWord] at cascade
      omega
    · rw [List.mem_singleton.mp hsrc] at same
      simp only [Src.SENSE.LINK_CRC, FB.SENSE] at same
      omega
  have raised := (s.bump (F.LINK_CRC_CNT x)).raise_writes (Src.SENSE.LINK_CRC x)
  have counted := s.bump_counted (w := F.LINK_CRC_CNT x) (saturatedSource_tile tile (by omega)) rfl (not_cascadeWord tile)
    (not_cascadeWord (tile.trans (Nat.le_add_right _ 4)))
  exact (State.rdW_congr (raised.word (apart _ (.inl rfl))) (raised.word (apart _ (.inr rfl)))).trans counted

theorem State.land_crc_counted (s : State) (x : Nat) {p : Txn → Bool} {y : Txn} {rest : List Txn}
    (first : takeFirst p (s.tile x).down = some (y, rest)) : ((s.land x p false).tile x).down = rest ∧
      Counted (F.LINK_CRC_CNT x) s (s.land x p false) ∧ (s.land x p false).mem = s.mem := by
  have reported := (s.takeOff x rest).linkCrc_reports x
  rw [State.land_crc first]
  refine ⟨?_, (s.takeOff x rest).linkCrc_counted x, reported.mem.trans (s.takeOff_mem x rest)⟩
  rw [State.tile, reported.tiles]
  exact s.takeOff_down x rest

/-- Settles O48: what is taken off the link, then what its landing leaves in the tile's fields; a lost link takes the tile's part
of the state with it and ends its calibration (R103, R356). -/
theorem linkTransactionsLandOrAreDropped : Obligations.LinkTransactionsLandOrAreDropped := by
  unfold Obligations.LinkTransactionsLandOrAreDropped
  refine ⟨tileLinkTrained_up, tileLink_ignored, tileLinkLoss_drops, ?_, ?_, tileSelectTransaction_seals,
    tileShutterTransaction_seals, ?_, ?_, ?_⟩
  · exact fun s x ch k code r rest first _ ladder => tileCodeTransaction_ladder s x ch k code r rest first ladder
  · exact fun s x ch k code r rest first _ heater => tileCodeTransaction_heater s x ch k code r rest first heater
  · intro s x bits rest first switching
    exact congrArg Host.Outcome.next ((State.land_ok first).trans (if_neg (Bool.eq_false_iff.mp switching)))
  · rintro s x p c (⟨rfl, rfl⟩ | ⟨rfl, rfl⟩ | ⟨rfl, rfl⟩) y rest first
    · exact ⟨_, rfl, s.land_crc_counted x first⟩
    · exact ⟨_, rfl, s.land_crc_counted x first⟩
    · exact ⟨_, rfl, s.land_crc_counted x first⟩
  · intro s x ok
    exact ⟨fun none => congrArg Host.Outcome.next (State.land_none ok none),
      fun none => congrArg Host.Outcome.next (State.land_none ok none),
      fun none => congrArg Host.Outcome.next (State.land_none ok none)⟩

end Sys2Proof.Machine

namespace Sys2Proof.Machine

/-! ## Supervision and strobe commands -/

/-! ### Heater and shutter supervision (R76, R77) -/

/-- Raising drive source `n` of tile `x` shows it. -/
theorem State.flag_raise_drive (s : State) (x : Nat) {n : Nat} (hn : n < 32) (vin : s.power.vin = true)
    (up : s.power.mainUp = true) : (s.raise ⟨FB.DRIVE x, n⟩).flag (driveReal x n) = true :=
  State.flag_raise_tile _ _ (driveReal_above x) hn (State.srcPowered_of_up _ _ vin up)

theorem State.raise_drive_moves (s : State) (x : Nat) {n : Nat} (hn : n + 1 ≤ 32) :
    Moves (ReportWord x) x s (s.raise ⟨FB.DRIVE x, n⟩) := (Moves.refl _ x s).raise (fun _ => id) hn

theorem htrSup_word (x c : Nat) : ChannelWord x c (F.HTR_SUP.OPEN x c).addr := by
  simp only [ChannelWord, F.HTR_SUP.OPEN]
  omega

theorem htrOpen_raises (s : State) (x : Fin 76) (c : Fin 64) (vin : s.power.vin = true) (up : s.power.mainUp = true)
    (supervised : s.detects x c = true) (driven : 100 * 65536 ≤ s.htrCurrent x c) :
    ∃ t, exec (.htrOpen x c true) s = .next t ∧ t.flag (F.HTR_SUP.OPEN x c) = true ∧
      t.flag (F.HTR_SUP.COMPLIANCE x c) = false ∧ t.flag (Src.DRIVE.HTR_OPEN x).real = true ∧ t.mem = s.mem := by
  generalize noted : (s.setFlag (F.HTR_SUP.OPEN x c) true).setFlag (F.HTR_SUP.COMPLIANCE x c) false = u
  have opened : s.heaterOpen x c true = u.raise (Src.DRIVE.HTR_OPEN x) := by
    rw [← noted]
    exact if_pos (by rw [supervised, decide_eq_true driven]; rfl)
  have raised : Moves (ReportWord x) x u (u.raise (Src.DRIVE.HTR_OPEN x)) := u.raise_drive_moves x (n := 3) (by decide)
  have power : u.power = s.power := by rw [← noted, State.setFlag_power, State.setFlag_power]
  refine ⟨_, congrArg Host.Outcome.next ((s.onMain_up _ up).trans opened), ?_, ?_,
    u.flag_raise_drive x (by decide) (power ▸ vin) (power ▸ up), ?_⟩
  · rw [State.flag, raised.unreported (f := F.HTR_SUP.OPEN x c) (htrSup_word x c), ← noted, State.setFlag,
      State.rd_wr_disjoint _ _ (show 1 + 1 ≤ 32 by decide) (.inr (.inr (show 0 + 1 ≤ 1 by decide)))]
    exact s.flag_setFlag_same true (show 0 + 1 ≤ 32 by decide) rfl
  · rw [State.flag, raised.unreported (f := F.HTR_SUP.COMPLIANCE x c) (htrSup_word x c), ← noted]
    exact State.flag_setFlag_same _ false (show 1 + 1 ≤ 32 by decide) rfl
  · rw [raised.mem, ← noted, State.setFlag_mem, State.setFlag_mem]

theorem htrOpen_ends (s : State) (x : Fin 76) (c : Fin 64) (up : s.power.mainUp = true) :
    ∃ t, exec (.htrOpen x c false) s = .next t ∧ t.flag (F.HTR_SUP.OPEN x c) = false ∧
      (∀ a, a ≠ (F.HTR_SUP.OPEN x c).addr → t.word a = s.word a) ∧ t.mem = s.mem := by
  have ended : s.heaterOpen x c false = s.setFlag (F.HTR_SUP.OPEN x c) false := if_neg (by simp)
  exact ⟨_, congrArg Host.Outcome.next ((s.onMain_up _ up).trans ended),
    s.flag_setFlag_same false (show 0 + 1 ≤ 32 by decide) rfl, fun a => s.word_setFlag_other _ false a, s.setFlag_mem _ _⟩

theorem htrCompliance_raises (s : State) (x : Fin 76) (c : Fin 64) (vin : s.power.vin = true) (up : s.power.mainUp = true)
    (supervised : s.detects x c = true) (closed : s.flag (F.HTR_SUP.OPEN x c) = false) :
    ∃ t, exec (.htrCompliance x c true) s = .next t ∧ t.flag (F.HTR_SUP.COMPLIANCE x c) = true ∧
      t.flag (Src.DRIVE.HTR_COMPLIANCE x).real = true ∧ t.mem = s.mem := by
  generalize noted : s.setFlag (F.HTR_SUP.COMPLIANCE x c) true = u
  have limited : s.heaterCompliance x c true = u.raise (Src.DRIVE.HTR_COMPLIANCE x) := by
    rw [← noted]
    exact if_pos (by rw [supervised, closed]; rfl)
  have raised : Moves (ReportWord x) x u (u.raise (Src.DRIVE.HTR_COMPLIANCE x)) :=
    u.raise_drive_moves x (n := 4) (by decide)
  have power : u.power = s.power := by rw [← noted, State.setFlag_power]
  refine ⟨_, congrArg Host.Outcome.next ((s.onMain_up _ up).trans limited), ?_,
    u.flag_raise_drive x (by decide) (power ▸ vin) (power ▸ up), ?_⟩
  · rw [State.flag, raised.unreported (f := F.HTR_SUP.COMPLIANCE x c) (htrSup_word x c), ← noted]
    exact s.flag_setFlag_same true (show 1 + 1 ≤ 32 by decide) rfl
  · rw [raised.mem, ← noted, State.setFlag_mem]

theorem htrCompliance_ends (s : State) (x : Fin 76) (c : Fin 64) (up : s.power.mainUp = true) :
    ∃ t, exec (.htrCompliance x c false) s = .next t ∧ t.flag (F.HTR_SUP.COMPLIANCE x c) = false ∧
      (∀ a, a ≠ (F.HTR_SUP.COMPLIANCE x c).addr → t.word a = s.word a) ∧ t.mem = s.mem := by
  have ended : s.heaterCompliance x c false = s.setFlag (F.HTR_SUP.COMPLIANCE x c) false := if_neg (by simp)
  exact ⟨_, congrArg Host.Outcome.next ((s.onMain_up _ up).trans ended),
    s.flag_setFlag_same false (show 1 + 1 ≤ 32 by decide) rfl, fun a => s.word_setFlag_other _ false a, s.setFlag_mem _ _⟩

/-- The shutter's current is outside what its state allows (R77). -/
def State.shutterBad (s : State) (x c i : Nat) : Bool :=
  if s.shutterOpen x c then decide (200 < i) else decide (i < 2000) || decide (4500 < i)

theorem State.shutterBad_iff (s : State) (x c i : Nat) :
    s.shutterBad x c i = true ↔ if s.shutterOpen x c then 200 < i else (i < 2000 ∨ 4500 < i) := by
  unfold State.shutterBad
  split <;> simp

theorem State.shutterCurrent_ignored (s : State) {x c i n : Nat}
    (fine : n < 1000 ∨ isTrimTile x = false ∨ s.shutterBad x c i = false) : s.shutterCurrent x c i n = s := by
  refine if_neg (Bool.eq_false_iff.mp ?_)
  rw [Bool.and_eq_false_iff, Bool.and_eq_false_iff, decide_eq_false_iff_not]
  rcases fine with short | switching | good
  · exact .inr (Nat.not_le_of_lt short)
  · exact .inl (.inl switching)
  · exact .inl (.inr good)

theorem State.onMain_same (s : State) (act : State → State) (same : act s = s) : s.onMain act = s := by
  unfold State.onMain
  split
  · exact same
  · rfl

theorem shutCurrent_ignored (s : State) (x : Fin 76) (c : Fin 64) (i n : Nat)
    (fine : n < 1000 ∨ isTrimTile x = false ∨ (if s.shutterOpen x c then i ≤ 200 else 2000 ≤ i ∧ i ≤ 4500)) :
    exec (.shutCurrent x c i n) s = .next s := by
  refine congrArg Host.Outcome.next (s.onMain_same _ (s.shutterCurrent_ignored (fine.imp_right (Or.imp_right fun allowed => ?_))))
  refine Bool.eq_false_iff.mpr fun bad => ?_
  rw [State.shutterBad_iff] at bad
  split at allowed <;> simp_all <;> omega

theorem shutCurrent_raises (s : State) (x : Fin 76) (c : Fin 64) (i n : Nat) (vin : s.power.vin = true)
    (up : s.power.mainUp = true) (trim : isTrimTile x = true) (long : 1000 ≤ n)
    (bad : if s.shutterOpen x c then 200 < i else (i < 2000 ∨ 4500 < i)) :
    ∃ t, exec (.shutCurrent x c i n) s = .next t ∧ t.bitW (F.SHUT_CUR x) c = true ∧
      t.flag (Src.DRIVE.SHUT_CURRENT x).real = true ∧ t.mem = s.mem := by
  generalize noted : s.setEvent (bitField (F.SHUT_CUR x) c) = u
  have latched : s.shutterCurrent x c i n = u.raise (Src.DRIVE.SHUT_CURRENT x) := by
    have wrong : s.shutterBad x c i = true := (s.shutterBad_iff x c i).mpr bad
    rw [← noted]
    exact if_pos (by rw [trim, show (if s.shutterOpen x c then _ else _) = true from wrong, decide_eq_true long]; rfl)
  have raised : Moves (ReportWord x) x u (u.raise (Src.DRIVE.SHUT_CURRENT x)) := u.raise_drive_moves x (n := 5) (by decide)
  have power : u.power = s.power := by rw [← noted, State.setEvent_power]
  have apart : ¬ ReportWord x (bitField (F.SHUT_CUR x) c).addr := shutWord_not_report (by
    simp only [bitField, F.SHUT_CUR]
    omega)
  refine ⟨_, congrArg Host.Outcome.next ((s.onMain_up _ up).trans latched), ?_,
    u.flag_raise_drive x (by decide) (power ▸ vin) (power ▸ up), ?_⟩
  · rw [State.bitW_eq_flag _ rfl c.isLt, State.flag, raised.rd apart, ← noted]
    exact s.flag_setFlag_same true (Nat.succ_le_of_lt (Nat.mod_lt _ (by decide))) rfl
  · rw [raised.mem, ← noted, State.setEvent_mem]

/-! ### STRB_CMD (R64, R66) -/

theorem State.regs_issue (s : State) (x : Nat) (y : Txn) : (s.issue x y).regs = s.regs := by
  unfold State.issue
  split <;> rfl

theorem State.regs_issueMerged (s : State) (slot : Nat) (m : BitVec 4352 × BitVec 512 × BitVec 512) :
    (s.issueMerged slot m).regs = s.regs := by
  refine List.foldlRecOn (motive := fun t : State => t.regs = s.regs) _ _ rfl fun t ht x _ => ?_
  split
  · rw [State.regs_issue, State.regs_issue, ht]
  · rw [State.regs_issue, ht]

theorem State.rdW_of_regs {s t : State} (same : t.regs = s.regs) (w : Wide) : t.rdW w = s.rdW w :=
  State.rdW_congr (congrArg (sparseGet coldWord · _) same) (congrArg (sparseGet coldWord · _) same)

theorem State.rd_of_regs {s t : State} (same : t.regs = s.regs) (f : Field) : t.rd f = s.rd f :=
  congrArg (fun r => bitsOf (sparseGet coldWord r f.addr) f.lsb f.width) same

/-- A record that fails its check is reported, and nothing else is written. -/
theorem State.checkRecord_writes (s : State) (a : Accord) :
    Writes (RaiseWord [Src.ACCORD.RECORD_CRC]) s (s.checkRecord a) := by
  unfold State.checkRecord
  split
  · exact Writes.refl _ s
  · exact s.raise_writes _

theorem not_cascadeWord_of_time {a : Nat} (lo : 0x80000 ≤ a) : ¬ CascadeWord a := fun ⟨_, below⟩ =>
  absurd lo (Nat.not_le_of_lt below)

theorem ne_recordCrc_real {a : Nat} (hi : a < 0x260050) : a ≠ Src.ACCORD.RECORD_CRC.block.real := Nat.ne_of_lt hi

theorem timeWord_not_raised {a : Nat} (lo : 0x80000 ≤ a) (hi : a < 0x260050) : ¬ RaiseWord [Src.ACCORD.RECORD_CRC] a := by
  rintro (cascade | ⟨src, hsrc, same⟩)
  · exact not_cascadeWord_of_time lo cascade
  · rw [List.mem_singleton.mp hsrc] at same
    exact ne_recordCrc_real hi same

theorem checkRecord_refusedCount (s : State) (a : Accord) :
    (s.checkRecord a).rdW F.STRB_REFUSED_CNT = s.rdW F.STRB_REFUSED_CNT :=
  State.rdW_congr ((s.checkRecord_writes a).word (timeWord_not_raised (by decide) (by decide)))
    ((s.checkRecord_writes a).word (timeWord_not_raised (by decide) (by decide)))

/-- A command strobe that may fire loads the standing record with REST and is then on its way to every tile (R64). -/
theorem commandPlane_fires (s : State) (circuit : s.planeMode = 0) (settled : s.commitPending = false)
    (idle : s.strobes.cmd = false) (free : s.frozen = false) (epoch : s.preEpoch = false) :
    ∃ u : State, s.commandPlane = { u with strobes := { u.strobes with plane := allTiles, cmd := true } } ∧
      u.mem = s.mem ∧ u.rdW F.STRB_REFUSED_CNT = s.rdW F.STRB_REFUSED_CNT := by
  generalize checked : s.checkRecord s.standing = s1
  refine ⟨s1.issueMerged s1.slot (merge s1.pinsNow s1.standing rest), ?_, ?_, ?_⟩
  · rw [← checked]
    exact if_neg (by rw [circuit, settled, idle, free, epoch]; decide)
  · rw [← checked]
    exact ((Keeps.refl (fun _ => False) s).checkRecord.issueMerged.same .mem).resolve_left id
  · rw [State.rdW_of_regs (State.regs_issueMerged ..), ← checked]
    exact checkRecord_refusedCount s s.standing

theorem strbCmdPlane_fires (s : State) (m : Master) (ok : s.writeAccess m F.STRB_CMD.PLANE.addr = .ok)
    (circuit : s.planeMode = 0) (settled : s.commitPending = false) (idle : s.strobes.cmd = false) (free : s.frozen = false)
    (epoch : s.preEpoch = false) :
    ∃ t, exec (.strbCmdPlane m) s = .next t ∧ t.strobes.plane = allTiles ∧ t.strobes.cmd = true ∧ t.mem = s.mem ∧
      t.rdW F.STRB_REFUSED_CNT = s.rdW F.STRB_REFUSED_CNT := by
  obtain ⟨u, fired, mem, counted⟩ := commandPlane_fires s circuit settled idle free epoch
  exact ⟨_, congrArg Host.Outcome.next ((s.gate_ok m _ _ ok).trans fired), rfl, rfl, mem, counted⟩

/-- A strobe command that is refused is counted, and nothing else happens (R64, R66). -/
theorem State.bump_strobeRefused (s : State) : Counted F.STRB_REFUSED_CNT s (s.bump F.STRB_REFUSED_CNT) ∧
    Reports s (s.bump F.STRB_REFUSED_CNT) ∧
    (s.rdW F.STRB_REFUSED_CNT + 1 < counterMax → (s.bump F.STRB_REFUSED_CNT).outbox = s.outbox) :=
  ⟨s.bump_counted (by decide) rfl (by decide) (by decide), s.bump_reports _, s.bump_outbox _⟩

theorem Reports.strobes {s t : State} (h : Reports s t) : t.strobes = s.strobes := by rw [h.same]

theorem strbCmdPlane_refused (s : State) (m : Master) (ok : s.writeAccess m F.STRB_CMD.PLANE.addr = .ok)
    (barred : s.planeMode ≠ 0 ∨ s.commitPending = true ∨ s.strobes.cmd = true ∨ s.frozen = true ∨ s.preEpoch = true) :
    ∃ t, exec (.strbCmdPlane m) s = .next t ∧ Counted F.STRB_REFUSED_CNT s t ∧ t.strobes = s.strobes ∧ t.tiles = s.tiles ∧
      t.mem = s.mem ∧ (s.rdW F.STRB_REFUSED_CNT + 1 < counterMax → t.outbox = s.outbox) := by
  have refused : s.commandPlane = s.bump F.STRB_REFUSED_CNT := by
    refine if_pos ?_
    simp only [Bool.or_eq_true, bne_iff_ne, or_assoc]
    exact barred
  obtain ⟨counted, reported, quiet⟩ := s.bump_strobeRefused
  exact ⟨_, congrArg Host.Outcome.next ((s.gate_ok m _ _ ok).trans refused), counted, reported.strobes, reported.tiles,
    reported.mem, quiet⟩

theorem strbCmdGrp_refused (s : State) (m : Master) (g : Fin 8) (ok : s.writeAccess m F.STRB_CMD.GRP.addr = .ok)
    (other : s.rd (F.STRB_GRP.MODE g) ≠ 3) :
    ∃ t, exec (.strbCmdGrp m g) s = .next t ∧ Counted F.STRB_REFUSED_CNT s t ∧ t.strobes = s.strobes ∧ t.mem = s.mem ∧
      (s.rdW F.STRB_REFUSED_CNT + 1 < counterMax → t.outbox = s.outbox) := by
  obtain ⟨counted, reported, quiet⟩ := s.bump_strobeRefused
  exact ⟨_, congrArg Host.Outcome.next ((s.gate_ok m _ _ ok).trans (if_neg other)), counted, reported.strobes, reported.mem, quiet⟩

/-! ### A group fires -/

/-- What Sillage does at a trigger leaves the strobes alone, and TIME's words. -/
theorem State.silTrigger_aside (s : State) : s.silTrigger.strobes = s.strobes ∧
    Writes (fun a => CascadeWord a ∨ 0x1000000 ≤ a) s s.silTrigger := by
  have missed : s.missTrigger.strobes = s.strobes ∧ Writes (fun a => CascadeWord a ∨ 0x1000000 ≤ a) s s.missTrigger := by
    have reported : Reports s s.missTrigger := (s.bump_reports _).trans (State.raise_reports _ _)
    refine ⟨reported.strobes, ((s.bumpBy_writes (w := F.TRIG_MISSED_CNT) (by decide) 1).mono ?_).trans
      ((State.raise_writes _ _).mono ?_)⟩
    · rintro a (rfl | rfl | cascade)
      · exact .inr (by decide)
      · exact .inr (by decide)
      · exact .inl cascade
    · rintro a (cascade | ⟨src, hsrc, rfl⟩)
      · exact .inl cascade
      · rw [List.mem_singleton.mp hsrc]
        exact .inr (by decide)
  unfold State.silTrigger
  split
  · exact ⟨rfl, Writes.refl _ s⟩
  split
  · split
    · exact missed
    · exact ⟨rfl, Writes.refl _ s⟩
  split
  · exact missed
  split
  · exact ⟨rfl, Writes.refl _ s⟩
  · exact ⟨rfl, Writes.refl _ s⟩

theorem State.silGroup_aside (s : State) (g : Nat) : (s.silGroup g).strobes = s.strobes ∧
    Writes (fun a => CascadeWord a ∨ 0x1000000 ≤ a) s (s.silGroup g) := by
  unfold State.silGroup State.silTriggerFrom
  split
  · split
    · exact s.silTrigger_aside
    · exact ⟨rfl, Writes.refl _ s⟩
  · exact ⟨rfl, Writes.refl _ s⟩

/-- Beyond STRB_FIRED a group's firing changes the loops only. -/
theorem State.noteGroup_aside (s : State) (g : Nat) (starts : Nat → Bool) :
    (s.noteGroup g starts).regs = (s.setEvent { F.STRB_FIRED.GRP with lsb := g, width := 1 }).regs ∧
      (s.noteGroup g starts).strobes = s.strobes := by
  refine List.foldlRecOn (motive := fun t : State =>
    t.regs = (s.setEvent { F.STRB_FIRED.GRP with lsb := g, width := 1 }).regs ∧ t.strobes = s.strobes) _ _ ⟨rfl, rfl⟩
    fun t ht e _ => ?_
  split
  · rw [State.setLoopMem_regs, State.setLoopMem_strobes]
    exact ht
  · exact ht

/-- A bit of a field, seen as a field of its own. -/
theorem State.testBit_rd (s : State) (f : Field) {n : Nat} (inside : n < f.width) :
    (s.rd f).testBit n = s.flag { f with lsb := f.lsb + n, width := 1 } := by
  rw [State.flag, State.rd, State.rd, bitsOf_one_beq, testBit_bitsOf, decide_eq_true inside, Bool.true_and,
    BitVec.testBit_toNat]

theorem strbCmdGrp_fires (s : State) (m : Master) (g : Fin 8) (ok : s.writeAccess m F.STRB_CMD.GRP.addr = .ok)
    (command : s.rd (F.STRB_GRP.MODE g) = 3) :
    ∃ t, exec (.strbCmdGrp m g) s = .next t ∧ t.groupInFlight g = allTiles ∧ .strobe (g + 1) ∈ t.outbox ∧
      (t.rd F.STRB_FIRED.GRP).testBit g = true ∧ t.strobes.plane = s.strobes.plane ∧ t.mem = s.mem := by
  generalize noted : s.noteGroup g (fun _ => true) = u
  generalize sent : (u.setGroupInFlight g allTiles).emitOut (.strobe (g + 1)) = v
  have fired : s.commandGroup g = v.silGroup g := by
    rw [← sent, ← noted]
    exact if_pos command
  obtain ⟨regs, strobes⟩ := s.noteGroup_aside g fun _ => true
  obtain ⟨strobesKept, writes⟩ := v.silGroup_aside g
  have out : v.outbox <+: (v.silGroup g).outbox := (Keeps.refl (fun _ => False) v).silGroup.outbox
  have mem : (v.silGroup g).mem = s.mem := by
    have kept : Keeps (fun _ => False) s (v.silGroup g) := by
      rw [← sent, ← noted]
      exact (Keeps.refl _ s).fireGroup
    exact (kept.same .mem).resolve_left id
  refine ⟨_, congrArg Host.Outcome.next ((s.gate_ok m _ _ ok).trans fired), ?_, out.subset ?_, ?_, ?_, mem⟩
  · rw [State.groupInFlight, strobesKept, ← sent]
    exact sparseGet_put_same (fun _ => (0 : BitVec 76)) u.strobes.groups g allTiles
  · rw [← sent, State.outbox_emitOut]
    exact List.mem_append_right _ List.mem_cons_self
  · have shown : v.rd F.STRB_FIRED.GRP = (s.setEvent { F.STRB_FIRED.GRP with lsb := g, width := 1 }).rd F.STRB_FIRED.GRP :=
      State.rd_of_regs (by rw [← regs, noted, ← sent]; rfl) _
    rw [writes.rd (by decide), shown, State.testBit_rd _ _ g.isLt, show F.STRB_FIRED.GRP.lsb + g.val = g.val from Nat.zero_add _]
    exact s.flag_setFlag_same true (by simp only []; omega) rfl
  · rw [strobesKept, ← sent]
    have kept : u.strobes = s.strobes := by rw [← noted]; exact strobes
    show u.strobes.plane = s.strobes.plane
    rw [kept]

/-- Settles O39: supervision by what `raise` shows and leaves alone, strobe commands by what firing and refusing write. -/
theorem strobeCommandsAndDriveSupervision : Obligations.StrobeCommandsAndDriveSupervision := by
  unfold Obligations.StrobeCommandsAndDriveSupervision
  exact ⟨⟨htrOpen_raises, htrOpen_ends, htrCompliance_raises, htrCompliance_ends, shutCurrent_ignored, shutCurrent_raises⟩,
    strbCmdPlane_fires, strbCmdPlane_refused, strbCmdGrp_fires, strbCmdGrp_refused⟩

end Sys2Proof.Machine

namespace Sys2Proof.Machine

/-! ## Strobe edges

### Missed strobes (R60) -/

/-- `w` is a pair of words in which tile `x` says which of its channels missed a strobe. -/
structure MissedWord (x : Nat) (w : Wide) : Prop where
  full : w.width = 64
  low : 0x500010 + 16384 * (x % 76) ≤ w.addr
  high : w.addr + 4 < 0x500030 + 16384 * (x % 76)

theorem missedPock_missed (x : Nat) : MissedWord x (F.MISSED_POCK x) :=
  ⟨rfl, by simp only [F.MISSED_POCK]; omega, by simp only [F.MISSED_POCK]; omega⟩

theorem missedHtr_missed (x : Nat) : MissedWord x (F.MISSED_HTR x) :=
  ⟨rfl, by simp only [F.MISSED_HTR]; omega, by simp only [F.MISSED_HTR]; omega⟩

theorem missedShut_missed (x : Nat) : MissedWord x (F.MISSED_SHUT x) :=
  ⟨rfl, by simp only [F.MISSED_SHUT]; omega, by simp only [F.MISSED_SHUT]; omega⟩

/-- Where the bit of a channel that missed lies. -/
theorem MissedWord.bit {x n : Nat} {w : Wide} (h : MissedWord x w) (hn : n < 64) :
    0x500010 + 16384 * (x % 76) ≤ (bitField w n).addr ∧ (bitField w n).addr < 0x500030 + 16384 * (x % 76) := by
  obtain ⟨_, low, high⟩ := h
  simp only [bitField]
  omega

theorem MissedWord.fault {x n : Nat} {w : Wide} (h : MissedWord x w) (hn : n < 64) : FaultWord x (bitField w n).addr :=
  ⟨(h.bit hn).1, (h.bit hn).2.trans (by omega)⟩

theorem MissedWord.not_counted {x n : Nat} {w : Wide} (h : MissedWord x w) (hn : n < 64) :
    ¬ CountWord (F.MISSED_CNT x) (bitField w n).addr := by
  have below := (h.bit hn).2
  rintro (same | same | cascade)
  · simp only [F.MISSED_CNT] at same
    omega
  · simp only [F.MISSED_CNT] at same
    omega
  · exact not_cascadeWord (h.fault hn).tile cascade

theorem bitField_fits (w : Wide) (n : Nat) : (bitField w n).lsb + 1 ≤ 32 := Nat.succ_le_of_lt (Nat.mod_lt _ (by decide))

namespace Moves
variable {P : Nat → Prop} {x : Nat} {s₀ s : State}

theorem note {k} (h : Moves P x s₀ s) : Moves P x s₀ (s.note k) := h.trans ⟨rfl, .refl P s, fun _ => rfl, fun _ r => r⟩

theorem setEvent {f} (h : Moves P x s₀ s) (ha : P f.addr) (other : f.addr ≠ (FB.DRIVE x).real) :
    Moves P x s₀ (s.setEvent f) := (h.wr (v := 1) ha other).note

theorem missStrobe {w chs} (h : Moves P x s₀ s) (cov : ∀ a, ReportWord x a → P a) (hw : MissedWord x w)
    (inside : ∀ y ∈ chs, y < 64) : Moves P x s₀ (s.missStrobe x w chs) := by
  refine .ite h (((h.foldl fun u y hy hu => hu.setEvent (cov _ (.inr (hw.fault (inside y hy)))) ?_).bumpMissed cov).raise cov
    (by decide))
  exact ((hw.bit (inside y hy)).2.trans_le (by simp only [FB.DRIVE]; omega)).ne

end Moves

theorem State.flag_setEvent_same (s : State) {f : Field} (fits : f.lsb + 1 ≤ 32) (one : f.width = 1) :
    (s.setEvent f).flag f = true := s.flag_setFlag_same true fits one

theorem State.missReport_keeps (s : State) {x n : Nat} {w : Wide} (hw : MissedWord x w) (hn : n < 64) (k : Nat)
    (h : s.flag (bitField w n) = true) :
    ((s.bumpBy (F.MISSED_CNT x) k).raise (Src.DRIVE.MISSED_STROBE x)).flag (bitField w n) = true := by
  have counts := s.bumpBy_writes (w := F.MISSED_CNT x)
    (FaultWord.saturates (x := x) (by simp only [FaultWord, F.MISSED_CNT]; omega)) k
  exact State.flag_raise_mono _ _ rfl (show 0 + 1 ≤ 32 by decide) (not_cascadeWord (hw.fault hn).tile)
    ((congrArg (· == 1) (counts.rd (hw.not_counted hn))).trans h)

/-- Another strobe's misses forget none of these. -/
theorem State.missStrobe_keeps (s : State) {x n : Nat} {w : Wide} (hw : MissedWord x w) (hn : n < 64) (u : Wide) (chs : List Nat)
    (h : s.bitW w n = true) : (s.missStrobe x u chs).bitW w n = true := by
  rw [State.bitW_eq_flag _ hw.full hn] at h ⊢
  unfold State.missStrobe
  split
  · exact h
  · exact State.missReport_keeps _ hw hn _ (List.foldlRecOn (motive := fun t : State => t.flag (bitField w n) = true) _ _ h
      fun t ht y _ => t.flag_setEvent_mono rfl (bitField_fits u y) rfl ht)

/-- A channel that missed shows it, whatever else the strobe reports. -/
theorem State.missStrobe_marks (s : State) {x c : Nat} {w : Wide} {chs : List Nat} (hw : MissedWord x w) (hc : c < 64)
    (missed : c ∈ chs) : (s.missStrobe x w chs).bitW w c = true := by
  have marked : (chs.foldl (fun s ch => s.setEvent (bitField w ch)) s).flag (bitField w c) = true := by
    refine foldl_reaches (f := fun s ch => s.setEvent (bitField w ch)) (I := fun _ => True)
      (P := fun t => t.flag (bitField w c) = true) missed (fun _ _ _ _ => trivial) (fun u _ => ?_) (fun u y _ _ h => ?_) trivial
    · exact u.flag_setEvent_same (bitField_fits w c) rfl
    · exact u.flag_setEvent_mono rfl (bitField_fits w y) rfl h
  have missing : ¬ chs.isEmpty = true := fun none => List.ne_nil_of_mem missed (List.isEmpty_iff.mp none)
  rw [State.bitW_eq_flag _ hw.full hc, State.missStrobe, if_neg missing]
  exact State.missReport_keeps _ hw hc _ marked

end Sys2Proof.Machine

namespace Sys2Proof.Machine

/-! ### A sealed select set at the plane strobe (R60–R62, R69, R70) -/

/-- A refused range change: the shadow takes the active range back, and the refusal is counted and raised (R62). -/
def State.refuseRange (s : State) (x c : Nat) : State :=
  ((s.wr (F.POCK_SEL_SHD.RANGE x c) (s.rd (F.POCK_STAT.ACT_RANGE x c))).bump (F.TILE_REFUSED_CNT x)).raise
    (Src.DRIVE.RANGE_REFUSED x)

/-- Where the select changes, the sealed ladder sets transfer with it (R61). -/
def State.selectLadders (s : State) (x c : Nat) : State :=
  if s.rd (F.POCK_SEL_SHD.SEL x c) = s.rd (F.POCK_STAT.ACT_SEL x c) then s
  else (s.transferIfSealed x c 0).transferIfSealed x c 1

/-- The select becomes active and its set EMPTY (R60). -/
def State.activateSelect (s : State) (x c sel : Nat) : State :=
  let s1 := (s.wr (F.POCK_STAT.ACT_SEL x c) sel).wr (F.POCK_STAT.SEL_SET x c) 0
  let y := s1.tile x
  (s1.setTile x { y with warmP := setBit y.warmP c false, slotAct := y.slotShadow }).stampMove x c

theorem State.transferSelect_kept (s : State) {x c : Nat}
    (kept : s.rd (F.POCK_SEL_SHD.RANGE x c) = s.rd (F.POCK_STAT.ACT_RANGE x c)) :
    s.transferSelect x c = (s.selectLadders x c).activateSelect x c (s.rd (F.POCK_SEL_SHD.SEL x c)) := by
  have notRanged : (s.rd (F.POCK_SEL_SHD.RANGE x c) != s.rd (F.POCK_STAT.ACT_RANGE x c)) = false := by simp [kept]
  unfold State.transferSelect
  simp only [notRanged, Bool.false_and, Bool.false_eq_true, if_false]
  rfl

theorem State.transferSelect_refused (s : State) {x c : Nat}
    (ranged : s.rd (F.POCK_SEL_SHD.RANGE x c) ≠ s.rd (F.POCK_STAT.ACT_RANGE x c)) (refused : s.rangeRefused x c = true) :
    s.transferSelect x c = ((s.refuseRange x c).selectLadders x c).activateSelect x c
      ((s.refuseRange x c).rd (F.POCK_SEL_SHD.SEL x c)) := by
  have differs : (s.rd (F.POCK_SEL_SHD.RANGE x c) != s.rd (F.POCK_STAT.ACT_RANGE x c)) = true := bne_iff_ne.mpr ranged
  unfold State.transferSelect
  rw [differs, refused]
  rfl

theorem State.transferSelect_ranged (s : State) {x c : Nat}
    (ranged : s.rd (F.POCK_SEL_SHD.RANGE x c) ≠ s.rd (F.POCK_STAT.ACT_RANGE x c)) (allowed : s.rangeRefused x c = false) :
    s.transferSelect x c = ((s.selectLadders x c).changeRange x c).activateSelect x c (s.rd (F.POCK_SEL_SHD.SEL x c)) := by
  have differs : (s.rd (F.POCK_SEL_SHD.RANGE x c) != s.rd (F.POCK_STAT.ACT_RANGE x c)) = true := bne_iff_ne.mpr ranged
  unfold State.transferSelect
  rw [differs, allowed]
  rfl

/-! What the parts leave in the channel's fields. -/

section
variable (s : State) (x c : Nat)

theorem State.activateSelect_rd (sel : Nat) (f : Field) : (s.activateSelect x c sel).rd f =
    ((s.wr (F.POCK_STAT.ACT_SEL x c) sel).wr (F.POCK_STAT.SEL_SET x c) 0).rd f :=
  State.rd_of_regs ((State.setTile_regs ..).trans (State.setTile_regs ..)) f

theorem State.activateSelect_sel (t : State) : (s.activateSelect x c (t.rd (F.POCK_SEL_SHD.SEL x c))).rd (F.POCK_STAT.ACT_SEL x c) =
    t.rd (F.POCK_SEL_SHD.SEL x c) := by
  rw [s.activateSelect_rd, State.rd_wr_disjoint _ _ (show 6 + 2 ≤ 32 by decide) (.inr (.inr (show 0 + 1 ≤ 6 by decide)))]
  exact s.rd_wr_same _ (show 0 + 1 ≤ 32 by decide) (bitsOf_lt _ _ 1)

theorem State.activateSelect_set (sel : Nat) : (s.activateSelect x c sel).rd (F.POCK_STAT.SEL_SET x c) = 0 := by
  rw [s.activateSelect_rd]
  exact State.rd_wr_same _ _ (show 6 + 2 ≤ 32 by decide) (Nat.two_pow_pos _)

theorem State.activateSelect_range (sel : Nat) :
    (s.activateSelect x c sel).rd (F.POCK_STAT.ACT_RANGE x c) = s.rd (F.POCK_STAT.ACT_RANGE x c) := by
  rw [s.activateSelect_rd, State.rd_wr_disjoint _ _ (show 6 + 2 ≤ 32 by decide) (.inr (.inr (show 1 + 1 ≤ 6 by decide))),
    State.rd_wr_disjoint _ _ (show 0 + 1 ≤ 32 by decide) (.inr (.inl (show 0 + 1 ≤ 1 by decide)))]

theorem State.transferIfSealed_rd (k : Nat) {f : Field} (tile : tilesFrom ≤ f.addr)
    (act : (actCode x c k).Apart f) (set : (ladderSet x c k).Apart f) : (s.transferIfSealed x c k).rd f = s.rd f := by
  unfold State.transferIfSealed
  split
  · exact s.rd_transferLadder_other x c k tile act set
  · rfl

theorem State.selectLadders_rd {f : Field} (tile : tilesFrom ≤ f.addr)
    (act : ∀ k, (actCode x c k).Apart f) (set : ∀ k, (ladderSet x c k).Apart f) : (s.selectLadders x c).rd f = s.rd f := by
  unfold State.selectLadders
  split
  · rfl
  · rw [State.transferIfSealed_rd _ x c 1 tile (act 1) (set 1), s.transferIfSealed_rd x c 0 tile (act 0) (set 0)]

theorem State.selectLadders_actRange :
    (s.selectLadders x c).rd (F.POCK_STAT.ACT_RANGE x c) = s.rd (F.POCK_STAT.ACT_RANGE x c) := by
  refine s.selectLadders_rd x c (pockStat_word x c).tile (fun k => .inl ?_) fun k => .inr (.inr ?_)
  · rw [actCode_addr]
    exact (pockAct_addr_lt x c).ne
  · exact (show 1 + 1 ≤ 2 by decide).trans (ladderSet_range x c k).1

theorem State.selectLadders_range :
    (s.selectLadders x c).rd (F.POCK_SEL_SHD.RANGE x c) = s.rd (F.POCK_SEL_SHD.RANGE x c) := by
  refine s.selectLadders_rd x c (pockSelShd_word x c).tile (fun k => .inl ?_) fun k => .inl ?_
  · rw [actCode_addr]
    exact (pockSelShd_addr_lt x c).ne'
  · rw [ladderSet_addr]
    exact ((pockSelShd_addr_lt x c).trans (pockAct_addr_lt x c)).ne'

theorem State.changeRange_actRange :
    (s.changeRange x c).rd (F.POCK_STAT.ACT_RANGE x c) = s.rd (F.POCK_SEL_SHD.RANGE x c) := by
  have unmarked : ¬ MarkWord (F.POCK_STAT.ACT_RANGE x c).addr := not_markWord (pockStat_word x c).tile
  unfold State.changeRange
  extract_lets target s1 y
  rw [(State.markDue_marks _ x 1).rd unmarked, (State.touchCal_marks _ x c).rd unmarked]
  refine (State.rd_of_regs (State.setTile_regs ..) _).trans ?_
  exact State.rd_wr_same _ (F.POCK_STAT.ACT_RANGE x c) (show 1 + 1 ≤ 32 by decide) (bitsOf_lt _ _ 1)

theorem State.refuseRange_moves :
    Moves (ReportWord x) x (s.wr (F.POCK_SEL_SHD.RANGE x c) (s.rd (F.POCK_STAT.ACT_RANGE x c))) (s.refuseRange x c) :=
  ((Moves.refl _ x _).bumpRefused fun _ => id).raise (fun _ => id) (by decide)

theorem State.refuseRange_sel :
    (s.refuseRange x c).rd (F.POCK_SEL_SHD.SEL x c) = s.rd (F.POCK_SEL_SHD.SEL x c) := by
  rw [(s.refuseRange_moves x c).unreported (f := F.POCK_SEL_SHD.SEL x c) (pockSelShd_word x c)]
  exact s.rd_wr_disjoint _ (show 1 + 1 ≤ 32 by decide) (.inr (.inr (show 0 + 1 ≤ 1 by decide)))

theorem State.refuseRange_actRange :
    (s.refuseRange x c).rd (F.POCK_STAT.ACT_RANGE x c) = s.rd (F.POCK_STAT.ACT_RANGE x c) := by
  rw [(s.refuseRange_moves x c).unreported (f := F.POCK_STAT.ACT_RANGE x c) (pockStat_word x c)]
  exact s.rd_wr_disjoint _ (show 1 + 1 ≤ 32 by decide) (.inl ((pockSelShd_addr_lt x c).trans (pockAct_addr_lt x c)).ne)

theorem State.refuseRange_shown (vin : s.power.vin = true) (up : s.power.mainUp = true) :
    (s.refuseRange x c).flag (driveReal x 1) = true := by
  have counted := (Moves.refl (ReportWord x) x (s.wr (F.POCK_SEL_SHD.RANGE x c) (s.rd (F.POCK_STAT.ACT_RANGE x c)))).bumpRefused
    (n := 1) fun _ => id
  refine State.flag_raise_drive _ x (by decide) ?_ ?_
  · exact (congrArg Power.vin (counted.power.trans (s.wr_power _ _))).trans vin
  · exact (congrArg Power.mainUp (counted.power.trans (s.wr_power _ _))).trans up

end

/-- What the plane strobe leaves in a channel with a SEALED select set (R60, R62, R70). -/
structure SelectTransferred (s t : State) (x c : Nat) : Prop where
  sel : t.rd (F.POCK_STAT.ACT_SEL x c) = s.rd (F.POCK_SEL_SHD.SEL x c)
  set : t.rd (F.POCK_STAT.SEL_SET x c) = 0
  range : if s.rd (F.POCK_SEL_SHD.RANGE x c) ≠ s.rd (F.POCK_STAT.ACT_RANGE x c) ∧ s.rangeRefused x c = true then
      t.rd (F.POCK_STAT.ACT_RANGE x c) = s.rd (F.POCK_STAT.ACT_RANGE x c) ∧
        (s.power.vin = true → s.power.mainUp = true → t.flag (driveReal x 1) = true)
    else t.rd (F.POCK_STAT.ACT_RANGE x c) = s.rd (F.POCK_SEL_SHD.RANGE x c)

theorem Moves.selectLadders {x c : Nat} {s₀ s : State} (h : Moves (DriveWord x c) x s₀ s) :
    Moves (DriveWord x c) x s₀ (s.selectLadders x c) := .ite h h.transferIfSealed.transferIfSealed

theorem Moves.activateSelect {x c sel : Nat} {s₀ s : State} (h : Moves (DriveWord x c) x s₀ s) :
    Moves (DriveWord x c) x s₀ (s.activateSelect x c sel) :=
  ((h.put (pockStat_word x c)).put (pockStat_word x c)).setTile.stampMove

theorem State.transferSelect_transfers (s : State) (x c : Nat) : SelectTransferred s (s.transferSelect x c) x c := by
  by_cases kept : s.rd (F.POCK_SEL_SHD.RANGE x c) = s.rd (F.POCK_STAT.ACT_RANGE x c)
  · rw [s.transferSelect_kept kept]
    refine ⟨State.activateSelect_sel _ x c s, State.activateSelect_set _ x c _, ?_⟩
    rw [if_neg fun both => both.1 kept, State.activateSelect_range, State.selectLadders_actRange, kept]
  cases refused : s.rangeRefused x c with
  | true =>
    rw [s.transferSelect_refused kept refused]
    refine ⟨(State.activateSelect_sel _ x c _).trans (s.refuseRange_sel x c), State.activateSelect_set _ x c _, ?_⟩
    rw [if_pos ⟨kept, refused⟩, State.activateSelect_range, State.selectLadders_actRange, State.refuseRange_actRange]
    exact ⟨rfl, fun vin up => (Moves.refl (DriveWord x c) x (s.refuseRange x c)).selectLadders.activateSelect.shown 1
      (s.refuseRange_shown x c vin up)⟩
  | false =>
    rw [s.transferSelect_ranged kept refused]
    refine ⟨State.activateSelect_sel _ x c s, State.activateSelect_set _ x c _, ?_⟩
    rw [if_neg fun both => Bool.false_ne_true (refused.symm.trans both.2), State.activateSelect_range,
      State.changeRange_actRange, State.selectLadders_range]

end Sys2Proof.Machine

namespace Sys2Proof.Machine

/-! ### The trims that load with a strobe do not see the strobes (R353)

A plane strobe's edge is off its way before the staged trims load. What loads is what would load before. -/

/-- Nothing that `f` does depends on which strobes are on their way, or changes that. -/
def StrobeBlind (f : State → State) : Prop := ∀ (s : State) (z : Strobes), f { s with strobes := z } = { f s with strobes := z }

namespace StrobeBlind

theorem strobes {f : State → State} (h : StrobeBlind f) (s : State) : (f s).strobes = s.strobes := by
  have same := congrArg State.strobes (h s s.strobes)
  exact same

theorem comp {f g : State → State} (hf : StrobeBlind f) (hg : StrobeBlind g) : StrobeBlind fun s => g (f s) := fun s z =>
  (congrArg g (hf s z)).trans (hg (f s) z)

theorem ite {p : State → Prop} [∀ s, Decidable (p s)] {f g : State → State}
    (same : ∀ (s : State) (z : Strobes), p { s with strobes := z } ↔ p s) (hf : StrobeBlind f) (hg : StrobeBlind g) :
    StrobeBlind fun s => if p s then f s else g s := by
  intro s z
  dsimp only
  by_cases h : p s
  · rw [if_pos ((same s z).mpr h), if_pos h, hf s z]
  · rw [if_neg fun k => h ((same s z).mp k), if_neg h, hg s z]

theorem foldl {β : Type} {f : State → β → State} (h : ∀ b, StrobeBlind (f · b)) (l : List β) :
    StrobeBlind fun s => l.foldl f s := by
  intro s z
  induction l generalizing s with
  | nil => rfl
  | cons b rest ih => exact (congrArg (rest.foldl f) (h b s z)).trans (ih (f s b))

/-- `f` may depend on what it reads where that does not depend on the strobes. -/
theorem feed {α : Type} {v : State → α} {f : α → State → State}
    (same : ∀ (s : State) (z : Strobes), v { s with strobes := z } = v s) (h : ∀ a, StrobeBlind (f a)) :
    StrobeBlind fun s => f (v s) s := fun s z =>
  (congrArg (f · { s with strobes := z }) (same s z)).trans (h (v s) s z)

theorem id : StrobeBlind fun s => s := fun _ _ => rfl

theorem setWord (a w) : StrobeBlind fun s => s.setWord a w := fun _ _ => rfl

theorem wr (f v) : StrobeBlind fun s => s.wr f v := fun _ _ => rfl

theorem setFlag (f b) : StrobeBlind fun s => s.setFlag f b := fun _ _ => rfl

theorem setEvent (f) : StrobeBlind fun s => s.setEvent f := fun _ _ => rfl

theorem wrW (w v) : StrobeBlind fun s => s.wrW w v := fun _ _ => rfl

theorem addCounter (w n) : StrobeBlind fun s => s.addCounter w n :=
  feed (v := fun s => min counterMax (s.rdW w + n)) (f := fun v s => s.wrW w v) (fun _ _ => rfl) (wrW w)

theorem latchSeal (src) : StrobeBlind fun s => s.latchSeal src :=
  ite (p := fun s => (s.flag src.real && s.flag src.en && s.severity src == 3 && !s.sealed src) = true) (fun _ _ => Iff.rfl)
    (fun _ _ => rfl) id

theorem sendVector (v) : StrobeBlind fun s => s.sendVector v :=
  ite (p := fun s => s.msixOpen v = true) (fun _ _ => Iff.rfl) (fun _ _ => rfl) (setFlag _ true)

theorem signalVector (v) : StrobeBlind fun s => s.signalVector v :=
  ite (p := fun s => (s.power.mainUp && s.flag (vecArmed v) && s.vectorQualifies v) = true) (fun _ _ => Iff.rfl)
    (comp (f := fun s => (s.setFlag (vecArmed v) false).note (vecArmed v).key) (fun _ _ => rfl) (sendVector v)) id

end StrobeBlind

theorem State.raiseOne_strobes (s : State) (z : Strobes) (src : Source) :
    ({ s with strobes := z } : State).raiseOne src = ({ (s.raiseOne src).1 with strobes := z }, (s.raiseOne src).2) := by
  have powered : ({ s with strobes := z } : State).srcPowered src = s.srcPowered src := rfl
  have shown : ({ s with strobes := z } : State).flag src.real = s.flag src.real := rfl
  have signalled := (((StrobeBlind.setEvent src.real).comp (.latchSeal src)).comp (.signalVector src.block.vector)) s z
  unfold State.raiseOne
  rw [powered, shown]
  dsimp only at signalled ⊢
  rw [signalled]
  generalize ((s.setEvent src.real).latchSeal src).signalVector src.block.vector = u
  have delivered : ({ u with strobes := z } : State).deliver src.code false =
    ({ (u.deliver src.code false).1 with strobes := z }, (u.deliver src.code false).2) := rfl
  rw [delivered]
  split
  · rfl
  split
  · rfl
  split
  · rfl
  · exact Prod.ext (StrobeBlind.addCounter _ _ _ z) rfl

namespace StrobeBlind

theorem raiseAll (n : Nat) (l : List Source) : StrobeBlind fun s => State.raiseAll n s l := by
  intro s z
  induction n generalizing s l with
  | zero => rfl
  | succ n ih =>
    cases l with
    | nil => rfl
    | cons src rest =>
      dsimp only [State.raiseAll]
      rw [s.raiseOne_strobes z src]
      exact ih _ (s.raiseOne src).1

theorem bump (w) : StrobeBlind fun s => s.bump w :=
  feed (v := fun s => s.saturates w 1) (f := fun l s => State.raiseAll 8 (s.addCounter w 1) l) (fun _ _ => rfl) fun l =>
    (addCounter w 1).comp (raiseAll 8 l)

theorem markDue (x cause) : StrobeBlind fun s => s.markDue x cause :=
  ite (p := fun s => (cause == 3 || (s.rd (F.CAL_AUTO.AUTO (x / 32))).testBit (x % 32)) = true) (fun _ _ => Iff.rfl)
    (((show StrobeBlind fun s => s.wr (F.TILE_CAL_STAT.CAUSE x) (s.rd (F.TILE_CAL_STAT.CAUSE x) ||| 2 ^ cause) from
      fun _ _ => rfl).comp (setFlag (F.TILE_CAL_STAT.DUE x) true)).comp (setFlag _ true)) id

theorem settleTile (x) : StrobeBlind fun s => s.settleTile x :=
  feed (v := fun s => (s.listedLoops (tileCourse x)).filter fun l => loopTile l == x) (f := fun l s => l.foldl State.settleLoop s)
    (fun _ _ => rfl) (foldl fun _ _ _ => rfl)

theorem endCal (x) : StrobeBlind fun s => s.endCal x := by
  have ended : StrobeBlind fun s => ({ s with calib := { s.calib with
      runs := s.calib.runs.filter fun e => decide (e.1 ≠ x) } } : State).setFlag (F.TILE_CAL_STAT.BUSY x) false := fun _ _ => rfl
  have counted : StrobeBlind fun s => s.wr F.CAL_STATUS.RUNNING (min 31 s.calib.runs.length) := fun _ _ => rfl
  have moved : StrobeBlind fun s => s.setTile x { s.tile x with moved := (List.range 64).map fun ch => (ch, s.clock) } :=
    fun _ _ => rfl
  exact (((settleTile x).comp ended).comp counted).comp moved

theorem calib (g : Calib → Calib) : StrobeBlind fun s => { s with calib := g s.calib } := fun _ _ => rfl

theorem forgetLoaded (x) : StrobeBlind fun s => s.forgetLoaded x :=
  (calib fun c => { c with loaded := c.loaded.filter fun e => !((List.range 131).map (calWordAddr x)).contains e.1 }).comp
    (setFlag (F.STAGED.PENDING x) false)

theorem mirror (x) (ws : List (Nat × Word)) :
    StrobeBlind fun s => ws.foldl (fun s e => s.setWord (calWordAddr x e.1) e.2) s :=
  foldl (f := fun s (e : Nat × Word) => s.setWord (calWordAddr x e.1) e.2) (fun e => setWord (calWordAddr x e.1) e.2) ws

theorem calResult (x result ignored) : StrobeBlind fun s => s.calResult x result ignored :=
  ((wr F.CAL_STATUS.LAST_TILE x).comp (wr F.CAL_STATUS.RESULT result)).comp (setFlag F.CAL_STATUS.ABORT_IGNORED ignored)

theorem clearDue (x) : StrobeBlind fun s => s.clearDue x :=
  ((setFlag (F.TILE_CAL_STAT.DUE x) false).comp (wr (F.TILE_CAL_STAT.CAUSE x) 0)).comp (setFlag _ false)

theorem warmed (x kind) :
    StrobeBlind fun s => if kind = 2 then s else s.wr (F.CAL_TEMP.TEMP x) (s.rd (F.CAL_TEMP.TEMP_NOW x)) :=
  ite (p := fun _ => kind = 2) (fun _ _ => Iff.rfl) id fun _ _ => rfl

theorem timed (x) : StrobeBlind fun s => s.wr (F.CAL_TIME.SEC x) s.time.sec := fun _ _ => rfl

theorem due (x) (touched : BitVec 64) : StrobeBlind fun s => if touched = 0 then s else s.markDue x 1 :=
  ite (p := fun _ => touched = 0) (fun _ _ => Iff.rfl) id (markDue x 1)

theorem finishCal (x run ws) : StrobeBlind fun s => s.finishCal x run ws :=
  ((((((((mirror x ws).comp (forgetLoaded x)).comp (warmed x run.kind)).comp (timed x)).comp
    (wr (F.TILE_CAL_STAT.KIND x) run.kind)).comp (calResult x 1 false)).comp (bump F.CALS)).comp (clearDue x)).comp
      (due x run.touched) |>.comp (endCal x)

theorem loadStaged (x) : StrobeBlind fun s => s.loadStaged x := by
  intro s z
  dsimp only [State.loadStaged]
  split
  · split
    · exact finishCal x _ _ s z
    · rfl
  · rfl

end StrobeBlind

end Sys2Proof.Machine

namespace Sys2Proof.Machine

/-! ### What loading staged trims leaves alone (R352, R353) -/

theorem calWordAddr_shared (x k : Nat) : SharedWord (calWordAddr x k) := by
  unfold calWordAddr
  split
  all_goals
    simp only [SharedWord, tilesFrom, F.CAL_TEMP.TEMP, F.REF_TRIM.POCK_REF_GAIN, F.CONV_TRIM.ADC_A_OFS, F.COEF.WORD]
    omega

theorem MarkWord.shared {a : Nat} (h : MarkWord a) : SharedWord a := by
  simp only [MarkWord, SharedWord, tilesFrom] at *
  omega

theorem State.endCal_writes (s : State) (x : Nat) : Writes SharedWord s (s.endCal x) := by
  unfold State.endCal
  extract_lets settled _ ended shown _
  have h1 : Writes SharedWord s settled := s.settleTile_writes x
  have h2 : Writes SharedWord s ended := h1.regs_eq rfl
  have h3 : Writes SharedWord s shown := (h2.setFlag (calBusy_shared x)).wr (by decide)
  exact h3.regs_eq (State.setTile_regs _ _ _)

/-- CALIB's words of a tile, in which a calibration's end is told. -/
theorem tileCal_marks (x : Nat) : MarkWord (F.TILE_CAL_STAT.KIND x).addr ∧ MarkWord (F.CAL_TIME.SEC x).addr ∧
    MarkWord (F.CAL_TEMP.TEMP x).addr ∧ MarkWord (F.STAGED.PENDING x).addr ∧ MarkWord (F.CAL_DUE.DUE (x / 32)).addr := by
  simp only [MarkWord, F.TILE_CAL_STAT.KIND, F.CAL_TIME.SEC, F.CAL_TEMP.TEMP, F.STAGED.PENDING, F.CAL_DUE.DUE]
  omega

namespace Writes
variable {s₀ s t : State} {x : Nat}

theorem ite {P : Nat → Prop} {c : Prop} [Decidable c] (a : Writes P s₀ s) (b : Writes P s₀ t) :
    Writes P s₀ (if c then s else t) := by
  split
  · exact a
  · exact b

theorem forgetLoaded (h : Writes SharedWord s₀ s) : Writes SharedWord s₀ (s.forgetLoaded x) := by
  obtain ⟨_, _, _, staged, _⟩ := tileCal_marks x
  have forgotten (c : Calib) : Writes SharedWord s₀ { s with calib := c } := h.regs_eq rfl
  exact (forgotten _).setFlag (f := F.STAGED.PENDING x) staged.shared

theorem calResult {result ignored} (h : Writes SharedWord s₀ s) : Writes SharedWord s₀ (s.calResult x result ignored) :=
  ((h.wr (f := F.CAL_STATUS.LAST_TILE) (by decide)).wr (f := F.CAL_STATUS.RESULT) (by decide)).setFlag
    (f := F.CAL_STATUS.ABORT_IGNORED) (by decide)

theorem clearDue (h : Writes SharedWord s₀ s) : Writes SharedWord s₀ (s.clearDue x) := by
  obtain ⟨kind, _, _, _, due⟩ := tileCal_marks x
  have stat : Writes SharedWord s₀ (s.setFlag (F.TILE_CAL_STAT.DUE x) false) := h.setFlag kind.shared
  have cause : Writes SharedWord s₀ ((s.setFlag (F.TILE_CAL_STAT.DUE x) false).wr (F.TILE_CAL_STAT.CAUSE x) 0) :=
    stat.wr kind.shared
  exact cause.setFlag due.shared

end Writes

theorem State.finishCal_writes (s : State) (x : Nat) (run : CalRun) (ws : List (Nat × Word)) :
    Writes SharedWord s (s.finishCal x run ws) := by
  obtain ⟨kind, time, temp, _, _⟩ := tileCal_marks x
  unfold State.finishCal
  extract_lets s1 s2 s3 s4
  have h0 : Writes SharedWord s (ws.foldl (fun s e => s.setWord (calWordAddr x e.1) e.2) s) :=
    (Writes.refl _ s).foldl fun h => h.setWord (calWordAddr_shared x _)
  have h1 : Writes SharedWord s s1 := h0.forgetLoaded
  have h2 : Writes SharedWord s s2 := .ite h1 (h1.wr (f := F.CAL_TEMP.TEMP x) temp.shared)
  have h3 : Writes SharedWord s s3 :=
    ((h2.wr (f := F.CAL_TIME.SEC x) time.shared).wr (f := F.TILE_CAL_STAT.KIND x) kind.shared).calResult
  have h4 : Writes SharedWord s s4 := (h3.bump (fun _ => id) (by decide) (by decide)).clearDue
  have h5 := h4.trans ((s4.markDue_marks x 1).mono fun _ => MarkWord.shared)
  exact (Writes.ite h4 h5).trans (State.endCal_writes _ x)

theorem State.loadStaged_writes (s : State) (x : Nat) : Writes SharedWord s (s.loadStaged x) := by
  unfold State.loadStaged
  split
  · split
    · exact s.finishCal_writes x _ _
    · exact Writes.refl _ s
  · exact Writes.refl _ s

/-! ### The state in which a plane strobe's edge finds a tile -/

/-- The trims that wait for the strobe have loaded (R353). -/
def State.loadedAtStrobe (s : State) (x : Nat) : State := if s.trimsAtStrobe then s.loadStaged x else s

theorem StrobeBlind.loadedAtStrobe (x : Nat) : StrobeBlind fun s => s.loadedAtStrobe x :=
  ite (p := fun s => s.trimsAtStrobe = true) (fun _ _ => Iff.rfl) (loadStaged x) id

theorem State.loadedAtStrobe_writes (s : State) (x : Nat) : Writes SharedWord s (s.loadedAtStrobe x) :=
  .ite (s.loadStaged_writes x) (.refl _ s)

theorem State.loadedAtStrobe_keeps (s : State) (x : Nat) : Keeps (fun _ => False) s (s.loadedAtStrobe x) :=
  .ite (Keeps.refl _ s).loadStaged (Keeps.refl _ s)

theorem State.loadedAtStrobe_power (s : State) (x : Nat) : (s.loadedAtStrobe x).power = s.power :=
  ((s.loadedAtStrobe_keeps x).same .power).resolve_left fun h => h

theorem State.loadedAtStrobe_mem (s : State) (x : Nat) : (s.loadedAtStrobe x).mem = s.mem :=
  ((s.loadedAtStrobe_keeps x).same .mem).resolve_left fun h => h

theorem State.loadedAtStrobe_frozen (s : State) (x : Nat) : (s.loadedAtStrobe x).frozen = s.frozen := by
  have writes := s.loadedAtStrobe_writes x
  rw [State.frozen, State.start, State.flag, writes.rd (f := F.START_STATUS.STATE) (by decide),
    writes.rd (f := F.START_STATUS.KIND) (by decide)]
  rfl

/-- A channel's field reads the same once the trims have loaded. -/
theorem State.loadedAtStrobe_rd (s : State) {x c : Nat} {f : Field} {a : Nat} (own : ChannelWord x c a)
    (place : f.addr = a := by rfl) : (s.loadedAtStrobe x).rd f = s.rd f :=
  (s.loadedAtStrobe_writes x).rd fun shared => Nat.not_le_of_lt shared.2 (place ▸ own.tile)

end Sys2Proof.Machine

namespace Sys2Proof.Machine

/-! ### A channel's range change does not depend on the other channels of the strobe (R62, R139) -/

/-- The words that say in which state a loop is. -/
theorem loopWords_between (l : Nat) :
    (0x300000 ≤ (loopCtrlTarget l).addr ∧ (loopCtrlTarget l).addr < tilesFrom) ∧
      (0x300000 ≤ (loopStatState l).addr ∧ (loopStatState l).addr < tilesFrom) ∧
      (0x300000 ≤ (F.COURSE_CTRL.HOLD_ALL (loopCourse l)).addr ∧ (F.COURSE_CTRL.HOLD_ALL (loopCourse l)).addr < tilesFrom) := by
  simp only [loopCtrlTarget, loopStatState, F.LOOP_CTRL.TARGET, F.LOOP_STAT.STATE, F.COURSE_CTRL.HOLD_ALL, tilesFrom]
  omega

namespace Moves
variable {x c : Nat} {s t : State}

theorem held (h : Moves (AsideWord x c) x s t) (l : Nat) : t.held l = s.held l := by
  obtain ⟨ctrl, stat, course⟩ := loopWords_between l
  have hold : t.rd (F.LOOP_CTRL.HOLD (loopCourse l) (loopIndex l)) = s.rd (F.LOOP_CTRL.HOLD (loopCourse l) (loopIndex l)) :=
    h.rd fun aside => aside (.inr ctrl)
  have all : t.rd (F.COURSE_CTRL.HOLD_ALL (loopCourse l)) = s.rd (F.COURSE_CTRL.HOLD_ALL (loopCourse l)) :=
    h.rd fun aside => aside (.inr course)
  have event : t.rd (F.LOOP_STAT.H_EVT (loopCourse l) (loopIndex l)) = s.rd (F.LOOP_STAT.H_EVT (loopCourse l) (loopIndex l)) :=
    h.rd fun aside => aside (.inr stat)
  have calibrates : t.hCal l = s.hCal l := h.running (loopTile l)
  rw [State.held, State.held, calibrates, State.hHost, State.hHost, State.hEvt, State.hEvt, State.hWarm, State.hWarm, h.warmHold,
    State.flag, State.flag, State.flag, hold, all, event]
  rfl

theorem loopState (h : Moves (AsideWord x c) x s t) (l : Nat) : t.loopState l = s.loopState l := by
  obtain ⟨ctrl, stat, _⟩ := loopWords_between l
  have target : t.rd (loopCtrlTarget l) = s.rd (loopCtrlTarget l) := h.rd fun aside => aside (.inr ctrl)
  have told : t.rd (loopStatState l) = s.rd (loopStatState l) := h.rd fun aside => aside (.inr stat)
  have goal : t.loopGoal l = s.loopGoal l := by rw [State.loopGoal, State.loopGoal, target, h.held l]
  rw [State.loopState, State.loopState, goal, told, State.hWarm, State.hWarm, h.warmHold]

theorem rangeRefused (h : Moves (AsideWord x c) x s t) : t.rangeRefused x c = s.rangeRefused x c := by
  rw [State.rangeRefused, State.rangeRefused, State.hostMayWrite, State.hostMayWrite, h.loopState,
    h.own (f := F.POCK_SEL_SHD.RANGE x c) (pockSelShd_word x c), h.own (f := F.POCK_ACT.ACT0 x c) (pockAct_word x c),
    h.own (f := F.POCK_ACT.ACT1 x c) (pockAct_word x c), h.own (f := F.POCK_STAT.L0_SET x c) (pockStat_word x c),
    h.own (f := F.POCK_STAT.L1_SET x c) (pockStat_word x c)]

end Moves

namespace SelectTransferred
variable {x c : Nat} {s u t : State}

theorem after (k : Moves (AsideWord x c) x s u) (h : SelectTransferred u t x c) : SelectTransferred s t x c := by
  have sel := k.own (f := F.POCK_SEL_SHD.SEL x c) (pockSelShd_word x c)
  have range := k.own (f := F.POCK_SEL_SHD.RANGE x c) (pockSelShd_word x c)
  have act := k.own (f := F.POCK_STAT.ACT_RANGE x c) (pockStat_word x c)
  refine ⟨sel ▸ h.sel, h.set, ?_⟩
  have told := h.range
  rw [range, act, k.rangeRefused, k.power] at told
  exact told

theorem before (h : SelectTransferred s t x c) (k : Moves (AsideWord x c) x t u) : SelectTransferred s u x c := by
  have sel := k.own (f := F.POCK_STAT.ACT_SEL x c) (pockStat_word x c)
  have set := k.own (f := F.POCK_STAT.SEL_SET x c) (pockStat_word x c)
  have act := k.own (f := F.POCK_STAT.ACT_RANGE x c) (pockStat_word x c)
  refine ⟨sel.trans h.sel, set.trans h.set, ?_⟩
  have told := h.range
  rw [act]
  split at told
  · next refused =>
    rw [if_pos refused]
    exact ⟨told.1, fun vin up => k.shown 1 (told.2 vin up)⟩
  · next allowed =>
    rw [if_neg allowed]
    exact told

end SelectTransferred

/-! ### A plane strobe's edge (R60, R64) -/

theorem aside_of_report {x c : Nat} (hc : c < 64) : ∀ a, ReportWord x a → AsideWord x c a := by
  intro a h
  simp only [ReportWord, AsideWord, ChannelWord, CascadeWord, FaultWord, tilesFrom] at *
  omega

/-- The channels whose set is not SEALED miss a plane strobe. -/
def State.missesPlane (s : State) (x : Nat) : List Nat := channels.filter fun ch => s.rd (F.POCK_STAT.SEL_SET x ch) != 2

theorem State.missesPlane_lt (s : State) (x : Nat) : ∀ y ∈ s.missesPlane x, y < 64 := fun _ hy =>
  lt_of_mem_channels (List.mem_of_mem_filter hy)

theorem State.planeEdge_regs (s : State) (x cyc : Nat) : (s.planeEdge x cyc).regs =
    ((channels.foldl (fun s ch => s.strobeSelect x ch) s).missStrobe x (F.MISSED_POCK x) (s.missesPlane x)).regs :=
  State.setTile_regs ..

/-- Seen from channel `c`, the edge is its own strobe between those of the others. -/
theorem State.planeEdge_focus (s : State) (x cyc : Nat) {c : Nat} (hc : c < 64) :
    ∃ u, Moves (AsideWord x c) x s u ∧ Moves (AsideWord x c) x (u.strobeSelect x c) (s.planeEdge x cyc) := by
  obtain ⟨u, early, late⟩ := foldl_channels (f := fun s ch => s.strobeSelect x ch) hc
    (fun s ch => (Moves.refl (DriveWord x ch) x s).strobeSelect) s
  exact ⟨u, early, (late.missStrobe (aside_of_report hc) (missedPock_missed x) (s.missesPlane_lt x)).setTile⟩

theorem State.planeEdge_moves (s : State) (x cyc : Nat) : Moves (fun _ => True) x s (s.planeEdge x cyc) := by
  have strobed : Moves (fun _ => True) x s (channels.foldl (fun s ch => s.strobeSelect x ch) s) :=
    (Moves.refl _ x s).foldl fun u ch _ h => h.trans
      ((Moves.refl (DriveWord x ch) x u).strobeSelect.mono fun _ _ => trivial)
  exact (strobed.missStrobe (fun _ _ => trivial) (missedPock_missed x) (s.missesPlane_lt x)).setTile

theorem State.planeEdge_transfers (s : State) (x cyc : Nat) {c : Nat} (hc : c < 64)
    (sealed : s.rd (F.POCK_STAT.SEL_SET x c) = 2) : SelectTransferred s (s.planeEdge x cyc) x c := by
  obtain ⟨u, early, late⟩ := s.planeEdge_focus x cyc hc
  have here : u.strobeSelect x c = u.transferSelect x c :=
    if_pos ((early.own (f := F.POCK_STAT.SEL_SET x c) (pockStat_word x c)).trans sealed)
  rw [here] at late
  exact ((u.transferSelect_transfers x c).after early).before late

theorem State.planeEdge_misses (s : State) (x cyc : Nat) {c : Nat} (hc : c < 64)
    (unsealed : s.rd (F.POCK_STAT.SEL_SET x c) ≠ 2) :
    (s.planeEdge x cyc).rd (F.POCK_STAT.ACT_SEL x c) = s.rd (F.POCK_STAT.ACT_SEL x c) ∧
      (s.planeEdge x cyc).bitW (F.MISSED_POCK x) c = true := by
  obtain ⟨u, early, late⟩ := s.planeEdge_focus x cyc hc
  have here : u.strobeSelect x c = u :=
    if_neg fun sealed => unsealed ((early.own (f := F.POCK_STAT.SEL_SET x c) (pockStat_word x c)).symm.trans sealed)
  rw [here] at late
  refine ⟨(early.trans late).own (f := F.POCK_STAT.ACT_SEL x c) (pockStat_word x c), ?_⟩
  rw [State.bitW, State.rdW_of_regs (s.planeEdge_regs x cyc)]
  exact State.missStrobe_marks _ (missedPock_missed x) hc
    (List.mem_filter.mpr ⟨mem_channels hc, bne_iff_ne.mpr unsealed⟩)

end Sys2Proof.Machine

namespace Sys2Proof.Machine

/-! ### The edge of a plane strobe reaches a tile (R60, R353) -/

/-- The strobes once the plane strobe's edge has reached tile `x`. -/
def State.planeTaken (s : State) (x : Nat) : Strobes := { s.strobes with plane := setBit s.strobes.plane x false }

/-- The tile as the edge finds it: the edge off its way, the trims loaded. -/
def State.atEdge (s : State) (x : Nat) : State := { s.loadedAtStrobe x with strobes := s.planeTaken x }

theorem State.railGood_of_power {s t : State} (same : t.power = s.power) (x : Nat) : t.railGood x = s.railGood x := by
  rw [State.railGood, same, State.railGood]

theorem State.planeStrobeAt_edge (s : State) (x cyc : Nat) (idle : s.strobes.cmd = false)
    (due : s.strobes.plane.getLsbD x = true) (good : s.railGood x = true) (free : s.frozen = false) :
    s.planeStrobeAt x cyc = (s.atEdge x).planeEdge x cyc := by
  have scheduled : (if s.strobes.cmd && !s.preEpoch then s.firePlane fun o => decide (0 ≤ o) else s) = s :=
    if_neg (by rw [idle]; exact Bool.false_ne_true)
  have loaded : ({ s with strobes := s.planeTaken x } : State).loadedAtStrobe x = s.atEdge x :=
    StrobeBlind.loadedAtStrobe x s (s.planeTaken x)
  have rail : (({ s with strobes := s.planeTaken x } : State).loadedAtStrobe x).railGood x = true := by
    rw [loaded]
    exact (State.railGood_of_power (s.loadedAtStrobe_power x) x).trans good
  have runs : (({ s with strobes := s.planeTaken x } : State).loadedAtStrobe x).frozen = false := by
    rw [loaded]
    exact (s.loadedAtStrobe_frozen x).trans free
  have strobed (u : State) (rail : u.railGood x = true) (runs : u.frozen = false) :
      (if u.railGood x && !u.frozen then u.planeEdge x cyc else u) = u.planeEdge x cyc := if_pos (by rw [rail, runs]; rfl)
  unfold State.planeStrobeAt
  rw [scheduled, ← loaded]
  exact (if_neg (by rw [idle]; exact Bool.false_ne_true)).trans
    ((if_pos due).trans (strobed _ rail runs))

theorem State.atEdge_rd (s : State) {x c : Nat} {f : Field} {a : Nat} (own : ChannelWord x c a)
    (place : f.addr = a := by rfl) : (s.atEdge x).rd f = s.rd f :=
  (State.rd_of_regs rfl f).trans (s.loadedAtStrobe_rd own place)

theorem planeStrobe_edge (s : State) (x : Fin 76) (cyc : Nat) (c : Fin 64) (up : s.power.mainUp = true)
    (idle : s.strobes.cmd = false) (due : s.strobes.plane.getLsbD x = true) (good : s.railGood x = true)
    (free : s.frozen = false) :
    ∃ t, exec (.planeStrobe x cyc) s = .next t ∧ t.strobes.plane.getLsbD x = false ∧ t.mem = s.mem ∧
      (s.rd (F.POCK_STAT.SEL_SET x c) = 2 →
        t.rd (F.POCK_STAT.ACT_SEL x c) = s.rd (F.POCK_SEL_SHD.SEL x c) ∧ t.rd (F.POCK_STAT.SEL_SET x c) = 0 ∧
        (let u := if s.trimsAtStrobe then s.loadStaged x else s
         if s.rd (F.POCK_SEL_SHD.RANGE x c) ≠ s.rd (F.POCK_STAT.ACT_RANGE x c) ∧ u.rangeRefused x c = true then
           t.rd (F.POCK_STAT.ACT_RANGE x c) = s.rd (F.POCK_STAT.ACT_RANGE x c) ∧
             (s.power.vin = true → t.flag (Src.DRIVE.RANGE_REFUSED x).real = true)
         else t.rd (F.POCK_STAT.ACT_RANGE x c) = s.rd (F.POCK_SEL_SHD.RANGE x c))) ∧
      (s.rd (F.POCK_STAT.SEL_SET x c) ≠ 2 →
        t.rd (F.POCK_STAT.ACT_SEL x c) = s.rd (F.POCK_STAT.ACT_SEL x c) ∧ t.bitW (F.MISSED_POCK x) c = true) := by
  have moves := (s.atEdge x).planeEdge_moves x cyc
  have set := s.atEdge_rd (f := F.POCK_STAT.SEL_SET x c) (pockStat_word x c)
  have power : (s.atEdge x).power = s.power := s.loadedAtStrobe_power x
  refine ⟨_, congrArg Host.Outcome.next ((s.onMain_up _ up).trans (s.planeStrobeAt_edge x cyc idle due good free)), ?_,
    moves.mem.trans (s.loadedAtStrobe_mem x), fun sealed => ?_, fun unsealed => ?_⟩
  · rw [moves.strobes]
    exact getLsbD_setBit_same _ false x.isLt
  · obtain ⟨sel, empty, range⟩ := (s.atEdge x).planeEdge_transfers x cyc c.isLt (set.trans sealed)
    rw [s.atEdge_rd (f := F.POCK_SEL_SHD.RANGE x c) (pockSelShd_word x c),
      s.atEdge_rd (f := F.POCK_STAT.ACT_RANGE x c) (pockStat_word x c), power] at range
    refine ⟨sel.trans (s.atEdge_rd (pockSelShd_word x c)), empty, ?_⟩
    refine iteInduction (motive := fun told : Prop => told) (fun refused => ?_) fun allowed => ?_
    · have here : s.rd (F.POCK_SEL_SHD.RANGE x c) ≠ s.rd (F.POCK_STAT.ACT_RANGE x c) ∧
        (s.atEdge x).rangeRefused x c = true := refused
      rw [if_pos here] at range
      exact ⟨range.1, fun vin => range.2 vin up⟩
    · have here : ¬ (s.rd (F.POCK_SEL_SHD.RANGE x c) ≠ s.rd (F.POCK_STAT.ACT_RANGE x c) ∧
        (s.atEdge x).rangeRefused x c = true) := allowed
      rw [if_neg here] at range
      exact range
  · obtain ⟨sel, missed⟩ := (s.atEdge x).planeEdge_misses x cyc c.isLt fun sealed => unsealed (set.symm.trans sealed)
    exact ⟨sel.trans (s.atEdge_rd (pockStat_word x c)), missed⟩

end Sys2Proof.Machine

namespace Sys2Proof.Machine

/-! ### A group's edge at the heaters (R60, R66, R69) -/

/-- What a heater strobe leaves in a channel with a SEALED set. -/
structure HeaterTransferred (s t : State) (x c : Nat) : Prop where
  code : t.rd (F.HTR_ACT.ACT_CODE x c) = s.rd (F.HTR_SHD.CODE x c)
  range : t.rd (F.HTR_ACT.ACT_RANGE x c) = s.rd (F.HTR_SHD.RANGE x c)
  set : t.rd (F.HTR_ACT.SET x c) = 0

/-- Only marks follow the writes of a heater's transfer. -/
theorem State.transferHeater_marks (s : State) (x c : Nat) :
    Writes MarkWord (((s.wr (F.HTR_ACT.ACT_CODE x c) (s.rd (F.HTR_SHD.CODE x c))).wr (F.HTR_ACT.ACT_RANGE x c)
      (s.rd (F.HTR_SHD.RANGE x c))).wr (F.HTR_ACT.SET x c) 0) (s.transferHeater x c) := by
  unfold State.transferHeater
  extract_lets range ranged s1 y s2
  have held : Writes MarkWord s1 s2 :=
    ((Writes.refl MarkWord s1).regs_eq ((State.setTile_regs ..).trans (State.setTile_regs ..))).trans (State.touchCal_marks _ x c)
  exact .ite (held.trans (State.markDue_marks _ x 1)) held

theorem State.transferHeater_transfers (s : State) (x c : Nat) : HeaterTransferred s (s.transferHeater x c) x c := by
  have own : ¬ MarkWord (F.HTR_ACT.SET x c).addr := not_markWord (htrAct_word x c).tile
  have marks := s.transferHeater_marks x c
  have setFits : (F.HTR_ACT.SET x c).lsb + (F.HTR_ACT.SET x c).width ≤ 32 := show 17 + 2 ≤ 32 by decide
  have rangeFits : (F.HTR_ACT.ACT_RANGE x c).lsb + (F.HTR_ACT.ACT_RANGE x c).width ≤ 32 := show 16 + 1 ≤ 32 by decide
  refine ⟨?_, ?_, ?_⟩
  · rw [marks.rd (f := F.HTR_ACT.ACT_CODE x c) own, State.rd_wr_disjoint _ _ setFits (.inr (.inr (show 0 + 16 ≤ 17 by decide))),
      State.rd_wr_disjoint _ _ rangeFits (.inr (.inr (show 0 + 16 ≤ 16 by decide)))]
    exact s.rd_wr_same _ (show 0 + 16 ≤ 32 by decide) (bitsOf_lt _ _ 16)
  · rw [marks.rd (f := F.HTR_ACT.ACT_RANGE x c) own, State.rd_wr_disjoint _ _ setFits (.inr (.inr (show 16 + 1 ≤ 17 by decide)))]
    exact State.rd_wr_same _ _ rangeFits (bitsOf_lt _ _ 1)
  · rw [marks.rd own]
    exact State.rd_wr_same _ _ setFits (show 0 < 2 ^ 2 by decide)

/-- A heater strobe at one channel. -/
def State.strobeHeater (s : State) (x c : Nat) : State :=
  let s1 := if s.rd (F.HTR_ACT.SET x c) = 2 then s.transferHeater x c else s
  let y := s1.tile x
  if s1.flag (F.DRV_ENABLE.HTR_EN x) then s1.setTile x { y with htrFree := setBit y.htrFree c true } else s1

/-- The channels of a group whose heater set is OPEN miss its strobe. -/
def State.missesHeater (s : State) (x : Nat) (l : List Nat) : List Nat := l.filter fun ch => s.rd (F.HTR_ACT.SET x ch) == 1

theorem State.heaterStrobe_eq (s : State) (x : Nat) (l : List Nat) : s.heaterStrobe x l =
    (l.foldl (fun s ch => s.strobeHeater x ch) s).missStrobe x (F.MISSED_HTR x) (s.missesHeater x l) := rfl

theorem Moves.strobeHeater {x c : Nat} {s₀ s : State} (h : Moves (DriveWord x c) x s₀ s) :
    Moves (DriveWord x c) x s₀ (s.strobeHeater x c) := by
  have h1 : Moves (DriveWord x c) x s₀ (if s.rd (F.HTR_ACT.SET x c) = 2 then s.transferHeater x c else s) :=
    .ite h.transferHeater h
  exact .ite h1.setTile h1

theorem State.strobeHeater_regs (s : State) (x c : Nat) : (s.strobeHeater x c).regs =
    (if s.rd (F.HTR_ACT.SET x c) = 2 then s.transferHeater x c else s).regs := by
  unfold State.strobeHeater
  extract_lets s1 y
  change _ = s1.regs
  split
  · exact State.setTile_regs ..
  · rfl

theorem State.strobeHeater_transfers (s : State) {x c : Nat} (sealed : s.rd (F.HTR_ACT.SET x c) = 2) :
    HeaterTransferred s (s.strobeHeater x c) x c := by
  have regs := s.strobeHeater_regs x c
  rw [if_pos sealed] at regs
  obtain ⟨code, range, set⟩ := s.transferHeater_transfers x c
  exact ⟨(State.rd_of_regs regs _).trans code, (State.rd_of_regs regs _).trans range, (State.rd_of_regs regs _).trans set⟩

theorem State.strobeHeater_unsealed (s : State) {x c : Nat} (unsealed : s.rd (F.HTR_ACT.SET x c) ≠ 2) (f : Field) :
    (s.strobeHeater x c).rd f = s.rd f := by
  have regs := s.strobeHeater_regs x c
  rw [if_neg unsealed] at regs
  exact State.rd_of_regs regs f

section
variable {s : State} {x c : Nat} {l : List Nat} (inside : ∀ y ∈ l, y < 64)
include inside

theorem State.heaterStrobe_moves : Moves (fun a => ∃ ch < 64, DriveWord x ch a) x s (s.heaterStrobe x l) := by
  have strobed : Moves (fun a => ∃ ch < 64, DriveWord x ch a) x s (l.foldl (fun s ch => s.strobeHeater x ch) s) :=
    (Moves.refl _ x s).foldl fun u ch hch h => h.trans
      ((Moves.refl (DriveWord x ch) x u).strobeHeater.mono fun _ w => ⟨ch, inside ch hch, w⟩)
  exact strobed.missStrobe (fun _ w => ⟨0, by decide, .inr (.inr w)⟩) (missedHtr_missed x) fun y hy =>
    inside y (List.mem_of_mem_filter hy)

/-- Seen from channel `c` of the group, the strobe is its own between those of the others. -/
theorem State.heaterStrobe_focus (distinct : l.Nodup) (hc : c ∈ l) :
    ∃ u, Moves (AsideWord x c) x s u ∧ Moves (AsideWord x c) x (u.strobeHeater x c) (s.heaterStrobe x l) := by
  obtain ⟨u, early, late⟩ := foldl_channel (f := fun s ch => s.strobeHeater x ch) hc distinct inside
    (fun s ch => (Moves.refl (DriveWord x ch) x s).strobeHeater) s
  exact ⟨u, early, late.missStrobe (aside_of_report (inside c hc)) (missedHtr_missed x) fun y hy =>
    inside y (List.mem_of_mem_filter hy)⟩

theorem State.heaterStrobe_transfers (distinct : l.Nodup) (hc : c ∈ l) (sealed : s.rd (F.HTR_ACT.SET x c) = 2) :
    HeaterTransferred s (s.heaterStrobe x l) x c := by
  obtain ⟨u, early, late⟩ := State.heaterStrobe_focus inside distinct hc
  obtain ⟨code, range, set⟩ :=
    u.strobeHeater_transfers ((early.own (f := F.HTR_ACT.SET x c) (htrAct_word x c)).trans sealed)
  refine ⟨?_, ?_, ?_⟩
  · rw [late.own (f := F.HTR_ACT.ACT_CODE x c) (htrAct_word x c), code, early.own (f := F.HTR_SHD.CODE x c) (htrShd_word x c)]
  · rw [late.own (f := F.HTR_ACT.ACT_RANGE x c) (htrAct_word x c), range, early.own (f := F.HTR_SHD.RANGE x c) (htrShd_word x c)]
  · rw [late.own (f := F.HTR_ACT.SET x c) (htrAct_word x c), set]

theorem State.heaterStrobe_misses (distinct : l.Nodup) (hc : c ∈ l) (opened : s.rd (F.HTR_ACT.SET x c) = 1) :
    (s.heaterStrobe x l).rd (F.HTR_ACT.ACT_CODE x c) = s.rd (F.HTR_ACT.ACT_CODE x c) ∧
      (s.heaterStrobe x l).bitW (F.MISSED_HTR x) c = true := by
  obtain ⟨u, early, late⟩ := State.heaterStrobe_focus inside distinct hc
  have unsealed : u.rd (F.HTR_ACT.SET x c) ≠ 2 := by
    rw [early.own (f := F.HTR_ACT.SET x c) (htrAct_word x c), opened]
    decide
  refine ⟨?_, ?_⟩
  · rw [late.own (f := F.HTR_ACT.ACT_CODE x c) (htrAct_word x c), u.strobeHeater_unsealed unsealed,
      early.own (f := F.HTR_ACT.ACT_CODE x c) (htrAct_word x c)]
  · rw [State.heaterStrobe_eq]
    exact State.missStrobe_marks _ (missedHtr_missed x) (inside c hc) (List.mem_filter.mpr ⟨hc, beq_iff_eq.mpr opened⟩)

end

end Sys2Proof.Machine

namespace Sys2Proof.Machine

/-! ### A group's edge at the shutters (R60, R66) -/

/-- The words of tile `x`'s shutters. -/
abbrev ShutWord (x a : Nat) : Prop := 0x500D00 + 16384 * (x % 76) ≤ a ∧ a < 0x500D20 + 16384 * (x % 76)

/-- A shutter's strobe (R60), with the SEALED sets as they were when it began. -/
def State.strobeShutter (s : State) (x pend c : Nat) : State :=
  if pend.testBit c then
    (s.setBitW (F.SHUT_ACT x) c ((s.rdW (F.SHUT_SHD x)).testBit c)).setBitW (F.SHUT_PEND x) c false
  else s

/-- The channels of a group whose shutter misses its strobe. -/
def State.missesShutter (s : State) (x : Nat) (l : List Nat) (follows : Bool) : List Nat :=
  l.filter fun ch => !(s.rdW (F.SHUT_PEND x)).testBit ch && ((s.tile x).shutOpen.getLsbD ch || follows)

theorem State.shutterStrobe_eq (s : State) (x : Nat) (l : List Nat) (follows : Bool) : s.shutterStrobe x l follows =
    (l.foldl (fun u ch => u.strobeShutter x (s.rdW (F.SHUT_PEND x)) ch) s).missStrobe x (F.MISSED_SHUT x)
      (s.missesShutter x l follows) := rfl

theorem Moves.wrW {P : Nat → Prop} {x : Nat} {s₀ s : State} {w v} (h : Moves P x s₀ s) (lo : P w.addr) (hi : P (w.addr + 4))
    (apart : w.addr ≠ (FB.DRIVE x).real ∧ w.addr + 4 ≠ (FB.DRIVE x).real) : Moves P x s₀ (s.wrW w v) :=
  h.reports (s.wrW_reports w v) (((Writes.refl P s).setWord lo).setWord hi) fun _ r =>
    (congrArg (bitsOf · _ _ == 1) (s.word_wrW_other w v _ apart.1.symm apart.2.symm)).trans r

theorem Moves.strobeShutter {P : Nat → Prop} {x pend c : Nat} {s₀ s : State} (h : Moves P x s₀ s)
    (cov : ∀ a, ShutWord x a → P a) :
    Moves P x s₀ (s.strobeShutter x pend c) := by
  have act : ShutWord x (F.SHUT_ACT x).addr ∧ ShutWord x ((F.SHUT_ACT x).addr + 4) := by
    simp only [ShutWord, F.SHUT_ACT]
    omega
  have pends : ShutWord x (F.SHUT_PEND x).addr ∧ ShutWord x ((F.SHUT_PEND x).addr + 4) := by
    simp only [ShutWord, F.SHUT_PEND]
    omega
  have apart (a : Nat) (shut : ShutWord x a) : a ≠ (FB.DRIVE x).real := by
    simp only [ShutWord, FB.DRIVE] at *
    omega
  exact .ite ((h.wrW (cov _ act.1) (cov _ act.2) ⟨apart _ act.1, apart _ act.2⟩).wrW (cov _ pends.1) (cov _ pends.2)
    ⟨apart _ pends.1, apart _ pends.2⟩) h

theorem State.shutterStrobe_moves (s : State) (x : Nat) {P : Nat → Prop} {l : List Nat} (follows : Bool)
    (shut : ∀ a, ShutWord x a → P a) (report : ∀ a, ReportWord x a → P a) (inside : ∀ y ∈ l, y < 64) :
    Moves P x s (s.shutterStrobe x l follows) := by
  have strobed : Moves P x s (l.foldl (fun u ch => u.strobeShutter x (s.rdW (F.SHUT_PEND x)) ch) s) :=
    (Moves.refl _ x s).foldl fun _ _ _ h => h.strobeShutter shut
  exact strobed.missStrobe report (missedShut_missed x) fun y hy => inside y (List.mem_of_mem_filter hy)

section
variable (s : State) (x pend : Nat)

theorem State.strobeShutter_shd (c : Nat) : (s.strobeShutter x pend c).rdW (F.SHUT_SHD x) = s.rdW (F.SHUT_SHD x) := by
  obtain ⟨shdPend, _, shdAct⟩ := shutters_apart x
  unfold State.strobeShutter
  split
  · rw [State.rdW_setBitW_apart _ c false (.inr shdPend), s.rdW_setBitW_apart c _ (.inr shdAct)]
  · rfl

/-- The bits of one shutter after the strobe at `c`. -/
theorem State.strobeShutter_bits {c : Nat} (hc : c < 64) (sealed : pend.testBit c = true) (i : Nat) :
    ((s.strobeShutter x pend c).rdW (F.SHUT_PEND x)).testBit i = (if i = c then false else (s.rdW (F.SHUT_PEND x)).testBit i) ∧
      ((s.strobeShutter x pend c).rdW (F.SHUT_ACT x)).testBit i =
        if i = c then (s.rdW (F.SHUT_SHD x)).testBit c else (s.rdW (F.SHUT_ACT x)).testBit i := by
  obtain ⟨_, pendAct, _⟩ := shutters_apart x
  rw [State.strobeShutter, if_pos sealed, State.testBit_setBitW _ rfl hc, s.rdW_setBitW_apart c _ (.inr pendAct),
    State.rdW_setBitW_apart _ c false (.inl pendAct), s.testBit_setBitW rfl hc]
  exact ⟨rfl, rfl⟩

end

/-- The shutter of channel `c` is as its shadow `b` had it, and its set EMPTY. -/
structure ShutterStrobed (b : Bool) (t : State) (x c : Nat) : Prop where
  pend : (t.rdW (F.SHUT_PEND x)).testBit c = false
  act : (t.rdW (F.SHUT_ACT x)).testBit c = b

theorem ShutterStrobed.strobeShutter {b : Bool} {t : State} {x pend c y : Nat} (h : ShutterStrobed b t x c)
    (shadow : (t.rdW (F.SHUT_SHD x)).testBit c = b) (hy : y < 64) : ShutterStrobed b (t.strobeShutter x pend y) x c := by
  cases sealed : pend.testBit y with
  | false =>
    rw [State.strobeShutter, if_neg (by rw [sealed]; exact Bool.false_ne_true)]
    exact h
  | true =>
    obtain ⟨emptied, moved⟩ := t.strobeShutter_bits x pend hy sealed c
    by_cases here : c = y
    · rw [if_pos here] at emptied moved
      exact ⟨emptied, moved.trans (here ▸ shadow)⟩
    · rw [if_neg here] at emptied moved
      exact ⟨emptied.trans h.pend, moved.trans h.act⟩

theorem State.shutterStrobe_strobes (s : State) (x : Nat) {c : Nat} {l : List Nat} (follows : Bool) (inside : ∀ y ∈ l, y < 64)
    (hc : c ∈ l) (sealed : (s.rdW (F.SHUT_PEND x)).testBit c = true) :
    ShutterStrobed ((s.rdW (F.SHUT_SHD x)).testBit c) (s.shutterStrobe x l follows) x c := by
  have strobed : ShutterStrobed ((s.rdW (F.SHUT_SHD x)).testBit c)
      (l.foldl (fun u ch => u.strobeShutter x (s.rdW (F.SHUT_PEND x)) ch) s) x c := by
    refine foldl_reaches (f := fun u ch => u.strobeShutter x (s.rdW (F.SHUT_PEND x)) ch)
      (I := fun u => u.rdW (F.SHUT_SHD x) = s.rdW (F.SHUT_SHD x))
      (P := fun u => ShutterStrobed ((s.rdW (F.SHUT_SHD x)).testBit c) u x c) hc
      (fun u y _ same => (u.strobeShutter_shd x _ y).trans same) (fun u same => ?_)
      (fun u y hy same h => h.strobeShutter (congrArg (·.testBit c) same) (inside y hy)) rfl
    obtain ⟨emptied, moved⟩ := u.strobeShutter_bits x _ (inside c hc) sealed c
    rw [if_pos rfl] at emptied moved
    exact ⟨emptied, moved.trans (congrArg (·.testBit c) same)⟩
  have reports := ((Moves.refl (ReportWord x) x
    (l.foldl (fun u ch => u.strobeShutter x (s.rdW (F.SHUT_PEND x)) ch) s)).missStrobe (fun _ w => w) (missedShut_missed x)
      (chs := s.missesShutter x l follows) fun y hy => inside y (List.mem_of_mem_filter hy)).writes
  have stays (w : Wide) (shut : 0x500D00 + 16384 * (x % 76) ≤ w.addr) : (s.shutterStrobe x l follows).rdW w =
      (l.foldl (fun u ch => u.strobeShutter x (s.rdW (F.SHUT_PEND x)) ch) s).rdW w :=
    State.rdW_congr (reports.word (shutWord_not_report shut))
      (reports.word (shutWord_not_report (shut.trans (Nat.le_add_right _ 4))))
  refine ⟨?_, ?_⟩
  · rw [stays _ (by simp only [F.SHUT_PEND]; omega)]
    exact strobed.pend
  · rw [stays _ (by simp only [F.SHUT_ACT]; omega)]
    exact strobed.act

end Sys2Proof.Machine

namespace Sys2Proof.Machine

/-! ### A group's edge reaches a tile (R66) -/

/-- The channels of tile `x` whose heater belongs to group `g`. -/
def State.groupHeaters (s : State) (g x : Nat) : List Nat := channels.filter fun ch => s.rd (F.CH_CFG.HGRP x ch) == g

/-- The channels of tile `x` whose shutter belongs to group `g`. -/
def State.groupShutters (s : State) (g x : Nat) : List Nat :=
  if isTrimTile x then channels.filter fun ch => s.rd (F.CH_CFG.SGRP x ch) == g else []

theorem State.groupHeaters_lt (s : State) (g x : Nat) : ∀ y ∈ s.groupHeaters g x, y < 64 := fun _ hy =>
  lt_of_mem_channels (List.mem_of_mem_filter hy)

theorem State.groupShutters_lt (s : State) (g x : Nat) : ∀ y ∈ s.groupShutters g x, y < 64 := by
  intro y hy
  unfold State.groupShutters at hy
  split at hy
  · exact lt_of_mem_channels (List.mem_of_mem_filter hy)
  · cases hy

theorem State.mem_groupHeaters (s : State) {g x c : Nat} (hc : c < 64) (member : s.rd (F.CH_CFG.HGRP x c) = g) :
    c ∈ s.groupHeaters g x := List.mem_filter.mpr ⟨mem_channels hc, beq_iff_eq.mpr member⟩

theorem State.mem_groupShutters (s : State) {g x c : Nat} (hc : c < 64) (trim : isTrimTile x = true)
    (member : s.rd (F.CH_CFG.SGRP x c) = g) : c ∈ s.groupShutters g x := by
  rw [State.groupShutters, if_pos trim]
  exact List.mem_filter.mpr ⟨mem_channels hc, beq_iff_eq.mpr member⟩

theorem State.groupEdge_moves (s : State) (g x : Nat) : Moves (fun _ => True) x s (s.groupEdge g x) :=
  ((State.heaterStrobe_moves (s.groupHeaters_lt g x)).mono fun _ _ => trivial).trans
    (State.shutterStrobe_moves _ x _ (fun _ _ => trivial) (fun _ _ => trivial) (s.groupShutters_lt g x))

/-- The shutters' strobe leaves the fields of the channel alone. -/
theorem State.groupEdge_aside (s : State) (g x : Nat) {c : Nat} (hc : c < 64) :
    Moves (AsideWord x c) x (s.heaterStrobe x (s.groupHeaters g x)) (s.groupEdge g x) := by
  refine State.shutterStrobe_moves _ x _ (fun a shut => ?_) (aside_of_report hc) (s.groupShutters_lt g x)
  simp only [ShutWord, AsideWord, ChannelWord, tilesFrom] at *
  omega

theorem State.groupEdge_transfers (s : State) {g x c : Nat} (hc : c < 64) (member : s.rd (F.CH_CFG.HGRP x c) = g)
    (sealed : s.rd (F.HTR_ACT.SET x c) = 2) : HeaterTransferred s (s.groupEdge g x) x c := by
  obtain ⟨code, range, set⟩ := State.heaterStrobe_transfers (s.groupHeaters_lt g x) (List.nodup_range.filter _)
    (s.mem_groupHeaters hc member) sealed
  have late := s.groupEdge_aside g x hc
  exact ⟨(late.own (htrAct_word x c)).trans code, (late.own (htrAct_word x c)).trans range,
    (late.own (htrAct_word x c)).trans set⟩

/-- A shutter strobe forgets no heater's miss. -/
theorem State.shutterStrobe_missed (s : State) {x c : Nat} (hc : c < 64) (l : List Nat) (follows : Bool)
    (missed : s.bitW (F.MISSED_HTR x) c = true) : (s.shutterStrobe x l follows).bitW (F.MISSED_HTR x) c = true := by
  have moved : Moves (ShutWord x) x s (l.foldl (fun u ch => u.strobeShutter x (s.rdW (F.SHUT_PEND x)) ch) s) :=
    (Moves.refl _ x s).foldl fun _ _ _ h => h.strobeShutter fun _ shut => shut
  have apart : ¬ ShutWord x (F.MISSED_HTR x).addr ∧ ¬ ShutWord x ((F.MISSED_HTR x).addr + 4) := by
    simp only [ShutWord, F.MISSED_HTR]
    omega
  rw [State.shutterStrobe_eq]
  refine State.missStrobe_keeps _ (missedHtr_missed x) hc _ _ ?_
  rw [State.bitW, State.rdW_congr (moved.writes.word apart.1) (moved.writes.word apart.2)]
  exact missed

theorem State.groupEdge_misses (s : State) {g x c : Nat} (hc : c < 64) (member : s.rd (F.CH_CFG.HGRP x c) = g)
    (opened : s.rd (F.HTR_ACT.SET x c) = 1) :
    (s.groupEdge g x).rd (F.HTR_ACT.ACT_CODE x c) = s.rd (F.HTR_ACT.ACT_CODE x c) ∧
      (s.groupEdge g x).bitW (F.MISSED_HTR x) c = true := by
  obtain ⟨code, missed⟩ := State.heaterStrobe_misses (s.groupHeaters_lt g x) (List.nodup_range.filter _)
    (s.mem_groupHeaters hc member) opened
  exact ⟨((s.groupEdge_aside g x hc).own (htrAct_word x c)).trans code, State.shutterStrobe_missed _ hc _ _ missed⟩

/-- The heaters' strobe leaves the shutters' words alone. -/
theorem State.heaterStrobe_shutters (s : State) {x : Nat} {l : List Nat} (inside : ∀ y ∈ l, y < 64) {w : Wide}
    (shut : 0x500D00 + 16384 * (x % 76) ≤ w.addr) : (s.heaterStrobe x l).rdW w = s.rdW w := by
  have apart (a : Nat) (lo : 0x500D00 + 16384 * (x % 76) ≤ a) : ¬ ∃ ch < 64, DriveWord x ch a := by
    rintro ⟨ch, hch, channel | mark | report⟩
    · simp only [ChannelWord] at channel
      omega
    · simp only [MarkWord] at mark
      omega
    · exact shutWord_not_report lo report
  have writes := (State.heaterStrobe_moves (s := s) (x := x) inside).writes
  exact State.rdW_congr (writes.word (apart _ shut)) (writes.word (apart _ (shut.trans (Nat.le_add_right _ 4))))

theorem State.groupEdge_shutters (s : State) {g x c : Nat} (hc : c < 64) (trim : isTrimTile x = true)
    (member : s.rd (F.CH_CFG.SGRP x c) = g) (sealed : (s.rdW (F.SHUT_PEND x)).testBit c = true) :
    ShutterStrobed ((s.rdW (F.SHUT_SHD x)).testBit c) (s.groupEdge g x) x c := by
  have stays {w : Wide} (shut : 0x500D00 + 16384 * (x % 76) ≤ w.addr) :=
    s.heaterStrobe_shutters (s.groupHeaters_lt g x) shut
  have strobed := State.shutterStrobe_strobes (s.heaterStrobe x (s.groupHeaters g x)) x (c := c)
    (s.rd (F.STRB_GRP.MODE g) == 1) (s.groupShutters_lt g x) (s.mem_groupShutters hc trim member) (by
      rw [stays (w := F.SHUT_PEND x) (by simp only [F.SHUT_PEND]; omega)]
      exact sealed)
  rw [stays (w := F.SHUT_SHD x) (by simp only [F.SHUT_SHD]; omega)] at strobed
  exact strobed

/-! ### The commands -/

/-- The state as a group's edge finds it: the edge off its way. -/
def State.groupTaken (s : State) (g x : Nat) : State := s.setGroupInFlight g (setBit (s.groupInFlight g) x false)

theorem State.groupTaken_rd (s : State) (g x : Nat) (f : Field) : (s.groupTaken g x).rd f = s.rd f := State.rd_of_regs rfl f

theorem groupStrobe_edge (s : State) (g : Fin 8) (x : Fin 76) (up : s.power.mainUp = true)
    (due : (s.groupInFlight g).getLsbD x = true) (good : s.railGood x = true) (free : s.frozen = false) :
    exec (.groupStrobe g x) s = .next ((s.groupTaken g x).groupEdge g x) := by
  have strobed (u : State) (rail : u.railGood x = true) (runs : u.frozen = false) :
      (if u.railGood x && !u.frozen then u.groupEdge g x else u) = u.groupEdge g x := if_pos (by rw [rail, runs]; rfl)
  have reached : s.groupStrobeAt g x = (s.groupTaken g x).groupEdge g x :=
    (if_pos due).trans (strobed (s.groupTaken g x) good free)
  exact congrArg Host.Outcome.next ((s.onMain_up _ up).trans reached)

theorem State.groupEdge_taken (s : State) (g : Nat) (x : Fin 76) :
    (((s.groupTaken g x).groupEdge g x).groupInFlight g).getLsbD x = false ∧
      ((s.groupTaken g x).groupEdge g x).mem = s.mem := by
  have moves := (s.groupTaken g x).groupEdge_moves g x
  refine ⟨?_, moves.mem⟩
  rw [State.groupInFlight, moves.strobes]
  have put : sparseGet (fun _ => (0 : BitVec 76)) (s.groupTaken g x).strobes.groups g = setBit (s.groupInFlight g) x false :=
    sparseGet_put_same (fun _ => (0 : BitVec 76)) s.strobes.groups g _
  rw [put]
  exact getLsbD_setBit_same _ false x.isLt

theorem groupStrobe_heaters (s : State) (g : Fin 8) (x : Fin 76) (c : Fin 64) (up : s.power.mainUp = true)
    (due : (s.groupInFlight g).getLsbD x = true) (good : s.railGood x = true) (free : s.frozen = false)
    (member : s.rd (F.CH_CFG.HGRP x c) = g) :
    ∃ t, exec (.groupStrobe g x) s = .next t ∧ (t.groupInFlight g).getLsbD x = false ∧ t.mem = s.mem ∧
      (s.rd (F.HTR_ACT.SET x c) = 2 →
        t.rd (F.HTR_ACT.ACT_CODE x c) = s.rd (F.HTR_SHD.CODE x c) ∧
          t.rd (F.HTR_ACT.ACT_RANGE x c) = s.rd (F.HTR_SHD.RANGE x c) ∧ t.rd (F.HTR_ACT.SET x c) = 0) ∧
      (s.rd (F.HTR_ACT.SET x c) = 1 →
        t.rd (F.HTR_ACT.ACT_CODE x c) = s.rd (F.HTR_ACT.ACT_CODE x c) ∧ t.bitW (F.MISSED_HTR x) c = true) := by
  obtain ⟨taken, mem⟩ := s.groupEdge_taken g x
  refine ⟨_, groupStrobe_edge s g x up due good free, taken, mem, fun sealed => ?_, fun opened => ?_⟩
  · obtain ⟨code, range, set⟩ := (s.groupTaken g x).groupEdge_transfers c.isLt member sealed
    exact ⟨code.trans (s.groupTaken_rd g x _), range.trans (s.groupTaken_rd g x _), set⟩
  · obtain ⟨code, missed⟩ := (s.groupTaken g x).groupEdge_misses c.isLt member opened
    exact ⟨code.trans (s.groupTaken_rd g x _), missed⟩

theorem groupStrobe_shutters (s : State) (g : Fin 8) (x : Fin 76) (c : Fin 64) (up : s.power.mainUp = true)
    (due : (s.groupInFlight g).getLsbD x = true) (good : s.railGood x = true) (free : s.frozen = false)
    (trim : isTrimTile x = true) (member : s.rd (F.CH_CFG.SGRP x c) = g)
    (sealed : (s.rdW (F.SHUT_PEND x)).testBit c = true) :
    ∃ t, exec (.groupStrobe g x) s = .next t ∧ (t.rdW (F.SHUT_PEND x)).testBit c = false ∧
      (t.rdW (F.SHUT_ACT x)).testBit c = (s.rdW (F.SHUT_SHD x)).testBit c ∧ t.mem = s.mem := by
  obtain ⟨emptied, moved⟩ := (s.groupTaken g x).groupEdge_shutters c.isLt trim member sealed
  exact ⟨_, groupStrobe_edge s g x up due good free, emptied, moved, (s.groupEdge_taken g x).2⟩

theorem rangeHoldRelease_releases (s : State) (x : Fin 76) (c : Fin 64) (h : Bool) :
    ∃ t, exec (.rangeHoldRelease x c h) s = .next t ∧
      t.tile x = (if h then { s.tile x with holdH := setBit (s.tile x).holdH c false }
        else { s.tile x with holdP := setBit (s.tile x).holdP c false }) ∧
      t.regs = s.regs ∧ t.mem = s.mem ∧ t.outbox = s.outbox :=
  ⟨s.releaseHold x c h, rfl, State.tile_setTile_same _ _ _, rfl, rfl, rfl⟩

/-- Settles O38: each channel of an edge by its own transfer, the others and the reports leaving its fields alone; trims that
load with the strobe do not see it. -/
theorem strobeEdgesTransferSealedSets : Obligations.StrobeEdgesTransferSealedSets := by
  unfold Obligations.StrobeEdgesTransferSealedSets
  exact ⟨planeStrobe_edge, groupStrobe_heaters, groupStrobe_shutters, rangeHoldRelease_releases⟩

end Sys2Proof.Machine

namespace Sys2Proof.Machine

/-! ## Counted reports and notes of a clock cycle -/

/-- A counter outside the cascade words has counted `n` more. -/
theorem State.rdW_bumpBy (s : State) {w : Wide} (fabric : saturatedSource w.addr = Src.FABRIC.SATURATED)
    (width : w.width = 48) (lo : ¬ CascadeWord w.addr) (hi : ¬ CascadeWord (w.addr + 4)) (n : Nat) :
    (s.bumpBy w n).rdW w = min counterMax (s.rdW w + n) := by
  have raised := s.saturation_cascades (s.addCounter w n) fabric n
  have small : min counterMax (s.rdW w + n) < 2 ^ w.width := by
    rw [width]
    exact (Nat.min_le_left _ _).trans_lt (by decide)
  exact (State.rdW_congr (raised.word lo) (raised.word hi)).trans (s.rdW_wrW_same w (by omega) small)

/-- What is counted first and then raised has been counted. -/
theorem State.rdW_bumpBy_raise (s : State) {w : Wide} (src : Source) (fabric : saturatedSource w.addr = Src.FABRIC.SATURATED)
    (width : w.width = 48) (lo : ¬ RaiseWord [src] w.addr) (hi : ¬ RaiseWord [src] (w.addr + 4)) (n : Nat) :
    ((s.bumpBy w n).raise src).rdW w = min counterMax (s.rdW w + n) :=
  have raised := (s.bumpBy w n).raise_writes src
  (State.rdW_congr (raised.word lo) (raised.word hi)).trans
    (s.rdW_bumpBy fabric width (fun c => lo (.inl c)) (fun c => hi (.inl c)) n)

theorem not_raiseWord {src : Source} {a : Nat} (cascade : ¬ CascadeWord a) (real : a ≠ src.block.real) :
    ¬ RaiseWord [src] a := by
  rintro (c | ⟨x, hx, same⟩)
  · exact cascade c
  · exact real (List.mem_singleton.mp hx ▸ same)

theorem State.flag_setFlag_apart (s : State) {f g : Field} (b : Bool) (fits : f.lsb + f.width ≤ 32) (apart : f.Apart g) :
    (s.setFlag f b).flag g = s.flag g :=
  congrArg (· == 1) (s.rd_wr_disjoint _ fits apart)

theorem State.noted_note_same (s : State) (k : Nat × Nat) : (s.note k).noted k = true := by
  unfold State.note State.noted
  split
  · assumption
  · simp

theorem State.noted_note_other (s : State) {k l : Nat × Nat} (other : l ≠ k) : (s.note k).noted l = s.noted l := by
  unfold State.note State.noted
  split
  · rfl
  · simp [other]

end Sys2Proof.Machine

namespace Sys2Proof.Machine

/-! ## Sillage's commands and triggers

A STOP and a trigger by the branch of R111 that they take; a write of SIL_CTRL by the register it leaves and by what of Sillage's
own state it changes after that. -/

/-! ### STOP and ARM -/

theorem State.silStop_continuous {s : State} (continuous : s.flag F.SIL_CTRL.CAPTURE = false) : s.silStop = s :=
  if_pos (by rw [continuous, Bool.not_false])

/-- A STOP ends the record in progress at its block. -/
theorem State.silStop_ends {s : State} (triggered : s.flag F.SIL_CTRL.CAPTURE = true)
    (free : s.noted F.TRIG_CMD.FIRE.key = false) :
    s.silStop = State.note { s with sil := { s.sil with stop := s.sil.recording } } F.SIL_CTRL.STOP.key := by
  simp [State.silStop, triggered, free]

/-- A STOP takes back the record that a trigger of its own cycle began. -/
theorem State.silStop_revokes {s : State} (triggered : s.flag F.SIL_CTRL.CAPTURE = true)
    (fired : s.noted F.TRIG_CMD.FIRE.key = true) :
    s.silStop = State.note { s with sil := { s.sil with trig := false, recording := false } } F.SIL_CTRL.STOP.key := by
  simp [State.silStop, triggered, fired]

theorem State.silArm_arms {s : State} (triggered : s.flag F.SIL_CTRL.CAPTURE = true) :
    s.silArm = { s with sil := { s.sil with armed := true } } := if_pos triggered

theorem State.silArm_continuous {s : State} (continuous : s.flag F.SIL_CTRL.CAPTURE = false) : s.silArm = s :=
  if_neg (Bool.eq_false_iff.mp continuous)

theorem silStop_ends (s : State) (m : Master) (ok : s.writeAccess m F.SIL_CTRL.STOP.addr = .ok)
    (triggered : s.flag F.SIL_CTRL.CAPTURE = true) (free : s.noted F.TRIG_CMD.FIRE.key = false) :
    ∃ t, exec (.silStop m) s = .next t ∧ t.noted F.SIL_CTRL.STOP.key = true ∧
      t = { s with sil := { s.sil with stop := s.sil.recording }, fresh := t.fresh } :=
  ⟨_, congrArg Host.Outcome.next ((s.gate_ok m _ _ ok).trans (State.silStop_ends triggered free)), State.noted_note_same _ _, rfl⟩

theorem silStop_revokes (s : State) (m : Master) (ok : s.writeAccess m F.SIL_CTRL.STOP.addr = .ok)
    (triggered : s.flag F.SIL_CTRL.CAPTURE = true) (fired : s.noted F.TRIG_CMD.FIRE.key = true) :
    ∃ t, exec (.silStop m) s = .next t ∧ t.noted F.SIL_CTRL.STOP.key = true ∧
      t = { s with sil := { s.sil with trig := false, recording := false }, fresh := t.fresh } :=
  ⟨_, congrArg Host.Outcome.next ((s.gate_ok m _ _ ok).trans (State.silStop_revokes triggered fired)),
    State.noted_note_same _ _, rfl⟩

/-! ### A write of SIL_CTRL (R111, R113) -/

/-- `t` is `s` but for Sillage's own state and the notes of the cycle; of those, no trigger is noted. -/
structure SilOnly (s t : State) : Prop where
  same : t = { s with sil := t.sil, fresh := t.fresh }
  fired : t.noted F.TRIG_CMD.FIRE.key = s.noted F.TRIG_CMD.FIRE.key

namespace SilOnly
variable {s t u : State}

theorem refl (s : State) : SilOnly s s := ⟨rfl, rfl⟩

theorem trans (h : SilOnly s t) (k : SilOnly t u) : SilOnly s u := by
  refine ⟨?_, k.fired.trans h.fired⟩
  have e := k.same
  rw [h.same] at e
  rw [e]

theorem word (h : SilOnly s t) (a : Nat) : t.word a = s.word a := by
  rw [h.same]
  rfl

theorem flag (h : SilOnly s t) (f : Field) : t.flag f = s.flag f := by rw [State.flag, State.rd, h.word, State.flag, State.rd]

theorem mem (h : SilOnly s t) : t.mem = s.mem := by rw [h.same]

theorem outbox (h : SilOnly s t) : t.outbox = s.outbox := by rw [h.same]

theorem ite {c : Prop} [Decidable c] (a : SilOnly s t) (b : SilOnly s u) : SilOnly s (if c then t else u) := by
  split
  · exact a
  · exact b

theorem setSil (h : SilOnly s t) (x : Sil) : SilOnly s { t with sil := x } := ⟨by rw [h.same], h.fired⟩

theorem noteStop (h : SilOnly s t) : SilOnly s (t.note F.SIL_CTRL.STOP.key) :=
  h.trans ⟨rfl, t.noted_note_other (by decide)⟩

theorem silStop (h : SilOnly s t) : SilOnly s t.silStop := .ite h (.ite (h.setSil _).noteStop (h.setSil _).noteStop)

theorem silOff (h : SilOnly s t) : SilOnly s t.silOff := h.silStop.setSil _

theorem silArm (h : SilOnly s t) : SilOnly s t.silArm := .ite (h.setSil _) h

end SilOnly

/-- The register part of a write of SIL_CTRL. -/
def State.putSilCtrl (s : State) (w : Word) : State :=
  let s1 := (s.setFlag F.SIL_CTRL.ENABLE (w.getLsbD 0)).setFlag F.SIL_CTRL.AUTO_REARM (w.getLsbD 3)
  if s.flag F.SIL_CTRL.ENABLE then s1
  else (s1.setFlag F.SIL_CTRL.MODE (w.getLsbD 1)).setFlag F.SIL_CTRL.CAPTURE (w.getLsbD 2)

theorem State.putSilCtrl_sets (s : State) (w : Word) :
    (s.putSilCtrl w).flag F.SIL_CTRL.ENABLE = w.getLsbD 0 ∧ (s.putSilCtrl w).flag F.SIL_CTRL.AUTO_REARM = w.getLsbD 3 := by
  generalize put : (s.setFlag F.SIL_CTRL.ENABLE (w.getLsbD 0)).setFlag F.SIL_CTRL.AUTO_REARM (w.getLsbD 3) = u
  have set : u.flag F.SIL_CTRL.ENABLE = w.getLsbD 0 := by
    rw [← put, State.flag_setFlag_apart _ _ (by decide) (by decide), State.flag_setFlag_same _ _ (by decide) rfl]
  have rearm : u.flag F.SIL_CTRL.AUTO_REARM = w.getLsbD 3 := put ▸ State.flag_setFlag_same _ _ (by decide) rfl
  unfold State.putSilCtrl
  rw [put]
  split
  · exact ⟨set, rearm⟩
  · have later {f : Field} (mode : F.SIL_CTRL.MODE.Apart f) (capture : F.SIL_CTRL.CAPTURE.Apart f) :
        ((u.setFlag F.SIL_CTRL.MODE (w.getLsbD 1)).setFlag F.SIL_CTRL.CAPTURE (w.getLsbD 2)).flag f = u.flag f := by
      rw [State.flag_setFlag_apart _ _ (by decide) capture, State.flag_setFlag_apart _ _ (by decide) mode]
    exact ⟨(later (by decide) (by decide)).trans set, (later (by decide) (by decide)).trans rearm⟩

/-- While Sillage is on, a write leaves MODE and CAPTURE as they are. -/
theorem State.putSilCtrl_on (s : State) (w : Word) (on : s.flag F.SIL_CTRL.ENABLE = true) :
    (s.putSilCtrl w).flag F.SIL_CTRL.MODE = s.flag F.SIL_CTRL.MODE ∧
      (s.putSilCtrl w).flag F.SIL_CTRL.CAPTURE = s.flag F.SIL_CTRL.CAPTURE := by
  rw [State.putSilCtrl, if_pos on]
  refine ⟨?_, ?_⟩
  · rw [State.flag_setFlag_apart _ _ (by decide) (by decide), State.flag_setFlag_apart _ _ (by decide) (by decide)]
  · rw [State.flag_setFlag_apart _ _ (by decide) (by decide), State.flag_setFlag_apart _ _ (by decide) (by decide)]

/-- While Sillage is off, a write sets them too. -/
theorem State.putSilCtrl_off (s : State) (w : Word) (off : s.flag F.SIL_CTRL.ENABLE = false) :
    (s.putSilCtrl w).flag F.SIL_CTRL.MODE = w.getLsbD 1 ∧ (s.putSilCtrl w).flag F.SIL_CTRL.CAPTURE = w.getLsbD 2 := by
  rw [State.putSilCtrl, if_neg (Bool.eq_false_iff.mp off)]
  refine ⟨?_, State.flag_setFlag_same _ _ (by decide) rfl⟩
  rw [State.flag_setFlag_apart _ _ (by decide) (by decide), State.flag_setFlag_same _ _ (by decide) rfl]

theorem State.putSilCtrl_aside (s : State) (w : Word) : (s.putSilCtrl w).sil = s.sil ∧ (s.putSilCtrl w).fresh = s.fresh ∧
    (s.putSilCtrl w).mem = s.mem ∧ (s.putSilCtrl w).outbox = s.outbox := by
  unfold State.putSilCtrl
  dsimp only
  split
  · simp only [State.setFlag_sil, State.setFlag_fresh, State.setFlag_mem, State.setFlag_outbox, and_self]
  · simp only [State.setFlag_sil, State.setFlag_fresh, State.setFlag_mem, State.setFlag_outbox, and_self]

theorem State.word_putSilCtrl_other (s : State) (w : Word) {a : Nat} (other : a ≠ F.SIL_CTRL.ENABLE.addr) :
    (s.putSilCtrl w).word a = s.word a := by
  have lower (u : State) (f : Field) (b : Bool) (same : f.addr = F.SIL_CTRL.ENABLE.addr) : (u.setFlag f b).word a = u.word a :=
    u.word_setFlag_other f b a (same ▸ other)
  unfold State.putSilCtrl
  dsimp only
  split
  · rw [lower _ F.SIL_CTRL.AUTO_REARM _ rfl, lower _ F.SIL_CTRL.ENABLE _ rfl]
  · rw [lower _ F.SIL_CTRL.CAPTURE _ rfl, lower _ F.SIL_CTRL.MODE _ rfl, lower _ F.SIL_CTRL.AUTO_REARM _ rfl,
      lower _ F.SIL_CTRL.ENABLE _ rfl]

/-- The STOP of clearing ENABLE and that of bit 5, as a write of SIL_CTRL makes them. -/
def State.stopAsWritten (s : State) (on : Bool) (w : Word) : State :=
  let s1 := if on && !w.getLsbD 0 then s.silOff else s
  if w.getLsbD 5 then s1.silStop else s1

theorem State.writeSilCtrl_eq (s : State) (w : Word) :
    s.writeSilCtrl w = if w.getLsbD 4 then ((s.putSilCtrl w).stopAsWritten (s.flag F.SIL_CTRL.ENABLE) w).silArm
      else (s.putSilCtrl w).stopAsWritten (s.flag F.SIL_CTRL.ENABLE) w := rfl

theorem SilOnly.stopAsWritten {s t : State} (h : SilOnly s t) (on : Bool) (w : Word) : SilOnly s (t.stopAsWritten on w) :=
  have off := SilOnly.ite (c := (on && !w.getLsbD 0) = true) h.silOff h
  .ite off.silStop off

theorem State.writeSilCtrl_silOnly (s : State) (w : Word) : SilOnly (s.putSilCtrl w) (s.writeSilCtrl w) := by
  have stopped := (SilOnly.refl (s.putSilCtrl w)).stopAsWritten (s.flag F.SIL_CTRL.ENABLE) w
  rw [State.writeSilCtrl_eq]
  exact .ite stopped.silArm stopped

/-- A record is stopped at its block by clearing ENABLE, whether STOP is written with it or not. -/
theorem State.stopAsWritten_ends {s : State} {w : Word} (cleared : w.getLsbD 0 = false)
    (triggered : s.flag F.SIL_CTRL.CAPTURE = true) (recording : s.sil.recording = true)
    (free : s.noted F.TRIG_CMD.FIRE.key = false) : (s.stopAsWritten true w).sil.stop = true := by
  have off := (SilOnly.refl s).silOff
  have ended := State.silStop_ends triggered free
  obtain ⟨goesOn, ends⟩ : s.silOff.sil.recording = true ∧ s.silOff.sil.stop = true := by
    rw [State.silOff, ended]
    exact ⟨recording, recording⟩
  rw [State.stopAsWritten, cleared]
  show (if w.getLsbD 5 = true then s.silOff.silStop else s.silOff).sil.stop = true
  split
  · rw [State.silStop_ends ((off.flag _).trans triggered) (off.fired.trans free)]
    exact goesOn
  · exact ends

theorem State.silArm_stop (s : State) : s.silArm.sil.stop = s.sil.stop := by
  unfold State.silArm
  split <;> rfl

theorem State.writeSilCtrl_stop (s : State) (w : Word) :
    (s.writeSilCtrl w).sil.stop = ((s.putSilCtrl w).stopAsWritten (s.flag F.SIL_CTRL.ENABLE) w).sil.stop := by
  rw [State.writeSilCtrl_eq]
  split
  · exact State.silArm_stop _
  · rfl

theorem State.writeSilCtrl_armed (s : State) (w : Word) (arm : w.getLsbD 4 = true)
    (triggered : (s.writeSilCtrl w).flag F.SIL_CTRL.CAPTURE = true) : (s.writeSilCtrl w).sil.armed = true := by
  have stopped := (SilOnly.refl (s.putSilCtrl w)).stopAsWritten (s.flag F.SIL_CTRL.ENABLE) w
  rw [(s.writeSilCtrl_silOnly w).flag, ← stopped.flag] at triggered
  rw [State.writeSilCtrl_eq, if_pos arm, State.silArm_arms triggered]

theorem silCtrlWrite_sets (s : State) (m : Master) (w : Word) (ok : s.writeAccess m F.SIL_CTRL.ENABLE.addr = .ok) :
    ∃ t, exec (.silCtrlWrite m w) s = .next t ∧ t.flag F.SIL_CTRL.ENABLE = w.getLsbD 0 ∧
      t.flag F.SIL_CTRL.AUTO_REARM = w.getLsbD 3 ∧
      (s.flag F.SIL_CTRL.ENABLE = false → t.flag F.SIL_CTRL.MODE = w.getLsbD 1 ∧ t.flag F.SIL_CTRL.CAPTURE = w.getLsbD 2) ∧
      (s.flag F.SIL_CTRL.ENABLE = true → t.flag F.SIL_CTRL.MODE = s.flag F.SIL_CTRL.MODE ∧
        t.flag F.SIL_CTRL.CAPTURE = s.flag F.SIL_CTRL.CAPTURE) ∧
      (s.flag F.SIL_CTRL.ENABLE = true → w.getLsbD 0 = false → s.flag F.SIL_CTRL.CAPTURE = true →
        s.sil.recording = true → s.noted F.TRIG_CMD.FIRE.key = false → t.sil.stop = true) ∧
      (w.getLsbD 4 = true → t.flag F.SIL_CTRL.CAPTURE = true → t.sil.armed = true) ∧
      (∀ a, a ≠ F.SIL_CTRL.ENABLE.addr → t.word a = s.word a) ∧ t.mem = s.mem ∧ t.outbox = s.outbox := by
  have after := s.writeSilCtrl_silOnly w
  obtain ⟨sil, fresh, mem, outbox⟩ := s.putSilCtrl_aside w
  obtain ⟨enable, rearm⟩ := s.putSilCtrl_sets w
  refine ⟨_, congrArg Host.Outcome.next (s.gate_ok m _ _ ok), (after.flag _).trans enable, (after.flag _).trans rearm,
    fun off => ?_, fun on => ?_, fun on cleared triggered recording free => ?_, s.writeSilCtrl_armed w, fun a other => ?_,
    after.mem.trans mem, after.outbox.trans outbox⟩
  · obtain ⟨mode, capture⟩ := s.putSilCtrl_off w off
    exact ⟨(after.flag _).trans mode, (after.flag _).trans capture⟩
  · obtain ⟨mode, capture⟩ := s.putSilCtrl_on w on
    exact ⟨(after.flag _).trans mode, (after.flag _).trans capture⟩
  · obtain ⟨_, capture⟩ := s.putSilCtrl_on w on
    rw [s.writeSilCtrl_stop w, on]
    refine State.stopAsWritten_ends cleared (capture.trans triggered) ?_ ?_
    · rw [sil, recording]
    · rw [State.noted, fresh]
      exact free
  · exact (after.word a).trans (s.word_putSilCtrl_other w other)

/-! ### Triggers (R110, R111) -/

/-- While Sillage is off and in the cycle of a STOP a trigger is ignored. -/
theorem State.silTrigger_ignored {s : State} (idle : s.flag F.SIL_CTRL.ENABLE = false ∨ s.noted F.SIL_CTRL.STOP.key = true) :
    s.silTrigger = s := by
  rcases idle with off | stopped
  · simp [State.silTrigger, off]
  · simp [State.silTrigger, stopped]

/-- A trigger that is not armed begins nothing. -/
theorem State.silTrigger_unarmed {s : State} (triggered : s.flag F.SIL_CTRL.CAPTURE = true)
    (idle : s.sil.recording = false) (held : s.sil.holdoff = false) (unarmed : s.sil.armed = false) : s.silTrigger = s := by
  simp [State.silTrigger, triggered, idle, held, unarmed]

section
variable {s : State} (on : s.flag F.SIL_CTRL.ENABLE = true) (running : s.noted F.SIL_CTRL.STOP.key = false)
include on running

/-- In continuous capture a trigger marks the block in progress. -/
theorem State.silTrigger_marks (continuous : s.flag F.SIL_CTRL.CAPTURE = false) (unmarked : s.sil.trig = false) :
    s.silTrigger = { s with sil := { s.sil with trig := true } } := by
  simp [State.silTrigger, on, running, continuous, unmarked]

/-- Once armed a trigger begins a record. -/
theorem State.silTrigger_begins (triggered : s.flag F.SIL_CTRL.CAPTURE = true) (armed : s.sil.armed = true)
    (idle : s.sil.recording = false) (held : s.sil.holdoff = false) :
    s.silTrigger = State.note { s with sil := { s.sil with
      trig := true, recording := true, postLeft := max 1 (s.rd F.TRIG_WIN.POST_BLK) } } F.TRIG_CMD.FIRE.key := by
  simp [State.silTrigger, on, running, triggered, armed, idle, held]

/-- A trigger during a record or its hold-off, or in a block that is marked, is missed. -/
theorem State.silTrigger_misses (busy : (s.flag F.SIL_CTRL.CAPTURE = true ∧ (s.sil.recording = true ∨ s.sil.holdoff = true)) ∨
    (s.flag F.SIL_CTRL.CAPTURE = false ∧ s.sil.trig = true)) : s.silTrigger = s.missTrigger := by
  rcases busy with ⟨triggered, recording | held⟩ | ⟨continuous, marked⟩
  · simp [State.silTrigger, on, running, triggered, recording]
  · simp [State.silTrigger, on, running, triggered, held]
  · simp [State.silTrigger, on, running, continuous, marked]

end

/-- A missed trigger is counted and reported. -/
theorem State.missTrigger_counted (s : State) : Counted F.TRIG_MISSED_CNT s s.missTrigger ∧ Reports s s.missTrigger :=
  ⟨s.rdW_bumpBy_raise Src.SILLAGE.TRIG_MISSED (by decide) rfl (not_raiseWord (by decide) (by decide))
    (not_raiseWord (by decide) (by decide)) 1, (s.bump_reports _).trans (State.raise_reports _ _)⟩

theorem Reports.sil {s t : State} (h : Reports s t) : t.sil = s.sil := by rw [h.same]

/-- The HOST trigger, where TRIG_CFG selects it. -/
theorem trigCmdFire_triggers {s : State} {m : Master} (ok : s.writeAccess m F.TRIG_CMD.FIRE.addr = .ok)
    (host : s.rd F.TRIG_CFG.SOURCE = 0) : exec (.trigCmdFire m) s = .next s.silTrigger :=
  congrArg Host.Outcome.next ((s.gate_ok m _ _ ok).trans (if_pos host))

theorem trigCmdFire_begins (s : State) (m : Master) (ok : s.writeAccess m F.TRIG_CMD.FIRE.addr = .ok)
    (host : s.rd F.TRIG_CFG.SOURCE = 0) (on : s.flag F.SIL_CTRL.ENABLE = true) (triggered : s.flag F.SIL_CTRL.CAPTURE = true)
    (armed : s.sil.armed = true) (idle : s.sil.recording = false) (held : s.sil.holdoff = false)
    (running : s.noted F.SIL_CTRL.STOP.key = false) :
    ∃ t, exec (.trigCmdFire m) s = .next t ∧ t.noted F.TRIG_CMD.FIRE.key = true ∧
      t = { s with
        sil := { s.sil with trig := true, recording := true, postLeft := max 1 (s.rd F.TRIG_WIN.POST_BLK) }
        fresh := t.fresh } :=
  ⟨_, (trigCmdFire_triggers ok host).trans
    (congrArg Host.Outcome.next (State.silTrigger_begins on running triggered armed idle held)), State.noted_note_same _ _, rfl⟩

theorem trigCmdFire_misses (s : State) (m : Master) (ok : s.writeAccess m F.TRIG_CMD.FIRE.addr = .ok)
    (host : s.rd F.TRIG_CFG.SOURCE = 0) (on : s.flag F.SIL_CTRL.ENABLE = true) (running : s.noted F.SIL_CTRL.STOP.key = false)
    (busy : (s.flag F.SIL_CTRL.CAPTURE = true ∧ (s.sil.recording = true ∨ s.sil.holdoff = true)) ∨
      (s.flag F.SIL_CTRL.CAPTURE = false ∧ s.sil.trig = true)) :
    ∃ t, exec (.trigCmdFire m) s = .next t ∧ t.sil = s.sil ∧ Counted F.TRIG_MISSED_CNT s t ∧ t.mem = s.mem := by
  obtain ⟨counted, reported⟩ := s.missTrigger_counted
  exact ⟨_, (trigCmdFire_triggers ok host).trans (congrArg Host.Outcome.next (State.silTrigger_misses on running busy)),
    reported.sil, counted, reported.mem⟩

theorem trigCmdFire_ignored (s : State) (m : Master) (ok : s.writeAccess m F.TRIG_CMD.FIRE.addr = .ok)
    (idle : s.rd F.TRIG_CFG.SOURCE ≠ 0 ∨ s.flag F.SIL_CTRL.ENABLE = false ∨ s.noted F.SIL_CTRL.STOP.key = true ∨
      (s.flag F.SIL_CTRL.CAPTURE = true ∧ s.sil.recording = false ∧ s.sil.holdoff = false ∧ s.sil.armed = false)) :
    exec (.trigCmdFire m) s = .next s := by
  by_cases host : s.rd F.TRIG_CFG.SOURCE = 0
  · rw [trigCmdFire_triggers ok host]
    rcases idle with other | off | stopped | ⟨triggered, idle, held, unarmed⟩
    · exact absurd host other
    · rw [State.silTrigger_ignored (.inl off)]
    · rw [State.silTrigger_ignored (.inr stopped)]
    · rw [State.silTrigger_unarmed triggered idle held unarmed]
  · exact congrArg Host.Outcome.next ((s.gate_ok m _ _ ok).trans (if_neg host))

/-! ### TRIG_TIME (R110) -/

theorem sillageTimeTrigger_triggers {s : State} (up : s.power.mainUp = true) (selected : s.rd F.TRIG_CFG.SOURCE = 6)
    (due : s.trigTime ≤ s.now) (first : s.sil.timeDone = false) :
    exec .sillageTimeTrigger s = .next { s with sil := { s.sil with timeDone := true } }.silTrigger :=
  congrArg Host.Outcome.next ((s.onMain_up _ up).trans (if_pos ⟨selected, due, by rw [first, Bool.not_false]⟩))

theorem sillageTimeTrigger_ignored (s : State) (up : s.power.mainUp = true)
    (idle : s.rd F.TRIG_CFG.SOURCE ≠ 6 ∨ s.now < s.trigTime ∨ s.sil.timeDone = true) :
    exec .sillageTimeTrigger s = .next s := by
  refine congrArg Host.Outcome.next ((s.onMain_up _ up).trans (if_neg fun ⟨selected, due, first⟩ => ?_))
  rcases idle with other | early | done
  · exact other selected
  · exact Nat.not_le_of_lt early due
  · rw [done] at first
    exact Bool.false_ne_true first

theorem sillageTimeTrigger_begins (s : State) (up : s.power.mainUp = true) (selected : s.rd F.TRIG_CFG.SOURCE = 6)
    (due : s.trigTime ≤ s.now) (first : s.sil.timeDone = false) (on : s.flag F.SIL_CTRL.ENABLE = true)
    (triggered : s.flag F.SIL_CTRL.CAPTURE = true) (armed : s.sil.armed = true) (idle : s.sil.recording = false)
    (held : s.sil.holdoff = false) (running : s.noted F.SIL_CTRL.STOP.key = false) :
    ∃ t, exec .sillageTimeTrigger s = .next t ∧ t.noted F.TRIG_CMD.FIRE.key = true ∧
      t = { s with
        sil := { s.sil with
          timeDone := true, trig := true, recording := true, postLeft := max 1 (s.rd F.TRIG_WIN.POST_BLK) }
        fresh := t.fresh } :=
  ⟨_, (sillageTimeTrigger_triggers up selected due first).trans (congrArg Host.Outcome.next
    (State.silTrigger_begins (s := { s with sil := { s.sil with timeDone := true } }) on running triggered armed idle held)),
    State.noted_note_same _ _, rfl⟩

/-- Settles O59: a write of SIL_CTRL by its registers (`putSilCtrl`) and by what stops after that, a trigger by the branch of
R111 that it takes. -/
theorem sillageCommandsTakeEffect : Obligations.SillageCommandsTakeEffect := by
  unfold Obligations.SillageCommandsTakeEffect
  refine ⟨silCtrlWrite_sets, ?arms, ?armContinuous, silStop_ends, silStop_revokes, ?stopContinuous, ?marks, trigCmdFire_begins,
    trigCmdFire_misses, trigCmdFire_ignored, sillageTimeTrigger_ignored, sillageTimeTrigger_begins, ?timeMarks, ?holdoff⟩
  case arms =>
    exact fun s m ok triggered => congrArg Host.Outcome.next ((s.gate_ok m _ _ ok).trans (State.silArm_arms triggered))
  case armContinuous =>
    exact fun s m ok continuous => congrArg Host.Outcome.next ((s.gate_ok m _ _ ok).trans (State.silArm_continuous continuous))
  case stopContinuous =>
    exact fun s m ok continuous => congrArg Host.Outcome.next ((s.gate_ok m _ _ ok).trans (State.silStop_continuous continuous))
  case marks =>
    intro s m ok host on continuous unmarked running
    rw [trigCmdFire_triggers ok host, State.silTrigger_marks on running continuous unmarked]
  case timeMarks =>
    intro s up selected due first on continuous unmarked running
    exact (sillageTimeTrigger_triggers up selected due first).trans (congrArg Host.Outcome.next
      (State.silTrigger_marks (s := { s with sil := { s.sil with timeDone := true } }) on running continuous unmarked))
  case holdoff => exact fun s up => congrArg Host.Outcome.next (s.onMain_up _ up)

end Sys2Proof.Machine

namespace Sys2Proof.Machine

/-! ## Writes of the sense registers

### Refusals (R112) -/

theorem State.refuseSense_zero (s : State) (x : Nat) : s.refuseSense x 0 = s := if_pos rfl

theorem State.refuseSense_reports (s : State) (x n : Nat) : Reports s (s.refuseSense x n) := by
  unfold State.refuseSense
  split
  · exact Reports.refl s
  · exact (s.bumpBy_reports _ n).trans (State.raise_reports _ _)

/-- The sense fault and counter words of tile `x`. -/
theorem senseRefused_word (x : Nat) : saturatedSource (F.SENSE_REFUSED_CNT x).addr = Src.FABRIC.SATURATED ∧
    tilesFrom ≤ (F.SENSE_REFUSED_CNT x).addr ∧ (FB.SENSE x).real < (F.SENSE_REFUSED_CNT x).addr := by
  have place : (F.SENSE_REFUSED_CNT x).addr = 0x502090 + 16384 * (x % 76) := rfl
  have tile : tilesFrom ≤ (F.SENSE_REFUSED_CNT x).addr := by
    simp only [tilesFrom]
    omega
  refine ⟨saturatedSource_tile tile (by omega), tile, ?_⟩
  simp only [FB.SENSE]
  omega

/-- Sense writes counted as refused before a sense fault is raised. -/
theorem State.rdW_countSense (s : State) (x n bit : Nat) :
    ((s.bumpBy (F.SENSE_REFUSED_CNT x) n).raise ⟨FB.SENSE x, bit⟩).rdW (F.SENSE_REFUSED_CNT x) =
      min counterMax (s.rdW (F.SENSE_REFUSED_CNT x) + n) := by
  obtain ⟨fabric, tile, above⟩ := senseRefused_word x
  exact s.rdW_bumpBy_raise ⟨FB.SENSE x, bit⟩ fabric rfl (not_raiseWord (not_cascadeWord tile) above.ne')
    (not_raiseWord (not_cascadeWord (tile.trans (Nat.le_add_right _ 4))) (above.trans_le (Nat.le_add_right _ 4)).ne') n

theorem State.rdW_refuseSense (s : State) (x n : Nat) :
    (s.refuseSense x n).rdW (F.SENSE_REFUSED_CNT x) = min counterMax (s.rdW (F.SENSE_REFUSED_CNT x) + n) := by
  unfold State.refuseSense
  split
  · next none =>
    have bound : s.rdW (F.SENSE_REFUSED_CNT x) < 2 ^ 48 := s.rdW_lt (show 32 ≤ 48 by decide)
    rw [none, Nat.add_zero, Nat.min_eq_right (show s.rdW (F.SENSE_REFUSED_CNT x) ≤ counterMax from Nat.le_sub_one_of_lt bound)]
  · exact s.rdW_countSense x n 5

theorem Reports.lv {s t : State} (h : Reports s t) : t.lv = s.lv := by rw [h.same]

/-! ### Held values of LV words (R13, R471) -/

/-- The bits of a row's field are in the mask of its access code. -/
theorem accMask_getLsbD {a : Nat} {r : RegRow} (row : r ∈ rowsAt a) {accs : List Acc} (acc : r.acc ∈ accs) {i : Nat}
    (lo : r.lsb ≤ i) (hi : i < r.lsb + r.width) (word : i < 32) : (accMask a accs).getLsbD i = true := by
  have bits : (BitVec.ofNat 32 ((2 ^ r.width - 1) * 2 ^ r.lsb)).getLsbD i = true := by
    rw [BitVec.getLsbD_ofNat, decide_eq_true word, Nat.testBit_mul_two_pow, decide_eq_true lo, Nat.testBit_two_pow_sub_one,
      decide_eq_true (show i - r.lsb < r.width by omega)]
    rfl
  obtain ⟨before, after, split⟩ := List.append_of_mem row
  rw [accMask, split, List.foldl_append, List.foldl_cons, if_pos (List.contains_iff_mem.mpr acc)]
  refine List.foldlRecOn (motive := fun m : Word => m.getLsbD i = true) after _ ?_ fun m hm r' _ => ?_
  · rw [BitVec.getLsbD_or, bits, Bool.or_true]
  · split_ifs
    · rw [BitVec.getLsbD_or, hm, Bool.true_or]
    · exact hm

theorem mem_rowsAt {a lo hi : Nat} {rows : List RegRow} {r : RegRow} (table : (lo, hi, rows) ∈ regTables)
    (range : lo ≤ a ∧ a ≤ hi) (row : r ∈ rows) (covers : r.covers a = true) : r ∈ rowsAt a := by
  refine List.mem_flatMap.mpr ⟨_, table, ?_⟩
  dsimp only
  rw [if_pos range]
  exact List.mem_filter.mpr ⟨row, covers⟩

theorem senseTable_mem : (0x502000, 0x62E3FC, rows_TILE_R112) ∈ regTables := List.mem_of_getElem? (i := 5) rfl

theorem RegRow.covers_tile {r : RegRow} {a k : Nat} (dims : r.dims = [(16384, 76)]) (hk : k < 76)
    (place : a = r.addr + 16384 * k) : r.covers a = true := by
  simp only [RegRow.covers, dims, hitDims, Bool.and_eq_true, decide_eq_true_eq, beq_iff_eq]
  omega

theorem RegRow.covers_tileArray {r : RegRow} {a k n : Nat} (dims : r.dims = [(16384, 76), (4, 8)]) (hk : k < 76) (hn : n < 8)
    (place : a = r.addr + 16384 * k + 4 * n) : r.covers a = true := by
  simp only [RegRow.covers, dims, hitDims, Bool.and_eq_true, decide_eq_true_eq, beq_iff_eq]
  omega

/-- SCAN_CFG.MODE is an LV field. -/
theorem scanMode_lv (x : Nat) {i : Nat} (hi : i < 2) : (accMask (F.SCAN_CFG.MODE x).addr [.lv]).getLsbD (0 + i) = true := by
  have tile : x % 76 < 76 := Nat.mod_lt _ (by decide)
  have row : ⟨0x502000, [(16384, 76)], 0, 2, .lv, 0, .kept⟩ ∈ rows_TILE_R112 := List.mem_of_getElem? (i := 0) rfl
  have range : 0x502000 ≤ (F.SCAN_CFG.MODE x).addr ∧ (F.SCAN_CFG.MODE x).addr ≤ 0x62E3FC := by
    simp only [F.SCAN_CFG.MODE]
    omega
  exact accMask_getLsbD (mem_rowsAt senseTable_mem range row (RegRow.covers_tile rfl tile rfl)) List.mem_cons_self
    (Nat.le_add_right 0 i) (Nat.add_lt_add_left hi 0) (by omega)

/-- TIA_RANGEn is an LV word. -/
theorem tiaRange_lv (x n : Nat) {i : Nat} (hi : i < 32) :
    (accMask (F.TIA_RANGE.RANGE x n).addr [.lv]).getLsbD (0 + i) = true := by
  have tile : x % 76 < 76 := Nat.mod_lt _ (by decide)
  have place : n % 8 < 8 := Nat.mod_lt _ (by decide)
  have row : ⟨0x502040, [(16384, 76), (4, 8)], 0, 32, .lv, 0, .kept⟩ ∈ rows_TILE_R112 := List.mem_of_getElem? (i := 37) rfl
  have range : 0x502000 ≤ (F.TIA_RANGE.RANGE x n).addr ∧ (F.TIA_RANGE.RANGE x n).addr ≤ 0x62E3FC := by
    simp only [F.TIA_RANGE.RANGE]
    omega
  exact accMask_getLsbD (mem_rowsAt senseTable_mem range row (RegRow.covers_tileArray rfl tile place rfl)) List.mem_cons_self
    (Nat.le_add_right 0 i) (Nat.add_lt_add_left hi 0) (by omega)

theorem lookup_sparseInsert_same {α : Type} (l : List (Nat × α)) (k : Nat) (v : α) : (sparseInsert l k v).lookup k = some v := by
  induction l with
  | nil => exact List.lookup_cons_self
  | cons e rest ih =>
    unfold sparseInsert
    split_ifs with before here
    · exact List.lookup_cons_self
    · exact List.lookup_cons_self
    · rw [List.lookup_cons, beq_false_of_ne (Ne.symm here), ih]

theorem State.lvWord_holdLv (s : State) (a : Nat) (w : Word) :
    (s.holdLv a w).lvWord a = (s.word a &&& ~~~accMask a [.lv]) ||| (w &&& accMask a [.lv]) := by
  unfold State.lvWord
  rw [show (s.holdLv a w).lv.lookup a = some w from lookup_sparseInsert_same s.lv a w]
  rfl

/-- An LV field reads the value held for it. -/
theorem State.bitsOf_lvWord_holdLv (s : State) {a lsb width : Nat} (w : Word)
    (lv : ∀ i, i < width → (accMask a [.lv]).getLsbD (lsb + i) = true) :
    bitsOf ((s.holdLv a w).lvWord a) lsb width = bitsOf w lsb width := by
  refine Nat.eq_of_testBit_eq fun i => ?_
  rw [testBit_bitsOf, testBit_bitsOf, s.lvWord_holdLv]
  by_cases inside : i < width
  · rw [BitVec.testBit_toNat, BitVec.testBit_toNat, BitVec.getLsbD_or, BitVec.getLsbD_and, BitVec.getLsbD_and, BitVec.getLsbD_not,
      lv i inside, Bool.not_true, Bool.and_false, Bool.and_false, Bool.false_or, Bool.and_true]
  · rw [decide_eq_false inside, Bool.false_and, Bool.false_and]

end Sys2Proof.Machine

namespace Sys2Proof.Machine

/-! ### TIA ranges (R86) and the scan mode (R93) -/

/-- The word `old` with the ranges of the photodiodes `l` taken from `w`. -/
def rangesTaken (w old : Word) (l : List Nat) : Word := l.foldl (fun acc i => withBits acc (2 * i) 2 (bitsOf w (2 * i) 2)) old

theorem bitsOf_rangesTaken (w old : Word) {l : List Nat} (inside : ∀ i ∈ l, i < 16) (j : Nat) :
    bitsOf (rangesTaken w old l) (2 * j) 2 = if j ∈ l then bitsOf w (2 * j) 2 else bitsOf old (2 * j) 2 := by
  induction l generalizing old with
  | nil => simp [rangesTaken]
  | cons i rest ih =>
    have fits : 2 * i + 2 ≤ 32 := by
      have := inside i List.mem_cons_self
      omega
    have small : bitsOf w (2 * i) 2 < 2 ^ 2 := Nat.mod_lt _ (by decide)
    have step : rangesTaken w old (i :: rest) = rangesTaken w (withBits old (2 * i) 2 (bitsOf w (2 * i) 2)) rest := rfl
    rw [step, ih _ fun y hy => inside y (List.mem_cons_of_mem _ hy)]
    by_cases later : j ∈ rest
    · rw [if_pos later, if_pos (List.mem_cons_of_mem _ later)]
    · rw [if_neg later]
      by_cases here : j = i
      · rw [if_pos (here ▸ List.mem_cons_self), here, bitsOf_withBits_same _ fits small]
      · rw [if_neg (by simp [here, later]), bitsOf_withBits_disjoint _ _ fits (by omega)]

/-- Two words agree whose sixteen ranges agree. -/
theorem eq_of_ranges {v w : Word} (same : ∀ i, i < 16 → bitsOf v (2 * i) 2 = bitsOf w (2 * i) 2) : v = w := by
  refine BitVec.eq_of_getLsbD_eq fun j hj => ?_
  have pair := congrArg (Nat.testBit · (j % 2)) (same (j / 2) (by omega))
  simp only [testBit_bitsOf, decide_eq_true (Nat.mod_lt j (show 0 < 2 by decide)), Bool.true_and] at pair
  rwa [Nat.div_add_mod, BitVec.testBit_toNat, BitVec.testBit_toNat] at pair

/-- The photodiodes whose ranges a write of TIA_RANGEn would change. -/
def State.rangesDiffering (s : State) (x n : Nat) (w : Word) : List Nat :=
  (List.range 16).filter fun i => bitsOf w (2 * i) 2 != bitsOf (s.lvWord (F.TIA_RANGE.RANGE x n).addr) (2 * i) 2

theorem State.rangesDiffering_lt (s : State) (x n : Nat) (w : Word) : ∀ i ∈ s.rangesDiffering x n w, i < 16 := fun _ hi =>
  List.mem_range.mp (List.mem_of_mem_filter hi)

/-- Their ranges taken, the word is the one written. -/
theorem State.rangesTaken_differing (s : State) (x n : Nat) (w : Word) :
    rangesTaken w (s.lvWord (F.TIA_RANGE.RANGE x n).addr) (s.rangesDiffering x n w) = w := by
  refine eq_of_ranges fun i hi => ?_
  rw [bitsOf_rangesTaken _ _ (s.rangesDiffering_lt x n w)]
  split
  · rfl
  · next same =>
    by_contra differ
    exact same (List.mem_filter.mpr ⟨List.mem_range.mpr hi, bne_iff_ne.mpr (Ne.symm differ)⟩)

/-- Whether a write of TIA_RANGEn is taken at photodiode `i` of its word. -/
def State.rangeTaken (s : State) (m : Master) (x n i : Nat) : Bool :=
  !externalHost m || s.hostMayWrite (loopAt x ((16 * n + i) / 2))

theorem State.writeTiaRange_eq (s : State) (m : Master) (x n : Nat) (w : Word) :
    s.writeTiaRange m x n w =
      (if rangesTaken w (s.lvWord (F.TIA_RANGE.RANGE x n).addr) ((s.rangesDiffering x n w).filter (s.rangeTaken m x n)) =
          s.lvWord (F.TIA_RANGE.RANGE x n).addr then s
        else s.holdLv (F.TIA_RANGE.RANGE x n).addr (rangesTaken w (s.lvWord (F.TIA_RANGE.RANGE x n).addr)
          ((s.rangesDiffering x n w).filter (s.rangeTaken m x n)))).refuseSense x
        ((s.rangesDiffering x n w).filter fun i => !s.rangeTaken m x n i).length := rfl

/-- Where every range may change, the word is held as written. -/
theorem State.writeTiaRange_taken (s : State) (m : Master) (x n : Nat) (w : Word)
    (taken : ∀ i, i < 16 → s.rangeTaken m x n i = true) :
    s.writeTiaRange m x n w =
      if w = s.lvWord (F.TIA_RANGE.RANGE x n).addr then s else s.holdLv (F.TIA_RANGE.RANGE x n).addr w := by
  have all : (s.rangesDiffering x n w).filter (s.rangeTaken m x n) = s.rangesDiffering x n w :=
    List.filter_eq_self.mpr fun i hi => taken i (s.rangesDiffering_lt x n w i hi)
  have none : ((s.rangesDiffering x n w).filter fun i => !s.rangeTaken m x n i) = [] :=
    List.filter_eq_nil_iff.mpr fun i hi => by simp [taken i (s.rangesDiffering_lt x n w i hi)]
  rw [State.writeTiaRange_eq, all, none, s.rangesTaken_differing, List.length_nil, State.refuseSense_zero]

/-- Where none may, each that would change is refused. -/
theorem State.writeTiaRange_refused (s : State) (m : Master) (x n : Nat) (w : Word)
    (barred : ∀ i, i < 16 → s.rangeTaken m x n i = false) :
    s.writeTiaRange m x n w = s.refuseSense x (s.rangesDiffering x n w).length := by
  have none : (s.rangesDiffering x n w).filter (s.rangeTaken m x n) = [] :=
    List.filter_eq_nil_iff.mpr fun i hi => by simp [barred i (s.rangesDiffering_lt x n w i hi)]
  have all : ((s.rangesDiffering x n w).filter fun i => !s.rangeTaken m x n i) = s.rangesDiffering x n w :=
    List.filter_eq_self.mpr fun i hi => by simp [barred i (s.rangesDiffering_lt x n w i hi)]
  rw [State.writeTiaRange_eq, none, all, if_pos]
  rfl

theorem bitsOf_whole (w : Word) : bitsOf w 0 32 = w.toNat := by
  rw [bitsOf, pow_zero, Nat.div_one, Nat.mod_eq_of_lt w.isLt]

theorem State.lvWord_holdLv_range (s : State) (x n : Nat) (w : Word) :
    (s.holdLv (F.TIA_RANGE.RANGE x n).addr w).lvWord (F.TIA_RANGE.RANGE x n).addr = w := by
  have whole := s.bitsOf_lvWord_holdLv w fun i => tiaRange_lv x n (i := i)
  rw [bitsOf_whole, bitsOf_whole] at whole
  exact BitVec.eq_of_toNat_eq whole

theorem tiaRangeWrite_held (s : State) (m : Master) (x : Fin 76) (n : Fin 8) (w : Word)
    (ok : s.writeAccess m (F.TIA_RANGE.RANGE x n).addr = .ok) (linked : s.linkUp x = true)
    (allowed : ∀ i, i < 16 → externalHost m = false ∨ s.hostMayWrite (loopAt x ((16 * n + i) / 2)) = true) :
    ∃ t, exec (.tiaRangeWrite m x n w) s = .next t ∧ t.lvWord (F.TIA_RANGE.RANGE x n).addr = w ∧ t.regs = s.regs ∧
      t.tiles = s.tiles ∧ t.mem = s.mem ∧ t.outbox = s.outbox := by
  have taken : ∀ i, i < 16 → s.rangeTaken m x n i = true := by
    intro i hi
    rcases allowed i hi with unit | host
    · rw [State.rangeTaken, unit]
      rfl
    · rw [State.rangeTaken, host, Bool.or_true]
  refine ⟨_, congrArg Host.Outcome.next ((s.gateTile_ok m x _ _ ok linked).trans (s.writeTiaRange_taken m x n w taken)), ?_⟩
  split
  · next same => exact ⟨same.symm, rfl, rfl, rfl, rfl⟩
  · exact ⟨s.lvWord_holdLv_range x n w, rfl, rfl, rfl, rfl⟩

theorem tiaRangeWrite_refused (s : State) (m : Master) (x : Fin 76) (n : Fin 8) (w : Word)
    (ok : s.writeAccess m (F.TIA_RANGE.RANGE x n).addr = .ok) (linked : s.linkUp x = true) (host : externalHost m = true)
    (barred : ∀ i, i < 16 → s.hostMayWrite (loopAt x ((16 * n + i) / 2)) = false) :
    ∃ t, exec (.tiaRangeWrite m x n w) s = .next t ∧ t.lv = s.lv ∧ t.tiles = s.tiles ∧ t.mem = s.mem ∧
      t.rdW (F.SENSE_REFUSED_CNT x) = min counterMax (s.rdW (F.SENSE_REFUSED_CNT x) + ((List.range 16).filter fun i =>
        bitsOf w (2 * i) 2 != bitsOf (s.lvWord (F.TIA_RANGE.RANGE x n).addr) (2 * i) 2).length) := by
  have refused := s.writeTiaRange_refused m x n w fun i hi => by rw [State.rangeTaken, host, barred i hi]; rfl
  have reported := s.refuseSense_reports x (s.rangesDiffering x n w).length
  exact ⟨_, congrArg Host.Outcome.next ((s.gateTile_ok m x _ _ ok linked).trans refused), reported.lv, reported.tiles,
    reported.mem, s.rdW_refuseSense x _⟩

theorem scanCfgWrite_held (s : State) (m : Master) (x : Fin 76) (w : Word)
    (ok : s.writeAccess m (F.SCAN_CFG.MODE x).addr = .ok) (linked : s.linkUp x = true) :
    ∃ t, exec (.scanCfgWrite m x w) s = .next t ∧ t.tiles = s.tiles ∧ t.mem = s.mem ∧
      (bitsOf w 0 2 < 2 → bitsOf (t.lvWord (F.SCAN_CFG.MODE x).addr) 0 2 = bitsOf w 0 2 ∧ t.regs = s.regs) ∧
      (2 ≤ bitsOf w 0 2 → t.lv = s.lv ∧
        Counted (F.SENSE_REFUSED_CNT x) s t) := by
  have written : exec (.scanCfgWrite m x w) s = .next (s.writeScanCfg x w) :=
    congrArg Host.Outcome.next (s.gateTile_ok m x _ _ ok linked)
  by_cases reserved : 2 ≤ bitsOf w 0 2
  · have refused : s.writeScanCfg x w = s.refuseSense x 1 := if_pos reserved
    have reported := s.refuseSense_reports x 1
    exact ⟨_, written.trans (congrArg _ refused), reported.tiles, reported.mem, fun mode => absurd reserved (Nat.not_le_of_lt mode),
      fun _ => ⟨reported.lv, s.rdW_refuseSense x 1⟩⟩
  · have held : s.writeScanCfg x w = s.holdLv (F.SCAN_CFG.MODE x).addr (withBits 0 0 2 (bitsOf w 0 2)) := if_neg reserved
    refine ⟨_, written.trans (congrArg _ held), rfl, rfl, fun mode => ⟨?_, rfl⟩, fun mode => absurd mode reserved⟩
    rw [s.bitsOf_lvWord_holdLv _ fun i => scanMode_lv x (i := i)]
    exact bitsOf_withBits_same _ (by decide) (mode.trans (by decide))

end Sys2Proof.Machine

namespace Sys2Proof.Machine

/-! ### Focus (R94, R95) -/

/-- The command bit of a written word leaves the fields below it. -/
theorem bitsOf_or_top (w : Word) {lsb width : Nat} (below : lsb + width ≤ 31) :
    bitsOf (w ||| 0x80000000#32) lsb width = bitsOf w lsb width := by
  refine Nat.eq_of_testBit_eq fun i => ?_
  rw [testBit_bitsOf, testBit_bitsOf]
  by_cases inside : i < width
  · have clear : Nat.testBit 0x80000000 (lsb + i) = false := Nat.testBit_two_pow_of_ne (n := 31) (by omega)
    rw [BitVec.toNat_or, Nat.testBit_or, BitVec.toNat_ofNat, show 0x80000000 % 2 ^ 32 = 0x80000000 from rfl, clear, Bool.or_false]
  · rw [decide_eq_false inside, Bool.false_and, Bool.false_and]

theorem getLsbD_or_top (w : Word) : (w ||| 0x80000000#32).getLsbD 31 = true := by
  rw [BitVec.getLsbD_or]
  exact Bool.or_true _

/-- PD, LEN and RING as a write of FOCUS_CFG lands them. -/
def State.putFocus (s : State) (x : Nat) (w : Word) : State :=
  ((s.wr (F.FOCUS_CFG.PD x) (bitsOf w 0 7)).wr (F.FOCUS_CFG.LEN x) (bitsOf w 8 7)).wr (F.FOCUS_CFG.RING x) (bitsOf w 16 3)

theorem State.word_putFocus_other (s : State) {x a : Nat} (w : Word) (other : a ≠ (F.FOCUS_CFG.PD x).addr) :
    (s.putFocus x w).word a = s.word a := by
  rw [State.putFocus, State.word_wr_other _ (F.FOCUS_CFG.RING x) _ _ other, State.word_wr_other _ (F.FOCUS_CFG.LEN x) _ _ other,
    State.word_wr_other _ (F.FOCUS_CFG.PD x) _ _ other]

theorem State.putFocus_aside (s : State) (x : Nat) (w : Word) : (s.putFocus x w).tiles = s.tiles ∧
    (s.putFocus x w).mem = s.mem ∧ (s.putFocus x w).outbox = s.outbox := by
  rw [State.putFocus]
  refine ⟨?_, ?_, ?_⟩
  · rw [State.wr_tiles, State.wr_tiles, State.wr_tiles]
  · rw [State.wr_mem, State.wr_mem, State.wr_mem]
  · rw [State.wr_outbox, State.wr_outbox, State.wr_outbox]

theorem State.tile_putFocus (s : State) (x y : Nat) (w : Word) : (s.putFocus x w).tile y = s.tile y := by
  rw [State.tile, (s.putFocus_aside x w).1, State.tile]

theorem State.word_setTile (s : State) (x : Nat) (y : Tile) (a : Nat) : (s.setTile x y).word a = s.word a := rfl

theorem State.focusRing_putFocus (s : State) (x r : Nat) (w : Word) : (s.putFocus x w).focusRing r = s.focusRing r := by
  have apart : (F.SILLAGE_RING_CFG.ENABLE r).addr ≠ (F.FOCUS_CFG.PD x).addr := by
    simp only [F.SILLAGE_RING_CFG.ENABLE, F.FOCUS_CFG.PD]
    omega
  have word := s.word_putFocus_other w apart
  have enabled : (s.putFocus x w).flag (F.SILLAGE_RING_CFG.ENABLE r) = s.flag (F.SILLAGE_RING_CFG.ENABLE r) :=
    congrArg (bitsOf · _ _ == 1) word
  have source : (s.putFocus x w).rd (F.SILLAGE_RING_CFG.SOURCE r) = s.rd (F.SILLAGE_RING_CFG.SOURCE r) :=
    congrArg (bitsOf · _ _) word
  rw [State.focusRing, enabled, source, State.focusRing]

/-- What refuses the START that a write of FOCUS_CFG names, in the state it meets. -/
theorem State.focusRefused_putFocus (s : State) (x : Nat) (w : Word) :
    (s.putFocus x w).focusRefused x = ((s.tile x).focus.isSome || !s.focusRing (bitsOf w 16 3) ||
      s.tiles.any fun e => e.1 != x && e.2.focus.any fun f => f.id.ring == bitsOf w 16 3) := by
  have ring : (s.putFocus x w).rd (F.FOCUS_CFG.RING x) = bitsOf w 16 3 :=
    State.rd_wr_same _ (F.FOCUS_CFG.RING x) (show 16 + 3 ≤ 32 by decide) (Nat.mod_lt _ (by decide))
  rw [State.focusRefused, ring, s.tile_putFocus, s.focusRing_putFocus, (s.putFocus_aside x w).1]

/-- The tile of an accepted START. -/
def Tile.focusStarted (y : Tile) (w : Word) : Tile :=
  { y with focusNum := y.focusNum + 1, focus := some ⟨⟨y.focusNum, bitsOf w 0 7, bitsOf w 16 3⟩, bitsOf w 8 7, false⟩ }

theorem State.writeFocus_start (s : State) (x : Nat) (w : Word) :
    s.writeFocus x (w ||| 0x80000000#32) = if (s.putFocus x w).focusRefused x then (s.putFocus x w).refuseSense x 1
      else (s.putFocus x w).setTile x ((s.tile x).focusStarted w) := by
  have start : ¬ (!(w ||| 0x80000000#32).getLsbD 31) = true := by
    rw [getLsbD_or_top]
    decide
  have fields : bitsOf (w ||| 0x80000000#32) 0 7 = bitsOf w 0 7 ∧ bitsOf (w ||| 0x80000000#32) 8 7 = bitsOf w 8 7 ∧
      bitsOf (w ||| 0x80000000#32) 16 3 = bitsOf w 16 3 :=
    ⟨bitsOf_or_top w (by decide), bitsOf_or_top w (by decide), bitsOf_or_top w (by decide)⟩
  obtain ⟨pd, len, ring⟩ := fields
  rw [← s.tile_putFocus x x w, State.writeFocus, if_neg start, pd, len, ring]
  rfl

theorem focusStart_starts (s : State) (m : Master) (x : Fin 76) (w : Word)
    (ok : s.writeAccess m (F.FOCUS_CFG.PD x).addr = .ok) (linked : s.linkUp x = true) (free : (s.tile x).focus = none)
    (ring : s.focusRing (bitsOf w 16 3) = true)
    (alone : ∀ e ∈ s.tiles, e.1 ≠ x.val → ∀ f, e.2.focus = some f → f.id.ring ≠ bitsOf w 16 3) :
    ∃ t, exec (.focusStart m x w) s = .next t ∧
      (t.tile x).focus = some ⟨⟨(s.tile x).focusNum, bitsOf w 0 7, bitsOf w 16 3⟩, bitsOf w 8 7, false⟩ ∧
      (∀ a, a ≠ (F.FOCUS_CFG.PD x).addr → t.word a = s.word a) ∧ t.mem = s.mem ∧ t.outbox = s.outbox := by
  have shared : (s.tiles.any fun e => e.1 != x.val && e.2.focus.any fun f => f.id.ring == bitsOf w 16 3) = false := by
    refine List.any_eq_false.mpr fun e he => ?_
    cases focus : e.2.focus with
    | none => simp
    | some f =>
      by_cases here : e.1 = x.val
      · simp [here]
      · simp [alone e he here f focus]
  have accepted : ¬ (s.putFocus x w).focusRefused x = true := by
    rw [s.focusRefused_putFocus, free, ring, shared]
    decide
  obtain ⟨_, mem, outbox⟩ := s.putFocus_aside x w
  refine ⟨_, congrArg Host.Outcome.next (((s.gateTile_ok m x _ _ ok linked).trans (s.writeFocus_start x w)).trans
    (if_neg accepted)), ?_, fun a other => ?_, ?_, ?_⟩
  · rw [State.tile_setTile_same]
    rfl
  · rw [State.word_setTile, s.word_putFocus_other w other]
  · rw [State.setTile_mem, mem]
  · rw [State.setTile_outbox, outbox]

theorem focusStart_refused (s : State) (m : Master) (x : Fin 76) (w : Word)
    (ok : s.writeAccess m (F.FOCUS_CFG.PD x).addr = .ok) (linked : s.linkUp x = true)
    (barred : (s.tile x).focus.isSome = true ∨ s.focusRing (bitsOf w 16 3) = false ∨
      ∃ e ∈ s.tiles, e.1 ≠ x.val ∧ ∃ f, e.2.focus = some f ∧ f.id.ring = bitsOf w 16 3) :
    ∃ t, exec (.focusStart m x w) s = .next t ∧ t.tiles = s.tiles ∧
      Counted (F.SENSE_REFUSED_CNT x) s t ∧ t.mem = s.mem := by
  have refused : (s.putFocus x w).focusRefused x = true := by
    rw [s.focusRefused_putFocus]
    rcases barred with runs | none | ⟨e, he, other, f, focus, same⟩
    · rw [runs, Bool.true_or, Bool.true_or]
    · rw [none, Bool.not_false, Bool.or_true, Bool.true_or]
    · rw [List.any_eq_true.mpr ⟨e, he, by simp [other, focus, same]⟩, Bool.or_true]
  have reported := (s.putFocus x w).refuseSense_reports x 1
  obtain ⟨tiles, mem, _⟩ := s.putFocus_aside x w
  have counter : (s.putFocus x w).rdW (F.SENSE_REFUSED_CNT x) = s.rdW (F.SENSE_REFUSED_CNT x) :=
    State.rdW_congr (s.word_putFocus_other w (by simp only [F.SENSE_REFUSED_CNT, F.FOCUS_CFG.PD]; omega))
      (s.word_putFocus_other w (by simp only [F.SENSE_REFUSED_CNT, F.FOCUS_CFG.PD]; omega))
  refine ⟨_, congrArg Host.Outcome.next (((s.gateTile_ok m x _ _ ok linked).trans (s.writeFocus_start x w)).trans
    (if_pos refused)), reported.tiles.trans tiles, ?_, reported.mem.trans mem⟩
  rw [Counted, State.rdW_refuseSense, counter]

theorem focusEnd_ends (s : State) (x : Fin 76) (f : Focus) (up : s.power.mainUp = true) (focus : (s.tile x).focus = some f)
    (running : f.running = true) (done : f.left = 0) :
    exec (.focusEnd x) s = .next (s.setTile x { s.tile x with focus := none }) := by
  refine congrArg Host.Outcome.next ((s.onMain_up _ up).trans ?_)
  simp [State.focusEnd, focus, running, done]

theorem focusEnd_waits (s : State) (x : Fin 76) (up : s.power.mainUp = true)
    (unfinished : ∀ f, (s.tile x).focus = some f → f.running = false ∨ f.left ≠ 0) : exec (.focusEnd x) s = .next s := by
  refine congrArg Host.Outcome.next ((s.onMain_up _ up).trans ?_)
  cases focus : (s.tile x).focus with
  | none => simp [State.focusEnd, focus]
  | some f =>
    rcases unfinished f focus with waiting | more
    · simp [State.focusEnd, focus, waiting]
    · simp [State.focusEnd, focus, more]

end Sys2Proof.Machine

namespace Sys2Proof.Machine

/-! ### Diagnosis (R96–R98) -/

/-- PD, MODE, REPEAT and CODE as a write of DIAG_CMD lands them. -/
def State.putDiag (s : State) (x : Nat) (w : Word) : State :=
  (((s.wr (F.DIAG_CMD.PD x) (bitsOf w 0 7)).wr (F.DIAG_CMD.MODE x) (bitsOf w 8 2)).wr (F.DIAG_CMD.REPEAT x) (bitsOf w 10 4)).wr
    (F.DIAG_CMD.CODE x) (bitsOf w 16 10)

theorem State.putDiag_aside (s : State) (x : Nat) (w : Word) : (s.putDiag x w).tiles = s.tiles ∧
    (s.putDiag x w).mem = s.mem ∧ (s.putDiag x w).outbox = s.outbox ∧ (s.putDiag x w).free = s.free := by
  rw [State.putDiag]
  refine ⟨?_, ?_, ?_, ?_⟩
  · rw [State.wr_tiles, State.wr_tiles, State.wr_tiles, State.wr_tiles]
  · rw [State.wr_mem, State.wr_mem, State.wr_mem, State.wr_mem]
  · rw [State.wr_outbox, State.wr_outbox, State.wr_outbox, State.wr_outbox]
  · rw [State.wr_free, State.wr_free, State.wr_free, State.wr_free]

theorem State.writeDiag_refused {s : State} {x : Nat} {w : Word} (busy : s.diagBusy x = true) :
    s.writeDiag x w = s.refuseSense x 1 := if_pos busy

/-- GO of a diagnosis while none runs. -/
theorem State.writeDiag_go {s : State} {x : Nat} {w : Word} (free : s.diagBusy x = false) :
    s.writeDiag x (w ||| 0x80000000#32) =
      if bitsOf w 10 4 = 0 then (s.putDiag x w).endDiag x (bitsOf w 8 2) (bitsOf w 16 10) []
      else ((s.putDiag x w).setFlag (F.DIAG_RESULT.BUSY x) true).setTile x { (s.putDiag x w).tile x with
        diag := some ⟨bitsOf w 0 7, bitsOf w 8 2, bitsOf w 16 10, diagConversions (bitsOf w 8 2) (bitsOf w 10 4), []⟩ } := by
  have go : ¬ (!(w ||| 0x80000000#32).getLsbD 31) = true := by
    rw [getLsbD_or_top]
    decide
  have pd : bitsOf (w ||| 0x80000000#32) 0 7 = bitsOf w 0 7 := bitsOf_or_top w (by decide)
  have mode : bitsOf (w ||| 0x80000000#32) 8 2 = bitsOf w 8 2 := bitsOf_or_top w (by decide)
  have times : bitsOf (w ||| 0x80000000#32) 10 4 = bitsOf w 10 4 := bitsOf_or_top w (by decide)
  have code : bitsOf (w ||| 0x80000000#32) 16 10 = bitsOf w 16 10 := bitsOf_or_top w (by decide)
  rw [State.writeDiag, if_neg (Bool.eq_false_iff.mp free), pd, mode, times, code]
  exact if_neg go

theorem diagCmdGo_starts (s : State) (m : Master) (x : Fin 76) (w : Word) (ok : s.writeAccess m (F.DIAG_CMD.PD x).addr = .ok)
    (linked : s.linkUp x = true) (free : s.diagBusy x = false) (times : bitsOf w 10 4 ≠ 0) :
    ∃ t, exec (.diagCmdGo m x w) s = .next t ∧ (t.tile x).diag = some ⟨bitsOf w 0 7, bitsOf w 8 2, bitsOf w 16 10,
        diagConversions (bitsOf w 8 2) (bitsOf w 10 4), []⟩ ∧
      t.flag (F.DIAG_RESULT.BUSY x) = true ∧ t.mem = s.mem ∧ t.outbox = s.outbox := by
  obtain ⟨_, mem, outbox, _⟩ := s.putDiag_aside x w
  refine ⟨_, congrArg Host.Outcome.next (((s.gateTile_ok m x _ _ ok linked).trans (State.writeDiag_go free)).trans
    (if_neg times)), ?_, ?_, ?_, ?_⟩
  · rw [State.tile_setTile_same]
  · rw [State.flag, State.rd, State.word_setTile]
    exact State.flag_setFlag_same _ true (show 25 + 1 ≤ 32 by decide) rfl
  · rw [State.setTile_mem, State.setFlag_mem, mem]
  · rw [State.setTile_outbox, State.setFlag_outbox, outbox]

/-- The diagnosis of tile `x` is over. -/
def State.diagOver (s : State) (x : Nat) : State :=
  ((s.setTile x { s.tile x with diag := none }).setFlag (F.DIAG_RESULT.BUSY x) false).setEvent (F.DIAG_RESULT.DONE x)

theorem State.flag_setEvent_apart (s : State) {f g : Field} (fits : f.lsb + f.width ≤ 32) (apart : f.Apart g) :
    (s.setEvent f).flag g = s.flag g := s.flag_setFlag_apart true fits apart

theorem State.diagOver_flags (s : State) (x : Nat) : (s.diagOver x).flag (F.DIAG_RESULT.DONE x) = true ∧
    (s.diagOver x).flag (F.DIAG_RESULT.BUSY x) = false := by
  have apart : (F.DIAG_RESULT.DONE x).Apart (F.DIAG_RESULT.BUSY x) := .inr (.inl (show 24 + 1 ≤ 25 by decide))
  refine ⟨State.flag_setEvent_same _ (show 24 + 1 ≤ 32 by decide) rfl, ?_⟩
  rw [State.diagOver, State.flag_setEvent_apart _ (show 24 + 1 ≤ 32 by decide) apart]
  exact State.flag_setFlag_same _ false (show 25 + 1 ≤ 32 by decide) rfl

theorem State.diagOver_aside (s : State) (x : Nat) : ((s.diagOver x).tile x).diag = none ∧
    (s.diagOver x).mem = s.mem ∧ (s.diagOver x).outbox = s.outbox ∧ (s.diagOver x).free = s.free := by
  rw [State.diagOver]
  refine ⟨?_, ?_, ?_, ?_⟩
  · rw [State.tile, State.setEvent_tiles, State.setFlag_tiles]
    exact congrArg Tile.diag (s.tile_setTile_same x _)
  · rw [State.setEvent_mem, State.setFlag_mem, State.setTile_mem]
  · rw [State.setEvent_outbox, State.setFlag_outbox, State.setTile_outbox]
  · rw [State.setEvent_free, State.setFlag_free, State.setTile_free]

/-- A diagnosis of no conversions has no individual results: MEAN and SPREAD are free values. -/
theorem State.endDiag_empty (s : State) (x mode code : Nat) : ∃ mean spread, s.endDiag x mode code [] =
    (((s.diagOver x).freshValue.2.freshValue.2).wr (F.DIAG_RESULT.MEAN x) mean).wr (F.DIAG_SPREAD.SPREAD x) spread := by
  have none : diagValues mode [] = [] := by
    unfold diagValues
    split <;> rfl
  refine ⟨(s.diagOver x).freshValue.1.toNat, (s.diagOver x).freshValue.2.freshValue.1.toNat, ?_⟩
  rw [State.endDiag, none]
  exact if_pos rfl

/-- The results of a diagnosis lie beside its flags. -/
theorem State.flag_putResults (s : State) {x : Nat} (mean spread : Nat) {f : Field}
    (here : f.addr = (F.DIAG_RESULT.MEAN x).addr) (above : 18 ≤ f.lsb) :
    ((s.wr (F.DIAG_RESULT.MEAN x) mean).wr (F.DIAG_SPREAD.SPREAD x) spread).flag f = s.flag f := by
  have elsewhere : (F.DIAG_SPREAD.SPREAD x).addr ≠ f.addr := by
    rw [here]
    simp only [F.DIAG_SPREAD.SPREAD, F.DIAG_RESULT.MEAN]
    omega
  have beside : (F.DIAG_RESULT.MEAN x).Apart f := .inr (.inl above)
  rw [State.flag, State.rd_wr_disjoint _ _ (show 0 + 17 ≤ 32 by decide) (.inl elsewhere),
    State.rd_wr_disjoint _ _ (show 0 + 18 ≤ 32 by decide) beside, State.flag]

theorem State.freshValue_aside (s : State) : s.freshValue.2.regs = s.regs ∧ s.freshValue.2.tiles = s.tiles ∧
    s.freshValue.2.mem = s.mem ∧ s.freshValue.2.outbox = s.outbox ∧ s.freshValue.2.free = s.free + 1 :=
  ⟨rfl, rfl, rfl, rfl, rfl⟩

theorem diagCmdGo_empty (s : State) (m : Master) (x : Fin 76) (w : Word) (ok : s.writeAccess m (F.DIAG_CMD.PD x).addr = .ok)
    (linked : s.linkUp x = true) (free : s.diagBusy x = false) (times : bitsOf w 10 4 = 0) :
    ∃ t, exec (.diagCmdGo m x w) s = .next t ∧ (t.tile x).diag = none ∧ t.flag (F.DIAG_RESULT.DONE x) = true ∧
      t.flag (F.DIAG_RESULT.BUSY x) = false ∧ t.free = s.free + 2 ∧ t.mem = s.mem ∧ t.outbox = s.outbox := by
  obtain ⟨_, mem, outbox, drawn⟩ := s.putDiag_aside x w
  obtain ⟨mean, spread, ended⟩ := (s.putDiag x w).endDiag_empty x (bitsOf w 8 2) (bitsOf w 16 10)
  obtain ⟨overDone, overBusy⟩ := (s.putDiag x w).diagOver_flags x
  obtain ⟨overDiag, overMem, overOutbox, overFree⟩ := (s.putDiag x w).diagOver_aside x
  generalize (s.putDiag x w).diagOver x = u at ended overDone overBusy overDiag overMem overOutbox overFree
  obtain ⟨regs₁, tiles₁, mem₁, outbox₁, free₁⟩ := u.freshValue_aside
  obtain ⟨regs₂, tiles₂, mem₂, outbox₂, free₂⟩ := u.freshValue.2.freshValue_aside
  generalize u.freshValue.2.freshValue.2 = v at ended regs₂ tiles₂ mem₂ outbox₂ free₂
  have kept (f : Field) : v.flag f = u.flag f := congrArg (· == 1) (State.rd_of_regs (regs₂.trans regs₁) f)
  refine ⟨_, congrArg Host.Outcome.next (((s.gateTile_ok m x _ _ ok linked).trans (State.writeDiag_go free)).trans
    ((if_pos times).trans ended)), ?_, ?_, ?_, ?_, ?_, ?_⟩
  · rw [State.tile_wr, State.tile_wr, State.tile, tiles₂, tiles₁]
    exact overDiag
  · rw [v.flag_putResults mean spread (f := F.DIAG_RESULT.DONE x) rfl (show 18 ≤ 24 by decide), kept, overDone]
  · rw [v.flag_putResults mean spread (f := F.DIAG_RESULT.BUSY x) rfl (show 18 ≤ 25 by decide), kept, overBusy]
  · rw [State.wr_free, State.wr_free, free₂, free₁, overFree, drawn]
  · rw [State.wr_mem, State.wr_mem, mem₂, mem₁, overMem, mem]
  · rw [State.wr_outbox, State.wr_outbox, outbox₂, outbox₁, overOutbox, outbox]

theorem diagCmdGo_refused (s : State) (m : Master) (x : Fin 76) (w : Word) (ok : s.writeAccess m (F.DIAG_CMD.PD x).addr = .ok)
    (linked : s.linkUp x = true) (busy : s.diagBusy x = true) :
    ∃ t, exec (.diagCmdGo m x w) s = .next t ∧ t.tiles = s.tiles ∧
      Counted (F.SENSE_REFUSED_CNT x) s t ∧ t.mem = s.mem := by
  have reported := s.refuseSense_reports x 1
  exact ⟨_, congrArg Host.Outcome.next ((s.gateTile_ok m x _ _ ok linked).trans (State.writeDiag_refused busy)), reported.tiles,
    s.rdW_refuseSense x 1, reported.mem⟩

/-! ### FAST_CFG (R104) -/

theorem fastCfgWrite_lands (s : State) (m : Master) (x : Fin 76) (w : Word)
    (ok : s.writeAccess m (F.FAST_CFG.BUS_A_PD x).addr = .ok) (linked : s.linkUp x = true)
    (busA : w.getLsbD 7 = true → s.busTaken x 0 = false) (busB : w.getLsbD 15 = true → s.busTaken x 1 = false) :
    exec (.fastCfgWrite m x w) s = .next (s.setWord (F.FAST_CFG.BUS_A_PD x).addr (w &&& 0x1FFFF#32)) := by
  refine congrArg Host.Outcome.next ((s.gateTile_ok m x _ _ ok linked).trans (if_neg ?_))
  rw [Bool.or_eq_true, Bool.and_eq_true, Bool.and_eq_true]
  rintro (⟨drives, taken⟩ | ⟨drives, taken⟩)
  · exact Bool.eq_false_iff.mp (busA drives) taken
  · exact Bool.eq_false_iff.mp (busB drives) taken

/-- A bus keeps its one driver, and the conflict is reported. -/
theorem fastCfgWrite_conflicts (s : State) (m : Master) (x : Fin 76) (w : Word)
    (ok : s.writeAccess m (F.FAST_CFG.BUS_A_PD x).addr = .ok) (linked : s.linkUp x = true) (vin : s.power.vin = true)
    (up : s.power.mainUp = true)
    (second : (w.getLsbD 7 = true ∧ s.busTaken x 0 = true) ∨ (w.getLsbD 15 = true ∧ s.busTaken x 1 = true)) :
    ∃ t, exec (.fastCfgWrite m x w) s = .next t ∧
      t.word (F.FAST_CFG.BUS_A_PD x).addr = s.word (F.FAST_CFG.BUS_A_PD x).addr ∧
      t.flag (Src.SENSE.FAST_CONFLICT x).real = true ∧ t.tiles = s.tiles ∧ t.mem = s.mem := by
  have conflict : s.writeFastCfg x w = (s.bump (F.SENSE_REFUSED_CNT x)).raise (Src.SENSE.FAST_CONFLICT x) := by
    refine if_pos ?_
    rwa [Bool.or_eq_true, Bool.and_eq_true, Bool.and_eq_true]
  have counted := s.bump_reports (F.SENSE_REFUSED_CNT x)
  have reported := counted.trans ((s.bump (F.SENSE_REFUSED_CNT x)).raise_reports (Src.SENSE.FAST_CONFLICT x))
  have tile : tilesFrom ≤ (F.FAST_CFG.BUS_A_PD x).addr := by
    simp only [F.FAST_CFG.BUS_A_PD, tilesFrom]
    omega
  have raised : ∀ src ∈ [Src.SENSE.FAST_CONFLICT x], (F.FAST_CFG.BUS_A_PD x).addr ≠ src.block.real := by
    intro src hsrc
    rw [List.mem_singleton.mp hsrc]
    simp only [F.FAST_CFG.BUS_A_PD, Src.SENSE.FAST_CONFLICT, FB.SENSE]
    omega
  refine ⟨_, congrArg Host.Outcome.next ((s.gateTile_ok m x _ _ ok linked).trans conflict), ?_, ?_, reported.tiles, reported.mem⟩
  · rw [State.raise, State.word_raiseAll_tile _ _ _ tile raised, State.word_bump_tile _ _ tile]
    · simp only [F.FAST_CFG.BUS_A_PD, F.SENSE_REFUSED_CNT]
      omega
    · simp only [F.FAST_CFG.BUS_A_PD, F.SENSE_REFUSED_CNT]
      omega
  · exact State.flag_raise_tile _ _ (senseReal_tile x) (show 4 < 32 by decide)
      (State.srcPowered_of_up _ _ (counted.power ▸ vin) (counted.power ▸ up))

theorem senseWrites_linkDown (s : State) (m : Master) (x : Fin 76) (n : Fin 8) (w : Word) (down : s.linkUp x = false) :
    (s.writeAccess m (F.TIA_RANGE.RANGE x n).addr = .ok → exec (.tiaRangeWrite m x n w) s = .next s) ∧
    (s.writeAccess m (F.SCAN_CFG.MODE x).addr = .ok → exec (.scanCfgWrite m x w) s = .next s) ∧
    (s.writeAccess m (F.FOCUS_CFG.PD x).addr = .ok → exec (.focusStart m x w) s = .next s) ∧
    (s.writeAccess m (F.DIAG_CMD.PD x).addr = .ok → exec (.diagCmdGo m x w) s = .next s) ∧
    (s.writeAccess m (F.FAST_CFG.BUS_A_PD x).addr = .ok → exec (.fastCfgWrite m x w) s = .next s) :=
  ⟨fun ok => congrArg Host.Outcome.next (s.gateTile_down m x _ _ ok down),
    fun ok => congrArg Host.Outcome.next (s.gateTile_down m x _ _ ok down),
    fun ok => congrArg Host.Outcome.next (s.gateTile_down m x _ _ ok down),
    fun ok => congrArg Host.Outcome.next (s.gateTile_down m x _ _ ok down),
    fun ok => congrArg Host.Outcome.next (s.gateTile_down m x _ _ ok down)⟩

/-- Settles O47: each write over a link that is up by what it holds, lands or refuses, one over a link that is down by its
gate. -/
theorem senseWritesTakeEffectOrRefuse : Obligations.SenseWritesTakeEffectOrRefuse := by
  unfold Obligations.SenseWritesTakeEffectOrRefuse
  exact ⟨tiaRangeWrite_held, tiaRangeWrite_refused, scanCfgWrite_held, focusStart_starts, focusStart_refused, focusEnd_ends,
    focusEnd_waits, diagCmdGo_starts, diagCmdGo_empty, diagCmdGo_refused, fastCfgWrite_lands, senseWrites_linkDown,
    fastCfgWrite_conflicts⟩

end Sys2Proof.Machine

namespace Sys2Proof.Machine

/-! ## Scans and conversions

### What a tile keeps of its scan

A load strobe, a read-back, a clip note and a diagnosis change other parts of their tile. -/

/-- The part of a tile that its scans write: records and frame on their way, strobes, the read-back rotation. -/
structure ScanPart where
  recs : List (Nat × Record)
  onWay : BitVec 64
  frame : Option (List Byte)
  strobes : Nat
  sinceStrobe : Option Int
  rbNext : Nat

def Tile.scan (y : Tile) : ScanPart := ⟨y.recs, y.onWay, y.frame, y.strobes, y.sinceStrobe, y.rbNext⟩

def State.scan (s : State) (x : Nat) : ScanPart := (s.tile x).scan

theorem State.scan_of_tiles {s t : State} (same : t.tiles = s.tiles) (x : Nat) : t.scan x = s.scan x :=
  congrArg (fun l => (sparseGet (fun _ => tileIdle) l x).scan) same

theorem Reports.scan {s t : State} (h : Reports s t) (x : Nat) : t.scan x = s.scan x := State.scan_of_tiles h.tiles x

section
variable {t : State} {x : Nat} {p : ScanPart} (h : t.scan x = p)
include h

theorem State.recs_of_scan : (t.tile x).recs = p.recs := congrArg ScanPart.recs h
theorem State.onWay_of_scan : (t.tile x).onWay = p.onWay := congrArg ScanPart.onWay h
theorem State.frame_of_scan : (t.tile x).frame = p.frame := congrArg ScanPart.frame h
theorem State.strobes_of_scan : (t.tile x).strobes = p.strobes := congrArg ScanPart.strobes h
theorem State.sinceStrobe_of_scan : (t.tile x).sinceStrobe = p.sinceStrobe := congrArg ScanPart.sinceStrobe h
theorem State.rbNext_of_scan : (t.tile x).rbNext = p.rbNext := congrArg ScanPart.rbNext h

end

theorem State.scan_put (s : State) (x : Nat) (y : Tile) : (s.setTile x y).scan x = y.scan := by
  rw [State.scan, State.tile_setTile_same]

section
variable (s : State) (x : Nat)

variable {s x} in
/-- An update of a tile beside its scan. -/
theorem State.scan_setTile {y : Tile} {p : ScanPart} (h : s.scan x = p) (beside : y.scan = s.scan x := by rfl) :
    (s.setTile x y).scan x = p := (s.scan_put x y).trans (beside.trans h)

theorem State.scan_wr (f : Field) (v : Nat) : (s.wr f v).scan x = s.scan x := State.scan_of_tiles (s.wr_tiles f v) x

theorem State.scan_setFlag (f : Field) (b : Bool) : (s.setFlag f b).scan x = s.scan x := State.scan_of_tiles (s.setFlag_tiles f b) x

theorem State.scan_freshValue : s.freshValue.2.scan x = s.scan x := rfl

theorem State.scan_foldl {β : Type} (f : State → β → State) (l : List β) (step : ∀ u b, (f u b).scan x = u.scan x) :
    (l.foldl f s).scan x = s.scan x :=
  List.foldlRecOn (motive := fun u : State => u.scan x = s.scan x) l f rfl fun u same b _ => (step u b).trans same

theorem State.scan_stampMove (c : Nat) : (s.stampMove x c).scan x = s.scan x := State.scan_setTile rfl

theorem State.scan_touchCal (c : Nat) : (s.touchCal x c).scan x = s.scan x := State.scan_of_tiles (s.touchCal_tiles x c) x

theorem State.scan_missStrobe (w : Wide) (l : List Nat) : (s.missStrobe x w l).scan x = s.scan x := by
  unfold State.missStrobe
  split
  · rfl
  · rw [(State.raise_reports _ _).scan, (State.bumpBy_reports _ _ _).scan]
    exact s.scan_foldl x _ l fun u c => (u.setEvent_reports _).scan x

theorem State.scan_transferIfSealed (c k : Nat) : (s.transferIfSealed x c k).scan x = s.scan x := by
  unfold State.transferIfSealed State.transferLadder
  split
  · rw [State.scan_touchCal, State.scan_stampMove]
    refine State.scan_setTile ?_
    rw [State.scan_wr, State.scan_wr]
  · rfl

theorem State.scan_transferHeater (c : Nat) : (s.transferHeater x c).scan x = s.scan x := by
  unfold State.transferHeater
  extract_lets range ranged s1 y s2
  have moved : s2.scan x = s.scan x := by
    unfold s2
    rw [State.scan_touchCal, State.scan_stampMove]
    refine State.scan_setTile ?_
    unfold s1
    rw [State.scan_wr, State.scan_wr, State.scan_wr]
  split
  · exact ((s2.markDue_reports x 1).scan x).trans moved
  · exact moved

theorem State.scan_strobeHeater (c : Nat) : (s.strobeHeater x c).scan x = s.scan x := by
  have transferred : (if s.rd (F.HTR_ACT.SET x c) = 2 then s.transferHeater x c else s).scan x = s.scan x := by
    split
    · exact s.scan_transferHeater x c
    · rfl
  unfold State.strobeHeater
  dsimp only
  generalize (if s.rd (F.HTR_ACT.SET x c) = 2 then s.transferHeater x c else s) = u at transferred
  split
  · exact State.scan_setTile transferred
  · exact transferred

theorem State.scan_heaterStrobe (l : List Nat) : (s.heaterStrobe x l).scan x = s.scan x :=
  (State.scan_missStrobe _ x _ _).trans
    (s.scan_foldl x (fun u c => u.strobeHeater x c) l fun u c => u.scan_strobeHeater x c)

theorem State.silTrigger_tiles : s.silTrigger.tiles = s.tiles := by
  have missed : s.missTrigger.tiles = s.tiles := s.missTrigger_counted.2.tiles
  unfold State.silTrigger
  split
  · rfl
  split
  · split
    · exact missed
    · rfl
  split
  · exact missed
  split
  · rfl
  · rfl

theorem State.silGroup_tiles (g : Nat) : (s.silGroup g).tiles = s.tiles := by
  unfold State.silGroup State.silTriggerFrom
  split
  · split
    · exact s.silTrigger_tiles
    · rfl
  · rfl

theorem State.noteGroup_tiles (g : Nat) (starts : Nat → Bool) : (s.noteGroup g starts).tiles = s.tiles := by
  refine List.foldlRecOn (motive := fun t : State => t.tiles = s.tiles) _ _ rfl fun t same e _ => ?_
  split
  · rw [State.setLoopMem_tiles, same]
  · exact same

theorem State.scan_loadGroup (g : Nat) : (s.loadGroup x g).scan x = s.scan x := by
  have noted : (s.noteGroup g (· == x)).scan x = s.scan x := State.scan_of_tiles (s.noteGroup_tiles g _) x
  unfold State.loadGroup
  dsimp only
  rw [State.scan_heaterStrobe]
  split
  · exact (State.scan_of_tiles (State.silGroup_tiles _ g) x).trans noted
  · exact noted

/-- A load strobe leaves the tile's scan alone. -/
theorem State.scan_loadStrobe : (s.loadStrobe x).scan x = s.scan x := by
  unfold State.loadStrobe
  dsimp only
  refine (State.scan_foldl _ x _ _ fun u g => u.scan_loadGroup x g).trans ?_
  rw [State.scan_missStrobe]
  exact s.scan_foldl x _ channels fun u c => u.scan_transferIfSealed x c _

theorem State.scan_noteClip (pd : Nat) (clipped : Bool) : (s.noteClip x pd clipped).scan x = s.scan x := by
  have beside (r : List (Nat × Nat)) : (s.setTile x { s.tile x with clipRun := r }).scan x = s.scan x :=
    State.scan_setTile rfl
  unfold State.noteClip
  dsimp only
  split
  · split
    · rw [(State.raise_reports _ _).scan, beside]
    · exact beside _
  · exact beside _

theorem State.scan_noteSample (pd code range : Nat) (guard sel : Bool) :
    (s.noteSample x pd code range guard sel).scan x = s.scan x := rfl

theorem State.scan_noteSamples (r : Record) (pdA pdB : Nat) : (s.noteSamples x r pdA pdB).scan x = s.scan x := by
  rw [State.noteSamples, State.scan_noteClip, State.scan_noteClip, State.scan_noteSample, State.scan_noteSample]

theorem State.scan_rbCompare (c : Nat) (fails : Bool) : (s.rbCompare x c fails).scan x = s.scan x := by
  have counted (r : List (Nat × Nat)) : ((s.setTile x { s.tile x with rbRun := r }).bump (F.RB_FAIL_CNT x)).scan x = s.scan x :=
    ((State.bump_reports _ _).scan x).trans (State.scan_setTile rfl)
  unfold State.rbCompare
  dsimp only
  split
  · split
    · rw [(State.raise_reports _ _).scan, State.scan_setFlag, counted]
    · exact counted _
  · exact (State.scan_put _ _ _).trans rfl

theorem State.scan_readBack (c sel unsel : Nat) : (s.readBack x c sel unsel).scan x = s.scan x := by
  have shown : ((s.wr (F.POCK_RB.RB_SEL x c) sel).wr (F.POCK_RB.RB_UNSEL x c) unsel).scan x = s.scan x := by
    rw [State.scan_wr, State.scan_wr]
  unfold State.readBack
  extract_lets s1 fresh k
  split
  · exact shown
  · rw [State.scan_rbCompare, State.scan_rbCompare]
    exact shown

theorem State.scan_endDiag (mode code : Nat) (readings : List Int) : (s.endDiag x mode code readings).scan x = s.scan x := by
  unfold State.endDiag
  extract_lets vs y s0 f1 f2 n sum tol bad s1
  have ended : s0.scan x = s.scan x := by
    unfold s0
    rw [(State.setEvent_reports _ _).scan, State.scan_setFlag]
    exact State.scan_setTile rfl
  have shown : s1.scan x = s.scan x := by
    unfold s1 State.wrS
    rw [State.scan_wr, State.scan_wr, ended]
  split
  · unfold f2 f1
    rw [State.scan_wr, State.scan_wr, State.scan_freshValue, State.scan_freshValue, ended]
  · split
    · exact ((s1.raise_reports _).scan x).trans shown
    · exact shown

theorem State.scan_diagReading (d : Diag) (reading : Int) : (s.diagReading x d reading).scan x = s.scan x := by
  unfold State.diagReading
  dsimp only
  split
  · exact s.scan_endDiag x _ _ _
  · exact State.scan_setTile rfl

end

end Sys2Proof.Machine

namespace Sys2Proof.Machine

/-! ### A scan starts (R65, R88) -/

theorem State.rd_setTile (s : State) (x : Nat) (y : Tile) (f : Field) : (s.setTile x y).rd f = s.rd f := rfl

/-- SCAN_SEQ lies beside what the drive side writes. -/
theorem scanSeq_not_drive (x c : Nat) : ¬ DriveWord x c (F.SCAN_STATUS.SCAN_SEQ x).addr := by
  simp only [DriveWord, ReportWord, ChannelWord, MarkWord, CascadeWord, FaultWord, F.SCAN_STATUS.SCAN_SEQ]
  omega

theorem scanSeq_tile (x : Nat) : tilesFrom ≤ (F.SCAN_STATUS.SCAN_SEQ x).addr ∧ (F.SCAN_STATUS.SCAN_SEQ x).addr < 0x1000000 := by
  simp only [F.SCAN_STATUS.SCAN_SEQ, tilesFrom]
  omega

section
variable (s : State) (x : Nat)

theorem State.scanSeq_noteGroup (g : Nat) (starts : Nat → Bool) :
    (s.noteGroup g starts).rd (F.SCAN_STATUS.SCAN_SEQ x) = s.rd (F.SCAN_STATUS.SCAN_SEQ x) := by
  have apart : F.STRB_FIRED.GRP.addr ≠ (F.SCAN_STATUS.SCAN_SEQ x).addr :=
    (Nat.lt_of_lt_of_le (by decide) (scanSeq_tile x).1).ne
  exact (State.rd_of_regs (s.noteGroup_aside g starts).1 _).trans
    (congrArg (bitsOf · _ _) (s.word_setEvent_other (f := { F.STRB_FIRED.GRP with lsb := g, width := 1 }) apart.symm))

theorem State.scanSeq_loadGroup (g : Nat) : (s.loadGroup x g).rd (F.SCAN_STATUS.SCAN_SEQ x) = s.rd (F.SCAN_STATUS.SCAN_SEQ x) := by
  have heaters {u : State} {l : List Nat} (inside : ∀ y ∈ l, y < 64) :
      (u.heaterStrobe x l).rd (F.SCAN_STATUS.SCAN_SEQ x) = u.rd (F.SCAN_STATUS.SCAN_SEQ x) :=
    (State.heaterStrobe_moves inside).rd fun ⟨c, _, drive⟩ => scanSeq_not_drive x c drive
  have noted := s.scanSeq_noteGroup x g (· == x)
  have trigger (u : State) : (u.silGroup g).rd (F.SCAN_STATUS.SCAN_SEQ x) = u.rd (F.SCAN_STATUS.SCAN_SEQ x) := by
    refine (u.silGroup_aside g).2.rd ?_
    rintro (cascade | sillage)
    · exact not_cascadeWord (scanSeq_tile x).1 cascade
    · exact Nat.not_le_of_lt (scanSeq_tile x).2 sillage
  unfold State.loadGroup
  dsimp only
  rw [heaters fun y hy => lt_of_mem_channels (List.mem_of_mem_filter hy)]
  split
  · rw [trigger, noted]
  · exact noted

theorem State.scanSeq_loadStrobe : (s.loadStrobe x).rd (F.SCAN_STATUS.SCAN_SEQ x) = s.rd (F.SCAN_STATUS.SCAN_SEQ x) := by
  have ladders (sel : Nat → Nat) : Moves (fun a => ∃ c < 64, DriveWord x c a) x s
      (channels.foldl (fun u c => u.transferIfSealed x c (sel c)) s) :=
    (Moves.refl _ x s).foldl fun u c hc h =>
      h.trans ((Moves.refl (DriveWord x c) x u).transferIfSealed.mono fun _ w => ⟨c, lt_of_mem_channels hc, w⟩)
  unfold State.loadStrobe
  dsimp only
  refine (List.foldlRecOn (motive := fun u : State => u.rd (F.SCAN_STATUS.SCAN_SEQ x) = _) _ _ rfl fun u same g _ =>
    (u.scanSeq_loadGroup x g).trans same).trans ?_
  refine ((ladders _).missStrobe (fun _ w => ⟨0, by decide, .inr (.inr w)⟩) (missedPock_missed x) fun y hy =>
    lt_of_mem_channels (List.mem_of_mem_filter hy)).rd ?_
  rintro ⟨c, _, drive⟩
  exact scanSeq_not_drive x c drive

/-- The registers at a scan start: the live values take effect, and SCAN_SEQ advances. -/
def State.scanCounted : State :=
  ((s.applyLv (F.SCAN_CFG.MODE x).addr).applyRanges x).wr (F.SCAN_STATUS.SCAN_SEQ x) (s.rd (F.SCAN_STATUS.SCAN_SEQ x) + 1)

theorem State.scanSeq_wr (v : Nat) :
    (s.wr (F.SCAN_STATUS.SCAN_SEQ x) v).rd (F.SCAN_STATUS.SCAN_SEQ x) = v % 65536 :=
  s.rd_wr_mod (F.SCAN_STATUS.SCAN_SEQ x) v (show 16 + 16 ≤ 32 by decide)

theorem State.scanSeq_scanCounted :
    (s.scanCounted x).rd (F.SCAN_STATUS.SCAN_SEQ x) = (s.rd (F.SCAN_STATUS.SCAN_SEQ x) + 1) % 65536 :=
  State.scanSeq_wr _ x _

/-- The tile at a scan start, before its load strobe. -/
def State.scanBegun : State :=
  let y := s.tile x
  let s1 := s.scanCounted x
  s1.setTile x { y with
    lowPower := s1.rd (F.SCAN_CFG.MODE x) == 1
    sinceStrobe := y.sinceStrobe.map (· + (scanCycles y : Int))
    strobes := 0
    probe := s1.rd (F.COURSE_PROBE_EST.EST (tileCourse x))
    focusClip := none
    cut := false
    rbTurn := false
    scanAt := some s.clock
    focus := y.focus.map fun f => { f with running := f.running || !s.scanSuspended x } }

theorem State.scanStart_eq :
    s.scanStart x = if (s.scanBegun x).frozen then s.scanBegun x else (s.scanBegun x).loadStrobe x := rfl

theorem State.scan_scanBegun : (s.scanBegun x).scan x = { s.scan x with
    strobes := 0, sinceStrobe := (s.tile x).sinceStrobe.map (· + (scanCycles (s.tile x) : Int)) } := State.scan_put _ _ _

theorem State.scanSeq_scanBegun :
    (s.scanBegun x).rd (F.SCAN_STATUS.SCAN_SEQ x) = (s.rd (F.SCAN_STATUS.SCAN_SEQ x) + 1) % 65536 :=
  (State.rd_setTile (s.scanCounted x) x _ _).trans (s.scanSeq_scanCounted x)

/-- The load strobe of a scan start leaves the tile's scan and its count. -/
theorem State.scan_scanStart : (s.scanStart x).scan x = (s.scanBegun x).scan x := by
  rw [State.scanStart_eq]
  split
  · rfl
  · exact State.scan_loadStrobe _ x

theorem State.scanSeq_scanStart :
    (s.scanStart x).rd (F.SCAN_STATUS.SCAN_SEQ x) = (s.rd (F.SCAN_STATUS.SCAN_SEQ x) + 1) % 65536 := by
  rw [State.scanStart_eq, ← s.scanSeq_scanBegun x]
  split
  · rfl
  · exact State.scanSeq_loadStrobe _ x

theorem State.mem_scanStart : (s.scanStart x).mem = s.mem :=
  ((Keeps.refl (fun _ => False) s).scanStart.same .mem).resolve_left id

end

theorem tileScanStart_starts (s : State) (x : Fin 76) (good : s.railGood x = true) :
    ∃ t, exec (.tileScanStart x) s = .next t ∧
      t.rd (F.SCAN_STATUS.SCAN_SEQ x) = (s.rd (F.SCAN_STATUS.SCAN_SEQ x) + 1) % 65536 ∧ (t.tile x).strobes = 0 ∧
      (t.tile x).sinceStrobe = (s.tile x).sinceStrobe.map (· + (scanCycles (s.tile x) : Int)) ∧
      (t.tile x).recs = (s.tile x).recs ∧ t.mem = s.mem :=
  have scan := (s.scan_scanStart x).trans (s.scan_scanBegun x)
  ⟨s.scanStart x, congrArg Host.Outcome.next (if_pos good), s.scanSeq_scanStart x, State.strobes_of_scan scan,
    State.sinceStrobe_of_scan scan, State.recs_of_scan scan, s.mem_scanStart x⟩

end Sys2Proof.Machine

namespace Sys2Proof.Machine

/-! ### What a conversion records (R88, R91, R101) -/

section
variable (s : State) (x k a b : Nat)

/-- The focus that a conversion slot serves. -/
def State.focusIn : Option FocusId :=
  if s.purpose x k = .focus then (s.tile x).focus.map Focus.id else none

/-- The record of a conversion. -/
def State.recordOf : Record :=
  let y := s.tile x
  let delta := sampleDelta y (sampleCycle y k (s.purpose x k == .focus))
  let pdA := (s.focusIn x k).elim (2 * k) FocusId.pd
  let pdB := (s.focusIn x k).elim (2 * k + 1) FocusId.pd
  ⟨a, b, kindOf (s.purpose x k), s.rd (F.POCK_STAT.ACT_SEL x (pdA / 2)), guardOf delta (s.rd (F.SCAN_STATUS.DISCARD_CYC x)),
    tiaRange s x pdA, tiaRange s x pdB, y.slotAct, delta, s.rd (F.SCAN_STATUS.SCAN_SEQ x), y.lowPower, y.probe, s.focusIn x k⟩

/-- The state in which a conversion has left its record, and a guarded one is counted. -/
def State.recorded : State :=
  let y := (s.tile x).slotDone k (s.purpose x k) (s.readsBack x k)
  let r := s.recordOf x k a b
  let s1 := s.setTile x { y with recs := sparseInsert y.recs k r, onWay := setBit y.onWay k (s.linkUp x) }
  if r.guard then s1.bump (F.GUARD_CNT x) else s1

theorem State.scan_recorded : (s.recorded x k a b).scan x = { s.scan x with
    recs := sparseInsert (s.tile x).recs k (s.recordOf x k a b), onWay := setBit (s.tile x).onWay k (s.linkUp x) } := by
  unfold State.recorded
  dsimp only
  split
  · exact ((State.bump_reports _ _).scan x).trans (State.scan_put _ _ _)
  · exact State.scan_put _ _ _

variable {s x k} in
/-- After the record a conversion leaves the tile's scan alone. -/
theorem State.scan_convert (serves : s.purpose x k ≠ .suspended) : (s.convert x k a b).scan x = (s.recorded x k a b).scan x := by
  unfold State.convert
  extract_lets p y delta guard focus pdA pdB sel r s1 s2 s3 z s3' z'
  change _ = s2.scan x
  change p ≠ .suspended at serves
  clear_value p s2
  split
  · contradiction
  · exact State.scan_readBack _ _ _ _ _
  · exact State.scan_setTile (State.scan_noteSample _ _ _ _ _ _ _)
  · split
    · rw [State.scan_diagReading, State.scan_noteSamples]
    · rw [State.scan_noteClip]
      exact State.scan_setTile (State.scan_noteSample _ _ _ _ _ _ _)
  · exact State.scan_noteSamples _ _ _ _ _

theorem State.mem_convert : (s.convert x k a b).mem = s.mem :=
  ((Keeps.refl (fun _ => False) s).convert.same .mem).resolve_left id

variable {s x k} in
theorem State.convert_loop (loop : s.purpose x k = .loop) :
    s.convert x k a b = (s.recorded x k a b).noteSamples x (s.recordOf x k a b) (2 * k) (2 * k + 1) := by
  unfold State.convert State.recorded State.recordOf State.focusIn
  rw [loop]
  rfl

variable {s x k} in
theorem State.convert_readBack (serves : s.purpose x k = .readBack) :
    s.convert x k a b = (s.recorded x k a b).readBack x k a b := by
  unfold State.convert State.recorded State.recordOf State.focusIn
  rw [serves]
  rfl

variable {s x k} in
theorem State.convert_suspended (suspended : s.purpose x k = .suspended) :
    s.convert x k a b = s.setTile x ((s.tile x).slotDone k .suspended (s.readsBack x k)) := by
  unfold State.convert
  rw [suspended]

variable {s x k} in
theorem State.actSel_recordOf (loop : s.purpose x k = .loop) :
    (s.recordOf x k a b).actSel = s.rd (F.POCK_STAT.ACT_SEL x k) := by
  have own : s.focusIn x k = none := if_neg (by rw [loop]; decide)
  have pair : 2 * k / 2 = k := Nat.mul_div_cancel_left k Nat.two_pos
  unfold State.recordOf
  dsimp only
  rw [own, Option.elim_none, pair]

end

/-! ### LAST_SAMPLE (R112) -/

theorem bitsOf_lastSample (code range guard sel seq : Nat) :
    bitsOf (BitVec.ofNat 32 (code % 65536 + 65536 * range + 2 ^ 18 * guard + 2 ^ 19 * sel + 2 ^ 20 * seq)) 0 16 =
      code % 65536 := by
  rw [bitsOf, BitVec.toNat_ofNat]
  omega

section
variable (s : State) (x pd : Nat)

theorem State.code_noteSample (code range : Nat) (guard sel : Bool) :
    (s.noteSample x pd code range guard sel).rd (F.LAST_SAMPLE.CODE x pd) = code % 65536 := by
  rw [State.rd, State.noteSample, State.word_setWord_same]
  exact bitsOf_lastSample _ _ _ _ _

theorem State.code_noteSample_other {other : Nat} (apart : pd % 128 ≠ other % 128) (code range : Nat) (guard sel : Bool) :
    (s.noteSample x other code range guard sel).rd (F.LAST_SAMPLE.CODE x pd) = s.rd (F.LAST_SAMPLE.CODE x pd) := by
  refine ((Writes.refl (· = (F.LAST_SAMPLE.CODE x other).addr) s).setWord rfl).rd fun same => apart ?_
  simp only [F.LAST_SAMPLE.CODE] at same
  omega

theorem State.noteClip_writes (clipped : Bool) :
    Writes (fun a => SharedWord a ∨ a = (FB.SENSE x).real) s (s.noteClip x pd clipped) := by
  have beside {y : Tile} : Writes (fun a => SharedWord a ∨ a = (FB.SENSE x).real) s (s.setTile x y) := (Writes.refl _ s).regs_eq rfl
  unfold State.noteClip
  dsimp only
  split
  · exact .ite (beside.raise (fun _ => .inl) (.inr rfl)) beside
  · exact beside

theorem State.code_noteClip (n : Nat) (clipped : Bool) :
    (s.noteClip x n clipped).rd (F.LAST_SAMPLE.CODE x pd) = s.rd (F.LAST_SAMPLE.CODE x pd) := by
  refine (s.noteClip_writes x n clipped).rd ?_
  simp only [SharedWord, F.LAST_SAMPLE.CODE, FB.SENSE, tilesFrom]
  omega

/-- LAST_SAMPLE of both photodiodes of a record. -/
theorem State.code_noteSamples (r : Record) (pdB : Nat) (apart : pd % 128 ≠ pdB % 128) :
    (s.noteSamples x r pd pdB).rd (F.LAST_SAMPLE.CODE x pd) = r.a % 65536 ∧
      (s.noteSamples x r pd pdB).rd (F.LAST_SAMPLE.CODE x pdB) = r.b % 65536 := by
  unfold State.noteSamples
  constructor
  · rw [State.code_noteClip, State.code_noteClip, State.code_noteSample_other _ _ _ apart, State.code_noteSample]
  · rw [State.code_noteClip, State.code_noteClip, State.code_noteSample]

end

/-! ### POCK_RB (R75) -/

/-- What the comparison of a channel's read-back writes. -/
abbrev CompareWord (x c a : Nat) : Prop := SharedWord a ∨ FaultWord x a ∨ a = (F.POCK_STAT.RB_FAIL x c).addr

section
variable (s : State) (x c : Nat)

theorem State.rbCompare_writes (fails : Bool) : Writes (CompareWord x c) s (s.rbCompare x c fails) := by
  have shared : ∀ a, SharedWord a → CompareWord x c a := fun _ => .inl
  have count : FaultWord x (F.RB_FAIL_CNT x).addr ∧ FaultWord x ((F.RB_FAIL_CNT x).addr + 4) := by
    simp only [FaultWord, F.RB_FAIL_CNT]
    omega
  have beside {y : Tile} : Writes (CompareWord x c) s (s.setTile x y) := (Writes.refl _ s).regs_eq rfl
  have counted {y : Tile} : Writes (CompareWord x c) s ((s.setTile x y).bump (F.RB_FAIL_CNT x)) :=
    beside.bump shared (.inr (.inl count.1)) (.inr (.inl count.2))
  unfold State.rbCompare
  dsimp only
  split
  · exact .ite ((counted.setFlag (.inr (.inr rfl))).raise shared (.inr (.inl (driveReal_fault x)))) counted
  · exact ((Writes.refl _ s).setFlag (.inr (.inr rfl))).regs_eq rfl

theorem not_compareWord : ¬ CompareWord x c (F.POCK_RB.RB_SEL x c).addr := by
  simp only [CompareWord, SharedWord, FaultWord, F.POCK_RB.RB_SEL, F.POCK_STAT.RB_FAIL, tilesFrom]
  omega

/-- POCK_RB shows the codes that were read back. -/
theorem State.rd_readBack (sel unsel : Nat) : (s.readBack x c sel unsel).rd (F.POCK_RB.RB_SEL x c) = sel % 65536 ∧
    (s.readBack x c sel unsel).rd (F.POCK_RB.RB_UNSEL x c) = unsel % 65536 := by
  have shown : ((s.wr (F.POCK_RB.RB_SEL x c) sel).wr (F.POCK_RB.RB_UNSEL x c) unsel).rd (F.POCK_RB.RB_SEL x c) = sel % 65536 ∧
      ((s.wr (F.POCK_RB.RB_SEL x c) sel).wr (F.POCK_RB.RB_UNSEL x c) unsel).rd (F.POCK_RB.RB_UNSEL x c) = unsel % 65536 := by
    constructor
    · rw [State.rd_wr_disjoint _ _ (show 16 + 16 ≤ 32 by decide) (.inr (.inr (show 0 + 16 ≤ 16 by decide)))]
      exact s.rd_wr_mod (F.POCK_RB.RB_SEL x c) sel (show 0 + 16 ≤ 32 by decide)
    · exact State.rd_wr_mod _ (F.POCK_RB.RB_UNSEL x c) unsel (show 16 + 16 ≤ 32 by decide)
  unfold State.readBack
  extract_lets s1 fresh n
  split
  · exact shown
  · have kept := (s1.rbCompare_writes x c (s.rbFails x c n sel)).trans (State.rbCompare_writes _ x c (s.rbFails x c (1 - n) unsel))
    exact ⟨(kept.rd (not_compareWord x c)).trans shown.1,
      (kept.rd (f := F.POCK_RB.RB_UNSEL x c) (not_compareWord x c)).trans shown.2⟩

end

end Sys2Proof.Machine

namespace Sys2Proof.Machine

/-! ### Conversions and the end of the scan -/

section
variable (s : State) (x : Fin 76)

variable {s x} in
theorem tileConversion_good (k : Fin 64) (a b : Fin 65536) (good : s.railGood x = true) :
    exec (.tileConversion x k a b) s = .next (s.convert x k a b) := congrArg Host.Outcome.next (if_pos good)

theorem tileConversion_records (k : Fin 64) (a b : Fin 65536) (good : s.railGood x = true)
    (serves : s.purpose x k ≠ .suspended) :
    ∃ t r, exec (.tileConversion x k a b) s = .next t ∧ (t.tile x).recs.lookup k.val = some r ∧ r.a = a ∧ r.b = b ∧
      r.kind = kindOf (s.purpose x k) ∧ r.seq = s.rd (F.SCAN_STATUS.SCAN_SEQ x) ∧
      r.guard = guardOf (sampleDelta (s.tile x) (sampleCycle (s.tile x) k (s.purpose x k == .focus)))
        (s.rd (F.SCAN_STATUS.DISCARD_CYC x)) ∧
      (t.tile x).onWay.getLsbD k = s.linkUp x ∧ t.mem = s.mem ∧
      (s.purpose x k = .loop → r.actSel = s.rd (F.POCK_STAT.ACT_SEL x k) ∧ t.rd (F.LAST_SAMPLE.CODE x (2 * k)) = a ∧
        t.rd (F.LAST_SAMPLE.CODE x (2 * k + 1)) = b) ∧
      (s.purpose x k = .readBack → t.rd (F.POCK_RB.RB_SEL x k) = a ∧ t.rd (F.POCK_RB.RB_UNSEL x k) = b) := by
  have scan := (State.scan_convert a b serves).trans (s.scan_recorded x k a b)
  have whole (c : Fin 65536) : c.val % 65536 = c := Nat.mod_eq_of_lt c.isLt
  refine ⟨s.convert x k a b, s.recordOf x k a b, tileConversion_good k a b good, ?_, rfl, rfl, rfl, rfl, rfl, ?_,
    s.mem_convert x k a b, fun loop => ?_, fun readBack => ?_⟩
  · exact (congrArg (List.lookup _) (State.recs_of_scan scan)).trans (lookup_sparseInsert_same _ _ _)
  · exact (congrArg (BitVec.getLsbD · _) (State.onWay_of_scan scan)).trans (getLsbD_setBit_same _ _ k.isLt)
  · have pair : 2 * k.val % 128 ≠ (2 * k.val + 1) % 128 := by omega
    obtain ⟨codeA, codeB⟩ := (s.recorded x k a b).code_noteSamples x (2 * k) (s.recordOf x k a b) (2 * k + 1) pair
    rw [State.convert_loop a b loop]
    exact ⟨State.actSel_recordOf a b loop, codeA.trans (whole a), codeB.trans (whole b)⟩
  · obtain ⟨sel, unsel⟩ := (s.recorded x k a b).rd_readBack x k a b
    rw [State.convert_readBack a b readBack]
    exact ⟨sel.trans (whole a), unsel.trans (whole b)⟩

/-- The state after a scan's end, but for the clip of a focus. -/
def State.frameSent (x : Nat) : State :=
  let y := s.tile x
  let displaced := y.cut || s.scanSuspended x
  s.setTile x { y with
    frame := if s.linkUp x then some (s.frameBytes x) else none
    rbNext := if y.rbTurn then (y.rbNext + 1) % 64 else y.rbNext
    rbTurn := false
    cut := false
    focusClip := none
    focus := y.focus.map fun f => if f.running && !displaced then { f with left := f.left - 1 } else f }

theorem State.scan_frameSent (x : Nat) : (s.frameSent x).scan x = { s.scan x with
    frame := if s.linkUp x then some (s.frameBytes x) else none
    rbNext := if (s.tile x).rbTurn then ((s.tile x).rbNext + 1) % 64 else (s.tile x).rbNext } := State.scan_put _ _ _

theorem State.scan_frameTx (x : Nat) : (s.frameTx x).scan x = (s.frameSent x).scan x := by
  unfold State.frameTx
  extract_lets y displaced s1
  change _ = s1.scan x
  split
  · exact State.scan_noteClip _ _ _ _
  · rfl

variable {s} in
theorem State.frameTx_quiet {x : Nat} (quiet : (s.tile x).focusClip = none) : s.frameTx x = s.frameSent x := by
  unfold State.frameTx
  extract_lets y displaced s1
  split
  · next clip => cases quiet.symm.trans clip
  · rfl

theorem tileFrameTx_sends (good : s.railGood x = true) :
    ∃ t, exec (.tileFrameTx x) s = .next t ∧
      (t.tile x).frame = (if s.linkUp x then some (s.frameBytes x) else none) ∧
      (t.tile x).rbNext = (if (s.tile x).rbTurn then ((s.tile x).rbNext + 1) % 64 else (s.tile x).rbNext) ∧
      (t.tile x).recs = (s.tile x).recs ∧ t.mem = s.mem ∧
      ((s.tile x).focusClip = none → t.regs = s.regs ∧ t.outbox = s.outbox) := by
  have scan := (s.scan_frameTx x).trans (s.scan_frameSent x)
  refine ⟨s.frameTx x, congrArg Host.Outcome.next (if_pos good), State.frame_of_scan scan, State.rbNext_of_scan scan,
    State.recs_of_scan scan, ((Keeps.refl (fun _ => False) s).frameTx.same .mem).resolve_left id, fun quiet => ?_⟩
  rw [State.frameTx_quiet quiet]
  exact ⟨rfl, rfl⟩

end

/-- Settles O46, clause by clause: a scan start by its registers and its load strobe, a conversion by its record and what its
purpose does after it, the end by the tile it leaves. -/
theorem scansConvertAndSendFrames : Obligations.ScansConvertAndSendFrames := by
  unfold Obligations.ScansConvertAndSendFrames
  refine ⟨tileScanStart_starts, fun s x k a b => tileConversion_records s x k a b, fun s x k a b good suspended => ?_,
    fun s x => tileFrameTx_sends s x, fun s x k a b bad => ?_⟩
  · exact (tileConversion_good k a b good).trans (congrArg Host.Outcome.next (State.convert_suspended a b suspended))
  · have idle : ¬ s.railGood x = true := Bool.not_eq_true _ ▸ bad
    exact ⟨congrArg Host.Outcome.next (if_neg idle), congrArg Host.Outcome.next (if_neg idle),
      congrArg Host.Outcome.next (if_neg idle)⟩

end Sys2Proof.Machine

namespace Sys2Proof.Machine

/-! ## The codes of a loop update (R120, R126, R129, R132)

Only `topUpdate`, `ditherUpdate` and `heartStep` issue codes. Each clamps its ladder codes to CODE_MIN and CODE_MAX, and the heart
drops a heater code outside HCODE_MIN and HCODE_MAX. -/

/-- Where the effect issues a code, the code lies within the limits of `c` and goes to the channel of loop `l`. -/
def CodeWithin (c : LoopCfg) (l : Nat) (e : LoopEffect) : Prop :=
  ∀ ch k code rng, e = .code (.code ch k code rng) → ch = loopChan l ∧ (k < 2 → c.codeMin ≤ code ∧ code ≤ c.codeMax) ∧
    (2 ≤ k → c.hcodeMin ≤ code ∧ code ≤ c.hcodeMax)

/-- Every effect of the list meets `CodeWithin`. -/
def CodesWithin (c : LoopCfg) (l : Nat) (es : List LoopEffect) : Prop := ∀ e ∈ es, CodeWithin c l e

section
variable {c : LoopCfg} {l : Nat}

/-! ### Effects that issue no code, and lists of effects -/

@[simp] theorem codeWithin_put (f : Field) (v : Nat) : CodeWithin c l (.put f v) := nofun
@[simp] theorem codeWithin_event (f : Field) : CodeWithin c l (.event f) := nofun
@[simp] theorem codeWithin_mem (x : LoopMem) (heart : Bool) : CodeWithin c l (.mem x heart) := nofun
@[simp] theorem codeWithin_count (w : Wide) : CodeWithin c l (.count w) := nofun
@[simp] theorem codeWithin_raise (src : Source) : CodeWithin c l (.raise src) := nofun
@[simp] theorem codeWithin_take (a : Nat) (w : Word) : CodeWithin c l (.take a w) := nofun

@[simp] theorem codesWithin_nil : CodesWithin c l [] := nofun

@[simp] theorem codesWithin_cons {e : LoopEffect} {es : List LoopEffect} :
    CodesWithin c l (e :: es) ↔ CodeWithin c l e ∧ CodesWithin c l es := List.forall_mem_cons

@[simp] theorem codesWithin_append {es fs : List LoopEffect} :
    CodesWithin c l (es ++ fs) ↔ CodesWithin c l es ∧ CodesWithin c l fs := List.forall_mem_append

@[simp] theorem codesWithin_allOf_nil : CodesWithin c l (allOf []) := nofun

@[simp] theorem codesWithin_allOf_cons {es : List LoopEffect} {ess : List (List LoopEffect)} :
    CodesWithin c l (allOf (es :: ess)) ↔ CodesWithin c l es ∧ CodesWithin c l (allOf ess) := codesWithin_append

@[simp] theorem codesWithin_ite {p : Prop} [Decidable p] {es fs : List LoopEffect} :
    CodesWithin c l (if p then es else fs) ↔ (p → CodesWithin c l es) ∧ (¬ p → CodesWithin c l fs) := by
  split <;> simp [*]

/-! ### Codes -/

theorem clampInt_toNat_within {lo hi : Nat} (ordered : lo ≤ hi) (v : Int) :
    lo ≤ (clampInt lo hi v).toNat ∧ (clampInt lo hi v).toNat ≤ hi := by
  unfold clampInt
  split_ifs <;> omega

theorem codeWithin_ladder (ordered : c.codeMin ≤ c.codeMax) {k : Nat} (ladder : k < 2) (v : Int) (rng : Bool) :
    CodeWithin c l (.code (.code (loopChan l) k (clampInt c.codeMin c.codeMax v).toNat rng)) := by
  rintro _ _ _ _ ⟨⟩
  exact ⟨rfl, fun _ => clampInt_toNat_within ordered v, fun heater => absurd ladder (Nat.not_lt_of_le heater)⟩

theorem codeWithin_heater {code : Nat} (within : c.hcodeMin ≤ code ∧ code ≤ c.hcodeMax) (rng : Bool) :
    CodeWithin c l (.code (.code (loopChan l) 2 code rng)) := by
  rintro _ _ _ _ ⟨⟩
  exact ⟨rfl, fun ladder => absurd ladder (lt_irrefl 2), fun _ => within⟩

/-! ### Supervision and pending words issue none -/

theorem codesWithin_presetEffects (s : State) (sel : Nat) (armed clamped : Bool) :
    CodesWithin c l (presetEffects s l sel armed clamped) := by
  simp [presetEffects]

theorem codesWithin_superviseLimit (s : State) (x : LoopMem) (hit : Bool) : CodesWithin c l (superviseLimit s l x hit).2 := by
  unfold superviseLimit
  split <;> simp

theorem codesWithin_superviseLight (s : State) (r : Record) (x : LoopMem) : CodesWithin c l (superviseLight s l r x).2 := by
  simp [superviseLight]

theorem codesWithin_superviseProbe (s : State) (f : Front) (trim : Bool) (denMin : Nat) (x : LoopMem) :
    CodesWithin c l (superviseProbe s l f trim denMin x).2 := by
  unfold superviseProbe
  extract_lets cn stat enough clear run
  split
  · simp [clear]
  · simp

theorem codesWithin_supervisePlaus (s : State) (f : Front) : CodesWithin c l (supervisePlaus s l f) := by
  unfold supervisePlaus
  extract_lets cn j est r old new top dir flag
  simp [dir, flag]

theorem codesWithin_takePending (s : State) (x : LoopMem) : CodesWithin c l (s.takePending l x).2.2 := by
  unfold State.takePending
  extract_lets pend old new i0 i1 c0 c1 clears takes scale
  have cleared : CodesWithin c l clears := by
    intro e he
    obtain ⟨k, -, clear⟩ := List.mem_flatMap.mp he
    obtain ⟨st, -, clear⟩ := List.mem_flatMap.mp clear
    split at clear
    · exact List.mem_singleton.mp clear ▸ codeWithin_put _ _
    · cases clear
  have words : CodesWithin c l (pend.map fun e => LoopEffect.take e.1 e.2) := by
    intro e he
    obtain ⟨y, -, rfl⟩ := List.mem_map.mp he
    exact codeWithin_take _ _
  have scaled : CodesWithin c l scale := by
    simp only [scale]
    split <;> simp
  simp [takes, words, scaled, cleared]

/-! ### The updates -/

theorem codesWithin_heartStep (ordered : c.codeMin ≤ c.codeMax) (s : State) {k : Tick} (cfg : k.cfg = c) :
    CodesWithin c l (heartStep s l k).2.2 := by
  subst cfg
  unfold heartStep
  extract_lets c m2 delta fedOff h2 h o other last
  split
  · simp
  split
  · simp [fedOff]
  split
  · simp [fedOff]
  · next inside =>
    have heater : CodeWithin c l (.code (.code (loopChan l) 2 h (s.flag (F.HTR_ACT.ACT_RANGE (loopTile l) (loopChan l))))) :=
      codeWithin_heater (by omega) _
    have ladder : CodeWithin c l (.code (.code (loopChan l) o other false)) := codeWithin_ladder ordered (by omega) _ _
    simp [fedOff, heater, ladder, c]

theorem codesWithin_topUpdate (ordered : c.codeMin ≤ c.codeMax) (s : State) {r : Record} (ladder : r.actSel < 2) (x : LoopMem)
    (ints : Int × Int) (compClamped : Bool) (d0 : Int) : CodesWithin c l (topUpdate s l c r x ints compClamped d0) := by
  unfold topUpdate
  extract_lets sel cn ka rUse armed pre d e p30 iTry base v holds i iLimit raw code outLimit frozen old forget new rep last lim mem1 fed
    cnt tick heart
  have issued : CodeWithin c l (.code (.code (loopChan l) sel code false)) := codeWithin_ladder ordered ladder raw false
  have hearted : CodesWithin c l heart.2.2 := by
    simp only [heart]
    split
    · exact codesWithin_nil
    · exact codesWithin_heartStep ordered s rfl
  simp [codesWithin_presetEffects, rep, issued, hearted, lim, codesWithin_superviseLimit]

theorem codesWithin_ditherUpdate (ordered : c.codeMin ≤ c.codeMax) (ladder : c.dstate < 2) (s : State) (r : Record) (x : LoopMem)
    (ints : Int × Int) (compClamped : Bool) (lam : Nat) : CodesWithin c l (ditherUpdate s l c r x ints compClamped lam) := by
  unfold ditherUpdate
  extract_lets sel cn armed pre lam16 sigma consecutive g0 g iTry i iLimit cnt locked grad raw code outLimit last out lim
  have issued : CodeWithin c l (.code (.code (loopChan l) sel code false)) := codeWithin_ladder ordered ladder raw false
  simp [codesWithin_presetEffects, grad, issued, lim, codesWithin_superviseLimit]

theorem codesWithin_lawEffects (ordered : c.codeMin ≤ c.codeMax) (dither : c.dstate < 2) (s : State) {r : Record}
    (ladder : r.actSel < 2) (f : Front) (x : LoopMem) (ints : Int × Int) (compClamped : Bool) :
    CodesWithin c l (s.lawEffects l c r f x ints compClamped) := by
  unfold State.lawEffects
  extract_lets cn keep see
  split
  · simp
  split
  · simp
  split
  · simp
  split
  · exact codesWithin_ditherUpdate ordered dither s r see ints compClamped _
  · exact codesWithin_topUpdate ordered s ladder see ints compClamped _
  · exact codesWithin_topUpdate ordered s ladder see ints compClamped _

end

theorem dstate_loopCfgOf_lt (word : Nat → Word) : (loopCfgOf word).dstate < 2 := bitsOf_lt (word 5) 29 1

theorem codesWithin_recordEffects (s : State) (l : Nat) {r : Record} (ladder : r.actSel < 2)
    (ordered : (s.loopCfgNext l).codeMin ≤ (s.loopCfgNext l).codeMax) :
    CodesWithin (s.loopCfgNext l) l (s.recordEffects l r) := by
  unfold State.recordEffects
  extract_lets st x auto c cn denMin f pend light lightMem probe plaus
  have pending : CodesWithin (s.loopCfgNext l) l pend.2.2 := by
    simp only [pend]
    split
    · exact codesWithin_takePending s x
    · exact codesWithin_nil
  have seen : CodesWithin (s.loopCfgNext l) l light.2 := by
    simp only [light]
    split
    · exact codesWithin_superviseLight s r x
    · exact codesWithin_nil
  have law : auto = true → ∀ y, CodesWithin (s.loopCfgNext l) l (s.lawEffects l c r f y pend.1 pend.2.1) := by
    intro inAuto y
    rw [show c = s.loopCfgNext l from if_pos inAuto]
    exact codesWithin_lawEffects ordered (dstate_loopCfgOf_lt _) s ladder f y pend.1 pend.2.1
  split
  · exact codesWithin_nil
  · simp +contextual [pending, seen, probe, codesWithin_superviseProbe, plaus, codesWithin_supervisePlaus, law]

/-- Settles O49: of all effects of a record only ladder codes clamped to the limits and heater codes that passed them are codes. -/
theorem updatesStayWithinTheCodeLimits : Obligations.UpdatesStayWithinTheCodeLimits := by
  unfold Obligations.UpdatesStayWithinTheCodeLimits
  intro s l r ch k code rng ladder ordered issued
  exact codesWithin_recordEffects s l ladder ordered _ issued ch k code rng rfl

end Sys2Proof.Machine

namespace Sys2Proof.Machine

/-! ## Words put and nothing else, and a course's refusals

`Puts P s t`: between `s` and `t` words were put at addresses that `P` names, and nothing else changed. -/

/-- `t` is `s` with words put at addresses that `P` allows, and nothing else. -/
structure Puts (P : Nat → Prop) (s t : State) : Prop where
  same : t = { s with regs := t.regs }
  writes : Writes P s t

namespace Puts
variable {P Q : Nat → Prop} {s₀ s t : State}

theorem refl (P : Nat → Prop) (s : State) : Puts P s s := ⟨rfl, .refl P s⟩

theorem trans (h : Puts P s₀ s) (k : Puts P s t) : Puts P s₀ t := by
  refine ⟨?_, h.writes.trans k.writes⟩
  have e := k.same
  rw [h.same] at e
  rw [e]

theorem mono (h : Puts P s t) (le : ∀ a, P a → Q a) : Puts Q s t := ⟨h.same, h.writes.mono le⟩

theorem wr {f v} (h : Puts P s₀ s) (ha : P f.addr) : Puts P s₀ (s.wr f v) := h.trans ⟨rfl, (Writes.refl P s).wr ha⟩

theorem setFlag {f b} (h : Puts P s₀ s) (ha : P f.addr) : Puts P s₀ (s.setFlag f b) := h.wr ha

theorem foldl {β : Type} {f : State → β → State} {l : List β} (h : Puts P s₀ s)
    (step : ∀ {s b}, Puts P s₀ s → Puts P s₀ (f s b)) : Puts P s₀ (l.foldl f s) :=
  List.foldlRecOn (motive := fun u => Puts P s₀ u) l f h fun _ hu _ _ => step hu

theorem mem (h : Puts P s t) : t.mem = s.mem := by rw [h.same]
theorem outbox (h : Puts P s t) : t.outbox = s.outbox := by rw [h.same]
theorem tiles (h : Puts P s t) : t.tiles = s.tiles := by rw [h.same]
theorem loops (h : Puts P s t) : t.loops = s.loops := by rw [h.same]

theorem rd (h : Puts P s t) {f : Field} (apart : ¬ P f.addr) : t.rd f = s.rd f := h.writes.rd apart

theorem flag (h : Puts P s t) {f : Field} (apart : ¬ P f.addr) : t.flag f = s.flag f := congrArg (· == 1) (h.rd apart)

end Puts

theorem Reports.loops {s t : State} (h : Reports s t) : t.loops = s.loops := by rw [h.same]

theorem Reports.warmHold {s t : State} (h : Reports s t) : t.warmHold = s.warmHold := by rw [h.same]

/-- What puts no word of a counter leaves counted what was counted before it. -/
theorem Counted.after {P : Nat → Prop} {w : Wide} {s u t : State} (h : Counted w s u) (k : Writes P u t) (lo : ¬ P w.addr)
    (hi : ¬ P (w.addr + 4)) : Counted w s t := (State.rdW_congr (k.word lo) (k.word hi)).trans h

/-- What put no word of a counter before it counted does not matter. -/
theorem Counted.before {P : Nat → Prop} {w : Wide} {s u t : State} (h : Counted w u t) (k : Writes P s u) (lo : ¬ P w.addr)
    (hi : ¬ P (w.addr + 4)) : Counted w s t := by
  unfold Counted at h
  rwa [State.rdW_congr (k.word lo) (k.word hi)] at h

/-! ### Refused writes of a course's loops (R143, R162) -/

/-- What counting and reporting a refusal of course `c` may write: its fault words and counters, and the cascade words. -/
abbrev RefusalWord (c a : Nat) : Prop :=
  CascadeWord a ∨ (0x300030 + 65536 * (c % 19) ≤ a ∧ a < 0x300080 + 65536 * (c % 19))

/-- `w` is a counter of course `c`. -/
structure CourseCounter (c : Nat) (w : Wide) : Prop where
  width : w.width = 48
  lo : 0x300034 + 65536 * (c % 19) ≤ w.addr
  hi : w.addr + 4 < 0x300080 + 65536 * (c % 19)

theorem transferRefused_counter (c : Nat) : CourseCounter c (F.TRANSFER_REFUSED_CNT c) :=
  ⟨rfl, by simp only [F.TRANSFER_REFUSED_CNT]; omega, by simp only [F.TRANSFER_REFUSED_CNT]; omega⟩

theorem paramRefused_counter (c : Nat) : CourseCounter c (F.COURSE_PARAM_REFUSED_CNT c) :=
  ⟨rfl, by simp only [F.COURSE_PARAM_REFUSED_CNT]; omega, by simp only [F.COURSE_PARAM_REFUSED_CNT]; omega⟩

/-- A counter in a course's window saturates with FABRIC's SATURATED (R463). -/
theorem saturatedSource_course {a : Nat} (lo : 0x300000 ≤ a) (hi : a < 0x430000) : saturatedSource a = Src.FABRIC.SATURATED := by
  have owner : ownerBlock a = some 25 ∨ ownerBlock a = some 26 := by
    simp (disch := omega) only [ownerBlock, if_neg]
    split_ifs <;> simp
  rcases owner with h | h <;> simp [saturatedSource, h]

section
variable {c : Nat} {w : Wide} (h : CourseCounter c w)
include h

theorem CourseCounter.fabric : saturatedSource w.addr = Src.FABRIC.SATURATED := by
  obtain ⟨_, lo, hi⟩ := h
  exact saturatedSource_course (by omega) (by omega)

theorem CourseCounter.not_raised {a bit : Nat} (ha : w.addr ≤ a) : ¬ RaiseWord [⟨FB.COURSE c, bit⟩] a := by
  obtain ⟨_, lo, hi⟩ := h
  refine not_raiseWord ?_ ?_
  · rintro ⟨_, below⟩
    omega
  · simp only [FB.COURSE]
    omega

theorem CourseCounter.counted (s : State) (bit : Nat) : Counted w s ((s.bump w).raise ⟨FB.COURSE c, bit⟩) :=
  s.rdW_bumpBy_raise ⟨FB.COURSE c, bit⟩ h.fabric h.width (h.not_raised le_rfl) (h.not_raised (Nat.le_add_right _ 4)) 1

theorem CourseCounter.writes (s : State) (bit : Nat) : Writes (RefusalWord c) s ((s.bump w).raise ⟨FB.COURSE c, bit⟩) := by
  obtain ⟨_, lo, hi⟩ := id h
  refine ((s.bumpBy_writes h.fabric 1).mono ?_).trans ((State.raise_writes _ _).mono ?_)
  · rintro a (rfl | rfl | cascade)
    · exact .inr (by omega)
    · exact .inr (by omega)
    · exact .inl cascade
  · rintro a (cascade | ⟨x, hx, rfl⟩)
    · exact .inl cascade
    · rw [List.mem_singleton.mp hx]
      exact .inr (by simp only [FB.COURSE]; omega)

end

theorem State.refuseTransfer_reports (s : State) (l : Nat) : Reports s (s.refuseTransfer l) :=
  (s.bump_reports _).trans (State.raise_reports _ _)

theorem State.refuseTransfer_writes (s : State) (l : Nat) : Writes (RefusalWord (loopCourse l)) s (s.refuseTransfer l) :=
  (transferRefused_counter _).writes s 8

theorem State.refuseTransfer_counted (s : State) (l : Nat) :
    Counted (F.TRANSFER_REFUSED_CNT (loopCourse l)) s (s.refuseTransfer l) := (transferRefused_counter _).counted s 8

theorem State.refuseParam_reports (s : State) (l : Nat) : Reports s (s.refuseParam l) :=
  (s.bump_reports _).trans (State.raise_reports _ _)

theorem State.refuseParam_writes (s : State) (l : Nat) : Writes (RefusalWord (loopCourse l)) s (s.refuseParam l) :=
  (paramRefused_counter _).writes s 7

theorem State.refuseParam_counted (s : State) (l : Nat) :
    Counted (F.COURSE_PARAM_REFUSED_CNT (loopCourse l)) s (s.refuseParam l) := (paramRefused_counter _).counted s 7

end Sys2Proof.Machine

namespace Sys2Proof.Machine

/-! ## The states of loops (R140–R142)

LOOP_CTRL and LOOP_STAT of a loop, and what settling a loop or a course writes. -/

/-- The words of the loop arrays in the windows of the courses (R163). -/
abbrev LoopArrayWord (a : Nat) : Prop := 0x300000 ≤ a ∧ a < tilesFrom ∧ 0x1000 ≤ a % 65536

theorem loopCtrl_array (l : Nat) : LoopArrayWord (loopCtrlTarget l).addr := by
  simp only [LoopArrayWord, loopCtrlTarget, F.LOOP_CTRL.TARGET, tilesFrom]
  omega

theorem loopStat_array (l : Nat) : LoopArrayWord (loopStatState l).addr := by
  simp only [LoopArrayWord, loopStatState, F.LOOP_STAT.STATE, tilesFrom]
  omega

theorem loopStat_ne_loopCtrl (l : Nat) : (loopStatState l).addr ≠ (loopCtrlTarget l).addr := by
  simp only [loopStatState, loopCtrlTarget, F.LOOP_STAT.STATE, F.LOOP_CTRL.TARGET]
  omega

theorem LoopArrayWord.not_refusal {a : Nat} (h : LoopArrayWord a) (c : Nat) : ¬ RefusalWord c a := by
  simp only [LoopArrayWord, RefusalWord, CascadeWord] at *
  omega

theorem not_loopArray_of_tile {a : Nat} (tile : tilesFrom ≤ a) : ¬ LoopArrayWord a := fun h => Nat.not_lt_of_le tile h.2.1

theorem courseCtrl_not_array (c : Nat) : ¬ LoopArrayWord (F.COURSE_CTRL.HOLD_ALL c).addr := by
  simp only [LoopArrayWord, F.COURSE_CTRL.HOLD_ALL]
  omega

theorem courseCtrl_not_refusal (c d : Nat) : ¬ RefusalWord d (F.COURSE_CTRL.HOLD_ALL c).addr := by
  simp only [RefusalWord, CascadeWord, F.COURSE_CTRL.HOLD_ALL]
  omega

theorem CourseCounter.not_array {c a : Nat} {w : Wide} (h : CourseCounter c w) (ha : w.addr ≤ a ∧ a ≤ w.addr + 4) :
    ¬ LoopArrayWord a := by
  obtain ⟨_, lo, hi⟩ := h
  simp only [LoopArrayWord]
  omega

theorem State.loopGoal_lt (s : State) (l : Nat) : s.loopGoal l < 4 := by
  unfold State.loopGoal
  split
  · decide
  · split <;> decide
  · decide

theorem State.loopState_lt (s : State) (l : Nat) : s.loopState l < 4 := by
  have goal := s.loopGoal_lt l
  have told : s.rd (loopStatState l) < 4 := bitsOf_lt _ _ 2
  unfold State.loopState
  dsimp only
  split_ifs <;> omega

theorem State.settleLoop_puts (s : State) (l : Nat) : Puts (· = (loopStatState l).addr) s (s.settleLoop l) :=
  (Puts.refl _ s).wr rfl

theorem State.rd_settleLoop_state (s : State) (l : Nat) : (s.settleLoop l).rd (loopStatState l) = s.loopState l :=
  s.rd_wr_same _ (show 0 + 2 ≤ 32 by decide) (s.loopState_lt l)

theorem State.hEvt_settleLoop (s : State) (l : Nat) : (s.settleLoop l).hEvt l = s.hEvt l :=
  congrArg (· == 1) (s.rd_wr_disjoint _ (show 0 + 2 ≤ 32 by decide) (.inr (.inl (show 0 + 2 ≤ 4 by decide))))

theorem State.settleCourse_puts (s : State) (c : Nat) : Puts LoopArrayWord s (s.settleCourse c) :=
  (Puts.refl _ s).foldl fun h => h.wr (loopStat_array _)

/-- A state in which STATE tells what a loop's state was, its goal the same, has the loop in that state. -/
theorem State.loopState_settled {s t : State} {l : Nat} (goal : t.loopGoal l = s.loopGoal l) (warm : t.hWarm l = s.hWarm l)
    (told : t.rd (loopStatState l) = s.loopState l) : t.loopState l = s.loopState l := by
  have was : s.loopState l = if s.hWarm l then s.loopGoal l else if s.rd (loopStatState l) = 2 then 2
      else if s.loopGoal l = 2 then s.rd (loopStatState l) else s.loopGoal l := rfl
  rw [State.loopState, goal, warm, told]
  split_ifs at was ⊢ <;> omega

theorem State.hHost_congr {s t : State} {l : Nat}
    (hold : t.rd (F.LOOP_CTRL.HOLD (loopCourse l) (loopIndex l)) = s.rd (F.LOOP_CTRL.HOLD (loopCourse l) (loopIndex l)))
    (all : t.rd (F.COURSE_CTRL.HOLD_ALL (loopCourse l)) = s.rd (F.COURSE_CTRL.HOLD_ALL (loopCourse l))) :
    t.hHost l = s.hHost l := by
  rw [State.hHost, State.hHost, State.flag, State.flag, hold, all]
  rfl

/-- The enables and the link on which a transfer into AUTO depends lie in the tiles' windows and in the loop's record. -/
theorem State.autoRefused_of_puts {s t : State} (h : Puts LoopArrayWord s t) (l : Nat) : t.autoRefused l = s.autoRefused l := by
  have pock : t.flag (F.DRV_ENABLE.POCK_EN (loopTile l)) = s.flag (F.DRV_ENABLE.POCK_EN (loopTile l)) :=
    h.flag (not_loopArray_of_tile (by simp only [F.DRV_ENABLE.POCK_EN, tilesFrom]; omega))
  have htr : t.flag (F.DRV_ENABLE.HTR_EN (loopTile l)) = s.flag (F.DRV_ENABLE.HTR_EN (loopTile l)) :=
    h.flag (not_loopArray_of_tile (by simp only [F.DRV_ENABLE.HTR_EN, tilesFrom]; omega))
  have heart : t.flag (F.CTRL.HEART_EN l) = s.flag (F.CTRL.HEART_EN l) :=
    h.flag (not_loopArray_of_tile (by simp only [F.CTRL.HEART_EN, tilesFrom]; omega))
  have link : t.linkUp (loopTile l) = s.linkUp (loopTile l) :=
    h.flag (not_loopArray_of_tile (by simp only [F.TILE_LINK_STATUS.UP, tilesFrom]; omega))
  rw [State.autoRefused, State.autoRefused, pock, htr, heart, link]

end Sys2Proof.Machine

namespace Sys2Proof.Machine

/-! ## Writes of LOOP_CTRL and COURSE_CTRL (R140, R141, R143, R151, R152) -/

/-- The device refuses TARGET this value (R140, R143). -/
abbrev State.TargetRefused (s : State) (l target : Nat) : Prop := target = 3 ∨ (target = 2 ∧ s.autoRefused l = true)

/-- TARGET takes a value, or the write of it is refused. -/
def State.takeTarget (s : State) (l target : Nat) : State :=
  if s.TargetRefused l target then s.refuseTransfer l else s.wr (loopCtrlTarget l) target

/-- The bits of LOOP_CTRL besides TARGET and REP_RESET as a write leaves them. -/
def State.putCtrl (s : State) (l : Nat) (w : Word) : State :=
  ((s.wr (F.LOOP_CTRL.HOLD (loopCourse l) (loopIndex l)) (bitsOf w 2 1)).wr
    (F.LOOP_CTRL.EVT_MASK (loopCourse l) (loopIndex l)) (bitsOf w 3 1)).wr
    (F.LOOP_CTRL.REP_FREEZE (loopCourse l) (loopIndex l)) (bitsOf w 4 1)

/-- A write of LOOP_CTRL but for its REP_RESET. -/
def State.ctrlTaken (s : State) (l : Nat) (w : Word) : State :=
  ((s.settleLoop l).takeTarget l (bitsOf w 0 2)).putCtrl l w

theorem State.writeLoopCtrl_eq (s : State) (l : Nat) (w : Word) : s.writeLoopCtrl l w =
    if bitsOf w 5 2 = 0 then s.ctrlTaken l w else (s.ctrlTaken l w).repReset l (bitsOf w 5 2) := rfl

/-- What a write of LOOP_CTRL leaves (R140, R141, R151): each field as written, except a TARGET that is refused and counted, and
the loop in the state it was in. -/
structure LoopCtrlWritten (s t : State) (l : Nat) (w : Word) : Prop where
  target : t.rd (loopCtrlTarget l) = if s.TargetRefused l (bitsOf w 0 2) then s.rd (loopCtrlTarget l) else bitsOf w 0 2
  hold : t.rd (F.LOOP_CTRL.HOLD (loopCourse l) (loopIndex l)) = bitsOf w 2 1
  freeze : t.rd (F.LOOP_CTRL.REP_FREEZE (loopCourse l) (loopIndex l)) = bitsOf w 4 1
  state : t.rd (loopStatState l) = s.loopState l
  courseHold : t.rd (F.COURSE_CTRL.HOLD_ALL (loopCourse l)) = s.rd (F.COURSE_CTRL.HOLD_ALL (loopCourse l))
  counted : s.TargetRefused l (bitsOf w 0 2) → Counted (F.TRANSFER_REFUSED_CNT (loopCourse l)) s t
  outbox : ¬ s.TargetRefused l (bitsOf w 0 2) → t.outbox = s.outbox
  tiles : t.tiles = s.tiles
  mem : t.mem = s.mem

/-! ### The parts of the write -/

section
variable (s : State) (l : Nat) (w : Word)

theorem State.takeTarget_reports (target : Nat) : Reports s (s.takeTarget l target) := by
  unfold State.takeTarget
  split
  · exact s.refuseTransfer_reports l
  · exact s.wr_reports _ _

theorem State.takeTarget_writes (target : Nat) :
    Writes (fun a => a = (loopCtrlTarget l).addr ∨ RefusalWord (loopCourse l) a) s (s.takeTarget l target) := by
  unfold State.takeTarget
  split
  · exact (s.refuseTransfer_writes l).mono fun _ => .inr
  · exact (Writes.refl _ s).wr (.inl rfl)

theorem State.rd_takeTarget {target : Nat} (small : target < 4) : (s.takeTarget l target).rd (loopCtrlTarget l) =
    if s.TargetRefused l target then s.rd (loopCtrlTarget l) else target := by
  unfold State.takeTarget
  split
  · exact (s.refuseTransfer_writes l).rd ((loopCtrl_array l).not_refusal _)
  · exact s.rd_wr_same _ (show 0 + 2 ≤ 32 by decide) small

theorem State.putCtrl_puts : Puts (· = (loopCtrlTarget l).addr) s (s.putCtrl l w) := by
  unfold State.putCtrl
  refine (((Puts.refl _ s).wr ?_).wr ?_).wr ?_
  · rfl
  · rfl
  · rfl

theorem State.rd_putCtrl : (s.putCtrl l w).rd (loopCtrlTarget l) = s.rd (loopCtrlTarget l) ∧
    (s.putCtrl l w).rd (F.LOOP_CTRL.HOLD (loopCourse l) (loopIndex l)) = bitsOf w 2 1 ∧
    (s.putCtrl l w).rd (F.LOOP_CTRL.REP_FREEZE (loopCourse l) (loopIndex l)) = bitsOf w 4 1 := by
  simp [State.putCtrl, loopCtrlTarget, F.LOOP_CTRL.TARGET, F.LOOP_CTRL.HOLD, F.LOOP_CTRL.EVT_MASK, F.LOOP_CTRL.REP_FREEZE,
    State.rd_wr_disjoint, State.rd_wr_mod, bitsOf]

/-- Where a write of LOOP_CTRL puts words, but for REP_RESET. -/
abbrev CtrlWord (a : Nat) : Prop :=
  a = (loopCtrlTarget l).addr ∨ a = (loopStatState l).addr ∨ RefusalWord (loopCourse l) a

theorem State.ctrlTaken_writes : Writes (CtrlWord l) s (s.ctrlTaken l w) := by
  refine (((s.settleLoop_puts l).writes.mono fun _ h => .inr (.inl h)).trans
    ((State.takeTarget_writes _ l _).mono ?_)).trans ((State.putCtrl_puts _ l w).writes.mono fun _ => .inl)
  exact fun a h => h.imp_right .inr

theorem State.word_ctrlTaken_stat : (s.ctrlTaken l w).word (loopStatState l).addr =
    (s.settleLoop l).word (loopStatState l).addr :=
  ((State.putCtrl_puts _ l w).writes.word (loopStat_ne_loopCtrl l)).trans ((State.takeTarget_writes _ l _).word
    fun h => h.elim (loopStat_ne_loopCtrl l) ((loopStat_array l).not_refusal _))

theorem State.ctrlTaken_reports : Reports s (s.ctrlTaken l w) :=
  ((s.wr_reports _ _).trans (State.takeTarget_reports _ l _)).trans
    (((State.wr_reports _ _ _).trans (State.wr_reports _ _ _)).trans (State.wr_reports _ _ _))

theorem State.ctrlTaken_written : LoopCtrlWritten s (s.ctrlTaken l w) l w := by
  have settled := s.settleLoop_puts l
  have refused : (s.settleLoop l).TargetRefused l (bitsOf w 0 2) ↔ s.TargetRefused l (bitsOf w 0 2) := by
    rw [State.TargetRefused, State.autoRefused_of_puts (settled.mono fun _ h => h ▸ loopStat_array l)]
  have put := ((s.settleLoop l).takeTarget l (bitsOf w 0 2)).putCtrl_puts l w
  obtain ⟨target, hold, freeze⟩ := ((s.settleLoop l).takeTarget l (bitsOf w 0 2)).rd_putCtrl l w
  have reports := s.ctrlTaken_reports l w
  refine ⟨target.trans ?_, hold, freeze, ?_, (s.ctrlTaken_writes l w).rd ?_, fun barred => ?_, fun taken => ?_, reports.tiles,
    reports.mem⟩
  · rw [State.rd_takeTarget _ l (bitsOf_lt w 0 2), settled.rd (f := loopCtrlTarget l) (loopStat_ne_loopCtrl l).symm]
    simp only [refused]
  · exact (congrArg (bitsOf · 0 2) (s.word_ctrlTaken_stat l w)).trans (s.rd_settleLoop_state l)
  · rintro (ctrl | stat | refusal)
    · exact courseCtrl_not_array _ (ctrl ▸ loopCtrl_array l)
    · exact courseCtrl_not_array _ (stat ▸ loopStat_array l)
    · exact courseCtrl_not_refusal _ _ refusal
  · have counter := transferRefused_counter (loopCourse l)
    have lo := counter.not_array ⟨le_rfl, Nat.le_add_right _ 4⟩
    have hi := counter.not_array ⟨Nat.le_add_right _ 4, le_rfl⟩
    have counted : Counted (F.TRANSFER_REFUSED_CNT (loopCourse l)) (s.settleLoop l)
        ((s.settleLoop l).takeTarget l (bitsOf w 0 2)) := by
      rw [State.takeTarget, if_pos (refused.mpr barred)]
      exact State.refuseTransfer_counted _ l
    exact (counted.before settled.writes (fun e => lo (e ▸ loopStat_array l)) (fun e => hi (e ▸ loopStat_array l))).after
      put.writes (fun e => lo (e ▸ loopCtrl_array l)) (fun e => hi (e ▸ loopCtrl_array l))
  · have wrote : (s.settleLoop l).takeTarget l (bitsOf w 0 2) = (s.settleLoop l).wr (loopCtrlTarget l) (bitsOf w 0 2) :=
      if_neg (refused.not.mpr taken)
    rw [State.ctrlTaken, put.outbox, wrote]
    rfl

end

/-! ### REP_RESET (R152) -/

/-- The words of repetitive memory (R153). -/
abbrev RepWord (a : Nat) : Prop := 0x880000 ≤ a

theorem repEntry_word (l st k : Nat) : RepWord (F.REP.ENTRY l st k).addr := by
  simp only [RepWord, F.REP.ENTRY]
  omega

theorem LoopArrayWord.not_rep {a : Nat} (h : LoopArrayWord a) : ¬ RepWord a := by
  simp only [LoopArrayWord, RepWord, tilesFrom] at *
  omega

theorem courseWord_not_rep {a : Nat} (h : a < tilesFrom) : ¬ RepWord a := by
  simp only [RepWord, tilesFrom] at *
  omega

theorem State.clearRep_puts (s : State) (l bits : Nat) : Puts RepWord s (s.clearRep l bits) := by
  refine (Puts.refl _ s).foldl fun h => ?_
  split
  · exact h.foldl fun h => h.wr (repEntry_word _ _ _)
  · exact h

/-- A write of one entry leaves an entry 0 that is 0 already. -/
theorem State.rd_wr_rep_zero (s : State) (l : Nat) {st k i j : Nat} (zero : s.rd (F.REP.ENTRY l st k) = 0) :
    (s.wr (F.REP.ENTRY l i j) 0).rd (F.REP.ENTRY l st k) = 0 := by
  have fits : 16 * (j % 2) + 16 ≤ 32 := by omega
  by_cases same : F.REP.ENTRY l i j = F.REP.ENTRY l st k
  · rw [← same, State.rd_wr_mod _ _ _ fits, Nat.zero_mod]
  · rw [State.rd_wr_disjoint _ _ fits, zero]
    by_cases half : j % 2 = k % 2
    · exact .inl fun place => same (Field.mk.injEq .. ▸ ⟨place, congrArg (16 * ·) half, rfl⟩)
    · exact .inr (show 16 * (j % 2) + 16 ≤ 16 * (k % 2) ∨ 16 * (k % 2) + 16 ≤ 16 * (j % 2) by omega)

/-- The entries of state `st` of the loop cleared. -/
def State.clearEntries (s : State) (l st : Nat) : State := (List.range 64).foldl (fun s k => s.wr (F.REP.ENTRY l st k) 0) s

theorem State.clearRep_eq (s : State) (l bits : Nat) :
    s.clearRep l bits = (List.range 2).foldl (fun s st => if bits.testBit st then s.clearEntries l st else s) s := rfl

theorem State.rd_clearEntries (s : State) (l st : Nat) {k : Nat} (hk : k < 64) :
    (s.clearEntries l st).rd (F.REP.ENTRY l st k) = 0 := by
  unfold State.clearEntries
  refine foldl_reaches (I := fun _ => True) (P := fun t => t.rd (F.REP.ENTRY l st k) = 0) (List.mem_range.mpr hk)
    (fun _ _ _ _ => trivial) (fun u _ => ?_) (fun u j _ _ zero => u.rd_wr_rep_zero l zero) trivial
  rw [u.rd_wr_mod _ 0 (show 16 * (k % 2) + 16 ≤ 32 by omega), Nat.zero_mod]

theorem State.rd_clearEntries_zero (s : State) (l i : Nat) {st k : Nat} (zero : s.rd (F.REP.ENTRY l st k) = 0) :
    (s.clearEntries l i).rd (F.REP.ENTRY l st k) = 0 := by
  unfold State.clearEntries
  exact List.foldlRecOn (motive := fun t : State => t.rd (F.REP.ENTRY l st k) = 0) _ _ zero
    fun u h j _ => u.rd_wr_rep_zero l h

theorem State.rd_clearRep (s : State) (l : Nat) {bits st k : Nat} (hst : st < 2) (hk : k < 64) (named : bits.testBit st = true) :
    (s.clearRep l bits).rd (F.REP.ENTRY l st k) = 0 := by
  rw [State.clearRep_eq]
  refine foldl_reaches (I := fun _ => True) (P := fun t => t.rd (F.REP.ENTRY l st k) = 0) (List.mem_range.mpr hst)
    (fun _ _ _ _ => trivial) (fun u _ => ?_) (fun u i _ _ zero => ?_) trivial
  · rw [if_pos named]
    exact u.rd_clearEntries l st hk
  · split
    · exact u.rd_clearEntries_zero l i zero
    · exact zero

theorem State.loopMem_setLoopMem_same (s : State) (l : Nat) (x : LoopMem) : (s.setLoopMem l x).loopMem l = x :=
  sparseGet_put_same _ s.loops l x

/-- In AUTO the reset waits in the loop's memory. -/
theorem State.repReset_auto {s : State} {l : Nat} (auto : s.loopState l = 2) (bits : Nat) :
    s.repReset l bits = s.setLoopMem l { s.loopMem l with repReset := (s.loopMem l).repReset ||| bits } := if_pos auto

theorem State.repReset_now {s : State} {l : Nat} (idle : s.loopState l ≠ 2) (bits : Nat) : s.repReset l bits = s.clearRep l bits :=
  if_neg idle

theorem State.repReset_aside (s : State) (l bits : Nat) : Writes RepWord s (s.repReset l bits) ∧
    (s.repReset l bits).tiles = s.tiles ∧ (s.repReset l bits).mem = s.mem ∧ (s.repReset l bits).outbox = s.outbox := by
  by_cases auto : s.loopState l = 2
  · rw [State.repReset_auto auto]
    exact ⟨.refl _ s, rfl, rfl, rfl⟩
  · rw [State.repReset_now auto]
    have puts := s.clearRep_puts l bits
    exact ⟨puts.writes, puts.tiles, puts.mem, puts.outbox⟩

theorem LoopCtrlWritten.repReset {s u : State} {l : Nat} {w : Word} (h : LoopCtrlWritten s u l w) (bits : Nat) :
    LoopCtrlWritten s (u.repReset l bits) l w := by
  obtain ⟨writes, tiles, mem, outbox⟩ := u.repReset_aside l bits
  have ctrl := (loopCtrl_array l).not_rep
  have counter := transferRefused_counter (loopCourse l)
  have below : (F.TRANSFER_REFUSED_CNT (loopCourse l)).addr + 4 < tilesFrom := by
    simp only [F.TRANSFER_REFUSED_CNT, tilesFrom]
    omega
  exact {
    target := (writes.rd ctrl).trans h.target
    hold := (writes.rd (f := F.LOOP_CTRL.HOLD _ _) ctrl).trans h.hold
    freeze := (writes.rd (f := F.LOOP_CTRL.REP_FREEZE _ _) ctrl).trans h.freeze
    state := (writes.rd (loopStat_array l).not_rep).trans h.state
    courseHold := (writes.rd (courseWord_not_rep (by simp only [F.COURSE_CTRL.HOLD_ALL, tilesFrom]; omega))).trans h.courseHold
    counted := fun barred => (h.counted barred).after writes (courseWord_not_rep (by omega)) (courseWord_not_rep below)
    outbox := fun taken => outbox.trans (h.outbox taken)
    tiles := tiles.trans h.tiles
    mem := mem.trans h.mem }

theorem State.writeLoopCtrl_written (s : State) (l : Nat) (w : Word) : LoopCtrlWritten s (s.writeLoopCtrl l w) l w := by
  rw [State.writeLoopCtrl_eq]
  split
  · exact s.ctrlTaken_written l w
  · exact (s.ctrlTaken_written l w).repReset _

/-! ### The fields of the word that one command replaces -/

theorem State.bitsOf_loopCtrlWith_same (s : State) (l : Nat) {lsb width v : Nat} (fits : lsb + width ≤ 32) (small : v < 2 ^ width) :
    bitsOf (s.loopCtrlWith l lsb width v) lsb width = v := bitsOf_withBits_same _ fits small

theorem State.bitsOf_loopCtrlWith_apart (s : State) (l : Nat) {lsb width lsb' width' : Nat} (v : Nat) (fits : lsb + width ≤ 32)
    (apart : lsb + width ≤ lsb' ∨ lsb' + width' ≤ lsb) :
    bitsOf (s.loopCtrlWith l lsb width v) lsb' width' = s.rd ⟨(loopCtrlTarget l).addr, lsb', width'⟩ :=
  bitsOf_withBits_disjoint _ v fits apart

/-- A write that leaves TARGET's bits leaves TARGET, refused or not. -/
theorem LoopCtrlWritten.target_kept {s t : State} {l : Nat} {w : Word} (h : LoopCtrlWritten s t l w)
    (kept : bitsOf w 0 2 = s.rd (loopCtrlTarget l)) : t.rd (loopCtrlTarget l) = s.rd (loopCtrlTarget l) := by
  rw [h.target, kept, ite_self]

theorem toNat_beq_one (on : Bool) : (on.toNat == 1) = on := by cases on <;> rfl

section
variable (s : State) (m : Master)

theorem loopTargetWrite_takes (l : Fin 4864) (v : Fin 4) (ok : s.writeAccess m (loopCtrlTarget l).addr = .ok) (valid : v.val ≠ 3)
    (allowed : v.val = 2 → s.autoRefused l = false) :
    ∃ t, exec (.loopTargetWrite m l v) s = .next t ∧ t.rd (loopCtrlTarget l) = v ∧ t.rd (loopStatState l) = s.loopState l ∧
      t.hHost l = s.hHost l ∧ t.tiles = s.tiles ∧ t.mem = s.mem ∧ t.outbox = s.outbox := by
  have written := s.writeLoopCtrl_written l (s.loopCtrlWith l 0 2 v)
  have target : bitsOf (s.loopCtrlWith l 0 2 v) 0 2 = v := s.bitsOf_loopCtrlWith_same l (by decide) v.isLt
  have taken : ¬ s.TargetRefused l (bitsOf (s.loopCtrlWith l 0 2 v) 0 2) := by
    rw [target]
    rintro (bad | ⟨auto, refused⟩)
    · exact valid bad
    · exact Bool.false_ne_true ((allowed auto).symm.trans refused)
  refine ⟨_, congrArg Host.Outcome.next (s.gate_ok m _ _ ok), ?_, written.state, State.hHost_congr ?_ written.courseHold,
    written.tiles, written.mem, written.outbox taken⟩
  · rw [written.target, if_neg taken, target]
  · exact written.hold.trans (s.bitsOf_loopCtrlWith_apart l _ (by decide) (.inl (by decide)))

theorem loopTargetWrite_refused (l : Fin 4864) (v : Fin 4) (ok : s.writeAccess m (loopCtrlTarget l).addr = .ok)
    (bad : v.val = 3 ∨ (v.val = 2 ∧ s.autoRefused l = true)) :
    ∃ t, exec (.loopTargetWrite m l v) s = .next t ∧ t.rd (loopCtrlTarget l) = s.rd (loopCtrlTarget l) ∧
      Counted (F.TRANSFER_REFUSED_CNT (loopCourse l)) s t ∧ t.tiles = s.tiles ∧ t.mem = s.mem := by
  have written := s.writeLoopCtrl_written l (s.loopCtrlWith l 0 2 v)
  have refused : s.TargetRefused l (bitsOf (s.loopCtrlWith l 0 2 v) 0 2) := by
    rwa [s.bitsOf_loopCtrlWith_same l (by decide) v.isLt]
  exact ⟨_, congrArg Host.Outcome.next (s.gate_ok m _ _ ok), written.target.trans (if_pos refused), written.counted refused,
    written.tiles, written.mem⟩

theorem loopHoldWrite_holds (l : Fin 4864) (on : Bool) (ok : s.writeAccess m (loopCtrlTarget l).addr = .ok) :
    ∃ t, exec (.loopHoldWrite m (.loop l) on) s = .next t ∧ t.flag (F.LOOP_CTRL.HOLD (loopCourse l) (loopIndex l)) = on ∧
      t.rd (loopCtrlTarget l) = s.rd (loopCtrlTarget l) ∧ t.tiles = s.tiles ∧ t.mem = s.mem := by
  have written := s.writeLoopCtrl_written l (s.loopCtrlWith l 2 1 on.toNat)
  refine ⟨_, congrArg Host.Outcome.next (s.gate_ok m _ _ ok), ?_,
    written.target_kept (s.bitsOf_loopCtrlWith_apart l _ (by decide) (.inr (by decide))), written.tiles, written.mem⟩
  rw [State.flag, written.hold, s.bitsOf_loopCtrlWith_same l (by decide) on.toNat_lt, toNat_beq_one]

theorem repFreezeWrite_freezes (l : Fin 4864) (on : Bool) (ok : s.writeAccess m (loopCtrlTarget l).addr = .ok) :
    ∃ t, exec (.repFreezeWrite m (.loop l) on) s = .next t ∧
      t.flag (F.LOOP_CTRL.REP_FREEZE (loopCourse l) (loopIndex l)) = on ∧
      t.rd (loopCtrlTarget l) = s.rd (loopCtrlTarget l) ∧ t.tiles = s.tiles ∧ t.mem = s.mem := by
  have written := s.writeLoopCtrl_written l (s.loopCtrlWith l 4 1 on.toNat)
  refine ⟨_, congrArg Host.Outcome.next (s.gate_ok m _ _ ok), ?_,
    written.target_kept (s.bitsOf_loopCtrlWith_apart l _ (by decide) (.inr (by decide))), written.tiles, written.mem⟩
  rw [State.flag, written.freeze, s.bitsOf_loopCtrlWith_same l (by decide) on.toNat_lt, toNat_beq_one]

/-- A write of LOOP_CTRL that leaves TARGET and HOLD as they are leaves the loop in its state. -/
theorem State.loopState_ctrlTaken {l : Nat} {w : Word} (target : bitsOf w 0 2 = s.rd (loopCtrlTarget l))
    (hold : bitsOf w 2 1 = s.rd (F.LOOP_CTRL.HOLD (loopCourse l) (loopIndex l))) :
    (s.ctrlTaken l w).loopState l = s.loopState l := by
  have written := s.ctrlTaken_written l w
  have reports := s.ctrlTaken_reports l w
  have host : (s.ctrlTaken l w).hHost l = s.hHost l := State.hHost_congr (written.hold.trans hold) written.courseHold
  have cal : (s.ctrlTaken l w).hCal l = s.hCal l := by rw [State.hCal, reports.calib, State.hCal]
  have warm : (s.ctrlTaken l w).hWarm l = s.hWarm l := by rw [State.hWarm, reports.warmHold, State.hWarm]
  have evt : (s.ctrlTaken l w).hEvt l = s.hEvt l := by
    refine (congrArg (bitsOf · 4 1 == 1) ?_).trans (s.hEvt_settleLoop l)
    exact s.word_ctrlTaken_stat l w
  refine State.loopState_settled ?_ warm written.state
  rw [State.loopGoal, State.loopGoal, written.target_kept target, State.held, State.held, host, cal, warm, evt]

theorem repReset_resets (l : Fin 4864) (b : Fin 4) (ok : s.writeAccess m (loopCtrlTarget l).addr = .ok) (any : b.val ≠ 0) :
    ∃ t, exec (.repReset m l b) s = .next t ∧
      (s.loopState l = 2 → (t.loopMem l).repReset = ((s.loopMem l).repReset ||| b.val) ∧
        ∀ st k, st < 2 → k < 64 → t.rd (F.REP.ENTRY l st k) = s.rd (F.REP.ENTRY l st k)) ∧
      (s.loopState l ≠ 2 → t.loops = s.loops ∧
        ∀ st k, st < 2 → k < 64 → b.val.testBit st = true → t.rd (F.REP.ENTRY l st k) = 0) ∧
      t.tiles = s.tiles ∧ t.mem = s.mem := by
  have bits : bitsOf (s.loopCtrlWith l 5 2 b) 5 2 = b := s.bitsOf_loopCtrlWith_same l (by decide) b.isLt
  have reset : s.writeLoopCtrl l (s.loopCtrlWith l 5 2 b) = (s.ctrlTaken l (s.loopCtrlWith l 5 2 b)).repReset l b := by
    rw [State.writeLoopCtrl_eq, bits, if_neg any]
  have commanded : exec (.repReset m l b) s = .next ((s.ctrlTaken l (s.loopCtrlWith l 5 2 b)).repReset l b) :=
    congrArg Host.Outcome.next ((s.gate_ok m _ _ ok).trans reset)
  have state : (s.ctrlTaken l (s.loopCtrlWith l 5 2 b)).loopState l = s.loopState l := s.loopState_ctrlTaken
    (s.bitsOf_loopCtrlWith_apart l _ (by decide) (.inr (by decide)))
    (s.bitsOf_loopCtrlWith_apart l _ (by decide) (.inr (by decide)))
  have loops := (s.ctrlTaken_reports l (s.loopCtrlWith l 5 2 b)).loops
  have written := (s.ctrlTaken_written l (s.loopCtrlWith l 5 2 b)).repReset b
  refine ⟨_, commanded, fun auto => ?_, fun idle => ?_, written.tiles, written.mem⟩
  · rw [State.repReset_auto (state.trans auto)]
    refine ⟨?_, fun st k _ _ => ((s.ctrlTaken_writes l (s.loopCtrlWith l 5 2 b)).regs_eq (State.setLoopMem_regs _ _ _)).rd ?_⟩
    · rw [State.loopMem_setLoopMem_same, State.loopMem, loops, State.loopMem]
    · have rep := repEntry_word l st k
      rintro (ctrl | stat | refusal)
      · exact (loopCtrl_array l).not_rep (ctrl ▸ rep)
      · exact (loopStat_array l).not_rep (stat ▸ rep)
      · simp only [RepWord, RefusalWord, CascadeWord] at rep refusal
        omega
  · rw [State.repReset_now (fun auto => idle (state.symm.trans auto))]
    exact ⟨(State.clearRep_puts _ _ _).loops.trans loops, fun st k hst hk named => State.rd_clearRep _ _ hst hk named⟩

/-! ### The course's holds and freezes -/

theorem State.writeCourseCtrl_puts (c : Nat) (w : Word) :
    Puts (fun a => a = (F.COURSE_CTRL.HOLD_ALL c).addr ∨ LoopArrayWord a) s (s.writeCourseCtrl c w) :=
  (((s.settleCourse_puts c).mono fun _ => .inr).wr (.inl rfl)).wr (.inl rfl)

theorem State.flag_writeCourseCtrl (c : Nat) (w : Word) :
    (s.writeCourseCtrl c w).flag (F.COURSE_CTRL.HOLD_ALL c) = (bitsOf w 0 1 == 1) ∧
      (s.writeCourseCtrl c w).flag (F.COURSE_CTRL.REP_FREEZE_ALL c) = (bitsOf w 1 1 == 1) := by
  simp [State.writeCourseCtrl, State.flag, F.COURSE_CTRL.HOLD_ALL, F.COURSE_CTRL.REP_FREEZE_ALL, State.rd_wr_disjoint,
    State.rd_wr_mod, bitsOf]

theorem loopHoldWrite_course (c : Fin 19) (on : Bool) (ok : s.writeAccess m (F.COURSE_CTRL.HOLD_ALL c).addr = .ok) :
    ∃ t, exec (.loopHoldWrite m (.course c) on) s = .next t ∧ t.flag (F.COURSE_CTRL.HOLD_ALL c) = on ∧
      t.flag (F.COURSE_CTRL.REP_FREEZE_ALL c) = s.flag (F.COURSE_CTRL.REP_FREEZE_ALL c) ∧ t.loops = s.loops ∧
      t.tiles = s.tiles ∧ t.mem = s.mem ∧ t.outbox = s.outbox := by
  have puts := s.writeCourseCtrl_puts c (s.courseCtrlWith c 0 on.toNat)
  obtain ⟨hold, freeze⟩ := s.flag_writeCourseCtrl c (s.courseCtrlWith c 0 on.toNat)
  refine ⟨_, congrArg Host.Outcome.next (s.gate_ok m _ _ ok), hold.trans ?_, freeze.trans ?_, puts.loops, puts.tiles, puts.mem,
    puts.outbox⟩
  · rw [State.courseCtrlWith, bitsOf_withBits_same _ (by decide) on.toNat_lt, toNat_beq_one]
  · rw [State.courseCtrlWith, bitsOf_withBits_disjoint _ _ (by decide) (.inl (by decide))]
    rfl

theorem repFreezeWrite_course (c : Fin 19) (on : Bool) (ok : s.writeAccess m (F.COURSE_CTRL.HOLD_ALL c).addr = .ok) :
    ∃ t, exec (.repFreezeWrite m (.course c) on) s = .next t ∧ t.flag (F.COURSE_CTRL.REP_FREEZE_ALL c) = on ∧
      t.flag (F.COURSE_CTRL.HOLD_ALL c) = s.flag (F.COURSE_CTRL.HOLD_ALL c) ∧ t.loops = s.loops ∧ t.tiles = s.tiles ∧
      t.mem = s.mem ∧ t.outbox = s.outbox := by
  have puts := s.writeCourseCtrl_puts c (s.courseCtrlWith c 1 on.toNat)
  obtain ⟨hold, freeze⟩ := s.flag_writeCourseCtrl c (s.courseCtrlWith c 1 on.toNat)
  refine ⟨_, congrArg Host.Outcome.next (s.gate_ok m _ _ ok), freeze.trans ?_, hold.trans ?_, puts.loops, puts.tiles, puts.mem,
    puts.outbox⟩
  · rw [State.courseCtrlWith, bitsOf_withBits_same _ (by decide) on.toNat_lt, toNat_beq_one]
  · rw [State.courseCtrlWith, bitsOf_withBits_disjoint _ _ (by decide) (.inr (by decide))]
    rfl

/-! ### H_EVT -/

theorem State.clearEvent_puts (f : Field) : Puts (· = f.addr) s (s.clearEvent f) := by
  unfold State.clearEvent
  split
  · exact .refl _ s
  · exact (Puts.refl _ s).setFlag rfl

theorem State.flag_clearEvent {f : Field} (fits : f.lsb + 1 ≤ 32) (one : f.width = 1) :
    (s.clearEvent f).flag f = (s.flag f && s.noted f.key) := by
  unfold State.clearEvent
  split
  · next noted => rw [noted, Bool.and_true]
  · next quiet => rw [s.flag_setFlag_same false fits one, Bool.eq_false_iff.mpr quiet, Bool.and_false]

theorem State.rd_clearEvent_apart {f g : Field} (fits : f.lsb + f.width ≤ 32) (apart : f.Apart g) :
    (s.clearEvent f).rd g = s.rd g := by
  unfold State.clearEvent
  split
  · rfl
  · exact s.rd_wr_disjoint _ fits apart

theorem hEvtClear_clears (l : Fin 4864) (ok : s.writeAccess m (loopStatState l).addr = .ok) :
    ∃ t, exec (.hEvtClear m l) s = .next t ∧
      t.hEvt l = (s.hEvt l && s.fresh.contains ((F.LOOP_STAT.H_EVT (loopCourse l) (loopIndex l)).addr,
        (F.LOOP_STAT.H_EVT (loopCourse l) (loopIndex l)).lsb)) ∧ t.rd (loopStatState l) = s.loopState l ∧
      (∀ a, a ≠ (loopStatState l).addr → t.word a = s.word a) ∧ t.loops = s.loops ∧ t.tiles = s.tiles ∧ t.mem = s.mem ∧
      t.outbox = s.outbox := by
  have puts := (s.settleLoop_puts l).trans
    (State.clearEvent_puts (s.settleLoop l) (F.LOOP_STAT.H_EVT (loopCourse l) (loopIndex l)))
  refine ⟨_, congrArg Host.Outcome.next (s.gate_ok m _ _ ok), ?_, ?_, fun a other => puts.writes.word other, puts.loops,
    puts.tiles, puts.mem, puts.outbox⟩
  · exact ((s.settleLoop l).flag_clearEvent (show 4 + 1 ≤ 32 by decide) rfl).trans (congrArg (· && _) (s.hEvt_settleLoop l))
  · exact ((s.settleLoop l).rd_clearEvent_apart (show 4 + 1 ≤ 32 by decide) (.inr (.inr (show 0 + 2 ≤ 4 by decide)))).trans
      (s.rd_settleLoop_state l)

end

end Sys2Proof.Machine

namespace Sys2Proof.Machine

/-! ## Writes of a loop's record and of its repetitive memory (R134, R135, R137, R153)

Taking pending words changes registers and pending words only, and changes no word as it reads (`lvWord`): so what stands at the
end is what was to be read before. -/

theorem chk_ne_loopWord {l n : Nat} (hn : n < 11) : loopWordAddr l n ≠ (F.CHK.VAL l).addr := by
  simp only [loopWordAddr, F.CHK.VAL]
  omega

/-- The state words of a loop's record (R136). -/
theorem stateWord_addr (l : Nat) : (F.INT0.I0 l).addr = loopWordAddr l 12 ∧ (F.INT1.I1 l).addr = loopWordAddr l 13 ∧
    (F.HEART.HCODE l).addr = loopWordAddr l 14 := by
  simp only [loopWordAddr, F.INT0.I0, F.INT1.I1, F.HEART.HCODE]
  omega

theorem loopWord_tile (l n : Nat) : tilesFrom ≤ loopWordAddr l n := by
  simp only [loopWordAddr, tilesFrom]
  omega

theorem not_refusalWord_of_tile {a : Nat} (c : Nat) (tile : tilesFrom ≤ a) : ¬ RefusalWord c a := by
  simp only [RefusalWord, CascadeWord, tilesFrom] at *
  omega

/-! ### Pending words take effect (R13, R134) -/

theorem mem_sparseInsert_same {α : Type} (l : List (Nat × α)) (k : Nat) (v : α) : (k, v) ∈ sparseInsert l k v := by
  induction l with
  | nil => exact List.mem_cons_self
  | cons e rest ih =>
    unfold sparseInsert
    split_ifs
    · exact List.mem_cons_self
    · exact List.mem_cons_self
    · exact List.mem_cons_of_mem _ ih

section
variable (s : State)

theorem State.word_applyLv_other {a b : Nat} (other : a ≠ b) : (s.applyLv b).word a = s.word a := by
  unfold State.applyLv
  split
  · exact State.word_setWord_other _ _ _ _ other
  · rfl

theorem State.lookup_applyLv_same (a : Nat) : (s.applyLv a).lv.lookup a = none := by
  unfold State.applyLv
  split
  · exact lookup_filter_same s.lv a
  · assumption

theorem State.lookup_applyLv_other {a b : Nat} (other : a ≠ b) : (s.applyLv b).lv.lookup a = s.lv.lookup a := by
  unfold State.applyLv
  split
  · exact lookup_filter_ne s.lv other
  · rfl

theorem State.lvWord_of_none {a : Nat} (none : s.lv.lookup a = none) : s.lvWord a = s.word a := by
  rw [State.lvWord, none]

/-- A pending word that takes effect reads as before. -/
theorem State.lvWord_applyLv (a b : Nat) : (s.applyLv b).lvWord a = s.lvWord a := by
  by_cases same : a = b
  · subst same
    rw [State.lvWord_of_none _ (s.lookup_applyLv_same a), State.applyLv]
    split
    · exact State.word_setWord_same _ a _
    · next none => exact (s.lvWord_of_none none).symm
  · rw [State.lvWord, State.lvWord, s.lookup_applyLv_other same, s.word_applyLv_other same]

theorem State.applyLv_eq (a : Nat) : s.applyLv a = { s with regs := (s.applyLv a).regs, lv := (s.applyLv a).lv } := by
  unfold State.applyLv
  split <;> rfl

end

/-- The pending words `l`, each taking effect. -/
def State.applyLvs (s : State) (l : List (Nat × Word)) : State := l.foldl (fun s e => s.applyLv e.1) s

theorem State.applyLvs_eq (s : State) (l : List (Nat × Word)) :
    s.applyLvs l = { s with regs := (s.applyLvs l).regs, lv := (s.applyLvs l).lv } := by
  refine List.foldlRecOn (motive := fun t : State => t = { s with regs := t.regs, lv := t.lv }) l _ rfl fun t h e _ => ?_
  have taken := t.applyLv_eq e.1
  rw [h] at taken
  rw [h, taken]

theorem State.lvWord_applyLvs (s : State) (l : List (Nat × Word)) (a : Nat) : (s.applyLvs l).lvWord a = s.lvWord a :=
  List.foldlRecOn (motive := fun t : State => t.lvWord a = s.lvWord a) l _ rfl fun t h e _ => (t.lvWord_applyLv a e.1).trans h

theorem State.lookup_applyLvs (s : State) {l : List (Nat × Word)} {a : Nat} {w : Word} (listed : (a, w) ∈ l) :
    (s.applyLvs l).lv.lookup a = none := by
  refine foldl_reaches (f := fun s e => s.applyLv e.1) (I := fun _ => True) (P := fun t : State => t.lv.lookup a = none) listed
    (fun _ _ _ _ => trivial) (fun t _ => t.lookup_applyLv_same a) (fun t e _ _ none => ?_) trivial
  by_cases same : a = e.1
  · exact same ▸ t.lookup_applyLv_same e.1
  · exact (t.lookup_applyLv_other same).trans none

/-- A listed word takes the value that it read. -/
theorem State.word_applyLvs (s : State) {l : List (Nat × Word)} {a : Nat} {w : Word} (listed : (a, w) ∈ l) :
    (s.applyLvs l).word a = s.lvWord a :=
  ((s.applyLvs l).lvWord_of_none (s.lookup_applyLvs listed)).symm.trans (s.lvWord_applyLvs l a)

theorem loopChk_congr {f g : Nat → Word} (same : ∀ n, n < 11 → f n = g n) : loopChk f = loopChk g := by
  unfold loopChk
  congr 1
  exact List.flatMap_congr fun n hn => by rw [same n (List.mem_range.mp hn)]

section
variable (s : State) (l : Nat)

theorem State.takeScale_none (none : (s.loopMem l).plNext = none) : s.takeScale l = s := by
  rw [State.takeScale, none]

/-- A PL_SCALE that lands changes the course's word and the engine's memory of the loop. -/
theorem State.takeScale_eq : s.takeScale l = { s with regs := (s.takeScale l).regs, loops := (s.takeScale l).loops } := by
  unfold State.takeScale
  split <;> rfl

theorem State.takeScale_writes : Writes LoopArrayWord s (s.takeScale l) := by
  unfold State.takeScale
  split
  · refine Writes.wr (s := s.setLoopMem l _) (Writes.refl _ s) ?_
    simp only [LoopArrayWord, F.LOOP_PL.PL_SCALE, tilesFrom]
    omega
  · exact Writes.refl _ s

theorem State.lvWord_takeScale {a : Nat} (apart : ¬ LoopArrayWord a) : (s.takeScale l).lvWord a = s.lvWord a := by
  have lv : (s.takeScale l).lv = s.lv := by rw [s.takeScale_eq l]
  rw [State.lvWord, State.lvWord, lv, (s.takeScale_writes l).word apart]

/-- CHK over the loop's configuration words in force (R137). -/
def State.putChk : State := s.wr (F.CHK.VAL l) (loopChk fun n => s.word (loopWordAddr l n)).toNat

theorem State.word_putChk {n : Nat} (hn : n < 11) : (s.putChk l).word (loopWordAddr l n) = s.word (loopWordAddr l n) :=
  s.word_wr_other _ _ _ (chk_ne_loopWord hn)

theorem State.rd_putChk : (s.putChk l).rd (F.CHK.VAL l) = (loopChk fun n => (s.putChk l).word (loopWordAddr l n)).toNat := by
  have small : (loopChk fun n => s.word (loopWordAddr l n)).toNat < 2 ^ (F.CHK.VAL l).width :=
    (loopChk fun n => s.word (loopWordAddr l n)).isLt
  rw [loopChk_congr fun n hn => s.word_putChk l hn]
  exact s.rd_wr_same (F.CHK.VAL l) (show 0 + 32 ≤ 32 by decide) small

theorem State.takeNow_eq {e : Nat × Word} (listed : e ∈ s.loopPending l) :
    s.takeNow l = ((s.takeScale l).applyLvs (s.loopPending l)).putChk l :=
  if_neg fun none => List.ne_nil_of_mem listed (List.isEmpty_iff.mp none)

/-- What the pending words of a loop leave that take effect at once (R134, R137). -/
theorem State.takeNow_takes {n : Nat} (hn : n < 11) {w : Word} (listed : (loopWordAddr l n, w) ∈ s.loopPending l) :
    (s.takeNow l).word (loopWordAddr l n) = s.lvWord (loopWordAddr l n) ∧
      (s.takeNow l).lvWord (loopWordAddr l n) = s.lvWord (loopWordAddr l n) ∧
      (s.takeNow l).rd (F.CHK.VAL l) = (loopChk fun k => (s.takeNow l).word (loopWordAddr l k)).toNat := by
  rw [s.takeNow_eq l listed]
  have word : (((s.takeScale l).applyLvs (s.loopPending l)).putChk l).word (loopWordAddr l n) = s.lvWord (loopWordAddr l n) :=
    (State.word_putChk _ l hn).trans ((State.word_applyLvs _ listed).trans
      (s.lvWord_takeScale l (not_loopArray_of_tile (loopWord_tile l n))))
  refine ⟨word, (State.lvWord_of_none _ ?_).trans word, State.rd_putChk _ l⟩
  rw [State.putChk, State.wr_lv]
  exact State.lookup_applyLvs _ listed

theorem State.takeNow_aside {e : Nat × Word} (listed : e ∈ s.loopPending l) : (s.takeNow l).tiles = s.tiles ∧
    (s.takeNow l).mem = s.mem ∧ (s.takeNow l).outbox = s.outbox ∧
    ((s.loopMem l).plNext = none → (s.takeNow l).loops = s.loops) := by
  rw [s.takeNow_eq l listed, State.putChk, State.wr_tiles, State.wr_mem, State.wr_outbox, State.wr_loops, State.applyLvs_eq]
  refine ⟨?_, ?_, ?_, fun none => ?_⟩
  · rw [s.takeScale_eq l]
  · rw [s.takeScale_eq l]
  · rw [s.takeScale_eq l]
  · rw [s.takeScale_none l none]

end

/-! ### Configuration words -/

section
variable (s : State) (m : Master) (l : Fin 4864)

theorem State.mem_loopPending_holdLv (l : Nat) {n : Nat} (hn : n < 11) (v : Word) :
    (loopWordAddr l n, v) ∈ (s.holdLv (loopWordAddr l n) v).loopPending l := by
  refine List.mem_filter.mpr ⟨mem_sparseInsert_same s.lv _ v, ?_⟩
  refine Bool.and_eq_true_iff.mpr ⟨decide_eq_true ?_, decide_eq_true ?_⟩
  all_goals
    simp only [loopWordAddr]
    omega

theorem State.lvWord_holdLv_masked (a : Nat) {w v : Word} (masked : v = w &&& accMask a [.lv]) :
    (s.holdLv a v).lvWord a = (s.word a &&& ~~~accMask a [.lv]) ||| v := by
  rw [s.lvWord_holdLv, masked, BitVec.and_assoc, BitVec.and_self]

theorem loopParamWrite_takes (n : Fin 11) (w v : Word) (ok : s.writeAccess m (loopWordAddr l n) = .ok)
    (masked : v = w &&& accMask (loopWordAddr l n) [.lv])
    (allowed : s.paramWriteRefused l n (loopCfgOf fun k => if k = n.val then v else s.lvWord (loopWordAddr l k)) = false) :
    ∃ t, exec (.loopParamWrite m l n w) s = .next t ∧
      t.lvWord (loopWordAddr l n) = (s.word (loopWordAddr l n) &&& ~~~accMask (loopWordAddr l n) [.lv]) ||| v ∧
      (s.loopState l = 2 → t.regs = s.regs) ∧
      (s.loopState l ≠ 2 →
        t.word (loopWordAddr l n) = (s.word (loopWordAddr l n) &&& ~~~accMask (loopWordAddr l n) [.lv]) ||| v ∧
        t.rd (F.CHK.VAL l) = (loopChk fun k => t.word (loopWordAddr l k)).toNat) ∧
      (s.loopState l = 2 ∨ (s.loopMem l).plNext = none → t.loops = s.loops) ∧ t.tiles = s.tiles ∧ t.mem = s.mem ∧
      t.outbox = s.outbox := by
  have held := s.lvWord_holdLv_masked (loopWordAddr l n) masked
  have written : exec (.loopParamWrite m l n w) s = .next (if s.loopState l = 2 then s.holdLv (loopWordAddr l n) v
      else (s.holdLv (loopWordAddr l n) v).takeNow l) := by
    refine congrArg Host.Outcome.next ((s.gate_ok m _ _ ok).trans ?_)
    rw [masked] at allowed ⊢
    exact if_neg (Bool.eq_false_iff.mp allowed)
  refine ⟨_, written, ?_⟩
  by_cases auto : s.loopState l = 2
  · rw [if_pos auto]
    exact ⟨held, fun _ => rfl, fun idle => absurd auto idle, fun _ => rfl, rfl, rfl, rfl⟩
  · rw [if_neg auto]
    have listed := s.mem_loopPending_holdLv l n.isLt v
    obtain ⟨word, reads, chk⟩ := State.takeNow_takes _ l n.isLt listed
    obtain ⟨tiles, mem, outbox, loops⟩ := State.takeNow_aside _ l listed
    exact ⟨reads.trans held, fun yes => absurd yes auto, fun _ => ⟨word.trans held, chk⟩,
      fun still => loops (still.resolve_left auto), tiles, mem, outbox⟩

theorem loopParamWrite_refused (n : Fin 11) (w : Word) (ok : s.writeAccess m (loopWordAddr l n) = .ok)
    (barred : s.paramWriteRefused l n
      (loopCfgOf fun k => if k = n.val then w &&& accMask (loopWordAddr l n) [.lv] else s.lvWord (loopWordAddr l k)) = true) :
    ∃ t, exec (.loopParamWrite m l n w) s = .next t ∧ t.lv = s.lv ∧ t.word (loopWordAddr l n) = s.word (loopWordAddr l n) ∧
      Counted (F.COURSE_PARAM_REFUSED_CNT (loopCourse l)) s t ∧ t.mem = s.mem := by
  have reports := s.refuseParam_reports l
  exact ⟨_, congrArg Host.Outcome.next ((s.gate_ok m _ _ ok).trans (if_pos barred)), reports.lv,
    (s.refuseParam_writes l).word (not_refusalWord_of_tile _ (loopWord_tile l n)), s.refuseParam_counted l, reports.mem⟩

/-! ### State words and repetitive memory -/

/-- Where a write of a state word lands (R135). -/
theorem State.writeLoopState_allowed (k : Fin 3) (w : Word) (allowed : externalHost m = false ∨ s.hostMayWrite l = true) :
    s.writeLoopState m l k w = s.setWord (loopWordAddr l (12 + k))
      (if k.val = 2 then withBits (s.word (loopWordAddr l 14)) 0 16 (bitsOf w 0 16) else w) := by
  have taken : ¬ (externalHost m && !s.hostMayWrite l) = true := Bool.eq_false_iff.mp (hostBarred_eq allowed)
  obtain ⟨int0, int1, hcode⟩ := stateWord_addr l
  match k with
  | 0 => exact (if_neg taken).trans (congrArg (s.setWord · w) int0)
  | 1 => exact (if_neg taken).trans (congrArg (s.setWord · w) int1)
  | 2 => exact (if_neg taken).trans (congrArg (fun a => s.setWord a (withBits (s.word a) 0 16 (bitsOf w 0 16))) hcode)

theorem loopStateWrite_lands (k : Fin 3) (w : Word) (ok : s.writeAccess m (loopWordAddr l (12 + k)) = .ok)
    (allowed : externalHost m = false ∨ s.hostMayWrite l = true) :
    ∃ t, exec (.loopStateWrite m l k w) s = .next t ∧
      t.word (loopWordAddr l (12 + k)) =
        (if k.val = 2 then withBits (s.word (loopWordAddr l 14)) 0 16 (bitsOf w 0 16) else w) ∧
      (∀ a, a ≠ loopWordAddr l (12 + k) → t.word a = s.word a) ∧ t.loops = s.loops ∧ t.tiles = s.tiles ∧ t.mem = s.mem ∧
      t.outbox = s.outbox :=
  ⟨_, congrArg Host.Outcome.next ((s.gate_ok m _ _ ok).trans (s.writeLoopState_allowed m l k w allowed)),
    s.word_setWord_same _ _, fun a => s.word_setWord_other _ a _, rfl, rfl, rfl, rfl⟩

theorem loopStateWrite_refused (k : Fin 3) (w : Word) (ok : s.writeAccess m (loopWordAddr l (12 + k)) = .ok)
    (host : externalHost m = true) (barred : s.hostMayWrite l = false) :
    ∃ t, exec (.loopStateWrite m l k w) s = .next t ∧ t.word (loopWordAddr l (12 + k)) = s.word (loopWordAddr l (12 + k)) ∧
      Counted (F.COURSE_PARAM_REFUSED_CNT (loopCourse l)) s t ∧ t.mem = s.mem := by
  have refused : s.writeLoopState m l k w = s.refuseParam l := if_pos (by rw [host, barred]; rfl)
  exact ⟨_, congrArg Host.Outcome.next ((s.gate_ok m _ _ ok).trans refused),
    (s.refuseParam_writes l).word (not_refusalWord_of_tile _ (loopWord_tile l _)), s.refuseParam_counted l,
    (s.refuseParam_reports l).mem⟩

theorem repetitiveWrite_lands (st : Fin 2) (n : Fin 32) (w : Word) (ok : s.writeAccess m (F.REP.ENTRY l st (2 * n)).addr = .ok)
    (allowed : s.loopState l ≠ 2 ∨ s.repFrozen l = true) :
    exec (.repetitiveWrite m l st n w) s = .next (s.setWord (F.REP.ENTRY l st (2 * n)).addr w) := by
  refine congrArg Host.Outcome.next ((s.gate_ok m _ _ ok).trans (if_neg ?_))
  rintro ⟨auto, learning⟩
  exact allowed.elim (· auto) fun frozen => Bool.false_ne_true (learning.symm.trans frozen)

theorem repetitiveWrite_refused (st : Fin 2) (n : Fin 32) (w : Word)
    (ok : s.writeAccess m (F.REP.ENTRY l st (2 * n)).addr = .ok) (auto : s.loopState l = 2) (learning : s.repFrozen l = false) :
    ∃ t, exec (.repetitiveWrite m l st n w) s = .next t ∧
      t.word (F.REP.ENTRY l st (2 * n)).addr = s.word (F.REP.ENTRY l st (2 * n)).addr ∧
      Counted (F.COURSE_PARAM_REFUSED_CNT (loopCourse l)) s t ∧ t.mem = s.mem := by
  have rep := repEntry_word l st (2 * n)
  exact ⟨_, congrArg Host.Outcome.next ((s.gate_ok m _ _ ok).trans (if_pos ⟨auto, learning⟩)),
    (s.refuseParam_writes l).word (not_refusalWord_of_tile _ (le_trans (by decide) rep)), s.refuseParam_counted l,
    (s.refuseParam_reports l).mem⟩

end

/-- Settles O51, clause by clause: what a write of LOOP_CTRL, COURSE_CTRL or H_EVT leaves, then the writes of the record and of
repetitive memory, taken or refused. -/
theorem loopWritesTakeEffectOrRefuse : Obligations.LoopWritesTakeEffectOrRefuse := by
  unfold Obligations.LoopWritesTakeEffectOrRefuse
  refine ⟨fun s m l v => loopTargetWrite_takes s m l v, fun s m l v => loopTargetWrite_refused s m l v,
    fun s m l on => loopHoldWrite_holds s m l on, fun s m c on => loopHoldWrite_course s m c on,
    fun s m l on => repFreezeWrite_freezes s m l on, fun s m c on => repFreezeWrite_course s m c on,
    fun s m l => hEvtClear_clears s m l, fun s m l b => repReset_resets s m l b,
    fun s m l n w v => loopParamWrite_takes s m l n w v, fun s m l n w => loopParamWrite_refused s m l n w,
    fun s m l k w => loopStateWrite_lands s m l k w, fun s m l k w => loopStateWrite_refused s m l k w,
    fun s m l st n w => repetitiveWrite_lands s m l st n w, fun s m l st n w => repetitiveWrite_refused s m l st n w⟩

end Sys2Proof.Machine

namespace Sys2Proof.Machine

/-! ## Records as bytes (R165, R166)

A record's header spells its fields one after the other, and its body is the rest: bytes 0–63 of a well-formed record with any
736 bytes after them are the bytes of the record with that body. -/

/-! ### Bytes of a number -/

@[simp] theorem length_leBytes (n v : Nat) : (leBytes n v).length = n := by
  induction n generalizing v with
  | zero => rfl
  | succ n ih => rw [leBytes, List.length_cons, ih]

theorem leBytes_leNat (bs : List Byte) : leBytes bs.length (leNat bs) = bs := by
  induction bs with
  | nil => rfl
  | cons b rest ih =>
    have low : BitVec.ofNat 8 (b.toNat + 256 * leNat rest) = b := BitVec.eq_of_toNat_eq (by simp; omega)
    have high : (b.toNat + 256 * leNat rest) / 256 = leNat rest := by omega
    rw [List.length_cons, leNat, leBytes, low, high, ih]

theorem leNat_lt (bs : List Byte) : leNat bs < 256 ^ bs.length := by
  induction bs with
  | nil => exact Nat.one_pos
  | cons b rest ih =>
    rw [leNat, List.length_cons, pow_succ]
    omega

/-- A bit vector of `n` bytes is what its bytes spell. -/
theorem ofNat_leNat_leBytes {w : Nat} (n : Nat) (bytes : w = 8 * n) (x : BitVec w) :
    BitVec.ofNat w (leNat (leBytes n x.toNat)) = x := by
  subst bytes
  rw [leNat_leBytes (by rw [show 256 = 2 ^ 8 from rfl, ← pow_mul]; exact x.isLt), BitVec.ofNat_toNat, BitVec.setWidth_eq]

/-- Bytes are what the number they spell has as its bytes. -/
theorem leBytes_ofNat_leNat {w n : Nat} (bytes : w = 8 * n) {bs : List Byte} (len : bs.length = n) :
    leBytes n (BitVec.ofNat w (leNat bs)).toNat = bs := by
  subst len bytes
  have small : leNat bs < 2 ^ (8 * bs.length) := by rw [pow_mul]; exact leNat_lt bs
  rw [BitVec.toNat_ofNat, Nat.mod_eq_of_lt small, leBytes_leNat]

/-! ### Reading a field out of bytes -/

/-- A field is read at its own place. -/
theorem slice_here (n v : Nat) (rest : List Byte) : slice (leBytes n v ++ rest) 0 n = leBytes n v := by
  rw [slice, List.drop_zero, List.take_left' (length_leBytes n v)]

/-- A field is read past the fields before it. -/
theorem slice_past {k off : Nat} (v n : Nat) (rest : List Byte) (before : k ≤ off) :
    slice (leBytes k v ++ rest) off n = slice rest (off - k) n := by
  rw [slice, List.drop_append, List.drop_eq_nil_of_le (by simpa using before), List.nil_append, length_leBytes, slice]

/-- The lowest byte of a field of two. -/
theorem slice_low (v : Nat) (rest : List Byte) : slice (leBytes 2 v ++ rest) 0 1 = leBytes 1 v := rfl

/-- The flags' byte shows each flag. -/
theorem testBit_flags (a b : Bool) : (leNat (leBytes 1 (a.toNat + 2 * b.toNat))).testBit 0 = a ∧
    (leNat (leBytes 1 (a.toNat + 2 * b.toNat))).testBit 1 = b := by
  cases a <;> cases b <;> decide

/-! ### Header and body -/

/-- Every field fits the bytes that spell it (R165). -/
structure Accord.Fits (a : Accord) : Prop where
  kind : a.kind < 256 ^ 1
  index : a.index < 256 ^ 1
  seq : a.seq < 256 ^ 4
  frame : a.frame < 256 ^ 8
  pairs : a.pairs < 256 ^ 2
  removed : a.removed < 256 ^ 2
  applySlot : a.applySlot < 256 ^ 1
  baseSeq : a.baseSeq < 256 ^ 4
  bodyCrc : a.bodyCrc < 256 ^ 4
  hcrc : a.hcrc < 256 ^ 4

/-- The record with the same header and the body that `tail` spells. -/
def Accord.withBody (a : Accord) (tail : List Byte) : Accord :=
  { a with
    cells := BitVec.ofNat _ (leNat (slice tail 0 544)), trims := BitVec.ofNat _ (leNat (slice tail 544 64))
    shuts := BitVec.ofNat _ (leNat (slice tail 608 64)), inLit := BitVec.ofNat _ (leNat (slice tail 672 64)) }

/-- The header of a well-formed record reads back, whatever body follows. -/
theorem Accord.ofBytes_header {a : Accord} (fits : a.Fits) (tail : List Byte) :
    Accord.ofBytes (a.head ++ leBytes 4 a.hcrc ++ tail) = a.withBody tail := by
  obtain ⟨hkind, hindex, hseq, hframe, hpairs, hremoved, hslot, hbase, hbody, hhcrc⟩ := fits
  obtain ⟨hhost, hflagged⟩ := testBit_flags a.host a.flagged
  simp only [Accord.ofBytes, Accord.withBody, Accord.head, List.flatten_cons, List.flatten_nil, List.append_assoc,
    List.nil_append, slice_here, slice_low, slice_past, Nat.reduceSub, Nat.reduceLeDiff, Nat.sub_self,
    leNat_leBytes, *]

/-- A slice and what follows it are what begins where the slice does. -/
theorem slice_append_drop (bs : List Byte) (off n : Nat) : slice bs off n ++ bs.drop (off + n) = bs.drop off := by
  rw [slice, ← List.drop_drop, List.take_append_drop]

/-- The body of the record with the body that `tail` spells is `tail`. -/
theorem Accord.body_withBody (a : Accord) {tail : List Byte} (len : tail.length = 736) : (a.withBody tail).body = tail := by
  have part (off n : Nat) (inside : off + n ≤ 736) : (slice tail off n).length = n := by
    rw [slice, List.length_take, List.length_drop]
    omega
  simp only [Accord.body, Accord.withBody, List.flatten_cons, List.flatten_nil]
  rw [leBytes_ofNat_leNat rfl (part 0 544 (by decide)), leBytes_ofNat_leNat rfl (part 544 64 (by decide)),
    leBytes_ofNat_leNat rfl (part 608 64 (by decide)), leBytes_ofNat_leNat rfl (part 672 64 (by decide)),
    ← List.drop_eq_nil_of_le len.le, slice_append_drop tail 672 64, slice_append_drop tail 608 64,
    slice_append_drop tail 544 64, slice_append_drop tail 0 544, List.drop_zero]

theorem Accord.withBody_body (a : Accord) : a.withBody a.body = a := by
  simp only [Accord.withBody, Accord.body, List.flatten_cons, List.flatten_nil, slice_here, slice_past, Nat.reduceSub,
    Nat.reduceLeDiff, Nat.sub_self, ofNat_leNat_leBytes]

theorem Accord.bytes_eq (a : Accord) : a.bytes = a.head ++ leBytes 4 a.hcrc ++ a.body := by
  simp only [Accord.bytes, List.flatten_cons, List.flatten_nil, List.append_nil, List.append_assoc]

@[simp] theorem Accord.length_head (a : Accord) : a.head.length = 60 := by
  simp only [Accord.head, List.flatten_cons, List.flatten_nil, List.length_append, length_leBytes, List.length_nil]

@[simp] theorem Accord.length_body (a : Accord) : a.body.length = 736 := by
  simp only [Accord.body, List.flatten_cons, List.flatten_nil, List.length_append, length_leBytes, List.length_nil]

theorem Accord.length_bytes (a : Accord) : a.bytes.length = 800 := by
  rw [Accord.bytes_eq, List.length_append, List.length_append, length_head, length_leBytes, length_body]

/-- A well-formed record reads back from its bytes. -/
theorem Accord.ofBytes_bytes {a : Accord} (fits : a.Fits) : Accord.ofBytes a.bytes = a := by
  rw [a.bytes_eq, a.ofBytes_header fits, a.withBody_body]

/-- The bytes that a record with a well-formed header's bytes before any body spell are those bytes. -/
theorem Accord.bytes_ofBytes {a : Accord} (fits : a.Fits) {tail : List Byte} (len : tail.length = 736) :
    (Accord.ofBytes (a.head ++ leBytes 4 a.hcrc ++ tail)).bytes = a.head ++ leBytes 4 a.hcrc ++ tail := by
  rw [a.ofBytes_header fits, Accord.bytes_eq, a.body_withBody len]
  rfl

/-! ### Words of the body -/

/-- Word `n` of a list of bytes, replaced. -/
def spliceWord (bs : List Byte) (n : Nat) (w : Word) : List Byte :=
  List.flatten [bs.take (4 * n), leBytes 4 w.toNat, bs.drop (4 * n + 4)]

/-- A word of a list of bytes. -/
def spelledWord (bs : List Byte) (n : Nat) : Word := BitVec.ofNat 32 (leNat (slice bs (4 * n) 4))

theorem length_spliceWord {bs : List Byte} {n : Nat} (inside : 4 * n + 4 ≤ bs.length) (w : Word) :
    (spliceWord bs n w).length = bs.length := by
  simp only [spliceWord, List.flatten_cons, List.flatten_nil, List.append_nil, List.length_append, List.length_take,
    List.length_drop, length_leBytes]
  omega

/-- A word past the first bytes replaces only what follows them. -/
theorem spliceWord_append (pre bs : List Byte) {n k : Nat} (place : pre.length = 4 * k) (after : k ≤ n) (w : Word) :
    spliceWord (pre ++ bs) n w = pre ++ spliceWord bs (n - k) w := by
  have start : 4 * n - pre.length = 4 * (n - k) := by omega
  have next : 4 * n + 4 - pre.length = 4 * (n - k) + 4 := by omega
  simp only [spliceWord, List.flatten_cons, List.flatten_nil, List.append_nil, List.take_append, List.drop_append,
    List.take_of_length_le (show pre.length ≤ 4 * n by omega),
    List.drop_eq_nil_of_le (show pre.length ≤ 4 * n + 4 by omega),
    List.nil_append, List.append_assoc, start, next]

/-- The word written reads back, and every other word is as it was. -/
theorem spelledWord_spliceWord {bs : List Byte} {n : Nat} (inside : 4 * n + 4 ≤ bs.length) (w : Word) (k : Nat) :
    spelledWord (spliceWord bs n w) k = if k = n then w else spelledWord bs k := by
  have before : (bs.take (4 * n)).length = 4 * n := List.length_take_of_le (by omega)
  have written : (bs.take (4 * n) ++ leBytes 4 w.toNat).length = 4 * n + 4 := by
    rw [List.length_append, before, length_leBytes]
  have splice : spliceWord bs n w = bs.take (4 * n) ++ (leBytes 4 w.toNat ++ bs.drop (4 * n + 4)) := by
    simp only [spliceWord, List.flatten_cons, List.flatten_nil, List.append_nil]
  rw [spelledWord, splice]
  rcases lt_trichotomy k n with below | rfl | above
  · have same : slice (bs.take (4 * n) ++ (leBytes 4 w.toNat ++ bs.drop (4 * n + 4))) (4 * k) 4 = slice bs (4 * k) 4 := by
      rw [slice, List.drop_append_of_le_length (by omega), List.take_append_of_le_length (by rw [List.length_drop]; omega),
        List.drop_take, List.take_take, min_eq_left (by omega), slice]
    rw [if_neg below.ne, same, spelledWord]
  · have here : slice (bs.take (4 * k) ++ (leBytes 4 w.toNat ++ bs.drop (4 * k + 4))) (4 * k) 4 = leBytes 4 w.toNat := by
      rw [slice, List.drop_left' before, List.take_left' (length_leBytes 4 _)]
    rw [if_pos rfl, here, ofNat_leNat_leBytes 4 rfl]
  · have same : slice (bs.take (4 * n) ++ (leBytes 4 w.toNat ++ bs.drop (4 * n + 4))) (4 * k) 4 = slice bs (4 * k) 4 := by
      rw [← List.append_assoc, slice, List.drop_append, List.drop_eq_nil_of_le (by omega), List.nil_append, written,
        List.drop_drop, show 4 * n + 4 + (4 * k - (4 * n + 4)) = 4 * k by omega, slice]
    rw [if_neg above.ne', same, spelledWord]

theorem Accord.word_eq (a : Accord) (n : Nat) : a.word n = spelledWord a.bytes n := rfl

theorem Accord.setWord_eq (a : Accord) (n : Nat) (w : Word) : a.setWord n w = Accord.ofBytes (spliceWord a.bytes n w) := rfl

/-- A word written into the body of a well-formed record replaces its bytes and no others. -/
theorem Accord.bytes_setWord {a : Accord} (fits : a.Fits) {n : Nat} (body : 16 ≤ n) (inside : n < 200) (w : Word) :
    (a.setWord n w).bytes = spliceWord a.bytes n w := by
  have header : (a.head ++ leBytes 4 a.hcrc).length = 4 * 16 := by rw [List.length_append, length_head, length_leBytes]
  have len : (spliceWord a.body (n - 16) w).length = 736 :=
    (length_spliceWord (by rw [length_body]; omega) w).trans a.length_body
  rw [a.setWord_eq, a.bytes_eq, spliceWord_append _ _ header body, a.bytes_ofBytes fits len]

/-- Settles O45: the header's fields and the body read back from the bytes, and a word written into the body replaces its four
bytes only. -/
theorem accordBytesReadBack : Obligations.AccordBytesReadBack := by
  unfold Obligations.AccordBytesReadBack
  intro a hkind hindex hseq hframe hpairs hremoved hslot hbase hbody hhcrc
  have fits : a.Fits := ⟨hkind, hindex, hseq, hframe, hpairs, hremoved, hslot, hbase, hbody, hhcrc⟩
  refine ⟨a.length_bytes, a.ofBytes_bytes fits, fun n w body inside k _ => ?_⟩
  rw [Accord.word_eq, Accord.bytes_setWord fits body inside, spelledWord_spliceWord (by rw [a.length_bytes]; omega),
    Accord.word_eq]

end Sys2Proof.Machine

namespace Sys2Proof.Machine

/-! ## Writes of accord memory (R189) -/

theorem State.record_setRecord_same (s : State) (n : Nat) (a : Accord) : (s.setRecord n a).record n = a :=
  sparseGet_put_same (fun _ => accordEmpty) s.plane.records n a

theorem State.record_setRecord_other (s : State) {n k : Nat} (a : Accord) (other : k ≠ n) :
    (s.setRecord n a).record k = s.record k :=
  sparseGet_put_other (fun _ => accordEmpty) s.plane.records n k a other

/-- A record may be written: a dynamic one in CIRCUIT mode, a standing one that is neither in force, armed nor pending. -/
def State.RecordFree (s : State) (r : Nat) : Prop :=
  (r < 128 ∧ s.planeMode = 0) ∨ (128 ≤ r ∧ r - 128 ≠ s.activeIndex ∧ r - 128 ∉ s.armed ∧
    ∀ u ∈ s.plane.updates, u.record ≠ r - 128)

theorem State.writeRecord_free {s : State} {r : Nat} (free : s.RecordFree r) (w : Nat) (v : Word) :
    s.writeRecord r w v = s.setRecord r { (s.record r).setWord w v with host := true } := by
  unfold State.writeRecord
  rcases free with ⟨dynamic, circuit⟩ | ⟨standing, idle, unarmed, unpending⟩
  · exact (if_pos dynamic).trans (if_pos circuit)
  · refine (if_neg (Nat.not_lt_of_le standing)).trans (if_neg ?_)
    rintro (active | armed | pending)
    · exact idle active
    · exact unarmed (List.contains_iff_mem.mp armed)
    · obtain ⟨u, hu, same⟩ := List.any_eq_true.mp pending
      exact unpending u hu (beq_iff_eq.mp same)

theorem State.writeRecord_barred {s : State} {r : Nat} (w : Nat) (v : Word)
    (barred : (r < 128 ∧ s.planeMode ≠ 0) ∨ (128 ≤ r ∧ (r - 128 = s.activeIndex ∨ r - 128 ∈ s.armed ∨
      ∃ u ∈ s.plane.updates, u.record = r - 128))) : s.writeRecord r w v = s.refuseAccord := by
  unfold State.writeRecord
  rcases barred with ⟨dynamic, slotted⟩ | ⟨standing, used⟩
  · exact (if_pos dynamic).trans (if_neg slotted)
  · refine (if_neg (Nat.not_lt_of_le standing)).trans (if_pos (used.imp_right (Or.imp List.contains_iff_mem.mpr ?_)))
    rintro ⟨u, hu, same⟩
    exact List.any_eq_true.mpr ⟨u, hu, beq_iff_eq.mpr same⟩

theorem State.refuseAccord_reports (s : State) : Reports s s.refuseAccord := (s.bump_reports _).trans (State.raise_reports _ _)

theorem State.refuseAccord_counted (s : State) : Counted F.ACCORD_WRITE_REFUSED_CNT s s.refuseAccord :=
  s.rdW_bumpBy_raise Src.ACCORD.WRITE_REFUSED (by decide) rfl (by decide) (by decide) 1

/-- Settles O44: a free record takes the word, any other write is counted and reported. -/
theorem accordRecordsTakeWordsOrRefuse : Obligations.AccordRecordsTakeWordsOrRefuse := by
  unfold Obligations.AccordRecordsTakeWordsOrRefuse
  refine ⟨fun s m r w v ok free => ?_, fun s m r w v ok barred => ?_⟩
  · exact ⟨_, congrArg Host.Outcome.next ((s.gate_ok m _ _ ok).trans (State.writeRecord_free free w v)),
      s.record_setRecord_same _ _, fun k other => s.record_setRecord_other _ other, rfl, rfl, rfl, rfl⟩
  · exact ⟨_, congrArg Host.Outcome.next ((s.gate_ok m _ _ ok).trans (State.writeRecord_barred w v barred)),
      s.refuseAccord_reports.plane, s.refuseAccord_counted, s.refuseAccord_reports.mem⟩

end Sys2Proof.Machine

namespace Sys2Proof.Machine

/-! ## Reports, messages and contexts

What the plane, the Composer and the agents do beside their own records: they count and report, queue messages and change
circuit contexts. `Acts P view s t` says that nothing else changed, but for what of the plane `view` does not show. -/

/-! ### What counting writes -/

/-- A REAL word in which a counter's saturation may show (R463), and the cascade words. -/
abbrev SaturatedWord (a : Nat) : Prop :=
  CascadeWord a ∨ a = 0x90040 ∨ a = 0xA0030 ∨ a = 0xB0050 ∨ a = 0xC0060 ∨ a = 0xE0030 ∨ a = 0x180030

theorem saturatedSource_saturated (a : Nat) : SaturatedWord (saturatedSource a).block.real := by
  unfold saturatedSource
  split <;> decide

/-- What counting on `w` may write. -/
abbrev TallyWord (w : Wide) (a : Nat) : Prop := a = w.addr ∨ a = w.addr + 4 ∨ SaturatedWord a

theorem State.saturation_writes (s u : State) (w : Wide) (n : Nat) :
    Writes SaturatedWord u (State.raiseAll 8 u (s.saturates w n)) := by
  refine (State.raiseAll_writes 8 u _).mono ?_
  rintro a (cascade | ⟨x, hx, rfl⟩)
  · exact .inl cascade
  · unfold State.saturates at hx
    split at hx
    · rw [List.mem_singleton.mp hx]
      exact saturatedSource_saturated _
    · cases hx

theorem State.bumpBy_tallies (s : State) (w : Wide) (n : Nat) : Writes (TallyWord w) s (s.bumpBy w n) :=
  ((Writes.refl _ s).addCounter (.inl rfl) (.inr (.inl rfl))).trans
    ((s.saturation_writes _ w n).mono fun _ h => .inr (.inr h))

/-- A counter that no report writes has counted after a bump. -/
theorem State.bump_tallied (s : State) {w : Wide} (width : w.width = 48) (lo : ¬ SaturatedWord w.addr)
    (hi : ¬ SaturatedWord (w.addr + 4)) : Counted w s (s.bump w) := by
  have raised := s.saturation_writes (s.addCounter w 1) w 1
  have small : min counterMax (s.rdW w + 1) < 2 ^ w.width := by
    rw [width]
    exact (Nat.min_le_left _ _).trans_lt (by decide)
  exact (State.rdW_congr (raised.word lo) (raised.word hi)).trans (s.rdW_wrW_same w (by omega) small)

/-- A powered source whose REAL word lies beside the cascade words shows its REAL bit once raised. -/
theorem State.flag_raise_same (s : State) (src : Source) (beside : ¬ CascadeWord src.block.real) (bit : src.bit + 1 ≤ 32)
    (powered : s.srcPowered src = true) : (s.raise src).flag src.real = true := by
  rw [State.flag, (s.raise_cascades src).rd beside, if_pos powered]
  exact s.flag_setEvent_same bit rfl

/-! ### The relation -/

/-- `t` is `s` after reports, words put where `P` allows, messages queued, and changes of the plane that
`view` does not show. -/
structure Acts {α : Type} (P : Nat → Prop) (view : Plane → α) (s t : State) : Prop where
  same : t = { s with
    regs := t.regs, fresh := t.fresh, outbox := t.outbox, seals := t.seals, mortar := t.mortar, lanes := t.lanes
    issueq := t.issueq, hier := t.hier, plane := t.plane }
  view : view t.plane = view s.plane
  writes : Writes P s t

/-- Words that messages and their reports may write: those of HIER, the lanes and the agents, and where a count saturates. -/
abbrev MessageWord (a : Nat) : Prop := SaturatedWord a ∨ (0xD0000 ≤ a ∧ a < 0x180000)

/-- What the Kowin side does: nothing of the plane changes. -/
abbrev Sends (s t : State) : Prop := Acts MessageWord id s t

namespace Acts
variable {α : Type} {P Q : Nat → Prop} {view : Plane → α} {s₀ s t : State}

theorem refl (P : Nat → Prop) (view : Plane → α) (s : State) : Acts P view s s := ⟨rfl, rfl, .refl P s⟩

theorem trans (h : Acts P view s₀ s) (k : Acts P view s t) : Acts P view s₀ t := by
  refine ⟨?_, k.view.trans h.view, h.writes.trans k.writes⟩
  have e := k.same
  rw [h.same] at e
  rw [e]

theorem mono (h : Acts P view s t) (le : ∀ a, P a → Q a) : Acts Q view s t := ⟨h.same, h.view, h.writes.mono le⟩

/-- What leaves the plane alone leaves what any view shows of it alone. -/
theorem seen (h : Acts P id s t) (view : Plane → α) : Acts P view s t := ⟨h.same, congrArg view h.view, h.writes⟩

theorem sends (h : Acts P view s₀ s) (k : Sends s t) (le : ∀ a, MessageWord a → P a) : Acts P view s₀ t :=
  h.trans ((k.seen view).mono le)

theorem mem (h : Acts P view s t) : t.mem = s.mem := by rw [h.same]
theorem comp (h : Acts P view s t) : t.comp = s.comp := by rw [h.same]
theorem power (h : Acts P view s t) : t.power = s.power := by rw [h.same]
theorem strobes (h : Acts P view s t) : t.strobes = s.strobes := by rw [h.same]
theorem plane (h : Acts P id s t) : t.plane = s.plane := h.view
theorem rd (h : Acts P view s t) {f : Field} (apart : ¬ P f.addr) : t.rd f = s.rd f := h.writes.rd apart
theorem flag (h : Acts P view s t) {f : Field} (apart : ¬ P f.addr) : t.flag f = s.flag f := congrArg (· == 1) (h.rd apart)

theorem ite {c : Prop} [Decidable c] (a : Acts P view s₀ s) (b : Acts P view s₀ t) :
    Acts P view s₀ (if c then s else t) := by
  split
  · exact a
  · exact b

theorem foldl {β : Type} {f : State → β → State} {l : List β} (h : Acts P view s₀ s)
    (step : ∀ {s b}, Acts P view s₀ s → Acts P view s₀ (f s b)) : Acts P view s₀ (l.foldl f s) :=
  List.foldlRecOn (motive := fun u => Acts P view s₀ u) l f h fun _ hu _ _ => step hu

/-- Reports whose words `P` allows. -/
theorem reports (h : Acts P view s₀ s) (r : Reports s t) (w : Writes P s t) : Acts P view s₀ t := by
  refine h.trans ⟨?_, congrArg view r.plane, w⟩
  have e := r.same
  rw [e]

/-- Messages queued, and what the unit keeps of its peers. -/
theorem queued (h : Acts P view s₀ s) {lanes issueq hier} :
    Acts P view s₀ { s with lanes := lanes, issueq := issueq, hier := hier } := h.trans ⟨rfl, rfl, .refl P s⟩

theorem wr {f v} (h : Acts P view s₀ s) (ha : P f.addr) : Acts P view s₀ (s.wr f v) :=
  h.reports (s.wr_reports f v) ((Writes.refl P s).wr ha)

theorem setCtx {n x} (h : Acts P view s₀ s) (blind : ∀ p c, view { p with ctxs := c } = view p) :
    Acts P view s₀ (s.setCtx n x) :=
  h.trans ⟨rfl, blind _ _, .refl P s⟩

theorem raise {src} (h : Acts P view s₀ s) (cascade : ∀ a, CascadeWord a → P a) (real : P src.block.real) :
    Acts P view s₀ (s.raise src) := by
  refine h.reports (s.raise_reports src) ((s.raise_writes src).mono ?_)
  rintro a (c | ⟨x, hx, rfl⟩)
  · exact cascade a c
  · exact List.mem_singleton.mp hx ▸ real

theorem bump {w} (h : Acts P view s₀ s) (saturated : ∀ a, SaturatedWord a → P a) (lo : P w.addr) (hi : P (w.addr + 4)) :
    Acts P view s₀ (s.bump w) := by
  refine h.reports (s.bump_reports w) ((s.bumpBy_tallies w 1).mono ?_)
  rintro a (rfl | rfl | sat)
  · exact lo
  · exact hi
  · exact saturated a sat

end Acts

/-! ### Messages -/

namespace Acts
variable {α : Type} {P : Nat → Prop} {view : Plane → α} {s₀ s : State}

theorem queueTx {n x} (h : Acts P view s₀ s) : Acts P view s₀ (s.queueTx n x) := h.queued

theorem toLanes {l type payload} (h : Acts P view s₀ s) : Acts P view s₀ (s.toLanes l type payload) :=
  h.foldl fun h => h.queueTx

theorem toWorkers {type payload} (h : Acts P view s₀ s) : Acts P view s₀ (s.toWorkers type payload) := .ite h.toLanes h

theorem toTwin {type payload} (h : Acts P view s₀ s) : Acts P view s₀ (s.toTwin type payload) := .ite h.queueTx h

theorem tellStanding {kind index frame slot r} (h : Acts P view s₀ s) :
    Acts P view s₀ (s.tellStanding kind index frame slot r) := h.toWorkers

theorem queueSys {x} (h : Acts P view s₀ s) : Acts P view s₀ (s.queueSys x) := h.queued

theorem notice {ep n x kind frame slot seq from_} (h : Acts P view s₀ s) :
    Acts P view s₀ (s.notice ep n x kind frame slot seq from_) := h.queueSys

theorem noticeBoth {n x kind frame slot seq from_} (h : Acts P view s₀ s) :
    Acts P view s₀ (s.noticeBoth n x kind frame slot seq from_) := .ite h.notice h.notice.notice

end Acts

/-! ### Issue points -/

namespace Acts
variable {s₀ s : State}

theorem raiseMessage {src} (h : Sends s₀ s) (real : MessageWord src.block.real) : Sends s₀ (s.raise src) :=
  h.raise (fun _ c => .inl (.inl c)) real

theorem bumpMessage {w} (h : Sends s₀ s) (lo : 0xD0000 ≤ w.addr) (hi : w.addr + 4 < 0x180000) : Sends s₀ (s.bump w) :=
  h.bump (fun _ sat => .inl sat) (.inr ⟨lo, by omega⟩) (.inr ⟨by omega, hi⟩)

theorem dropGrant {n} (h : Sends s₀ s) : Sends s₀ (s.dropGrant n) :=
  (h.bumpMessage (by simp only [F.GRANT_DROPPED_CNT]; omega)
    (by simp only [F.GRANT_DROPPED_CNT]; omega)).raiseMessage (by decide)

theorem copyToCard {x seq} (h : Sends s₀ s) : Sends s₀ (s.copyToCard x seq) := .ite h (.ite h.queueTx (.ite h.dropGrant h))

theorem copyToWorker {x seq n} (h : Sends s₀ s) : Sends s₀ (s.copyToWorker x seq n) := .ite h.queueTx h

theorem issueOne {x} (h : Sends s₀ s) : Sends s₀ (s.issueOne x) := by
  have numbered : Sends s₀ (s.wr (F.SYS_SEQ.SEQ x.lane) (next32 (s.rd (F.SYS_SEQ.SEQ x.lane)))) :=
    h.wr (.inr (by simp only [F.SYS_SEQ.SEQ]; omega))
  exact .ite (numbered.copyToCard.foldl fun h => h.copyToWorker) numbered

theorem issuePoint {g} (h : Sends s₀ s) : Sends s₀ (s.issuePoint g) :=
  (h.queued (issueq := s.issueq.filter fun x => !x.ready g)).foldl fun h => h.issueOne

/-! ### A frame's end -/

theorem compareEnds (h : Sends s₀ s) : Sends s₀ s.compareEnds := by
  unfold State.compareEnds
  split
  · refine .ite (.ite (h.queued.wr (by decide)) ?_) h
    exact (((h.queued.wr (by decide)).bumpMessage (by decide) (by decide)).raiseMessage (by decide))
  · exact h

theorem endWhilePaired {e} (h : Sends s₀ s) : Sends s₀ (s.endWhilePaired e) := by
  unfold State.endWhilePaired
  extract_lets s1
  have h1 : Sends s₀ s1 := .ite ((h.wr (by decide)).raiseMessage (by decide)) h
  exact (h1.toTwin.queued).compareEnds

theorem endToTwin {e} (h : Sends s₀ s) : Sends s₀ (s.endToTwin e) := by
  unfold State.endToTwin
  exact .ite h.endWhilePaired (.ite h.toTwin.queued h)

theorem tellFrame {records e} (h : Sends s₀ s) : Sends s₀ (s.tellFrame records e) :=
  (h.foldl fun h => h.toWorkers).toWorkers.endToTwin

theorem tellDiscard {f seq} (h : Sends s₀ s) : Sends s₀ (s.tellDiscard f seq) := h.toWorkers.endToTwin

end Acts

end Sys2Proof.Machine

namespace Sys2Proof.Machine

/-! ## Standing updates (R184–R186) -/

/-- The plane but for its circuit contexts. -/
def Plane.withoutCtxs (p : Plane) : Plane := { p with ctxs := [] }

/-- Words that committing a standing update may write besides those that show what is pending. -/
abbrev CommitWord (a : Nat) : Prop := MessageWord a ∨ a = F.REARRANGEMENTS.addr ∨ a = F.REARRANGEMENTS.addr + 4

/-- A change of contexts, messages and reports: what an update does beside its record and its place in the plane. -/
abbrev Beside (s t : State) : Prop := Acts CommitWord Plane.withoutCtxs s t

section
variable {s₀ s t : State}

theorem Acts.setCtxBeside {n x} (h : Beside s₀ s) : Beside s₀ (s.setCtx n x) := h.setCtx fun _ _ => rfl

theorem Acts.plane_eq (h : Beside s t) : t.plane = { s.plane with ctxs := t.plane.ctxs } := by
  have view := h.view
  simp only [Plane.withoutCtxs, Plane.mk.injEq] at view
  obtain ⟨records, pins, nextPins, lastFrame, lastSlot, ops, replay, cuts, updates, alternates, request, taken, -,
    quiet⟩ := view
  cases e : t.plane
  simp_all

end

theorem State.record_congr {s t : State} (records : t.plane.records = s.plane.records) (n : Nat) : t.record n = s.record n := by
  rw [State.record, records, State.record]

/-- The update `u` as it stands once committed with record `a`, in place of an older one `old` (R186). -/
def Update.committed (u : Update) (a : Accord) (n frame slot : Nat) (old : Option Update) : Update :=
  match old with
  | some o => { u with
      accord := a, record := n, frame := frame, slot := slot, ops := o.ops ++ u.ops, lit := o.lit ++ u.lit,
      freed := o.freed ++ u.freed, answers := o.answers ++ u.answers,
      moved := o.moved ++ u.moved.filter fun m => !o.moved.contains m }
  | none => { u with accord := a, record := n, frame := frame, slot := slot }

/-- The record of the update `u` committed to record `n`. -/
def Update.recordAt (u : Update) (n : Nat) : Accord := { u.accord with index := n }.seal

theorem State.rd_showPending_active (s : State) : s.showPending.activeIndex = s.activeIndex :=
  (State.rd_wr_disjoint _ _ (by decide) (.inr (.inr (by decide)))).trans
    (s.rd_wr_disjoint _ (by decide) (.inr (.inr (by decide))))

/-- A commit writes its record, puts the update among the pending ones, and shows them. -/
def State.committed (s : State) (a : Accord) (n : Nat) (updates : List Update) : State :=
  ((s.setRecord (standRecord n) a).setPlane { (s.setRecord (standRecord n) a).plane with updates := updates }).showPending

theorem State.committed_aside (s : State) (a : Accord) (n : Nat) (updates : List Update) :
    (s.committed a n updates).plane = { (s.setRecord (standRecord n) a).plane with updates := updates } ∧
      (s.committed a n updates).mem = s.mem := by
  rw [State.committed, State.showPending, State.wr_plane, State.wr_plane, State.wr_mem, State.wr_mem]
  exact ⟨rfl, rfl⟩

theorem State.commitTo_beside (s : State) (u : Update) (n g : Nat) (old : Option Update) (earlier : List Update) :
    Beside (s.committed (u.recordAt n) n
      (earlier ++ [u.committed (u.recordAt n) n (g / s.slots) (g % s.slots) old])) (s.commitTo u n g old earlier) := by
  unfold State.commitTo
  extract_lets frame slot _ a v _ s1 s2 told s3 s4
  have hv : v = u.committed (u.recordAt n) n (g / s.slots) (g % s.slots) old := by
    cases old <;> rfl
  rw [← hv]
  have h2 : Beside s1.showPending s2 := (Acts.refl _ _ _).foldl fun h => h.setCtxBeside
  have htold : Beside s1.showPending told := by
    unfold told
    split
    · exact h2.queued
    · exact h2
  have h3 : Beside s1.showPending s3 := htold.foldl fun h => h.noticeBoth
  have h4 : Beside s1.showPending s4 :=
    .ite (h3.bump (fun _ sat => .inl (.inl sat)) (.inr (.inl rfl)) (.inr (.inr rfl))) h3
  exact h4.tellStanding

theorem State.commitTo_commits (s : State) (u : Update) (n g : Nat) (old : Option Update) (earlier : List Update) :
    (s.commitTo u n g old earlier).plane.cuts = s.plane.cuts ∧
      (s.commitTo u n g old earlier).plane.updates =
        earlier ++ [u.committed (u.recordAt n) n (g / s.slots) (g % s.slots) old] ∧
      (s.commitTo u n g old earlier).record (standRecord n) = u.recordAt n ∧
      (s.commitTo u n g old earlier).activeIndex = s.activeIndex ∧ (s.commitTo u n g old earlier).mem = s.mem := by
  have beside := s.commitTo_beside u n g old earlier
  obtain ⟨plane, mem⟩ := s.committed_aside (u.recordAt n) n
    (earlier ++ [u.committed (u.recordAt n) n (g / s.slots) (g % s.slots) old])
  have after := beside.plane_eq
  rw [plane] at after
  refine ⟨by rw [after]; rfl, by rw [after], ?_, (beside.rd (by decide)).trans (State.rd_showPending_active _),
    beside.mem.trans mem⟩
  exact (State.record_congr (by rw [after]) _).trans (s.record_setRecord_same _ _)

/-! ### The commit of the oldest cut -/

theorem State.freeStanding_congr {s t : State} (regs : t.regs = s.regs) (updates : t.plane.updates = s.plane.updates) :
    t.freeStanding = s.freeStanding := by
  have active : t.activeIndex = s.activeIndex := State.rd_of_regs regs _
  have armed : t.armed = s.armed := by rw [State.armed, State.rd_of_regs regs, State.armed]
  rw [State.freeStanding, active, armed, updates, State.freeStanding]

section
variable {s : State} {u : Update} {n : Nat}

/-- With nothing pending a cut commits to a free record with its own boundary. -/
theorem State.commitStanding_first (cut : s.plane.cuts = [u]) (idle : s.plane.updates = [])
    (free : s.freeStanding = some n) :
    s.commitStanding = (s.setPlane { s.plane with cuts := [], updates := [] }).commitTo u n
      (s.applyFrom (s.commitInstant u) u.rearranged) none [] := by
  have same : (s.setPlane { s.plane with cuts := [], updates := [] }).freeStanding = some n := by
    rw [← free]
    exact State.freeStanding_congr rfl idle.symm
  unfold State.commitStanding
  simp only [cut, idle, List.getLast?_nil, Option.isSome_none, Bool.false_and, Nat.max_zero]
  simp [same]

/-- With one update pending for its boundary or a later one a cut commits in place of it. -/
theorem State.commitStanding_replaces {o : Update} (cut : s.plane.cuts = [u]) (pending : s.plane.updates = [o])
    (covers : s.applyFrom (s.commitInstant u) u.rearranged ≤ s.slotNumber o.frame o.slot)
    (free : (s.setPlane { s.plane with updates := [] }).freeStanding = some n) :
    s.commitStanding = (s.setPlane { s.plane with cuts := [], updates := [] }).commitTo u n
      (s.slotNumber o.frame o.slot) (some o) [] := by
  have same : (s.setPlane { s.plane with cuts := [], updates := [] }).freeStanding = some n :=
    (State.freeStanding_congr rfl rfl).trans free
  unfold State.commitStanding
  simp [cut, pending, covers, same]

/-- With three updates pending, the last of them for an earlier boundary, the cut is undone and deferred. -/
theorem State.commitStanding_defers (cut : s.plane.cuts = [u]) (full : 3 ≤ s.plane.updates.length)
    (later : ∀ o, s.plane.updates.getLast? = some o →
      s.slotNumber o.frame o.slot < s.applyFrom (s.commitInstant u) u.rearranged) :
    s.commitStanding = ((s.setPlane { s.plane with cuts := [] }).undoUpdate false u).raise Src.ACCORD.CUT_DEFERRED := by
  obtain ⟨o, last⟩ : ∃ o, s.plane.updates.getLast? = some o := by
    exact ⟨_, List.getLast?_eq_some_getLast (List.ne_nil_of_length_pos (by omega))⟩
  have after := later o last
  have differs : (s.applyFrom (s.commitInstant u) u.rearranged == s.slotNumber o.frame o.slot) = false :=
    beq_eq_false_iff_ne.mpr after.ne'
  unfold State.commitStanding
  simp [cut, last, Nat.max_eq_left after.le, differs, full]

end

/-- Undoing a cut gives its contexts back and its operations to the replay. -/
theorem State.undoUpdate_eq (s : State) (u : Update) :
    ∃ t, Beside s t ∧ s.undoUpdate false u = t.setPlane { t.plane with replay := u.ops ++ t.plane.replay } := by
  refine ⟨_, ?_, rfl⟩
  exact ((Acts.refl _ _ _).foldl fun h => h.setCtxBeside).foldl fun h => .ite h.setCtxBeside h

/-! ### Alternates (R190) -/

theorem State.testBit_wr_withBit (s : State) {f : Field} {n : Nat} (fits : f.lsb + f.width ≤ 32)
    (inside : n < f.width) (b : Bool) :
    ((s.wr f (withBit (s.rd f) n b)).rd f).testBit n = b := by
  rw [s.rd_wr_mod f _ fits, Nat.testBit_mod_two_pow, decide_eq_true inside, Bool.true_and]
  exact (testBit_put _ n n b).trans (if_pos rfl)

section
variable (s : State) {n : Nat}

theorem State.testBit_setArmed (inside : n < 16) (b : Bool) : ((s.setArmed n b).rd F.ALT_ARMED.ARMED).testBit n = b :=
  s.testBit_wr_withBit (by decide) inside b

theorem State.testBit_setEligible (inside : n < 16) (b : Bool) :
    ((s.setEligible n b).rd F.ALT_ELIGIBLE.ELIGIBLE).testBit n = b :=
  s.testBit_wr_withBit (by decide) inside b

/-- The words of the armed and the eligible alternates. -/
abbrev AltWord (a : Nat) : Prop := a = F.ALT_ARMED.ARMED.addr ∨ a = F.ALT_ELIGIBLE.ELIGIBLE.addr

theorem State.setArmed_writes (n : Nat) (b : Bool) : Writes AltWord s (s.setArmed n b) := (Writes.refl _ s).wr (.inl rfl)

theorem State.setEligible_writes (n : Nat) (b : Bool) : Writes (· = F.ALT_ELIGIBLE.ELIGIBLE.addr) s (s.setEligible n b) :=
  (Writes.refl _ s).wr rfl

theorem State.armRecord_regs (n : Nat) :
    (s.armRecord n).regs = ((s.setArmed n true).setEligible n (s.planeMode == 0)).regs := rfl

theorem State.setArmed_plane (n : Nat) (b : Bool) : (s.setArmed n b).plane = s.plane := s.wr_plane _ _
theorem State.setArmed_mem (n : Nat) (b : Bool) : (s.setArmed n b).mem = s.mem := s.wr_mem _ _
theorem State.setEligible_plane (n : Nat) (b : Bool) : (s.setEligible n b).plane = s.plane := s.wr_plane _ _
theorem State.setEligible_mem (n : Nat) (b : Bool) : (s.setEligible n b).mem = s.mem := s.wr_mem _ _

theorem State.setAlternate_aside (n : Nat) (x : Option Alternate) : (s.setAlternate n x).plane.records = s.plane.records ∧
    (s.setAlternate n x).plane.updates = s.plane.updates ∧ (s.setAlternate n x).mem = s.mem := ⟨rfl, rfl, rfl⟩

theorem State.armRecord_aside (n : Nat) : (s.armRecord n).plane.records = (s.setRecord (standRecord n)
      { s.record (standRecord n) with baseSeq := s.standSeq }.seal).plane.records ∧
      (s.armRecord n).plane.updates = s.plane.updates ∧ (s.armRecord n).mem = s.mem := by
  obtain ⟨records, updates, mem⟩ := State.setAlternate_aside (((s.setRecord (standRecord n)
    { s.record (standRecord n) with baseSeq := s.standSeq }.seal).setArmed n true).setEligible n (s.planeMode == 0)) n _
  rw [State.setEligible_plane, State.setArmed_plane] at records updates
  rw [State.setEligible_mem, State.setArmed_mem] at mem
  exact ⟨records, updates, mem⟩

theorem State.dropAlternate_aside (n : Nat) : (s.dropAlternate n).plane.records = s.plane.records ∧
    (s.dropAlternate n).mem = s.mem := by
  obtain ⟨records, -, mem⟩ := ((s.setArmed n false).setEligible n false).setAlternate_aside n none
  rw [State.setEligible_plane, State.setArmed_plane] at records
  rw [State.setEligible_mem, State.setArmed_mem] at mem
  exact ⟨records, mem⟩

theorem State.record_armRecord (n : Nat) : (s.armRecord n).record (standRecord n) =
    { s.record (standRecord n) with baseSeq := s.standSeq }.seal :=
  (State.record_congr (s.armRecord_aside n).1 _).trans (s.record_setRecord_same (standRecord n) _)

/-- The two words that arming and disarming set. -/
theorem State.testBit_marked (inside : n < 16) (a e : Bool) :
    (((s.setArmed n a).setEligible n e).rd F.ALT_ARMED.ARMED).testBit n = a ∧
      (((s.setArmed n a).setEligible n e).rd F.ALT_ELIGIBLE.ELIGIBLE).testBit n = e :=
  ⟨by rw [(State.setEligible_writes _ n e).rd (by decide), s.testBit_setArmed inside],
    State.testBit_setEligible _ inside e⟩

theorem State.marked_activeIndex (n : Nat) (a e : Bool) : ((s.setArmed n a).setEligible n e).activeIndex = s.activeIndex :=
  ((State.setEligible_writes _ n e).rd (by decide)).trans ((s.setArmed_writes n a).rd (by decide))

end

theorem Sends.rd {s t : State} (h : Sends s t) {f : Field} (accord : 0x260000 ≤ f.addr) : t.rd f = s.rd f :=
  Acts.rd h fun message => by simp only [MessageWord, SaturatedWord, CascadeWord] at message; omega

theorem State.tellStanding_sends (s : State) (kind n frame slot : Nat) (r : Option Accord) :
    Sends s (s.tellStanding kind n frame slot r) := (Acts.refl _ _ s).tellStanding

theorem State.lookup_setAlternate_none (s : State) (n : Nat) : (s.setAlternate n none).plane.alternates.lookup n = none := by
  refine List.lookup_eq_none_iff.mpr fun e he => ?_
  have other := (List.mem_filter.mp he).2
  exact bne_iff_ne.mpr (bne_iff_ne.mp other).symm

theorem altCmdArm_arms (s : State) (m : Master) (n : Fin 16) (ok : s.writeAccess m F.ALT_CMD.ARM.addr = .ok)
    (sound : s.armBad n = false) :
    ∃ t, exec (.altCmdArm m n) s = .next t ∧ (t.rd F.ALT_ARMED.ARMED).testBit n = true ∧
      (t.rd F.ALT_ELIGIBLE.ELIGIBLE).testBit n = (s.planeMode == 0) ∧ (t.record (standRecord n)).baseSeq = s.standSeq ∧
      t.plane.updates = s.plane.updates ∧ t.activeIndex = s.activeIndex ∧ t.mem = s.mem := by
  have armed : s.armAlternate n = (s.armRecord n).tellStanding 1 n 0 0 (some ((s.armRecord n).record (standRecord n))) :=
    if_neg (Bool.eq_false_iff.mp sound)
  have told := (s.armRecord n).tellStanding_sends 1 n 0 0 (some ((s.armRecord n).record (standRecord n)))
  obtain ⟨-, updates, mem⟩ := s.armRecord_aside n
  obtain ⟨bit, eligible⟩ := s.testBit_marked n.isLt true (s.planeMode == 0)
  refine ⟨_, congrArg Host.Outcome.next ((s.gate_ok m _ _ ok).trans armed), ?_, ?_, ?_, ?_, ?_, told.mem.trans mem⟩
  · rw [told.rd (by decide), State.rd_of_regs (s.armRecord_regs n)]
    exact bit
  · rw [told.rd (by decide), State.rd_of_regs (s.armRecord_regs n)]
    exact eligible
  · rw [State.record_congr (congrArg Plane.records told.plane), s.record_armRecord n]
    rfl
  · rw [told.plane, updates]
  · exact (told.rd (by decide)).trans ((State.rd_of_regs (s.armRecord_regs n) _).trans (s.marked_activeIndex n _ _))

theorem altCmdArm_refuses (s : State) (m : Master) (n : Fin 16) (ok : s.writeAccess m F.ALT_CMD.ARM.addr = .ok)
    (unsound : s.armBad n = true) (vin : s.power.vin = true) (up : s.power.mainUp = true) :
    ∃ t, exec (.altCmdArm m n) s = .next t ∧ t.plane = s.plane ∧ t.rd F.ALT_ARMED.ARMED = s.rd F.ALT_ARMED.ARMED ∧
      t.flag Src.ACCORD.ALT_REFUSED.real = true ∧ t.mem = s.mem := by
  have reported := s.raise_reports Src.ACCORD.ALT_REFUSED
  exact ⟨_, congrArg Host.Outcome.next ((s.gate_ok m _ _ ok).trans (if_pos unsound)), reported.plane,
    (s.raise_writes _).rd (by decide),
    s.flag_raise_same _ (by decide) (by decide) (s.srcPowered_of_up _ vin up), reported.mem⟩

theorem altCmd_disarms (s : State) (m : Master) (n : Fin 16) (ok : s.writeAccess m F.ALT_CMD.ARM.addr = .ok)
    (armed : n.val ∈ s.armed) :
    ∃ t, exec (.altCmdDisarm m n) s = .next t ∧ (t.rd F.ALT_ARMED.ARMED).testBit n = false ∧
      (t.rd F.ALT_ELIGIBLE.ELIGIBLE).testBit n = false ∧ t.plane.alternates.lookup n.val = none ∧
      t.plane.records = s.plane.records ∧ t.mem = s.mem := by
  have told := (s.dropAlternate n).tellStanding_sends 2 n 0 0 none
  have regs : (s.dropAlternate n).regs = ((s.setArmed n false).setEligible n false).regs := rfl
  obtain ⟨records, mem⟩ := s.dropAlternate_aside n
  obtain ⟨bit, eligible⟩ := s.testBit_marked n.isLt false false
  refine ⟨_, congrArg Host.Outcome.next ((s.gate_ok m _ _ ok).trans (if_pos (List.contains_iff_mem.mpr armed))),
    ?_, ?_, ?_, ?_, told.mem.trans mem⟩
  · rw [told.rd (by decide), State.rd_of_regs regs]
    exact bit
  · rw [told.rd (by decide), State.rd_of_regs regs]
    exact eligible
  · rw [told.plane]
    exact State.lookup_setAlternate_none _ n
  · rw [told.plane, records]

theorem altCmd_disarmIgnored (s : State) (m : Master) (n : Fin 16) (ok : s.writeAccess m F.ALT_CMD.ARM.addr = .ok)
    (unarmed : n.val ∉ s.armed) : exec (.altCmdDisarm m n) s = .next s :=
  congrArg Host.Outcome.next ((s.gate_ok m _ _ ok).trans (if_neg fun listed => unarmed (List.contains_iff_mem.mp listed)))

/-! ### The commands -/

theorem standingCommit_up {s t : State} (up : s.power.mainUp = true) (commits : s.commitStanding = t) :
    exec .standingCommit s = .next t := congrArg Host.Outcome.next ((s.onMain_up _ up).trans commits)

theorem standingCommit_first (s : State) (u : Update) (n : Nat) (up : s.power.mainUp = true) (cut : s.plane.cuts = [u])
    (idle : s.plane.updates = []) (free : s.freeStanding = some n) :
    ∃ t v, exec .standingCommit s = .next t ∧ t.plane.cuts = [] ∧ t.plane.updates = [v] ∧ v.record = n ∧
      v.accord.index = n ∧ v.accord.seq = u.accord.seq ∧ v.ops = u.ops ∧
      v.frame = s.applyFrom (s.commitInstant u) u.rearranged / s.slots ∧
      v.slot = s.applyFrom (s.commitInstant u) u.rearranged % s.slots ∧ t.record (standRecord n) = v.accord ∧
      t.activeIndex = s.activeIndex ∧ t.mem = s.mem := by
  obtain ⟨cuts, updates, record, active, mem⟩ :=
    (s.setPlane { s.plane with cuts := [], updates := [] }).commitTo_commits u n
      (s.applyFrom (s.commitInstant u) u.rearranged) none []
  exact ⟨_, _, standingCommit_up up (State.commitStanding_first cut idle free), cuts, updates, rfl, rfl, rfl, rfl, rfl, rfl,
    record, active, mem⟩

theorem standingCommit_replaces (s : State) (u o : Update) (n : Nat) (up : s.power.mainUp = true) (cut : s.plane.cuts = [u])
    (pending : s.plane.updates = [o])
    (covers : s.applyFrom (s.commitInstant u) u.rearranged ≤ s.slotNumber o.frame o.slot)
    (free : (s.setPlane { s.plane with updates := [] }).freeStanding = some n) :
    ∃ t v, exec .standingCommit s = .next t ∧ t.plane.cuts = [] ∧ t.plane.updates = [v] ∧ v.record = n ∧
      v.accord.seq = u.accord.seq ∧ v.ops = o.ops ++ u.ops ∧ v.answers = o.answers ++ u.answers ∧
      v.frame = s.slotNumber o.frame o.slot / s.slots ∧ v.slot = s.slotNumber o.frame o.slot % s.slots ∧
      t.record (standRecord n) = v.accord ∧ t.activeIndex = s.activeIndex ∧ t.mem = s.mem := by
  obtain ⟨cuts, updates, record, active, mem⟩ :=
    (s.setPlane { s.plane with cuts := [], updates := [] }).commitTo_commits u n
      (s.slotNumber o.frame o.slot) (some o) []
  exact ⟨_, _, standingCommit_up up (State.commitStanding_replaces cut pending covers free), cuts, updates, rfl, rfl, rfl,
    rfl, rfl, rfl, record, active, mem⟩

theorem standingCommit_defers (s : State) (u : Update) (up : s.power.mainUp = true) (vin : s.power.vin = true)
    (cut : s.plane.cuts = [u]) (full : 3 ≤ s.plane.updates.length)
    (later : ∀ o, s.plane.updates.getLast? = some o →
      s.slotNumber o.frame o.slot < s.applyFrom (s.commitInstant u) u.rearranged) :
    ∃ t, exec .standingCommit s = .next t ∧ t.plane.cuts = [] ∧ t.plane.updates = s.plane.updates ∧
      t.plane.replay = u.ops ++ s.plane.replay ∧ t.flag Src.ACCORD.CUT_DEFERRED.real = true ∧ t.mem = s.mem := by
  obtain ⟨t, beside, undone⟩ := (s.setPlane { s.plane with cuts := [] }).undoUpdate_eq u
  have plane := beside.plane_eq
  have reported := (t.setPlane { t.plane with replay := u.ops ++ t.plane.replay }).raise_reports Src.ACCORD.CUT_DEFERRED
  have power : t.power = s.power := beside.power
  have deferred := (State.commitStanding_defers cut full later).trans (congrArg (State.raise · Src.ACCORD.CUT_DEFERRED) undone)
  refine ⟨_, standingCommit_up up deferred, ?_, ?_, ?_, ?_, reported.mem.trans beside.mem⟩
  · rw [reported.plane]
    show t.plane.cuts = []
    rw [plane]
    rfl
  · rw [reported.plane]
    show t.plane.updates = s.plane.updates
    rw [plane]
    rfl
  · rw [reported.plane]
    show u.ops ++ t.plane.replay = u.ops ++ s.plane.replay
    rw [plane]
    rfl
  · exact State.flag_raise_same _ _ (by decide) (by decide)
      (State.srcPowered_of_up _ _ ((congrArg Power.vin power).trans vin) ((congrArg Power.mainUp power).trans up))

/-- Settles O42: a cut commits, replaces or is deferred as R186 says; arming and disarming set the alternate's bits. -/
theorem standingUpdatesAndAlternates : Obligations.StandingUpdatesAndAlternates := by
  unfold Obligations.StandingUpdatesAndAlternates
  exact ⟨standingCommit_first, standingCommit_replaces, standingCommit_defers, altCmdArm_arms, altCmdArm_refuses,
    altCmd_disarms, altCmd_disarmIgnored⟩

end Sys2Proof.Machine

namespace Sys2Proof.Machine

/-! ## The end of a composition (R177, R208–R210) -/

/-- A wide value of 64 bits reads what was put into it, cut to its width. -/
theorem State.rdW_wrW_mod (s : State) {w : Wide} (v : Nat) (full : w.width = 64) : (s.wrW w v).rdW w = v % 2 ^ 64 := by
  have small : v % 2 ^ 64 < 2 ^ w.width := by
    rw [full]
    exact Nat.mod_lt _ (by decide)
  have lo : v % 2 ^ 64 % 2 ^ 32 = v % 2 ^ 32 := by omega
  have hi : v % 2 ^ 64 / 2 ^ 32 % 2 ^ (64 - 32) = v / 2 ^ 32 % 2 ^ (64 - 32) := by omega
  have low : s.wrW w v = s.wrW w (v % 2 ^ 64) := by rw [State.wrW, State.wrW, full, lo, hi]
  rw [low, s.rdW_wrW_same w (by omega) small]

theorem Writes.wrW {P : Nat → Prop} {s₀ s : State} {w : Wide} {v : Nat} (h : Writes P s₀ s) (lo : P w.addr)
    (hi : P (w.addr + 4)) : Writes P s₀ (s.wrW w v) := (h.setWord lo).setWord hi

theorem Reports.comp {s t : State} (h : Reports s t) : t.comp = s.comp := by rw [h.same]

section
variable (s : State)

theorem State.rd_setFlag_disjoint {f g : Field} (b : Bool) (fits : f.lsb + f.width ≤ 32)
    (apart : f.addr ≠ g.addr ∨ f.lsb + f.width ≤ g.lsb ∨ g.lsb + g.width ≤ f.lsb) : (s.setFlag f b).rd g = s.rd g :=
  s.rd_wr_disjoint _ fits apart

/-! ### COMP_STATUS and the banks -/

theorem State.compEnded_writes (phase result residue done_ : Nat) :
    Writes (· = 0x18000C) s (s.compEnded phase result residue done_) :=
  (((((Writes.refl (· = 0x18000C) s).wr rfl).wr rfl).setFlag rfl).wr rfl).wr rfl

theorem State.compEnded_comp (phase result residue done_ : Nat) :
    (s.compEnded phase result residue done_).comp = s.comp := by
  rw [State.compEnded, State.wr_comp, State.wr_comp, State.setFlag_comp, State.wr_comp, State.wr_comp]

theorem State.compEnded_power (phase result residue done_ : Nat) :
    (s.compEnded phase result residue done_).power = s.power := by
  rw [State.compEnded, State.wr_power, State.wr_power, State.setFlag_power, State.wr_power, State.wr_power]

/-- COMP_STATUS shows `phase`, `result` and `residue`. -/
structure Ended (t : State) (phase result residue : Nat) : Prop where
  phase : t.rd F.COMP_STATUS.PHASE = phase
  result : t.rd F.COMP_STATUS.RESULT = result
  residue : t.rd F.COMP_STATUS.RESIDUE = residue

theorem Ended.after {P : Nat → Prop} {s t : State} {phase result residue : Nat} (h : Ended s phase result residue)
    (k : Writes P s t) (apart : ¬ P 0x18000C) : Ended t phase result residue :=
  ⟨(k.rd apart).trans h.phase, (k.rd apart).trans h.result, (k.rd apart).trans h.residue⟩

theorem State.compEnded_ended {phase result residue : Nat} (done_ : Nat) (hp : phase < 8) (hr : result < 8)
    (hs : residue < 128) : Ended (s.compEnded phase result residue done_) phase result residue := by
  constructor
  · rw [State.compEnded, State.rd_wr_disjoint _ _ (by decide) (.inr (.inr (by decide))),
      State.rd_wr_disjoint _ _ (by decide) (.inr (.inr (by decide))),
      State.rd_setFlag_disjoint _ _ (by decide) (.inr (.inr (by decide))),
      State.rd_wr_disjoint _ _ (by decide) (.inr (.inr (by decide)))]
    exact s.rd_wr_same _ (by decide) hp
  · rw [State.compEnded, State.rd_wr_disjoint _ _ (by decide) (.inr (.inr (by decide))),
      State.rd_wr_disjoint _ _ (by decide) (.inr (.inr (by decide))),
      State.rd_setFlag_disjoint _ _ (by decide) (.inr (.inr (by decide)))]
    exact State.rd_wr_same _ _ (by decide) hr
  · rw [State.compEnded, State.rd_wr_disjoint _ _ (by decide) (.inr (.inr (by decide)))]
    exact State.rd_wr_same _ _ (by decide) hs

theorem bankField_fits (f : Nat) : (bankField f).addr = 0x260020 ∧ (bankField f).lsb + (bankField f).width ≤ 32 ∧
    (bankField f).width = 3 := by
  unfold bankField
  split <;> decide

theorem State.setBank_writes (f v : Nat) : Writes (· = 0x260020) s (s.setBank f v) :=
  (Writes.refl _ s).wr (bankField_fits f).1

theorem State.bank_setBank (f : Nat) {v : Nat} (small : v < 8) : (s.setBank f v).bank f = v := by
  obtain ⟨-, fits, width⟩ := bankField_fits f
  exact s.rd_wr_same _ fits (width ▸ small)

theorem Writes.bank {P : Nat → Prop} {s t : State} (k : Writes P s t) (apart : ¬ P 0x260020) (f : Nat) :
    t.bank f = s.bank f := k.rd ((bankField_fits f).1 ▸ apart)

/-! ### The commit -/

/-- A committed frame's bank, COMP_STATUS, time and digest. -/
def State.frameCommitted (f slots ns digest : Nat) : State :=
  (((State.compEnded { s.setBank f 2 with comp := { (s.setBank f 2).comp with composing := none } } 4 1 0 slots).wr
    F.COMP_TIME.NS ns).wrW F.DIGEST_FRAME f).wr F.FRAME_DIGEST.DIGEST digest

/-- The words of COMP_TIME, DIGEST_FRAME and FRAME_DIGEST. -/
abbrev DigestWord (a : Nat) : Prop := 0x180018 ≤ a ∧ a ≤ 0x180028

theorem State.frameCommitted_composing (f slots ns digest : Nat) :
    (s.frameCommitted f slots ns digest).comp.composing = none := by
  rw [State.frameCommitted, State.wr_comp, State.wrW_comp, State.wr_comp, State.compEnded_comp]

theorem State.frameCommitted_ended (f slots ns digest : Nat) : Ended (s.frameCommitted f slots ns digest) 4 1 0 :=
  (State.compEnded_ended _ slots (by decide) (by decide) (by decide)).after (P := DigestWord)
    ((((Writes.refl _ _).wr (by decide)).wrW (by decide) (by decide)).wr (by decide)) (by decide)

theorem State.frameCommitted_bank (f slots ns digest : Nat) : (s.frameCommitted f slots ns digest).bank f = 2 := by
  have ended := State.compEnded_writes { s.setBank f 2 with comp := { (s.setBank f 2).comp with composing := none } }
    4 1 0 slots
  have after : Writes (fun a => a = 0x18000C ∨ DigestWord a) (s.setBank f 2) (s.frameCommitted f slots ns digest) :=
    (((ended.mono fun _ => .inl).wr (.inr (by decide))).wrW (.inr (by decide)) (.inr (by decide))).wr (.inr (by decide))
  exact (after.bank (by decide) f).trans (s.bank_setBank f (by decide))

theorem State.frameCommitted_digestFrame (f slots ns digest : Nat) :
    (s.frameCommitted f slots ns digest).rdW F.DIGEST_FRAME = f % 2 ^ 64 := by
  have after {u : State} : (u.wr F.FRAME_DIGEST.DIGEST digest).rdW F.DIGEST_FRAME = u.rdW F.DIGEST_FRAME :=
    have wrote := (Writes.refl (· = 0x180028) u).wr (f := F.FRAME_DIGEST.DIGEST) (v := digest) rfl
    State.rdW_congr (wrote.word (by decide)) (wrote.word (by decide))
  exact after.trans (State.rdW_wrW_mod _ f rfl)

/-- What follows a frame's commit is messages. -/
theorem State.commitFrame_sends (c : Composition) (pins : Pins) :
    ∃ u ns digest, Sends (State.frameCommitted u c.frame s.slots ns digest) (s.commitFrame c pins) := by
  unfold State.commitFrame
  extract_lets x s1 s2 s3 _ s4 s5 gs digest s6 s7 e
  have h7 : Sends s6 s7 := (Acts.refl _ _ _).foldl fun h => h.queueSys
  exact ⟨s2.writeBank c.frame x.records, _, digest, h7.issuePoint.tellFrame⟩

theorem State.commitFrame_mem (c : Composition) (pins : Pins) : (s.commitFrame c pins).mem = s.mem :=
  ((Keeps.refl (fun _ => False) s).commitFrame.same .mem).resolve_left id

end

theorem State.compositionCommit_due {s : State} {c : Composition} {pins : Pins} (composing : s.comp.composing = some c)
    (next : s.plane.nextPins = some pins) (bank : s.bank c.frame = 1) : s.compositionCommit = s.commitFrame c pins := by
  unfold State.compositionCommit
  rw [composing, next]
  exact if_pos (beq_iff_eq.mpr bank)

theorem compositionCommit_commits (s : State) (c : Composition) (pins : Pins) (up : s.power.mainUp = true)
    (composing : s.comp.composing = some c) (next : s.plane.nextPins = some pins) (bank : s.bank c.frame = 1) :
    ∃ t, exec .compositionCommit s = .next t ∧ t.comp.composing = none ∧ t.bank c.frame = 2 ∧
      t.rd F.COMP_STATUS.PHASE = 4 ∧ t.rd F.COMP_STATUS.RESULT = 1 ∧ t.rd F.COMP_STATUS.RESIDUE = 0 ∧
      t.rdW F.DIGEST_FRAME = c.frame % 2 ^ 64 ∧ t.mem = s.mem := by
  obtain ⟨u, ns, digest, sends⟩ := s.commitFrame_sends c pins
  obtain ⟨phase, result, residue⟩ := (u.frameCommitted_ended c.frame s.slots ns digest).after sends.writes (by decide)
  refine ⟨_, congrArg Host.Outcome.next ((s.onMain_up _ up).trans (State.compositionCommit_due composing next bank)), ?_, ?_,
    phase, result, residue, ?_, s.commitFrame_mem c pins⟩
  · exact (congrArg Composer.composing sends.comp).trans (u.frameCommitted_composing c.frame s.slots ns digest)
  · exact (sends.writes.bank (by decide) _).trans (u.frameCommitted_bank c.frame s.slots ns digest)
  · exact (State.rdW_congr (sends.writes.word (by decide)) (sends.writes.word (by decide))).trans
      (u.frameCommitted_digestFrame c.frame s.slots ns digest)

/-! ### The discard -/

/-- What writing the bank of a discarded frame may write. -/
abbrev PartialWord (a : Nat) : Prop :=
  TallyWord F.ITER_CAP_CNT a ∨ TallyWord F.PAIRS_REMOVED_CNT a ∨ a = Src.ACCORD.PAIRS_REMOVED.block.real

section
variable (s : State)

theorem State.writeBank_acts (f : Nat) (records : List Accord) :
    Acts PartialWord (fun _ => ()) s (s.writeBank f records) := by
  unfold State.writeBank
  refine (Acts.refl _ _ s).foldl fun {u x} h => ?_
  have put : Acts PartialWord (fun _ => ()) s (u.setRecord (bankRecord f x.1) x.2) := h.trans ⟨rfl, rfl, .refl _ _⟩
  refine .ite put ?_
  exact (put.reports (State.bumpBy_reports _ _ _) ((State.bumpBy_tallies _ _ _).mono fun _ h => .inr (.inl h))).raise
    (fun _ cascade => .inl (.inr (.inr (.inl cascade)))) (.inr (.inr rfl))

/-- Words that discarding a frame may write. -/
abbrev DiscardWord (a : Nat) : Prop :=
  a = 0x260020 ∨ TallyWord F.FRAMES_DISCARDED a ∨ a = Src.ACCORD.FRAME_DISCARDED.block.real

theorem State.discardFrame_acts (f : Nat) : Acts DiscardWord id s (s.discardFrame f) :=
  ((((Acts.refl _ _ s).wr (.inl (bankField_fits f).1)).bump (fun _ sat => .inr (.inl (.inr (.inr sat))))
    (.inr (.inl (.inl rfl))) (.inr (.inl (.inr (.inl rfl))))).raise
      (fun _ cascade => .inr (.inl (.inr (.inr (.inl cascade))))) (.inr (.inr rfl)))

theorem State.discardFrame_bank (f : Nat) : (s.discardFrame f).bank f = 4 := by
  have counted := (s.setBank f 4).bumpBy_tallies F.FRAMES_DISCARDED 1
  have raised := ((s.setBank f 4).bump F.FRAMES_DISCARDED).raise_writes Src.ACCORD.FRAME_DISCARDED
  exact (raised.bank (by decide) f).trans ((counted.bank (by decide) f).trans (s.bank_setBank f (by decide)))

theorem State.discardFrame_counted (f : Nat) : Counted F.FRAMES_DISCARDED s (s.discardFrame f) :=
  (((s.setBank f 4).bump_tallied rfl (by decide) (by decide)).before (s.setBank_writes f 4) (by decide)
    (by decide)).after (State.raise_writes _ _) (by decide) (by decide)

theorem State.discardFrame_reported (f : Nat) (vin : s.power.vin = true) (up : s.power.mainUp = true) :
    (s.discardFrame f).flag Src.ACCORD.FRAME_DISCARDED.real = true := by
  have power : ((s.setBank f 4).bump F.FRAMES_DISCARDED).power = s.power :=
    (State.bump_reports _ _).power.trans (s.wr_power _ _)
  exact State.flag_raise_same _ _ (by decide) (by decide)
    (State.srcPowered_of_up _ _ ((congrArg Power.vin power).trans vin) ((congrArg Power.mainUp power).trans up))

/-- A composition of `c` that ended without commit leaves `t`, with `result` and `residue` (R177). -/
structure Dropped (c : Composition) (result residue : Nat) (t : State) : Prop where
  composing : t.comp.composing = none
  bank : t.bank c.frame = 4
  ended : Ended t 0 result residue
  flag : t.flag Src.ACCORD.FRAME_DISCARDED.real = true
  counted : Counted F.FRAMES_DISCARDED s t
  mem : t.mem = s.mem
  power : t.power = s.power

/-- A composition that ends without commit fills the bank in part, ends, discards its frame and says so. -/
theorem State.dropComposition_ends (c : Composition) (pins : Pins) {result : Nat} (written : Nat) (small : result < 8)
    (slots : s.slots ≤ 64) :
    ∃ u : State, u.power = s.power ∧ u.comp.composing = none ∧ Ended u 0 result (s.slots - min written s.slots) ∧
      Writes (fun a => PartialWord a ∨ a = 0x18000C) s u ∧
      s.dropComposition c pins result written = (u.discardFrame c.frame).tellDiscard c.frame c.base.seq := by
  unfold State.dropComposition
  extract_lets n f x s1 _ s2
  have filled : Acts PartialWord (fun _ => ()) f.2 s1 :=
    ((Acts.refl _ _ f.2).reports (State.bumpBy_reports _ _ _) ((State.bumpBy_tallies _ _ _).mono fun _ => .inl)).trans
      (State.writeBank_acts _ _ _)
  exact ⟨s2.compEnded 0 result (s.slots - n) n, (s2.compEnded_power _ _ _ _).trans filled.power,
    congrArg Composer.composing (s2.compEnded_comp _ _ _ _), s2.compEnded_ended n (by decide) small (by omega),
    (filled.writes.mono fun _ => .inl).trans ((s2.compEnded_writes _ _ _ _).mono fun _ => .inr), rfl⟩

theorem State.dropComposition_dropped (c : Composition) (pins : Pins) {result written : Nat} (vin : s.power.vin = true)
    (up : s.power.mainUp = true) (small : result < 8) (slots : s.slots ≤ 64) :
    Dropped s c result (s.slots - min written s.slots) (s.dropComposition c pins result written) := by
  have kept := (Keeps.refl (fun _ => False) s).dropComposition (c := c) (pins := pins) (result := result)
    (written := written)
  have mem := (kept.same .mem).resolve_left id
  have power := (kept.same .power).resolve_left id
  obtain ⟨u, before, idle, ended, wrote, shape⟩ := s.dropComposition_ends c pins written small slots
  rw [shape] at mem power ⊢
  have discarded := u.discardFrame_acts c.frame
  have told : Sends (u.discardFrame c.frame) ((u.discardFrame c.frame).tellDiscard c.frame c.base.seq) :=
    (Acts.refl _ _ _).tellDiscard
  have reported := u.discardFrame_reported c.frame ((congrArg Power.vin before).trans vin)
    ((congrArg Power.mainUp before).trans up)
  refine ⟨?_, ?_, ?_, ?_, ?_, mem, power⟩
  · rw [told.comp, discarded.comp, idle]
  · exact (told.writes.bank (by decide) _).trans (u.discardFrame_bank c.frame)
  · exact (ended.after discarded.writes (by decide)).after told.writes (by decide)
  · exact (told.flag (by decide)).trans reported
  · exact ((u.discardFrame_counted c.frame).before wrote (by decide) (by decide)).after told.writes (by decide) (by decide)

end

theorem State.commitDeadline_due {s : State} {c : Composition} {pins : Pins} (composing : s.comp.composing = some c)
    (next : s.plane.nextPins = some pins) (bank : s.bank c.frame = 1) (n : Nat) :
    s.commitDeadline n = if s.slots ≤ n then s.commitFrame c pins else s.dropComposition c pins 3 n := by
  unfold State.commitDeadline
  rw [composing, next]
  exact if_pos (beq_iff_eq.mpr bank)

theorem commitDeadline_discards (s : State) (c : Composition) (pins : Pins) (n : Fin 65) (up : s.power.mainUp = true)
    (vin : s.power.vin = true) (composing : s.comp.composing = some c) (next : s.plane.nextPins = some pins)
    (bank : s.bank c.frame = 1) (missing : n < s.slots) (slots : s.slots ≤ 64) :
    ∃ t, exec (.commitDeadline n) s = .next t ∧ t.comp.composing = none ∧ t.bank c.frame = 4 ∧
      t.rd F.COMP_STATUS.PHASE = 0 ∧ t.rd F.COMP_STATUS.RESULT = 3 ∧ t.rd F.COMP_STATUS.RESIDUE = s.slots - n ∧
      t.flag Src.ACCORD.FRAME_DISCARDED.real = true ∧ Counted F.FRAMES_DISCARDED s t ∧ t.mem = s.mem := by
  obtain ⟨idle, discarded, ⟨phase, result, residue⟩, flag, counted, mem, -⟩ :=
    s.dropComposition_dropped c pins (written := n) vin up (by decide : 3 < 8) slots
  have due := (State.commitDeadline_due composing next bank n).trans (if_neg missing.not_ge)
  exact ⟨_, congrArg Host.Outcome.next ((s.onMain_up _ up).trans due), idle, discarded, phase, result,
    residue.trans (by omega), flag, counted, mem⟩

theorem commitDeadline_commits (s : State) (c : Composition) (pins : Pins) (n : Fin 65) (up : s.power.mainUp = true)
    (composing : s.comp.composing = some c) (next : s.plane.nextPins = some pins) (bank : s.bank c.frame = 1)
    (written : s.slots ≤ n) : exec (.commitDeadline n) s = exec .compositionCommit s := by
  have due := (State.commitDeadline_due composing next bank n).trans (if_pos written)
  exact congrArg Host.Outcome.next ((s.onMain_up _ up).trans (due.trans
    ((State.compositionCommit_due composing next bank).symm.trans (s.onMain_up _ up).symm)))

theorem State.abortComposition_due {s : State} {c : Composition} {pins : Pins} (composing : s.comp.composing = some c)
    (next : s.plane.nextPins = some pins) (bank : s.bank c.frame = 1) (n : Nat) :
    s.abortComposition n = (s.dropComposition c pins 2 n).raise Src.COMPOSER.COMPOSE_ABORTED := by
  unfold State.abortComposition
  rw [composing, next]
  exact if_pos (beq_iff_eq.mpr bank)

theorem compCtrlAbort_discards (s : State) (m : Master) (c : Composition) (pins : Pins) (n : Fin 65)
    (ok : s.writeAccess m F.COMP_CTRL.ABORT.addr = .ok) (vin : s.power.vin = true) (up : s.power.mainUp = true)
    (composing : s.comp.composing = some c) (next : s.plane.nextPins = some pins) (bank : s.bank c.frame = 1)
    (slots : s.slots ≤ 64) :
    ∃ t, exec (.compCtrlAbort m n) s = .next t ∧ t.comp.composing = none ∧ t.bank c.frame = 4 ∧
      t.rd F.COMP_STATUS.PHASE = 0 ∧ t.rd F.COMP_STATUS.RESULT = 2 ∧ t.rd F.COMP_STATUS.RESIDUE = s.slots - n ∧
      t.flag Src.COMPOSER.COMPOSE_ABORTED.real = true ∧ t.mem = s.mem := by
  obtain ⟨idle, discarded, ended, -, -, mem, power⟩ :=
    s.dropComposition_dropped c pins (written := n) vin up (by decide : 2 < 8) slots
  have due := State.abortComposition_due composing next bank n
  generalize s.dropComposition c pins 2 n = u at *
  have reported := u.raise_reports Src.COMPOSER.COMPOSE_ABORTED
  have wrote := u.raise_writes Src.COMPOSER.COMPOSE_ABORTED
  obtain ⟨phase, result, residue⟩ := ended.after wrote (by decide)
  exact ⟨_, congrArg Host.Outcome.next ((s.gate_ok m _ _ ok).trans due),
    (congrArg Composer.composing reported.comp).trans idle,
    (wrote.bank (by decide) _).trans discarded, phase, result, residue.trans (by omega),
    u.flag_raise_same _ (by decide) (by decide)
      (u.srcPowered_of_up _ ((congrArg Power.vin power).trans vin) ((congrArg Power.mainUp power).trans up)),
    reported.mem.trans mem⟩

/-! ### With nothing composing -/

section
variable {s : State}

theorem State.compositionCommit_idle (idle : s.comp.composing = none) : s.compositionCommit = s := by
  unfold State.compositionCommit
  rw [idle]

theorem State.commitDeadline_idle (idle : s.comp.composing = none) (n : Nat) : s.commitDeadline n = s := by
  unfold State.commitDeadline
  rw [idle]

theorem State.abortComposition_idle (idle : s.comp.composing = none) (n : Nat) :
    s.abortComposition n = if s.rd F.COMP_STATUS.PHASE = 4 then
      (s.wr F.COMP_STATUS.RESULT 1).setFlag F.COMP_STATUS.ABORT_IGNORED true else s := by
  unfold State.abortComposition
  rw [idle]

end

theorem composition_idle (s : State) (m : Master) (n : Fin 65) (idle : s.comp.composing = none) :
    (s.power.mainUp = true → exec .compositionCommit s = .next s ∧ exec (.commitDeadline n) s = .next s) ∧
      (s.writeAccess m F.COMP_CTRL.ABORT.addr = .ok → s.rd F.COMP_STATUS.PHASE ≠ 4 →
        exec (.compCtrlAbort m n) s = .next s) := by
  refine ⟨fun up => ⟨congrArg Host.Outcome.next ((s.onMain_up _ up).trans (State.compositionCommit_idle idle)),
    congrArg Host.Outcome.next ((s.onMain_up _ up).trans (State.commitDeadline_idle idle n))⟩, fun ok before => ?_⟩
  exact congrArg Host.Outcome.next ((s.gate_ok m _ _ ok).trans ((State.abortComposition_idle idle n).trans (if_neg before)))

theorem compCtrlAbort_ignored (s : State) (m : Master) (n : Fin 65) (ok : s.writeAccess m F.COMP_CTRL.ABORT.addr = .ok)
    (idle : s.comp.composing = none) (committed : s.rd F.COMP_STATUS.PHASE = 4) :
    ∃ t, exec (.compCtrlAbort m n) s = .next t ∧ t.rd F.COMP_STATUS.RESULT = 1 ∧
      t.flag F.COMP_STATUS.ABORT_IGNORED = true ∧ t.comp = s.comp ∧ t.plane = s.plane ∧
      (∀ a, a ≠ F.COMP_STATUS.RESULT.addr → t.word a = s.word a) ∧ t.mem = s.mem ∧ t.outbox = s.outbox := by
  have late := (State.abortComposition_idle idle n).trans (if_pos committed)
  have wrote : Writes (· = F.COMP_STATUS.RESULT.addr) s
      ((s.wr F.COMP_STATUS.RESULT 1).setFlag F.COMP_STATUS.ABORT_IGNORED true) :=
    ((Writes.refl (· = F.COMP_STATUS.RESULT.addr) s).wr rfl).setFlag rfl
  refine ⟨_, congrArg Host.Outcome.next ((s.gate_ok m _ _ ok).trans late),
    ?_, ?_, ?_, ?_, fun a apart => wrote.word apart, ?_, ?_⟩
  · rw [State.rd_setFlag_disjoint _ _ (by decide) (.inr (.inr (by decide)))]
    exact s.rd_wr_same _ (by decide) (by decide)
  · exact State.flag_setFlag_same _ true (by decide) rfl
  · rw [State.setFlag_comp, State.wr_comp]
  · rw [State.setFlag_plane, State.wr_plane]
  · rw [State.setFlag_mem, State.wr_mem]
  · rw [State.setFlag_outbox, State.wr_outbox]

/-- Settles O41: a composition ends by its commit, its deadline or an ABORT, and without one nothing ends. -/
theorem compositionEndsCommittedOrDiscarded : Obligations.CompositionEndsCommittedOrDiscarded := by
  unfold Obligations.CompositionEndsCommittedOrDiscarded
  exact ⟨compositionCommit_commits, commitDeadline_discards, commitDeadline_commits, compCtrlAbort_discards,
    composition_idle, compCtrlAbort_ignored⟩

end Sys2Proof.Machine

namespace Sys2Proof.Machine

/-! ## Accepting a message in order (R225, R228, R231) -/

/-- Words that accepting and answering messages may write: those of the lanes and of KOWIN, and where a count saturates. -/
abbrev InboxWord (a : Nat) : Prop := SaturatedWord a ∨ (0xF0000 ≤ a ∧ a < 0x140000)

theorem Reports.time {s t : State} (h : Reports s t) : t.time = s.time := by rw [h.same]
theorem Reports.free {s t : State} (h : Reports s t) : t.free = s.free := by rw [h.same]
theorem Reports.hier {s t : State} (h : Reports s t) : t.hier = s.hier := by rw [h.same]
theorem Reports.lanes {s t : State} (h : Reports s t) : t.lanes = s.lanes := by rw [h.same]
theorem Reports.issueq {s t : State} (h : Reports s t) : t.issueq = s.issueq := by rw [h.same]

section
variable (s : State)

/-- What counting an accepted message may write. -/
abbrev AcceptWord (n a : Nat) : Prop := TallyWord F.MSG_RX a ∨ TallyWord (F.RX_MSG n) a

theorem State.countAccepted_reports (n : Nat) : Reports s (s.countAccepted n) :=
  (s.bump_reports _).trans (State.bump_reports _ _)

theorem State.countAccepted_writes (n : Nat) : Writes (AcceptWord n) s (s.countAccepted n) :=
  ((s.bumpBy_tallies _ 1).mono fun _ => .inl).trans ((State.bumpBy_tallies _ _ 1).mono fun _ => .inr)

theorem State.countAccepted_counted (n : Nat) : Counted F.MSG_RX s (s.countAccepted n) := by
  refine (s.bump_tallied rfl (by decide) (by decide)).after (State.bumpBy_tallies _ (F.RX_MSG n) 1) ?_ ?_ <;>
    simp only [F.MSG_RX, F.RX_MSG, TallyWord, SaturatedWord, CascadeWord] <;> omega

theorem Writes.flag {P : Nat → Prop} {s t : State} (h : Writes P s t) {f : Field} (apart : ¬ P f.addr) :
    t.flag f = s.flag f := congrArg (· == 1) (h.rd apart)

theorem Counted.of_regs {w : Wide} {s u t : State} (h : Counted w u t) (regs : u.regs = s.regs) : Counted w s t := by
  unfold Counted at h ⊢
  rw [h, State.rdW_of_regs regs]

/-- The gap before `seq` in the lane's sequence. -/
def State.gapBefore (n seq : Nat) : Nat := (seq + 2 ^ 32 - s.rd (F.RX_SEQ.SEQ n) - 1) % 2 ^ 32

/-- USED and the sequence number move on. -/
def State.advanced (n seq : Nat) : State :=
  (s.wr (F.CREDIT.USED n) ((s.rd (F.CREDIT.USED n) + 1) % 65536)).wr (F.RX_SEQ.SEQ n) seq

/-- They move on, and a gap is counted. -/
def State.numbered (n seq : Nat) : State :=
  if s.gapBefore n seq = 0 then s.advanced n seq
  else ((s.advanced n seq).bumpBy (F.GAP_CNT n) (s.gapBefore n seq)).raise Src.KOWIN.SEQ_GAP

/-- An accepted message is numbered and counted. -/
def State.accepted (n seq : Nat) : State := (s.numbered n seq).countAccepted n

theorem State.isTier_of_isCard {s : State} {n : Nat} (card : s.isCard n = true) : s.isTier n = false := by
  simp only [State.isCard, Bool.and_eq_true, Bool.not_eq_true'] at card
  rw [State.isTier, card.2, Bool.and_false]

theorem State.noteCredit_card {s : State} {n : Nat} (card : s.isCard n = true) (h : KHeader) : s.noteCredit n h = s := by
  rw [State.noteCredit, State.isTier_of_isCard card]
  rfl

/-- A message newer than the last one accepted goes on, with its gap counted. -/
theorem State.sequence_newer {s : State} {n seq : Nat} {f : Field} (new : newer seq (s.rd f) = true)
    (dup ok : State → State) :
    s.sequence n f seq dup ok = ok (if (seq + 2 ^ 32 - s.rd f - 1) % 2 ^ 32 = 0 then s.wr f seq
      else ((s.wr f seq).bumpBy (F.GAP_CNT n) ((seq + 2 ^ 32 - s.rd f - 1) % 2 ^ 32)).raise Src.KOWIN.SEQ_GAP) :=
  if_pos new

theorem State.rd_used_seq (n v : Nat) : (s.wr (F.CREDIT.USED n) v).rd (F.RX_SEQ.SEQ n) = s.rd (F.RX_SEQ.SEQ n) :=
  ((Writes.refl (· = (F.CREDIT.USED n).addr) s).wr rfl).rd (by simp only [F.CREDIT.USED, F.RX_SEQ.SEQ]; omega)

theorem State.acceptMsg_inOrder {s : State} {n : Nat} {h : KHeader} (order : InOrder s n h) (card : s.isCard n = true)
    (type : h.type = 2 ∨ h.type = 4 ∨ h.type = 7 ∨ h.type = 9) (dir : Nat) (act : State → State) :
    s.acceptMsg n h dir act = act (s.accepted n h.seq) := by
  obtain ⟨-, up, crc, new, credit⟩ := order
  have counts : consumesCredit h.type = true := by rcases type with e | e | e | e <;> rw [e] <;> rfl
  have allowed : s.typeAllowed n h.type dir = true := by
    rw [State.typeAllowed, if_pos card]
    rcases type with e | e | e | e <;> rw [e] <;> rfl
  have sequenced : ¬(h.type = 1 ∨ h.type = 0x0B ∨ (s.isCard n ∧ h.type = 0x0A)) := by
    rintro (e | e | ⟨-, e⟩) <;> omega
  have newHere : newer h.seq ((s.wr (F.CREDIT.USED n) ((s.rd (F.CREDIT.USED n) + 1) % 65536)).rd (F.RX_SEQ.SEQ n)) = true := by
    rw [State.rd_used_seq, new]
  unfold State.acceptMsg
  simp only [State.noteCredit_card card, up, counts, credit, crc, allowed, sequenced, State.sequence_newer newHere,
    State.rd_used_seq, BEq.rfl, Bool.and_self, Bool.not_true, Bool.false_or, if_true, if_false,
    Bool.false_eq_true, OfNat.ofNat_ne_zero, OfNat.ofNat_ne_one]
  rfl

/-- What counting the gap before a message may write. -/
abbrev GapWord (n a : Nat) : Prop := TallyWord (F.GAP_CNT n) a ∨ a = Src.KOWIN.SEQ_GAP.block.real

/-- What counting a message and the gap before it may write. -/
abbrev CountedWord (n a : Nat) : Prop := GapWord n a ∨ AcceptWord n a

theorem State.advanced_reports (n seq : Nat) : Reports s (s.advanced n seq) :=
  (s.wr_reports _ _).trans (State.wr_reports _ _ _)

theorem State.accepted_reports (n seq : Nat) : Reports s (s.accepted n seq) := by
  refine Reports.trans ?_ (State.countAccepted_reports _ n)
  unfold State.numbered
  split
  · exact s.advanced_reports n seq
  · exact ((s.advanced_reports n seq).trans (State.bumpBy_reports _ _ _)).trans (State.raise_reports _ _)

theorem State.numbered_writes (n seq : Nat) : Writes (GapWord n) (s.advanced n seq) (s.numbered n seq) := by
  unfold State.numbered
  split
  · exact .refl _ _
  · refine ((State.bumpBy_tallies _ _ _).mono fun _ => .inl).trans ((State.raise_writes _ _).mono ?_)
    rintro a (cascade | ⟨x, hx, rfl⟩)
    · exact .inl (.inr (.inr (.inl cascade)))
    · exact .inr (List.mem_singleton.mp hx ▸ rfl)

theorem State.accepted_counts (n seq : Nat) : Writes (CountedWord n) (s.advanced n seq) (s.accepted n seq) :=
  ((s.numbered_writes n seq).mono fun _ => .inl).trans ((State.countAccepted_writes _ n).mono fun _ => .inr)

theorem State.advanced_writes (n seq : Nat) :
    Writes (fun a => a = (F.CREDIT.USED n).addr ∨ a = (F.RX_SEQ.SEQ n).addr) s (s.advanced n seq) :=
  ((Writes.refl _ s).wr (.inl rfl)).wr (.inr rfl)

theorem State.accepted_writes (n seq : Nat) : Writes InboxWord s (s.accepted n seq) := by
  refine ((s.advanced_writes n seq).mono fun a h => ?_).trans ((s.accepted_counts n seq).mono fun a h => ?_) <;>
    simp only [F.CREDIT.USED, F.RX_SEQ.SEQ, F.GAP_CNT, F.MSG_RX, F.RX_MSG, Src.KOWIN.SEQ_GAP, FB.KOWIN, TallyWord,
      SaturatedWord, CascadeWord, InboxWord, CountedWord, GapWord, AcceptWord] at h ⊢ <;> omega

/-- The first words of a lane's block, which no count changes. -/
abbrev LaneWord (a : Nat) : Prop := 0x100000 ≤ a ∧ a < 0x140000 ∧ a % 4096 < 0x40

theorem CountedWord.apart {n a : Nat} (lane : LaneWord a) : ¬ CountedWord n a := by
  simp only [F.GAP_CNT, F.MSG_RX, F.RX_MSG, Src.KOWIN.SEQ_GAP, FB.KOWIN, TallyWord, SaturatedWord, CascadeWord, CountedWord,
    GapWord, AcceptWord]
  omega

theorem TallyWord.apart {w : Wide} {a : Nat} (out : w.addr + 4 < 0x100000 ∨ 0x140000 ≤ w.addr) (lane : LaneWord a) :
    ¬ TallyWord w a := by
  simp only [TallyWord, SaturatedWord, CascadeWord]
  omega

theorem RaiseWord.apart {src : Source} {a : Nat} (out : ¬ LaneWord src.block.real) (lane : LaneWord a) :
    ¬ RaiseWord [src] a := by
  rintro (cascade | ⟨x, hx, rfl⟩)
  · simp only [CascadeWord] at cascade
    omega
  · exact out (List.mem_singleton.mp hx ▸ lane)

theorem laneWord_limit (n : Nat) : LaneWord (F.CREDIT.LIMIT n).addr := by
  simp only [F.CREDIT.LIMIT]
  omega

theorem laneWord_seq (n : Nat) : LaneWord (F.RX_SEQ.SEQ n).addr := by
  simp only [F.RX_SEQ.SEQ]
  omega

theorem laneWord_peer (n : Nat) : LaneWord (F.PEER_STATUS.WORD n).addr := by
  simp only [F.PEER_STATUS.WORD]
  omega

theorem credit_seq_apart (n : Nat) : (F.CREDIT.LIMIT n).addr ≠ (F.RX_SEQ.SEQ n).addr := by
  simp only [F.CREDIT.LIMIT, F.RX_SEQ.SEQ]
  omega

theorem peer_apart (n : Nat) : (F.PEER_STATUS.WORD n).addr ≠ (F.CREDIT.LIMIT n).addr ∧
    (F.PEER_STATUS.WORD n).addr ≠ (F.RX_SEQ.SEQ n).addr := by
  simp only [F.CREDIT.LIMIT, F.RX_SEQ.SEQ, F.PEER_STATUS.WORD]
  omega

theorem State.rd_wr_seq (n v : Nat) {f : Field} (apart : f.addr ≠ (F.RX_SEQ.SEQ n).addr) :
    (s.wr (F.RX_SEQ.SEQ n) v).rd f = s.rd f := ((Writes.refl (· = (F.RX_SEQ.SEQ n).addr) s).wr rfl).rd apart

theorem State.accepted_limit (n seq : Nat) : (s.accepted n seq).rd (F.CREDIT.LIMIT n) = s.rd (F.CREDIT.LIMIT n) := by
  rw [(s.accepted_counts n seq).rd (CountedWord.apart (laneWord_limit n)), State.advanced,
    State.rd_wr_seq _ n seq (credit_seq_apart n)]
  exact s.rd_wr_disjoint _ (by show 16 + 16 ≤ 32; decide) (.inr (.inr (by show 0 + 16 ≤ 16; decide)))

theorem State.accepted_used (n seq : Nat) :
    (s.accepted n seq).rd (F.CREDIT.USED n) = (s.rd (F.CREDIT.USED n) + 1) % 65536 := by
  have lane : LaneWord (F.CREDIT.USED n).addr := laneWord_limit n
  have apart : (F.CREDIT.USED n).addr ≠ (F.RX_SEQ.SEQ n).addr := credit_seq_apart n
  rw [(s.accepted_counts n seq).rd (CountedWord.apart lane), State.advanced, State.rd_wr_seq _ n seq apart]
  exact s.rd_wr_same _ (by show 16 + 16 ≤ 32; decide) (Nat.mod_lt _ (by decide))

theorem State.accepted_seq (n seq : Nat) : (s.accepted n seq).rd (F.RX_SEQ.SEQ n) = seq % 2 ^ 32 := by
  rw [(s.accepted_counts n seq).rd (CountedWord.apart (laneWord_seq n)), State.advanced]
  exact State.rd_wr_mod _ _ seq (by show 0 + 32 ≤ 32; decide)

theorem State.accepted_peer (n seq : Nat) :
    (s.accepted n seq).rd (F.PEER_STATUS.WORD n) = s.rd (F.PEER_STATUS.WORD n) := by
  rw [(s.accepted_counts n seq).rd (CountedWord.apart (laneWord_peer n)),
    (s.advanced_writes n seq).rd fun h => h.elim (peer_apart n).1 (peer_apart n).2]

theorem State.accepted_divergence (n seq : Nat) : (s.accepted n seq).rdW F.DIVERGENCE_CNT = s.rdW F.DIVERGENCE_CNT := by
  have wrote : Writes (fun a => (a = (F.CREDIT.USED n).addr ∨ a = (F.RX_SEQ.SEQ n).addr) ∨ CountedWord n a) s
      (s.accepted n seq) :=
    ((s.advanced_writes n seq).mono fun _ => .inl).trans ((s.accepted_counts n seq).mono fun _ => .inr)
  refine State.rdW_congr (wrote.word ?_) (wrote.word ?_) <;>
    simp only [F.CREDIT.USED, F.RX_SEQ.SEQ, F.GAP_CNT, F.MSG_RX, F.RX_MSG, F.DIVERGENCE_CNT, Src.KOWIN.SEQ_GAP, FB.KOWIN,
      TallyWord, SaturatedWord, CascadeWord, CountedWord, GapWord, AcceptWord] <;> omega

theorem State.accepted_counted (n seq : Nat) : Counted F.MSG_RX s (s.accepted n seq) := by
  refine (State.countAccepted_counted _ n).before
    (P := fun a => (a = (F.CREDIT.USED n).addr ∨ a = (F.RX_SEQ.SEQ n).addr) ∨ GapWord n a)
    (((s.advanced_writes n seq).mono fun _ => .inl).trans ((s.numbered_writes n seq).mono fun _ => .inr)) ?_ ?_ <;>
    simp only [F.CREDIT.USED, F.RX_SEQ.SEQ, F.GAP_CNT, F.MSG_RX, Src.KOWIN.SEQ_GAP, FB.KOWIN, TallyWord, SaturatedWord,
      CascadeWord, GapWord] <;> omega

/-! ### Credit -/

theorem State.giveCredit_writes (n : Nat) : Writes LaneWord s (s.giveCredit n) :=
  (Writes.refl _ s).wr (laneWord_limit n)

theorem State.giveCredit_reports (n : Nat) : Reports s (s.giveCredit n) := s.wr_reports _ _

theorem State.giveCredit_peer (n : Nat) :
    (s.giveCredit n).rd (F.PEER_STATUS.WORD n) = s.rd (F.PEER_STATUS.WORD n) :=
  ((Writes.refl (· = (F.CREDIT.LIMIT n).addr) s).wr rfl).rd (peer_apart n).1

theorem State.giveCredit_limit (n : Nat) :
    (s.giveCredit n).rd (F.CREDIT.LIMIT n) = (s.rd (F.CREDIT.LIMIT n) + 1) % 65536 :=
  s.rd_wr_same _ (by show 0 + 16 ≤ 32; decide) (Nat.mod_lt _ (by decide))

end

/-! ### What serving a message reads -/

/-- States that serve a message alike: what its service reads is the same in both. -/
structure Alike (s t : State) : Prop where
  plane : t.plane = s.plane
  comp : t.comp = s.comp
  time : t.time = s.time
  free : t.free = s.free
  hier : t.hier = s.hier
  word : ∀ a, ¬ InboxWord a → t.word a = s.word a

theorem State.accepted_alike (s : State) (n seq : Nat) : Alike s (s.accepted n seq) :=
  have same := s.accepted_reports n seq
  ⟨same.plane, same.comp, same.time, same.free, same.hier, fun _ apart => (s.accepted_writes n seq).word apart⟩

/-- `u` is `s` after it has accepted message `seq` on lane `n`. -/
structure Accepted (s : State) (n seq : Nat) (u : State) : Prop where
  alike : Alike s u
  reports : Reports s u
  writes : Writes InboxWord s u
  limit : u.rd (F.CREDIT.LIMIT n) = s.rd (F.CREDIT.LIMIT n)
  used : u.rd (F.CREDIT.USED n) = (s.rd (F.CREDIT.USED n) + 1) % 65536
  seq : u.rd (F.RX_SEQ.SEQ n) = seq % 2 ^ 32
  peer : u.rd (F.PEER_STATUS.WORD n) = s.rd (F.PEER_STATUS.WORD n)
  counted : Counted F.MSG_RX s u
  divergence : u.rdW F.DIVERGENCE_CNT = s.rdW F.DIVERGENCE_CNT

theorem State.accepted_accepted (s : State) (n seq : Nat) : Accepted s n seq (s.accepted n seq) :=
  ⟨s.accepted_alike n seq, s.accepted_reports n seq, s.accepted_writes n seq, s.accepted_limit n seq, s.accepted_used n seq,
    s.accepted_seq n seq, s.accepted_peer n seq, s.accepted_counted n seq, s.accepted_divergence n seq⟩

namespace Alike
variable {s t : State}

theorem rd (h : Alike s t) {f : Field} (apart : ¬ InboxWord f.addr) : t.rd f = s.rd f := by
  rw [State.rd, h.word _ apart, State.rd]

theorem flag (h : Alike s t) {f : Field} (apart : ¬ InboxWord f.addr) : t.flag f = s.flag f := congrArg (· == 1) (h.rd apart)

theorem planeMode (h : Alike s t) : t.planeMode = s.planeMode := h.rd (by decide)

theorem follows (h : Alike s t) : t.follows = s.follows := by
  rw [State.follows, State.isManager, h.flag (by decide), h.rd (by decide), State.follows, State.isManager]

theorem now (h : Alike s t) : t.now = s.now := by rw [State.now, h.time, State.now]

theorem epoch (h : Alike s t) : t.epoch = s.epoch := by
  rw [State.epoch, State.rdW_congr (h.word _ (by decide)) (h.word _ (by decide)), h.rd (by decide), State.epoch]

theorem slots (h : Alike s t) : t.slots = s.slots := h.rd (by decide)
theorem slotNs (h : Alike s t) : t.slotNs = s.slotNs := h.rd (by decide)

theorem frameNs (h : Alike s t) : t.frameNs = s.frameNs := by rw [State.frameNs, h.slots, h.slotNs, State.frameNs]

theorem frameStart (h : Alike s t) (f : Nat) : t.frameStart f = s.frameStart f := by
  rw [State.frameStart, h.epoch, h.frameNs, State.frameStart]

theorem preEpoch (h : Alike s t) : t.preEpoch = s.preEpoch := by rw [State.preEpoch, h.now, h.epoch, State.preEpoch]

theorem frame (h : Alike s t) : t.frame = s.frame := by
  rw [State.frame, State.frameAt, h.now, h.epoch, h.frameNs, State.frame, State.frameAt]

theorem slot (h : Alike s t) : t.slot = s.slot := by
  rw [State.slot, h.now, h.frame, h.frameStart, h.slotNs, State.slot]

theorem nextCutFrame (h : Alike s t) : t.nextCutFrame = s.nextCutFrame := by
  rw [State.nextCutFrame, h.preEpoch, h.frame, State.nextCutFrame]

theorem slotNumber (h : Alike s t) (f k : Nat) : t.slotNumber f k = s.slotNumber f k := by
  rw [State.slotNumber, h.slots, State.slotNumber]

theorem nextBoundary (h : Alike s t) : t.nextBoundary = s.nextBoundary := by
  rw [State.nextBoundary, State.slotNow, h.preEpoch, h.frame, h.slot, h.slotNumber, State.nextBoundary, State.slotNow]

theorem boundaryTime (h : Alike s t) (g : Nat) : t.boundaryTime g = s.boundaryTime g := by
  rw [State.boundaryTime, h.epoch, h.slotNs, State.boundaryTime]

theorem opBoundary (h : Alike s t) (o : StandOp) : t.opBoundary o = s.opBoundary o := by
  rw [State.opBoundary, State.boundaryFrom, h.rd (by decide), h.slotNs, h.epoch, State.opBoundary, State.boundaryFrom]

theorem inOwner (h : Alike s t) (i : Nat) : t.inOwner i = s.inOwner i := by
  have apart : ¬ InboxWord (F.IN_OWNER.VALID i).addr := by
    simp only [F.IN_OWNER.VALID, InboxWord, SaturatedWord, CascadeWord]
    omega
  rw [State.inOwner, h.flag apart, h.rd (f := F.IN_OWNER.ENDPOINT i) apart, State.inOwner]

theorem outOwner (h : Alike s t) (i : Nat) : t.outOwner i = s.outOwner i := by
  have apart : ¬ InboxWord (F.OUT_OWNER.VALID i).addr := by
    simp only [F.OUT_OWNER.VALID, InboxWord, SaturatedWord, CascadeWord]
    omega
  rw [State.outOwner, h.flag apart, h.rd (f := F.OUT_OWNER.ENDPOINT i) apart, State.outOwner]

theorem circuitOpOk (h : Alike s t) (lane rx : Nat) (op : CircuitOp) : t.circuitOpOk lane rx op = s.circuitOpOk lane rx op := by
  simp only [State.circuitOpOk, h.inOwner, h.outOwner, h.opBoundary, h.planeMode, h.boundaryTime, h.now, h.plane, h.slots]

theorem standing (h : Alike s t) : t.standing = s.standing := by
  have active : t.activeIndex = s.activeIndex := h.rd (by decide)
  rw [State.standing, active, State.record_congr (congrArg Plane.records h.plane), State.standing]

theorem answerAgain (h : Alike s t) : t.answerAgain = s.answerAgain := by
  funext lane op x n
  simp only [State.answerAgain, h.free, h.standing]

theorem openOps (h : Alike s t) : t.openOps = s.openOps := by rw [State.openOps, h.plane, State.openOps]
theorem heldCtxs (h : Alike s t) : t.heldCtxs = s.heldCtxs := by rw [State.heldCtxs, h.plane, State.heldCtxs]

theorem agentFor (h : Alike s t) (lane : Nat) (op : CircuitOp) : t.agentFor lane op = s.agentFor lane op := by
  unfold State.agentFor
  rw [h.heldCtxs, h.plane]

theorem madeBy (h : Alike s t) : t.madeBy = s.madeBy := by
  funext p x
  rw [State.madeBy, State.ctx, h.plane, State.madeBy, State.ctx]

theorem retryOf (h : Alike s t) (lane : Nat) (op : CircuitOp) : t.retryOf lane op = s.retryOf lane op := by
  unfold State.retryOf
  rw [h.openOps, h.plane, h.heldCtxs, h.madeBy, h.answerAgain]

/-- Reports and words of the lanes make no difference to what is read. -/
theorem reported (h : Alike s t) {u : State} (r : Reports t u) (w : Writes InboxWord t u) : Alike s u :=
  ⟨r.plane.trans h.plane, r.comp.trans h.comp, r.time.trans h.time, r.free.trans h.free, r.hier.trans h.hier,
    fun a apart => (w.word apart).trans (h.word a apart)⟩

end Alike
end Sys2Proof.Machine

namespace Sys2Proof.Machine

/-! ## Messages of an endpoint (R184, R198, R199, R228, R231, R238, R239, R243) -/

section
variable {s u : State} {n : Nat} {h : KHeader}

/-! ### An accepted message is served -/

theorem State.serveDemand_inOrder (order : InOrder s n h) (card : s.isCard n = true) {p : DemandMsg}
    (sound : demandBad h p = false) (rx : Nat) (m : List Byte) : s.serveDemand n h rx m p =
      (s.accepted n h.seq).fromCard n rx m fun s => s.takeDemand n true h rx m p := by
  obtain ⟨up, lane, crc, new, credit⟩ := order
  have whole : InOrder s n { h with type := 2, crcOk := h.crcOk && !demandBad h p } :=
    ⟨up, lane, by rw [sound, crc]; rfl, new, credit⟩
  exact State.acceptMsg_inOrder whole card (.inl rfl) 0 _

theorem State.serveOp_inOrder (order : InOrder s n h) (card : s.isCard n = true) (rx : Nat) (m : List Byte) (op : CircuitOp) :
    s.serveOp n h rx m op =
      (s.accepted n h.seq).fromCard n rx m fun s => (s.takeCircuit n h rx m op).giveCredit n := by
  have whole : InOrder s n { h with type := if op.isSetup then 4 else 7 } := order
  refine State.acceptMsg_inOrder whole card (.inr ?_) 0 _
  cases op with
  | setup p => exact .inl rfl
  | release p => exact .inr (.inl rfl)

theorem State.serveStatus_inOrder (order : InOrder s n h) (card : s.isCard n = true) (rx : Nat) (m : List Byte)
    (p : StatusMsg) : s.serveStatus n h rx m p =
      ((s.accepted n h.seq).takeStatus n p).fromCard n rx m fun s => s.giveCredit n := by
  have whole : InOrder s n { h with type := 9 } := order
  exact State.acceptMsg_inOrder whole card (.inr (.inr (.inr rfl))) 0 _

theorem State.fromCard_served (served : u.follows = false) (rx : Nat) (m : List Byte) (serve : State → State) :
    u.fromCard n rx m serve = serve u := if_neg (Bool.eq_false_iff.mp served)

theorem State.fromCard_relayed (follows : u.follows = true) (rx : Nat) (m : List Byte) (serve : State → State) :
    u.fromCard n rx m serve = (u.relayUp n rx m).giveCredit n := if_pos follows

theorem State.logItem_alone (alone : u.hier.join = none) (bytes : Nat) : u.logItem bytes = u := by
  rw [State.logItem, alone]

/-! ### DEMAND (R199) -/

/-- After what leaves the lane's credit alone the credit goes back. -/
theorem Accepted.limit_back {seq : Nat} (a : Accepted s n seq u) {v : State}
    (limit : v.rd (F.CREDIT.LIMIT n) = u.rd (F.CREDIT.LIMIT n)) :
    (v.giveCredit n).rd (F.CREDIT.LIMIT n) = (s.rd (F.CREDIT.LIMIT n) + 1) % 65536 := by
  rw [State.giveCredit_limit, limit, a.limit]

/-- A DEMAND for `f` at `rx` is in time for the next cut or the one after (R199). -/
abbrev InTime (s : State) (rx f : Nat) : Prop := s.nextCutFrame + 1 ≤ f ∧ f ≤ s.nextCutFrame + 2 ∧
  (f = s.nextCutFrame + 1 → rx + 1000 * s.rd F.COMP_CFG.DEMAND_CLOSE_US ≤ s.frameStart s.nextCutFrame)

/-- A DEMAND for `f` at `rx` is out of time. -/
abbrev Untimely (s : State) (rx f : Nat) : Prop := f < s.nextCutFrame + 1 ∨ s.nextCutFrame + 2 < f ∨
  (f = s.nextCutFrame + 1 ∧ s.frameStart s.nextCutFrame < rx + 1000 * s.rd F.COMP_CFG.DEMAND_CLOSE_US)

theorem Alike.closing {t : State} (a : Alike s t) :
    t.rd F.COMP_CFG.DEMAND_CLOSE_US = s.rd F.COMP_CFG.DEMAND_CLOSE_US := a.rd (by decide)

theorem InTime.alike {t : State} (a : Alike s t) {rx f : Nat} (timely : InTime s rx f) : InTime t rx f := by
  simp only [InTime, a.nextCutFrame, a.closing, a.frameStart]
  exact timely

theorem Untimely.alike {t : State} (a : Alike s t) {rx f : Nat} (late : Untimely s rx f) : Untimely t rx f := by
  simp only [Untimely, a.nextCutFrame, a.closing, a.frameStart]
  exact late

variable {rx seq : Nat} {p : DemandMsg}

theorem InTime.not_untimely (timely : InTime u rx p.frame) : ¬ Untimely u rx p.frame := by
  obtain ⟨low, high, before⟩ := timely
  rintro (early | late | ⟨next, closed⟩)
  · omega
  · omega
  · exact (before next).not_gt closed

theorem State.intakeDemand_timely (mode : u.planeMode ≠ 0) (timely : InTime u rx p.frame) :
    u.intakeDemand n true seq rx p =
      if 4 ≤ (u.comp.held.filter fun d => d.source == n && d.msg.frame == p.frame).length then
        ((u.bump F.DEMAND_REFUSED_CNT).raise Src.COMPOSER.DEMAND_REFUSED).giveCredit n
      else { u with comp := { u.comp with held := u.comp.held ++ [⟨n, true, seq, p⟩] } } :=
  (if_neg mode).trans (if_neg (by simpa only [decide_eq_true_eq] using timely.not_untimely))

theorem State.intakeDemand_late (mode : u.planeMode ≠ 0) (late : Untimely u rx p.frame) :
    u.intakeDemand n true seq rx p = u.demandLate.giveCredit n :=
  (if_neg mode).trans ((if_pos (by simpa only [decide_eq_true_eq] using late)).trans (if_pos rfl))

theorem State.intakeDemand_circuit (mode : u.planeMode = 0) : u.intakeDemand n true seq rx p = u.giveCredit n :=
  (if_pos mode).trans (if_pos rfl)

theorem State.takeDemand_of {w : State} {m : List Byte} (intake : u.intakeDemand n true h.seq rx p = w)
    (alone : w.hier.join = none) : u.takeDemand n true h rx m p = w :=
  (congrArg (State.logItem · (logSize m)) intake).trans (State.logItem_alone alone _)

/-- A DEMAND in order is accepted, and what intake then does is all. -/
theorem demand_serves {n : Fin 64} (order : InOrder s n h) (card : s.isCard n = true) (served : s.follows = false)
    (sound : demandBad h p = false) : ∃ u, Accepted s n h.seq u ∧ ∀ t, u.intakeDemand n true h.seq s.now p = t →
      t.hier.join = none → exec (.demand n h p) s = .next t := by
  have a := s.accepted_accepted n h.seq
  refine ⟨_, a, fun t intake alone => ?_⟩
  exact congrArg Host.Outcome.next ((s.onMain_up _ order.1).trans ((State.serveDemand_inOrder order card sound _ _).trans
    ((State.fromCard_served (a.alike.follows.trans served) _ _ _).trans (State.takeDemand_of intake alone))))

end

theorem demand_held (s : State) (n : Fin 64) (h : KHeader) (p : DemandMsg) (order : InOrder s n h)
    (card : s.isCard n = true) (served : s.follows = false) (alone : s.hier.join = none) (sound : demandBad h p = false)
    (mode : s.planeMode ≠ 0) (low : s.nextCutFrame + 1 ≤ p.frame) (high : p.frame ≤ s.nextCutFrame + 2)
    (before : p.frame = s.nextCutFrame + 1 →
      s.now + 1000 * s.rd F.COMP_CFG.DEMAND_CLOSE_US ≤ s.frameStart s.nextCutFrame)
    (room : (s.comp.held.filter fun d => d.source == n.val && d.msg.frame == p.frame).length < 4) :
    ∃ t, exec (.demand n h p) s = .next t ∧ t.comp = { s.comp with held := s.comp.held ++ [⟨n, true, h.seq, p⟩] } ∧
      t.rd (F.RX_SEQ.SEQ n) = h.seq % 2 ^ 32 ∧ t.rd (F.CREDIT.LIMIT n) = s.rd (F.CREDIT.LIMIT n) ∧
      t.rd (F.CREDIT.USED n) = (s.rd (F.CREDIT.USED n) + 1) % 65536 ∧ Counted F.MSG_RX s t ∧ t.mem = s.mem := by
  obtain ⟨u, a, serves⟩ := demand_serves order card served sound
  have timely : InTime u s.now p.frame := InTime.alike a.alike ⟨low, high, before⟩
  have held := (State.intakeDemand_timely (n := n) (seq := h.seq) (a.alike.planeMode ▸ mode) timely).trans
    (if_neg (a.alike.comp ▸ room.not_ge))
  exact ⟨_, serves _ held ((congrArg Hier.join a.alike.hier).trans alone),
    congrArg (fun c : Composer => { c with held := c.held ++ [HeldDemand.mk n true h.seq p] }) a.alike.comp,
    a.seq, a.limit, a.used, a.counted, a.reports.mem⟩

/-! ### What is counted and reported -/

section
variable (u : State) (w : Wide) (src : Source)

theorem State.bumpRaise_reports : Reports u ((u.bump w).raise src) := (u.bump_reports w).trans (State.raise_reports _ src)

/-- Counting and reporting outside the lanes' blocks leaves a lane's first words alone. -/
theorem State.bumpRaise_lane (out : w.addr + 4 < 0x100000 ∨ 0x140000 ≤ w.addr) (real : ¬ LaneWord src.block.real)
    {f : Field} (lane : LaneWord f.addr) : ((u.bump w).raise src).rd f = u.rd f :=
  ((State.raise_writes _ src).rd (RaiseWord.apart real lane)).trans ((u.bumpBy_tallies w 1).rd (TallyWord.apart out lane))

end

theorem demand_late (s : State) (n : Fin 64) (h : KHeader) (p : DemandMsg) (order : InOrder s n h) (vin : s.power.vin = true)
    (card : s.isCard n = true) (served : s.follows = false) (alone : s.hier.join = none) (sound : demandBad h p = false)
    (mode : s.planeMode ≠ 0) (late : Untimely s s.now p.frame) :
    ∃ t, exec (.demand n h p) s = .next t ∧ t.comp = s.comp ∧ t.flag Src.COMPOSER.DEMAND_LATE.real = true ∧
      t.rd (F.CREDIT.LIMIT n) = (s.rd (F.CREDIT.LIMIT n) + 1) % 65536 ∧ t.mem = s.mem := by
  obtain ⟨u, a, serves⟩ := demand_serves order card served sound
  have out := State.intakeDemand_late (n := n) (seq := h.seq) (a.alike.planeMode ▸ mode) (late.alike a.alike)
  have back := (u.bumpRaise_reports F.DEMAND_LATE_CNT Src.COMPOSER.DEMAND_LATE).trans (u.demandLate.giveCredit_reports n)
  have power := (u.bump_reports F.DEMAND_LATE_CNT).power.trans a.reports.power
  have lane := u.bumpRaise_lane F.DEMAND_LATE_CNT Src.COMPOSER.DEMAND_LATE (by decide) (by decide) (laneWord_limit n)
  have shown : u.demandLate.flag Src.COMPOSER.DEMAND_LATE.real = true := State.flag_raise_same _ _ (by decide) (by decide)
    (State.srcPowered_of_up _ _ ((congrArg Power.vin power).trans vin) ((congrArg Power.mainUp power).trans order.1))
  exact ⟨_, serves _ out ((congrArg Hier.join (back.hier.trans a.alike.hier)).trans alone), back.comp.trans a.alike.comp,
    ((State.giveCredit_writes _ n).flag (by decide)).trans shown, a.limit_back lane, back.mem.trans a.reports.mem⟩

theorem demand_dropped (s : State) (n : Fin 64) (h : KHeader) (p : DemandMsg) (order : InOrder s n h)
    (card : s.isCard n = true) (served : s.follows = false) (alone : s.hier.join = none) (sound : demandBad h p = false)
    (drops : s.planeMode = 0 ∨ (s.nextCutFrame + 1 ≤ p.frame ∧ p.frame ≤ s.nextCutFrame + 2 ∧
      (p.frame = s.nextCutFrame + 1 → s.now + 1000 * s.rd F.COMP_CFG.DEMAND_CLOSE_US ≤ s.frameStart s.nextCutFrame) ∧
      4 ≤ (s.comp.held.filter fun d => d.source == n.val && d.msg.frame == p.frame).length)) :
    ∃ t, exec (.demand n h p) s = .next t ∧ t.comp = s.comp ∧
      (s.planeMode ≠ 0 → Counted F.DEMAND_REFUSED_CNT s t) ∧
      t.rd (F.CREDIT.LIMIT n) = (s.rd (F.CREDIT.LIMIT n) + 1) % 65536 ∧ t.mem = s.mem := by
  obtain ⟨u, a, serves⟩ := demand_serves order card served sound
  by_cases mode : s.planeMode = 0
  · have out := State.intakeDemand_circuit (n := n) (rx := s.now) (seq := h.seq) (p := p) (a.alike.planeMode.trans mode)
    have back := u.giveCredit_reports n
    exact ⟨_, serves _ out ((congrArg Hier.join (back.hier.trans a.alike.hier)).trans alone), back.comp.trans a.alike.comp,
      fun slots => absurd mode slots, a.limit_back rfl, back.mem.trans a.reports.mem⟩
  · obtain ⟨low, high, before, full⟩ := drops.resolve_left mode
    have timely : InTime u s.now p.frame := InTime.alike a.alike ⟨low, high, before⟩
    have out := (State.intakeDemand_timely (n := n) (seq := h.seq) (a.alike.planeMode ▸ mode) timely).trans
      (if_pos (a.alike.comp ▸ full))
    have back := (u.bumpRaise_reports F.DEMAND_REFUSED_CNT Src.COMPOSER.DEMAND_REFUSED).trans (State.giveCredit_reports _ n)
    have lane := u.bumpRaise_lane F.DEMAND_REFUSED_CNT Src.COMPOSER.DEMAND_REFUSED (by decide) (by decide) (laneWord_limit n)
    have counted : Counted F.DEMAND_REFUSED_CNT s (u.bump F.DEMAND_REFUSED_CNT) :=
      (u.bump_tallied rfl (by decide) (by decide)).before a.writes (by decide) (by decide)
    exact ⟨_, serves _ out ((congrArg Hier.join (back.hier.trans a.alike.hier)).trans alone), back.comp.trans a.alike.comp,
      fun _ => (counted.after (State.raise_writes _ _) (by decide) (by decide)).after (State.giveCredit_writes _ n) (by decide)
        (by decide), a.limit_back lane, back.mem.trans a.reports.mem⟩

/-! ### SETUP and RELEASE (R184, R243) -/

/-- An operation in order is accepted and taken, and its credit goes back. -/
theorem State.serveOp_takes {s : State} {n : Nat} {h : KHeader} (order : InOrder s n h) (card : s.isCard n = true)
    (served : s.follows = false) (alone : s.hier.join = none) (rx : Nat) (m : List Byte) (op : CircuitOp) :
    ∃ u, Accepted s n h.seq u ∧ ∀ t, u.takeOp n h.seq h.retry rx op = t → t.hier = u.hier →
      s.serveOp n h rx m op = t.giveCredit n := by
  have a := s.accepted_accepted n h.seq
  refine ⟨_, a, fun t takes same => ?_⟩
  have here := (congrArg Hier.join (same.trans a.alike.hier)).trans alone
  refine (State.serveOp_inOrder order card rx m op).trans
    ((State.fromCard_served (a.alike.follows.trans served) _ _ _).trans ?_)
  exact congrArg (State.giveCredit · n) ((congrArg (State.logItem · (logSize m)) takes).trans (State.logItem_alone here _))

section
variable {u : State} {n seq rx : Nat} {op : CircuitOp}

theorem State.takeOp_waits (ok : u.circuitOpOk n rx op = 0) : u.takeOp n seq false rx op =
    u.setPlane { u.plane with ops := u.plane.ops ++ [⟨n, seq, u.agentFor n op, op⟩] } := by
  simp [State.takeOp, ok]

theorem State.takeOp_refused {cause : Nat} (bad : u.circuitOpOk n rx op = cause) (refused : cause ≠ 0) :
    u.takeOp n seq false rx op =
      u.queueAnswer (answerOf ⟨n, seq, u.agentFor n op, op⟩ false cause) (some u.nextBoundary) := by
  cases cause with
  | zero => exact absurd rfl refused
  | succ c => simp [State.takeOp, bad]

theorem State.takeOp_open (found : u.retryOf n op = some none) : u.takeOp n seq true rx op = u := by
  simp [State.takeOp, found]

theorem State.takeOp_answered {x : Answer} (found : u.retryOf n op = some (some x)) :
    u.takeOp n seq true rx op = { u with free := u.free + 3 }.queueAnswer x (some u.nextBoundary) := by
  simp [State.takeOp, found]

end

/-- `c` is the SETUP or RELEASE of endpoint `n` that carries `op`. -/
abbrev Carries (n : Fin 64) (h : KHeader) (c : Instr) (op : CircuitOp) : Prop :=
  (∃ p, c = .setup n h p ∧ op = .setup p) ∨ (∃ p, c = .release n h p ∧ op = .release p)

theorem exec_serveOp {s : State} {n : Fin 64} {h : KHeader} {c : Instr} {op : CircuitOp} (carries : Carries n h c op)
    (up : s.power.mainUp = true) : ∃ m, exec c s = .next (s.serveOp n h s.now m op) := by
  rcases carries with ⟨p, rfl, rfl⟩ | ⟨p, rfl, rfl⟩
  · exact ⟨_, congrArg Host.Outcome.next (s.onMain_up _ up)⟩
  · exact ⟨_, congrArg Host.Outcome.next (s.onMain_up _ up)⟩

/-- The message that answers `a` from boundary `from_` on (R236). -/
def Answer.item (a : Answer) (from_ : Option Nat) : SysItem :=
  ⟨a.lane, [2, a.op.issued, a.lane, a.seq], if a.ack then 5 else 6, none, a.payload, from_⟩

theorem State.queueAnswer_ack (u : State) {a : Answer} (ack : a.ack = true) (from_ : Option Nat) :
    u.queueAnswer a from_ = u.queueSys (a.item from_) := if_pos ack

/-- A NAK is queued, counted and reported. -/
structure Refused (u : State) (a : Answer) (from_ : Option Nat) (t : State) : Prop where
  reports : Reports (u.queueSys (a.item from_)) t
  counted : Counted F.NAKS u t

theorem State.queueAnswer_nak (u : State) {a : Answer} (nak : a.ack = false) (from_ : Option Nat) :
    Refused u a from_ (u.queueAnswer a from_) := by
  have told := (u.queueSys (a.item from_)).bumpRaise_reports F.NAKS Src.AGENTS.NAK_SENT
  have bumped : Counted F.NAKS u ((u.queueSys (a.item from_)).bump F.NAKS) :=
    ((u.queueSys (a.item from_)).bump_tallied rfl (by decide) (by decide)).of_regs rfl
  have counted := bumped.after (State.raise_writes _ Src.AGENTS.NAK_SENT) (by decide) (by decide)
  have queued : u.queueAnswer a from_ = if a.cause = 6 then
      (((u.queueSys (a.item from_)).bump F.NAKS).raise Src.AGENTS.NAK_SENT).raise Src.AGENTS.POOL_EMPTY
      else ((u.queueSys (a.item from_)).bump F.NAKS).raise Src.AGENTS.NAK_SENT := if_neg (Bool.eq_false_iff.mp nak)
  rw [queued]
  split
  · exact ⟨told.trans (State.raise_reports _ _), counted.after (State.raise_writes _ _) (by decide) (by decide)⟩
  · exact ⟨told, counted⟩

section
variable {s : State} {n : Fin 64} {h : KHeader} {c : Instr} {op : CircuitOp}

theorem circuitOp_waits (carries : Carries n h c op) (order : InOrder s n h) (card : s.isCard n = true)
    (served : s.follows = false) (alone : s.hier.join = none) (first : h.retry = false)
    (ok : s.circuitOpOk n s.now op = 0) :
    ∃ t, exec c s = .next t ∧
      t.plane = { s.plane with ops := s.plane.ops ++ [⟨n, h.seq, s.agentFor n op, op⟩] } ∧ t.issueq = s.issueq ∧
      t.rd (F.CREDIT.LIMIT n) = (s.rd (F.CREDIT.LIMIT n) + 1) % 65536 ∧ t.mem = s.mem := by
  obtain ⟨m, runs⟩ := exec_serveOp carries order.1
  obtain ⟨u, a, serves⟩ := State.serveOp_takes order card served alone s.now m op
  rw [first] at serves
  have waits := State.takeOp_waits (seq := h.seq) ((a.alike.circuitOpOk n s.now op).trans ok)
  rw [a.alike.plane, a.alike.agentFor] at waits
  have back := (u.setPlane { s.plane with
    ops := s.plane.ops ++ [⟨n, h.seq, s.agentFor n op, op⟩] }).giveCredit_reports n
  exact ⟨_, runs.trans (congrArg Host.Outcome.next (serves _ waits rfl)), back.plane, back.issueq.trans a.reports.issueq,
    a.limit_back (State.rd_of_regs rfl _), back.mem.trans a.reports.mem⟩

theorem circuitOp_refused (carries : Carries n h c op) (order : InOrder s n h) (card : s.isCard n = true)
    (served : s.follows = false) (alone : s.hier.join = none) (first : h.retry = false)
    (bad : s.circuitOpOk n s.now op ≠ 0) :
    ∃ t, exec c s = .next t ∧ t.plane = s.plane ∧ t.issueq = s.issueq ++
      [(answerOf ⟨n, h.seq, s.agentFor n op, op⟩ false (s.circuitOpOk n s.now op)).item (some s.nextBoundary)] ∧
      Counted F.NAKS s t ∧ t.mem = s.mem := by
  obtain ⟨m, runs⟩ := exec_serveOp carries order.1
  obtain ⟨u, a, serves⟩ := State.serveOp_takes order card served alone s.now m op
  rw [first] at serves
  have refused := State.takeOp_refused (seq := h.seq) (a.alike.circuitOpOk n s.now op) bad
  rw [a.alike.agentFor, a.alike.nextBoundary] at refused
  obtain ⟨reports, counted⟩ := u.queueAnswer_nak
    (a := answerOf ⟨n, h.seq, s.agentFor n op, op⟩ false (s.circuitOpOk n s.now op)) rfl (some s.nextBoundary)
  generalize u.queueAnswer _ _ = v at refused reports counted
  have back := reports.trans (v.giveCredit_reports n)
  have issueq : (u.queueSys (Answer.item (answerOf ⟨n, h.seq, s.agentFor n op, op⟩ false (s.circuitOpOk n s.now op))
      (some s.nextBoundary))).issueq = s.issueq ++ _ := congrArg (· ++ _) a.reports.issueq
  exact ⟨_, runs.trans (congrArg Host.Outcome.next (serves _ refused reports.hier)), back.plane.trans a.alike.plane,
    back.issueq.trans issueq,
    (counted.before a.writes (by decide) (by decide)).after (State.giveCredit_writes _ n) (by decide) (by decide),
    back.mem.trans a.reports.mem⟩

end

theorem setup_refused (s : State) (n : Fin 64) (h : KHeader) (p : SetupMsg) (order : InOrder s n h) (card : s.isCard n = true)
    (served : s.follows = false) (alone : s.hier.join = none) (first : h.retry = false)
    (bad : s.circuitOpOk n s.now (.setup p) ≠ 0) :
    ∃ t, exec (.setup n h p) s = .next t ∧ t.plane = s.plane ∧ t.issueq = s.issueq ++
        [⟨n, [2, p.sec * 10 ^ 9 + p.ns, n, h.seq], 6, none,
          (answerOf ⟨n, h.seq, agentOf n p.peer, .setup p⟩ false (s.circuitOpOk n s.now (.setup p))).payload,
          some s.nextBoundary⟩] ∧ Counted F.NAKS s t ∧ t.mem = s.mem :=
  circuitOp_refused (.inl ⟨p, rfl, rfl⟩) order card served alone first bad

theorem setup_waits (s : State) (n : Fin 64) (h : KHeader) (p : SetupMsg) (order : InOrder s n h) (card : s.isCard n = true)
    (served : s.follows = false) (alone : s.hier.join = none) (first : h.retry = false)
    (ok : s.circuitOpOk n s.now (.setup p) = 0) :
    ∃ t, exec (.setup n h p) s = .next t ∧
      t.plane = { s.plane with ops := s.plane.ops ++ [⟨n, h.seq, agentOf n p.peer, .setup p⟩] } ∧ t.issueq = s.issueq ∧
      t.rd (F.CREDIT.LIMIT n) = (s.rd (F.CREDIT.LIMIT n) + 1) % 65536 ∧ t.mem = s.mem :=
  circuitOp_waits (.inl ⟨p, rfl, rfl⟩) order card served alone first ok

theorem release_waits (s : State) (n : Fin 64) (h : KHeader) (p : ReleaseMsg) (order : InOrder s n h)
    (card : s.isCard n = true) (served : s.follows = false) (alone : s.hier.join = none) (first : h.retry = false)
    (ok : s.circuitOpOk n s.now (.release p) = 0) :
    ∃ t, exec (.release n h p) s = .next t ∧
      t.plane = { s.plane with ops := s.plane.ops ++ [⟨n, h.seq, s.agentFor n (.release p), .release p⟩] } ∧
      t.issueq = s.issueq ∧ t.rd (F.CREDIT.LIMIT n) = (s.rd (F.CREDIT.LIMIT n) + 1) % 65536 ∧ t.mem = s.mem :=
  circuitOp_waits (.inr ⟨p, rfl, rfl⟩) order card served alone first ok

theorem release_refused (s : State) (n : Fin 64) (h : KHeader) (p : ReleaseMsg) (order : InOrder s n h)
    (card : s.isCard n = true) (served : s.follows = false) (alone : s.hier.join = none) (first : h.retry = false)
    (bad : s.circuitOpOk n s.now (.release p) ≠ 0) :
    ∃ t, exec (.release n h p) s = .next t ∧ t.plane = s.plane ∧ t.issueq.length = s.issueq.length + 1 ∧
      Counted F.NAKS s t ∧ t.mem = s.mem := by
  obtain ⟨t, runs, plane, issueq, counted, mem⟩ :=
    circuitOp_refused (.inr ⟨p, rfl, rfl⟩) order card served alone first bad
  exact ⟨t, runs, plane, by rw [issueq, List.length_append]; rfl, counted, mem⟩

theorem circuitOp_retry (s : State) (n : Fin 64) (h : KHeader) (c : Instr) (op : CircuitOp) (carries : Carries n h c op)
    (order : InOrder s n h) (card : s.isCard n = true) (served : s.follows = false) (alone : s.hier.join = none)
    (again : h.retry = true) :
    (s.retryOf n op = some none → ∃ t, exec c s = .next t ∧ t.plane = s.plane ∧ t.issueq = s.issueq ∧
        t.mem = s.mem) ∧
      ∀ a, s.retryOf n op = some (some a) → a.ack = true →
        ∃ t, exec c s = .next t ∧ t.plane = s.plane ∧ t.mem = s.mem ∧
          t.issueq = s.issueq ++ [⟨a.lane, [2, a.op.issued, a.lane, a.seq], 5, none, a.payload, some s.nextBoundary⟩] := by
  obtain ⟨m, runs⟩ := exec_serveOp carries order.1
  obtain ⟨u, a, serves⟩ := State.serveOp_takes order card served alone s.now m op
  rw [again] at serves
  refine ⟨fun found => ?_, fun x found ack => ?_⟩
  · have dropped := State.takeOp_open (seq := h.seq) (rx := s.now) ((a.alike.retryOf n op).trans found)
    have back := u.giveCredit_reports n
    exact ⟨_, runs.trans (congrArg Host.Outcome.next (serves _ dropped rfl)), back.plane.trans a.alike.plane,
      back.issueq.trans a.reports.issueq, back.mem.trans a.reports.mem⟩
  · have answered := State.takeOp_answered (seq := h.seq) (rx := s.now) ((a.alike.retryOf n op).trans found)
    rw [State.queueAnswer_ack _ ack, Answer.item, if_pos ack, a.alike.nextBoundary] at answered
    have back := (State.queueSys { u with free := u.free + 3 }
      ⟨x.lane, [2, x.op.issued, x.lane, x.seq], 5, none, x.payload, some s.nextBoundary⟩).giveCredit_reports n
    exact ⟨_, runs.trans (congrArg Host.Outcome.next (serves _ answered rfl)), back.plane.trans a.alike.plane,
      back.mem.trans a.reports.mem, back.issueq.trans (congrArg (· ++ _) a.reports.issueq)⟩

/-! ### STATUS (R238) -/

section
variable (u : State) (n : Nat) (p : StatusMsg)

theorem State.takeStatus_word (code : p.code = 0) : u.takeStatus n p = u.wr (F.PEER_STATUS.WORD n) p.word := if_pos code

theorem State.takeStatus_divergence (code : p.code = 1) :
    u.takeStatus n p = (u.bump F.DIVERGENCE_CNT).raise Src.KOWIN.DIVERGENCE :=
  (if_neg (by omega)).trans (if_pos code)

theorem State.takeStatus_other (zero : p.code ≠ 0) (one : p.code ≠ 1) : u.takeStatus n p = u :=
  (if_neg zero).trans (if_neg one)

/-- What any STATUS leaves alone. -/
structure Noted (t : State) : Prop where
  reports : Reports u t
  writes : Writes InboxWord u t
  limit : t.rd (F.CREDIT.LIMIT n) = u.rd (F.CREDIT.LIMIT n)

theorem State.takeStatus_noted : Noted u n (u.takeStatus n p) := by
  by_cases zero : p.code = 0
  · rw [u.takeStatus_word n p zero]
    have wrote := (Writes.refl (· = (F.PEER_STATUS.WORD n).addr) u).wr (f := F.PEER_STATUS.WORD n) (v := p.word) rfl
    have lane := laneWord_peer n
    exact ⟨u.wr_reports _ _, wrote.mono fun a e => .inr (by omega), wrote.rd (peer_apart n).1.symm⟩
  · by_cases one : p.code = 1
    · rw [u.takeStatus_divergence n p one]
      refine ⟨u.bumpRaise_reports _ _, ?_, u.bumpRaise_lane _ _ (by decide) (by decide) (laneWord_limit n)⟩
      refine ((u.bumpBy_tallies _ 1).mono ?_).trans ((State.raise_writes _ _).mono ?_)
      · rintro a (rfl | rfl | saturated)
        · exact .inr (by decide)
        · exact .inr (by decide)
        · exact .inl saturated
      · rintro a (cascade | ⟨x, hx, rfl⟩)
        · exact .inl (.inl cascade)
        · exact .inr (List.mem_singleton.mp hx ▸ by decide)
    · rw [u.takeStatus_other n p zero one]
      exact ⟨.refl u, .refl _ u, rfl⟩

end

/-- A STATUS in order is accepted and taken, and its credit goes back. -/
theorem status_serves {s : State} {n : Fin 64} {h : KHeader} (order : InOrder s n h) (card : s.isCard n = true)
    (served : s.follows = false) (p : StatusMsg) :
    ∃ u, Accepted s n h.seq u ∧ exec (.status n h p) s = .next ((u.takeStatus n p).giveCredit n) := by
  have a := s.accepted_accepted n h.seq
  have noted := (s.accepted n h.seq).takeStatus_noted n p
  have here := (a.alike.reported noted.reports noted.writes).follows.trans served
  exact ⟨_, a, congrArg Host.Outcome.next ((s.onMain_up _ order.1).trans ((State.serveStatus_inOrder order card _ _ p).trans
    (State.fromCard_served here _ _ _)))⟩

theorem status_shown (s : State) (n : Fin 64) (h : KHeader) (p : StatusMsg) (order : InOrder s n h)
    (card : s.isCard n = true) (served : s.follows = false) (code : p.code = 0) :
    ∃ t, exec (.status n h p) s = .next t ∧ t.rd (F.PEER_STATUS.WORD n) = p.word % 2 ^ 32 ∧ t.plane = s.plane ∧
      t.comp = s.comp ∧ t.lanes = s.lanes ∧ t.rd (F.CREDIT.LIMIT n) = (s.rd (F.CREDIT.LIMIT n) + 1) % 65536 ∧
      t.mem = s.mem := by
  obtain ⟨u, a, runs⟩ := status_serves order card served p
  have noted := u.takeStatus_noted n p
  have shown : (u.takeStatus n p).rd (F.PEER_STATUS.WORD n) = p.word % 2 ^ 32 := by
    rw [u.takeStatus_word n p code]
    exact u.rd_wr_mod _ _ (by show 0 + 32 ≤ 32; decide)
  have back := (a.reports.trans noted.reports).trans (State.giveCredit_reports _ n)
  exact ⟨_, runs, (State.giveCredit_peer _ n).trans shown, back.plane, back.comp, back.lanes,
    a.limit_back noted.limit, back.mem⟩

theorem status_divergence (s : State) (n : Fin 64) (h : KHeader) (p : StatusMsg) (order : InOrder s n h)
    (card : s.isCard n = true) (served : s.follows = false) (code : p.code = 1) :
    ∃ t, exec (.status n h p) s = .next t ∧ Counted F.DIVERGENCE_CNT s t ∧
      t.rd (F.PEER_STATUS.WORD n) = s.rd (F.PEER_STATUS.WORD n) ∧ t.plane = s.plane ∧ t.comp = s.comp ∧
      t.rd (F.CREDIT.LIMIT n) = (s.rd (F.CREDIT.LIMIT n) + 1) % 65536 ∧ t.mem = s.mem := by
  obtain ⟨u, a, runs⟩ := status_serves order card served p
  have noted := u.takeStatus_noted n p
  have back := (a.reports.trans noted.reports).trans (State.giveCredit_reports _ n)
  have word : (u.takeStatus n p).rd (F.PEER_STATUS.WORD n) = s.rd (F.PEER_STATUS.WORD n) := by
    rw [u.takeStatus_divergence n p code, u.bumpRaise_lane _ _ (by decide) (by decide) (laneWord_peer n), a.peer]
  have counted : Counted F.DIVERGENCE_CNT s (u.takeStatus n p) := by
    rw [u.takeStatus_divergence n p code, Counted, ← a.divergence]
    exact (u.bump_tallied rfl (by decide) (by decide)).after (State.raise_writes _ _) (by decide) (by decide)
  exact ⟨_, runs, counted.after (State.giveCredit_writes _ n) (by decide) (by decide), (State.giveCredit_peer _ n).trans word,
    back.plane, back.comp, a.limit_back noted.limit, back.mem⟩

/-! ### A worker in FOLLOW (R299) -/

/-- What relaying may write. -/
abbrev RelayWord (a : Nat) : Prop := TallyWord F.RELAY_DROP_CNT a ∨ a = Src.HIER.RELAY_DROP.block.real

theorem State.relayUp_acts (u : State) (n rx : Nat) (m : List Byte) : Acts RelayWord id u (u.relayUp n rx m) := by
  unfold State.relayUp
  refine .ite ?_ ((Acts.refl _ _ u).foldl fun h => h.queued)
  exact ((Acts.refl _ _ u).bump (fun _ sat => .inl (.inr (.inr sat))) (.inl (.inl rfl)) (.inl (.inr (.inl rfl)))).raise
    (fun _ cascade => .inl (.inr (.inr (.inl cascade)))) (.inr rfl)

/-- What a worker in FOLLOW does with an accepted message: it relays it and gives the credit back. -/
theorem Accepted.relays {s u v : State} {n seq : Nat} (a : Accepted s n seq u) (noted : Noted u n v)
    (follows : s.follows = true) (rx : Nat) (m : List Byte) (serve : State → State) :
    (v.fromCard n rx m serve).plane = s.plane ∧ (v.fromCard n rx m serve).comp = s.comp ∧
      (v.fromCard n rx m serve).rd (F.CREDIT.LIMIT n) = (s.rd (F.CREDIT.LIMIT n) + 1) % 65536 ∧
      (v.fromCard n rx m serve).mem = s.mem := by
  have here := (a.alike.reported noted.reports noted.writes).follows.trans follows
  have relayed := v.relayUp_acts n rx m
  have lane : (v.relayUp n rx m).rd (F.CREDIT.LIMIT n) = v.rd (F.CREDIT.LIMIT n) :=
    relayed.rd fun h => h.elim (TallyWord.apart (by decide) (laneWord_limit n)) fun real => by
      have lane := laneWord_limit n
      rw [real] at lane
      exact absurd lane (by decide)
  have before := a.reports.trans noted.reports
  rw [State.fromCard_relayed here]
  have back := State.giveCredit_reports (v.relayUp n rx m) n
  exact ⟨back.plane.trans (relayed.plane.trans before.plane), back.comp.trans (relayed.comp.trans before.comp),
    a.limit_back (lane.trans noted.limit), back.mem.trans (relayed.mem.trans before.mem)⟩

theorem message_relayed (s : State) (n : Fin 64) (h : KHeader) (c : Instr)
    (message : (∃ p, c = .demand n h p ∧ demandBad h p = false) ∨ (∃ p, c = .setup n h p) ∨
      (∃ p, c = .release n h p) ∨ (∃ p, c = .status n h p))
    (order : InOrder s n h) (card : s.isCard n = true) (follows : s.follows = true) :
    ∃ t, exec c s = .next t ∧ t.plane = s.plane ∧ t.comp = s.comp ∧
      t.rd (F.CREDIT.LIMIT n) = (s.rd (F.CREDIT.LIMIT n) + 1) % 65536 ∧ t.mem = s.mem := by
  have a := s.accepted_accepted n h.seq
  have plain : Noted (s.accepted n h.seq) n (s.accepted n h.seq) := ⟨.refl _, .refl _ _, rfl⟩
  have runs {t : State} {act : State → State} (serves : act s = t) : Host.Outcome.next (s.onMain act) =
      (.next t : Host.Outcome State Fault Refusal) := congrArg Host.Outcome.next ((s.onMain_up _ order.1).trans serves)
  rcases message with ⟨p, rfl, sound⟩ | ⟨p, rfl⟩ | ⟨p, rfl⟩ | ⟨p, rfl⟩
  · exact ⟨_, runs (State.serveDemand_inOrder order card sound _ _), a.relays plain follows _ _ _⟩
  · exact ⟨_, runs (State.serveOp_inOrder order card _ _ _), a.relays plain follows _ _ _⟩
  · exact ⟨_, runs (State.serveOp_inOrder order card _ _ _), a.relays plain follows _ _ _⟩
  · exact ⟨_, runs (State.serveStatus_inOrder order card _ _ p), a.relays (State.takeStatus_noted _ n p) follows _ _ _⟩

/-! ### ECHO (R239) -/

section
variable {s : State} {n : Nat}

/-- An ECHO with its CRC right is accepted whatever its number, in HELLO_WAIT too (R228). -/
theorem State.acceptMsg_echo {h : KHeader} (card : s.isCard n = true) (locked : s.rd (F.LANE_STATUS.STATE n) ≠ 0)
    (crc : h.crcOk = true) (act : State → State) :
    s.acceptMsg n { h with type := 0x0A } 0 act = act (s.countAccepted n) := by
  have allowed : s.typeAllowed n 0x0A 0 = true := by
    rw [State.typeAllowed, if_pos card]
    rfl
  have free : consumesCredit 0x0A = false := rfl
  simp [State.acceptMsg, State.noteCredit_card card, locked, crc, allowed, free, card]

theorem echo_serves {s : State} {n : Fin 64} {h : KHeader} (up : s.power.mainUp = true) (card : s.isCard n = true)
    (locked : s.rd (F.LANE_STATUS.STATE n) ≠ 0) (crc : h.crcOk = true) (p : EchoMsg) :
    exec (.echo n h p) s = .next ((s.countAccepted n).takeEcho n s.now p) :=
  congrArg Host.Outcome.next ((s.onMain_up _ up).trans (State.acceptMsg_echo card locked crc _))

theorem State.lane_of_lanes {t : State} (same : t.lanes = s.lanes) : t.lane n = s.lane n := by rw [State.lane, same, State.lane]

theorem State.lane_setLane (s : State) (n : Nat) (x : Lane) : (s.setLane n x).lane n = x := sparseGet_put_same _ s.lanes n x

theorem State.isCard_countAccepted (card : s.isCard n = true) : (s.countAccepted n).isCard n = true := by
  have lane : LaneWord (F.LANE_CFG.MODE n).addr := by
    simp only [F.LANE_CFG.MODE]
    omega
  have kept := (s.countAccepted_writes n).rd (f := F.LANE_CFG.MODE n) fun h => CountedWord.apart lane (.inr h)
  have role := (s.countAccepted_writes n).flag (f := F.LANE_CFG.ROLE n) fun h => CountedWord.apart lane (.inr h)
  rwa [State.isCard, State.laneOn, kept, role]

theorem unsigned_lt (width : Nat) (v : Int) : unsigned width v < 2 ^ width := by
  have low := Int.emod_nonneg v (b := ((2 ^ width : Nat) : Int)) (by positivity)
  have high := Int.emod_lt_of_pos v (b := ((2 ^ width : Nat) : Int)) (by positivity)
  rw [unsigned]
  omega

/-- ECHO_RESULT once a reply to a request of the host's has come. -/
def State.echoShown (s : State) (v : Int) : State := (s.wrS F.ECHO_RESULT.RTT_NS v).setEvent F.ECHO_RESULT.DONE

theorem State.echoShown_reports (s : State) (v : Int) : Reports s (s.echoShown v) :=
  (s.wr_reports _ _).trans (State.setEvent_reports _ _)

theorem State.rd_setEvent_disjoint (s : State) {f g : Field} (fits : f.lsb + f.width ≤ 32)
    (apart : f.addr ≠ g.addr ∨ f.lsb + f.width ≤ g.lsb ∨ g.lsb + g.width ≤ f.lsb) : (s.setEvent f).rd g = s.rd g :=
  (State.rd_of_regs rfl g).trans (s.rd_setFlag_disjoint true fits apart)

theorem State.echoShown_result (s : State) (v : Int) : (s.echoShown v).flag F.ECHO_RESULT.DONE = true ∧
    (s.echoShown v).rd F.ECHO_RESULT.RTT_NS = unsigned 24 v := by
  rw [State.echoShown, State.rd_setEvent_disjoint _ (by decide) (.inr (.inr (by decide))), State.wrS]
  exact ⟨State.flag_setEvent_same _ (by decide) rfl, s.rd_wr_same _ (by decide) (unsigned_lt 24 v)⟩

theorem State.takeEcho_awaited {p : EchoMsg} {e : EchoWait} (reply : p.op ≠ 0)
    (awaited : ((s.lane n).echo.find? fun e => e.token == p.token) = some e) (host : e.host = true)
    (card : s.isTier n = false) (rx : Nat) :
    s.takeEcho n rx p = (s.setLane n { s.lane n with echo := (s.lane n).echo.erase e }).echoShown
      (satS 24 (echoTrip p rx)) := by
  simp only [State.takeEcho, reply, awaited, host, card, if_true, if_false, Bool.false_eq_true]
  rfl

end

theorem echo_unawaited (s : State) (n : Fin 64) (h : KHeader) (p : EchoMsg) (up : s.power.mainUp = true)
    (card : s.isCard n = true) (locked : s.rd (F.LANE_STATUS.STATE n) ≠ 0) (crc : h.crcOk = true) (reply : p.op ≠ 0)
    (unawaited : ((s.lane n).echo.find? fun e => e.token == p.token) = none) :
    ∃ t, exec (.echo n h p) s = .next t ∧ Counted F.MSG_RX s t ∧ t.lanes = s.lanes ∧ t.mem = s.mem := by
  have counted := s.countAccepted_reports n
  have none_ : (s.countAccepted n).takeEcho n s.now p = s.countAccepted n := by
    rw [State.takeEcho, if_neg reply, State.lane_of_lanes counted.lanes, unawaited]
  exact ⟨_, (echo_serves up card locked crc p).trans (congrArg Host.Outcome.next none_), s.countAccepted_counted n,
    counted.lanes, counted.mem⟩

theorem echo_answered (s : State) (n : Fin 64) (h : KHeader) (p : EchoMsg) (up : s.power.mainUp = true)
    (card : s.isCard n = true) (locked : s.rd (F.LANE_STATUS.STATE n) ≠ 0) (crc : h.crcOk = true) (request : p.op = 0) :
    ∃ t, exec (.echo n h p) s = .next t ∧ (t.lane n).txq = (s.lane n).txq ++
        [⟨0x0A, 0, false, false, none, echoBytes { p with op := 1, t2 := stampOf s.now, t3 := ⟨0, 0⟩ }, none⟩] ∧
      (t.lane n).echo = (s.lane n).echo ∧ Counted F.MSG_RX s t ∧ t.mem = s.mem := by
  have counted := s.countAccepted_reports n
  have counts := s.countAccepted_counted n
  have served := echo_serves up card locked crc p
  generalize s.countAccepted n = u at served counted counts
  rw [State.takeEcho, if_pos request, State.sendLocal, State.queueTx, State.lane_of_lanes counted.lanes] at served
  refine ⟨_, served, ?_, ?_, counts.after (Writes.refl (fun _ => False) u) id id, counted.mem⟩
  · rw [State.lane_setLane]
  · rw [State.lane_setLane]

theorem echo_awaited (s : State) (n : Fin 64) (h : KHeader) (p : EchoMsg) (e : EchoWait) (up : s.power.mainUp = true)
    (card : s.isCard n = true) (locked : s.rd (F.LANE_STATUS.STATE n) ≠ 0) (crc : h.crcOk = true) (reply : p.op ≠ 0)
    (awaited : ((s.lane n).echo.find? fun e => e.token == p.token) = some e) (host : e.host = true) :
    ∃ t, exec (.echo n h p) s = .next t ∧ (t.lane n).echo = (s.lane n).echo.erase e ∧
      t.flag F.ECHO_RESULT.DONE = true ∧ t.rd F.ECHO_RESULT.RTT_NS = unsigned 24 (satS 24 (echoTrip p s.now)) ∧
      (t.lane n).txq = (s.lane n).txq ∧ t.mem = s.mem := by
  have counted := s.countAccepted_reports n
  have there := State.isTier_of_isCard (State.isCard_countAccepted card)
  have served := echo_serves up card locked crc p
  generalize s.countAccepted n = u at served counted there
  have same := State.lane_of_lanes (n := n) counted.lanes
  rw [State.takeEcho_awaited reply (same ▸ awaited) host there, same] at served
  have shown := (u.setLane n { s.lane n with echo := (s.lane n).echo.erase e }).echoShown_reports (satS 24 (echoTrip p s.now))
  have lane := (State.lane_of_lanes (n := n) shown.lanes).trans (u.lane_setLane n _)
  obtain ⟨done, rtt⟩ := State.echoShown_result (u.setLane n { s.lane n with echo := (s.lane n).echo.erase e })
    (satS 24 (echoTrip p s.now))
  exact ⟨_, served, congrArg Lane.echo lane, done, rtt, (congrArg Lane.txq lane).trans rfl, shown.mem.trans counted.mem⟩

/-- Settles O56: each message of an endpoint is served as its rule says, and a worker in FOLLOW relays it. -/
theorem endpointMessagesAreServed : Obligations.EndpointMessagesAreServed := by
  unfold Obligations.EndpointMessagesAreServed
  exact ⟨demand_held, demand_late, demand_dropped, setup_waits, setup_refused, release_refused, circuitOp_retry,
    release_waits, status_shown, status_divergence, message_relayed, echo_unawaited, echo_answered, echo_awaited⟩

end Sys2Proof.Machine

namespace Sys2Proof.Machine

/-! ## The loader (R173, R176) -/

section
variable {s : State}

/-- A strobe at `b` is within the loader's reach. -/
abbrev Near (s : State) (b : Nat) : Prop := s.now < b ∧ b ≤ s.now + 404

theorem Near.decides {b : Nat} (near : Near s b) : (decide (s.now < b) && decide (b ≤ s.now + 404)) = true := by
  rw [decide_eq_true near.1, decide_eq_true near.2]
  rfl

theorem loaderIssue_up {t : State} (up : s.power.mainUp = true) (loads : s.loaderIssue = t) : exec .loaderIssue s = .next t :=
  congrArg Host.Outcome.next ((s.onMain_up _ up).trans loads)

end

theorem loaderIssue_scheduled (s : State) (b : Nat) (up : s.power.mainUp = true) (untaken : s.plane.taken = none)
    (next : s.nextStrobe s.now = some b) (ahead : s.now < b) (near : b ≤ s.now + 404) :
    exec .loaderIssue s = .next (s.loadStrobeOf (s.standingAt (s.boundaryFrom b)) (s.boundaryFrom b / s.slots)
      (s.boundaryFrom b % s.slots) s.armedRecords) := by
  refine loaderIssue_up up ?_
  simp only [State.loaderIssue, untaken, State.loadScheduled, next, Near.decides ⟨ahead, near⟩, if_true]

theorem loaderIssue_switched (s : State) (b : Nat) (x : Taken) (up : s.power.mainUp = true) (taken : s.plane.taken = some x)
    (scheduled : x.inserted = false) (at_ : x.at_ = b) (next : s.nextStrobe s.now = some b) (ahead : s.now < b)
    (near : b ≤ s.now + 404) :
    exec .loaderIssue s = .next (s.loadStrobeOf x.index (s.boundaryFrom b / s.slots) (s.boundaryFrom b % s.slots)
      s.armedRecords) := by
  refine loaderIssue_up up ?_
  simp [State.loaderIssue, taken, scheduled, at_, State.loadScheduled, next, ahead, near]

theorem loaderIssue_inserted (s : State) (x : Taken) (up : s.power.mainUp = true) (taken : s.plane.taken = some x)
    (inserted : x.inserted = true) (ahead : s.now < x.at_) (near : x.at_ ≤ s.now + 404) :
    exec .loaderIssue s = .next (s.loadStrobeOf x.index s.frame s.slot s.armedRecords) := by
  refine loaderIssue_up up ?_
  simp [State.loaderIssue, taken, inserted, ahead, near]

theorem loaderIssue_idle (s : State) (up : s.power.mainUp = true) (untaken : s.plane.taken = none)
    (far : ∀ b, s.nextStrobe s.now = some b → s.now + 404 < b) : exec .loaderIssue s = .next s := by
  refine loaderIssue_up up ?_
  cases next : s.nextStrobe s.now with
  | none => simp [State.loaderIssue, untaken, State.loadScheduled, next]
  | some b =>
    have beyond := far b next
    simp [State.loaderIssue, untaken, State.loadScheduled, next, beyond]

/-! ### What a tile is sent -/

section
variable (s : State)

/-- What an accord's share is to tile `t` (R176). -/
def shareOf (k : Nat) (m : BitVec 4352 × BitVec 512 × BitVec 512) (t : Nat) : List Txn :=
  if isTrimTile t then
    [.select k (m.2.1.extractLsb' (64 * (t - 68)) 64), .shutter (m.2.2.extractLsb' (64 * (t - 68)) 64)]
  else [.select k (m.1.extractLsb' (64 * t) 64)]

theorem State.issue_regs_mem_power (t : Nat) (x : Txn) : (s.issue t x).regs = s.regs ∧ (s.issue t x).mem = s.mem ∧
    (s.issue t x).power = s.power := by
  unfold State.issue
  split
  · exact ⟨rfl, rfl, rfl⟩
  · exact ⟨rfl, rfl, rfl⟩

/-- The tile is issued transactions: its link is up and its rail good (R103). -/
def State.listens (t : Nat) : Bool := s.linkUp t && s.railGood t

theorem State.listens_issue (t : Nat) (x : Txn) (u : Nat) : (s.issue t x).listens u = s.listens u := by
  obtain ⟨regs, -, power⟩ := s.issue_regs_mem_power t x
  rw [State.listens, State.linkUp, State.flag, State.rd_of_regs regs, State.railGood_of_power power, State.listens,
    State.linkUp, State.flag]

theorem State.down_issue (t : Nat) (x : Txn) (u : Nat) : ((s.issue t x).tile u).down =
    (s.tile u).down ++ if u = t ∧ s.listens t = true then [x] else [] := by
  by_cases listens : s.listens t = true
  · have issued : s.issue t x = s.setTile t { s.tile t with down := (s.tile t).down ++ [x] } := if_pos listens
    rw [issued]
    by_cases same : u = t
    · rw [same, State.tile_setTile_same, if_pos ⟨rfl, listens⟩]
    · rw [State.tile_setTile_other s _ same, if_neg fun h => same h.1, List.append_nil]
  · have silent : s.issue t x = s := if_neg listens
    rw [silent, if_neg fun h => listens h.2, List.append_nil]

/-- A tile's transactions `l` are issued, in their order. -/
def State.issueAll (t : Nat) (l : List Txn) : State := l.foldl (fun s x => s.issue t x) s

theorem State.issueAll_aside (t : Nat) (l : List Txn) : (s.issueAll t l).regs = s.regs ∧ (s.issueAll t l).mem = s.mem ∧
    ∀ u, (s.issueAll t l).listens u = s.listens u := by
  refine List.foldlRecOn (motive := fun v : State => v.regs = s.regs ∧ v.mem = s.mem ∧ ∀ u, v.listens u = s.listens u)
    l _ ⟨rfl, rfl, fun _ => rfl⟩ fun v hv x _ => ?_
  obtain ⟨regs, mem, listens⟩ := hv
  obtain ⟨regs1, mem1, -⟩ := v.issue_regs_mem_power t x
  exact ⟨regs1.trans regs, mem1.trans mem, fun u => (v.listens_issue t x u).trans (listens u)⟩

theorem State.down_issueAll (t : Nat) (l : List Txn) (u : Nat) : ((s.issueAll t l).tile u).down =
    (s.tile u).down ++ if u = t ∧ s.listens t = true then l else [] := by
  induction l generalizing s with
  | nil => simp [State.issueAll]
  | cons x l ih =>
    rw [State.issueAll, List.foldl_cons, ← State.issueAll, ih, s.listens_issue, s.down_issue, List.append_assoc]
    split <;> rfl

theorem State.issueMerged_eq (k : Nat) (m : BitVec 4352 × BitVec 512 × BitVec 512) :
    s.issueMerged k m = (List.range 76).foldl (fun s t => s.issueAll t (shareOf k m t)) s := by
  have share : (fun (s : State) t => s.issueAll t (shareOf k m t)) = fun s t =>
      if isTrimTile t then
        (s.issue t (.select k (m.2.1.extractLsb' (64 * (t - 68)) 64))).issue t
          (.shutter (m.2.2.extractLsb' (64 * (t - 68)) 64))
      else s.issue t (.select k (m.1.extractLsb' (64 * t) 64)) := by
    funext s t
    rw [shareOf]
    split <;> rfl
  rw [share, State.issueMerged]

/-- `v` is `s` after the tiles below `n` that listen were sent their shares. -/
structure Issued (k : Nat) (m : BitVec 4352 × BitVec 512 × BitVec 512) (n : Nat) (v : State) : Prop where
  regs : v.regs = s.regs
  mem : v.mem = s.mem
  listens : ∀ u, v.listens u = s.listens u
  down : ∀ u, (v.tile u).down = (s.tile u).down ++ if u < n ∧ s.listens u = true then shareOf k m u else []

theorem State.issueMerged_issued (k : Nat) (m : BitVec 4352 × BitVec 512 × BitVec 512) (n : Nat) :
    Issued s k m n ((List.range n).foldl (fun s t => s.issueAll t (shareOf k m t)) s) := by
  induction n with
  | zero => exact ⟨rfl, rfl, fun _ => rfl, fun u => by simp⟩
  | succ n ih =>
    rw [List.range_succ, List.foldl_append, List.foldl_cons, List.foldl_nil]
    generalize (List.range n).foldl (fun s t => s.issueAll t (shareOf k m t)) s = v at ih ⊢
    obtain ⟨regs, mem, listens⟩ := v.issueAll_aside n (shareOf k m n)
    refine ⟨regs.trans ih.regs, mem.trans ih.mem, fun u => (listens u).trans (ih.listens u), fun u => ?_⟩
    rw [v.down_issueAll, ih.listens, ih.down, List.append_assoc]
    congr 1
    rcases Nat.lt_trichotomy u n with below | rfl | above
    · simp [below, below.ne, below.trans (Nat.lt_succ_self n)]
    · simp
    · simp [above.ne', above.not_gt, Nat.not_lt_of_le (Nat.succ_le_of_lt above)]

end

theorem issueMerged_sends (s : State) (k : Nat) (m : BitVec 4352 × BitVec 512 × BitVec 512) (x : Fin 76) :
    ((s.issueMerged k m).tile x).down = (s.tile x).down ++
      (if s.linkUp x && s.railGood x then
        if isTrimTile x then
          [.select k (m.2.1.extractLsb' (64 * (x - 68)) 64), .shutter (m.2.2.extractLsb' (64 * (x - 68)) 64)]
        else [.select k (m.1.extractLsb' (64 * x) 64)]
       else []) ∧
      (s.issueMerged k m).regs = s.regs ∧ (s.issueMerged k m).mem = s.mem := by
  obtain ⟨regs, mem, -, down⟩ := s.issueMerged_issued k m 76
  rw [s.issueMerged_eq k m]
  refine ⟨(down x).trans ?_, regs, mem⟩
  simp only [x.isLt, true_and]
  rfl

end Sys2Proof.Machine

namespace Sys2Proof.Machine

/-! ## A plane strobe fires (R64, R66, R110) -/

/-- Words that firing may write: STRB_FIRED, and what a trigger of Sillage reports. -/
abbrev FireWord (a : Nat) : Prop := a = F.STRB_FIRED.PLANE.addr ∨ CascadeWord a ∨ 0x1000000 ≤ a

/-- What follows a plane strobe's firing leaves of it. -/
structure Follows (s t : State) : Prop where
  strobes : t.strobes.plane = s.strobes.plane
  plane : t.plane = s.plane
  outbox : s.outbox <+: t.outbox
  fired : t.rd F.STRB_FIRED.PLANE = s.rd F.STRB_FIRED.PLANE
  writes : Writes FireWord s t

theorem Follows.refl (s : State) : Follows s s := ⟨rfl, rfl, List.prefix_refl _, rfl, .refl _ s⟩

theorem Follows.trans {s t u : State} (h : Follows s t) (k : Follows t u) : Follows s u :=
  ⟨k.strobes.trans h.strobes, k.plane.trans h.plane, h.outbox.trans k.outbox, k.fired.trans h.fired,
    h.writes.trans k.writes⟩

section
variable (s : State)

theorem State.silTrigger_plane : s.silTrigger.plane = s.plane := by
  have missed : s.missTrigger.plane = s.plane := ((s.bump_reports _).trans (State.raise_reports _ _)).plane
  unfold State.silTrigger
  split
  · rfl
  split
  · split
    · exact missed
    · rfl
  split
  · exact missed
  split
  · rfl
  · rfl

theorem State.silTrigger_follows : Follows s s.silTrigger := by
  obtain ⟨strobes, writes⟩ := s.silTrigger_aside
  exact ⟨congrArg (·.plane) strobes, s.silTrigger_plane, (Keeps.refl (fun _ => False) s).silTrigger.outbox,
    writes.rd (by decide), writes.mono fun _ => .inr⟩

theorem State.silTriggerFrom_follows (src : Nat) : Follows s (s.silTriggerFrom src) := by
  unfold State.silTriggerFrom
  split
  · exact s.silTrigger_follows
  · exact .refl s

theorem State.silGroup_follows (g : Nat) : Follows s (s.silGroup g) := by
  unfold State.silGroup
  split
  · exact s.silTriggerFrom_follows 2
  · exact .refl s

theorem State.noteGroup_plane (g : Nat) (at_ : Nat → Bool) : (s.noteGroup g at_).plane = s.plane := by
  refine List.foldlRecOn (motive := fun t : State => t.plane = s.plane) _ _ (s.setEvent_plane _) fun t ht e _ => ?_
  split
  · rw [State.setLoopMem_plane, ht]
  · exact ht

theorem State.noteGroup_follows {g : Nat} (group : g < 8) : Follows s (s.noteGroup g fun _ => true) := by
  obtain ⟨regs, strobes⟩ := s.noteGroup_aside g fun _ => true
  refine ⟨congrArg (·.plane) strobes, s.noteGroup_plane g _, (Keeps.refl (fun _ => False) s).noteGroup.outbox, ?_,
    ((Writes.refl _ s).setEvent (.inl rfl)).regs_eq regs⟩
  rw [State.rd_of_regs regs]
  exact s.rd_setEvent_disjoint (by show g + 1 ≤ 32; omega) (.inr (.inl (by show g + 1 ≤ 8; omega)))

theorem State.fireGroup_follows {g : Nat} (group : g < 8) : Follows s (s.fireGroup g) := by
  have noted := s.noteGroup_follows group
  have sent : Follows (s.noteGroup g fun _ => true)
      (((s.noteGroup g fun _ => true).setGroupInFlight g allTiles).emitOut (.strobe (g + 1))) :=
    ⟨rfl, rfl, List.prefix_append _ _, State.rd_of_regs rfl _, .refl _ _⟩
  exact (noted.trans sent).trans (State.silGroup_follows _ g)

theorem State.fireSlotGroups_follows (due : Int → Bool) : Follows s (s.fireSlotGroups due) := by
  refine List.foldlRecOn (motive := Follows s) _ _ (.refl s) fun t ht g hg => ?_
  split
  · exact ht.trans (t.fireGroup_follows (List.mem_range.mp hg))
  · exact ht

/-- The plane strobe has fired between `s` and `t`. -/
structure Fired (t : State) : Prop where
  strobes : t.strobes.plane = allTiles
  plane : t.plane = s.plane
  outbox : .strobe 0 ∈ t.outbox
  flag : t.flag F.STRB_FIRED.PLANE = true
  writes : Writes FireWord s t

theorem State.firePlane_fires (due : Int → Bool) : Fired s (s.firePlane due) := by
  have shown : (s.setEvent F.STRB_FIRED.PLANE).flag F.STRB_FIRED.PLANE = true :=
    s.flag_setEvent_same (by decide) rfl
  have wrote : Writes FireWord s (s.setEvent F.STRB_FIRED.PLANE) := (Writes.refl _ s).setEvent (.inl rfl)
  have plane := s.setEvent_plane F.STRB_FIRED.PLANE
  unfold State.firePlane
  generalize s.setEvent F.STRB_FIRED.PLANE = u at shown wrote plane ⊢
  generalize sent : ({ u with strobes := { s.strobes with plane := allTiles, cmd := false, firedAt := some s.clock }
    } : State).emitOut (.strobe 0) = v
  have regs : v.regs = u.regs := by rw [← sent]; rfl
  have follows := (v.silTriggerFrom_follows 1).trans (State.fireSlotGroups_follows _ due)
  refine ⟨follows.strobes.trans ?_, follows.plane.trans ?_, follows.outbox.subset ?_, ?_,
    (wrote.regs_eq regs).trans follows.writes⟩
  · rw [← sent]
    rfl
  · rw [← sent]
    exact plane
  · rw [← sent, State.outbox_emitOut]
    exact List.mem_append_right _ List.mem_cons_self
  · rw [State.flag, follows.fired, State.rd_of_regs regs]
    exact shown

end
end Sys2Proof.Machine

namespace Sys2Proof.Machine

/-! ## Cuts and what an update settles (R184–R187, R191, R243)

`Settles s t` says that `t` is `s` after work on operations, contexts, answers, records and alternates. It leaves the pending
updates, the switch taken, the last boundary and the words that show S alone. -/

/-- What of the plane decides the next boundary. -/
def Plane.timing (p : Plane) : List Update × Option Taken × Option (Nat × Nat) := (p.updates, p.taken, p.lastSlot)

/-- Words of the agents and of the Accord beyond those that show S, and where a count saturates. -/
abbrev SettleWord (a : Nat) : Prop :=
  SaturatedWord a ∨ (0x140000 ≤ a ∧ a < 0x180000) ∨ (0x260034 ≤ a ∧ a < 0x270000)

abbrev Settles (s t : State) : Prop := Acts SettleWord Plane.timing s t

namespace Acts
variable {s₀ s t : State}

/-! ### Single changes -/

theorem settleCtx {n x} (h : Settles s₀ s) : Settles s₀ (s.setCtx n x) := h.setCtx fun _ _ => rfl

theorem settleRecord {n a} (h : Settles s₀ s) : Settles s₀ (s.setRecord n a) := h.trans ⟨rfl, rfl, .refl _ s⟩

theorem settlePlane {p} (h : Settles s₀ s) (same : p.timing = s.plane.timing) : Settles s₀ (s.setPlane p) :=
  h.trans ⟨rfl, same, .refl _ s⟩

theorem settleEvent {f} (h : Settles s₀ s) (word : SettleWord f.addr) : Settles s₀ (s.setEvent f) :=
  h.reports (s.setEvent_reports f) ((Writes.refl _ s).setEvent word)

theorem settleRaise {src} (h : Settles s₀ s) (word : SettleWord src.block.real) : Settles s₀ (s.raise src) :=
  h.raise (fun _ cascade => .inl (.inl cascade)) word

theorem settleBump {w} (h : Settles s₀ s) (lo : SettleWord w.addr) (hi : SettleWord (w.addr + 4)) : Settles s₀ (s.bump w) :=
  h.bump (fun _ sat => .inl sat) lo hi

/-! ### Answers (R236, R243) -/

theorem queueAnswer {a from_} (h : Settles s₀ s) : Settles s₀ (s.queueAnswer a from_) := by
  unfold State.queueAnswer
  extract_lets s1 s2
  have h1 : Settles s₀ s1 := h.queueSys
  have h2 : Settles s₀ s2 := (h1.settleBump (by decide) (by decide)).settleRaise (by decide)
  exact .ite h1 (.ite (h2.settleRaise (by decide)) h2)

theorem keepAnswer {a} (h : Settles s₀ s) : Settles s₀ (s.keepAnswer a) := h.foldl fun h => h.settleCtx

theorem answerApplied {u a} (h : Settles s₀ s) : Settles s₀ (s.answerApplied u a) := by
  unfold State.answerApplied
  extract_lets a s1 s2
  have h1 : Settles s₀ s1 := h.queueAnswer.keepAnswer
  have h2 : Settles s₀ s2 := by
    unfold s2
    split
    · exact h1.settleBump (by decide) (by decide)
    · exact h1.settleBump (by decide) (by decide)
  split
  · exact .ite h2 h2.notice
  · exact h2

/-! ### Alternates (R191) -/

theorem setArmed {n b} (h : Settles s₀ s) : Settles s₀ (s.setArmed n b) := h.wr (by decide)

theorem setEligible {n b} (h : Settles s₀ s) : Settles s₀ (s.setEligible n b) := h.wr (by decide)

theorem setAlternate {n x} (h : Settles s₀ s) : Settles s₀ (s.setAlternate n x) := h.settlePlane rfl

theorem disarmAlternate {n} (h : Settles s₀ s) : Settles s₀ (s.disarmAlternate n) :=
  .ite h.setArmed.setEligible.setAlternate.tellStanding h

theorem rebuildOne {n} (h : Settles s₀ s) : Settles s₀ (s.rebuildOne n) := by
  unfold State.rebuildOne
  extract_lets gone _ old
  split
  · exact h
  · split
    · have stale : Settles s₀ (gone.setEvent { F.ALT_STALE.STALE with lsb := n, width := 1 }) :=
        h.disarmAlternate.settleEvent (show SettleWord F.ALT_STALE.STALE.addr by decide)
      exact stale.settleRaise (by decide)
    · extract_lets b s1 s2
      have h1 : Settles s₀ s1 := h.settleRecord
      have h2 : Settles s₀ s2 := .ite h1 h1.setEligible.setAlternate
      exact h2.tellStanding

theorem rebuildAlternates (h : Settles s₀ s) : Settles s₀ s.rebuildAlternates := h.foldl fun h => h.rebuildOne

/-! ### Undoing (R193) -/

theorem undoUpdate {cancel u} (h : Settles s₀ s) : Settles s₀ (s.undoUpdate cancel u) := by
  unfold State.undoUpdate
  extract_lets s1 s2 s3
  have h1 : Settles s₀ s1 := .ite (h.foldl fun h => h.noticeBoth) h
  have h2 : Settles s₀ s2 := h1.foldl fun h => h.settleCtx
  have h3 : Settles s₀ s3 := h2.foldl fun h => .ite h.settleCtx h
  exact h3.settlePlane rfl

theorem dropContext {frame slot e} (h : Settles s₀ s) : Settles s₀ (s.dropContext frame slot e) := by
  unfold State.dropContext
  extract_lets x twice s1
  have h1 : Settles s₀ s1 := .ite h h.noticeBoth
  exact (h1.settleCtx.settleBump (by decide) (by decide)).settleRaise (by decide)

/-! ### The cut (R184, R185) -/

theorem foldlFst {α β γ : Type} {P : Nat → Prop} {view : Plane → γ} {f : State × α → β → State × α}
    {l : List β} {x : State × α} (h : Acts P view s₀ x.1)
    (step : ∀ {x b}, Acts P view s₀ x.1 → Acts P view s₀ (f x b).1) :
    Acts P view s₀ (l.foldl f x).1 :=
  List.foldlRecOn (motive := fun x => Acts P view s₀ x.1) l f h fun _ hx _ _ => step hx

theorem cutRelease {here w withdraw o p} (h : Settles s₀ s) : Settles s₀ (s.cutRelease here w withdraw o p).1 := by
  unfold State.cutRelease
  extract_lets _ ack
  split
  · split
    · dsimp only
      exact h.queueAnswer.queueAnswer
    · dsimp only
      exact h.queueAnswer
  · exact h.foldl fun h => h.settleCtx

theorem cutSetup {here w seq o p} (h : Settles s₀ s) : Settles s₀ (s.cutSetup here w seq o p).1 := by
  unfold State.cutSetup
  extract_lets refuse pairs idx held w1
  have refused (cause : Nat) : Settles s₀ (refuse cause).1 := by
    dsimp only [refuse]
    exact h.queueAnswer
  have lit : Settles s₀ held := h.foldl fun h => h.settleCtx
  split
  · exact refused 7
  split
  · exact refused 5
  split
  · exact refused 6
  split
  · exact lit
  split
  · exact lit
  · exact refused 3

theorem cutWork {here base seq ops} (h : Settles s₀ s) : Settles s₀ (s.cutWork here base seq ops).1 := by
  unfold State.cutWork
  extract_lets w0 r
  have released : Settles s₀ r.1 := Acts.foldlFst h fun h => by
    split
    · exact h.cutRelease
    · exact h
  refine Acts.foldlFst released fun h => ?_
  split
  · exact h.cutSetup
  · exact h

theorem runCut {here ops} (h : Settles s₀ s) : Settles s₀ (s.runCut here ops) := by
  unfold State.runCut
  extract_lets base seq r w s1
  have h1 : Settles s₀ s1 := h.cutWork
  exact .ite h1 (h1.settlePlane rfl)

theorem takeCut {here} (h : Settles s₀ s) : Settles s₀ (s.takeCut here) := by
  unfold State.takeCut
  extract_lets due r _ s1
  have h1 : Settles s₀ s1 := h.settlePlane rfl
  exact .ite h ((Acts.ite h1 (h1.settleRaise (by decide))).runCut)

theorem dropDueOps {g} (h : Settles s₀ s) : Settles s₀ (s.dropDueOps g) := h.settlePlane rfl

end Acts
end Sys2Proof.Machine

namespace Sys2Proof.Machine

/-! ## S changes (R186, R193) -/

section
variable (s : State)

/-- STANDING_STATUS.ACTIVE and STANDING_SEQ show what was put into them. -/
theorem State.shows_standing {n seq : Nat} (index : n < 16) (number : seq < 2 ^ 32) :
    ((s.wr F.STANDING_STATUS.ACTIVE n).wr F.STANDING_SEQ.SEQ seq).activeIndex = n ∧
      ((s.wr F.STANDING_STATUS.ACTIVE n).wr F.STANDING_SEQ.SEQ seq).standSeq = seq :=
  ⟨(State.rd_wr_disjoint _ _ (by decide) (.inl (by decide))).trans (s.rd_wr_same _ (by decide) index),
    State.rd_wr_same _ _ (by decide) number⟩

/-- The words that show S. -/
abbrev ShownWord (a : Nat) : Prop := a = F.STANDING_STATUS.ACTIVE.addr ∨ a = F.STANDING_SEQ.SEQ.addr

theorem State.showPending_writes : Writes ShownWord s s.showPending := ((Writes.refl _ s).wr (.inl rfl)).wr (.inl rfl)

theorem State.showPending_plane : s.showPending.plane = s.plane := (State.wr_plane _ _ _).trans (s.wr_plane _ _)

theorem State.showPending_seq : s.showPending.standSeq = s.standSeq :=
  (State.rd_wr_disjoint _ _ (by decide) (.inl (by decide))).trans (s.rd_wr_disjoint _ (by decide) (.inl (by decide)))

/-! ### The oldest update becomes S -/

/-- Record `n` with contents `a` becomes S in place of the oldest pending update. -/
def State.enters (n : Nat) (a : Accord) : State :=
  (State.setPlane (((s.setRecord (standRecord n) a).wr F.STANDING_STATUS.ACTIVE n).wr F.STANDING_SEQ.SEQ a.seq)
    { (((s.setRecord (standRecord n) a).wr F.STANDING_STATUS.ACTIVE n).wr F.STANDING_SEQ.SEQ a.seq).plane with
      updates := (((s.setRecord (standRecord n) a).wr F.STANDING_STATUS.ACTIVE n).wr
        F.STANDING_SEQ.SEQ a.seq).plane.updates.drop 1 }).showPending

theorem State.enters_writes (n : Nat) (a : Accord) : Writes ShownWord s (s.enters n a) := by
  have shown : Writes ShownWord s (((s.setRecord (standRecord n) a).wr F.STANDING_STATUS.ACTIVE n).wr
      F.STANDING_SEQ.SEQ a.seq) :=
    Writes.wr (Writes.wr ((Writes.refl _ s).regs_eq rfl) (.inl rfl)) (.inr rfl)
  exact (shown.regs_eq (State.setPlane_regs _ _)).trans (State.showPending_writes _)

theorem State.enters_timing (n : Nat) (a : Accord) :
    (s.enters n a).plane.timing = (s.plane.updates.drop 1, s.plane.taken, s.plane.lastSlot) := by
  rw [State.enters, State.showPending_plane, State.wr_plane, State.wr_plane]
  rfl

theorem State.enters_standing {n : Nat} {a : Accord} (index : n < 16) (number : a.seq < 2 ^ 32) :
    (s.enters n a).activeIndex = n ∧ (s.enters n a).standSeq = a.seq := by
  obtain ⟨active, seq⟩ := (s.setRecord (standRecord n) a).shows_standing index number
  rw [State.enters, State.rd_showPending_active, State.showPending_seq]
  exact ⟨(State.rd_of_regs (State.setPlane_regs _ _) _).trans active,
    (State.rd_of_regs (State.setPlane_regs _ _) _).trans seq⟩

/-- The record of an update once it is S (R186). -/
def Update.inForce (u : Update) : Accord := { u.accord with frame := u.frame, applySlot := u.slot }.seal

theorem State.applyUpdate_settles (u : Update) : Settles (s.enters u.record u.inForce) (s.applyUpdate u) := by
  unfold State.applyUpdate
  extract_lets _ a s1 _ s2 s3 s4 s5 s6
  have h3 : Settles s2 s3 := (Acts.refl _ _ s2).settleBump (by decide) (by decide)
  have h4 : Settles s2 s4 := h3.foldl fun h => h.answerApplied
  have h5 : Settles s2 s5 := h4.foldl fun h => .ite h.settleCtx h
  have h6 : Settles s2 s6 := h5.foldl fun h => .ite h.settleCtx h
  exact h6.rebuildAlternates

/-- What applying an update may write. -/
abbrev ApplyWord (a : Nat) : Prop := ShownWord a ∨ SettleWord a

theorem State.applyUpdate_writes (u : Update) : Writes ApplyWord s (s.applyUpdate u) :=
  ((s.enters_writes _ _).mono fun _ => .inl).trans ((s.applyUpdate_settles u).writes.mono fun _ => .inr)

/-! ### An alternate becomes S -/

/-- Record `n` becomes S, as alternate and as switch no more. -/
def State.switchesTo (n seq : Nat) (p : Plane) : State :=
  (((s.wr F.STANDING_STATUS.ACTIVE n).wr F.STANDING_SEQ.SEQ seq).setPlane p).setFlag F.STANDING_STATUS.SWITCH_BUSY false

theorem State.switchesTo_active {n : Nat} (seq : Nat) (p : Plane) (index : n < 16) :
    (s.switchesTo n seq p).activeIndex = n := by
  rw [State.switchesTo, State.activeIndex, State.rd_setFlag_disjoint _ _ (by decide) (.inr (.inr (by decide))),
    State.rd_of_regs (State.setPlane_regs _ _), State.rd_wr_disjoint _ _ (by decide) (.inl (by decide))]
  exact s.rd_wr_same _ (by decide) index

theorem State.switchesTo_plane (n seq : Nat) (p : Plane) : (s.switchesTo n seq p).plane = p := State.setFlag_plane _ _ _

theorem State.applySwitch_settles (n : Nat) : ∃ v seq p t, p.taken = none ∧ Settles (State.switchesTo v n seq p) t ∧
    s.applySwitch n = t.raise Src.ACCORD.STANDING_SWITCHED := by
  unfold State.applySwitch
  extract_lets seq s1 _ a s2 _ s3 pairs gone s4
  have h4 : Settles s3 s4 := (Acts.refl _ _ s3).foldl fun h => h.dropContext
  exact ⟨(s1.setRecord (standRecord n) a).dropAlternate n, seq, { s2.plane with taken := none }, _, rfl,
    (h4.settleBump (w := F.SWITCHES) (by decide) (by decide)).rebuildAlternates, rfl⟩

end
end Sys2Proof.Machine

namespace Sys2Proof.Machine

/-! ## Slot boundaries (R169, R186, R193, R229) -/

/-- What a slot boundary does beside its strobe: STRB_FIRED and the boundary taken stay as they are. -/
abbrev Serves (s t : State) : Prop := Acts (· ≠ F.STRB_FIRED.PLANE.addr) Plane.lastSlot s t

namespace Acts
variable {s₀ s t : State}

theorem ofSettles (h : Serves s₀ s) (k : Settles s t) : Serves s₀ t := by
  refine h.trans ⟨k.same, congrArg (·.2.2) k.view, k.writes.mono fun a word => ?_⟩
  simp only [SettleWord, SaturatedWord, CascadeWord, F.STRB_FIRED.PLANE] at word ⊢
  omega

theorem ofSends (h : Serves s₀ s) (k : Sends s t) : Serves s₀ t := h.sends k fun a word => by
  simp only [MessageWord, SaturatedWord, CascadeWord, F.STRB_FIRED.PLANE] at word ⊢
  omega

theorem serveRecord {n a} (h : Serves s₀ s) : Serves s₀ (s.setRecord n a) := h.trans ⟨rfl, rfl, .refl _ s⟩

theorem servePlane {p} (h : Serves s₀ s) (same : p.lastSlot = s.plane.lastSlot) : Serves s₀ (s.setPlane p) :=
  h.trans ⟨rfl, same, .refl _ s⟩

theorem showPending (h : Serves s₀ s) : Serves s₀ s.showPending := (h.wr (by decide)).wr (by decide)

theorem enters {n a} (h : Serves s₀ s) : Serves s₀ (s.enters n a) := by
  refine Acts.showPending (Acts.servePlane ?_ ?_)
  · exact (h.serveRecord.wr (by decide)).wr (by decide)
  · rfl

theorem applyUpdate {u} (h : Serves s₀ s) : Serves s₀ (s.applyUpdate u) := h.enters.ofSettles (s.applyUpdate_settles u)

theorem applyDue {g} (h : Serves s₀ s) : Serves s₀ (s.applyDue g) := h.foldl fun h => .ite h.applyUpdate h

theorem commitTo {u n g old earlier} (h : Serves s₀ s) : Serves s₀ (s.commitTo u n g old earlier) := by
  have beside := s.commitTo_beside u n g old earlier
  have committed : Serves s₀ (s.committed (u.recordAt n) n
      (earlier ++ [u.committed (u.recordAt n) n (g / s.slots) (g % s.slots) old])) := by
    refine Acts.showPending (Acts.servePlane h.serveRecord ?_)
    rfl
  refine committed.trans ⟨beside.same, (congrArg Plane.lastSlot beside.view :), beside.writes.mono fun a word => ?_⟩
  simp only [CommitWord, MessageWord, SaturatedWord, CascadeWord, F.STRB_FIRED.PLANE, F.REARRANGEMENTS] at word ⊢
  omega

theorem commitStanding (h : Serves s₀ s) : Serves s₀ s.commitStanding := by
  unfold State.commitStanding
  extract_lets last lastAt
  split
  · exact h
  · extract_lets g replaces earlier s1
    have h1 : Serves s₀ s1 := h.servePlane rfl
    split
    · exact h1.commitTo
    · have undone : Serves s₀ (s.plane.cuts.reverse.foldl (fun s u => s.undoUpdate false u)
          (s.setPlane { s.plane with cuts := [] })) := by
        refine Acts.foldl (Acts.servePlane h ?_) fun h => h.ofSettles (Acts.refl _ _ _).undoUpdate
        rfl
      exact undone.ofSettles ((Acts.refl _ _ _).settleRaise (by decide))

theorem catchSlots {fuel g} (h : Serves s₀ s) : Serves s₀ (State.catchSlots fuel s g) := by
  induction fuel generalizing s with
  | zero => exact h
  | succ fuel ih =>
    unfold State.catchSlots
    split
    · split
      · extract_lets _ s1 s2
        have h1 : Serves s₀ s1 := h.queued
        have h2 : Serves s₀ s2 := (h1.applyDue.ofSends (Acts.refl _ _ _).issuePoint).ofSettles (Acts.refl _ _ _).takeCut
        exact ih (h2.foldl fun h => h.commitStanding)
      · exact h
    · exact h

theorem joinSlots {g} (h : Serves s₀ s) : Serves s₀ (s.joinSlots g) := by
  unfold State.joinSlots
  split
  · exact .ite h h.catchSlots
  · exact h

end Acts

/-! ### After the strobe -/

section
variable (s : State) (g : Nat)

/-- What a slot boundary does once its strobe has fired. -/
def State.slotEnds : State :=
  if s.twin = 3 then s.joinSlots g
  else if (s.issuePoint (some g)).composes then (s.issuePoint (some g)).takeCut g
  else if (s.issuePoint (some g)).twin = 1 then (s.issuePoint (some g)).dropDueOps g
  else s.issuePoint (some g)

theorem State.slotEnds_outbox : s.outbox <+: (s.slotEnds g).outbox := by
  have issued : Keeps (fun _ => False) s (s.issuePoint (some g)) := (Keeps.refl _ s).issuePoint
  have kept : Keeps (fun _ => False) s (s.slotEnds g) :=
    .ite (Keeps.refl _ s).joinSlots (.ite issued.takeCut (.ite issued.dropDueOps issued))
  exact kept.outbox

/-- Words of issue points and of cuts. -/
abbrev RestWord (a : Nat) : Prop := MessageWord a ∨ SettleWord a

theorem State.slotEnds_settles {s : State} (alone : s.twin ≠ 3) : Acts RestWord Plane.timing s (s.slotEnds g) := by
  have issued : Acts RestWord Plane.timing s (s.issuePoint (some g)) :=
    ((Acts.refl _ _ s).issuePoint.seen _).mono fun _ => .inl
  have cut : Acts RestWord Plane.timing s ((s.issuePoint (some g)).takeCut g) :=
    issued.trans ((Acts.refl _ _ _).takeCut.mono fun _ => .inr)
  have dropped : Acts RestWord Plane.timing s ((s.issuePoint (some g)).dropDueOps g) :=
    issued.trans ((Acts.refl _ _ _).dropDueOps.mono fun _ => .inr)
  rw [State.slotEnds, if_neg alone]
  exact .ite cut (.ite dropped issued)

theorem State.slotEnds_serves : Serves s (s.slotEnds g) := by
  have issued : Serves s (s.issuePoint (some g)) := (Acts.refl _ _ s).ofSends (Acts.refl _ _ s).issuePoint
  exact .ite (Acts.refl _ _ s).joinSlots (.ite (issued.ofSettles (Acts.refl _ _ _).takeCut)
    (.ite (issued.ofSettles (Acts.refl _ _ _).dropDueOps) issued))

end

/-! ### The boundary -/

section
variable {s : State}

/-- The boundary in progress is taken. -/
def State.begun (s : State) : State := s.setPlane { s.plane with lastSlot := some (s.frame, s.slot) }

theorem State.slotBoundary_begins (strobing : s.strobing = true) (fresh : s.plane.lastSlot ≠ some (s.frame, s.slot))
    (untaken : s.plane.taken = none) : s.slotBoundary =
      ((if s.begun.twin = 3 then s.begun else s.begun.applyDue s.slotNow).slotStrobe
        (s.plane.updates.any fun u => decide (s.slotNumber u.frame u.slot ≤ s.slotNow))).slotEnds s.slotNow := by
  have barred : ¬((!s.strobing || s.plane.lastSlot == some (s.frame, s.slot)) = true) := by
    rw [strobing, beq_false_of_ne fresh]
    decide
  have untaken0 : s.begun.plane.taken = none := untaken
  unfold State.slotBoundary
  extract_lets here g _ s0 switch due s1 s2 s3
  have unswitched : switch = none := congrArg (Option.filter _) untaken0
  have standing : s1 = if s.begun.twin = 3 then s.begun else s.begun.applyDue s.slotNow := by
    unfold s1
    rw [unswitched]
    rfl
  have strobed : s2 = s1.slotStrobe due := by
    unfold s2
    rw [unswitched]
    rfl
  rw [if_neg barred, ← standing]
  show s2.slotEnds s.slotNow = _
  rw [strobed]
  rfl

end
end Sys2Proof.Machine

namespace Sys2Proof.Machine

/-! ## Boundaries and protection strobes -/

section
variable {s : State}

/-- The first slot boundary of a frame comes with nothing of the frame's own: no checkpoint to send, no change of MODE. -/
abbrev Plain (s : State) : Prop := s.slot ≠ 0 ∨ (s.hier.serve = none ∧ s.lv.lookup F.FOLLOW_CFG.MODE.addr = none)

theorem State.dueCheckpoint_idle (idle : s.hier.serve = none) : s.dueCheckpoint = s := by
  simp [State.dueCheckpoint, idle]

theorem State.dueMode_idle (unheld : s.lv.lookup F.FOLLOW_CFG.MODE.addr = none) (f : Nat) : s.dueMode f = s := by
  have same : s.applyLv F.FOLLOW_CFG.MODE.addr = s := by rw [State.applyLv, unheld]
  unfold State.dueMode
  rw [same]
  simp

theorem State.slotInstant_plain (plain : Plain s) : s.slotInstant = s.slotBoundary := by
  unfold State.slotInstant
  rcases plain with later | ⟨idle, unheld⟩
  · exact if_neg fun first => later first.1
  · rw [State.dueCheckpoint_idle idle, State.dueMode_idle unheld, ite_self]

theorem State.begun_updates : s.begun.plane.updates = s.plane.updates := rfl

theorem slotBoundary_up {t : State} (up : s.power.mainUp = true) (plain : Plain s) (boundary : s.slotBoundary = t) :
    exec .slotBoundary s = .next t :=
  congrArg Host.Outcome.next ((s.onMain_up _ up).trans ((State.slotInstant_plain plain).trans boundary))

theorem State.slotStrobe_slots (u : State) (mode : u.planeMode ≠ 0) (resumed : u.time.resumeFrame = none) (applied : Bool) :
    u.slotStrobe applied = u.firePlane fun _ => true := by
  simp [State.slotStrobe, mode, resumed]

theorem State.slotStrobe_applied (u : State) (mode : u.planeMode = 0) : u.slotStrobe true = u.firePlane fun _ => true := by
  simp [State.slotStrobe, mode]

end

theorem slotBoundary_strobes (s : State) (up : s.power.mainUp = true) (strobing : s.strobing = true)
    (fresh : s.plane.lastSlot ≠ some (s.frame, s.slot)) (untaken : s.plane.taken = none) (settled : s.plane.updates = [])
    (resumed : s.time.resumeFrame = none) (mode : s.planeMode ≠ 0) (plain : Plain s) :
    ∃ t, exec .slotBoundary s = .next t ∧ t.plane.lastSlot = some (s.frame, s.slot) ∧ .strobe 0 ∈ t.outbox ∧
      t.flag F.STRB_FIRED.PLANE = true ∧ t.strobes.plane = allTiles := by
  have none_ : s.begun.applyDue s.slotNow = s.begun := by
    rw [State.applyDue, State.begun_updates, settled]
    rfl
  have mode0 : s.begun.planeMode ≠ 0 := mode
  have boundary := State.slotBoundary_begins strobing fresh untaken
  rw [none_, ite_self, State.slotStrobe_slots _ mode0 resumed] at boundary
  have fired := s.begun.firePlane_fires fun _ => true
  generalize s.begun.firePlane (fun _ => true) = u at boundary fired
  have ends := u.slotEnds_serves s.slotNow
  exact ⟨_, slotBoundary_up up plain boundary, ends.view.trans (congrArg Plane.lastSlot fired.plane),
    (u.slotEnds_outbox _).subset fired.outbox, (ends.flag fun apart => apart rfl).trans fired.flag,
    (congrArg (·.plane) ends.strobes).trans fired.strobes⟩

theorem slotBoundary_applies (s : State) (u : Update) (up : s.power.mainUp = true) (strobing : s.strobing = true)
    (fresh : s.plane.lastSlot ≠ some (s.frame, s.slot)) (untaken : s.plane.taken = none) (pending : s.plane.updates = [u])
    (due : s.slotNumber u.frame u.slot ≤ s.slotNow) (mode : s.planeMode = 0) (alone : s.twin ≠ 3) (index : u.record < 16)
    (number : u.accord.seq < 2 ^ 32) (plain : Plain s) :
    ∃ t, exec .slotBoundary s = .next t ∧ t.activeIndex = u.record ∧ t.standSeq = u.accord.seq ∧
      t.plane.updates = [] ∧ t.strobes.plane = allTiles ∧ .strobe 0 ∈ t.outbox := by
  have applied : s.begun.applyDue s.slotNow = s.begun.applyUpdate u := by
    rw [State.applyDue, State.begun_updates, pending]
    exact if_pos due
  have alone0 : s.begun.twin ≠ 3 := alone
  have any : (s.plane.updates.any fun u => decide (s.slotNumber u.frame u.slot ≤ s.slotNow)) = true := by
    rw [pending, List.any_cons, decide_eq_true due]
    rfl
  have wrote := s.begun.applyUpdate_writes u
  have mode0 : (s.begun.applyUpdate u).planeMode = 0 := (wrote.rd (by decide)).trans mode
  have boundary := State.slotBoundary_begins strobing fresh untaken
  rw [if_neg alone0, applied, any, State.slotStrobe_applied _ mode0] at boundary
  have settles := s.begun.applyUpdate_settles u
  obtain ⟨active, seq⟩ := s.begun.enters_standing (a := u.inForce) index number
  have timing := s.begun.enters_timing u.record u.inForce
  generalize s.begun.applyUpdate u = v at boundary wrote settles mode0
  have fired := v.firePlane_fires fun _ => true
  generalize v.firePlane (fun _ => true) = w at boundary fired
  have alone1 : w.twin ≠ 3 := by
    rw [State.twin, fired.writes.rd (by decide), wrote.rd (by decide)]
    exact alone
  have ends := State.slotEnds_settles s.slotNow alone1
  have left : (w.slotEnds s.slotNow).plane.timing = ([], s.begun.plane.taken, s.begun.plane.lastSlot) := by
    rw [ends.view, fired.plane, settles.view, timing, State.begun_updates, pending]
    rfl
  refine ⟨_, slotBoundary_up up plain boundary, ?_, ?_, congrArg Prod.fst left,
    (congrArg (·.plane) ends.strobes).trans fired.strobes, (w.slotEnds_outbox _).subset fired.outbox⟩
  · exact (ends.rd (by decide)).trans ((fired.writes.rd (by decide)).trans ((settles.rd (by decide)).trans active))
  · exact (ends.rd (by decide)).trans ((fired.writes.rd (by decide)).trans ((settles.rd (by decide)).trans seq))

theorem slotBoundary_ignored (s : State) (up : s.power.mainUp = true)
    (ignored : s.plane.lastSlot = some (s.frame, s.slot) ∨ s.strobing = false) (plain : Plain s) :
    exec .slotBoundary s = .next s := by
  refine slotBoundary_up up plain (if_pos ?_)
  rcases ignored with taken | still
  · rw [taken, beq_self_eq_true, Bool.or_true]
  · rw [still]
    rfl

theorem protectionStrobe_fires (s : State) (x : Taken) (up : s.power.mainUp = true) (vin : s.power.vin = true)
    (taken : s.plane.taken = some x) (inserted : x.inserted = true) (due : x.at_ ≤ s.now + 3) (index : x.index < 16)
    (epoch : s.preEpoch = false) :
    ∃ t, exec .protectionStrobe s = .next t ∧ t.activeIndex = x.index ∧ t.plane.taken = none ∧
      t.strobes.plane = allTiles ∧ .strobe 0 ∈ t.outbox ∧ t.flag Src.ACCORD.STANDING_SWITCHED.real = true := by
  have switches : s.protectionStrobe = (s.applySwitch x.index).firePlane fun _ => true := by
    rw [State.protectionStrobe, taken]
    exact if_pos (by rw [inserted, epoch, decide_eq_true due]; rfl)
  have power := ((Keeps.refl (fun _ => False) s).applySwitch (n := x.index)).same .power |>.resolve_left id
  obtain ⟨v, seq, p, t, untaken, settles, switched⟩ := s.applySwitch_settles x.index
  rw [switched] at switches power
  have reported := t.raise_reports Src.ACCORD.STANDING_SWITCHED
  have wrote := t.raise_writes Src.ACCORD.STANDING_SWITCHED
  have before : t.power = s.power := reported.power.symm.trans power
  have shown : (t.raise Src.ACCORD.STANDING_SWITCHED).flag Src.ACCORD.STANDING_SWITCHED.real = true :=
    t.flag_raise_same _ (by decide) (by decide)
      (t.srcPowered_of_up _ ((congrArg Power.vin before).trans vin) ((congrArg Power.mainUp before).trans up))
  have fired := (t.raise Src.ACCORD.STANDING_SWITCHED).firePlane_fires fun _ => true
  refine ⟨_, congrArg Host.Outcome.next ((s.onMain_up _ up).trans switches), ?_, ?_, fired.strobes, fired.outbox,
    (fired.writes.flag (by decide)).trans shown⟩
  · exact (fired.writes.rd (by decide)).trans ((wrote.rd (by decide)).trans ((settles.rd (by decide)).trans
      (v.switchesTo_active seq p index)))
  · have timing : t.plane.timing = p.timing := settles.view.trans (congrArg Plane.timing (v.switchesTo_plane _ _ _))
    rw [fired.plane, reported.plane]
    exact (congrArg (·.2.1) timing).trans untaken

theorem protectionStrobe_ignored (s : State) (up : s.power.mainUp = true)
    (idle : s.preEpoch = true ∨ ∀ x, s.plane.taken = some x → x.inserted = false ∨ s.now + 3 < x.at_) :
    exec .protectionStrobe s = .next s := by
  refine congrArg Host.Outcome.next ((s.onMain_up _ up).trans ?_)
  unfold State.protectionStrobe
  split
  next x taken =>
    refine if_neg fun fires => ?_
    simp only [Bool.and_eq_true, Bool.not_eq_true', decide_eq_true_eq] at fires
    obtain ⟨⟨inserted, epoch⟩, due⟩ := fires
    rcases idle with early | waits
    · exact Bool.noConfusion (early.symm.trans epoch)
    · rcases waits x taken with scheduled | later
      · exact Bool.noConfusion (scheduled.symm.trans inserted)
      · omega
  next => rfl

/-- Settles O40: the loader loads the strobe within its reach; a boundary and an inserted strobe fire once. -/
theorem loaderAndBoundariesStrobe : Obligations.LoaderAndBoundariesStrobe := by
  unfold Obligations.LoaderAndBoundariesStrobe
  exact ⟨⟨loaderIssue_scheduled, loaderIssue_switched, loaderIssue_inserted, loaderIssue_idle, issueMerged_sends⟩,
    slotBoundary_strobes, slotBoundary_applies, slotBoundary_ignored, protectionStrobe_fires, protectionStrobe_ignored⟩

end Sys2Proof.Machine
